-- ==== Sys2Proof/Word.lean ====
section
/-! DEFINITION. Word: the byte and word types, byte strings, and the type of the sparse maps that hold registers, tables
and memory (a list of key and value pairs). -/
namespace Sys2Proof

/-- One byte. -/
abbrev Byte := BitVec 8

/-- A byte string: frames, cells, artifacts, host buffers. -/
abbrev Bytes := List (BitVec 8)

/-- A register dword (R24). -/
abbrev Word := BitVec 32

/-- A sparse map: (key, value) pairs, keys strictly rising, no pair holding the value an unlisted key reads as. -/
abbrev SMap (β : Type) := List (Nat × β)

end Sys2Proof
end

