-- ==== Sys2Proof/Syntax.lean ====
section
/-! DEFINITION. Syntax: the commands of the block, one constructor per row of spec/opcode_table.json, with the row's
operands, and the types of those operands. -/
namespace Sys2Proof

/-- The masters of R37 and R435: the host, the four cores, the table DMA engine, the other DMA engines, a fabric peer. -/
inductive Master where
  | host | core0 | core1 | core2 | core3 | tdm | dma | peer
  deriving DecidableEq, Repr

/-- What a device-issued read of host memory returned: the bytes, or a failure or timeout (R355). -/
inductive HostRead where
  | ok (b : Bytes)
  | failed
  deriving DecidableEq, Repr

/-- A HELLO link control cell (R283). -/
structure Hello where
  fmt : Nat
  idValid : Bool
  oneGroup : Bool
  heard : Bool
  devId : Nat
  link : Nat
  ifv : Nat
  ifvMin : Nat
  serial : Nat
  sent : List Nat
  deriving DecidableEq, Repr

/-- A TIME link control cell (R283, R294); times are 96-bit values of R5, none where the cell holds 0. -/
structure TimeWord where
  epoch : Nat
  hops : Nat
  rootState : Nat
  rootId : Nat
  txTime : Nat
  peerRx : Nat
  deriving DecidableEq, Repr

/-- A CAIRN link control cell (R283); the mask is one 128-bit number. -/
structure CairnCell where
  origin : Nat
  seq : Nat
  target : Nat
  mask : Nat
  deriving DecidableEq, Repr

/-- A pair digest (R92). -/
structure Digest where
  version : Nat
  flags : Nat
  epoch : Nat
  txTime : Nat
  peerRx : Nat
  genDigest : Nat
  decDigest : Nat
  decCount : Nat
  deriving DecidableEq, Repr

/-- What a memory read found (R334, R438). -/
inductive MemFinding where
  | clean
  | onDie
  | corrected (bit : Nat)
  | uncorrectable
  deriving DecidableEq, Repr

/-- The memories whose entries may fail a check when a packet reads them (R130, R137, R149, R159, R189, R229, R250). -/
inductive MemArr where
  | state | frag | node | action | tmpl | lpmNode | lpmHbm | lpmResult | exm0 | exm1 | exmHbm | stash | bd | nextHop
  | ecmp | member | adj | shaper | policer | buffer
  | route | tree
  deriving DecidableEq, Repr

/-- An entry whose parity (or HBM ECC) check fails when it is read: the memory, for `node` and `action` the rule set, and
the index (for `exm0` and `exm1`: 4 · bucket + slot; for `exmHbm`, the HBM read of a bucket, `sub` is the table; for
`buffer`, the buffer that holds a packet). -/
structure BadCell where
  arr : MemArr
  sub : Nat
  idx : Nat
  deriving DecidableEq, Repr

/-- A management transaction carried by a fabric control cell (R358). -/
structure MtCell where
  subtype : Nat
  src : Nat
  tag : Nat
  window : Nat
  linkDirected : Bool
  len : Nat
  offset : Nat
  reason : Nat
  data : Bytes
  deriving DecidableEq, Repr

/-- A REQUEST fabric control cell (R300). -/
structure ReqCell where
  src : Nat
  cls : Nat
  backlog : Nat
  gSeen : Nat
  charged : Nat
  returned : Nat
  seqAt : Nat
  deriving DecidableEq, Repr

/-- The commands: one constructor per row of the opcode table, in the table's order. Register rows name the master;
event rows carry what the event brings from outside. -/
inductive Instr where
  | registerWrite (m : Master) (page off size : Nat) (v : Word)
  | lowDwordRead (m : Master) (page off : Nat)
  | highDwordWrite (m : Master) (page off : Nat) (v : Word)
  | trbWrite (m : Master) (page k : Nat) (v : Word)
  | blkEnWrite (m : Master) (page : Nat) (en : Bool)
  | blkSrst (m : Master) (page : Nat)
  | faultWindowEnd (page n : Nat)
  | fwinCfgWrite (m : Master) (page n : Nat) (v : Word)
  | fwinStatRead (m : Master) (page n : Nat)
  | timeTick
  | katComplete (passA passB passC : Bool)
  | spnSelftest (m : Master)
  | spnRestart (m : Master) (chans : BitVec 3)
  | channelRejoin (ch : Nat)
  | pitchBoundary
  | epochBoundary
  | timCmdAcquire (m : Master) (ref : BitVec 2)
  | timCmdLock (m : Master)
  | timCmdHold (m : Master)
  | timCmdResume (m : Master)
  | timCmdFree (m : Master)
  | timFreqWrite (m : Master) (v : Word)
  | timPhaseAdj (m : Master) (d : Word)
  | holdTimeout
  | traverseHoldTimeout
  | smbusTempRead (t : Option (BitVec 16))
  | ppsInEdge
  | ppsOutPulse
  | todRxByte (b : Byte)
  | todRxRead (m : Master)
  | todTxWrite (m : Master) (b : Byte)
  | ptpTsqRead (m : Master) (k : Nat)
  | timeWordReceived (link : Nat) (w : TimeWord) (rxTime : Nat)
  | servoConverged
  | timeCellSend
  | pairClaim (m : Master)
  | pairRelease (m : Master)
  | belayInQualified
  | belayContention
  | digestSend
  | digestReceived (d : Digest) (rxTime : Nat)
  | digestMissing
  | pairSelfcheckDone (pass : Bool)
  | frameReceived (port : Nat) (b : Bytes) (whole : Bool)
  | macControlFrame (port : Nat) (b : Bytes)
  | pauseTimerExpire (port cls : Nat)
  | fcRefresh (port : Nat)
  | linkStateChange (port : Nat) (aligned fecLock localFault remoteFault : Bool)
  | seatedAsserted
  | seatedQualified
  | seatedDeasserted
  | parseStart (port : Nat) (bad : List BadCell)
  | secondPassStart (pipe : Nat) (bad : List BadCell)
  | frameTailArrived (pkt : Nat) (rest : Bytes)
  | fragEntryExpire (bucket slot : Nat)
  | fragFlush (m : Master)
  | admission (bad : List BadCell)
  | mcrRecordApply (f : MemFinding)
  | freeCacheRefill (pool : Nat) (f : MemFinding)
  | freeCacheSpill (pool : Nat)
  | bpmApply (m : Master)
  | freeStoreRebuildDone
  | portTxReady (port : Nat) (bad : List BadCell)
  | ropeWake (port : Nat)
  | residenceScan
  | calendarPrefetch (port : Nat) (onTime : Bool) (bad : List Nat)
  | gateEntryChange (port : Nat) (f : MemFinding)
  | cyclicListStart (port : Nat)
  | timetableTakeover (port : Nat)
  | timetableEntry (port : Nat) (f : MemFinding)
  | timetableFetch (port : Nat)
  | gateTtCancel (m : Master) (port : Nat)
  | latencySample
  | latencyWrite
  | latWdataAccess (m : Master) (w : Option Word)
  | cairnPost (m : Master) (slot : Nat)
  | cairnCancel (m : Master) (slot seq : Nat)
  | cairnCommit
  | bankRetire (page : Nat)
  | cairnRepeat (seq : Nat)
  | cairnCellReceived (link : Nat) (c : CairnCell)
  | linkEnable (m : Master) (link : Nat) (en : Bool)
  | linkRestart (m : Master) (link : Nat)
  | linkAligned (link : Nat)
  | linkTrainTimeout (link : Nat)
  | linkAlignLoss (link : Nat)
  | helloSend (link : Nat)
  | helloReceived (link : Nat) (h : Hello)
  | helloTimeout (link : Nat)
  | fabIdWrite (m : Master) (v : Word)
  | cellReceived (link : Nat) (b : Bytes) (bad : List BadCell)
  | cellRelay (link : Nat)
  | reorderTimeout (src cls : Nat)
  | creditSend (link : Nat)
  | creditReceived (link : Nat) (freed : List Nat)
  | voqDequeue (voq : Nat) (bad : List BadCell)
  | fmcQueueSend (cls : Nat) (bad : List BadCell)
  | requestRetry (voq : Nat)
  | creditReturn (voq : Nat)
  | requestReceived (r : ReqCell)
  | grantEngine
  | grantReceived (src cls g : Nat)
  | d2dTrain (ok : Bool) (spares : Word)
  | d2dReplay
  | d2dChannelFail (ch : Nat)
  | hbmInit (m : Master) (stack : Nat)
  | hbmInitDone (stack : Nat) (failPc : Option Nat)
  | hbmDlyDataAccess (m : Master) (stack : Nat) (w : Option Word)
  | hbmTempRead (stack : Nat) (t : Option (BitVec 16))
  | refreshWindowOpen
  | refreshWindowClose (stack : Nat)
  | hbmCommandIssue (stack q : Nat)
  | hbmReadComplete (req : Nat) (f : MemFinding)
  | hbmWriteRetire (req : Nat) (rmwUncorrectable : Bool)
  | requestOverdue (req : Nat)
  | scrubRead (stack word : Nat) (f : MemFinding)
  | drqLatMaxRead (m : Master)
  | tdmDescriptorTakeup (r : HostRead)
  | tdmLoad (r : HostRead)
  | tdmWrite (r : HostRead)
  | tdmRead (writeOk : Bool)
  | tdmInsert (r : HostRead) (bad : List BadCell)
  | tdmRemove (r : HostRead) (bad : List BadCell)
  | tdmStageFw (r : HostRead)
  | tdmBadOp
  | tdmDescriptorReadRetry (r : HostRead)
  | tdmProfileApply (m : Master)
  | learnRequest (bad : List BadCell)
  | lrnPostGo (m : Master)
  | lrnPostRemove (m : Master)
  | learnAgeSweep
  | shadowCompare (lpm exm : List HostRead) (bad : List BadCell)
  | shadowConfirm (r : HostRead) (f : MemFinding)
  | bar2WindowAccess (addr len : Nat) (w : Option Bytes)
  | mtRequestReceived (link : Nat) (c : MtCell)
  | mtResponseReceived (link : Nat) (c : MtCell)
  | mtTimeout (tag : Nat)
  | winSwap (m : Master) (req : Byte)
  | winSwapComplete (n : Nat)
  | winSwapHoldTimeout (n : Nat)
  | userCounterRead (off len : Nat)
  | puntWrite (ring : Nat) (entry : HostRead)
  | injectFetch (ring : Nat) (entry frame : HostRead)
  | mirrorWrite
  | containmentEnter (cause : Nat)
  | hifContain (m : Master)
  | hifRelease (m : Master)
  | puntHoldExpire
  | hostLinkUp (gen width : Nat)
  | completionReceived (tag : Nat) (last err : Bool)
  | completionTimeout (tag : Nat)
  | tagQuarantineEnd (tag : Nat)
  | icuClaim (core : Nat)
  | icuDone (core src : Nat)
  | icuDoorbell (m : Master) (bits : Byte)
  | holdoffExpire (g : Nat)
  | gpioFiltered (n : Nat) (level : Bool)
  | coreReset (m : Master) (core : Nat)
  | coreHalt (m : Master) (core : Nat) (halt : Bool)
  | coreLoadDone (core : Nat) (ok : Bool)
  | watchdogKick (m : Master) (core : Nat)
  | watchdogExpire (core : Nat)
  | agentAccessFault (addr : Nat) (write : Bool)
  | bootStart
  | candidateAccepted
  | flashCopy (verifyOk : Bool)
  | bootTraverse (m : Master)
  | bootLive (m : Master)
  | headlessTimeout
  | bootUnstage (m : Master)
  | secAttest (m : Master)
  | attestDone (dmaOk : Bool)
  | secCommit (m : Master)
  | commitDone (ok : Bool)
  | secFuseRead (m : Master)
  | gotoStandby (m : Master)
  | gotoReady (m : Master)
  | gotoService (m : Master)
  | gotoDrain (m : Master)
  | domainSwitchOn (ready : Bool)
  | domainReadyTimeout
  | domainSwitchOff
  | governorTick (riseF riseT : Nat)
  | thermalRead (t : List (Option (BitVec 16)))
  | pgInFall (n : Nat)
  | wake (src : Nat)
  | aonWakeTimer
  | coldReset (straps : Byte) (seat present : Bool)
  | hostPerst (us : Nat)
  | softWarm (m : Master)
  | warmClearDone
  | flr
  | pmuClearAll (m : Master)
  | pmuValueWrite (m : Master) (hi : Bool) (v : Word)
  | prbsErrRead (m : Master) (page lane : Nat)
  | hdmErrRead (m : Master) (ring : Nat)
  | pairPresentChange (high : Bool)
  | sdrefOkChange (k : Nat) (ok : Bool)
  | pgInChange (levels : Byte)
  | hostPerstDeassert
  | hrxIdleExit
  | busMasterEnableChange (on : Bool)
  | coreFatalTrap (core : Nat)
  | profileApplyDone
  | flrClearDone
  | blockResetDone (page : Nat)
  | endOfCold
  | tapClock (tms tdi : Bool)
  | pairLinkFrame (b : Bytes)
  deriving DecidableEq, Repr

end Sys2Proof
end

