-- ==== Sys2Proof/Decode.lean ====
section
/-! DEFINITION. Decode: the command that a word spells. No row of spec/opcode_table.json gives bits (the commands reach
the block over its buses and pins, never as words), so no word spells a command. -/
namespace Sys2Proof

/-- The command that a word of `nbits` bits spells by the opcode table's bits: the table gives none to any row. -/
def decodeTableWord (_nbits _w : Nat) : Option Instr := none

end Sys2Proof
end

