-- ==== Sys2Proof/Config.lean ====
section
/-! DEFINITION. Config: what the spec leaves free, each an OPAQUE constant (nothing in Lean can evaluate it), and the
cryptographic functions that the spec takes from outside standards, uninterpreted. Log entries 4 and 5. -/
namespace Sys2Proof.Config

/-- Values drawn from the device's random source (R135, R174): draw number n. -/
opaque freeSeed32 : Nat → BitVec 32

/-- The 128-bit SipHash key S1 of R174: draw number n. -/
opaque freeSeed128 : Nat → BitVec 128

/-- Whether a HOST_PERST_L pulse between 1 and 100 microseconds resets (R456 leaves it open). -/
opaque freePulse : Nat → Bool

/-- A value the spec states no rule for, at free-value number n. -/
opaque freeValue : Nat → BitVec 64

/-- A byte of local HBM where the spec gives the device's own data a place and no layout, at free-value number n and an
address (R205, R213, R218, R240, R272). -/
opaque freeHbm : Nat → Nat → BitVec 8

/-- SHA-384 (FIPS 180-4), named by R383 to R401. -/
opaque sha384 : Bytes → BitVec 384

/-- SipHash-2-4 of a byte string under a 128-bit key (R174). -/
opaque sipHash24 : BitVec 128 → Bytes → BitVec 64

/-- Ed25519 verification (RFC 8032): public key, signature, message (R385). -/
opaque ed25519Verify : Bytes → Bytes → Bytes → Bool

/-- ML-DSA-65 verification (FIPS 204, empty context): public key, signature, message (R385). -/
opaque mlDsa65Verify : Bytes → Bytes → Bytes → Bool

/-- Ed25519 signature by the device identity key (R399, R400). -/
opaque ed25519Sign : Bytes → Bytes

/-- ML-DSA-65 signature by the device identity key (R399, R400). -/
opaque mlDsa65Sign : Bytes → Bytes

/-- The Ed25519 identity public key, 32 bytes (R399, R400). -/
opaque ed25519Identity : Bytes

/-- The ML-DSA-65 identity public key, 1,952 bytes (R399, R400). -/
opaque mlDsa65Identity : Bytes

/-- The fuse dwords of the unit (R404), by index 0 to 255, as the factory left them. -/
opaque fuse : Nat → BitVec 32

end Sys2Proof.Config
end

