-- ==== Sys2Proof/Machine/Operands.lean ====
section
/-! DEFINITION. Operands: bit fields, two's complement, byte order, and the cyclic redundancy checks the spec names.
Each use says which byte order its rule gives. -/
namespace Sys2Proof.Machine

/-- Bits [hi:lo] of a number (R5). -/
def bits (n hi lo : Nat) : Nat := n / 2 ^ lo % 2 ^ (hi - lo + 1)

/-- Bit k of a number as 0 or 1. -/
def bitN (n k : Nat) : Nat := n / 2 ^ k % 2

/-- A number with bit k set to a truth value. -/
def setBit (n k : Nat) (b : Bool) : Nat := n - bitN n k * 2 ^ k + (if b then 2 ^ k else 0)

/-- A number with bits [hi:lo] replaced. -/
def setBits (n hi lo v : Nat) : Nat :=
  n - bits n hi lo * 2 ^ lo + (v % 2 ^ (hi - lo + 1)) * 2 ^ lo

/-- The numbers below w whose bits are set. -/
def bitsSet (n w : Nat) : List Nat := (List.range w).filter (fun k => bitN n k == 1)

/-- 1 for true, 0 for false. -/
def b01 (b : Bool) : Nat := if b then 1 else 0

/-- Two's complement: the signed value of a w-bit number. -/
def toSigned (w n : Nat) : Int :=
  let m := n % 2 ^ w
  if 2 * m < 2 ^ w then (m : Int) else (m : Int) - (2 ^ w : Nat)

/-- Two's complement: the w-bit number of a signed value. -/
def ofSigned (w : Nat) (i : Int) : Nat := (i % ((2 ^ w : Nat) : Int)).toNat

/-- The number whose low byte stands first. -/
def le (b : Bytes) : Nat :=
  match b with
  | [] => 0
  | x :: t => x.toNat + 256 * le t

/-- The number whose high byte stands first. -/
def be (b : Bytes) : Nat := b.foldl (fun a x => a * 256 + x.toNat) 0

/-- n bytes of a number, low byte first. -/
def toLe (n v : Nat) : Bytes :=
  match n with
  | 0 => []
  | k + 1 => BitVec.ofNat 8 v :: toLe k (v / 256)

/-- n bytes of a number, high byte first. -/
def toBe (n v : Nat) : Bytes := (toLe n v).reverse

/-- Bytes [off, off + n) of a string. -/
def sl (b : Bytes) (off n : Nat) : Bytes := (b.drop off).take n

/-- Little-endian field of a string. -/
def leAt (b : Bytes) (off n : Nat) : Nat := le (sl b off n)

/-- Big-endian field of a string. -/
def beAt (b : Bytes) (off n : Nat) : Nat := be (sl b off n)

/-- A string with the bytes at an offset replaced; what would fall past its end is cut. -/
def putAt (b : Bytes) (off : Nat) (v : Bytes) : Bytes :=
  if b.length ≤ off then b
  else b.take off ++ v.take (b.length - off) ++ b.drop (off + v.length)

/-- n bytes of zero. -/
def zeros (n : Nat) : Bytes := List.replicate n 0

/-- A string cut or padded with zeros to n bytes. -/
def padTo (n : Nat) (b : Bytes) : Bytes := b.take n ++ zeros (n - b.length)

/-- A string split into entries of n bytes, `fuel` of them at most. -/
def chunks (n fuel : Nat) (b : Bytes) : List Bytes :=
  match fuel with
  | 0 => []
  | k + 1 => if b.isEmpty then [] else b.take n :: chunks n k (b.drop n)

/-- The whole entries of n bytes of a string. -/
def entriesOf (n : Nat) (b : Bytes) : List Bytes := chunks n (b.length / n) b

/-- One bit of a reflected CRC register of 32 bits. -/
def crc32Bit (poly c : Nat) : Nat := if c % 2 = 1 then (c / 2) ^^^ poly else c / 2

/-- One byte into a reflected CRC register of 32 bits. -/
def crc32Byte (poly c : Nat) (x : Byte) : Nat :=
  let c := c ^^^ x.toNat
  crc32Bit poly (crc32Bit poly (crc32Bit poly (crc32Bit poly
    (crc32Bit poly (crc32Bit poly (crc32Bit poly (crc32Bit poly c)))))))

/-- CRC-32C seeded with S (R467). -/
def crc32cSeeded (seed : Nat) (b : Bytes) : Nat :=
  (b.foldl (crc32Byte 0x82F63B78) ((seed % 2 ^ 32) ^^^ 0xFFFFFFFF)) ^^^ 0xFFFFFFFF

/-- CRC-32C (R467). -/
def crc32c (b : Bytes) : Nat := crc32cSeeded 0 b

/-- The Ethernet frame check sequence (IEEE 802.3), as the number whose low byte is sent first. -/
def fcs (b : Bytes) : Nat := (b.foldl (crc32Byte 0xEDB88320) 0xFFFFFFFF) ^^^ 0xFFFFFFFF

/-- One bit of a CRC register of 64 bits, high bit first, ECMA-182 polynomial. -/
def crc64Bit (c : Nat) : Nat :=
  if c / 2 ^ 63 % 2 = 1 then ((c * 2) % 2 ^ 64) ^^^ 0x42F0E1EBA9EA3693 else (c * 2) % 2 ^ 64

/-- One byte into the CRC-64 register. -/
def crc64Byte (c : Nat) (x : Byte) : Nat :=
  let c := c ^^^ (x.toNat * 2 ^ 56)
  crc64Bit (crc64Bit (crc64Bit (crc64Bit (crc64Bit (crc64Bit (crc64Bit (crc64Bit c)))))))

/-- CRC-64 of R92: ECMA-182 polynomial, initial value 0, not reflected. -/
def crc64 (init : Nat) (b : Bytes) : Nat := b.foldl crc64Byte init

/-- The largest power of two not above n, for n up to 2^32; 0 for 0. -/
def pow2Floor (n : Nat) : Nat :=
  match ((List.range 33).filter (fun k => 2 ^ k ≤ n)).getLast? with
  | some k => 2 ^ k
  | none => 0

/-- Integer rounding of a signed quotient toward zero. -/
def tdiv (a b : Int) : Int := Int.tdiv a b

/-- Integer rounding of a signed quotient away from zero, for what is still left of a quantity. -/
def awayDiv (a b : Int) : Int := if a < 0 then -((-a + b - 1) / b) else (a + b - 1) / b

/-- Replace the element at an index; a list shorter than that is unchanged. -/
def setIdx {α : Type} (l : List α) (i : Nat) (v : α) : List α := l.set i v

/-- Remove every occurrence of a number. -/
def without (l : List Nat) (n : Nat) : List Nat := l.filter (fun x => x != n)

/-- Add a number to a list of numbers kept without repeats. -/
def withNat (l : List Nat) (n : Nat) : List Nat := if l.contains n then l else l ++ [n]

end Sys2Proof.Machine
end

