-- ==== Sys2Proof/Machine/SMap.lean ====
section
/-! DEFINITION. SMap: the operations on sparse maps. A map is a list of (key, value) pairs with rising keys; a map with
a default lists no pair that holds the default, so that equal maps are equal data. -/
namespace Sys2Proof

variable {β : Type}

/-- The value listed at a key. -/
def SMap.lookup (l : SMap β) (k : Nat) : Option β :=
  match l with
  | [] => none
  | (j, v) :: t => if j = k then some v else SMap.lookup t k

/-- The value at a key, or the default where none is listed. -/
def SMap.get (l : SMap β) (d : β) (k : Nat) : β := (l.lookup k).getD d

/-- List a value at a key, in key order. -/
def SMap.insert (l : SMap β) (k : Nat) (v : β) : SMap β :=
  match l with
  | [] => [(k, v)]
  | (j, w) :: t => if k < j then (k, v) :: (j, w) :: t else if k = j then (k, v) :: t else (j, w) :: SMap.insert t k v

/-- Remove a key. -/
def SMap.erase (l : SMap β) (k : Nat) : SMap β :=
  match l with
  | [] => []
  | (j, w) :: t => if j = k then SMap.erase t k else (j, w) :: SMap.erase t k

/-- Write a value against a default: writing the default removes the entry. -/
def SMap.set [DecidableEq β] (l : SMap β) (d : β) (k : Nat) (v : β) : SMap β :=
  if v = d then l.erase k else l.insert k v

/-- Keys strictly rising from `lo` on. -/
def SMap.risingFrom (lo : Nat) (l : SMap β) : Bool :=
  match l with
  | [] => true
  | (k, _) :: t => decide (lo ≤ k) && SMap.risingFrom (k + 1) t

/-- The canonical form of a map whose unlisted keys read as `d`. -/
def SMap.wf [DecidableEq β] (d : β) (l : SMap β) : Bool :=
  SMap.risingFrom 0 l && l.all (fun p => decide (p.2 ≠ d))

/-- The listed keys. -/
def SMap.keys (l : SMap β) : List Nat := l.map Prod.fst

end Sys2Proof
end

