-- ==== Sys2Proof/Machine/RegMap.lean ====
section
/-! DEFINITION. The register map: every register field of the field tables of spec/02 to spec/22, with its page,
offset, instance stride and count, bit range, access code (R26), retention letter (R27, R425) and reset value.
One constant per field, named as the manual names it (REGISTER_FIELD); a list of them per block, and the
list of a page (the common header of R29 first). -/
namespace Sys2Proof.Machine

/-- Access codes of R26. -/
inductive Acc where
  | ro | rw | rws | w1c | rc | wo
  deriving DecidableEq, Repr

/-- Retention classes of R425. -/
inductive Ret where
  | a | w | s | v
  deriving DecidableEq, Repr

/-- Reset columns: a constant, a multiple of the instance number, one value per instance, a value for instance 0
only, or a value taken from the page, the fuses or the straps (R30, R404, R447). -/
inductive Rst where
  | const (n : Nat)
  | mul (n : Nat)
  | list (l : List Nat)
  | first (n : Nat)
  | page | fuse | strap
  deriving DecidableEq, Repr

/-- One register field. `pg` is the page of the block's instance 0; instance i of the field stands at byte offset
`off + stride * i` of the page, bits `hi` to `lo` (a field of more than 32 bits goes on in the next dwords, R37). -/
structure Fld where
  pg : Nat
  off : Nat
  stride : Nat
  count : Nat
  hi : Nat
  lo : Nat
  acc : Acc
  ret : Ret
  rst : Rst
  deriving DecidableEq, Repr

/-- The width of a field in bits. -/
def Fld.width (f : Fld) : Nat := f.hi - f.lo + 1

/-- The reset value of instance `i`; a page, fuse or strap value is computed where it is read. -/
def Fld.resetAt (f : Fld) (i : Nat) : Nat :=
  match f.rst with
  | .const n => n
  | .mul n => n * i
  | .list l => l.getD i 0
  | .first n => if i = 0 then n else 0
  | .page => 0
  | .fuse => 0
  | .strap => 0

namespace Reg

/-- HDR RO: Block type. Equal to the page number of the block's instance 0 (NETPG3 reads 0x0040; TIMC reads 0x0010). -/
def PG_ID_TYPE : Fld := ⟨0x0, 0x0, 0, 1, 31, 16, .ro, .w, .page⟩
/-- HDR RO: Instance within the block type (NETPG3 reads 3; TIMC reads 2). -/
def PG_ID_INST : Fld := ⟨0x0, 0x0, 0, 1, 15, 8, .ro, .w, .page⟩
/-- HDR RO: Page version. Every page reads 0x01 at stepping B0. -/
def PG_ID_VER : Fld := ⟨0x0, 0x0, 0, 1, 7, 0, .ro, .w, (.const 1)⟩
/-- HDR RO: Number of trouble counters that the page defines, 3 to 16. Undefined counters read 0. -/
def PG_CAP_TRB_USED : Fld := ⟨0x0, 0x4, 0, 1, 4, 0, .ro, .w, .page⟩
/-- HDR RO: 1: the page has RWS fields. -/
def PG_CAP_HAS_STAGED : Fld := ⟨0x0, 0x4, 0, 1, 8, 8, .ro, .w, .page⟩
/-- HDR RO: 1: the page governs a double-banked structure. When 0, PG_GEN and PG_DRAIN read 0. -/
def PG_CAP_HAS_BANKS : Fld := ⟨0x0, 0x4, 0, 1, 9, 9, .ro, .w, .page⟩
/-- HDR RO: Power domain ID, 0 to 32, that holds the page's block, as R468 assigns. -/
def PG_CAP_DOMAIN : Fld := ⟨0x0, 0x4, 0, 1, 15, 10, .ro, .w, .page⟩
/-- HDR RO: Commit group, 0 to 127, to which the page belongs. -/
def PG_CAP_COMMIT_GROUP : Fld := ⟨0x0, 0x4, 0, 1, 22, 16, .ro, .w, .page⟩
/-- HDR RW: 1: the block runs. 0: the block is idle as **R34** states. Its registers stay accessible and its trouble ... -/
def PG_CTRL_BLK_EN : Fld := ⟨0x0, 0x8, 0, 1, 0, 0, .rw, .w, (.const 1)⟩
/-- HDR WO: Writing 1 starts a BLOCK reset of this page. The reset completes within 10 µs. -/
def PG_CTRL_BLK_SRST : Fld := ⟨0x0, 0x8, 0, 1, 1, 1, .wo, .v, (.const 0)⟩
/-- HDR RW: 1: reads of RWS fields in this page return staged copies. Writes are unaffected. -/
def PG_CTRL_BANK_VIEW : Fld := ⟨0x0, 0x8, 0, 1, 4, 4, .rw, .v, (.const 0)⟩
/-- HDR RO: 1: the block is powered, out of reset and enabled. -/
def PG_STAT_READY : Fld := ⟨0x0, 0xC, 0, 1, 0, 0, .ro, .v, (.const 0)⟩
/-- HDR W1C: Set when a fault window of the page declares a lasting fault. Stays set until cleared. Sets again on the ... -/
def PG_STAT_FAULT_LASTING : Fld := ⟨0x0, 0xC, 0, 1, 1, 1, .w1c, .w, (.const 0)⟩
/-- HDR RO: 1 while any trouble counter of the page reads 0xFFFF. -/
def PG_STAT_TRB_SAT : Fld := ⟨0x0, 0xC, 0, 1, 2, 2, .ro, .v, (.const 0)⟩
/-- HDR RO: 1 while a cairn whose mask includes the page's commit group is armed. The field shows the armed list of ... -/
def PG_STAT_CAIRN_PENDING : Fld := ⟨0x0, 0xC, 0, 1, 3, 3, .ro, .s, (.const 0)⟩
/-- HDR W1C: Set when the device rejects a late cairn whose mask includes this page's group. -/
def PG_STAT_CAIRN_LATE : Fld := ⟨0x0, 0xC, 0, 1, 4, 4, .w1c, .s, (.const 0)⟩
/-- HDR W1C: Set when the device refuses such a cairn with CAIRN_BUSY. -/
def PG_STAT_CAIRN_BUSY : Fld := ⟨0x0, 0xC, 0, 1, 5, 5, .w1c, .s, (.const 0)⟩
/-- HDR RO: 1 until every retiring bank of the page is retired under R74: PG_DRAIN has reached 0 and the structure's ... -/
def PG_STAT_GEN_DRAINING : Fld := ⟨0x0, 0xC, 0, 1, 6, 6, .ro, .v, (.const 0)⟩
/-- HDR RO: Target epoch [31:0] of the armed cairn that covers this page. 0 when none is armed. Shown from the CRN ... -/
def PG_CAIRN_LO_TARGET_LO : Fld := ⟨0x0, 0x10, 0, 1, 31, 0, .ro, .s, (.const 0)⟩
/-- HDR RO: Target epoch [47:32]. Shown from the CRN armed list, as CAIRN_PENDING is. -/
def PG_CAIRN_HI_TARGET_HI : Fld := ⟨0x0, 0x14, 0, 1, 15, 0, .ro, .s, (.const 0)⟩
/-- HDR RO: 1 while that cairn is armed. Shown from the CRN armed list, as CAIRN_PENDING is. -/
def PG_CAIRN_HI_ARMED : Fld := ⟨0x0, 0x14, 0, 1, 31, 31, .ro, .s, (.const 0)⟩
/-- HDR RO: Generation of the active bank. 0: no artifact has been committed. -/
def PG_GEN_ACTIVE : Fld := ⟨0x0, 0x18, 0, 1, 15, 0, .ro, .s, (.const 0)⟩
/-- HDR RO: Generation that the next commit of the page would carry. It reads that generation while any structure of ... -/
def PG_GEN_STAGED : Fld := ⟨0x0, 0x18, 0, 1, 31, 16, .ro, .s, (.const 0)⟩
/-- HDR RO: Packets in flight that still use the retiring generation. -/
def PG_DRAIN_COUNT : Fld := ⟨0x0, 0x1C, 0, 1, 23, 0, .ro, .v, (.const 0)⟩
/-- HDR RW: Trouble counters 2k and 2k+1. They saturate at 0xFFFF. Writes follow **R31**. -/
def TRB_k_CNT_LO : Fld := ⟨0x0, 0x20, 4, 8, 15, 0, .rw, .w, (.const 0)⟩
/-- HDR RW: Trouble counters 2k and 2k+1. They saturate at 0xFFFF. Writes follow **R31**. -/
def TRB_k_CNT_HI : Fld := ⟨0x0, 0x20, 4, 8, 31, 16, .rw, .w, (.const 0)⟩
/-- HDR RW: Trouble counter, 0 to 15, whose increments this window counts. -/
def FWIN_n_CFG_EVENT : Fld := ⟨0x0, 0x40, 8, 4, 3, 0, .rw, .w, (.const 0)⟩
/-- HDR RW: Window length in epochs, 1 to 65,535. 0 disables the window. -/
def FWIN_n_CFG_LEN : Fld := ⟨0x0, 0x40, 8, 4, 23, 8, .rw, .w, (.const 0)⟩
/-- HDR RW: Count within one window that declares a lasting fault. 0: never declares; every occurrence adds to the ... -/
def FWIN_n_CFG_THRESH : Fld := ⟨0x0, 0x40, 8, 4, 31, 24, .rw, .w, (.const 0)⟩
/-- HDR RC: Occurrences in windows that ended without reaching THRESH. Saturates at 0xFFFF. -/
def FWIN_n_STAT_TRANSIENT : Fld := ⟨0x0, 0x44, 8, 4, 15, 0, .rc, .w, (.const 0)⟩
/-- HDR RO: Count in the current window. Saturates at 255. -/
def FWIN_n_STAT_CUR : Fld := ⟨0x0, 0x44, 8, 4, 23, 16, .ro, .v, (.const 0)⟩
/-- HDR W1C: 1: this window has declared a lasting fault. -/
def FWIN_n_STAT_DECLARED : Fld := ⟨0x0, 0x44, 8, 4, 31, 31, .w1c, .w, (.const 0)⟩
/-- HDR W1C: Block-specific events. A bit sets whether or not it is masked. -/
def EVT_STAT_EVT : Fld := ⟨0x0, 0x60, 0, 1, 31, 0, .w1c, .s, (.const 0)⟩
/-- HDR RW: 1: the event does not request the page's ICU source. -/
def EVT_MASK_MASK : Fld := ⟨0x0, 0x64, 0, 1, 31, 0, .rw, .s, (.const 4294967295)⟩
/-- HDR RO: ICU source, 0 to 127, that this page feeds. -/
def EVT_SRC_SRC : Fld := ⟨0x0, 0x68, 0, 1, 6, 0, .ro, .w, .page⟩
/-- TIM RO: 0 FREE, 1 ACQUIRING, 2 LOCKED, 3 HOLDOVER, 4 TRAVERSE_HOLD; 5–7 never read -/
def TIM_STATE_STATE : Fld := ⟨0x10, 0x100, 0, 1, 2, 0, .ro, .w, (.const 0)⟩
/-- TIM RO: Reference in use under R50; 0 none -/
def TIM_STATE_REF : Fld := ⟨0x10, 0x100, 0, 1, 5, 4, .ro, .w, (.const 0)⟩
/-- TIM RO: 1: LOCKED reached since the last COLD reset or STANDBY -/
def TIM_STATE_VALID : Fld := ⟨0x10, 0x100, 0, 1, 8, 8, .ro, .w, (.const 0)⟩
/-- TIM RO: 1 while TIM_PHASE_REM ≠ 0 -/
def TIM_STATE_SLEWING : Fld := ⟨0x10, 0x100, 0, 1, 9, 9, .ro, .v, (.const 0)⟩
/-- TIM RO: 1: a non-zero step is staged and an armed cairn covers the page -/
def TIM_STATE_STEP_ARMED : Fld := ⟨0x10, 0x100, 0, 1, 10, 10, .ro, .s, (.const 0)⟩
/-- TIM WO: 1 ACQUIRE, 2 LOCK, 3 HOLD, 4 RESUME, 5 FREE; 0, 6 and 7 do nothing -/
def TIM_CMD_CMD : Fld := ⟨0x10, 0x104, 0, 1, 2, 0, .wo, .v, (.const 0)⟩
/-- TIM WO: Reference for ACQUIRE -/
def TIM_CMD_REF : Fld := ⟨0x10, 0x104, 0, 1, 5, 4, .wo, .v, (.const 0)⟩
/-- TIM RO: Device time bits [32k+31:32k]. Reading TIM_NOW_0 latches _1 and _2 for the reading master, as R37 does. -/
def TIM_NOW_k_TIME : Fld := ⟨0x10, 0x108, 4, 3, 31, 0, .ro, .w, (.const 0)⟩
/-- TIM RO: Epoch number [31:0] -/
def TIM_EPOCH_LO_EPOCH : Fld := ⟨0x10, 0x114, 0, 1, 31, 0, .ro, .w, (.const 0)⟩
/-- TIM RO: Epoch number [47:32]; latched by reading TIM_EPOCH_LO -/
def TIM_EPOCH_HI_EPOCH : Fld := ⟨0x10, 0x118, 0, 1, 15, 0, .ro, .w, (.const 0)⟩
/-- TIM RO: Pitch 0–249, latched with EPOCH -/
def TIM_EPOCH_HI_PITCH : Fld := ⟨0x10, 0x118, 0, 1, 31, 24, .ro, .w, (.const 0)⟩
/-- TIM RO: Effective adjustment, signed, 2⁻¹² ppb -/
def TIM_FREQ_EFF_ADJ : Fld := ⟨0x10, 0x11C, 0, 1, 31, 0, .ro, .v, (.const 0)⟩
/-- TIM RW: Servo frequency, signed, 2⁻¹² ppb (R53) -/
def TIM_FREQ_ADJ : Fld := ⟨0x10, 0x120, 0, 1, 31, 0, .rw, .w, (.const 0)⟩
/-- TIM WO: Signed phase correction in ns (R54) -/
def TIM_PHASE_ADJ_NS : Fld := ⟨0x10, 0x124, 0, 1, 31, 0, .wo, .v, (.const 0)⟩
/-- TIM RO: Signed phase still to slew, in ns -/
def TIM_PHASE_REM_NS : Fld := ⟨0x10, 0x128, 0, 1, 31, 0, .ro, .v, (.const 0)⟩
/-- TIM RWS: Slew in ppb, 1 to 2,000; values above 2,000 act as 2,000; 0: no slewing -/
def TIM_SLEW_SLEW_LIMIT : Fld := ⟨0x10, 0x12C, 0, 1, 11, 0, .rws, .w, (.const 200)⟩
/-- TIM RWS: Largest forward phase correction that may be slewed; 0: none -/
def TIM_STEP_THRESH_NS : Fld := ⟨0x10, 0x130, 0, 1, 31, 0, .rws, .w, (.const 1000)⟩
/-- TIM RWS: Forward step [31:0] and [63:32] in ns; cleared after application (R55) -/
def TIM_STEP_LO_NS : Fld := ⟨0x10, 0x134, 0, 1, 31, 0, .rws, .w, (.const 0)⟩
/-- TIM RWS: Forward step [31:0] and [63:32] in ns; cleared after application (R55) -/
def TIM_STEP_HI_NS : Fld := ⟨0x10, 0x138, 0, 1, 31, 0, .rws, .w, (.const 0)⟩
/-- TIM RWS: 0 none, 1 mean of on-package sensors, 2 sensor SENSOR, 3 SMBus at SMB_ADDR -/
def TIM_HOLD_CFG_TEMP_SRC : Fld := ⟨0x10, 0x13C, 0, 1, 1, 0, .rws, .w, (.const 1)⟩
/-- TIM RWS: On-package sensor 0–23; 24–31 act as TEMP_SRC = 0 -/
def TIM_HOLD_CFG_SENSOR : Fld := ⟨0x10, 0x13C, 0, 1, 6, 2, .rws, .w, (.const 0)⟩
/-- TIM RWS: 7-bit SMBus address -/
def TIM_HOLD_CFG_SMB_ADDR : Fld := ⟨0x10, 0x13C, 0, 1, 14, 8, .rws, .w, (.const 0)⟩
/-- TIM RWS: HOLD_TBL entries in use, 0–64; values above 64 act as 64; 0: no model -/
def TIM_HOLD_CFG_ENTRIES : Fld := ⟨0x10, 0x13C, 0, 1, 22, 16, .rws, .w, (.const 0)⟩
/-- TIM RWS: Signed, 2⁻²⁰ ppb per day -/
def TIM_AGING_SLOPE : Fld := ⟨0x10, 0x140, 0, 1, 31, 0, .rws, .w, (.const 0)⟩
/-- TIM RWS: Epochs without a servo update before holdover; 0: never automatically -/
def TIM_HOLD_TIMEOUT_EPOCHS : Fld := ⟨0x10, 0x144, 0, 1, 23, 0, .rws, .w, (.const 16000)⟩
/-- TIM RO: Temperature in use, signed, 1/128 °C -/
def TIM_HOLD_TEMP_TEMP : Fld := ⟨0x10, 0x148, 0, 1, 15, 0, .ro, .v, (.const 0)⟩
/-- TIM RO: 1: SMBus reads failing (R58) -/
def TIM_HOLD_TEMP_STALE : Fld := ⟨0x10, 0x148, 0, 1, 31, 31, .ro, .v, (.const 0)⟩
/-- TIM RO: Epoch of the last entry to HOLDOVER -/
def TIM_HOLD_START_LO_EPOCH : Fld := ⟨0x10, 0x150, 0, 1, 31, 0, .ro, .w, (.const 0)⟩
/-- TIM RO: Epoch of the last entry to HOLDOVER -/
def TIM_HOLD_START_HI_EPOCH : Fld := ⟨0x10, 0x154, 0, 1, 15, 0, .ro, .w, (.const 0)⟩
/-- TIM RO: Time of the last TIME_1PPS_IN rising edge; latched as for TIM_NOW -/
def TIM_PPS_CAP_k_TIME : Fld := ⟨0x10, 0x158, 4, 3, 31, 0, .ro, .v, (.const 0)⟩
/-- TIM RW: 1: drive TIME_1PPS_OUT (subject to belay, "Time Spine Redundancy and Device Pairs") -/
def TIM_PPS_OUT_EN : Fld := ⟨0x10, 0x164, 0, 1, 0, 0, .rw, .w, (.const 0)⟩
/-- TIM RW: Pulse width in µs; 0: no pulse -/
def TIM_PPS_OUT_WIDTH : Fld := ⟨0x10, 0x164, 0, 1, 23, 8, .rw, .w, (.const 100)⟩
/-- TIM RW: Signed edge offset from each second boundary, −1,000,000 to +1,000,000 ns; values outside act as the ... -/
def TIM_PPS_OFS_NS : Fld := ⟨0x10, 0x168, 0, 1, 31, 0, .rw, .w, (.const 0)⟩
/-- TIM RW: 0 off; 1–8 give 9,600, 19,200, 38,400, 57,600, 115,200, 230,400, 460,800, 921,600 baud; 9–15 act as 0. ... -/
def TIM_TOD_BAUD_IN : Fld := ⟨0x10, 0x16C, 0, 1, 3, 0, .rw, .w, (.const 0)⟩
/-- TIM RW: 0 off; 1–8 give 9,600, 19,200, 38,400, 57,600, 115,200, 230,400, 460,800, 921,600 baud; 9–15 act as 0. ... -/
def TIM_TOD_BAUD_OUT : Fld := ⟨0x10, 0x16C, 0, 1, 7, 4, .rw, .w, (.const 0)⟩
/-- TIM RC: Next received byte of a 256-byte FIFO; the read removes it -/
def TIM_TOD_RX_DATA : Fld := ⟨0x10, 0x170, 0, 1, 7, 0, .rc, .v, (.const 0)⟩
/-- TIM RC: 1: DATA holds a byte -/
def TIM_TOD_RX_VALID : Fld := ⟨0x10, 0x170, 0, 1, 31, 31, .rc, .v, (.const 0)⟩
/-- TIM WO: Byte to send; ignored while 256 bytes are waiting -/
def TIM_TOD_TX_DATA : Fld := ⟨0x10, 0x174, 0, 1, 7, 0, .wo, .v, (.const 0)⟩
/-- TIM RWS: 1: take part in fabric time -/
def TIM_FAB_CFG_FAB_EN : Fld := ⟨0x10, 0x178, 0, 1, 0, 0, .rws, .w, (.const 0)⟩
/-- TIM RWS: 1: this device is the time root -/
def TIM_FAB_CFG_ROOT : Fld := ⟨0x10, 0x178, 0, 1, 1, 1, .rws, .w, (.const 0)⟩
/-- TIM RWS: 1: choose the link as R59 states -/
def TIM_FAB_CFG_AUTO : Fld := ⟨0x10, 0x178, 0, 1, 2, 2, .rws, .w, (.const 1)⟩
/-- TIM RWS: Link 0–39 when AUTO = 0; 40–63 act as AUTO = 1 -/
def TIM_FAB_CFG_LINK : Fld := ⟨0x10, 0x178, 0, 1, 13, 8, .rws, .w, (.const 0)⟩
/-- TIM RO: Link followed -/
def TIM_FAB_STAT_LINK : Fld := ⟨0x10, 0x17C, 0, 1, 5, 0, .ro, .v, (.const 0)⟩
/-- TIM RO: Hops to the root -/
def TIM_FAB_STAT_HOPS : Fld := ⟨0x10, 0x17C, 0, 1, 11, 8, .ro, .v, (.const 0)⟩
/-- TIM RO: Root's STATE code -/
def TIM_FAB_STAT_ROOT_STATE : Fld := ⟨0x10, 0x17C, 0, 1, 14, 12, .ro, .v, (.const 0)⟩
/-- TIM RO: Root's device ID -/
def TIM_FAB_STAT_ROOT_ID : Fld := ⟨0x10, 0x17C, 0, 1, 28, 16, .ro, .v, (.const 0)⟩
/-- TIM RO: 1: a valid word arrived in the last epoch -/
def TIM_FAB_STAT_WORDS_OK : Fld := ⟨0x10, 0x17C, 0, 1, 31, 31, .ro, .v, (.const 0)⟩
/-- TIM RO: Last measured offset from the root, signed, 2⁻⁸ ns -/
def TIM_FAB_OFS_OFS : Fld := ⟨0x10, 0x180, 0, 1, 31, 0, .ro, .v, (.const 0)⟩
/-- TIM RWS: Signed, 1/128 °C -/
def HOLD_TBL_n_T_TEMP : Fld := ⟨0x10, 0x400, 8, 64, 15, 0, .rws, .w, (.const 0)⟩
/-- TIM RWS: Signed, 2⁻¹² ppb -/
def HOLD_TBL_n_F_FOFS : Fld := ⟨0x10, 0x404, 8, 64, 31, 0, .rws, .w, (.const 0)⟩
/-- PTP RW: 1: transparent-clock correction on ports with TC = 1 -/
def PTP_CTL_TC_EN : Fld := ⟨0x14, 0x100, 0, 1, 0, 0, .rw, .w, (.const 0)⟩
/-- PTP RW: Domain captured at clock ports; 0–23 and 44–255 capture nothing -/
def PTP_CTL_DOMAIN : Fld := ⟨0x14, 0x100, 0, 1, 15, 8, .rw, .w, (.const 24)⟩
/-- PTP RW: Port 0–127; 128–255 select no port, and per-port fields read 0 -/
def PTP_PORT_SEL_PORT : Fld := ⟨0x14, 0x104, 0, 1, 7, 0, .rw, .v, (.const 0)⟩
/-- PTP RW: 1: timestamp event messages of DOMAIN and punt them to CORE1 -/
def PTP_PORT_CFG_CLOCK : Fld := ⟨0x14, 0x108, 0, 1, 0, 0, .rw, .w, (.const 0)⟩
/-- PTP RW: 1: one-step Sync insertion (R51) -/
def PTP_PORT_CFG_ONE_STEP : Fld := ⟨0x14, 0x108, 0, 1, 1, 1, .rw, .w, (.const 0)⟩
/-- PTP RW: 1: correct transiting event messages -/
def PTP_PORT_CFG_TC : Fld := ⟨0x14, 0x108, 0, 1, 2, 2, .rw, .w, (.const 0)⟩
/-- PTP RW: Path from the PCS timestamp point to the connector, 2⁻⁸ ns, added to T_rx and T_tx -/
def PTP_LAT_RX : Fld := ⟨0x14, 0x10C, 0, 1, 15, 0, .rw, .w, (.const 0)⟩
/-- PTP RW: Path from the PCS timestamp point to the connector, 2⁻⁸ ns, added to T_rx and T_tx -/
def PTP_LAT_TX : Fld := ⟨0x14, 0x10C, 0, 1, 31, 16, .rw, .w, (.const 0)⟩
/-- PTP RO: Entries queued, 0–4,096 -/
def PTP_TSQ_STAT_FILL : Fld := ⟨0x14, 0x110, 0, 1, 12, 0, .ro, .v, (.const 0)⟩
/-- PTP W1C: Set when an entry is lost -/
def PTP_TSQ_STAT_OVF : Fld := ⟨0x14, 0x110, 0, 1, 31, 31, .w1c, .v, (.const 0)⟩
/-- SYE RW: Source port 0–127; 128–255 act as FREQ = 0 -/
def SYE_OUT_n_PORT : Fld := ⟨0x15, 0x100, 4, 2, 7, 0, .rw, .w, (.const 0)⟩
/-- SYE RW: 0 off (held low), 1 25 MHz, 2 156.25 MHz; 3 acts as 0 -/
def SYE_OUT_n_FREQ : Fld := ⟨0x15, 0x100, 4, 2, 9, 8, .rw, .w, (.const 0)⟩
/-- SYE RW: 1: squelch within 2 µs of loss of signal or link down at PORT -/
def SYE_OUT_n_SQ_AUTO : Fld := ⟨0x15, 0x100, 4, 2, 12, 12, .rw, .w, (.const 1)⟩
/-- SYE RW: 1: squelch now -/
def SYE_OUT_n_SQ_FORCE : Fld := ⟨0x15, 0x100, 4, 2, 13, 13, .rw, .w, (.const 0)⟩
/-- SYE RO: Bit n: output n is squelched or off -/
def SYE_STAT_SQUELCHED : Fld := ⟨0x15, 0x108, 0, 1, 1, 0, .ro, .v, (.const 0)⟩
/-- SYE RO: Bit n: the source port's receive clock is recovered -/
def SYE_STAT_RECOVERED : Fld := ⟨0x15, 0x108, 0, 1, 3, 2, .ro, .v, (.const 0)⟩
/-- CRN RW: Target epoch [31:0] -/
def CRN_Pm_TGT_LO_TARGET : Fld := ⟨0x16, 0x100, 32, 5, 31, 0, .rw, .s, (.const 0)⟩
/-- CRN RW: Target epoch [47:32] -/
def CRN_Pm_TGT_HI_TARGET : Fld := ⟨0x16, 0x104, 32, 5, 15, 0, .rw, .s, (.const 0)⟩
/-- CRN RW: 0: device-local; 1: fabric-wide -/
def CRN_Pm_TGT_HI_SCOPE : Fld := ⟨0x16, 0x104, 32, 5, 31, 31, .rw, .s, (.const 0)⟩
/-- CRN RW: Bit j selects group 32k + j; all 0: empty mask (R67) -/
def CRN_Pm_MASK_0_GROUPS : Fld := ⟨0x16, 0x108, 32, 5, 31, 0, .rw, .s, (.const 0)⟩
/-- CRN RW: Bit j selects group 32k + j; all 0: empty mask (R67) -/
def CRN_Pm_MASK_1_GROUPS : Fld := ⟨0x16, 0x10C, 32, 5, 31, 0, .rw, .s, (.const 0)⟩
/-- CRN RW: Bit j selects group 32k + j; all 0: empty mask (R67) -/
def CRN_Pm_MASK_2_GROUPS : Fld := ⟨0x16, 0x110, 32, 5, 31, 0, .rw, .s, (.const 0)⟩
/-- CRN RW: Bit j selects group 32k + j; all 0: empty mask (R67) -/
def CRN_Pm_MASK_3_GROUPS : Fld := ⟨0x16, 0x114, 32, 5, 31, 0, .rw, .s, (.const 0)⟩
/-- CRN WO: 1: submit the slot's contents (R66) -/
def CRN_Pm_GO_POST : Fld := ⟨0x16, 0x118, 32, 5, 0, 0, .wo, .v, (.const 0)⟩
/-- CRN WO: 1: cancel the cairn named by SEQ (R71); POST and CANCEL written together do nothing -/
def CRN_Pm_GO_CANCEL : Fld := ⟨0x16, 0x118, 32, 5, 1, 1, .wo, .v, (.const 0)⟩
/-- CRN WO: Sequence ID to cancel -/
def CRN_Pm_GO_SEQ : Fld := ⟨0x16, 0x118, 32, 5, 31, 16, .wo, .v, (.const 0)⟩
/-- CRN RO: Sequence ID of the last posting or cancel from this slot -/
def CRN_Pm_RESULT_SEQ : Fld := ⟨0x16, 0x11C, 32, 5, 15, 0, .ro, .s, (.const 0)⟩
/-- CRN RO: Status code of R81 -/
def CRN_Pm_RESULT_STATUS : Fld := ⟨0x16, 0x11C, 32, 5, 23, 16, .ro, .s, (.const 0)⟩
/-- CRN RO: 0 from a GO write until it has been evaluated; 1 afterwards -/
def CRN_Pm_RESULT_DONE : Fld := ⟨0x16, 0x11C, 32, 5, 31, 31, .ro, .s, (.const 0)⟩
/-- CRN RW: 1: originate, process and relay fabric-wide cairns -/
def CRN_CTL_FAB_EN : Fld := ⟨0x16, 0x1C0, 0, 1, 0, 0, .rw, .w, (.const 0)⟩
/-- CRN RO: Number of armed cairns, 0–32 -/
def CRN_STAT_ARMED : Fld := ⟨0x16, 0x1C4, 0, 1, 5, 0, .ro, .s, (.const 0)⟩
/-- CRN RO: Sequence ID that the next posting will take; after 0xFFFF it returns to 0 -/
def CRN_STAT_NEXT_SEQ : Fld := ⟨0x16, 0x1C4, 0, 1, 31, 16, .ro, .s, (.const 0)⟩
/-- CRN RO: Nearest armed target [31:0] -/
def CRN_NEXT_LO_TARGET : Fld := ⟨0x16, 0x1C8, 0, 1, 31, 0, .ro, .s, (.const 0)⟩
/-- CRN RO: Nearest armed target [47:32]; latched by reading CRN_NEXT_LO -/
def CRN_NEXT_HI_TARGET : Fld := ⟨0x16, 0x1CC, 0, 1, 15, 0, .ro, .s, (.const 0)⟩
/-- CRN RO: 1: at least one cairn is armed -/
def CRN_NEXT_HI_VALID : Fld := ⟨0x16, 0x1CC, 0, 1, 31, 31, .ro, .s, (.const 0)⟩
/-- CRN RW: Groups that slot 4 (CORE3) may name; writable by the host and CORE0 only, and other writes are discarded -/
def CRN_AGENT_MASK_k_GROUPS : Fld := ⟨0x16, 0x1D0, 4, 4, 31, 0, .rw, .w, (.const 0)⟩
/-- SPN RWS: 0 TMR, 1 DUPLEX (R82) -/
def SPN_MODE_MODE : Fld := ⟨0x13, 0x100, 0, 1, 0, 0, .rws, .w, (.const 0)⟩
/-- SPN RW: 1: restart a TMR dissenter at once -/
def SPN_CTL_AUTO_RESTART : Fld := ⟨0x13, 0x104, 0, 1, 0, 0, .rw, .w, (.const 1)⟩
/-- SPN WO: Bit n = 1 restarts channel n (0 A, 1 B, 2 C) under R86 -/
def SPN_CMD_RESTART : Fld := ⟨0x13, 0x108, 0, 1, 2, 0, .wo, .v, (.const 0)⟩
/-- SPN WO: 1: run the known-answer check on every running channel -/
def SPN_CMD_SELFTEST : Fld := ⟨0x13, 0x108, 0, 1, 4, 4, .wo, .v, (.const 0)⟩
/-- SPN RO: Governing channel, 0 A, 1 B, 2 C; 3 is never read -/
def SPN_STAT_ACTIVE : Fld := ⟨0x13, 0x10C, 0, 1, 1, 0, .ro, .v, (.const 0)⟩
/-- SPN RO: Bit per channel: running and in the vote or the comparison -/
def SPN_STAT_RUNNING : Fld := ⟨0x13, 0x10C, 0, 1, 4, 2, .ro, .v, (.const 7)⟩
/-- SPN W1C: Bit per channel: dissented in TMR -/
def SPN_STAT_DISSENT : Fld := ⟨0x13, 0x10C, 0, 1, 7, 5, .w1c, .v, (.const 0)⟩
/-- SPN W1C: Bit per channel: failed its last check -/
def SPN_STAT_FAILED : Fld := ⟨0x13, 0x10C, 0, 1, 10, 8, .w1c, .v, (.const 0)⟩
/-- SPN RO: Bit per channel -/
def SPN_STAT_RESTARTING : Fld := ⟨0x13, 0x10C, 0, 1, 13, 11, .ro, .v, (.const 0)⟩
/-- SPN RO: 1: a known-answer check is running -/
def SPN_STAT_CHECKING : Fld := ⟨0x13, 0x10C, 0, 1, 14, 14, .ro, .v, (.const 0)⟩
/-- SPN W1C: Set under R83 -/
def SPN_STAT_NO_MAJORITY : Fld := ⟨0x13, 0x10C, 0, 1, 15, 15, .w1c, .v, (.const 0)⟩
/-- SPN W1C: Set under R84 -/
def SPN_STAT_NO_FAULT_FOUND : Fld := ⟨0x13, 0x10C, 0, 1, 16, 16, .w1c, .v, (.const 0)⟩
/-- SPN RO: Epoch [31:0] of the last mismatch or dissent -/
def SPN_LAST_MM_LO_EPOCH : Fld := ⟨0x13, 0x110, 0, 1, 31, 0, .ro, .v, (.const 0)⟩
/-- SPN RO: Epoch [47:32]; latched by reading _LO -/
def SPN_LAST_MM_HI_EPOCH : Fld := ⟨0x13, 0x114, 0, 1, 15, 0, .ro, .v, (.const 0)⟩
/-- PAIR RW: 1: take part in a pair (R88) -/
def PAIR_CTL_EN : Fld := ⟨0x17, 0x100, 0, 1, 0, 0, .rw, .w, (.const 0)⟩
/-- PAIR RW: 1: claim when BELAY_IN deasserts (R89) -/
def PAIR_CTL_AUTO_TAKEOVER : Fld := ⟨0x17, 0x100, 0, 1, 1, 1, .rw, .w, (.const 1)⟩
/-- PAIR RW: 1: self-check on a digest mismatch -/
def PAIR_CTL_CHECK_ON_MISMATCH : Fld := ⟨0x17, 0x100, 0, 1, 2, 2, .rw, .w, (.const 1)⟩
/-- PAIR RW: GPIO 0–15 that reads high while owning; 16–31: none -/
def PAIR_CTL_OWN_GPIO : Fld := ⟨0x17, 0x100, 0, 1, 12, 8, .rw, .w, (.const 31)⟩
/-- PAIR WO: 1: assert BELAY_OUT -/
def PAIR_CMD_CLAIM : Fld := ⟨0x17, 0x104, 0, 1, 0, 0, .wo, .v, (.const 0)⟩
/-- PAIR WO: 1: release under R89; with CLAIM, nothing happens -/
def PAIR_CMD_RELEASE : Fld := ⟨0x17, 0x104, 0, 1, 1, 1, .wo, .v, (.const 0)⟩
/-- PAIR RO: PAIR_SEAT and PAIR_PRESENT as sampled -/
def PAIR_STAT_SEAT : Fld := ⟨0x17, 0x108, 0, 1, 0, 0, .ro, .w, .strap⟩
/-- PAIR RO: PAIR_SEAT and PAIR_PRESENT as sampled -/
def PAIR_STAT_PRESENT : Fld := ⟨0x17, 0x108, 0, 1, 1, 1, .ro, .w, .strap⟩
/-- PAIR RO: Pin states -/
def PAIR_STAT_BELAY_OUT : Fld := ⟨0x17, 0x108, 0, 1, 2, 2, .ro, .v, (.const 0)⟩
/-- PAIR RO: Pin states -/
def PAIR_STAT_BELAY_IN : Fld := ⟨0x17, 0x108, 0, 1, 3, 3, .ro, .v, (.const 0)⟩
/-- PAIR RO: 1: this device owns -/
def PAIR_STAT_OWNER : Fld := ⟨0x17, 0x108, 0, 1, 4, 4, .ro, .v, (.const 0)⟩
/-- PAIR RO: 1: digests arriving (R93) -/
def PAIR_STAT_LINK_UP : Fld := ⟨0x17, 0x108, 0, 1, 5, 5, .ro, .v, (.const 0)⟩
/-- PAIR W1C: Set under R93 -/
def PAIR_STAT_MISMATCH : Fld := ⟨0x17, 0x108, 0, 1, 6, 6, .w1c, .v, (.const 0)⟩
/-- PAIR RO: 1: pair self-check running -/
def PAIR_STAT_CHECKING : Fld := ⟨0x17, 0x108, 0, 1, 7, 7, .ro, .v, (.const 0)⟩
/-- PAIR W1C: 1: own self-check failed -/
def PAIR_STAT_SELF_FAIL : Fld := ⟨0x17, 0x108, 0, 1, 8, 8, .w1c, .v, (.const 0)⟩
/-- PAIR W1C: 1: own self-check passed after a mismatch -/
def PAIR_STAT_NO_FAULT_FOUND : Fld := ⟨0x17, 0x108, 0, 1, 9, 9, .w1c, .v, (.const 0)⟩
/-- PAIR W1C: 1: no automatic claim -/
def PAIR_STAT_UNFIT : Fld := ⟨0x17, 0x108, 0, 1, 10, 10, .w1c, .w, (.const 0)⟩
/-- PAIR RWS: Bit j: port 32k + j is protected -/
def PAIR_PROT_k_PORTS : Fld := ⟨0x17, 0x110, 4, 4, 31, 0, .rws, .w, (.const 0)⟩
/-- PAIR RW: Largest accepted abs(offset) in ns; 0: time not compared -/
def PAIR_TIME_TOL_NS : Fld := ⟨0x17, 0x120, 0, 1, 15, 0, .rw, .w, (.const 20)⟩
/-- PAIR RW: Missing digests before LINK_UP clears; 0: never clears -/
def PAIR_MISS_LIMIT_N : Fld := ⟨0x17, 0x124, 0, 1, 7, 0, .rw, .w, (.const 8)⟩
/-- PAIR RO: Last delay, 2⁻⁸ ns -/
def PAIR_DELAY_DELAY : Fld := ⟨0x17, 0x128, 0, 1, 31, 0, .ro, .v, (.const 0)⟩
/-- PAIR RO: Epoch [31:0] of the last mismatch -/
def PAIR_LAST_MM_LO_EPOCH : Fld := ⟨0x17, 0x130, 0, 1, 31, 0, .ro, .v, (.const 0)⟩
/-- PAIR RO: Epoch [47:32]; latched by reading _LO -/
def PAIR_LAST_MM_HI_EPOCH : Fld := ⟨0x17, 0x134, 0, 1, 15, 0, .ro, .v, (.const 0)⟩
/-- PAIR RO: Bit 0 time, 1 GEN_DIGEST, 2 DEC_DIGEST, 3 DEC_COUNT -/
def PAIR_LAST_MM_HI_KIND : Fld := ⟨0x17, 0x134, 0, 1, 19, 16, .ro, .v, (.const 0)⟩
/-- PAIR RO: Protected-port packets discarded while not owning (R91) -/
def PAIR_DISCARD : Fld := ⟨0x17, 0x138, 0, 1, 63, 0, .ro, .v, (.const 0)⟩
/-- NETPG RWS: 1: port defined at this lane -/
def PORT_CFG_EN : Fld := ⟨0x40, 0x100, 64, 16, 0, 0, .rws, .w, (.const 0)⟩
/-- NETPG RWS: Lanes 1, 2, 4 or 8; 0: no port; other values invalid (R102) -/
def PORT_CFG_WIDTH : Fld := ⟨0x40, 0x100, 64, 16, 7, 4, .rws, .w, (.const 0)⟩
/-- NETPG RWS: Code of R102; 0: no port -/
def PORT_CFG_LANE_RATE : Fld := ⟨0x40, 0x100, 64, 16, 11, 8, .rws, .w, (.const 0)⟩
/-- NETPG RWS: 0 none, 1 BASE-R, 2 RS(528,514), 3 RS(544,514); 4–7 invalid -/
def PORT_CFG_FEC : Fld := ⟨0x40, 0x100, 64, 16, 14, 12, .rws, .w, (.const 0)⟩
/-- NETPG RWS: Largest frame in bytes, including FCS; values above 16,128 act as 16,128; 0: every frame is a giant -/
def PORT_FRAME_MAX_FRAME : Fld := ⟨0x40, 0x104, 64, 16, 13, 0, .rws, .w, (.const 9216)⟩
/-- NETPG RWS: R112 -/
def PORT_FC_RX_MODE : Fld := ⟨0x40, 0x108, 64, 16, 1, 0, .rws, .w, (.const 0)⟩
/-- NETPG RWS: R113 -/
def PORT_FC_TX_MODE : Fld := ⟨0x40, 0x108, 64, 16, 3, 2, .rws, .w, (.const 0)⟩
/-- NETPG RWS: Timer sent on assertion; 0: nothing sent -/
def PORT_FC_QUANTA : Fld := ⟨0x40, 0x108, 64, 16, 31, 16, .rws, .w, (.const 65535)⟩
/-- NETPG RWS: Repeat interval; 0: no repeats -/
def PORT_FC_REFRESH_QUANTA : Fld := ⟨0x40, 0x10C, 64, 16, 15, 0, .rws, .w, (.const 32768)⟩
/-- NETPG RWS: 1: mark eCPRI frames (R114) -/
def PORT_ECPRI_EN : Fld := ⟨0x40, 0x110, 64, 16, 0, 0, .rws, .w, (.const 0)⟩
/-- NETPG RWS: Class given to eCPRI packets -/
def PORT_ECPRI_TC : Fld := ⟨0x40, 0x110, 64, 16, 3, 1, .rws, .w, (.const 7)⟩
/-- NETPG RO: R117 -/
def PORT_STAT_LINK_UP : Fld := ⟨0x40, 0x114, 64, 16, 0, 0, .ro, .v, (.const 0)⟩
/-- NETPG RO: PCS aligned; FEC locked -/
def PORT_STAT_ALIGNED : Fld := ⟨0x40, 0x114, 64, 16, 1, 1, .ro, .v, (.const 0)⟩
/-- NETPG RO: PCS aligned; FEC locked -/
def PORT_STAT_FEC_LOCK : Fld := ⟨0x40, 0x114, 64, 16, 2, 2, .ro, .v, (.const 0)⟩
/-- NETPG RO: Faults as defined by IEEE 802.3 -/
def PORT_STAT_LOCAL_FAULT : Fld := ⟨0x40, 0x114, 64, 16, 3, 3, .ro, .v, (.const 0)⟩
/-- NETPG RO: Faults as defined by IEEE 802.3 -/
def PORT_STAT_REMOTE_FAULT : Fld := ⟨0x40, 0x114, 64, 16, 4, 4, .ro, .v, (.const 0)⟩
/-- NETPG RO: Bit c: class c paused by the peer -/
def PORT_STAT_RX_PAUSED : Fld := ⟨0x40, 0x114, 64, 16, 15, 8, .ro, .v, (.const 0)⟩
/-- NETPG RO: Bit c: back-pressure asserted toward the peer, by the input FIFO or by admission (R113) -/
def PORT_STAT_TX_XOFF : Fld := ⟨0x40, 0x114, 64, 16, 23, 16, .ro, .v, (.const 0)⟩
/-- NETPG RO: R103 -/
def PORT_STAT_CFG_BAD : Fld := ⟨0x40, 0x114, 64, 16, 31, 31, .ro, .w, (.const 0)⟩
/-- NETPG RW: R117 -/
def PORT_CTL_DOWN_DROP : Fld := ⟨0x40, 0x118, 64, 16, 0, 0, .rw, .w, (.const 0)⟩
/-- NETPG RW: 1: hold the port's lanes in electrical idle -/
def PORT_CTL_TX_DIS : Fld := ⟨0x40, 0x118, 64, 16, 1, 1, .rw, .w, (.const 0)⟩
/-- NETPG RW: 0 none; 1 near-end, transmit to receive at the PCS; 2 far-end, receive to transmit at the PMA; 3 acts as 0 -/
def PORT_CTL_LOOPBACK : Fld := ⟨0x40, 0x118, 64, 16, 3, 2, .rw, .w, (.const 0)⟩
/-- NETPG RO: Frames received, all outcomes (R37) -/
def PORT_RX_FRAMES : Fld := ⟨0x40, 0x120, 64, 16, 63, 0, .ro, .v, (.const 0)⟩
/-- NETPG RO: Frames sent -/
def PORT_TX_FRAMES : Fld := ⟨0x40, 0x128, 64, 16, 63, 0, .ro, .v, (.const 0)⟩
/-- NETPG RO: Corrected FEC symbols -/
def PORT_FEC_CORR : Fld := ⟨0x40, 0x130, 64, 16, 63, 0, .ro, .v, (.const 0)⟩
/-- NETPG RW: Source address of the port's PAUSE and PFC frames (R113), bytes 2 to 5: byte 2 in [31:24], byte 5 in ... -/
def PORT_MAC_LO : Fld := ⟨0x40, 0x138, 64, 16, 31, 0, .rw, .w, (.const 0)⟩
/-- NETPG RW: Source address bytes 0 and 1: byte 0, the first sent, in [15:8], byte 1 in [7:0] -/
def PORT_MAC_HI : Fld := ⟨0x40, 0x13C, 64, 16, 15, 0, .rw, .w, (.const 0)⟩
/-- NETPG RWS: L_j in [3j+2:3j]; the reset value is the identity map (R105) -/
def NETPG_RXMAP_h_L : Fld := ⟨0x40, 0x500, 4, 2, 23, 0, .rws, .w, (.const 16434824)⟩
/-- NETPG RWS: As RXMAP, for transmit -/
def NETPG_TXMAP_h_L : Fld := ⟨0x40, 0x508, 4, 2, 23, 0, .rws, .w, (.const 16434824)⟩
/-- NSD RW: Pre-cursor tap, in 1/63 of full swing -/
def NSD_TX_PRE : Fld := ⟨0x48, 0x100, 16, 32, 5, 0, .rw, .w, (.const 4)⟩
/-- NSD RW: Main tap -/
def NSD_TX_MAIN : Fld := ⟨0x48, 0x100, 16, 32, 13, 8, .rw, .w, (.const 55)⟩
/-- NSD RW: Post-cursor tap. If PRE + MAIN + POST exceeds 63, the device scales all three in proportion to a sum of 63 ... -/
def NSD_TX_POST : Fld := ⟨0x48, 0x100, 16, 32, 21, 16, .rw, .w, (.const 4)⟩
/-- NSD RWS: Transmit polarity (R106) -/
def NSD_TX_TX_INV : Fld := ⟨0x48, 0x100, 16, 32, 24, 24, .rws, .w, (.const 0)⟩
/-- NSD RO: Taps scaled -/
def NSD_TX_CLIPPED : Fld := ⟨0x48, 0x100, 16, 32, 31, 31, .ro, .v, (.const 0)⟩
/-- NSD RWS: Receive polarity (R106) -/
def NSD_RX_RX_INV : Fld := ⟨0x48, 0x104, 16, 32, 0, 0, .rws, .w, (.const 0)⟩
/-- NSD RO: Signal present; clock recovered -/
def NSD_RX_SIG_DET : Fld := ⟨0x48, 0x104, 16, 32, 8, 8, .ro, .v, (.const 0)⟩
/-- NSD RO: Signal present; clock recovered -/
def NSD_RX_CDR_LOCK : Fld := ⟨0x48, 0x104, 16, 32, 9, 9, .ro, .v, (.const 0)⟩
/-- NSD RO: Receive equaliser adapted; adaptation runs at every link start -/
def NSD_RX_ADAPT_DONE : Fld := ⟨0x48, 0x104, 16, 32, 10, 10, .ro, .v, (.const 0)⟩
/-- NSD RO: 1: transmitter in electrical idle (R115) -/
def NSD_RX_TX_IDLE : Fld := ⟨0x48, 0x104, 16, 32, 12, 12, .ro, .v, (.const 1)⟩
/-- NSD RW: 0 off, 1 PRBS7, 2 PRBS13, 3 PRBS31 -/
def NSD_PRBS_PATTERN : Fld := ⟨0x48, 0x108, 16, 32, 1, 0, .rw, .w, (.const 0)⟩
/-- NSD RW: 1: generate on transmit; check on receive, replacing port traffic on the lane -/
def NSD_PRBS_GEN : Fld := ⟨0x48, 0x108, 16, 32, 2, 2, .rw, .w, (.const 0)⟩
/-- NSD RW: 1: generate on transmit; check on receive, replacing port traffic on the lane -/
def NSD_PRBS_CHK : Fld := ⟨0x48, 0x108, 16, 32, 3, 3, .rw, .w, (.const 0)⟩
/-- NSD RC: Bit errors, saturating at 0xFFFF -/
def NSD_PRBS_ERR : Fld := ⟨0x48, 0x108, 16, 32, 31, 16, .rc, .v, (.const 0)⟩
/-- NSD RO: 1: SDREF_P/N[k] present and within ±100 ppm -/
def NSD_REF_OK : Fld := ⟨0x48, 0x300, 0, 1, 0, 0, .ro, .v, (.const 0)⟩
/-- PIPE RO: Running network ports served, 0–8 -/
def PIPE_STAT_PORTS : Fld := ⟨0x20, 0x100, 0, 1, 4, 0, .ro, .v, (.const 0)⟩
/-- PIPE RO: 1: the governor is withholding slots -/
def PIPE_STAT_THROTTLED : Fld := ⟨0x20, 0x100, 0, 1, 8, 8, .ro, .v, (.const 0)⟩
/-- PIPE RO: First passes started -/
def PIPE_FIRST : Fld := ⟨0x20, 0x108, 0, 1, 63, 0, .ro, .v, (.const 0)⟩
/-- PIPE RO: Second passes started -/
def PIPE_SECOND : Fld := ⟨0x20, 0x110, 0, 1, 63, 0, .ro, .v, (.const 0)⟩
/-- PIPE RO: Clocks with no packet started -/
def PIPE_IDLE : Fld := ⟨0x20, 0x118, 0, 1, 63, 0, .ro, .v, (.const 0)⟩
/-- PRS RO: States in the active graph; 0: absent (R123) -/
def PRS_GRAPH_ENTRIES : Fld := ⟨0x30, 0x100, 0, 1, 10, 0, .ro, .s, (.const 0)⟩
/-- PRS RO: States in the staged graph -/
def PRS_GRAPH_STAGED : Fld := ⟨0x30, 0x100, 0, 1, 26, 16, .ro, .s, (.const 0)⟩
/-- PRS RO: Code of R130 for the last PARSE_INCOMPLETE -/
def PRS_LAST_INC_REASON : Fld := ⟨0x30, 0x104, 0, 1, 3, 0, .ro, .v, (.const 0)⟩
/-- PRS RO: Port of that pass -/
def PRS_LAST_INC_PORT : Fld := ⟨0x30, 0x104, 0, 1, 15, 8, .ro, .v, (.const 0)⟩
/-- PRS RO: State at which the walk stopped -/
def PRS_LAST_INC_STATE : Fld := ⟨0x30, 0x104, 0, 1, 25, 16, .ro, .v, (.const 0)⟩
/-- PRS RO: Code of R131 for the last MALFORMED -/
def PRS_LAST_MAL_REASON : Fld := ⟨0x30, 0x108, 0, 1, 3, 0, .ro, .v, (.const 0)⟩
/-- PRS RO: Port of that pass -/
def PRS_LAST_MAL_PORT : Fld := ⟨0x30, 0x108, 0, 1, 15, 8, .ro, .v, (.const 0)⟩
/-- PRS RO: Cursor of the failing header -/
def PRS_LAST_MAL_OFFSET : Fld := ⟨0x30, 0x108, 0, 1, 24, 16, .ro, .v, (.const 0)⟩
/-- PRS RO: 1: found at the tail (R132) -/
def PRS_LAST_MAL_TAIL : Fld := ⟨0x30, 0x108, 0, 1, 31, 31, .ro, .v, (.const 0)⟩
/-- PRS RO: Passes ending PARSE_INCOMPLETE (R37) -/
def PRS_INCOMPLETE : Fld := ⟨0x30, 0x110, 0, 1, 63, 0, .ro, .v, (.const 0)⟩
/-- PRS RO: Passes ending MALFORMED at parse -/
def PRS_MALFORMED : Fld := ⟨0x30, 0x118, 0, 1, 63, 0, .ro, .v, (.const 0)⟩
/-- PRS RO: Packets bad at the tail -/
def PRS_TAIL_BAD : Fld := ⟨0x30, 0x120, 0, 1, 63, 0, .ro, .v, (.const 0)⟩
/-- PRS RWS: Start state of port p -/
def PRS_PORT_p_START_STATE : Fld := ⟨0x30, 0x400, 8, 160, 9, 0, .rws, .w, (.const 0)⟩
/-- PRS RWS: Code of R133 -/
def PRS_PORT_p_DFLT_NO_MATCH : Fld := ⟨0x30, 0x404, 8, 160, 2, 0, .rws, .w, (.const 0)⟩
/-- PRS RWS: Code of R133 -/
def PRS_PORT_p_DFLT_PARSE_FAIL : Fld := ⟨0x30, 0x404, 8, 160, 6, 4, .rws, .w, (.const 0)⟩
/-- PRS RWS: Code of R133 -/
def PRS_PORT_p_DFLT_MALFORMED : Fld := ⟨0x30, 0x404, 8, 160, 10, 8, .rws, .w, (.const 0)⟩
/-- PRS RWS: Code of R133 -/
def PRS_PORT_p_DFLT_ORPHAN : Fld := ⟨0x30, 0x404, 8, 160, 14, 12, .rws, .w, (.const 0)⟩
/-- PRS RWS: Punt ring 0–15 for code 3 -/
def PRS_PORT_p_DFLT_PUNT_RING : Fld := ⟨0x30, 0x404, 8, 160, 19, 16, .rws, .w, (.const 0)⟩
/-- PRS RWS: Mirror session 0–15 for code 4 -/
def PRS_PORT_p_DFLT_MIRROR : Fld := ⟨0x30, 0x404, 8, 160, 27, 24, .rws, .w, (.const 0)⟩
/-- FRAG RW: 1: fragment table in use (R135) -/
def FRAG_CTL_EN : Fld := ⟨0x31, 0x100, 0, 1, 0, 0, .rw, .w, (.const 0)⟩
/-- FRAG RW: Entry lifetime in ms, 1–1,000; 0: nothing stored (R138) -/
def FRAG_CTL_LIFETIME : Fld := ⟨0x31, 0x100, 0, 1, 25, 16, .rw, .w, (.const 64)⟩
/-- FRAG RO: Live entries, 0–32,768 -/
def FRAG_STAT_IN_USE : Fld := ⟨0x31, 0x104, 0, 1, 15, 0, .ro, .v, (.const 0)⟩
/-- FRAG RO: First fragments stored -/
def FRAG_FIRST : Fld := ⟨0x31, 0x108, 0, 1, 63, 0, .ro, .v, (.const 0)⟩
/-- FRAG RO: Followers that took a stored decision -/
def FRAG_FOLLOW : Fld := ⟨0x31, 0x110, 0, 1, 63, 0, .ro, .v, (.const 0)⟩
/-- FRAG RO: Orphans (R137) -/
def FRAG_ORPHAN : Fld := ⟨0x31, 0x118, 0, 1, 63, 0, .ro, .v, (.const 0)⟩
/-- FRAG WO: 1: invalidate every entry within 10 µs -/
def FRAG_CMD_FLUSH : Fld := ⟨0x31, 0x120, 0, 1, 0, 0, .wo, .v, (.const 0)⟩
/-- CLS RO: Nodes in rule set n's active bank; 0: absent (R143) -/
def CLS_SET_n_NODES : Fld := ⟨0x32, 0x100, 8, 8, 20, 0, .ro, .s, (.const 0)⟩
/-- CLS RO: Action records in that bank -/
def CLS_SET_n_ACT_ACTIONS : Fld := ⟨0x32, 0x104, 8, 8, 19, 0, .ro, .s, (.const 0)⟩
/-- CLS RO: Generation of rule set n's active bank; 0: never committed -/
def CLS_GEN_n_GEN : Fld := ⟨0x32, 0x140, 4, 8, 15, 0, .ro, .s, (.const 0)⟩
/-- CLS RO: 1: the staged bank holds a valid artifact -/
def CLS_GEN_n_STAGED : Fld := ⟨0x32, 0x140, 4, 8, 31, 31, .ro, .s, (.const 0)⟩
/-- CLS RO: KiB of LKMEM0's classification space in use, 0–32,768 -/
def CLS_MEM_LK0 : Fld := ⟨0x32, 0x160, 0, 1, 15, 0, .ro, .s, (.const 0)⟩
/-- CLS RO: The same for LKMEM1 -/
def CLS_MEM_LK1 : Fld := ⟨0x32, 0x160, 0, 1, 31, 16, .ro, .s, (.const 0)⟩
/-- CLS RO: Action records across the eight active banks, 0–524,288 -/
def CLS_RULES_ACTIVE : Fld := ⟨0x32, 0x164, 0, 1, 19, 0, .ro, .s, (.const 0)⟩
/-- CLS RO: 1 depth limit, 2 node parity, 3 action parity; 0 none -/
def CLS_LAST_ERR_KIND : Fld := ⟨0x32, 0x168, 0, 1, 1, 0, .ro, .v, (.const 0)⟩
/-- CLS RO: Rule set -/
def CLS_LAST_ERR_SET : Fld := ⟨0x32, 0x168, 0, 1, 6, 4, .ro, .v, (.const 0)⟩
/-- CLS RO: Node or action index -/
def CLS_LAST_ERR_INDEX : Fld := ⟨0x32, 0x168, 0, 1, 27, 8, .ro, .v, (.const 0)⟩
/-- CLS RO: Packets dropped under row 1 of R153, with DROP set by an action record or by a lookup result, and packets ... -/
def CLS_DROPS : Fld := ⟨0x32, 0x170, 0, 1, 63, 0, .ro, .v, (.const 0)⟩
/-- ACT RO: Templates in the active set; 0: every template is empty -/
def ACT_TMPL_ENTRIES : Fld := ⟨0x37, 0x100, 0, 1, 12, 0, .ro, .s, (.const 0)⟩
/-- ACT RO: Templates in the staged set -/
def ACT_TMPL_STAGED : Fld := ⟨0x37, 0x100, 0, 1, 28, 16, .ro, .s, (.const 0)⟩
/-- ACT RO: Template of the last failure -/
def ACT_LAST_TEMPLATE : Fld := ⟨0x37, 0x104, 0, 1, 11, 0, .ro, .v, (.const 0)⟩
/-- ACT RO: 1 empty, index out of range, or STRIP beyond the packet; 2 wrong stage; 3 no instance at LEVEL; 4 too ... -/
def ACT_LAST_REASON : Fld := ⟨0x37, 0x104, 0, 1, 14, 12, .ro, .v, (.const 0)⟩
/-- ACT RO: Templates applied -/
def ACT_REWRITES : Fld := ⟨0x37, 0x108, 0, 1, 63, 0, .ro, .v, (.const 0)⟩
/-- ACT RWS: 1: session n in use -/
def ACT_MIR_n_EN : Fld := ⟨0x37, 0x200, 4, 16, 0, 0, .rws, .w, (.const 0)⟩
/-- ACT RWS: Class of the copy -/
def ACT_MIR_n_CLASS : Fld := ⟨0x37, 0x200, 4, 16, 3, 1, .rws, .w, (.const 0)⟩
/-- ACT RWS: System port ID of the copy -/
def ACT_MIR_n_DEST : Fld := ⟨0x37, 0x200, 4, 16, 28, 8, .rws, .w, (.const 0)⟩
/-- RCC RW: Mpps; values above 1,500 act as 1,500; 0: no tokens (R155) -/
def RCC_PORT_r_RATE : Fld := ⟨0x38, 0x100, 4, 4, 10, 0, .rw, .w, (.const 500)⟩
/-- RCC RW: Bucket depth in packets, 1–4,095; 0: no tokens -/
def RCC_PORT_r_BURST : Fld := ⟨0x38, 0x100, 4, 4, 27, 16, .rw, .w, (.const 256)⟩
/-- RCC RO: Whole tokens; the bucket refills from 0 after a reset -/
def RCC_TOK_r_TOKENS : Fld := ⟨0x38, 0x110, 4, 4, 11, 0, .ro, .v, (.const 0)⟩
/-- RCC RO: Second passes admitted -/
def RCC_PASSES_r : Fld := ⟨0x38, 0x120, 8, 4, 63, 0, .ro, .v, (.const 0)⟩
/-- RCC RO: Recirculations refused, by budget or on a second pass -/
def RCC_REFUSED_r : Fld := ⟨0x38, 0x140, 8, 4, 63, 0, .ro, .v, (.const 0)⟩
/-- LPM RO: 0 COMPACT, 1 STANDARD, 2 MAXIMAL; 3 is never read -/
def LPM_STAT_PROFILE : Fld := ⟨0x33, 0x100, 0, 1, 1, 0, .ro, .w, (.const 1)⟩
/-- LPM RWS: 1: IPv4 host probe (R172) -/
def LPM_CTL_HOST_EXM : Fld := ⟨0x33, 0x104, 0, 1, 0, 0, .rws, .w, (.const 0)⟩
/-- LPM RO: On-die nodes in the active bank -/
def LPM_NODES_ACTIVE : Fld := ⟨0x33, 0x108, 0, 1, 23, 0, .ro, .s, (.const 0)⟩
/-- LPM RO: HBM nodes in the active bank -/
def LPM_HBM_NODES_ACTIVE : Fld := ⟨0x33, 0x10C, 0, 1, 23, 0, .ro, .s, (.const 0)⟩
/-- LPM RO: Result words in the active bank -/
def LPM_RESULTS_ACTIVE : Fld := ⟨0x33, 0x110, 0, 1, 23, 0, .ro, .s, (.const 0)⟩
/-- LPM RO: ROOTS4 entries, 0–4,096 -/
def LPM_ROOTS_V4 : Fld := ⟨0x33, 0x114, 0, 1, 12, 0, .ro, .s, (.const 0)⟩
/-- LPM RO: ROOTS6 entries, 0–4,096 -/
def LPM_ROOTS_V6 : Fld := ⟨0x33, 0x114, 0, 1, 28, 16, .ro, .s, (.const 0)⟩
/-- LPM RO: 1 node parity, 2 result parity, 3 depth, 4 HBM; 0 none -/
def LPM_LAST_ERR_KIND : Fld := ⟨0x33, 0x118, 0, 1, 2, 0, .ro, .v, (.const 0)⟩
/-- LPM RO: Node or result index -/
def LPM_LAST_ERR_INDEX : Fld := ⟨0x33, 0x118, 0, 1, 31, 8, .ro, .v, (.const 0)⟩
/-- LPM RO: Route lookups (R37) -/
def LPM_LOOKUPS : Fld := ⟨0x33, 0x120, 0, 1, 63, 0, .ro, .v, (.const 0)⟩
/-- LPM RO: Lookups that missed -/
def LPM_MISSES : Fld := ⟨0x33, 0x128, 0, 1, 63, 0, .ro, .v, (.const 0)⟩
/-- LPM RWS: Default VRF of port p (R166) -/
def LPM_PORT_p_VRF : Fld := ⟨0x33, 0x400, 4, 160, 11, 0, .rws, .w, (.const 0)⟩
/-- EXM RO: Occupied slots, stash included -/
def EXM_STAT_IN_USE : Fld := ⟨0x34, 0x100, 0, 1, 25, 0, .ro, .w, (.const 0)⟩
/-- EXM RO: Stash entries in use, 0–256 -/
def EXM_STASH_USED : Fld := ⟨0x34, 0x104, 0, 1, 8, 0, .ro, .w, (.const 0)⟩
/-- EXM RO: Slots in both tables (R164) -/
def EXM_SIZE_SLOTS : Fld := ⟨0x34, 0x108, 0, 1, 25, 0, .ro, .w, (.const 2097152)⟩
/-- EXM RO: Insertions with outcome OK, REPLACED or STASHED -/
def EXM_INSERTS : Fld := ⟨0x34, 0x110, 0, 1, 63, 0, .ro, .v, (.const 0)⟩
/-- EXM RO: Entries relocated -/
def EXM_MOVES : Fld := ⟨0x34, 0x118, 0, 1, 63, 0, .ro, .v, (.const 0)⟩
/-- EXM RO: Entries removed -/
def EXM_REMOVES : Fld := ⟨0x34, 0x120, 0, 1, 63, 0, .ro, .v, (.const 0)⟩
/-- LRN RW: 1: learning on (R178) -/
def LRN_CTL_EN : Fld := ⟨0x35, 0x100, 0, 1, 0, 0, .rw, .w, (.const 0)⟩
/-- LRN RW: Sweep period in s; 0: no ageing (R181) -/
def LRN_AGE_PERIOD : Fld := ⟨0x35, 0x104, 0, 1, 15, 0, .rw, .w, (.const 300)⟩
/-- LRN RO: Queued requests, 0–65,536 -/
def LRN_QSTAT_FILL : Fld := ⟨0x35, 0x108, 0, 1, 16, 0, .ro, .v, (.const 0)⟩
/-- LRN RO: 1: the engine is stopped for a Traverse (R179) -/
def LRN_QSTAT_HELD : Fld := ⟨0x35, 0x108, 0, 1, 31, 31, .ro, .v, (.const 0)⟩
/-- LRN RW: Slot bits [32k+31:32k] for a post (R182) -/
def LRN_POST_k : Fld := ⟨0x35, 0x110, 4, 4, 31, 0, .rw, .v, (.const 0)⟩
/-- LRN WO: 1: queue the post -/
def LRN_POST_GO_GO : Fld := ⟨0x35, 0x120, 0, 1, 0, 0, .wo, .v, (.const 0)⟩
/-- LRN WO: 1 with GO: queue a removal of the key -/
def LRN_POST_GO_REMOVE : Fld := ⟨0x35, 0x120, 0, 1, 1, 1, .wo, .v, (.const 0)⟩
/-- LRN RO: New entries installed -/
def LRN_LEARNED : Fld := ⟨0x35, 0x130, 0, 1, 63, 0, .ro, .v, (.const 0)⟩
/-- LRN RO: Moves applied -/
def LRN_MOVED : Fld := ⟨0x35, 0x138, 0, 1, 63, 0, .ro, .v, (.const 0)⟩
/-- LRN RO: Entries aged out -/
def LRN_AGED : Fld := ⟨0x35, 0x140, 0, 1, 63, 0, .ro, .v, (.const 0)⟩
/-- LRN RO: Insertions that returned FULL (R180) -/
def LRN_FAILED : Fld := ⟨0x35, 0x148, 0, 1, 63, 0, .ro, .v, (.const 0)⟩
/-- LRN RWS: Default BD of port p -/
def LRN_PORT_p_BD : Fld := ⟨0x35, 0x400, 4, 160, 13, 0, .rws, .w, (.const 0)⟩
/-- LRN RWS: 1: learn on port p -/
def LRN_PORT_p_LEARN : Fld := ⟨0x35, 0x400, 4, 160, 16, 16, .rws, .w, (.const 0)⟩
/-- ADJ RWS: 1: hash the outermost IP instance, the level-0 one when there is one (R185) -/
def ADJ_HASH_OUTER : Fld := ⟨0x36, 0x100, 0, 1, 0, 0, .rws, .w, (.const 0)⟩
/-- ADJ RWS: 1: include the IPv6 flow label -/
def ADJ_HASH_FLOW_LABEL : Fld := ⟨0x36, 0x100, 0, 1, 1, 1, .rws, .w, (.const 1)⟩
/-- ADJ RWS: 1: include the GTP-U TEID -/
def ADJ_HASH_TEID : Fld := ⟨0x36, 0x100, 0, 1, 2, 2, .rws, .w, (.const 0)⟩
/-- ADJ RWS: CRC-32C seed (R467); every value, 0 included, is a seed, and 0 gives the standard CRC-32C -/
def ADJ_SEED_SEED : Fld := ⟨0x36, 0x104, 0, 1, 31, 0, .rws, .w, (.const 0)⟩
/-- ADJ RO: 1 next hop, 2 ECMP, 3 adjacency; 0 none -/
def ADJ_LAST_ERR_KIND : Fld := ⟨0x36, 0x108, 0, 1, 1, 0, .ro, .v, (.const 0)⟩
/-- ADJ RO: Index of the failing entry -/
def ADJ_LAST_ERR_INDEX : Fld := ⟨0x36, 0x108, 0, 1, 27, 8, .ro, .v, (.const 0)⟩
/-- ADJ RO: Packets dropped by groups of zero members (R184) -/
def ADJ_ZERO_ECMP : Fld := ⟨0x36, 0x110, 0, 1, 63, 0, .ro, .v, (.const 0)⟩
/-- ADJ RO: Packets dropped at a drop adjacency (R188) -/
def ADJ_EGRESS_DROPS : Fld := ⟨0x36, 0x118, 0, 1, 63, 0, .ro, .v, (.const 0)⟩
/-- TDM RW: Ring address, a multiple of 64 (R38) -/
def TDM_RING_BASE : Fld := ⟨0x39, 0x100, 0, 1, 63, 0, .rw, .w, (.const 0)⟩
/-- TDM RW: Descriptors, 2 to 65,536. A value that is not a power of two acts as the next lower power of two; 0 or 1: ... -/
def TDM_RING_SIZE_COUNT : Fld := ⟨0x39, 0x108, 0, 1, 16, 0, .rw, .w, (.const 0)⟩
/-- TDM RW: Next descriptor that host software will fill -/
def TDM_TAIL_IDX : Fld := ⟨0x39, 0x10C, 0, 1, 15, 0, .rw, .v, (.const 0)⟩
/-- TDM RO: Next descriptor that the engine will take up -/
def TDM_HEAD_IDX : Fld := ⟨0x39, 0x110, 0, 1, 15, 0, .ro, .v, (.const 0)⟩
/-- TDM RW: 1: the engine runs -/
def TDM_CTL_EN : Fld := ⟨0x39, 0x114, 0, 1, 0, 0, .rw, .w, (.const 0)⟩
/-- TDM RW: 1: take up no new descriptor -/
def TDM_CTL_PAUSE : Fld := ⟨0x39, 0x114, 0, 1, 1, 1, .rw, .v, (.const 0)⟩
/-- TDM RO: 1: a descriptor is in progress -/
def TDM_STAT_BUSY : Fld := ⟨0x39, 0x118, 0, 1, 0, 0, .ro, .v, (.const 0)⟩
/-- TDM RO: 1: completing descriptors with HEADLESS -/
def TDM_STAT_HEADLESS : Fld := ⟨0x39, 0x118, 0, 1, 1, 1, .ro, .v, (.const 0)⟩
/-- TDM RO: 1: stopped by containment -/
def TDM_STAT_CONTAINED : Fld := ⟨0x39, 0x118, 0, 1, 2, 2, .ro, .v, (.const 0)⟩
/-- TDM RO: OP in progress -/
def TDM_STAT_OP : Fld := ⟨0x39, 0x118, 0, 1, 15, 8, .ro, .v, (.const 0)⟩
/-- TDM RW: Profile for APPLY (R204) -/
def TDM_PROFILE_SEL : Fld := ⟨0x39, 0x120, 0, 1, 1, 0, .rw, .w, (.const 1)⟩
/-- TDM WO: 1: apply SEL -/
def TDM_PROFILE_APPLY : Fld := ⟨0x39, 0x120, 0, 1, 8, 8, .wo, .v, (.const 0)⟩
/-- TDM RO: DMA-lane waits for a lock -/
def TDM_LOCK_WAITS : Fld := ⟨0x39, 0x128, 0, 1, 63, 0, .ro, .v, (.const 0)⟩
/-- TDM RO: Bytes moved -/
def TDM_BYTES : Fld := ⟨0x39, 0x130, 0, 1, 63, 0, .ro, .v, (.const 0)⟩
/-- TDM RO: STATUS of the last completion other than OK -/
def TDM_LAST_STATUS : Fld := ⟨0x39, 0x138, 0, 1, 7, 0, .ro, .v, (.const 0)⟩
/-- TDM RO: Its ART_STATUS -/
def TDM_LAST_ART_STATUS : Fld := ⟨0x39, 0x138, 0, 1, 15, 8, .ro, .v, (.const 0)⟩
/-- TDM RO: Its ring index -/
def TDM_LAST_IDX : Fld := ⟨0x39, 0x138, 0, 1, 31, 16, .ro, .v, (.const 0)⟩
/-- SHD RW: 1: compare (R206) -/
def SHD_CTL_EN : Fld := ⟨0x3A, 0x100, 0, 1, 0, 0, .rw, .w, (.const 0)⟩
/-- SHD RW: 1: correct confirmed findings (R208) -/
def SHD_CTL_CORRECT : Fld := ⟨0x3A, 0x100, 0, 1, 1, 1, .rw, .w, (.const 0)⟩
/-- SHD RW: Seconds per pass; 0: no compare -/
def SHD_CTL_PERIOD : Fld := ⟨0x3A, 0x100, 0, 1, 31, 16, .rw, .w, (.const 600)⟩
/-- SHD RW: Confirmation delay; 0: confirm at once -/
def SHD_CONFIRM_EPOCHS : Fld := ⟨0x3A, 0x104, 0, 1, 15, 0, .rw, .w, (.const 800)⟩
/-- SHD RWS: LPM shadow address, a multiple of 64 -/
def SHD_LPM_BASE : Fld := ⟨0x3A, 0x108, 0, 1, 63, 0, .rws, .w, (.const 0)⟩
/-- SHD RWS: Nodes; 0: LPM not compared -/
def SHD_LPM_COUNT_N : Fld := ⟨0x3A, 0x110, 0, 1, 23, 0, .rws, .w, (.const 0)⟩
/-- SHD RWS: Generation that the shadow matches -/
def SHD_LPM_GEN_GEN : Fld := ⟨0x3A, 0x114, 0, 1, 15, 0, .rws, .w, (.const 0)⟩
/-- SHD RW: Exact-match shadow address, a multiple of 64 -/
def SHD_EXM_BASE : Fld := ⟨0x3A, 0x118, 0, 1, 63, 0, .rw, .w, (.const 0)⟩
/-- SHD RW: Slots; 0: exact match not compared -/
def SHD_EXM_COUNT_N : Fld := ⟨0x3A, 0x120, 0, 1, 25, 0, .rw, .w, (.const 0)⟩
/-- SHD RO: 1: comparing -/
def SHD_STAT_RUNNING : Fld := ⟨0x3A, 0x124, 0, 1, 0, 0, .ro, .v, (.const 0)⟩
/-- SHD RO: 1: SHD_LPM_GEN ≠ LPM PG_GEN.ACTIVE -/
def SHD_STAT_GEN_WAIT : Fld := ⟨0x3A, 0x124, 0, 1, 1, 1, .ro, .v, (.const 0)⟩
/-- SHD RO: 1: held under R210 or by 16 waiting findings -/
def SHD_STAT_HELD : Fld := ⟨0x3A, 0x124, 0, 1, 2, 2, .ro, .v, (.const 0)⟩
/-- SHD RO: 1: profile is not MAXIMAL -/
def SHD_STAT_NOT_MAXIMAL : Fld := ⟨0x3A, 0x124, 0, 1, 3, 3, .ro, .v, (.const 0)⟩
/-- SHD RO: Next LPM entry -/
def SHD_LPM_POS_K : Fld := ⟨0x3A, 0x128, 0, 1, 23, 0, .ro, .v, (.const 0)⟩
/-- SHD RO: Next exact-match entry -/
def SHD_EXM_POS_K : Fld := ⟨0x3A, 0x12C, 0, 1, 25, 0, .ro, .v, (.const 0)⟩
/-- SHD RO: Passes completed, saturating at 0xFFFF -/
def SHD_PASSES_LPM : Fld := ⟨0x3A, 0x130, 0, 1, 15, 0, .ro, .v, (.const 0)⟩
/-- SHD RO: Passes completed, saturating at 0xFFFF -/
def SHD_PASSES_EXM : Fld := ⟨0x3A, 0x130, 0, 1, 31, 16, .ro, .v, (.const 0)⟩
/-- SHD RO: Confirmed findings -/
def SHD_MISMATCH : Fld := ⟨0x3A, 0x138, 0, 1, 63, 0, .ro, .v, (.const 0)⟩
/-- SHD RO: Findings corrected -/
def SHD_CORRECTED : Fld := ⟨0x3A, 0x140, 0, 1, 63, 0, .ro, .v, (.const 0)⟩
/-- BPM RW: Pool size in GiB, taken at APPLY; 0: absent -/
def BPM_POOL_n_SIZE : Fld := ⟨0x50, 0x100, 4, 4, 6, 0, .rw, .w, (.list [32, 24, 32, 32])⟩
/-- BPM RW: 0 FAIL, 1 FALLBACK (**R219**); takes effect at once -/
def BPM_POOL_n_MODE : Fld := ⟨0x50, 0x100, 4, 4, 8, 8, .rw, .w, (.const 1)⟩
/-- BPM WO: 1: apply the SIZE values (**R215**) -/
def BPM_CMD_APPLY : Fld := ⟨0x50, 0x110, 0, 1, 0, 0, .wo, .v, (.const 0)⟩
/-- BPM RO: 1: the free store is being rebuilt -/
def BPM_STAT_REBUILDING : Fld := ⟨0x50, 0x114, 0, 1, 0, 0, .ro, .v, (.const 0)⟩
/-- BPM RO: Free buffers of the pool, cache included -/
def BPM_FREE_n_COUNT : Fld := ⟨0x50, 0x120, 4, 4, 27, 0, .ro, .v, (.const 0)⟩
/-- BPM RO: Indices in the pool's cache, 0–4,096 -/
def BPM_CACHE_n_FILL : Fld := ⟨0x50, 0x130, 4, 4, 12, 0, .ro, .v, (.const 0)⟩
/-- BPM RO: First byte of the pool; 0 when absent -/
def BPM_BASE_n : Fld := ⟨0x50, 0x140, 8, 4, 63, 0, .ro, .w, (.list [0x0200000000, 0x0A00000000, 0x1000000000, 0x1800000000])⟩
/-- BPM RO: Failed allocations selecting the pool (R37) -/
def BPM_FAIL_n : Fld := ⟨0x50, 0x160, 8, 4, 63, 0, .ro, .v, (.const 0)⟩
/-- BPM RO: Allocations that fell back from the pool -/
def BPM_FALLBACK_n : Fld := ⟨0x50, 0x180, 8, 4, 63, 0, .ro, .v, (.const 0)⟩
/-- BPM RO: Free descriptors -/
def BPM_DESC_FREE_COUNT : Fld := ⟨0x50, 0x1A0, 0, 1, 27, 0, .ro, .v, (.const 0)⟩
/-- ADM RWS: Assert threshold; 0: never assert -/
def ADM_PROF_k_XOFF_KIB : Fld := ⟨0x51, 0x100, 16, 16, 20, 0, .rws, .w, (.const 1024)⟩
/-- ADM RWS: Release threshold (**R223**) -/
def ADM_PROF_k_XON_KIB : Fld := ⟨0x51, 0x104, 16, 16, 20, 0, .rws, .w, (.const 768)⟩
/-- ADM RWS: Hard limit; 0: port-class closed -/
def ADM_PROF_k_LIMIT_KIB : Fld := ⟨0x51, 0x108, 16, 16, 20, 0, .rws, .w, (.const 1600)⟩
/-- ADM RWS: Profile of class c in bits [4c+3:4c] -/
def ADM_MAP_p : Fld := ⟨0x51, 0x200, 4, 160, 31, 0, .rws, .w, (.const 0)⟩
/-- ADM RWS: Bit j: port 32k + j may cut through -/
def ADM_CT_k_PORTS : Fld := ⟨0x51, 0x480, 4, 5, 31, 0, .rws, .w, (.const 0)⟩
/-- ADM RWS: Fabric reserve in KiB; 0: class closed to fabric arrivals -/
def ADM_FAB_c_RSV : Fld := ⟨0x51, 0x4A0, 4, 8, 23, 0, .rws, .w, (.const 65536)⟩
/-- ADM RWS: Packets held for punt ring r; 0: none -/
def ADM_PUNT_r_MAX : Fld := ⟨0x51, 0x4C0, 4, 16, 15, 0, .rws, .w, (.const 4096)⟩
/-- ADM RWS: Copies held for mirror session s; 0: none -/
def ADM_MIR_s_MAX : Fld := ⟨0x51, 0x500, 4, 16, 15, 0, .rws, .w, (.const 4096)⟩
/-- ADM RW: Port shown in ADM_OCC; 160–255 show 0 -/
def ADM_OCC_SEL_PORT : Fld := ⟨0x51, 0x540, 0, 1, 7, 0, .rw, .v, (.const 0)⟩
/-- ADM RW: Class shown in ADM_OCC -/
def ADM_OCC_SEL_CLASS : Fld := ⟨0x51, 0x540, 0, 1, 10, 8, .rw, .v, (.const 0)⟩
/-- ADM RO: OCC of the selected port and class, rounded down -/
def ADM_OCC_KIB : Fld := ⟨0x51, 0x544, 0, 1, 24, 0, .ro, .v, (.const 0)⟩
/-- ADM RO: 1: back-pressure asserted for it -/
def ADM_OCC_XOFF : Fld := ⟨0x51, 0x544, 0, 1, 31, 31, .ro, .v, (.const 0)⟩
/-- ADM RO: FOCC(c), rounded down -/
def ADM_FOCC_c_KIB : Fld := ⟨0x51, 0x560, 4, 8, 24, 0, .ro, .v, (.const 0)⟩
/-- ADM RO: LIMIT drops (R37) -/
def ADM_DROP_LIMIT : Fld := ⟨0x51, 0x580, 0, 1, 63, 0, .ro, .v, (.const 0)⟩
/-- ADM RO: Stored packets dropped as bad at the tail -/
def ADM_TAIL_DROP : Fld := ⟨0x51, 0x588, 0, 1, 63, 0, .ro, .v, (.const 0)⟩
/-- ADM RO: Frames stomped or poisoned by this device -/
def ADM_STOMP : Fld := ⟨0x51, 0x590, 0, 1, 63, 0, .ro, .v, (.const 0)⟩
/-- ADM RO: POISON arrivals dropped or stomped -/
def ADM_POISON_DROP : Fld := ⟨0x51, 0x598, 0, 1, 63, 0, .ro, .v, (.const 0)⟩
/-- ADM RO: Copies not made, and traps dropped, under **R227** -/
def ADM_COPY_DROP : Fld := ⟨0x51, 0x5A0, 0, 1, 63, 0, .ro, .v, (.const 0)⟩
/-- ADM RO: Packets cut through -/
def ADM_CUT : Fld := ⟨0x51, 0x5A8, 0, 1, 63, 0, .ro, .v, (.const 0)⟩
/-- ADM RO: Bit j: back-pressure asserted for port (32k + j) ÷ 8, rounded down, class (32k + j) mod 8 -/
def ADM_XOFF_STAT_k : Fld := ⟨0x51, 0x600, 4, 40, 31, 0, .ro, .v, (.const 0)⟩
/-- QM RWS: RESIDENCE_MAX in ms; values above 10,000 act as 10,000; 0: no age discards (R252) -/
def QM_RESIDENCE_MS : Fld := ⟨0x52, 0x100, 0, 1, 13, 0, .rws, .w, (.const 200)⟩
/-- QM RW: Queue shown below; with VOQ = 1, bits [15:0] name a VOQ -/
def QM_QSEL_QUEUE : Fld := ⟨0x52, 0x104, 0, 1, 18, 0, .rw, .v, (.const 0)⟩
/-- QM RW: 1: show a VOQ -/
def QM_QSEL_VOQ : Fld := ⟨0x52, 0x104, 0, 1, 31, 31, .rw, .v, (.const 0)⟩
/-- QM RO: Packets in the selected queue -/
def QM_DEPTH_PKTS : Fld := ⟨0x52, 0x108, 0, 1, 27, 0, .ro, .v, (.const 0)⟩
/-- QM RO: Buffer bytes in it, in KiB, rounded down -/
def QM_DEPTH_KIB_KIB : Fld := ⟨0x52, 0x10C, 0, 1, 27, 0, .ro, .v, (.const 0)⟩
/-- QM RO: Age of its head packet in µs; 0 when empty -/
def QM_HEAD_AGE_US : Fld := ⟨0x52, 0x110, 0, 1, 31, 0, .ro, .v, (.const 0)⟩
/-- QM RO: Discards under R252 (R37) -/
def QM_AGED : Fld := ⟨0x52, 0x118, 0, 1, 63, 0, .ro, .v, (.const 0)⟩
/-- QM RO: Discards under R253 -/
def QM_AGED_SCAN : Fld := ⟨0x52, 0x120, 0, 1, 63, 0, .ro, .v, (.const 0)⟩
/-- QM RO: Packets and copies entering egress queues -/
def QM_ENQ : Fld := ⟨0x52, 0x128, 0, 1, 63, 0, .ro, .v, (.const 0)⟩
/-- QM RWS: Base S-node of port p (R235) -/
def QM_PORT_p_SNODE_BASE : Fld := ⟨0x52, 0x400, 8, 160, 15, 0, .rws, .w, (.mul 256)⟩
/-- QM RWS: META bits added to the base; 0: base only -/
def QM_PORT_p_MASK_MASK : Fld := ⟨0x52, 0x404, 8, 160, 15, 0, .rws, .w, (.const 0)⟩
/-- SCH RO: Slice entries reserved in the on-die store under R239, 0–524,288 -/
def SCH_BUF_USED : Fld := ⟨0x53, 0x100, 0, 1, 19, 0, .ro, .s, (.const 0)⟩
/-- SCH RW: Port whose counters are shown; 160–255 show 0 -/
def SCH_SEL_PORT : Fld := ⟨0x53, 0x104, 0, 1, 7, 0, .rw, .v, (.const 0)⟩
/-- SCH RO: Entry visits that sent at least one packet (R37) -/
def SCH_VISITS : Fld := ⟨0x53, 0x108, 0, 1, 63, 0, .ro, .v, (.const 0)⟩
/-- SCH RO: Entries skipped with no packet -/
def SCH_SKIP_EMPTY : Fld := ⟨0x53, 0x110, 0, 1, 63, 0, .ro, .v, (.const 0)⟩
/-- SCH RO: Entries skipped because every packet was gated -/
def SCH_SKIP_GATE : Fld := ⟨0x53, 0x118, 0, 1, 63, 0, .ro, .v, (.const 0)⟩
/-- SCH RO: Entries skipped for want of tokens -/
def SCH_SKIP_TOK : Fld := ⟨0x53, 0x120, 0, 1, 63, 0, .ro, .v, (.const 0)⟩
/-- SCH RO: Entries left unvisited at a boundary -/
def SCH_CUT : Fld := ⟨0x53, 0x128, 0, 1, 63, 0, .ro, .v, (.const 0)⟩
/-- SCH RO: Rope visits that sent -/
def SCH_ROPE : Fld := ⟨0x53, 0x130, 0, 1, 63, 0, .ro, .v, (.const 0)⟩
/-- SCH RO: ENTRIES count of port p's active calendar -/
def SCH_CAL_p_ENTRIES : Fld := ⟨0x53, 0x400, 8, 160, 16, 0, .ro, .s, (.const 0)⟩
/-- SCH RO: Its CYCLE; 0: absent -/
def SCH_CAL_p_CYCLE : Fld := ⟨0x53, 0x400, 8, 160, 27, 24, .ro, .s, (.const 0)⟩
/-- SCH RO: Generation of port p's active calendar; 0: never committed -/
def SCH_CAL_p_GEN_GEN : Fld := ⟨0x53, 0x404, 8, 160, 15, 0, .ro, .s, (.const 0)⟩
/-- SCH RO: 1: the staged bank holds a valid calendar -/
def SCH_CAL_p_GEN_STAGED : Fld := ⟨0x53, 0x404, 8, 160, 31, 31, .ro, .s, (.const 0)⟩
/-- SHP RW: Shaper index of R245 shown below; 598,176 and above show 0 -/
def SHP_SEL_NODE : Fld := ⟨0x54, 0x100, 0, 1, 19, 0, .rw, .v, (.const 0)⟩
/-- SHP RO: C of the selected node, signed -/
def SHP_TOK_C_BYTES : Fld := ⟨0x54, 0x104, 0, 1, 31, 0, .ro, .v, (.const 0)⟩
/-- SHP RO: P of the selected node, signed -/
def SHP_TOK_P_BYTES : Fld := ⟨0x54, 0x108, 0, 1, 31, 0, .ro, .v, (.const 0)⟩
/-- SHP RO: Shaper entries with PEND = 1 -/
def SHP_PEND_COUNT : Fld := ⟨0x54, 0x10C, 0, 1, 19, 0, .ro, .s, (.const 0)⟩
/-- SHP RWS: Signed bytes added to each charge (R247) -/
def SHP_PORT_p_OVERHEAD : Fld := ⟨0x54, 0x200, 4, 160, 7, 0, .rws, .w, (.const 20)⟩
/-- SHP RWS: Smallest charge in units of 16 B; 0: no minimum -/
def SHP_PORT_p_MIN : Fld := ⟨0x54, 0x200, 4, 160, 11, 8, .rws, .w, (.const 0)⟩
/-- POL RO: Packets leaving a policer green (R37) -/
def POL_GREEN : Fld := ⟨0x55, 0x100, 0, 1, 63, 0, .ro, .v, (.const 0)⟩
/-- POL RO: Packets leaving a policer yellow -/
def POL_YELLOW : Fld := ⟨0x55, 0x108, 0, 1, 63, 0, .ro, .v, (.const 0)⟩
/-- POL RO: Packets leaving a policer red, dropped or marked -/
def POL_RED : Fld := ⟨0x55, 0x110, 0, 1, 63, 0, .ro, .v, (.const 0)⟩
/-- POL RO: Red packets dropped (R249) -/
def POL_RED_DROPS : Fld := ⟨0x55, 0x118, 0, 1, 63, 0, .ro, .v, (.const 0)⟩
/-- POL RO: Policer of the last error -/
def POL_LAST_ERR_INDEX : Fld := ⟨0x55, 0x120, 0, 1, 19, 0, .ro, .v, (.const 0)⟩
/-- MCR RO: Counter updates applied (R37) -/
def MCR_RECORDS : Fld := ⟨0x58, 0x100, 0, 1, 63, 0, .ro, .v, (.const 0)⟩
/-- MCR RO: Records lost to a full queue (R251) -/
def MCR_LOST : Fld := ⟨0x58, 0x108, 0, 1, 63, 0, .ro, .v, (.const 0)⟩
/-- MCR RO: Records waiting, 0–65,536 -/
def MCR_STAT_BACKLOG : Fld := ⟨0x58, 0x110, 0, 1, 16, 0, .ro, .v, (.const 0)⟩
/-- MCR RO: Counter of the last uncorrectable read -/
def MCR_LAST_ERR_INDEX : Fld := ⟨0x58, 0x114, 0, 1, 23, 0, .ro, .v, (.const 0)⟩
/-- GATE WO: Port whose pending timetable is named -/
def GATE_TT_CMD_PORT : Fld := ⟨0x56, 0x100, 0, 1, 7, 0, .wo, .v, (.const 0)⟩
/-- GATE WO: 1: cancel it (R269) -/
def GATE_TT_CMD_CANCEL : Fld := ⟨0x56, 0x100, 0, 1, 8, 8, .wo, .v, (.const 0)⟩
/-- GATE RO: Port of the last cancel -/
def GATE_TT_RESULT_PORT : Fld := ⟨0x56, 0x104, 0, 1, 7, 0, .ro, .v, (.const 0)⟩
/-- GATE RO: 1 cancelled, 2 refused; 0: none yet -/
def GATE_TT_RESULT_STATUS : Fld := ⟨0x56, 0x104, 0, 1, 9, 8, .ro, .v, (.const 0)⟩
/-- GATE RWS: Classes governed by the cyclic list (R261) -/
def GATE_CFG_p_CYC_CLASSES : Fld := ⟨0x56, 0x400, 16, 160, 7, 0, .rws, .w, (.const 0)⟩
/-- GATE RWS: Classes governed by the timetable -/
def GATE_CFG_p_TT_CLASSES : Fld := ⟨0x56, 0x400, 16, 160, 15, 8, .rws, .w, (.const 0)⟩
/-- GATE RWS: 1: guard rule (R271) -/
def GATE_CFG_p_GUARD : Fld := ⟨0x56, 0x400, 16, 160, 16, 16, .rws, .w, (.const 0)⟩
/-- GATE RWS: Margin in ns, 0–4,095 -/
def GATE_CFG_p_GUARD_NS : Fld := ⟨0x56, 0x400, 16, 160, 31, 20, .rws, .w, (.const 0)⟩
/-- GATE RO: Gate states (R262) -/
def GATE_STAT_p_OPEN : Fld := ⟨0x56, 0x404, 16, 160, 7, 0, .ro, .v, (.const 255)⟩
/-- GATE RO: 1: a cyclic list runs under R266 -/
def GATE_STAT_p_CYC_ACTIVE : Fld := ⟨0x56, 0x404, 16, 160, 8, 8, .ro, .v, (.const 0)⟩
/-- GATE RO: 1: holding before S (R267) -/
def GATE_STAT_p_CYC_HOLD : Fld := ⟨0x56, 0x404, 16, 160, 9, 9, .ro, .v, (.const 0)⟩
/-- GATE RO: 1: a timetable awaits takeover -/
def GATE_STAT_p_TT_PENDING : Fld := ⟨0x56, 0x404, 16, 160, 10, 10, .ro, .s, (.const 0)⟩
/-- GATE RO: 1: a timetable has taken over -/
def GATE_STAT_p_TT_ACTIVE : Fld := ⟨0x56, 0x404, 16, 160, 11, 11, .ro, .s, (.const 0)⟩
/-- GATE W1C: Set under R267 -/
def GATE_STAT_p_LATE_START : Fld := ⟨0x56, 0x404, 16, 160, 12, 12, .w1c, .s, (.const 0)⟩
/-- GATE RO: Set under R272 -/
def GATE_STAT_p_CYC_FAULT : Fld := ⟨0x56, 0x404, 16, 160, 13, 13, .ro, .s, (.const 0)⟩
/-- GATE W1C: Set under R269 -/
def GATE_STAT_p_TT_LATE : Fld := ⟨0x56, 0x404, 16, 160, 14, 14, .w1c, .s, (.const 0)⟩
/-- GATE RO: Entries in the active cyclic list -/
def GATE_CYC_p_ENTRIES : Fld := ⟨0x56, 0x408, 16, 160, 10, 0, .ro, .s, (.const 0)⟩
/-- GATE RO: Generation of the active list; 0: never committed -/
def GATE_CYC_p_GEN : Fld := ⟨0x56, 0x408, 16, 160, 31, 16, .ro, .s, (.const 0)⟩
/-- GATE RO: Entries in the active timetable -/
def GATE_TT_p_ENTRIES : Fld := ⟨0x56, 0x40C, 16, 160, 12, 0, .ro, .s, (.const 0)⟩
/-- GATE RO: Index of the next entry to apply -/
def GATE_TT_p_NEXT : Fld := ⟨0x56, 0x40C, 16, 160, 28, 16, .ro, .v, (.const 0)⟩
/-- LAT RW: 1: sample and write (R275) -/
def LAT_CTL_EN : Fld := ⟨0x57, 0x100, 0, 1, 0, 0, .rw, .w, (.const 0)⟩
/-- LAT RW: Host address, a multiple of 4 KiB (R38) -/
def LAT_HOST_BASE : Fld := ⟨0x57, 0x108, 0, 1, 63, 0, .rw, .w, (.const 0)⟩
/-- LAT RW: Head-delay threshold in µs; 0: nothing counted -/
def LAT_THRESH_US : Fld := ⟨0x57, 0x110, 0, 1, 23, 0, .rw, .w, (.const 0)⟩
/-- LAT RW: Watched entry reached through LAT_WDATA -/
def LAT_WIDX_IDX : Fld := ⟨0x57, 0x114, 0, 1, 10, 0, .rw, .v, (.const 0)⟩
/-- LAT RWS: Egress queue, or a VOQ in [15:0] when VOQ = 1 -/
def LAT_WDATA_QUEUE : Fld := ⟨0x57, 0x118, 0, 1, 18, 0, .rws, .w, (.const 0)⟩
/-- LAT RWS: 1: the entry names a VOQ -/
def LAT_WDATA_VOQ : Fld := ⟨0x57, 0x118, 0, 1, 30, 30, .rws, .w, (.const 0)⟩
/-- LAT RWS: 1: entry in use -/
def LAT_WDATA_VALID : Fld := ⟨0x57, 0x118, 0, 1, 31, 31, .rws, .w, (.const 0)⟩
/-- LAT RO: Rotation slice of the current epoch -/
def LAT_STAT_SLICE : Fld := ⟨0x57, 0x11C, 0, 1, 6, 0, .ro, .v, (.const 0)⟩
/-- LAT RO: 1: writes discarded under containment -/
def LAT_STAT_HELD : Fld := ⟨0x57, 0x11C, 0, 1, 8, 8, .ro, .v, (.const 0)⟩
/-- LAT RO: Largest HEAD_DELAY of the last rotation, in 8 ns -/
def LAT_WORST_DELAY_UNITS : Fld := ⟨0x57, 0x120, 0, 1, 31, 0, .ro, .v, (.const 0)⟩
/-- LAT RO: Queue that had it -/
def LAT_WORST_Q_QUEUE : Fld := ⟨0x57, 0x124, 0, 1, 18, 0, .ro, .v, (.const 0)⟩
/-- LAT RO: Samples written (R37) -/
def LAT_SAMPLES : Fld := ⟨0x57, 0x128, 0, 1, 63, 0, .ro, .v, (.const 0)⟩
/-- LAT RO: Samples discarded (R276) -/
def LAT_LOST : Fld := ⟨0x57, 0x130, 0, 1, 63, 0, .ro, .v, (.const 0)⟩
/-- FAB RW: Device ID (R287) -/
def FAB_ID_ID : Fld := ⟨0x70, 0x100, 0, 1, 12, 0, .rw, .w, .strap⟩
/-- FAB RW: 1: ID assigned -/
def FAB_ID_VALID : Fld := ⟨0x70, 0x100, 0, 1, 31, 31, .rw, .w, (.const 0)⟩
/-- FAB RW: 1: check R289 -/
def FAB_CFG_WIRING_CHECK : Fld := ⟨0x70, 0x104, 0, 1, 0, 0, .rw, .w, (.const 1)⟩
/-- FAB RW: 1: single-group system (R289) -/
def FAB_CFG_ONE_GROUP : Fld := ⟨0x70, 0x104, 0, 1, 1, 1, .rw, .w, (.const 0)⟩
/-- FAB RW: Own fabric interface version; written by firmware -/
def FAB_IFV_IFV : Fld := ⟨0x70, 0x108, 0, 1, 15, 0, .rw, .w, (.const 0)⟩
/-- FAB RW: Lowest peer minor accepted -/
def FAB_IFV_MIN : Fld := ⟨0x70, 0x108, 0, 1, 23, 16, .rw, .w, (.const 0)⟩
/-- FAB RO: Links in UP, 0–40 -/
def FAB_STAT_UP : Fld := ⟨0x70, 0x10C, 0, 1, 5, 0, .ro, .v, (.const 0)⟩
/-- FAB RO: STRAP[5] as sampled -/
def FAB_STAT_STRAP_ID : Fld := ⟨0x70, 0x10C, 0, 1, 6, 6, .ro, .w, .strap⟩
/-- FLK RW: 1: bring the link up -/
def FLK_CTL_EN : Fld := ⟨0x72, 0x100, 64, 5, 0, 0, .rw, .w, (.const 0)⟩
/-- FLK RW: 1: transmitters idle -/
def FLK_CTL_TX_DIS : Fld := ⟨0x72, 0x100, 64, 5, 1, 1, .rw, .w, (.const 0)⟩
/-- FLK WO: 1: retrain (R285) -/
def FLK_CTL_RESTART : Fld := ⟨0x72, 0x100, 64, 5, 2, 2, .wo, .v, (.const 0)⟩
/-- FLK RW: Bit l: invert lane l on transmit (R281) -/
def FLK_LANE_TX_INV : Fld := ⟨0x72, 0x104, 64, 5, 3, 0, .rw, .w, (.const 0)⟩
/-- FLK RW: Bit l: invert lane l on receive -/
def FLK_LANE_RX_INV : Fld := ⟨0x72, 0x104, 64, 5, 7, 4, .rw, .w, (.const 0)⟩
/-- FLK RO: 0 OFF, 1 TRAINING, 2 HELLO, 3 UP, 4 INCOMPAT, 5 MISWIRED; 6–7 are never read -/
def FLK_STAT_STATE : Fld := ⟨0x72, 0x108, 64, 5, 2, 0, .ro, .v, (.const 0)⟩
/-- FLK RO: Check of R286 that last failed; 0 none -/
def FLK_STAT_CAUSE : Fld := ⟨0x72, 0x108, 64, 5, 11, 8, .ro, .v, (.const 0)⟩
/-- FLK RO: Peer device ID -/
def FLK_PEER_ID : Fld := ⟨0x72, 0x10C, 64, 5, 12, 0, .ro, .v, (.const 0)⟩
/-- FLK RO: Peer's link index -/
def FLK_PEER_LINK : Fld := ⟨0x72, 0x10C, 64, 5, 21, 16, .ro, .v, (.const 0)⟩
/-- FLK RO: Peer's ID_VALID -/
def FLK_PEER_ID_VALID : Fld := ⟨0x72, 0x10C, 64, 5, 31, 31, .ro, .v, (.const 0)⟩
/-- FLK RO: Peer IFV -/
def FLK_PEER_IFV_IFV : Fld := ⟨0x72, 0x110, 64, 5, 15, 0, .ro, .v, (.const 0)⟩
/-- FLK RO: Peer IFV_MIN -/
def FLK_PEER_IFV_MIN : Fld := ⟨0x72, 0x110, 64, 5, 23, 16, .ro, .v, (.const 0)⟩
/-- FLK RO: Peer serial number (R37) -/
def FLK_PEER_SERIAL : Fld := ⟨0x72, 0x114, 64, 5, 63, 0, .ro, .v, (.const 0)⟩
/-- FLK RW: Signed, 2⁻⁸ ns (R294) -/
def FLK_ASYM_ASYM : Fld := ⟨0x72, 0x11C, 64, 5, 31, 0, .rw, .w, (.const 0)⟩
/-- FLK RO: Last mean path, 2⁻⁸ ns -/
def FLK_DELAY_MEAN : Fld := ⟨0x72, 0x120, 64, 5, 31, 0, .ro, .v, (.const 0)⟩
/-- FLK RO: Credits held -/
def FLK_CREDIT_01_VC0 : Fld := ⟨0x72, 0x124, 64, 5, 11, 0, .ro, .v, (.const 0)⟩
/-- FLK RO: Credits held -/
def FLK_CREDIT_01_VC1 : Fld := ⟨0x72, 0x124, 64, 5, 27, 16, .ro, .v, (.const 0)⟩
/-- FLK RO: Credits held -/
def FLK_CREDIT_2_VC2 : Fld := ⟨0x72, 0x128, 64, 5, 11, 0, .ro, .v, (.const 0)⟩
/-- FLK RO: Cells sent, all kinds -/
def FLK_CELLS_TX : Fld := ⟨0x72, 0x130, 64, 5, 63, 0, .ro, .v, (.const 0)⟩
/-- FLK RO: Good cells received -/
def FLK_CELLS_RX : Fld := ⟨0x72, 0x138, 64, 5, 63, 0, .ro, .v, (.const 0)⟩
/-- D2D RO: 1: trained (R295) -/
def D2D_STAT_UP : Fld := ⟨0x7C, 0x100, 0, 1, 0, 0, .ro, .v, (.const 0)⟩
/-- D2D RO: 1: the Cygil-F replica follows the spine (R10) -/
def D2D_STAT_TIME_LOCK : Fld := ⟨0x7C, 0x100, 0, 1, 1, 1, .ro, .v, (.const 0)⟩
/-- D2D RO: Bit c: channel c carries traffic -/
def D2D_STAT_CH_USED : Fld := ⟨0x7C, 0x100, 0, 1, 31, 16, .ro, .v, (.const 0)⟩
/-- D2D RO: Bits [2c+1:2c]: spares used by channel c -/
def D2D_REPAIR_SPARES : Fld := ⟨0x7C, 0x104, 0, 1, 31, 0, .ro, .v, (.const 0)⟩
/-- D2D RO: Flits replayed (R37) -/
def D2D_REPLAYS : Fld := ⟨0x7C, 0x108, 0, 1, 63, 0, .ro, .v, (.const 0)⟩
/-- D2D RO: Replica offset from the spine, signed, 2⁻⁸ ns -/
def D2D_TIME_OFS_OFS : Fld := ⟨0x7C, 0x110, 0, 1, 31, 0, .ro, .v, (.const 0)⟩
/-- FRT RO: Entries in the active route table; 0: no routes -/
def FRT_STAT_ENTRIES : Fld := ⟨0x71, 0x100, 0, 1, 13, 0, .ro, .s, (.const 0)⟩
/-- FRT RO: Entries in the staged table -/
def FRT_STAT_STAGED : Fld := ⟨0x71, 0x100, 0, 1, 29, 16, .ro, .s, (.const 0)⟩
/-- FRT RO: 1 no route, 2 hops, 3 no bank, 4 no link, 5 parity; 0 none -/
def FRT_LAST_ERR_KIND : Fld := ⟨0x71, 0x104, 0, 1, 2, 0, .ro, .v, (.const 0)⟩
/-- FRT RO: DEST of that cell -/
def FRT_LAST_ERR_DEST : Fld := ⟨0x71, 0x104, 0, 1, 28, 16, .ro, .v, (.const 0)⟩
/-- FRT RO: Cells originated (R37) -/
def FRT_ORIG : Fld := ⟨0x71, 0x108, 0, 1, 63, 0, .ro, .v, (.const 0)⟩
/-- FRT RO: Cells relayed -/
def FRT_RELAY : Fld := ⟨0x71, 0x110, 0, 1, 63, 0, .ro, .v, (.const 0)⟩
/-- FRT RO: Cells delivered here -/
def FRT_DELIVER : Fld := ⟨0x71, 0x118, 0, 1, 63, 0, .ro, .v, (.const 0)⟩
/-- FRT RO: Cells dropped under R305 -/
def FRT_DROPS : Fld := ⟨0x71, 0x120, 0, 1, 63, 0, .ro, .v, (.const 0)⟩
/-- FMC RO: Entries in the active tree table; 0: no trees -/
def FMC_STAT_ENTRIES : Fld := ⟨0x7A, 0x100, 0, 1, 16, 0, .ro, .s, (.const 0)⟩
/-- FMC RO: Group of the last counted event -/
def FMC_LAST_ERR_GROUP : Fld := ⟨0x7A, 0x104, 0, 1, 15, 0, .ro, .v, (.const 0)⟩
/-- FMC RW: Rate of fabric multicast queue c in Mb/s; 0: no fabric multicast in class c -/
def FMC_RATE_c_MBPS : Fld := ⟨0x7A, 0x120, 4, 8, 23, 0, .rw, .w, (.const 1000000)⟩
/-- FMC RO: Cells replicated in passing (R37) -/
def FMC_REPL : Fld := ⟨0x7A, 0x140, 0, 1, 63, 0, .ro, .v, (.const 0)⟩
/-- FMC RO: Local copies made from fabric arrivals -/
def FMC_LOCAL : Fld := ⟨0x7A, 0x148, 0, 1, 63, 0, .ro, .v, (.const 0)⟩
/-- FCR RW: Grant size; 0: no grants, so unicast fabric traffic stops -/
def FCR_GRANT_KIB : Fld := ⟨0x7B, 0x100, 0, 1, 11, 0, .rw, .w, (.const 16)⟩
/-- FCR RW: Request repeat interval; 0: no repeats -/
def FCR_REQ_RETRY_US : Fld := ⟨0x7B, 0x104, 0, 1, 15, 0, .rw, .w, (.const 10)⟩
/-- FCR RW: Empty boundaries before unused credit returns; 0: at the first -/
def FCR_RETURN_EPOCHS : Fld := ⟨0x7B, 0x108, 0, 1, 7, 0, .rw, .w, (.const 1)⟩
/-- FCR RW: Gap wait (R309); 0: a gap is lost at once -/
def FCR_REORDER_NS : Fld := ⟨0x7B, 0x10C, 0, 1, 23, 0, .rw, .w, (.const 20000)⟩
/-- FCR RO: Cells in the reorder store, 0–16,384 -/
def FCR_STORE_USED : Fld := ⟨0x7B, 0x110, 0, 1, 14, 0, .ro, .v, (.const 0)⟩
/-- FCR RW: Device shown -/
def FCR_SEL_DEV : Fld := ⟨0x7B, 0x114, 0, 1, 12, 0, .rw, .v, (.const 0)⟩
/-- FCR RW: Class shown -/
def FCR_SEL_CLASS : Fld := ⟨0x7B, 0x114, 0, 1, 18, 16, .rw, .v, (.const 0)⟩
/-- FCR RO: Credit held toward the selected device, signed -/
def FCR_CREDIT_UNITS : Fld := ⟨0x7B, 0x118, 0, 1, 31, 0, .ro, .v, (.const 0)⟩
/-- FCR RO: OUT granted to the selected source -/
def FCR_OUT_UNITS : Fld := ⟨0x7B, 0x11C, 0, 1, 31, 0, .ro, .v, (.const 0)⟩
/-- FCR RO: Grant cells sent (R37) -/
def FCR_GRANTS : Fld := ⟨0x7B, 0x120, 0, 1, 63, 0, .ro, .v, (.const 0)⟩
/-- FCR RO: Cells declared lost -/
def FCR_LOST_CELLS : Fld := ⟨0x7B, 0x128, 0, 1, 63, 0, .ro, .v, (.const 0)⟩
/-- FCR RO: Packets discarded (R310) -/
def FCR_REASM_DROPS : Fld := ⟨0x7B, 0x130, 0, 1, 63, 0, .ro, .v, (.const 0)⟩
/-- HBM WO: 1: initialise the stack (R331); ignored unless STATE is LOADED or FAILED -/
def HBM_CMD_INIT : Fld := ⟨0x60, 0x100, 0, 1, 0, 0, .wo, .v, (.const 0)⟩
/-- HBM RO: 0 OFF: domain off. 1 LOADED: domain powered and ready for delay writes (R331). 2 INIT, 3 RUN, 4 FAILED. ... -/
def HBM_STAT_STATE : Fld := ⟨0x60, 0x104, 0, 1, 2, 0, .ro, .w, (.const 0)⟩
/-- HBM RO: Pseudo-channel q that failed INIT -/
def HBM_STAT_FAIL_PC : Fld := ⟨0x60, 0x104, 0, 1, 7, 3, .ro, .w, (.const 0)⟩
/-- HBM RO: Band in use (R332) -/
def HBM_STAT_BAND : Fld := ⟨0x60, 0x104, 0, 1, 10, 8, .ro, .w, (.const 0)⟩
/-- HBM RO: 1: 400 ns windows (R327) -/
def HBM_STAT_HOT : Fld := ⟨0x60, 0x104, 0, 1, 11, 11, .ro, .w, (.const 0)⟩
/-- HBM RO: Last good reading, signed, 1/128 °C -/
def HBM_TEMP_TEMP : Fld := ⟨0x60, 0x108, 0, 1, 15, 0, .ro, .v, (.const 0)⟩
/-- HBM RO: 1: the last read failed -/
def HBM_TEMP_STALE : Fld := ⟨0x60, 0x108, 0, 1, 31, 31, .ro, .v, (.const 0)⟩
/-- HBM RW: Forced band -/
def HBM_BAND_CTL_BAND : Fld := ⟨0x60, 0x10C, 0, 1, 2, 0, .rw, .w, (.const 0)⟩
/-- HBM RW: 1: use BAND, from the next window -/
def HBM_BAND_CTL_FORCE : Fld := ⟨0x60, 0x10C, 0, 1, 3, 3, .rw, .w, (.const 0)⟩
/-- HBM RW: Band reached through HBM_DLY_DATA -/
def HBM_DLY_IDX_BAND : Fld := ⟨0x60, 0x110, 0, 1, 2, 0, .rw, .v, (.const 0)⟩
/-- HBM RW: Pseudo-channel q -/
def HBM_DLY_IDX_QPC : Fld := ⟨0x60, 0x110, 0, 1, 7, 3, .rw, .v, (.const 0)⟩
/-- HBM RW: Lane 0–39; 40–63 read 0, and writes to them are discarded -/
def HBM_DLY_IDX_LANE : Fld := ⟨0x60, 0x110, 0, 1, 13, 8, .rw, .v, (.const 0)⟩
/-- HBM RW: Read delay, 1/64 UI -/
def HBM_DLY_DATA_RD : Fld := ⟨0x60, 0x114, 0, 1, 6, 0, .rw, .w, (.const 0)⟩
/-- HBM RW: Write delay, 1/64 UI -/
def HBM_DLY_DATA_WR : Fld := ⟨0x60, 0x114, 0, 1, 14, 8, .rw, .w, (.const 0)⟩
/-- HBM RO: Locator of the last correction (R321) -/
def HBM_CE_LOC : Fld := ⟨0x60, 0x118, 0, 1, 63, 0, .ro, .v, (.const 0)⟩
/-- HBM RO: Locator of the last uncorrectable read -/
def HBM_UE_LOC : Fld := ⟨0x60, 0x120, 0, 1, 63, 0, .ro, .v, (.const 0)⟩
/-- HBM RO: Controller corrections (R37) -/
def HBM_CE : Fld := ⟨0x60, 0x128, 0, 1, 63, 0, .ro, .v, (.const 0)⟩
/-- HBM RO: Uncorrectable reads -/
def HBM_UE : Fld := ⟨0x60, 0x130, 0, 1, 63, 0, .ro, .v, (.const 0)⟩
/-- HBM RO: On-die corrections reported by the stack -/
def HBM_STACK_CE : Fld := ⟨0x60, 0x138, 0, 1, 63, 0, .ro, .v, (.const 0)⟩
/-- HBM RO: Next granule to scrub, as q × 2²¹ + k -/
def HBM_SCRUB_POS_GRANULE : Fld := ⟨0x60, 0x140, 0, 1, 25, 0, .ro, .v, (.const 0)⟩
/-- DRQ RW: Latency target; applies to requests accepted after the write; 0: urgency stays 0 -/
def DRQ_PORT_i_TARGET_NS : Fld := ⟨0x68, 0x100, 4, 8, 19, 0, .rw, .w, (.list [4000, 1500, 1000, 600, 8000, 20000, 2000, 50000])⟩
/-- DRQ RWS: Window pitch mod 5 (R327); 5–7 act as 0 -/
def DRQ_REF_PHASE : Fld := ⟨0x68, 0x120, 0, 1, 2, 0, .rws, .w, (.const 0)⟩
/-- DRQ RW: Write-drain start, in writes per pseudo-channel, 1–64; values above 64 act as 64; 0: no write drain -/
def DRQ_WQ_HIGH : Fld := ⟨0x68, 0x124, 0, 1, 6, 0, .rw, .w, (.const 48)⟩
/-- DRQ RW: Write-drain end; values at or above HIGH act as HIGH − 1 -/
def DRQ_WQ_LOW : Fld := ⟨0x68, 0x124, 0, 1, 14, 8, .rw, .w, (.const 16)⟩
/-- DRQ RW: Scrub period (R335); 0: no scrub -/
def DRQ_SCRUB_HOURS : Fld := ⟨0x68, 0x128, 0, 1, 7, 0, .rw, .w, (.const 24)⟩
/-- DRQ RW: Port shown below -/
def DRQ_SEL_PORT : Fld := ⟨0x68, 0x12C, 0, 1, 2, 0, .rw, .v, (.const 0)⟩
/-- DRQ RC: Largest age reached by a completed request of the port -/
def DRQ_LAT_MAX_NS : Fld := ⟨0x68, 0x130, 0, 1, 31, 0, .rc, .v, (.const 0)⟩
/-- DRQ RO: Requests accepted from the port (R37) -/
def DRQ_REQS : Fld := ⟨0x68, 0x138, 0, 1, 63, 0, .ro, .v, (.const 0)⟩
/-- DRQ RO: Requests of the port that reached urgency 3 -/
def DRQ_OVERDUE : Fld := ⟨0x68, 0x140, 0, 1, 63, 0, .ro, .v, (.const 0)⟩
/-- DRQ RO: Entries to in-order mode, all stacks (R325) -/
def DRQ_INORDER : Fld := ⟨0x68, 0x148, 0, 1, 63, 0, .ro, .v, (.const 0)⟩
/-- HIF RO: 1: DL_Active -/
def HIF_STAT_LINK_UP : Fld := ⟨0xB, 0x100, 0, 1, 0, 0, .ro, .v, (.const 0)⟩
/-- HIF RO: 1–5: Gen1–Gen5 -/
def HIF_STAT_SPEED : Fld := ⟨0xB, 0x100, 0, 1, 3, 1, .ro, .v, (.const 0)⟩
/-- HIF RO: 1, 2, 4 or 8 lanes -/
def HIF_STAT_WIDTH : Fld := ⟨0xB, 0x100, 0, 1, 7, 4, .ro, .v, (.const 0)⟩
/-- HIF RO: R352 -/
def HIF_STAT_CONTAINED : Fld := ⟨0xB, 0x100, 0, 1, 8, 8, .ro, .v, (.const 0)⟩
/-- HIF RO: First cause of the last containment (R352). Kept after RELEASE, until the next entry to containment or a ... -/
def HIF_STAT_CAUSE : Fld := ⟨0xB, 0x100, 0, 1, 11, 9, .ro, .v, (.const 0)⟩
/-- HIF RO: Bus Master Enable -/
def HIF_STAT_BME : Fld := ⟨0xB, 0x100, 0, 1, 12, 12, .ro, .v, (.const 0)⟩
/-- HIF WO: 1: end containment (R354) -/
def HIF_CMD_RELEASE : Fld := ⟨0xB, 0x104, 0, 1, 0, 0, .wo, .v, (.const 0)⟩
/-- HIF WO: 1: enter containment -/
def HIF_CMD_CONTAIN : Fld := ⟨0xB, 0x104, 0, 1, 1, 1, .wo, .v, (.const 0)⟩
/-- HIF RW: Completion timeout, 50–50,000 µs; 1–49 act as 50, above 50,000 as 50,000; 0: no timeout -/
def HIF_CTO_US : Fld := ⟨0xB, 0x108, 0, 1, 15, 0, .rw, .w, (.const 10000)⟩
/-- HIF RW: Punt hold in containment; 0: discard at once -/
def HIF_HOLD_MS : Fld := ⟨0xB, 0x10C, 0, 1, 15, 0, .rw, .w, (.const 100)⟩
/-- HIF RW: Remote transaction timeout (R358); 0: none -/
def HIF_MT_TIMEOUT_US : Fld := ⟨0xB, 0x110, 0, 1, 15, 0, .rw, .w, (.const 1000)⟩
/-- HIF RW: Punt ring for port 132 -/
def HIF_PORT132_RING : Fld := ⟨0xB, 0x114, 0, 1, 3, 0, .rw, .w, (.const 0)⟩
/-- HIF RO: Reads outstanding -/
def HIF_TAGS_OUTSTANDING : Fld := ⟨0xB, 0x118, 0, 1, 9, 0, .ro, .v, (.const 0)⟩
/-- HIF RO: Tags in quarantine -/
def HIF_TAGS_QUARANTINED : Fld := ⟨0xB, 0x118, 0, 1, 25, 16, .ro, .v, (.const 0)⟩
/-- HIF RO: Unsupported Request answers (R37) -/
def HIF_UR : Fld := ⟨0xB, 0x120, 0, 1, 63, 0, .ro, .v, (.const 0)⟩
/-- HIF RO: Completion timeouts -/
def HIF_CTO_CNT : Fld := ⟨0xB, 0x128, 0, 1, 63, 0, .ro, .v, (.const 0)⟩
/-- HIF RO: Late completions discarded -/
def HIF_LATE_CPL : Fld := ⟨0xB, 0x130, 0, 1, 63, 0, .ro, .v, (.const 0)⟩
/-- HIF RO: Punts discarded in containment -/
def HIF_PUNT_DISCARD : Fld := ⟨0xB, 0x138, 0, 1, 63, 0, .ro, .v, (.const 0)⟩
/-- HDM RW: Ring address, a multiple of 64 (R38) -/
def HDM_BASE_i : Fld := ⟨0xC, 0x100, 32, 36, 63, 0, .rw, .w, (.const 0)⟩
/-- HDM RW: Entries (R343); 0 or 1: no ring -/
def HDM_SIZE_i_COUNT : Fld := ⟨0xC, 0x108, 32, 36, 16, 0, .rw, .w, (.const 0)⟩
/-- HDM RW: HOST_IDX -/
def HDM_HOST_i_IDX : Fld := ⟨0xC, 0x10C, 32, 36, 15, 0, .rw, .v, (.const 0)⟩
/-- HDM RO: DEV_IDX -/
def HDM_DEV_i_IDX : Fld := ⟨0xC, 0x110, 32, 36, 15, 0, .ro, .v, (.const 0)⟩
/-- HDM RW: 1: ring in use -/
def HDM_CTL_i_EN : Fld := ⟨0xC, 0x114, 32, 36, 0, 0, .rw, .w, (.const 0)⟩
/-- HDM RW: Inject rings: class (R347) -/
def HDM_CTL_i_CLASS : Fld := ⟨0xC, 0x114, 32, 36, 3, 1, .rw, .w, (.const 0)⟩
/-- HDM RC: Records lost, error completions or punts discarded -/
def HDM_ERR_i_CNT : Fld := ⟨0xC, 0x118, 32, 36, 31, 0, .rc, .v, (.const 0)⟩
/-- HDM RO: Packets punted -/
def HDM_PUNTS : Fld := ⟨0xC, 0x600, 0, 1, 63, 0, .ro, .v, (.const 0)⟩
/-- HDM RO: Packets injected -/
def HDM_INJECTS : Fld := ⟨0xC, 0x608, 0, 1, 63, 0, .ro, .v, (.const 0)⟩
/-- MIR RW: Mirror address, a multiple of 4 KiB (R38) -/
def MIR_BASE : Fld := ⟨0xD, 0x100, 0, 1, 63, 0, .rw, .w, (.const 0)⟩
/-- MIR RW: 1: write the mirror -/
def MIR_CTL_EN : Fld := ⟨0xD, 0x108, 0, 1, 0, 0, .rw, .w, (.const 0)⟩
/-- MIR RW: Epochs, 1–4,096; values above 4,096 act as 4,096; 0: no mirror -/
def MIR_CTL_PERIOD : Fld := ⟨0xD, 0x108, 0, 1, 28, 16, .rw, .w, (.const 1)⟩
/-- MIR RO: SEQ of the last write -/
def MIR_SEQ_SEQ : Fld := ⟨0xD, 0x10C, 0, 1, 31, 0, .ro, .v, (.const 0)⟩
/-- MIR RO: Epoch [31:0] of the last write -/
def MIR_LAST_EPOCH : Fld := ⟨0xD, 0x110, 0, 1, 31, 0, .ro, .v, (.const 0)⟩
/-- WIN RW: MiB, 1–16; above 16 act as 16; 0: disabled -/
def WIN_n_STG_CFG_SIZE : Fld := ⟨0xE, 0x100, 32, 8, 4, 0, .rw, .w, (.first 1)⟩
/-- WIN RW: R357 -/
def WIN_n_STG_CFG_KIND : Fld := ⟨0xE, 0x100, 32, 8, 7, 5, .rw, .w, (.const 0)⟩
/-- WIN RW: 0 host only; 1 host and peers; 2 host and link-directed peers; 3 acts as 0 -/
def WIN_n_STG_CFG_PEER : Fld := ⟨0xE, 0x100, 32, 8, 9, 8, .rw, .w, (.first 2)⟩
/-- WIN RW: Target device, KIND 2 -/
def WIN_n_STG_TGT_DEV : Fld := ⟨0xE, 0x104, 32, 8, 12, 0, .rw, .w, (.const 0)⟩
/-- WIN RW: Target window, KIND 2 and 3 -/
def WIN_n_STG_TGT_RWIN : Fld := ⟨0xE, 0x104, 32, 8, 18, 16, .rw, .w, (.const 0)⟩
/-- WIN RW: Link 0–39, KIND 3 -/
def WIN_n_STG_TGT_LINK : Fld := ⟨0xE, 0x104, 32, 8, 29, 24, .rw, .w, (.const 0)⟩
/-- WIN RW: BASE, KIND 0 and 1 -/
def WIN_n_STG_BASE : Fld := ⟨0xE, 0x108, 32, 8, 63, 0, .rw, .w, (.const 0)⟩
/-- WIN RO: Active copy of STG_CFG -/
def WIN_n_ACT_CFG : Fld := ⟨0xE, 0x110, 32, 8, 31, 0, .ro, .w, (.first 513)⟩
/-- WIN RO: Active copy of STG_TGT -/
def WIN_n_ACT_TGT : Fld := ⟨0xE, 0x114, 32, 8, 31, 0, .ro, .w, (.const 0)⟩
/-- WIN RO: Active copy of STG_BASE -/
def WIN_n_ACT_BASE : Fld := ⟨0xE, 0x118, 32, 8, 63, 0, .ro, .w, (.const 0)⟩
/-- WIN WO: Bit n: swap window n (R359) -/
def WIN_SWAP_REQ : Fld := ⟨0xE, 0x200, 0, 1, 7, 0, .wo, .v, (.const 0)⟩
/-- WIN RO: Bit n: swap pending -/
def WIN_STAT_PENDING : Fld := ⟨0xE, 0x204, 0, 1, 7, 0, .ro, .v, (.const 0)⟩
/-- WIN RO: Held transactions failed (R37) -/
def WIN_SWAP_FAIL : Fld := ⟨0xE, 0x208, 0, 1, 63, 0, .ro, .v, (.const 0)⟩
/-- ICU RW: 1: global disable (R375) -/
def ICU_CTL_GDIS : Fld := ⟨0x8, 0x100, 0, 1, 0, 0, .rw, .v, (.const 0)⟩
/-- ICU RO: Reading claims (R373); 0xFFFF: none -/
def ICU_CLAIM_c_SRC : Fld := ⟨0x8, 0x110, 16, 4, 15, 0, .ro, .v, (.const 65535)⟩
/-- ICU WO: Ends service (R374) -/
def ICU_DONE_c_SRC : Fld := ⟨0x8, 0x114, 16, 4, 15, 0, .wo, .v, (.const 0)⟩
/-- ICU RO: Source in service; 0xFFFF: none -/
def ICU_INSVC_c_SRC : Fld := ⟨0x8, 0x118, 16, 4, 15, 0, .ro, .v, (.const 65535)⟩
/-- ICU RO: Core c's line -/
def ICU_INSVC_c_LINE : Fld := ⟨0x8, 0x118, 16, 4, 31, 31, .ro, .v, (.const 0)⟩
/-- ICU RO: Bit j: PEND of source 32k + j -/
def ICU_PEND_k : Fld := ⟨0x8, 0x150, 4, 4, 31, 0, .ro, .s, (.const 0)⟩
/-- ICU RW: Bit j: source 32k + j masked -/
def ICU_MASK_k : Fld := ⟨0x8, 0x160, 4, 4, 31, 0, .rw, .w, (.const 4294967295)⟩
/-- ICU RW: Bits [2i+1:2i]: core of source 16k + i -/
def ICU_ROUTE_k : Fld := ⟨0x8, 0x170, 4, 8, 31, 0, .rw, .w, (.const 0)⟩
/-- ICU RW: Hold-off in µs (R376); 0: none -/
def ICU_HOLDOFF_g_US : Fld := ⟨0x8, 0x190, 4, 16, 15, 0, .rw, .w, (.const 0)⟩
/-- ICU RO: 1: group held now -/
def ICU_HOLDOFF_g_HELD : Fld := ⟨0x8, 0x190, 4, 16, 31, 31, .ro, .v, (.const 0)⟩
/-- ICU RW: Filter clocks (R371); 0: source disabled -/
def ICU_GPIO_n_FILT : Fld := ⟨0x8, 0x1D0, 4, 8, 7, 0, .rw, .w, (.const 0)⟩
/-- ICU RW: 1: active low -/
def ICU_GPIO_n_POL : Fld := ⟨0x8, 0x1D0, 4, 8, 8, 8, .rw, .w, (.const 0)⟩
/-- ICU RW: 1: edge source (R370) -/
def ICU_GPIO_n_EDGE : Fld := ⟨0x8, 0x1D0, 4, 8, 9, 9, .rw, .w, (.const 0)⟩
/-- ICU WO: Bit n: pend source 120 + n -/
def ICU_DOORBELL_SET : Fld := ⟨0x8, 0x1F0, 0, 1, 7, 0, .wo, .v, (.const 0)⟩
/-- ICU RO: Source that ended the last STANDBY (R378) -/
def ICU_WAKE_SRC_SRC : Fld := ⟨0x8, 0x1F4, 0, 1, 6, 0, .ro, .v, (.const 0)⟩
/-- ICU RO: 1: SRC is valid -/
def ICU_WAKE_SRC_VALID : Fld := ⟨0x8, 0x1F4, 0, 1, 31, 31, .ro, .v, (.const 0)⟩
/-- MGT WO: 1: reset and reload core c; ignored for c = 0 -/
def MGT_CORE_c_CTL_RESET : Fld := ⟨0xA, 0x100, 16, 4, 0, 0, .wo, .v, (.const 0)⟩
/-- MGT RW: 1: halt (R366) -/
def MGT_CORE_c_CTL_HALT : Fld := ⟨0xA, 0x100, 16, 4, 1, 1, .rw, .v, (.const 0)⟩
/-- MGT RO: R366; 5–7 are never read -/
def MGT_CORE_c_STAT_STATE : Fld := ⟨0xA, 0x104, 16, 4, 2, 0, .ro, .v, (.const 0)⟩
/-- MGT RO: Reloads since COLD, saturating at 255 -/
def MGT_CORE_c_STAT_RESTARTS : Fld := ⟨0xA, 0x104, 16, 4, 15, 8, .ro, .s, (.const 0)⟩
/-- MGT RW: Watchdog in ms (R367); 0: none -/
def MGT_CORE_c_WDOG_MS : Fld := ⟨0xA, 0x108, 16, 4, 15, 0, .rw, .w, (.const 0)⟩
/-- MGT WO: 1: restart the watchdog -/
def MGT_CORE_c_KICK_KICK : Fld := ⟨0xA, 0x10C, 16, 4, 0, 0, .wo, .v, (.const 0)⟩
/-- MGT RW: Window start in management SRAM, in 4 KiB units of [23:12]; [11:0] read 0 -/
def MGT_AGENT_MEM_BASE : Fld := ⟨0xA, 0x140, 0, 1, 23, 0, .rw, .w, (.const 0)⟩
/-- MGT RW: Window size in 4 KiB units, up to 2,048 (8 MiB); 0: no window -/
def MGT_AGENT_MEM_SIZE_KIB : Fld := ⟨0xA, 0x144, 0, 1, 11, 0, .rw, .w, (.const 0)⟩
/-- MGT RW: Bit j: page 32k + j readable by the agent -/
def MGT_AGENT_RD_k : Fld := ⟨0xA, 0x150, 4, 4, 31, 0, .rw, .w, (.const 0)⟩
/-- MGT RW: Bit j: page 32k + j writable; bits for 0x00–0x0E ignored (R368) -/
def MGT_AGENT_WR_k : Fld := ⟨0xA, 0x160, 4, 4, 31, 0, .rw, .w, (.const 0)⟩
/-- MGT RO: Address of the last agent access fault -/
def MGT_AGENT_FAULT_ADDR : Fld := ⟨0xA, 0x170, 0, 1, 31, 0, .ro, .v, (.const 0)⟩
/-- MGT RO: 1: that access was a write -/
def MGT_AGENT_FAULT_INFO_WRITE : Fld := ⟨0xA, 0x174, 0, 1, 31, 31, .ro, .v, (.const 0)⟩
/-- SEC WO: 1: build a report (R399) -/
def SEC_CMD_ATTEST : Fld := ⟨0x6, 0x100, 0, 1, 0, 0, .wo, .v, (.const 0)⟩
/-- SEC WO: 1: burn fuses (R398) -/
def SEC_CMD_COMMIT : Fld := ⟨0x6, 0x100, 0, 1, 1, 1, .wo, .v, (.const 0)⟩
/-- SEC RO: 1: report in progress -/
def SEC_STAT_ATT_BUSY : Fld := ⟨0x6, 0x104, 0, 1, 0, 0, .ro, .v, (.const 0)⟩
/-- SEC RO: R402 -/
def SEC_STAT_ATT_STATUS : Fld := ⟨0x6, 0x104, 0, 1, 10, 8, .ro, .v, (.const 0)⟩
/-- SEC RO: 1: burning -/
def SEC_STAT_COMMIT_BUSY : Fld := ⟨0x6, 0x104, 0, 1, 16, 16, .ro, .v, (.const 0)⟩
/-- SEC RO: R398 -/
def SEC_STAT_COMMIT_STATUS : Fld := ⟨0x6, 0x104, 0, 1, 26, 24, .ro, .v, (.const 0)⟩
/-- SEC RW: Report address, a multiple of 64 (R38) -/
def SEC_ATT_ADDR : Fld := ⟨0x6, 0x108, 0, 1, 63, 0, .rw, .w, (.const 0)⟩
/-- SEC RW: Buffer bytes; 0: every request ends BAD_LEN -/
def SEC_ATT_LEN_BYTES : Fld := ⟨0x6, 0x110, 0, 1, 19, 0, .rw, .w, (.const 0)⟩
/-- SEC RW: Record kinds (R401); 0: no records -/
def SEC_ATT_SEL_SEL : Fld := ⟨0x6, 0x114, 0, 1, 2, 0, .rw, .w, (.const 7)⟩
/-- SEC RW: Nonce bytes 4k to 4k + 3 -/
def SEC_ATT_NONCE_k : Fld := ⟨0x6, 0x120, 4, 8, 31, 0, .rw, .v, (.const 0)⟩
/-- SEC RO: Rollback level, 0–64 -/
def SEC_LEVEL_ROLLBACK : Fld := ⟨0x6, 0x140, 0, 1, 6, 0, .ro, .w, .fuse⟩
/-- SEC RO: Bit n: slot n revoked -/
def SEC_LEVEL_REVOKED : Fld := ⟨0x6, 0x140, 0, 1, 11, 8, .ro, .w, .fuse⟩
/-- SEC RO: Unit ID [32k+31:32k] -/
def SEC_UNIT_ID_k : Fld := ⟨0x6, 0x150, 4, 4, 31, 0, .ro, .w, .fuse⟩
/-- SEC RW: Fuse dword of R404 -/
def SEC_FUSE_IDX_IDX : Fld := ⟨0x6, 0x160, 0, 1, 7, 0, .rw, .v, (.const 0)⟩
/-- SEC RO: The selected dword; each read advances IDX by 1, and 255 advances to 0 -/
def SEC_FUSE_DATA_DATA : Fld := ⟨0x6, 0x164, 0, 1, 31, 0, .ro, .w, .fuse⟩
/-- BOOT WO: 1: begin a Traverse (R392) -/
def BOOT_CMD_TRAVERSE : Fld := ⟨0x7, 0x100, 0, 1, 0, 0, .wo, .v, (.const 0)⟩
/-- BOOT WO: 1: end the headless interval (R394) -/
def BOOT_CMD_LIVE : Fld := ⟨0x7, 0x100, 0, 1, 1, 1, .wo, .v, (.const 0)⟩
/-- BOOT WO: 1: clear PENDING (R388) -/
def BOOT_CMD_UNSTAGE : Fld := ⟨0x7, 0x100, 0, 1, 2, 2, .wo, .v, (.const 0)⟩
/-- BOOT RWS: 1: Traverse at the commit (R396) -/
def BOOT_ACT_ARM : Fld := ⟨0x7, 0x104, 0, 1, 0, 0, .rws, .w, (.const 0)⟩
/-- BOOT RO: 1: headless interval in progress -/
def BOOT_STAT_HEADLESS : Fld := ⟨0x7, 0x108, 0, 1, 0, 0, .ro, .v, (.const 0)⟩
/-- BOOT RO: PENDING of the governing boot record -/
def BOOT_STAT_STAGED : Fld := ⟨0x7, 0x108, 0, 1, 1, 1, .ro, .w, (.const 0)⟩
/-- BOOT RO: 1: copy under R391 -/
def BOOT_STAT_COPYING : Fld := ⟨0x7, 0x108, 0, 1, 2, 2, .ro, .v, (.const 0)⟩
/-- BOOT W1C: R394 -/
def BOOT_STAT_LATE_LIVE : Fld := ⟨0x7, 0x108, 0, 1, 3, 3, .w1c, .s, (.const 0)⟩
/-- BOOT W1C: R389 -/
def BOOT_STAT_FALLBACK : Fld := ⟨0x7, 0x108, 0, 1, 4, 4, .w1c, .s, (.const 0)⟩
/-- BOOT RO: 0 A; 1 B; 2 staging, until the copy of R391 completes and SOURCE becomes 0; 3 none -/
def BOOT_STAT_SOURCE : Fld := ⟨0x7, 0x108, 0, 1, 6, 5, .ro, .s, (.const 3)⟩
/-- BOOT RO: Bytes staged in order (R388) -/
def BOOT_STG_BYTES : Fld := ⟨0x7, 0x10C, 0, 1, 24, 0, .ro, .w, (.const 0)⟩
/-- BOOT RO: Last refusal code (R386, R388) -/
def BOOT_LAST_CODE : Fld := ⟨0x7, 0x110, 0, 1, 7, 0, .ro, .s, (.const 0)⟩
/-- BOOT RO: 0 staging, 1 A, 2 B -/
def BOOT_LAST_CAND : Fld := ⟨0x7, 0x110, 0, 1, 9, 8, .ro, .s, (.const 0)⟩
/-- BOOT RO: 1: refused at a start; 0: on arrival -/
def BOOT_LAST_AT_START : Fld := ⟨0x7, 0x110, 0, 1, 10, 10, .ro, .s, (.const 0)⟩
/-- BOOT RO: VERSION of the running bundle -/
def BOOT_RUN_VER_VERSION : Fld := ⟨0x7, 0x114, 0, 1, 31, 0, .ro, .s, (.const 0)⟩
/-- BOOT RO: Its SVN -/
def BOOT_RUN_SVN_SVN : Fld := ⟨0x7, 0x118, 0, 1, 6, 0, .ro, .s, (.const 0)⟩
/-- BOOT RO: Its KEY_SLOT -/
def BOOT_RUN_SVN_SLOT : Fld := ⟨0x7, 0x118, 0, 1, 9, 8, .ro, .s, (.const 0)⟩
/-- BOOT RO: VERSION of the pending bundle; 0: none -/
def BOOT_STG_VER_VERSION : Fld := ⟨0x7, 0x11C, 0, 1, 31, 0, .ro, .w, (.const 0)⟩
/-- BOOT RO: Epoch [31:0] of the last H -/
def BOOT_H_START_LO_EPOCH : Fld := ⟨0x7, 0x120, 0, 1, 31, 0, .ro, .s, (.const 0)⟩
/-- BOOT RO: Epoch [47:32]; latched by reading _LO -/
def BOOT_H_START_HI_EPOCH : Fld := ⟨0x7, 0x124, 0, 1, 15, 0, .ro, .s, (.const 0)⟩
/-- BOOT RO: Length of the last headless interval in µs -/
def BOOT_H_LEN_US : Fld := ⟨0x7, 0x128, 0, 1, 21, 0, .ro, .s, (.const 0)⟩
/-- BOOT RO: Traverses since COLD, saturating at 0xFFFF -/
def BOOT_TRAVERSES_COUNT : Fld := ⟨0x7, 0x12C, 0, 1, 15, 0, .ro, .w, (.const 0)⟩
/-- TOP RWS: Mode code requested at commit (R407); 7: none -/
def TOP_MODE_REQ : Fld := ⟨0x0, 0x100, 0, 1, 2, 0, .rws, .w, (.const 7)⟩
/-- TOP WO: Mode code to enter now; 6 and 7: none -/
def TOP_CMD_GOTO : Fld := ⟨0x0, 0x104, 0, 1, 2, 0, .wo, .v, (.const 7)⟩
/-- TOP WO: 1: WARM reset ("Resets and What Survives Them") -/
def TOP_CMD_SOFT_WARM : Fld := ⟨0x0, 0x104, 0, 1, 8, 8, .wo, .v, (.const 0)⟩
/-- TOP RO: Code of R406 -/
def TOP_STAT_MODE : Fld := ⟨0x0, 0x108, 0, 1, 2, 0, .ro, .v, (.const 1)⟩
/-- TOP RO: 1 GOTO, 2 REQ or plan, 3 thermal, 4 SEATED_L, 5 PG_IN, 6 wake, 7 reset; 0 none -/
def TOP_STAT_CAUSE : Fld := ⟨0x0, 0x108, 0, 1, 6, 4, .ro, .v, (.const 7)⟩
/-- TOP RO: R408 -/
def TOP_STAT_DRAINED : Fld := ⟨0x0, 0x108, 0, 1, 8, 8, .ro, .v, (.const 0)⟩
/-- TOP RW: Empty epochs for DRAINED; 0: the first empty boundary -/
def TOP_DRAIN_QUIET : Fld := ⟨0x0, 0x10C, 0, 1, 15, 0, .rw, .w, (.const 8)⟩
/-- TOP RO: Hardware type (R2) -/
def TOP_HWTYPE_TYPE : Fld := ⟨0x0, 0x110, 0, 1, 31, 0, .ro, .w, (.const 627048624)⟩
/-- PWR RO: Bit j: domain 32k + j powered -/
def PWR_ON_k : Fld := ⟨0x1, 0x100, 4, 2, 31, 0, .ro, .v, (.const 0)⟩
/-- PWR RO: FALLOW of the active plan -/
def PWR_FALLOW_k : Fld := ⟨0x1, 0x108, 4, 2, 31, 0, .ro, .s, (.const 0)⟩
/-- PWR RO: PLAN_ID of the active plan -/
def PWR_PLAN_ID : Fld := ⟨0x1, 0x110, 0, 1, 31, 0, .ro, .s, (.const 0)⟩
/-- PWR RW: Step limit in 0.1 A/µs (R411); 0: governor off -/
def PWR_STEP_LIMIT : Fld := ⟨0x1, 0x114, 0, 1, 9, 0, .rw, .w, (.const 80)⟩
/-- PWR RO: 1: a sequence runs -/
def PWR_SEQ_BUSY : Fld := ⟨0x1, 0x118, 0, 1, 0, 0, .ro, .v, (.const 0)⟩
/-- PWR RO: Domain being switched -/
def PWR_SEQ_DOMAIN : Fld := ⟨0x1, 0x118, 0, 1, 13, 8, .ro, .v, (.const 0)⟩
/-- PWR W1C: Bit j: domain 32k + j failed to power (R410) -/
def PWR_FAIL_k : Fld := ⟨0x1, 0x120, 4, 2, 31, 0, .w1c, .w, (.const 0)⟩
/-- PWR RO: Pipeline clocks withheld (R37) -/
def PWR_GOV_CLOCKS : Fld := ⟨0x1, 0x128, 0, 1, 63, 0, .ro, .v, (.const 0)⟩
/-- AON RW: Wake set; the reset value enables SEATED_L only -/
def AON_WAKE_EN_SET : Fld := ⟨0x3, 0x100, 0, 1, 15, 0, .rw, .a, (.const 4)⟩
/-- AON RO: Source that ended the last STANDBY -/
def AON_WAKE_LAST_SRC : Fld := ⟨0x3, 0x104, 0, 1, 6, 0, .ro, .a, (.const 0)⟩
/-- AON RO: 1: SRC is valid -/
def AON_WAKE_LAST_VALID : Fld := ⟨0x3, 0x104, 0, 1, 31, 31, .ro, .a, (.const 0)⟩
/-- AON RW: Seconds from entry to STANDBY until source 11; 0: off -/
def AON_TIMER_S : Fld := ⟨0x3, 0x108, 0, 1, 31, 0, .rw, .a, (.const 0)⟩
/-- AON RO: PG_IN[7:0] levels -/
def AON_PGIN_STATE : Fld := ⟨0x3, 0x10C, 0, 1, 7, 0, .ro, .v, (.const 0)⟩
/-- AON RW: Bit n: PG_IN[n] required (R407) -/
def AON_PGIN_REQ : Fld := ⟨0x3, 0x10C, 0, 1, 15, 8, .rw, .a, (.const 0)⟩
/-- AON RO: STRAP[7:0] as sampled at COLD reset -/
def AON_STRAP_STRAP : Fld := ⟨0x3, 0x110, 0, 1, 7, 0, .ro, .w, .strap⟩
/-- AON RO: Thermal trips, saturating at 0xFFFF -/
def AON_TRIP_COUNT : Fld := ⟨0x3, 0x114, 0, 1, 15, 0, .ro, .a, (.const 0)⟩
/-- AON RO: Sensor of the last trip -/
def AON_TRIP_SENSOR : Fld := ⟨0x3, 0x114, 0, 1, 20, 16, .ro, .a, (.const 0)⟩
/-- AON RO: Entries to STANDBY, saturating at 0xFFFF -/
def AON_STBY_COUNT : Fld := ⟨0x3, 0x118, 0, 1, 15, 0, .ro, .a, (.const 0)⟩
/-- AON RW: Kept for host software and firmware -/
def AON_SCRATCH_k : Fld := ⟨0x3, 0x120, 4, 8, 31, 0, .rw, .a, (.const 0)⟩
/-- THM RO: Signed, 1/128 °C -/
def THM_TEMP_n_TEMP : Fld := ⟨0x4, 0x100, 4, 24, 15, 0, .ro, .v, (.const 0)⟩
/-- THM RO: R416 -/
def THM_TEMP_n_STALE : Fld := ⟨0x4, 0x100, 4, 24, 31, 31, .ro, .v, (.const 0)⟩
/-- THM RO: Hottest sensor that is not STALE -/
def THM_MAX_TEMP : Fld := ⟨0x4, 0x160, 0, 1, 15, 0, .ro, .v, (.const 0)⟩
/-- THM RO: Its number -/
def THM_MAX_SENSOR : Fld := ⟨0x4, 0x160, 0, 1, 20, 16, .ro, .v, (.const 0)⟩
/-- THM RW: Throttle point in °C; 0: no throttling -/
def THM_THROTTLE_TEMP : Fld := ⟨0x4, 0x164, 0, 1, 7, 0, .rw, .w, (.const 100)⟩
/-- THM RW: Slots passed while throttling, in 1/256; 0: no slots -/
def THM_THROTTLE_DUTY : Fld := ⟨0x4, 0x164, 0, 1, 15, 8, .rw, .w, (.const 128)⟩
/-- THM RW: Warning point in °C; 0: no warning -/
def THM_WARN_TEMP : Fld := ⟨0x4, 0x168, 0, 1, 7, 0, .rw, .w, (.const 95)⟩
/-- THM W1C: R417 -/
def THM_STAT_WARN : Fld := ⟨0x4, 0x16C, 0, 1, 0, 0, .w1c, .v, (.const 0)⟩
/-- THM RO: R417 -/
def THM_STAT_THROTTLING : Fld := ⟨0x4, 0x16C, 0, 1, 1, 1, .ro, .v, (.const 0)⟩
/-- RST RO: Last reset: 1 COLD, 2 WARM, 3 FLR, 4 TRAVERSE, 5 BLOCK; 0, 6 and 7 are never read -/
def RST_STAT_LAST : Fld := ⟨0x2, 0x100, 0, 1, 2, 0, .ro, .w, (.const 1)⟩
/-- RST RO: WARM: 1 HOST_PERST_L, 2 SOFT_WARM. FLR: 1 HOST_PERST_L, 3 host FLR. 0 for any other reset. -/
def RST_STAT_SRC : Fld := ⟨0x2, 0x100, 0, 1, 5, 4, .ro, .w, (.const 0)⟩
/-- RST RO: 1: a WARM or FLR register clear is running -/
def RST_STAT_BUSY : Fld := ⟨0x2, 0x100, 0, 1, 8, 8, .ro, .v, (.const 0)⟩
/-- RST RW: 0: HOST_PERST_L causes WARM; 1: FLR (R422) -/
def RST_CFG_PERST_SCOPE : Fld := ⟨0x2, 0x104, 0, 1, 0, 0, .rw, .w, (.const 0)⟩
/-- RST RO: WARM resets since COLD, saturating at 0xFFFF -/
def RST_CNT_WARM : Fld := ⟨0x2, 0x108, 0, 1, 15, 0, .ro, .w, (.const 0)⟩
/-- RST RO: FLRs since COLD, saturating at 0xFFFF -/
def RST_CNT_FLR : Fld := ⟨0x2, 0x108, 0, 1, 31, 16, .ro, .w, (.const 0)⟩
/-- RST RO: BLOCK resets performed since COLD, saturating at 0xFFFF -/
def RST_CNT_BLOCK_COUNT : Fld := ⟨0x2, 0x10C, 0, 1, 15, 0, .ro, .w, (.const 0)⟩
/-- RST RO: Page of the last BLOCK reset -/
def RST_LAST_BLOCK_PAGE : Fld := ⟨0x2, 0x110, 0, 1, 7, 0, .ro, .w, (.const 0)⟩
/-- RST RO: Epoch [31:0] of the last reset other than COLD; 0 after COLD -/
def RST_LAST_EPOCH_LO_EPOCH : Fld := ⟨0x2, 0x114, 0, 1, 31, 0, .ro, .w, (.const 0)⟩
/-- RST RO: Epoch [47:32]; latched by reading _LO -/
def RST_LAST_EPOCH_HI_EPOCH : Fld := ⟨0x2, 0x118, 0, 1, 15, 0, .ro, .w, (.const 0)⟩
/-- PMU RW: 1: counting allowed (R433) -/
def PMU_CTL_EN : Fld := ⟨0x9, 0x100, 0, 1, 0, 0, .rw, .w, (.const 0)⟩
/-- PMU RW: 1: every counter stops (R436) -/
def PMU_CTL_FREEZE : Fld := ⟨0x9, 0x100, 0, 1, 1, 1, .rw, .v, (.const 0)⟩
/-- PMU WO: 1: zero every value and WRAP -/
def PMU_CTL_CLEAR_ALL : Fld := ⟨0x9, 0x100, 0, 1, 2, 2, .wo, .v, (.const 0)⟩
/-- PMU RW: Counter 0–511 reached below -/
def PMU_IDX_IDX : Fld := ⟨0x9, 0x104, 0, 1, 8, 0, .rw, .v, (.const 0)⟩
/-- PMU RW: Event code (R434) -/
def PMU_CFG_EVENT : Fld := ⟨0x9, 0x108, 0, 1, 15, 0, .rw, .w, (.const 0)⟩
/-- PMU RW: 1: the counter counts -/
def PMU_CFG_EN : Fld := ⟨0x9, 0x108, 0, 1, 16, 16, .rw, .w, (.const 0)⟩
/-- PMU RW: R435 -/
def PMU_CFG_PRIV : Fld := ⟨0x9, 0x108, 0, 1, 19, 17, .rw, .w, (.const 7)⟩
/-- PMU RW: 1: readable through BAR4 (R437) -/
def PMU_CFG_UREAD : Fld := ⟨0x9, 0x108, 0, 1, 20, 20, .rw, .w, (.const 0)⟩
/-- PMU RW: Address range 0–7 -/
def PMU_CFG_RANGE : Fld := ⟨0x9, 0x108, 0, 1, 23, 21, .rw, .w, (.const 0)⟩
/-- PMU RW: 1: address filter on -/
def PMU_CFG_ADDR_EN : Fld := ⟨0x9, 0x108, 0, 1, 24, 24, .rw, .w, (.const 0)⟩
/-- PMU RW: R435 -/
def PMU_FILT_MASTER : Fld := ⟨0x9, 0x10C, 0, 1, 9, 0, .rw, .w, (.const 1023)⟩
/-- PMU RW: R435 -/
def PMU_FILT_CLASS : Fld := ⟨0x9, 0x10C, 0, 1, 23, 16, .rw, .w, (.const 255)⟩
/-- PMU RW: Value [31:0] (R37, R38) -/
def PMU_VAL_LO_VAL : Fld := ⟨0x9, 0x110, 0, 1, 31, 0, .rw, .v, (.const 0)⟩
/-- PMU RW: Value [39:32] -/
def PMU_VAL_HI_VAL : Fld := ⟨0x9, 0x114, 0, 1, 7, 0, .rw, .v, (.const 0)⟩
/-- PMU W1C: Sticky wrap (R433) -/
def PMU_VAL_HI_WRAP : Fld := ⟨0x9, 0x114, 0, 1, 31, 31, .w1c, .v, (.const 0)⟩
/-- PMU W1C: Bit j: WRAP of counter 32k + j -/
def PMU_WRAP_k : Fld := ⟨0x9, 0x120, 4, 16, 31, 0, .w1c, .v, (.const 0)⟩
/-- PMU RW: Inclusive address range (R435) -/
def PMU_RANGE_r_LO : Fld := ⟨0x9, 0x180, 8, 8, 31, 0, .rw, .w, (.const 0)⟩
/-- PMU RW: Inclusive address range (R435) -/
def PMU_RANGE_r_HI : Fld := ⟨0x9, 0x184, 8, 8, 31, 0, .rw, .w, (.const 0)⟩
/-- PMU RW: Bit k − 1: write records of KIND k (R440) -/
def PMU_TREC_KINDS : Fld := ⟨0x9, 0x200, 0, 1, 3, 0, .rw, .w, (.const 15)⟩
/-- PMU RW: KIND 3 records per epoch; 0: none (R441) -/
def PMU_TREC_CE_MAX : Fld := ⟨0x9, 0x200, 0, 1, 23, 8, .rw, .w, (.const 64)⟩
/-- PMU RO: KIND 3 records not written -/
def PMU_CE_SUPPRESSED : Fld := ⟨0x9, 0x208, 0, 1, 63, 0, .ro, .v, (.const 0)⟩
/-- PMU RO: Locator of the last corrected error (R438) -/
def PMU_ERR_CE_LOC : Fld := ⟨0x9, 0x210, 0, 1, 63, 0, .ro, .v, (.const 0)⟩
/-- PMU RO: Locator of the last uncorrectable or parity error -/
def PMU_ERR_UE_LOC : Fld := ⟨0x9, 0x218, 0, 1, 63, 0, .ro, .v, (.const 0)⟩
/-- PMU RO: Corrected errors, whole device -/
def PMU_ERR_CE : Fld := ⟨0x9, 0x220, 0, 1, 63, 0, .ro, .v, (.const 0)⟩
/-- PMU RO: Uncorrectable and parity errors, whole device -/
def PMU_ERR_UE : Fld := ⟨0x9, 0x228, 0, 1, 63, 0, .ro, .v, (.const 0)⟩

/-- The fields of the HDR block. -/
def fieldsHDR : List Fld :=
  [PG_ID_TYPE, PG_ID_INST, PG_ID_VER, PG_CAP_TRB_USED, PG_CAP_HAS_STAGED, PG_CAP_HAS_BANKS, PG_CAP_DOMAIN, PG_CAP_COMMIT_GROUP, PG_CTRL_BLK_EN, PG_CTRL_BLK_SRST, PG_CTRL_BANK_VIEW, PG_STAT_READY, PG_STAT_FAULT_LASTING, PG_STAT_TRB_SAT, PG_STAT_CAIRN_PENDING, PG_STAT_CAIRN_LATE, PG_STAT_CAIRN_BUSY, PG_STAT_GEN_DRAINING, PG_CAIRN_LO_TARGET_LO, PG_CAIRN_HI_TARGET_HI, PG_CAIRN_HI_ARMED, PG_GEN_ACTIVE, PG_GEN_STAGED, PG_DRAIN_COUNT, TRB_k_CNT_LO, TRB_k_CNT_HI, FWIN_n_CFG_EVENT, FWIN_n_CFG_LEN, FWIN_n_CFG_THRESH, FWIN_n_STAT_TRANSIENT, FWIN_n_STAT_CUR, FWIN_n_STAT_DECLARED, EVT_STAT_EVT, EVT_MASK_MASK, EVT_SRC_SRC]
/-- The fields of the TIM block (part 0). -/
def fieldsTIM_0 : List Fld :=
  [TIM_STATE_STATE, TIM_STATE_REF, TIM_STATE_VALID, TIM_STATE_SLEWING, TIM_STATE_STEP_ARMED, TIM_CMD_CMD, TIM_CMD_REF, TIM_NOW_k_TIME, TIM_EPOCH_LO_EPOCH, TIM_EPOCH_HI_EPOCH, TIM_EPOCH_HI_PITCH, TIM_FREQ_EFF_ADJ, TIM_FREQ_ADJ, TIM_PHASE_ADJ_NS, TIM_PHASE_REM_NS, TIM_SLEW_SLEW_LIMIT, TIM_STEP_THRESH_NS, TIM_STEP_LO_NS, TIM_STEP_HI_NS, TIM_HOLD_CFG_TEMP_SRC, TIM_HOLD_CFG_SENSOR, TIM_HOLD_CFG_SMB_ADDR, TIM_HOLD_CFG_ENTRIES, TIM_AGING_SLOPE, TIM_HOLD_TIMEOUT_EPOCHS, TIM_HOLD_TEMP_TEMP, TIM_HOLD_TEMP_STALE, TIM_HOLD_START_LO_EPOCH, TIM_HOLD_START_HI_EPOCH, TIM_PPS_CAP_k_TIME, TIM_PPS_OUT_EN, TIM_PPS_OUT_WIDTH, TIM_PPS_OFS_NS, TIM_TOD_BAUD_IN, TIM_TOD_BAUD_OUT, TIM_TOD_RX_DATA, TIM_TOD_RX_VALID, TIM_TOD_TX_DATA, TIM_FAB_CFG_FAB_EN, TIM_FAB_CFG_ROOT]
/-- The fields of the TIM block (part 1). -/
def fieldsTIM_1 : List Fld :=
  [TIM_FAB_CFG_AUTO, TIM_FAB_CFG_LINK, TIM_FAB_STAT_LINK, TIM_FAB_STAT_HOPS, TIM_FAB_STAT_ROOT_STATE, TIM_FAB_STAT_ROOT_ID, TIM_FAB_STAT_WORDS_OK, TIM_FAB_OFS_OFS, HOLD_TBL_n_T_TEMP, HOLD_TBL_n_F_FOFS]
/-- The fields of the TIM block. -/
def fieldsTIM : List Fld := fieldsTIM_0 ++ fieldsTIM_1
/-- The fields of the PTP block. -/
def fieldsPTP : List Fld :=
  [PTP_CTL_TC_EN, PTP_CTL_DOMAIN, PTP_PORT_SEL_PORT, PTP_PORT_CFG_CLOCK, PTP_PORT_CFG_ONE_STEP, PTP_PORT_CFG_TC, PTP_LAT_RX, PTP_LAT_TX, PTP_TSQ_STAT_FILL, PTP_TSQ_STAT_OVF]
/-- The fields of the SYE block. -/
def fieldsSYE : List Fld :=
  [SYE_OUT_n_PORT, SYE_OUT_n_FREQ, SYE_OUT_n_SQ_AUTO, SYE_OUT_n_SQ_FORCE, SYE_STAT_SQUELCHED, SYE_STAT_RECOVERED]
/-- The fields of the CRN block. -/
def fieldsCRN : List Fld :=
  [CRN_Pm_TGT_LO_TARGET, CRN_Pm_TGT_HI_TARGET, CRN_Pm_TGT_HI_SCOPE, CRN_Pm_MASK_0_GROUPS, CRN_Pm_MASK_1_GROUPS, CRN_Pm_MASK_2_GROUPS, CRN_Pm_MASK_3_GROUPS, CRN_Pm_GO_POST, CRN_Pm_GO_CANCEL, CRN_Pm_GO_SEQ, CRN_Pm_RESULT_SEQ, CRN_Pm_RESULT_STATUS, CRN_Pm_RESULT_DONE, CRN_CTL_FAB_EN, CRN_STAT_ARMED, CRN_STAT_NEXT_SEQ, CRN_NEXT_LO_TARGET, CRN_NEXT_HI_TARGET, CRN_NEXT_HI_VALID, CRN_AGENT_MASK_k_GROUPS]
/-- The fields of the SPN block. -/
def fieldsSPN : List Fld :=
  [SPN_MODE_MODE, SPN_CTL_AUTO_RESTART, SPN_CMD_RESTART, SPN_CMD_SELFTEST, SPN_STAT_ACTIVE, SPN_STAT_RUNNING, SPN_STAT_DISSENT, SPN_STAT_FAILED, SPN_STAT_RESTARTING, SPN_STAT_CHECKING, SPN_STAT_NO_MAJORITY, SPN_STAT_NO_FAULT_FOUND, SPN_LAST_MM_LO_EPOCH, SPN_LAST_MM_HI_EPOCH]
/-- The fields of the PAIR block. -/
def fieldsPAIR : List Fld :=
  [PAIR_CTL_EN, PAIR_CTL_AUTO_TAKEOVER, PAIR_CTL_CHECK_ON_MISMATCH, PAIR_CTL_OWN_GPIO, PAIR_CMD_CLAIM, PAIR_CMD_RELEASE, PAIR_STAT_SEAT, PAIR_STAT_PRESENT, PAIR_STAT_BELAY_OUT, PAIR_STAT_BELAY_IN, PAIR_STAT_OWNER, PAIR_STAT_LINK_UP, PAIR_STAT_MISMATCH, PAIR_STAT_CHECKING, PAIR_STAT_SELF_FAIL, PAIR_STAT_NO_FAULT_FOUND, PAIR_STAT_UNFIT, PAIR_PROT_k_PORTS, PAIR_TIME_TOL_NS, PAIR_MISS_LIMIT_N, PAIR_DELAY_DELAY, PAIR_LAST_MM_LO_EPOCH, PAIR_LAST_MM_HI_EPOCH, PAIR_LAST_MM_HI_KIND, PAIR_DISCARD]
/-- The fields of the NETPG block. -/
def fieldsNETPG : List Fld :=
  [PORT_CFG_EN, PORT_CFG_WIDTH, PORT_CFG_LANE_RATE, PORT_CFG_FEC, PORT_FRAME_MAX_FRAME, PORT_FC_RX_MODE, PORT_FC_TX_MODE, PORT_FC_QUANTA, PORT_FC_REFRESH_QUANTA, PORT_ECPRI_EN, PORT_ECPRI_TC, PORT_STAT_LINK_UP, PORT_STAT_ALIGNED, PORT_STAT_FEC_LOCK, PORT_STAT_LOCAL_FAULT, PORT_STAT_REMOTE_FAULT, PORT_STAT_RX_PAUSED, PORT_STAT_TX_XOFF, PORT_STAT_CFG_BAD, PORT_CTL_DOWN_DROP, PORT_CTL_TX_DIS, PORT_CTL_LOOPBACK, PORT_RX_FRAMES, PORT_TX_FRAMES, PORT_FEC_CORR, PORT_MAC_LO, PORT_MAC_HI, NETPG_RXMAP_h_L, NETPG_TXMAP_h_L]
/-- The fields of the NSD block. -/
def fieldsNSD : List Fld :=
  [NSD_TX_PRE, NSD_TX_MAIN, NSD_TX_POST, NSD_TX_TX_INV, NSD_TX_CLIPPED, NSD_RX_RX_INV, NSD_RX_SIG_DET, NSD_RX_CDR_LOCK, NSD_RX_ADAPT_DONE, NSD_RX_TX_IDLE, NSD_PRBS_PATTERN, NSD_PRBS_GEN, NSD_PRBS_CHK, NSD_PRBS_ERR, NSD_REF_OK]
/-- The fields of the PIPE block. -/
def fieldsPIPE : List Fld :=
  [PIPE_STAT_PORTS, PIPE_STAT_THROTTLED, PIPE_FIRST, PIPE_SECOND, PIPE_IDLE]
/-- The fields of the PRS block. -/
def fieldsPRS : List Fld :=
  [PRS_GRAPH_ENTRIES, PRS_GRAPH_STAGED, PRS_LAST_INC_REASON, PRS_LAST_INC_PORT, PRS_LAST_INC_STATE, PRS_LAST_MAL_REASON, PRS_LAST_MAL_PORT, PRS_LAST_MAL_OFFSET, PRS_LAST_MAL_TAIL, PRS_INCOMPLETE, PRS_MALFORMED, PRS_TAIL_BAD, PRS_PORT_p_START_STATE, PRS_PORT_p_DFLT_NO_MATCH, PRS_PORT_p_DFLT_PARSE_FAIL, PRS_PORT_p_DFLT_MALFORMED, PRS_PORT_p_DFLT_ORPHAN, PRS_PORT_p_DFLT_PUNT_RING, PRS_PORT_p_DFLT_MIRROR]
/-- The fields of the FRAG block. -/
def fieldsFRAG : List Fld :=
  [FRAG_CTL_EN, FRAG_CTL_LIFETIME, FRAG_STAT_IN_USE, FRAG_FIRST, FRAG_FOLLOW, FRAG_ORPHAN, FRAG_CMD_FLUSH]
/-- The fields of the CLS block. -/
def fieldsCLS : List Fld :=
  [CLS_SET_n_NODES, CLS_SET_n_ACT_ACTIONS, CLS_GEN_n_GEN, CLS_GEN_n_STAGED, CLS_MEM_LK0, CLS_MEM_LK1, CLS_RULES_ACTIVE, CLS_LAST_ERR_KIND, CLS_LAST_ERR_SET, CLS_LAST_ERR_INDEX, CLS_DROPS]
/-- The fields of the ACT block. -/
def fieldsACT : List Fld :=
  [ACT_TMPL_ENTRIES, ACT_TMPL_STAGED, ACT_LAST_TEMPLATE, ACT_LAST_REASON, ACT_REWRITES, ACT_MIR_n_EN, ACT_MIR_n_CLASS, ACT_MIR_n_DEST]
/-- The fields of the RCC block. -/
def fieldsRCC : List Fld :=
  [RCC_PORT_r_RATE, RCC_PORT_r_BURST, RCC_TOK_r_TOKENS, RCC_PASSES_r, RCC_REFUSED_r]
/-- The fields of the LPM block. -/
def fieldsLPM : List Fld :=
  [LPM_STAT_PROFILE, LPM_CTL_HOST_EXM, LPM_NODES_ACTIVE, LPM_HBM_NODES_ACTIVE, LPM_RESULTS_ACTIVE, LPM_ROOTS_V4, LPM_ROOTS_V6, LPM_LAST_ERR_KIND, LPM_LAST_ERR_INDEX, LPM_LOOKUPS, LPM_MISSES, LPM_PORT_p_VRF]
/-- The fields of the EXM block. -/
def fieldsEXM : List Fld :=
  [EXM_STAT_IN_USE, EXM_STASH_USED, EXM_SIZE_SLOTS, EXM_INSERTS, EXM_MOVES, EXM_REMOVES]
/-- The fields of the LRN block. -/
def fieldsLRN : List Fld :=
  [LRN_CTL_EN, LRN_AGE_PERIOD, LRN_QSTAT_FILL, LRN_QSTAT_HELD, LRN_POST_k, LRN_POST_GO_GO, LRN_POST_GO_REMOVE, LRN_LEARNED, LRN_MOVED, LRN_AGED, LRN_FAILED, LRN_PORT_p_BD, LRN_PORT_p_LEARN]
/-- The fields of the ADJ block. -/
def fieldsADJ : List Fld :=
  [ADJ_HASH_OUTER, ADJ_HASH_FLOW_LABEL, ADJ_HASH_TEID, ADJ_SEED_SEED, ADJ_LAST_ERR_KIND, ADJ_LAST_ERR_INDEX, ADJ_ZERO_ECMP, ADJ_EGRESS_DROPS]
/-- The fields of the TDM block. -/
def fieldsTDM : List Fld :=
  [TDM_RING_BASE, TDM_RING_SIZE_COUNT, TDM_TAIL_IDX, TDM_HEAD_IDX, TDM_CTL_EN, TDM_CTL_PAUSE, TDM_STAT_BUSY, TDM_STAT_HEADLESS, TDM_STAT_CONTAINED, TDM_STAT_OP, TDM_PROFILE_SEL, TDM_PROFILE_APPLY, TDM_LOCK_WAITS, TDM_BYTES, TDM_LAST_STATUS, TDM_LAST_ART_STATUS, TDM_LAST_IDX]
/-- The fields of the SHD block. -/
def fieldsSHD : List Fld :=
  [SHD_CTL_EN, SHD_CTL_CORRECT, SHD_CTL_PERIOD, SHD_CONFIRM_EPOCHS, SHD_LPM_BASE, SHD_LPM_COUNT_N, SHD_LPM_GEN_GEN, SHD_EXM_BASE, SHD_EXM_COUNT_N, SHD_STAT_RUNNING, SHD_STAT_GEN_WAIT, SHD_STAT_HELD, SHD_STAT_NOT_MAXIMAL, SHD_LPM_POS_K, SHD_EXM_POS_K, SHD_PASSES_LPM, SHD_PASSES_EXM, SHD_MISMATCH, SHD_CORRECTED]
/-- The fields of the BPM block. -/
def fieldsBPM : List Fld :=
  [BPM_POOL_n_SIZE, BPM_POOL_n_MODE, BPM_CMD_APPLY, BPM_STAT_REBUILDING, BPM_FREE_n_COUNT, BPM_CACHE_n_FILL, BPM_BASE_n, BPM_FAIL_n, BPM_FALLBACK_n, BPM_DESC_FREE_COUNT]
/-- The fields of the ADM block. -/
def fieldsADM : List Fld :=
  [ADM_PROF_k_XOFF_KIB, ADM_PROF_k_XON_KIB, ADM_PROF_k_LIMIT_KIB, ADM_MAP_p, ADM_CT_k_PORTS, ADM_FAB_c_RSV, ADM_PUNT_r_MAX, ADM_MIR_s_MAX, ADM_OCC_SEL_PORT, ADM_OCC_SEL_CLASS, ADM_OCC_KIB, ADM_OCC_XOFF, ADM_FOCC_c_KIB, ADM_DROP_LIMIT, ADM_TAIL_DROP, ADM_STOMP, ADM_POISON_DROP, ADM_COPY_DROP, ADM_CUT, ADM_XOFF_STAT_k]
/-- The fields of the QM block. -/
def fieldsQM : List Fld :=
  [QM_RESIDENCE_MS, QM_QSEL_QUEUE, QM_QSEL_VOQ, QM_DEPTH_PKTS, QM_DEPTH_KIB_KIB, QM_HEAD_AGE_US, QM_AGED, QM_AGED_SCAN, QM_ENQ, QM_PORT_p_SNODE_BASE, QM_PORT_p_MASK_MASK]
/-- The fields of the SCH block. -/
def fieldsSCH : List Fld :=
  [SCH_BUF_USED, SCH_SEL_PORT, SCH_VISITS, SCH_SKIP_EMPTY, SCH_SKIP_GATE, SCH_SKIP_TOK, SCH_CUT, SCH_ROPE, SCH_CAL_p_ENTRIES, SCH_CAL_p_CYCLE, SCH_CAL_p_GEN_GEN, SCH_CAL_p_GEN_STAGED]
/-- The fields of the SHP block. -/
def fieldsSHP : List Fld :=
  [SHP_SEL_NODE, SHP_TOK_C_BYTES, SHP_TOK_P_BYTES, SHP_PEND_COUNT, SHP_PORT_p_OVERHEAD, SHP_PORT_p_MIN]
/-- The fields of the POL block. -/
def fieldsPOL : List Fld :=
  [POL_GREEN, POL_YELLOW, POL_RED, POL_RED_DROPS, POL_LAST_ERR_INDEX]
/-- The fields of the MCR block. -/
def fieldsMCR : List Fld :=
  [MCR_RECORDS, MCR_LOST, MCR_STAT_BACKLOG, MCR_LAST_ERR_INDEX]
/-- The fields of the GATE block. -/
def fieldsGATE : List Fld :=
  [GATE_TT_CMD_PORT, GATE_TT_CMD_CANCEL, GATE_TT_RESULT_PORT, GATE_TT_RESULT_STATUS, GATE_CFG_p_CYC_CLASSES, GATE_CFG_p_TT_CLASSES, GATE_CFG_p_GUARD, GATE_CFG_p_GUARD_NS, GATE_STAT_p_OPEN, GATE_STAT_p_CYC_ACTIVE, GATE_STAT_p_CYC_HOLD, GATE_STAT_p_TT_PENDING, GATE_STAT_p_TT_ACTIVE, GATE_STAT_p_LATE_START, GATE_STAT_p_CYC_FAULT, GATE_STAT_p_TT_LATE, GATE_CYC_p_ENTRIES, GATE_CYC_p_GEN, GATE_TT_p_ENTRIES, GATE_TT_p_NEXT]
/-- The fields of the LAT block. -/
def fieldsLAT : List Fld :=
  [LAT_CTL_EN, LAT_HOST_BASE, LAT_THRESH_US, LAT_WIDX_IDX, LAT_WDATA_QUEUE, LAT_WDATA_VOQ, LAT_WDATA_VALID, LAT_STAT_SLICE, LAT_STAT_HELD, LAT_WORST_DELAY_UNITS, LAT_WORST_Q_QUEUE, LAT_SAMPLES, LAT_LOST]
/-- The fields of the FAB block. -/
def fieldsFAB : List Fld :=
  [FAB_ID_ID, FAB_ID_VALID, FAB_CFG_WIRING_CHECK, FAB_CFG_ONE_GROUP, FAB_IFV_IFV, FAB_IFV_MIN, FAB_STAT_UP, FAB_STAT_STRAP_ID]
/-- The fields of the FLK block. -/
def fieldsFLK : List Fld :=
  [FLK_CTL_EN, FLK_CTL_TX_DIS, FLK_CTL_RESTART, FLK_LANE_TX_INV, FLK_LANE_RX_INV, FLK_STAT_STATE, FLK_STAT_CAUSE, FLK_PEER_ID, FLK_PEER_LINK, FLK_PEER_ID_VALID, FLK_PEER_IFV_IFV, FLK_PEER_IFV_MIN, FLK_PEER_SERIAL, FLK_ASYM_ASYM, FLK_DELAY_MEAN, FLK_CREDIT_01_VC0, FLK_CREDIT_01_VC1, FLK_CREDIT_2_VC2, FLK_CELLS_TX, FLK_CELLS_RX]
/-- The fields of the D2D block. -/
def fieldsD2D : List Fld :=
  [D2D_STAT_UP, D2D_STAT_TIME_LOCK, D2D_STAT_CH_USED, D2D_REPAIR_SPARES, D2D_REPLAYS, D2D_TIME_OFS_OFS]
/-- The fields of the FRT block. -/
def fieldsFRT : List Fld :=
  [FRT_STAT_ENTRIES, FRT_STAT_STAGED, FRT_LAST_ERR_KIND, FRT_LAST_ERR_DEST, FRT_ORIG, FRT_RELAY, FRT_DELIVER, FRT_DROPS]
/-- The fields of the FMC block. -/
def fieldsFMC : List Fld :=
  [FMC_STAT_ENTRIES, FMC_LAST_ERR_GROUP, FMC_RATE_c_MBPS, FMC_REPL, FMC_LOCAL]
/-- The fields of the FCR block. -/
def fieldsFCR : List Fld :=
  [FCR_GRANT_KIB, FCR_REQ_RETRY_US, FCR_RETURN_EPOCHS, FCR_REORDER_NS, FCR_STORE_USED, FCR_SEL_DEV, FCR_SEL_CLASS, FCR_CREDIT_UNITS, FCR_OUT_UNITS, FCR_GRANTS, FCR_LOST_CELLS, FCR_REASM_DROPS]
/-- The fields of the HBM block. -/
def fieldsHBM : List Fld :=
  [HBM_CMD_INIT, HBM_STAT_STATE, HBM_STAT_FAIL_PC, HBM_STAT_BAND, HBM_STAT_HOT, HBM_TEMP_TEMP, HBM_TEMP_STALE, HBM_BAND_CTL_BAND, HBM_BAND_CTL_FORCE, HBM_DLY_IDX_BAND, HBM_DLY_IDX_QPC, HBM_DLY_IDX_LANE, HBM_DLY_DATA_RD, HBM_DLY_DATA_WR, HBM_CE_LOC, HBM_UE_LOC, HBM_CE, HBM_UE, HBM_STACK_CE, HBM_SCRUB_POS_GRANULE]
/-- The fields of the DRQ block. -/
def fieldsDRQ : List Fld :=
  [DRQ_PORT_i_TARGET_NS, DRQ_REF_PHASE, DRQ_WQ_HIGH, DRQ_WQ_LOW, DRQ_SCRUB_HOURS, DRQ_SEL_PORT, DRQ_LAT_MAX_NS, DRQ_REQS, DRQ_OVERDUE, DRQ_INORDER]
/-- The fields of the HIF block. -/
def fieldsHIF : List Fld :=
  [HIF_STAT_LINK_UP, HIF_STAT_SPEED, HIF_STAT_WIDTH, HIF_STAT_CONTAINED, HIF_STAT_CAUSE, HIF_STAT_BME, HIF_CMD_RELEASE, HIF_CMD_CONTAIN, HIF_CTO_US, HIF_HOLD_MS, HIF_MT_TIMEOUT_US, HIF_PORT132_RING, HIF_TAGS_OUTSTANDING, HIF_TAGS_QUARANTINED, HIF_UR, HIF_CTO_CNT, HIF_LATE_CPL, HIF_PUNT_DISCARD]
/-- The fields of the HDM block. -/
def fieldsHDM : List Fld :=
  [HDM_BASE_i, HDM_SIZE_i_COUNT, HDM_HOST_i_IDX, HDM_DEV_i_IDX, HDM_CTL_i_EN, HDM_CTL_i_CLASS, HDM_ERR_i_CNT, HDM_PUNTS, HDM_INJECTS]
/-- The fields of the MIR block. -/
def fieldsMIR : List Fld :=
  [MIR_BASE, MIR_CTL_EN, MIR_CTL_PERIOD, MIR_SEQ_SEQ, MIR_LAST_EPOCH]
/-- The fields of the WIN block. -/
def fieldsWIN : List Fld :=
  [WIN_n_STG_CFG_SIZE, WIN_n_STG_CFG_KIND, WIN_n_STG_CFG_PEER, WIN_n_STG_TGT_DEV, WIN_n_STG_TGT_RWIN, WIN_n_STG_TGT_LINK, WIN_n_STG_BASE, WIN_n_ACT_CFG, WIN_n_ACT_TGT, WIN_n_ACT_BASE, WIN_SWAP_REQ, WIN_STAT_PENDING, WIN_SWAP_FAIL]
/-- The fields of the ICU block. -/
def fieldsICU : List Fld :=
  [ICU_CTL_GDIS, ICU_CLAIM_c_SRC, ICU_DONE_c_SRC, ICU_INSVC_c_SRC, ICU_INSVC_c_LINE, ICU_PEND_k, ICU_MASK_k, ICU_ROUTE_k, ICU_HOLDOFF_g_US, ICU_HOLDOFF_g_HELD, ICU_GPIO_n_FILT, ICU_GPIO_n_POL, ICU_GPIO_n_EDGE, ICU_DOORBELL_SET, ICU_WAKE_SRC_SRC, ICU_WAKE_SRC_VALID]
/-- The fields of the MGT block. -/
def fieldsMGT : List Fld :=
  [MGT_CORE_c_CTL_RESET, MGT_CORE_c_CTL_HALT, MGT_CORE_c_STAT_STATE, MGT_CORE_c_STAT_RESTARTS, MGT_CORE_c_WDOG_MS, MGT_CORE_c_KICK_KICK, MGT_AGENT_MEM_BASE, MGT_AGENT_MEM_SIZE_KIB, MGT_AGENT_RD_k, MGT_AGENT_WR_k, MGT_AGENT_FAULT_ADDR, MGT_AGENT_FAULT_INFO_WRITE]
/-- The fields of the SEC block. -/
def fieldsSEC : List Fld :=
  [SEC_CMD_ATTEST, SEC_CMD_COMMIT, SEC_STAT_ATT_BUSY, SEC_STAT_ATT_STATUS, SEC_STAT_COMMIT_BUSY, SEC_STAT_COMMIT_STATUS, SEC_ATT_ADDR, SEC_ATT_LEN_BYTES, SEC_ATT_SEL_SEL, SEC_ATT_NONCE_k, SEC_LEVEL_ROLLBACK, SEC_LEVEL_REVOKED, SEC_UNIT_ID_k, SEC_FUSE_IDX_IDX, SEC_FUSE_DATA_DATA]
/-- The fields of the BOOT block. -/
def fieldsBOOT : List Fld :=
  [BOOT_CMD_TRAVERSE, BOOT_CMD_LIVE, BOOT_CMD_UNSTAGE, BOOT_ACT_ARM, BOOT_STAT_HEADLESS, BOOT_STAT_STAGED, BOOT_STAT_COPYING, BOOT_STAT_LATE_LIVE, BOOT_STAT_FALLBACK, BOOT_STAT_SOURCE, BOOT_STG_BYTES, BOOT_LAST_CODE, BOOT_LAST_CAND, BOOT_LAST_AT_START, BOOT_RUN_VER_VERSION, BOOT_RUN_SVN_SVN, BOOT_RUN_SVN_SLOT, BOOT_STG_VER_VERSION, BOOT_H_START_LO_EPOCH, BOOT_H_START_HI_EPOCH, BOOT_H_LEN_US, BOOT_TRAVERSES_COUNT]
/-- The fields of the TOP block. -/
def fieldsTOP : List Fld :=
  [TOP_MODE_REQ, TOP_CMD_GOTO, TOP_CMD_SOFT_WARM, TOP_STAT_MODE, TOP_STAT_CAUSE, TOP_STAT_DRAINED, TOP_DRAIN_QUIET, TOP_HWTYPE_TYPE]
/-- The fields of the PWR block. -/
def fieldsPWR : List Fld :=
  [PWR_ON_k, PWR_FALLOW_k, PWR_PLAN_ID, PWR_STEP_LIMIT, PWR_SEQ_BUSY, PWR_SEQ_DOMAIN, PWR_FAIL_k, PWR_GOV_CLOCKS]
/-- The fields of the AON block. -/
def fieldsAON : List Fld :=
  [AON_WAKE_EN_SET, AON_WAKE_LAST_SRC, AON_WAKE_LAST_VALID, AON_TIMER_S, AON_PGIN_STATE, AON_PGIN_REQ, AON_STRAP_STRAP, AON_TRIP_COUNT, AON_TRIP_SENSOR, AON_STBY_COUNT, AON_SCRATCH_k]
/-- The fields of the THM block. -/
def fieldsTHM : List Fld :=
  [THM_TEMP_n_TEMP, THM_TEMP_n_STALE, THM_MAX_TEMP, THM_MAX_SENSOR, THM_THROTTLE_TEMP, THM_THROTTLE_DUTY, THM_WARN_TEMP, THM_STAT_WARN, THM_STAT_THROTTLING]
/-- The fields of the RST block. -/
def fieldsRST : List Fld :=
  [RST_STAT_LAST, RST_STAT_SRC, RST_STAT_BUSY, RST_CFG_PERST_SCOPE, RST_CNT_WARM, RST_CNT_FLR, RST_CNT_BLOCK_COUNT, RST_LAST_BLOCK_PAGE, RST_LAST_EPOCH_LO_EPOCH, RST_LAST_EPOCH_HI_EPOCH]
/-- The fields of the PMU block. -/
def fieldsPMU : List Fld :=
  [PMU_CTL_EN, PMU_CTL_FREEZE, PMU_CTL_CLEAR_ALL, PMU_IDX_IDX, PMU_CFG_EVENT, PMU_CFG_EN, PMU_CFG_PRIV, PMU_CFG_UREAD, PMU_CFG_RANGE, PMU_CFG_ADDR_EN, PMU_FILT_MASTER, PMU_FILT_CLASS, PMU_VAL_LO_VAL, PMU_VAL_HI_VAL, PMU_VAL_HI_WRAP, PMU_WRAP_k, PMU_RANGE_r_LO, PMU_RANGE_r_HI, PMU_TREC_KINDS, PMU_TREC_CE_MAX, PMU_CE_SUPPRESSED, PMU_ERR_CE_LOC, PMU_ERR_UE_LOC, PMU_ERR_CE, PMU_ERR_UE]

end Reg


namespace Pg
/-- Page of TOP. -/
abbrev TOP : Nat := 0x0
/-- Page of PWR. -/
abbrev PWR : Nat := 0x1
/-- Page of RST. -/
abbrev RST : Nat := 0x2
/-- Page of AON. -/
abbrev AON : Nat := 0x3
/-- Page of THM. -/
abbrev THM : Nat := 0x4
/-- Page of SEC. -/
abbrev SEC : Nat := 0x6
/-- Page of BOOT. -/
abbrev BOOT : Nat := 0x7
/-- Page of ICU. -/
abbrev ICU : Nat := 0x8
/-- Page of PMU. -/
abbrev PMU : Nat := 0x9
/-- Page of MGT. -/
abbrev MGT : Nat := 0xA
/-- Page of HIF. -/
abbrev HIF : Nat := 0xB
/-- Page of HDM. -/
abbrev HDM : Nat := 0xC
/-- Page of MIR. -/
abbrev MIR : Nat := 0xD
/-- Page of WIN. -/
abbrev WIN : Nat := 0xE
/-- Page of TIM. -/
abbrev TIM : Nat := 0x10
/-- Page of SPN. -/
abbrev SPN : Nat := 0x13
/-- Page of PTP. -/
abbrev PTP : Nat := 0x14
/-- Page of SYE. -/
abbrev SYE : Nat := 0x15
/-- Page of CRN. -/
abbrev CRN : Nat := 0x16
/-- Page of PAIR. -/
abbrev PAIR : Nat := 0x17
/-- Page of PIPE. -/
abbrev PIPE : Nat := 0x20
/-- Page of PRS. -/
abbrev PRS : Nat := 0x30
/-- Page of FRAG. -/
abbrev FRAG : Nat := 0x31
/-- Page of CLS. -/
abbrev CLS : Nat := 0x32
/-- Page of LPM. -/
abbrev LPM : Nat := 0x33
/-- Page of EXM. -/
abbrev EXM : Nat := 0x34
/-- Page of LRN. -/
abbrev LRN : Nat := 0x35
/-- Page of ADJ. -/
abbrev ADJ : Nat := 0x36
/-- Page of ACT. -/
abbrev ACT : Nat := 0x37
/-- Page of RCC. -/
abbrev RCC : Nat := 0x38
/-- Page of TDM. -/
abbrev TDM : Nat := 0x39
/-- Page of SHD. -/
abbrev SHD : Nat := 0x3A
/-- Page of NETPG. -/
abbrev NETPG : Nat := 0x40
/-- Page of NSD. -/
abbrev NSD : Nat := 0x48
/-- Page of BPM. -/
abbrev BPM : Nat := 0x50
/-- Page of ADM. -/
abbrev ADM : Nat := 0x51
/-- Page of QM. -/
abbrev QM : Nat := 0x52
/-- Page of SCH. -/
abbrev SCH : Nat := 0x53
/-- Page of SHP. -/
abbrev SHP : Nat := 0x54
/-- Page of POL. -/
abbrev POL : Nat := 0x55
/-- Page of GATE. -/
abbrev GATE : Nat := 0x56
/-- Page of LAT. -/
abbrev LAT : Nat := 0x57
/-- Page of MCR. -/
abbrev MCR : Nat := 0x58
/-- Page of HBM. -/
abbrev HBM : Nat := 0x60
/-- Page of DRQ. -/
abbrev DRQ : Nat := 0x68
/-- Page of FAB. -/
abbrev FAB : Nat := 0x70
/-- Page of FRT. -/
abbrev FRT : Nat := 0x71
/-- Page of FLK. -/
abbrev FLK : Nat := 0x72
/-- Page of FMC. -/
abbrev FMC : Nat := 0x7A
/-- Page of FCR. -/
abbrev FCR : Nat := 0x7B
/-- Page of D2D. -/
abbrev D2D : Nat := 0x7C
end Pg

/-- The block of an implemented page (R22): the page of the block's instance 0, or none. -/
def blockOf (p : Nat) : Option Nat :=
  if p = 0x0 then some 0x0
  else if p = 0x1 then some 0x1
  else if p = 0x2 then some 0x2
  else if p = 0x3 then some 0x3
  else if p = 0x4 then some 0x4
  else if p = 0x6 then some 0x6
  else if p = 0x7 then some 0x7
  else if p = 0x8 then some 0x8
  else if p = 0x9 then some 0x9
  else if p = 0xA then some 0xA
  else if p = 0xB then some 0xB
  else if p = 0xC then some 0xC
  else if p = 0xD then some 0xD
  else if p = 0xE then some 0xE
  else if 0x10 ≤ p ∧ p ≤ 0x12 then some 0x10
  else if p = 0x13 then some 0x13
  else if p = 0x14 then some 0x14
  else if p = 0x15 then some 0x15
  else if p = 0x16 then some 0x16
  else if p = 0x17 then some 0x17
  else if 0x20 ≤ p ∧ p ≤ 0x2F then some 0x20
  else if p = 0x30 then some 0x30
  else if p = 0x31 then some 0x31
  else if p = 0x32 then some 0x32
  else if p = 0x33 then some 0x33
  else if p = 0x34 then some 0x34
  else if p = 0x35 then some 0x35
  else if p = 0x36 then some 0x36
  else if p = 0x37 then some 0x37
  else if p = 0x38 then some 0x38
  else if p = 0x39 then some 0x39
  else if p = 0x3A then some 0x3A
  else if 0x40 ≤ p ∧ p ≤ 0x47 then some 0x40
  else if 0x48 ≤ p ∧ p ≤ 0x4B then some 0x48
  else if p = 0x50 then some 0x50
  else if p = 0x51 then some 0x51
  else if p = 0x52 then some 0x52
  else if p = 0x53 then some 0x53
  else if p = 0x54 then some 0x54
  else if p = 0x55 then some 0x55
  else if p = 0x56 then some 0x56
  else if p = 0x57 then some 0x57
  else if p = 0x58 then some 0x58
  else if 0x60 ≤ p ∧ p ≤ 0x67 then some 0x60
  else if p = 0x68 then some 0x68
  else if p = 0x70 then some 0x70
  else if p = 0x71 then some 0x71
  else if 0x72 ≤ p ∧ p ≤ 0x79 then some 0x72
  else if p = 0x7A then some 0x7A
  else if p = 0x7B then some 0x7B
  else if p = 0x7C then some 0x7C
  else none

/-- The block-specific fields of a page (R22). -/
def blockFields (p : Nat) : List Fld :=
  match blockOf p with
  | some 0x0 => Reg.fieldsTOP
  | some 0x1 => Reg.fieldsPWR
  | some 0x2 => Reg.fieldsRST
  | some 0x3 => Reg.fieldsAON
  | some 0x4 => Reg.fieldsTHM
  | some 0x6 => Reg.fieldsSEC
  | some 0x7 => Reg.fieldsBOOT
  | some 0x8 => Reg.fieldsICU
  | some 0x9 => Reg.fieldsPMU
  | some 0xA => Reg.fieldsMGT
  | some 0xB => Reg.fieldsHIF
  | some 0xC => Reg.fieldsHDM
  | some 0xD => Reg.fieldsMIR
  | some 0xE => Reg.fieldsWIN
  | some 0x10 => Reg.fieldsTIM
  | some 0x13 => Reg.fieldsSPN
  | some 0x14 => Reg.fieldsPTP
  | some 0x15 => Reg.fieldsSYE
  | some 0x16 => Reg.fieldsCRN
  | some 0x17 => Reg.fieldsPAIR
  | some 0x20 => Reg.fieldsPIPE
  | some 0x30 => Reg.fieldsPRS
  | some 0x31 => Reg.fieldsFRAG
  | some 0x32 => Reg.fieldsCLS
  | some 0x33 => Reg.fieldsLPM
  | some 0x34 => Reg.fieldsEXM
  | some 0x35 => Reg.fieldsLRN
  | some 0x36 => Reg.fieldsADJ
  | some 0x37 => Reg.fieldsACT
  | some 0x38 => Reg.fieldsRCC
  | some 0x39 => Reg.fieldsTDM
  | some 0x3A => Reg.fieldsSHD
  | some 0x40 => Reg.fieldsNETPG
  | some 0x48 => Reg.fieldsNSD
  | some 0x50 => Reg.fieldsBPM
  | some 0x51 => Reg.fieldsADM
  | some 0x52 => Reg.fieldsQM
  | some 0x53 => Reg.fieldsSCH
  | some 0x54 => Reg.fieldsSHP
  | some 0x55 => Reg.fieldsPOL
  | some 0x56 => Reg.fieldsGATE
  | some 0x57 => Reg.fieldsLAT
  | some 0x58 => Reg.fieldsMCR
  | some 0x60 => Reg.fieldsHBM
  | some 0x68 => Reg.fieldsDRQ
  | some 0x70 => Reg.fieldsFAB
  | some 0x71 => Reg.fieldsFRT
  | some 0x72 => Reg.fieldsFLK
  | some 0x7A => Reg.fieldsFMC
  | some 0x7B => Reg.fieldsFCR
  | some 0x7C => Reg.fieldsD2D
  | _ => []

/-- Every field of a page: the common header (R29) and the block's own. -/
def pageFields (p : Nat) : List Fld :=
  if (blockOf p).isSome then Reg.fieldsHDR ++ blockFields p else []

/-- The 92 implemented pages, in page order (R22). -/
def allPages : List Nat := (List.range 128).filter (fun p => (blockOf p).isSome)

end Sys2Proof.Machine
end

