-- ==== Sys2Proof/Machine/State.lean ====
section
/-! DEFINITION. State: everything the spec gives the device, as plain data. Every register field has its one home in
`Regs` (keyed by page, offset and bit), memories and queues have structures of their own. Fields that are the model's
own (`fresh`, `outbox`, `pending`) say so. -/
namespace Sys2Proof.Machine

/-- Why a command stops with a fault. No command of this block does: the spec gives every row an effect, and a
condition that does not hold makes the row's effect empty. Safe. -/
inductive Fault where
  /-- Raised by nobody; the type needs a name for the case that the spec never gives. Safe. -/
  | neverRaised
  deriving DecidableEq, Repr

/-- Why a command is refused. -/
inductive Refusal where
  /-- Raised by an arm of exec whose row has no meaning yet. Safe. -/
  | notModelled (mnemonic : String)
  deriving DecidableEq, Repr

/-- The register file. `active` and `staged` are keyed by field (page, offset, low bit); an unlisted active field reads
as its reset value, an unlisted staged field as the active one (R26, R28). `rdLatch` holds the upper dwords latched per
master and page (R37), `wrLow` the low dword last written per master and register (R38). -/
structure Regs where
  active : SMap Nat
  staged : SMap Nat
  rdLatch : List ((Master × Nat) × Nat)
  wrLow : List ((Master × Nat) × Nat)
  deriving DecidableEq, Repr

/-- Pins and board-level inputs (R446): levels as last sensed, and the outputs the device drives. -/
structure Pins where
  straps : Byte
  seat : Bool
  present : Bool
  belayIn : Bool
  belayInQuiet : Bool        -- BELAY_IN deasserted 200 ns without a break (R89)
  belayOut : Bool
  seated : Bool
  seatedQualified : Bool     -- 100 ms of unbroken SEATED_L (R116)
  pgIn : Byte
  porst : Bool               -- CHIP_PORST_L asserted
  hostPerst : Bool           -- HOST_PERST_L asserted
  thermTrip : Bool           -- THERM_TRIP_L asserted
  gpio : BitVec 16
  sdref : Byte                 -- reference clocks present and within 100 ppm (R455)
  sharedOut : Bool           -- TIME_1PPS_OUT, TOD_OUT and SYNCE_CLK_OUT driven (R90)
  deriving DecidableEq, Repr

/-- One channel of the rope (R46, R86): its device time in units of 1/(5·2^18·10^9) ns, its effective adjustment in
2^-20 ppb, and whether a restart waits for a pitch boundary or for the next epoch boundary. -/
structure Channel where
  time : Nat
  adj : Int
  fallow : Bool
  loadPending : Bool
  rejoinAt : Option Nat
  deriving DecidableEq, Repr

/-- Network time (R46 to R61). Frequencies in 2^-20 ppb, phases in ns. -/
structure TimeSt where
  chA : Channel
  chB : Channel
  chC : Channel
  freqPending : Option Int     -- TIM_FREQ waiting for a pitch boundary (R53)
  servoFreq : Int
  slewTerm : Int
  phaseRem : Int               -- phase still to slew, in subunits of the channel time
  holdTerm : Int
  holdActive : Bool            -- R57 computes adj each epoch (R57, R58)
  c0 : Int
  y0 : Int
  holdStart : Nat
  servoEpoch : Nat             -- start of the TIM_HOLD_TIMEOUT count (R53)
  beforeTraverse : Nat         -- state held before a Traverse (R48)
  travEpoch : Nat
  pitchDone : Nat              -- last pitch boundary handled, counted from the PTP epoch
  epochDone : Nat              -- last epoch boundary handled
  smbTemp : Nat                -- last good SMBus temperature (R58)
  smbFails : Nat
  todRx : Bytes                -- 256-byte FIFO (R50, R62)
  todTx : Bytes
  todAcc : Nat                 -- bit time sent of the byte going out
  tsq : List Nat               -- timestamp queue, 128-bit entries (R63)
  tsqLatch : Nat
  ptpPort : SMap Nat           -- PTP_PORT_CFG per port (R63)
  ptpLat : SMap Nat            -- PTP_LAT per port
  convergeCount : Nat          -- epochs with offset within 2 ns (R59)
  wordEpoch : Nat              -- epoch of the last valid time word followed
  stepEpoch : Nat              -- epoch of the last forward step (R61)
  gotWord : Bool               -- a valid time word arrived in this epoch
  conflict : Bool              -- words named two root IDs in this epoch (R60)
  deriving DecidableEq, Repr

/-- Spine checking (R83 to R85): the quiet period after a mismatch and what started the running check. -/
structure SpineSt where
  quietUntil : Nat
  checkTwo : Bool
  checkNoMajority : Bool
  checkSelf : Bool
  deriving DecidableEq, Repr

/-- Device pair (R88 to R93): decision records of the current and of the last epoch (CRC state per port), digests. -/
structure PairSt where
  decCrc : SMap Nat            -- per-port CRC-64 of this epoch
  decSeq : SMap Nat            -- per-port decision count of this epoch
  own : List (Nat × Nat × Nat × Nat)   -- (epoch, GEN_DIGEST, DEC_DIGEST, DEC_COUNT), newest first
  genAtBoundary : Nat
  lastRx : Nat                 -- receive time of the peer's last digest; 0 none
  lastTx : Nat
  peerSeen : List Nat          -- epochs whose digest arrived
  missRun : Nat
  checkStart : Nat
  deriving DecidableEq, Repr

/-- An armed cairn (R66): sequence ID, target, scope, mask, origin, whether it came from a peer, arrival epoch and the
epoch at which the next repeat falls due. -/
structure Armed where
  seq : Nat
  target : Nat
  scope : Bool
  mask : Nat
  origin : Nat
  remote : Bool
  arrival : Nat
  nextRepeat : Nat
  deriving DecidableEq, Repr

/-- A log entry of R81. -/
structure CrnLog where
  target : Nat
  seq : Nat
  mask : Nat
  status : Nat
  scope : Bool
  remote : Bool
  origin : Nat
  arrival : Nat
  deriving DecidableEq, Repr

/-- The cairn engine (R66 to R81): armed list in posting order, log newest first, (origin, sequence) pairs recorded. -/
structure CairnSt where
  armed : List Armed
  log : List CrnLog
  seen : List (Nat × Nat)
  deriving DecidableEq, Repr

/-- One bank of a double-banked structure: generation, contents, digest of the artifact as loaded (R401). -/
structure Bank (α : Type) where
  gen : Nat
  body : α
  digest : BitVec 384
  deriving DecidableEq, Repr

/-- A double-banked structure (R69, R73, R74): the active bank, a valid staged artifact, and a retiring bank with the
epoch of its swap. -/
structure Banked (α : Type) where
  active : Bank α
  staged : Option (Bank α)
  retiring : Option (Bank α × Nat)
  deriving DecidableEq, Repr

/-- A rule set (R142): nodes as 128-bit numbers, action records as 256-bit numbers. -/
structure RuleSet where
  nodes : List Nat
  actions : List Nat
  deriving DecidableEq, Repr

/-- A route image (R167). -/
structure LpmImage where
  roots4 : List Nat
  roots6 : List Nat
  nodes : List Nat
  results : List Nat
  hbmNodes : List Nat
  deriving DecidableEq, Repr

/-- A calendar (R237). -/
structure Calendar where
  cycle : Nat
  index : List Nat
  entries : List Nat
  rope : List Nat
  deriving DecidableEq, Repr

/-- A cyclic gate list (R263): BASE_TIME in ns, CYCLE_NS, entries. -/
structure CycList where
  base : Nat
  cycleNs : Nat
  entries : List Nat
  deriving DecidableEq, Repr

/-- A timetable (R268): times in ns since the PTP epoch. -/
structure Timetable where
  takeover : Nat
  initial : Nat
  entries : List (Nat × Nat)
  deriving DecidableEq, Repr

/-- A lean plan (R412). -/
structure LeanPlan where
  fallow : Nat
  planId : Nat
  deriving DecidableEq, Repr

/-- Every double-banked structure of the device (R12, R15). -/
structure Banks where
  parse : Banked (List Nat)
  sets : List (Banked RuleSet)
  tmpl : Banked (List Bytes)
  lpm : Banked LpmImage
  frt : Banked (List Nat)
  fmc : Banked (List Nat)
  plan : Banked LeanPlan
  cals : SMap (Banked Calendar)
  cycs : SMap (Banked CycList)
  deriving DecidableEq, Repr

/-- The generations a packet sampled (R12): parse graph, the eight rule sets, route tables, templates. -/
structure Gens where
  parse : Nat
  sets : List Nat
  lpm : Nat
  tmpl : Nat
  deriving DecidableEq, Repr

/-- A header instance (R129). -/
structure HdrInst where
  type : Nat
  off : Nat
  level : Nat
  deriving DecidableEq, Repr

/-- A parse result (R129): instances, END, the stop reasons (0 none), marks, and the declared end a CHECK with unknown
bound keeps for the tail (R132): its CHECK number, header offset and declared end. -/
structure ParseRes where
  insts : List HdrInst
  stop : Nat
  inc : Nat
  mal : Nat
  fragFirst : Bool
  fragLater : Bool
  ecpri : Bool
  kept : Option (Nat × Nat × Nat)
  markInst : Option HdrInst
  state : Nat
  deriving DecidableEq, Repr

/-- The forwarding decision of a pass (R150 to R153). `destKind`: 0 none, 1 next hop, 2 ECMP group, 3 system port,
4 multicast group. `lookedUp` marks a destination that a resolved next hop gave. -/
structure Decision where
  destKind : Nat
  dest : Nat
  drop : Bool
  recirc : Bool
  punt : Option (Nat × Bool)
  mirror : Option Nat
  cls : Nat
  color : Nat
  policer : Option Nat
  counter : Option Nat
  tmpl : Option Nat
  metadata : Nat
  adj : Option Nat
  incRule : Bool
  l2 : Option Nat
  deriving DecidableEq, Repr

/-- A packet inside the device (R4): its bytes without FCS, P once it is known (R121), the port of entry and of the pass
(the ingress port, or 128 + r), its sampled generations (R12), the second pass's start state (R156), the last parse
result and decision, the flow hash, L3_OFS (R159), the egress key (R147), T_rx (R13), the TC_OPEN mark (R51), whether the
tail has arrived and was bad, what the tail check needs (FCS register and bytes received), the class of R114, a DECAP
template whose length fixups wait for the tail, the reason code of a punt (R344) and the source device. -/
structure Packet where
  pid : Nat
  bytes : Bytes
  plen : Option Nat
  port : Nat
  mport : Nat                  -- port of the pass: the ingress port, or 128 + r on the second pass
  pass : Nat
  gens : Gens
  start2 : Nat
  parse : ParseRes
  d : Decision
  hash : Nat
  l3ofs : Nat
  tos : Option Nat
  proto : Option Nat
  dport : Option Nat
  trx : Nat
  tcOpen : Bool
  tailDone : Bool
  bad : Bool
  crc : Nat
  rxLen : Nat
  cls0 : Nat
  fixLater : Option Bytes
  alloc : Nat                  -- stored length used for allocation (R217)
  inSpeed : Nat                -- speed of the ingress port in Gb/s (R228)
  reason : Nat
  srcDev : Nat
  pipe : Nat                   -- pipeline that carries it (R100, R347)
  standby : Bool               -- its parse started on a protected port of a device that does not own (R91)
  deriving DecidableEq, Repr

/-- A frame in an input FIFO (R110): bytes received so far, whether the tail has arrived, class given by the MAC. -/
structure InFrame where
  pid : Nat
  bytes : Bytes
  whole : Bool
  badFcs : Bool
  cls : Nat
  ecpri : Bool
  trx : Nat
  meta16 : Nat                 -- initial META of an injected frame (R346)
  direct : Option Nat          -- DEST of an injected frame with DIRECT = 1 (R346)
  deriving DecidableEq, Repr

/-- State of one port's MAC and FIFO (R110 to R117): frames waiting, FIFO back-pressure, admission back-pressure per
class, classes on which the port last told the peer to stop, the picosecond of device time at which each class's pause timer runs out. -/
structure PortSt where
  fifo : List InFrame
  fifoBp : Bool
  admBp : BitVec 8
  told : BitVec 8
  pauseUntil : List Nat
  deriving DecidableEq, Repr

/-- A fragment-table entry (R135 to R138): key, stored decision, generation sample of the transmitting stages, epoch. -/
structure FragEnt where
  bucket : Nat
  slot : Nat
  key : Bytes
  d : Decision
  epoch : Nat
  deriving DecidableEq, Repr

/-- Ingress and egress data path between its steps: input ports, packets waiting for their second pass, packets whose
tail has still to arrive after their pass, packets and counter records on the die-to-die link, the fragment table. -/
structure PathSt where
  ports : SMap PortSt
  recirc : List Packet
  d2d : List Packet
  dropped : List Packet        -- dropped before their tail, with a counter record owed (R11)
  mcrq : List (Nat × Nat)      -- flow counter records: counter, P + 4 (R251)
  frag : List FragEnt
  fragSeed : Nat               -- draw number of the bucket hash seed (R135)
  rccTok : SMap (Nat × Nat)    -- recirculation buckets: 1/1,000 tokens and time of the last refill in ns (R155)
  nextPid : Nat
  pipeFrom : SMap Nat          -- time in ns at which a pipeline's counters last cleared
  deriving DecidableEq, Repr

/-- Exact match (R173 to R176): buckets of each table as lists of four slots, the stash, seed draw numbers, hit marks
for ageing (R181). Slots are 128-bit numbers; an empty slot is 0. -/
structure ExmSt where
  t0 : SMap (List Nat)
  t1 : SMap (List Nat)
  stash : SMap Nat
  seedDraw : Nat
  hits : List Nat              -- keys (TYPE and KEY) hit since the last sweep
  deriving DecidableEq, Repr

/-- A learning request (R178, R182): the slot, and whether it is a post and a removal. -/
structure LearnReq where
  slot : Nat
  post : Bool
  remove : Bool
  deriving DecidableEq, Repr

/-- The learning engine's queue (R179) and the last 256 keys queued. -/
structure LearnSt where
  queue : List LearnReq
  recent : List Nat
  held : Bool
  deriving DecidableEq, Repr

/-- The tables of R197 and R255 that are not banked. Entries as numbers of the entry's width; buckets of shapers and
policers as (first tokens, second tokens, time of the last refill in ns), tokens in 1/(8·10^6) byte. -/
structure Tables where
  bd : SMap Nat
  nh : SMap Nat
  ecmp : SMap Nat
  member : SMap Nat
  adj : SMap Nat
  polCfg : SMap Nat
  polTok : SMap (Int × Int × Nat)
  ctr : SMap (Nat × Nat)
  shpStg : SMap Nat
  shpAct : SMap Nat
  shpTok : SMap (Int × Int × Nat)
  snStg : SMap Nat
  snAct : SMap Nat
  anStg : SMap Nat
  anAct : SMap Nat
  deriving DecidableEq, Repr

/-- A packet buffer in use (R216, R221): pool, index, the packet, reference count, and what it counts in. -/
structure Buffer where
  bid : Nat
  pool : Nat
  idx : Nat
  pkt : Packet
  refs : Nat
  fabric : Bool                -- counts in FOCC, else in OCC (R222)
  occPort : Nat
  occCls : Nat
  charge : Nat                 -- bytes counted
  deriving DecidableEq, Repr

/-- One pool's free store (R218): the ring and the cache as runs (first index, length), oldest first. -/
structure Pool where
  base : Nat
  total : Nat
  ring : List (Nat × Nat)
  cache : List (Nat × Nat)
  deriving DecidableEq, Repr

/-- The buffer manager (R214 to R223). OCC and FOCC in bytes, keyed by 8·port + class and by class. -/
structure BufSt where
  pools : List Pool
  sizes : List Nat             -- pool sizes in GiB, as applied (R214)
  bufs : SMap Buffer
  descFree : Nat
  occ : SMap Nat
  focc : SMap Nat
  mirHeld : SMap Nat           -- copies held per mirror session (R227)
  puntHeld : SMap Nat          -- packets held per punt ring
  rebuilding : Bool
  nextBid : Nat
  deriving DecidableEq, Repr

/-- An entry of a queue: the buffer, the copy's destination port, class, META, enqueue time in ns (R13), the rule-set and
template generations sampled for egress (R12), why it was punted, mirror session if a mirror copy. -/
structure QEnt where
  bid : Nat
  dst : Nat
  cls : Nat
  tenq : Nat
  gens : Gens
  reason : Nat
  mirror : Option Nat
  cut : Bool
  sent : Option Nat            -- bytes of a cut-through packet's cell stream already sent (R228)
  deriving DecidableEq, Repr

/-- Egress queues, fabric VOQs, fabric multicast queues and punt queues (R234 to R236, R313, R345), by number. -/
structure QueueSt where
  egress : SMap (List QEnt)
  voq : SMap (List QEnt)
  fmcq : SMap (List QEnt)
  punt : SMap (List QEnt)
  scanPos : Nat
  deriving DecidableEq, Repr

/-- One port's arbiter (R242, R243): entries of the current pitch still to visit, the visit in progress (its entry, bytes
left, and its place in the rope if it is a rope visit), rope pointers by rank, the epochs whose slice is on die with the
entries whose read failed (R240), the cut-through copy on the wire, and the port's counters of R257. -/
structure SchedPort where
  todo : List Nat
  visit : Option (Nat × Int × Option Nat)
  ropePtr : SMap Nat
  slices : List (Nat × List Nat)
  cutting : Option (QEnt × Nat × Nat)   -- with its queue and T_tx
  cnt : List Nat
  deriving DecidableEq, Repr

/-- One port's gates (R261 to R272). -/
structure GatePort where
  open_ : BitVec 8
  start : Option Nat           -- S of R267, in ns, while CYC_HOLD
  running : Bool
  fault : Bool
  ttActive : Option Timetable
  ttPending : Option Timetable
  ttNext : Nat
  ttState : Nat                -- state the timetable gives (R270)
  ttOnDie : Nat                -- entries on die (R272)
  deriving DecidableEq, Repr

/-- A latency sample (R275): host offset, PKTS, BYTES, HEAD_DELAY in ns, VALID, epoch, queue and whether watched. -/
structure LatSample where
  off : Nat
  pkts : Nat
  bytes : Nat
  delay : Nat
  valid : Bool
  epoch : Nat
  queue : Nat
  watched : Bool
  deriving DecidableEq, Repr

/-- The latency sampler (R275 to R279): samples to write, watched lists, worst sample of the running rotation. -/
structure LatSt where
  samples : List LatSample
  watchAct : SMap Nat
  watchStg : SMap Nat
  worst : Nat × Nat
  deriving DecidableEq, Repr

/-- A cell in a relay buffer (R282, R299, R306): its bytes as they will leave, arrival link, the VC whose slot it holds, and
the links it has still to leave on. -/
structure RelayCell where
  bytes : Bytes
  inLink : Nat
  vc : Nat
  outs : List Nat
  deriving DecidableEq, Repr

/-- One fabric link (R280 to R294): last HELLO, valid HELLOs in a row and the time of the last in ns; per VC the counts of
cells sent and received, of slots freed and reported, and the FREED counts the peer reported; the relay buffer, own cells
waiting for a credit, the round-robin pointer of R306, TIME cells sent and received as (epoch, time), the last time word, and
the multicast packets that are being relayed onto the link: VC and class, arrival link, cells to come. -/
structure LinkSt where
  peer : Option Hello
  good : Nat
  helloAt : Nat
  sent : List Nat
  received : List Nat
  freed : List Nat
  reported : List Nat
  seenFreed : List Nat
  relay : List RelayCell
  own : List Bytes
  rr : Nat
  tx : List (Nat × Nat)
  rx : Option (Nat × Nat)
  word : Option TimeWord
  mcLock : List (Nat × Nat × Nat)
  deriving DecidableEq, Repr

/-- A VOQ's cell in progress (R301 to R303): payload so far, FIRST_OFS, FLOW_PIN, PARITY. -/
structure VoqCell where
  bytes : Bytes
  first : Nat
  pin : Nat
  parity : Nat
  deriving DecidableEq, Repr

/-- A reassembly context (R302, R309, R310): the SEQ expected, cells held by SEQ, since when the expected one has been
missing in ns, the part of the stream not yet delivered, whether the context looks for the next metadata, and a cut-through
packet in progress with its buffer, if it has one. -/
structure Reasm where
  expect : Nat
  held : SMap Bytes
  gapAt : Option Nat
  stream : Bytes
  skipping : Bool
  ct : Option (Option Nat)
  deriving DecidableEq, Repr

/-- Fabric forwarding (R299 to R313). Per VOQ: next SEQ, the cell in progress, G_SEEN, CHARGED, RETURNED, SEQ_AT, empty
epoch boundaries in a row, the time of the last REQUEST in ns plus 1. Per source and class: G, CH_REC, RET, BACKLOG. Per
class: the round-robin pointer of grants, the time in ns at which the multicast queue may send again. Contexts per source and
class, and per arrival link, VC and class. -/
structure FabSt where
  links : SMap LinkSt
  seqNext : SMap Nat
  cell : SMap VoqCell
  gSeen : SMap Nat
  charged : SMap Nat
  returned : SMap Nat
  seqAt : SMap Nat
  emptyRun : SMap Nat
  reqAt : SMap Nat
  g : SMap Nat
  chRec : SMap Nat
  ret : SMap Nat
  backlog : SMap Nat
  rrNext : SMap Nat
  fmcAt : SMap Nat
  reasm : SMap Reasm
  mreasm : SMap Reasm
  deriving DecidableEq, Repr

/-- An HBM request in DRQ (R323). -/
structure HbmReq where
  rid : Nat
  port : Nat
  addr : Nat
  write : Bool
  part : Bool                  -- covers less than a 256-bit word (R326)
  conflict : Bool              -- a write that shares its bank and row with a pending read (R325)
  at_ : Nat                    -- acceptance time in ns
  target : Nat
  issued : Bool
  overdue : Bool
  deriving DecidableEq, Repr

/-- One HBM stack's run-time state beyond its registers (R327 to R333). -/
structure StackSt where
  window : Bool
  pendingBand : Option Nat
  loading : Option Nat         -- band whose delays load in the open window (R333)
  delays : SMap Nat            -- (band·32 + q)·64 + lane ↦ read delay + 256·write delay
  writeBack : List Nat         -- addresses of corrected words waiting for an idle slot (R334)
  deriving DecidableEq, Repr

/-- The HBM side (R320 to R338): stacks, requests in acceptance order, requests that wait for room in a write queue,
words whose check bits are bad (R326). What the device's own words hold stands in the structures that use them (tables,
buffers, queues, calendars), so that every access has its effect when it is made (R325); `mem` holds what windows have
written elsewhere (R357), an unlisted byte reading as 0 (log entry 8). -/
structure HbmSt where
  stackSts : SMap StackSt
  reqs : List HbmReq
  waiting : List HbmReq
  badWords : List Nat
  mem : List Host.Cell
  nextRid : Nat
  drain : List Nat             -- pseudo-channels (32·stack + q) draining writes
  openRows : SMap Nat          -- bank ↦ open row + 1
  latMax : SMap Nat
  reqCnt : SMap Nat
  overdueCnt : SMap Nat
  scrubWord : SMap Nat         -- next word of the granule under scrub
  deriving DecidableEq, Repr

/-- A window transaction (R358, R359): who asked (none: the host; else link and peer tag and source), its number. -/
structure WinTxn where
  tid : Nat
  win : Nat
  write : Option Bytes
  off : Nat
  len : Nat
  peer : Option (Nat × MtCell)
  deriving DecidableEq, Repr

/-- The host interface beyond its registers (R339 to R360). -/
structure HostSt where
  bme : Bool
  tags : SMap (Nat × Nat)      -- outstanding reads by tag: issue time in ns, timeout in µs (R355)
  quarantine : SMap (Nat × Nat)   -- tags in quarantine: its start in ns, its length in µs (R356)
  holdFrom : Nat               -- start of this containment, in ns (R353)
  holdOver : Bool              -- HIF_HOLD has expired in this containment
  winOld : List WinTxn         -- remote transactions outstanding
  winHeld : List WinTxn
  nextTid : Nat
  deriving DecidableEq, Repr

/-- The interrupt controller (R369 to R378): PEND of edge sources, the source in service per core, held groups. -/
structure IcuSt where
  edge : List Nat
  insvc : List (Option Nat)
  held : List Nat
  gpioLevel : BitVec 8
  deriving DecidableEq, Repr

/-- The management cores beyond their registers: when each watchdog was last restarted, in ns (R367). -/
structure MgtSt where
  wdogStart : List Nat
  deriving DecidableEq, Repr

/-- A firmware bundle partition or the boot record (R381, R382). -/
structure BootRec where
  seq : Nat
  pending : Bool
  copyAB : Bool
  copySA : Bool
  stgLen : Nat
  deriving DecidableEq, Repr

/-- Boot flash and starts (R381 to R396). -/
structure BootSt where
  rec0 : Option BootRec
  rec1 : Option BootRec
  partA : Bytes
  partB : Bytes
  staging : Bytes
  headlessAt : Option Nat      -- ns of H while headless
  traverseDelayed : Bool       -- a trigger waits for a fuse burn (R427)
  copyTries : Nat
  startDue : Bool              -- the mask ROM is to try the candidates (R389)
  verified : Bool              -- a candidate was accepted and R390 is still to run
  runHdr : Bytes               -- header of the running bundle (R401)
  deriving DecidableEq, Repr

/-- Trust (R397 to R404): burned fuse bits, attestation in progress. -/
structure SecSt where
  burned : Nat                 -- rollback bits burned since manufacture, over the fuse value
  revoked : Nat
  nonce : Nat
  attRestarted : Bool
  attDirty : Bool              -- a commit fell into the build (R399)
  deriving DecidableEq, Repr

/-- Power sequencing (R407 to R414): domains powered, domains still to switch, direction, mode to enter at the end. -/
structure PwrSt where
  on : List Nat
  seqOn : List Nat
  seqOff : List Nat
  modeAfter : Option Nat
  awaitReady : Option Nat      -- a domain switched on and not yet ready
  empties : Nat                -- empty epoch boundaries in DRAIN (R408)
  govRate : Nat                -- pipeline clocks granted of the 15 of a governor tick (R411, R417)
  thmFails : List Nat
  deriving DecidableEq, Repr

/-- PMU counters (R433 to R437): configuration, filter, value and WRAP by counter number. -/
structure PmuSt where
  cfg : SMap Nat
  filt : SMap Nat
  val : SMap Nat
  wrap : List Nat
  ceCount : Nat                -- KIND 3 records written in this epoch (R441)
  fwinFrom : SMap Nat          -- page * 4 + n: the epoch within the window that a FWIN_n_CFG write began (R443)
  deriving DecidableEq, Repr

/-- A table DMA descriptor taken up (R195): its fields, its ring index, the entries or slots done, and the slots with outcome
4, 6 or 7. -/
structure Desc where
  op : Nat
  table : Nat
  bank : Nat
  len : Nat
  addr : Nat
  index : Nat
  tag : Nat
  ring : Nat
  pos : Nat
  bad : Nat
  deriving DecidableEq, Repr

/-- The table DMA engine (R194, R204, R210). -/
structure TdmSt where
  cur : Option Desc
  retry : Bool                 -- a descriptor read failed (R194)
  applySel : Nat               -- the profile of an accepted APPLY (R204)
  applyWaiting : Bool
  applyRunning : Bool
  abandoned : Bool             -- stopped by containment (R210)
  deriving DecidableEq, Repr

/-- A shadow finding (R208): kind, array (0 LPM, 1 exact match), shadow index, epoch found. -/
structure Finding where
  kind : Nat
  exm : Bool
  idx : Nat
  epoch : Nat
  deriving DecidableEq, Repr

/-- Shadow compare beyond its registers. -/
structure ShdSt where
  finds : List Finding
  deriving DecidableEq, Repr

/-- A reset in progress (R426, R430, R432): pages inside a register clear. -/
structure RstSt where
  warm : Bool
  flr : Bool
  blocks : List Nat
  headless : Bool
  cold : Bool                  -- between the end of CHIP_PORST_L and END_OF_COLD (R431)
  deriving DecidableEq, Repr

/-- The IEEE 1149.1 TAP (R461): controller state 0 to 15, and the BYPASS bit. -/
structure TapSt where
  state : Nat
  bypass : Bool
  deriving DecidableEq, Repr

/-- The die-to-die link (R295): channels out of use. -/
structure D2dSt where
  failed : List Nat
  deriving DecidableEq, Repr

/-- What the device puts outside itself; the model's own record, appended in order (log entry 3). -/
inductive Emit where
  | readData (m : Master) (v : Nat)
  | unsupported (m : Master)
  | hostWrite (addr : Nat) (b : Bytes)
  | frame (port : Nat) (b : Bytes)
  | pause (port : Nat) (b : Bytes)
  | cell (link : Nat) (b : Bytes)
  | pairFrame (b : Bytes)
  | pulse
  | todByte (b : Byte)
  | tdo (v : Bool)
  | smbus (addr : Nat)
  | toCore1 (port : Nat) (b : Bytes)
  deriving DecidableEq, Repr

/-- The device. -/
structure State where
  regs : Regs
  pins : Pins
  time : TimeSt
  spine : SpineSt
  pair : PairSt
  cairn : CairnSt
  banks : Banks
  path : PathSt
  exm : ExmSt
  learn : LearnSt
  tab : Tables
  buf : BufSt
  q : QueueSt
  sched : SMap SchedPort
  gates : SMap GatePort
  lat : LatSt
  fab : FabSt
  hbm : HbmSt
  host : HostSt
  icu : IcuSt
  mgt : MgtSt
  boot : BootSt
  sec : SecSt
  pwr : PwrSt
  pmu : PmuSt
  tdm : TdmSt
  shd : ShdSt
  rst : RstSt
  tap : TapSt
  d2d : D2dSt
  fresh : Nat                  -- free-value counter, the model's own (log entry 4)
  outbox : List Emit           -- the model's own (log entry 3)
  pending : List Instr         -- commands waiting, first in, first out
  deriving DecidableEq, Repr

/-! The machine right after reset: a COLD start at t0 of R431, before END_OF_COLD. Straps and the sensed pins, whose
levels come from outside, stand at the values log entry 6 names. -/

/-- Register file at reset: every field reads its Reset column, no staged copy differs (R425, R28). The mode is that of
STANDBY (R407, R431; log entry 7), the cause that of a reset. -/
def Regs.initial : Regs := { active := [(0x108 * 64, 0)], staged := [], rdLatch := [], wrLow := [] }

/-- Pins at t0 (log entry 6): straps 0, no peer, seated, every power-good input high. -/
def Pins.initial : Pins :=
  { straps := 0, seat := false, present := false, belayIn := false, belayInQuiet := true, belayOut := false,
    seated := true, seatedQualified := true, pgIn := 0xFF, porst := false, hostPerst := true, thermTrip := false,
    gpio := 0, sdref := 0, sharedOut := true }

/-- A channel of the rope at reset: time 0, no adjustment (R48, R82). -/
def Channel.initial : Channel := { time := 0, adj := 0, fallow := false, loadPending := false, rejoinAt := none }

/-- Network time at reset: FREE, everything 0 (R48). -/
def TimeSt.initial : TimeSt :=
  { chA := Channel.initial, chB := Channel.initial, chC := Channel.initial, freqPending := none, servoFreq := 0,
    slewTerm := 0, phaseRem := 0, holdTerm := 0, holdActive := false, c0 := 0, y0 := 0, holdStart := 0,
    servoEpoch := 0, beforeTraverse := 0, travEpoch := 0, pitchDone := 0, epochDone := 0, smbTemp := 0, smbFails := 0,
    todRx := [], todTx := [], todAcc := 0, tsq := [], tsqLatch := 0, ptpPort := [], ptpLat := [], convergeCount := 0,
    wordEpoch := 0, stepEpoch := 0, gotWord := false, conflict := false }

/-- Spine checking at reset. -/
def SpineSt.initial : SpineSt :=
  { quietUntil := 0, checkTwo := false, checkNoMajority := false, checkSelf := false }

/-- Device pair at reset. -/
def PairSt.initial : PairSt :=
  { decCrc := [], decSeq := [], own := [], genAtBoundary := 0, lastRx := 0, lastTx := 0, peerSeen := [],
    missRun := 0, checkStart := 0 }

/-- A banked structure with nothing committed and nothing staged (R30, R73). -/
def Banked.initial {α : Type} (empty : α) : Banked α :=
  { active := { gen := 0, body := empty, digest := 0 }, staged := none, retiring := none }

/-- The rule set of no nodes. -/
def RuleSet.empty : RuleSet := { nodes := [], actions := [] }

/-- The route image of no routes. -/
def LpmImage.empty : LpmImage := { roots4 := [], roots6 := [], nodes := [], results := [], hbmNodes := [] }

/-- The empty calendar. -/
def Calendar.empty : Calendar := { cycle := 0, index := [], entries := [], rope := [] }

/-- The empty gate list. -/
def CycList.empty : CycList := { base := 0, cycleNs := 0, entries := [] }

/-- The lean plan that leaves nothing fallow (R412). -/
def LeanPlan.empty : LeanPlan := { fallow := 0, planId := 0 }

/-- Every banked structure at reset: nothing committed (R30). -/
def Banks.initial : Banks :=
  { parse := Banked.initial [], sets := List.replicate 8 (Banked.initial RuleSet.empty), tmpl := Banked.initial [],
    lpm := Banked.initial LpmImage.empty, frt := Banked.initial [], fmc := Banked.initial [],
    plan := Banked.initial LeanPlan.empty, cals := [], cycs := [] }

/-- The data path at reset: nothing in flight. -/
def PathSt.initial : PathSt :=
  { ports := [], recirc := [], d2d := [], dropped := [], mcrq := [], frag := [], fragSeed := 0, rccTok := [], nextPid := 0, pipeFrom := [] }

/-- Exact-match memory at reset: empty, seeds drawn (R174). -/
def ExmSt.initial : ExmSt := { t0 := [], t1 := [], stash := [], seedDraw := 0, hits := [] }

/-- The learning queue at reset. -/
def LearnSt.initial : LearnSt := { queue := [], recent := [], held := false }

/-- The unbanked tables at reset content (R255, R429). -/
def Tables.initial : Tables :=
  { bd := [], nh := [], ecmp := [], member := [], adj := [], polCfg := [], polTok := [], ctr := [], shpStg := [],
    shpAct := [], shpTok := [], snStg := [], snAct := [], anStg := [], anAct := [] }

/-- The buffer manager before the free store is built (R231). -/
def BufSt.initial : BufSt :=
  { pools := [], sizes := [32, 24, 32, 32], bufs := [], descFree := 0, occ := [], focc := [], mirHeld := [], puntHeld := [], rebuilding := true,
    nextBid := 0 }

/-- Queues at reset: empty. -/
def QueueSt.initial : QueueSt := { egress := [], voq := [], fmcq := [], punt := [], scanPos := 0 }

/-- The latency sampler at reset. -/
def LatSt.initial : LatSt := { samples := [], watchAct := [], watchStg := [], worst := (0, 0) }

/-- The fabric at reset: no link has spoken. -/
def FabSt.initial : FabSt :=
  { links := [], seqNext := [], cell := [], gSeen := [], charged := [], returned := [], seqAt := [], emptyRun := [],
    reqAt := [], g := [], chRec := [], ret := [], backlog := [], rrNext := [], fmcAt := [], reasm := [], mreasm := [] }

/-- The HBM at reset: stacks off, no requests. -/
def HbmSt.initial : HbmSt :=
  { stackSts := [], reqs := [], waiting := [], badWords := [], mem := [], nextRid := 0, drain := [], openRows := [], latMax := [],
    reqCnt := [], overdueCnt := [], scrubWord := [] }

/-- The host interface at reset (R423). -/
def HostSt.initial : HostSt :=
  { bme := false, tags := [], quarantine := [], holdFrom := 0, holdOver := false, winOld := [],
    winHeld := [], nextTid := 0 }

/-- The interrupt controller at reset. -/
def IcuSt.initial : IcuSt := { edge := [], insvc := [none, none, none, none], held := [], gpioLevel := 0 }

/-- Boot flash as delivered: empty partitions, no boot record (log entry 9). -/
def BootSt.initial : BootSt :=
  { rec0 := none, rec1 := none, partA := [], partB := [], staging := [], headlessAt := none, traverseDelayed := false,
    copyTries := 0, startDue := false, verified := false, runHdr := [] }

/-- Trust at reset: nothing burned beyond the factory fuses. -/
def SecSt.initial : SecSt :=
  { burned := 0, revoked := 0, nonce := 0, attRestarted := false, attDirty := false }

/-- Power at reset: only AON powered (R406, R431). -/
def PwrSt.initial : PwrSt :=
  { on := [0], seqOn := [], seqOff := [], modeAfter := none, awaitReady := none, empties := 0,
    govRate := 15, thmFails := List.replicate 24 0 }

/-- The PMU at reset: every counter unconfigured and 0. -/
def PmuSt.initial : PmuSt := { cfg := [], filt := [], val := [], wrap := [], ceCount := 0, fwinFrom := [] }

/-- Table DMA at reset: idle. -/
def TdmSt.initial : TdmSt :=
  { cur := none, retry := false, applySel := 0, applyWaiting := false, applyRunning := false, abandoned := false }

/-- No reset clear running but the COLD start itself (R431). -/
def RstSt.initial : RstSt := { warm := false, flr := false, blocks := [], headless := false, cold := true }

/-- The device right after reset: t0 of a COLD start (R431). -/
def State.reset : State :=
  { regs := Regs.initial, pins := Pins.initial, time := TimeSt.initial, spine := SpineSt.initial,
    pair := PairSt.initial, cairn := { armed := [], log := [], seen := [] }, banks := Banks.initial,
    path := PathSt.initial, exm := ExmSt.initial, learn := LearnSt.initial, tab := Tables.initial,
    buf := BufSt.initial, q := QueueSt.initial, sched := [], gates := [], lat := LatSt.initial, fab := FabSt.initial,
    hbm := HbmSt.initial, host := HostSt.initial, icu := IcuSt.initial, mgt := { wdogStart := [0, 0, 0, 0] }, boot := BootSt.initial, sec := SecSt.initial,
    pwr := PwrSt.initial, pmu := PmuSt.initial, tdm := TdmSt.initial, shd := { finds := [] }, rst := RstSt.initial,
    tap := { state := 15, bypass := false }, d2d := { failed := [] }, fresh := 1, outbox := [], pending := [] }

end Sys2Proof.Machine
end

