-- ==== Sys2Proof/Machine/Ops.lean ====
section
/-! DEFINITION. Ops: the named operations over registers, pages, device time and the model's own record of outputs. -/
namespace Sys2Proof.Machine

/-! ## Registers (R26, R28) -/

/-- The one home of instance `i` of a field on page `pg`: page, offset and low bit as one number. -/
def fkey (pg : Nat) (f : Fld) (i : Nat) : Nat := (pg * 4096 + f.off + f.stride * i) * 64 + f.lo

/-- The active value of instance `i` of a field on page `pg`. -/
def State.rdp (s : State) (pg : Nat) (f : Fld) (i : Nat) : Nat :=
  s.regs.active.get (f.resetAt i) (fkey pg f i)

/-- The active value of instance `i` of a field of a block with one page. -/
def State.rdi (s : State) (f : Fld) (i : Nat) : Nat := s.rdp f.pg f i

/-- The active value of a field with one instance. -/
def State.rd (s : State) (f : Fld) : Nat := s.rdp f.pg f 0

/-- A one-bit field as a truth value. -/
def State.rdb (s : State) (f : Fld) : Bool := s.rd f == 1

/-- A field as a signed number. -/
def State.rdsi (s : State) (f : Fld) (i : Nat) : Int := toSigned f.width (s.rdi f i)

/-- Set the active value of instance `i` of a field on page `pg`, cut to the field's width. -/
def State.wrp (s : State) (pg : Nat) (f : Fld) (i v : Nat) : State :=
  { s with regs := { s.regs with
      active := s.regs.active.set (f.resetAt i) (fkey pg f i) (v % 2 ^ f.width) } }

/-- Set the active value of instance `i` of a field of a block with one page. -/
def State.wri (s : State) (f : Fld) (i v : Nat) : State := s.wrp f.pg f i v

/-- Set the active value of a field with one instance. -/
def State.wr (s : State) (f : Fld) (v : Nat) : State := s.wrp f.pg f 0 v

/-- Set a one-bit field. -/
def State.wrb (s : State) (f : Fld) (b : Bool) : State := s.wr f (b01 b)

/-- The staged copy: the value written since the last commit, or else the active value (R28). -/
def State.stgp (s : State) (pg : Nat) (f : Fld) (i : Nat) : Nat :=
  (s.regs.staged.lookup (fkey pg f i)).getD (s.rdp pg f i)

/-- Set the staged copy. -/
def State.wrStg (s : State) (pg : Nat) (f : Fld) (i v : Nat) : State :=
  { s with regs := { s.regs with staged := s.regs.staged.insert (fkey pg f i) (v % 2 ^ f.width) } }

/-- Drop the staged copy: it equals the active value again. -/
def State.dropStg (s : State) (pg : Nat) (f : Fld) (i : Nat) : State :=
  { s with regs := { s.regs with staged := s.regs.staged.erase (fkey pg f i) } }

/-- Add to a field, modulo its width. -/
def State.addp (s : State) (pg : Nat) (f : Fld) (i n : Nat) : State := s.wrp pg f i (s.rdp pg f i + n)

/-- Add 1 to a field that saturates at its largest value. -/
def State.satp (s : State) (pg : Nat) (f : Fld) (i : Nat) : State :=
  s.wrp pg f i (min (s.rdp pg f i + 1) (2 ^ f.width - 1))

/-- Every instance of a field: its key with its instance number. -/
def Fld.instances (f : Fld) : List Nat := List.range f.count

/-! ## Pages (R22, R468, R30) -/

/-- The instance of a page within its block (R30). -/
def pageInst (p : Nat) : Nat := match blockOf p with
  | some b => p - b
  | none => 0

/-- The power domain of a page (R468). -/
def pageDomain (p : Nat) : Nat :=
  if p ≤ 4 then 0
  else if (6 ≤ p ∧ p ≤ 0xA) ∨ p = 0x13 ∨ p = 0x16 ∨ p = 0x17 then 1
  else if (0xB ≤ p ∧ p ≤ 0xE) ∨ p = 0x39 ∨ p = 0x3A then 2
  else if 0x10 ≤ p ∧ p ≤ 0x12 then 3 + (p - 0x10)
  else if 0x20 ≤ p ∧ p ≤ 0x2F then 6 + (p - 0x20) / 4
  else if p = 0x32 ∨ p = 0x33 ∨ p = 0x37 then 10
  else if p = 0x34 ∨ p = 0x35 ∨ p = 0x36 then 11
  else if 0x48 ≤ p ∧ p ≤ 0x4B then 12 + (p - 0x48)
  else if p = 0x7C then 16
  else if p = 0x14 ∨ p = 0x15 ∨ p = 0x30 ∨ p = 0x31 ∨ p = 0x38 ∨ (0x40 ≤ p ∧ p ≤ 0x47) then 17
  else if 0x52 ≤ p ∧ p ≤ 0x58 then 18
  else if p = 0x50 ∨ p = 0x51 then 19
  else if 0x60 ≤ p ∧ p ≤ 0x67 then 20 + (p - 0x60)
  else if p = 0x68 then 20
  else if 0x72 ≤ p ∧ p ≤ 0x79 then 28 + (p - 0x72) / 2
  else 32

/-- PG_CAP.TRB_USED of a page: the number each page's own rule gives (R62 to R444). -/
def trbUsed (p : Nat) : Nat :=
  match blockOf p with
  | some 0x00 => 5 | some 0x01 => 7 | some 0x02 => 5 | some 0x03 => 4 | some 0x04 => 4 | some 0x06 => 5
  | some 0x07 => 8 | some 0x08 => 6 | some 0x09 => 5 | some 0x0A => 6 | some 0x0B => 10 | some 0x0C => 3
  | some 0x0D => 5 | some 0x0E => 8 | some 0x10 => 8 | some 0x13 => 9 | some 0x14 => 5 | some 0x15 => 4
  | some 0x16 => 8 | some 0x17 => 9 | some 0x20 => 4 | some 0x30 => 9 | some 0x31 => 8 | some 0x32 => 6
  | some 0x33 => 7 | some 0x34 => 7 | some 0x35 => 8 | some 0x36 => 9 | some 0x37 => 8 | some 0x38 => 5
  | some 0x39 => 8 | some 0x3A => 8 | some 0x40 => 13 | some 0x48 => 6 | some 0x50 => 9 | some 0x51 => 11
  | some 0x52 => 8 | some 0x53 => 7 | some 0x54 => 4 | some 0x55 => 5 | some 0x56 => 9 | some 0x57 => 6
  | some 0x58 => 5 | some 0x60 => 11 | some 0x68 => 11 | some 0x70 => 4 | some 0x71 => 9 | some 0x72 => 16
  | some 0x7A => 8 | some 0x7B => 10 | some 0x7C => 5 | _ => 0

/-- Pages that govern a double-banked structure (PG_CAP.HAS_BANKS), in page order. -/
def bankPages : List Nat := [0x01, 0x30, 0x32, 0x33, 0x37, 0x53, 0x56, 0x71, 0x7A]

/-- PG_CAP.HAS_STAGED: the page's layout has RWS fields (R30); TIMB and TIMC have TIMA's layout (R62). -/
def hasStaged (p : Nat) : Bool :=
  (blockFields p).any (fun f => f.acc == .rws)

/-- EVT_SRC: the ICU source that a page feeds (R369). -/
def evtSrc (p : Nat) : Nat :=
  if p = 0x00 ∨ p = 0x02 then 12 else if p = 0x01 then 13 else if p = 0x04 then 14
  else if p = 0x06 ∨ p = 0x07 then 15 else if p = 0x03 then 10 else if p = 0x08 ∨ p = 0x0A then 23
  else if p = 0x09 then 22 else if 0x0B ≤ p ∧ p ≤ 0x0E then 18 + (p - 0x0B)
  else if 0x10 ≤ p ∧ p ≤ 0x12 then 2 else if p = 0x13 then 3 else if 0x14 ≤ p ∧ p ≤ 0x17 then 4 + (p - 0x14)
  else if 0x60 ≤ p ∧ p ≤ 0x67 then 32 + (p - 0x60) else if p = 0x68 then 40
  else if 0x72 ≤ p ∧ p ≤ 0x79 then 48 + (p - 0x72)
  else if p = 0x70 then 56 else if p = 0x71 then 57 else if p = 0x7A then 58 else if p = 0x7B then 59
  else if p = 0x7C then 60 else if 0x20 ≤ p ∧ p ≤ 0x2F then 64 + (p - 0x20)
  else if p = 0x30 then 80 else if p = 0x31 then 81 else if p = 0x32 then 82 else if p = 0x33 then 83
  else if p = 0x34 then 84 else if p = 0x35 then 85 else if p = 0x36 then 86 else if p = 0x37 then 87
  else if p = 0x38 then 88 else if p = 0x39 then 89 else if p = 0x3A then 90
  else if 0x40 ≤ p ∧ p ≤ 0x43 then 91 else if 0x44 ≤ p ∧ p ≤ 0x47 then 92 else if 0x48 ≤ p ∧ p ≤ 0x4B then 93
  else if 0x50 ≤ p ∧ p ≤ 0x58 then 96 + (p - 0x50) else 127

/-- Pages that R34 never idles. -/
def neverIdle (p : Nat) : Bool :=
  [0x00, 0x01, 0x02, 0x03, 0x04, 0x06, 0x07, 0x08, 0x0A, 0x0B, 0x10, 0x11, 0x12, 0x13, 0x16, 0x17, 0x50, 0x52, 0x60,
   0x61, 0x62, 0x63, 0x64, 0x65, 0x66, 0x67, 0x68, 0x70, 0x71, 0x7A, 0x7B, 0x7C].contains p

/-- The host pages of R422, which an FLR reaches. -/
def hostPages : List Nat := [0x0B, 0x0C, 0x0D, 0x0E]

/-- The management pages of R422, which a Traverse reaches. -/
def mgmtPages : List Nat := [0x06, 0x07, 0x08, 0x0A]

/-- A domain is on and its pages are ready (R410). -/
def State.domainUp (s : State) (d : Nat) : Bool := s.pwr.on.contains d && s.pwr.awaitReady != some d

/-- The page's domain is on (R33). -/
def State.pagePowered (s : State) (p : Nat) : Bool := s.domainUp (pageDomain p)

/-- The page is inside a WARM, FLR or BLOCK register clear (R426). -/
def State.pageInClear (s : State) (p : Nat) : Bool :=
  s.rst.warm || (s.rst.flr && hostPages.contains p) || s.rst.blocks.contains p

/-- PG_CTRL.BLK_EN of a page. -/
def State.blkEn (s : State) (p : Nat) : Bool := s.rdp p Reg.PG_CTRL_BLK_EN 0 == 1

/-- The block of a page runs: powered, enabled and not being cleared. -/
def State.runs (s : State) (p : Nat) : Bool := s.pagePowered p && !s.pageInClear p && s.blkEn p

/-- PG_STAT.READY (R30); BPM is not ready while the free store is rebuilt (R231). -/
def State.pageReady (s : State) (p : Nat) : Bool := s.runs p && !(p == 0x50 && s.buf.rebuilding)

/-! ## Modes (R406) -/

/-- The operating mode. -/
def State.mode (s : State) : Nat := s.rd Reg.TOP_STAT_MODE

/-- Traffic is forwarded: SERVICE, LEAN or DRAIN. -/
def State.forwarding (s : State) : Bool := s.mode == 3 || s.mode == 4 || s.mode == 5

/-! ## Device time (R5 to R7, R46) -/

/-- Units of channel time in one nanosecond: 5·2^18·10^9, so that a tick of 0.8 ns at any adjustment is a whole number. -/
def subPerNs : Nat := 1310720000000000

/-- Channel n of the rope: 0 A, 1 B, 2 C. -/
def State.chan (s : State) (n : Nat) : Channel :=
  if n = 0 then s.time.chA else if n = 1 then s.time.chB else s.time.chC

/-- Replace channel n. -/
def State.setChan (s : State) (n : Nat) (c : Channel) : State :=
  if n = 0 then { s with time := { s.time with chA := c } }
  else if n = 1 then { s with time := { s.time with chB := c } }
  else { s with time := { s.time with chC := c } }

/-- The governing channel (R82, R96). -/
def State.governor (s : State) : Nat := s.rd Reg.SPN_STAT_ACTIVE

/-- The governing device time in channel units (R82). -/
def State.sub (s : State) : Nat := (s.chan s.governor).time

/-- The governing device time in whole nanoseconds since the PTP epoch. -/
def State.ns (s : State) : Nat := s.sub / subPerNs

/-- The epoch number of a time in nanoseconds (R6). -/
def epochOf (ns : Nat) : Nat := ns / 125000 % 2 ^ 48

/-- The pitch number of a time in nanoseconds (R6). -/
def pitchOf (ns : Nat) : Nat := ns % 125000 / 500

/-- The current epoch number. -/
def State.epoch (s : State) : Nat := epochOf s.ns

/-- The current pitch number. -/
def State.pitch (s : State) : Nat := pitchOf s.ns

/-- A time in channel units as a 96-bit network time (R5): seconds, nanoseconds, fraction in 2^-16 ns. -/
def time96 (t : Nat) : Nat :=
  let ns := t / subPerNs
  (ns / 1000000000 % 2 ^ 48) * 2 ^ 48 + ns % 1000000000 * 2 ^ 16 + t % subPerNs * 65536 / subPerNs

/-- A 96-bit network time in 2^-16 ns since the PTP epoch. -/
def time96Frac (t : Nat) : Nat := (bits t 95 48 * 1000000000 + bits t 47 16) * 65536 + bits t 15 0

/-- The current device time in 2^-16 ns since the PTP epoch. -/
def State.frac (s : State) : Nat := s.sub * 65536 / subPerNs

/-! ## The model's own fields (log entries 3 and 4) -/

/-- Record an output. -/
def State.emit (s : State) (e : Emit) : State := { s with outbox := s.outbox ++ [e] }

/-- Advance the free-value counter. -/
def State.draw (s : State) : State := { s with fresh := s.fresh + 1 }

/-- The free value at the present count. -/
def State.freeNat (s : State) : Nat := (Config.freeValue s.fresh).toNat

/-! ## Host DMA (R339, R353) -/

/-- The interface is CONTAINED (R352). -/
def State.contained (s : State) : Bool := s.rdb Reg.HIF_STAT_CONTAINED

/-- The device may issue DMA: Bus Master Enable and no containment. -/
def State.dmaOk (s : State) : Bool := s.host.bme && !s.contained && s.pagePowered 0x0B

/-- The entries of a ring from its SIZE field (R211): a power of two from 2 to 65,536; 0 means no ring. -/
def ringCount (n : Nat) : Nat := let c := min (pow2Floor n) 65536; if c < 2 then 0 else c

/-! ## Generations and the armed list (R30, R66, R74) -/

/-- A mask covers a page's commit group (R65). -/
def maskHas (mask p : Nat) : Bool := bitN mask p == 1

/-- The armed cairn that covers a page (R66: at most one). -/
def State.armedFor (s : State) (p : Nat) : Option Armed := s.cairn.armed.find? (fun a => maskHas a.mask p)

/-- Implemented pages that a mask selects. -/
def maskPages (mask : Nat) : List Nat := allPages.filter (fun p => maskHas mask p)

/-- The generation that follows (R40). -/
def nextGen (g : Nat) : Nat := if g = 0xFFFE then 1 else g + 1

/-- PG_GEN.ACTIVE of a page. -/
def State.pageGen (s : State) (p : Nat) : Nat := s.rdp p Reg.PG_GEN_ACTIVE 0

/-- A structure of a page has a retiring bank (R73). -/
def State.draining (s : State) (p : Nat) : Bool :=
  if p = 0x01 then s.banks.plan.retiring.isSome
  else if p = 0x30 then s.banks.parse.retiring.isSome
  else if p = 0x32 then s.banks.sets.any (fun b => b.retiring.isSome)
  else if p = 0x33 then s.banks.lpm.retiring.isSome
  else if p = 0x37 then s.banks.tmpl.retiring.isSome
  else if p = 0x53 then s.banks.cals.any (fun b => b.2.retiring.isSome)
  else if p = 0x56 then s.banks.cycs.any (fun b => b.2.retiring.isSome)
  else if p = 0x71 then s.banks.frt.retiring.isSome
  else if p = 0x7A then s.banks.fmc.retiring.isSome
  else false

/-- A structure of a page holds a valid staged artifact (R30, R45). -/
def State.hasStagedBank (s : State) (p : Nat) : Bool :=
  if p = 0x01 then s.banks.plan.staged.isSome
  else if p = 0x30 then s.banks.parse.staged.isSome
  else if p = 0x32 then s.banks.sets.any (fun b => b.staged.isSome)
  else if p = 0x33 then s.banks.lpm.staged.isSome
  else if p = 0x37 then s.banks.tmpl.staged.isSome
  else if p = 0x53 then s.banks.cals.any (fun b => b.2.staged.isSome)
  else if p = 0x56 then s.banks.cycs.any (fun b => b.2.staged.isSome)
  else if p = 0x71 then s.banks.frt.staged.isSome
  else if p = 0x7A then s.banks.fmc.staged.isSome
  else false

end Sys2Proof.Machine
end

