-- ==== Sys2Proof/Machine/Flags.lean ====
section
/-! DEFINITION. Flags: event bits, trouble counters, fault windows, PMU counters, event records, memory-error reports and
the interrupt controller's view of them. -/
namespace Sys2Proof.Machine

/-- Set an event bit (R30). -/
def State.evt (s : State) (pg k : Nat) : State :=
  s.wrp pg Reg.EVT_STAT_EVT 0 (setBit (s.rdp pg Reg.EVT_STAT_EVT 0) k true)

/-! ## Event records (R348, R349) -/

/-- Dwords in host memory, low byte first (log entry 10). -/
def dwords (l : List Nat) : Bytes := l.flatMap (toLe 4)

/-- Write a 32-byte event record to a device-produced ring (R343), or discard and count it (R349). -/
def State.eventRecord (s : State) (ring : Nat) (rec : Bytes) : State :=
  let n := ringCount (s.rdi Reg.HDM_SIZE_i_COUNT ring)
  let dev := s.rdi Reg.HDM_DEV_i_IDX ring
  if 2 ≤ n ∧ s.rdi Reg.HDM_CTL_i_EN ring = 1 ∧ s.dmaOk ∧ s.runs 0x0C ∧ (dev + 1) % n ≠ s.rdi Reg.HDM_HOST_i_IDX ring % n then
    (s.emit (.hostWrite (s.rdi Reg.HDM_BASE_i ring + 32 * (dev % n)) rec)).wri Reg.HDM_DEV_i_IDX ring ((dev + 1) % n)
  else s.addp 0x0C Reg.HDM_ERR_i_CNT ring 1

/-- A trouble event record on ring 35, if its KIND is enabled (R348, R440). -/
def State.troubleRecord (s : State) (kind pg k window value loc : Nat) : State :=
  if bitN (s.rd Reg.PMU_TREC_KINDS) (kind - 1) = 1 then
    s.eventRecord 35 (dwords
      [pg % 256 + k % 16 * 256 + kind * 4096 + window * 65536, value, s.epoch % 2 ^ 32, s.epoch / 2 ^ 32,
       loc % 2 ^ 32, loc / 2 ^ 32, 0, 0])
  else s

/-! ## PMU counters (R433 to R436) -/

/-- An event that PMU counters may count (R434): code, increments, the attributes that it carries. -/
structure PmuEv where
  code : Nat
  amt : Nat
  master : Option Nat
  core : Bool
  cls : Option Nat
  addr : Option Nat
  deriving DecidableEq, Repr

/-- Configuration of counter n; reset value: PRIV 7, RANGE 0 (R444). -/
def State.pmuCfg (s : State) (n : Nat) : Nat := s.pmu.cfg.get 0xE0000 n

/-- Filters of counter n; reset value: every master and class passes (R444). -/
def State.pmuFilt (s : State) (n : Nat) : Nat := s.pmu.filt.get 0xFF03FF n

/-- The filters of R435. The mode of a core is not part of the commands: it is a free value (log entry 11). -/
def State.pmuPasses (s : State) (cfg filt : Nat) (e : PmuEv) : Bool :=
  (match e.master with | none => true | some m => bitN (bits filt 9 0) m == 1)
  && (!e.core || bitN (bits cfg 19 17) (s.freeNat % 3) == 1)
  && (match e.cls with | none => true | some c => bitN (bits filt 23 16) c == 1)
  && (bitN cfg 24 == 0 || (match e.addr with
      | none => false
      | some a => decide (s.rdi Reg.PMU_RANGE_r_LO (bits cfg 23 21) ≤ a ∧ a ≤ s.rdi Reg.PMU_RANGE_r_HI (bits cfg 23 21))))

/-- Counter n counts the event: enabled, its code, its filters (R433, R435). -/
def State.pmuHit (s : State) (e : PmuEv) (n : Nat) : Bool :=
  bitN (s.pmuCfg n) 16 == 1 && bits (s.pmuCfg n) 15 0 == e.code && s.pmuPasses (s.pmuCfg n) (s.pmuFilt n) e

/-- Add to counter n modulo 2^40; passing 2^40 - 1 sets WRAP (R433). -/
def State.pmuAdd (s : State) (n amt : Nat) : State :=
  let v := s.pmu.val.get 0 n + amt
  { s with pmu := { s.pmu with
      val := s.pmu.val.set 0 n (v % 2 ^ 40), wrap := if 2 ^ 40 ≤ v then withNat s.pmu.wrap n else s.pmu.wrap } }

/-- Counting is allowed and the event's page is awake (R433, R434). -/
def State.pmuOn (s : State) (e : PmuEv) : Bool :=
  s.rdb Reg.PMU_CTL_EN && !s.rdb Reg.PMU_CTL_FREEZE && s.runs 0x09 && s.pagePowered (e.code / 256)

/-- Count the event on every counter that it reaches; the second part says how many wrapped. -/
def State.pmuApply (s : State) (e : PmuEv) : State × Nat :=
  if s.pmuOn e then
    let hit := s.pmu.cfg.keys.filter (s.pmuHit e)
    (hit.foldl (fun t n => t.pmuAdd n e.amt) s, (hit.filter (fun n => 2 ^ 40 ≤ s.pmu.val.get 0 n + e.amt)).length)
  else (s, 0)

/-! ## Trouble counters and fault windows (R31, R32, R440, R442) -/

/-- One increment in fault window n of a page (R442). -/
def State.windowCount (s : State) (pg k n : Nat) : State :=
  if s.rdp pg Reg.FWIN_n_CFG_EVENT n = k ∧ s.rdp pg Reg.FWIN_n_CFG_LEN n ≠ 0 then
    let cur := s.rdp pg Reg.FWIN_n_STAT_CUR n
    let th := s.rdp pg Reg.FWIN_n_CFG_THRESH n
    let s := s.wrp pg Reg.FWIN_n_STAT_CUR n (min (cur + 1) 255)
    if th ≠ 0 ∧ cur < th ∧ th ≤ cur + 1 then
      ((s.wrp pg Reg.FWIN_n_STAT_DECLARED n 1).wrp pg Reg.PG_STAT_FAULT_LASTING 0 1).troubleRecord 1 pg k n (min (cur + 1) 255) 0
    else s
  else s

/-- The current value of trouble counter k of a page. -/
def State.trbVal (s : State) (pg k : Nat) : Nat :=
  if k % 2 = 0 then s.rdp pg Reg.TRB_k_CNT_LO (k / 2) else s.rdp pg Reg.TRB_k_CNT_HI (k / 2)

/-- Set trouble counter k of a page. -/
def State.trbSet (s : State) (pg k v : Nat) : State :=
  if k % 2 = 0 then s.wrp pg Reg.TRB_k_CNT_LO (k / 2) v else s.wrp pg Reg.TRB_k_CNT_HI (k / 2) v

/-- A page's trouble counter k counts: it is defined (R32) and the block is not idle (R34). -/
def State.trbCounts (s : State) (pg k : Nat) : Bool := decide (k < trbUsed pg) && s.blkEn pg

/-- A trouble increment without its PMU event: the counter saturates, its fault windows count, and a step to 0xFFFF is
recorded (R30, R440, R442). -/
def State.trbCore (s : State) (pg k : Nat) : State :=
  if s.trbCounts pg k then
    let old := s.trbVal pg k
    let s := s.trbSet pg k (min (old + 1) 0xFFFF)
    let s := if old = 0xFFFE then s.troubleRecord 2 pg k 0 0xFFFF 0 else s
    (((s.windowCount pg k 0).windowCount pg k 1).windowCount pg k 2).windowCount pg k 3
  else s

/-- A PMU event, and the trouble increments (PMU counter 4) that its wraps cause, which may be counted in turn. A wrap
takes 2^40 increments, so the chain ends within `fuel` links (R433, R444). -/
def State.pmuEvent (fuel : Nat) (s : State) (e : PmuEv) : State :=
  match fuel with
  | 0 => s
  | k + 1 =>
    if (s.pmuApply e).2 = 0 then (s.pmuApply e).1
    else (List.replicate (s.pmuApply e).2 ()).foldl
      (fun t _ => State.pmuEvent k (t.trbCore 0x09 4)
        { code := 0x0904, amt := 1, master := none, core := false, cls := none, addr := none })
      ((s.pmuApply e).1.evt 0x09 0)

/-- A PMU event with its attributes. -/
def State.pmu' (s : State) (pg loc amt : Nat) (master cls addr : Option Nat) : State :=
  s.pmuEvent 4 { code := pg * 256 + loc, amt := amt, master := master, core := false, cls := cls, addr := addr }

/-- A trouble increment (R32, R434). -/
def State.trb (s : State) (pg k : Nat) : State :=
  if s.trbCounts pg k then (s.trbCore pg k).pmu' pg k 1 none none none else s

/-- Several increments of one trouble counter. -/
def State.trbN (s : State) (pg k n : Nat) : State := (List.replicate n ()).foldl (fun t _ => t.trb pg k) s

/-- A 64-bit statistics counter: read-only, 64 bits wide, class V, and no locator (R434, R37). -/
def isStat (f : Fld) : Bool :=
  f.hi == 63 && f.acc == .ro && f.ret == .v && f != Reg.HBM_CE_LOC && f != Reg.HBM_UE_LOC && f != Reg.PMU_ERR_CE_LOC
    && f != Reg.PMU_ERR_UE_LOC

/-- The offsets of a page's statistics counters, in offset order (R434). -/
def statOffsets (pg : Nat) : List Nat :=
  ((blockFields pg).filter isStat).flatMap (fun f => f.instances.map (fun i => f.off + f.stride * i))

/-- Place of a counter among its page's statistics counters: those at lower offsets. -/
def statIndex (pg off : Nat) : Nat := ((statOffsets pg).filter (fun o => o < off)).length

/-- The PMU event of a statistics counter (R434). -/
def State.statEvent (s : State) (pg : Nat) (f : Fld) (i n : Nat) : State :=
  let k := statIndex pg (f.off + f.stride * i)
  if s.blkEn pg ∧ k < 0x20 ∧ s.rdb Reg.PMU_CTL_EN then s.pmu' pg (0x10 + k) n none none none else s

/-- Add to a statistics counter (R37), with its PMU event (R434). -/
def State.stat (s : State) (pg : Nat) (f : Fld) (i n : Nat) : State := (s.addp pg f i n).statEvent pg f i n

/-- End a fault window: CUR goes to TRANSIENT unless the window declared (R442). -/
def State.windowEnd (s : State) (pg n : Nat) : State :=
  let cur := s.rdp pg Reg.FWIN_n_STAT_CUR n
  let th := s.rdp pg Reg.FWIN_n_CFG_THRESH n
  let s := if th ≠ 0 ∧ th ≤ cur then s
    else s.wrp pg Reg.FWIN_n_STAT_TRANSIENT n (min (s.rdp pg Reg.FWIN_n_STAT_TRANSIENT n + cur) 0xFFFF)
  s.wrp pg Reg.FWIN_n_STAT_CUR n 0

/-! ## Memory errors (R438, R441) -/

/-- The locator word of R18, given with what found the error. -/
abbrev Locator := Nat

/-- A corrected memory error: the four steps of R438, KIND 3 records limited by CE_MAX (R441). -/
def State.memCorrected (s : State) (pg k : Nat) (loc : Locator) : State :=
  let s := s.trb pg k
  let s := (s.stat 0x09 Reg.PMU_ERR_CE 0 1).wr Reg.PMU_ERR_CE_LOC loc
  if s.pmu.ceCount < s.rd Reg.PMU_TREC_CE_MAX then
    ({ s with pmu := { s.pmu with ceCount := s.pmu.ceCount + 1 } }).troubleRecord 3 pg k 0 (s.trbVal pg k) loc
  else (s.stat 0x09 Reg.PMU_CE_SUPPRESSED 0 1).trb 0x09 3

/-- An uncorrectable memory error or a parity error (R438). -/
def State.memUncorrectable (s : State) (pg k : Nat) (loc : Locator) : State :=
  let s := s.trb pg k
  let s := (s.stat 0x09 Reg.PMU_ERR_UE 0 1).wr Reg.PMU_ERR_UE_LOC loc
  (s.evt 0x09 1).troubleRecord 4 pg k 0 (s.trbVal pg k) loc

/-! ## The interrupt controller's sources (R369 to R372) -/

/-- A page's EVT_STAT AND NOT EVT_MASK is not 0. -/
def State.pageRequests (s : State) (p : Nat) : Bool :=
  (s.rdp p Reg.EVT_STAT_EVT 0 &&& (0xFFFFFFFF - s.rdp p Reg.EVT_MASK_MASK 0)) != 0

/-- The pages that feed a source. -/
def srcPages (src : Nat) : List Nat := allPages.filter (fun p => evtSrc p == src)

/-- GPIO n requests as a level source: filter on, not EDGE, active level (R370, R371). -/
def State.gpioRequests (s : State) (n : Nat) : Bool :=
  s.rdi Reg.ICU_GPIO_n_FILT n != 0 && s.rdi Reg.ICU_GPIO_n_EDGE n == 0
    && (s.icu.gpioLevel.getLsbD n != (s.rdi Reg.ICU_GPIO_n_POL n == 1))

/-- Edge sources: lines, doorbells, and GPIOs with EDGE = 1 (R370). -/
def State.edgeSource (s : State) (src : Nat) : Bool :=
  [0, 1, 8, 9, 11, 16, 17].contains src || (120 ≤ src && src < 128)
    || (112 ≤ src && src < 120 && s.rdi Reg.ICU_GPIO_n_EDGE (src - 112) == 1)

/-- PEND of a source (R370). -/
def State.pend (s : State) (src : Nat) : Bool :=
  if s.edgeSource src then s.icu.edge.contains src
  else if 112 ≤ src ∧ src < 120 then s.gpioRequests (src - 112)
  else (srcPages src).any s.pageRequests

/-! ## Waking from STANDBY (R378, R407, R420) -/

/-- The domains of BOOT beside AON, in ascending order (R406, R410). -/
def bootDomains : List Nat := [1, 2, 3, 4, 5, 16, 20, 21, 22, 23, 24, 25, 26, 27]

/-- The bit of AON_WAKE_EN that enables a source (R420). -/
def wakeBit (src : Nat) : Option Nat :=
  if src ≤ 1 then some src else if 8 ≤ src ∧ src ≤ 11 then some (src - 6) else if src = 16 ∨ src = 17 then some (src - 10)
  else if 112 ≤ src ∧ src ≤ 119 then some (src - 104) else none

/-- STANDBY may be left: the card is seated, every required PG_IN is high, THERM_TRIP_L is deasserted (R407), and no COLD
start runs (R431). -/
def State.mayWake (s : State) : Bool :=
  s.mode == 0 && s.pins.seated && !s.pins.thermTrip && !s.rst.cold
    && (bitsSet (s.rd Reg.AON_PGIN_REQ) 8).all (fun n => s.pins.pgIn.getLsbD n)

/-- Enter BOOT from STANDBY: the power-up sequence starts (R407, R410). -/
def State.enterBoot (s : State) (cause : Nat) : State :=
  { (s.wr Reg.TOP_STAT_MODE 1).wr Reg.TOP_STAT_CAUSE cause with
      pwr := { s.pwr with seqOn := bootDomains.filter (fun d => !s.pwr.on.contains d || s.pwr.seqOff.contains d), modeAfter := none }
      pins := { s.pins with sharedOut := true } }

/-- A wake source that the wake set enables ends STANDBY (R378, R420). -/
def State.wake (s : State) (src : Nat) : State :=
  match wakeBit src with
  | some k =>
    if s.mayWake ∧ bitN (s.rd Reg.AON_WAKE_EN_SET) k = 1 then
      ((s.enterBoot 6).wr Reg.AON_WAKE_LAST_SRC src).wr Reg.AON_WAKE_LAST_VALID 1
    else s
  | none => s

/-- An event of an edge source: PEND, or in STANDBY a wake (R370, R378). -/
def State.setPend (s : State) (src : Nat) : State :=
  if s.mode = 0 then s.wake src
  else if s.pagePowered 0x08 then { s with icu := { s.icu with edge := withNat s.icu.edge src } } else s

/-- A source is in service for some core. -/
def State.inService (s : State) (src : Nat) : Bool := s.icu.insvc.contains (some src)

/-- A source is eligible for core c (R372, R377: a core that is not RUNNING gets nothing). -/
def State.eligible (s : State) (c src : Nat) : Bool :=
  s.pend src && bitN (s.rdi Reg.ICU_MASK_k (src / 32)) (src % 32) == 0
    && bits (s.rdi Reg.ICU_ROUTE_k (src / 16)) (2 * (src % 16) + 1) (2 * (src % 16)) == c
    && !s.inService src && !s.icu.held.contains (src / 8) && !s.rdb Reg.ICU_CTL_GDIS
    && s.rdi Reg.MGT_CORE_c_STAT_STATE c == 2

/-- The lowest-numbered source eligible for core c (R372). -/
def State.bestSource (s : State) (c : Nat) : Option Nat := (List.range 128).find? (s.eligible c)

/-- Core c's interrupt line (R372). -/
def State.irqLine (s : State) (c : Nat) : Bool :=
  (s.icu.insvc.getD c none).isNone && (s.bestSource c).isSome

end Sys2Proof.Machine
end

