-- ==== Sys2Proof/Machine/Drq.lean ====
section
/-! DEFINITION. Drq: the HBM address map, the requester ports, and how a request is accepted (R320 to R326). -/
namespace Sys2Proof.Machine

/-! ## Where an address lives (R320, R321) -/

/-- The stack of an address. -/
def hbmStack (a : Nat) : Nat := bits a 10 8 ^^^ bits a 18 16

/-- The channel of an address. -/
def hbmChannel (a : Nat) : Nat := bits a 14 11 ^^^ bits a 22 19

/-- The pseudo-channel within its channel. -/
def hbmPc (a : Nat) : Nat := bitN a 15 ^^^ bitN a 23

/-- The pseudo-channel within its stack: q = 2 · ch + pc. -/
def hbmQ (a : Nat) : Nat := 2 * hbmChannel a + hbmPc a

/-- The granule within the pseudo-channel. -/
def hbmGranule (a : Nat) : Nat := bits a 36 16

/-- The bank of an address. -/
def hbmBank (a : Nat) : Nat := bits (hbmGranule a) 5 2 ^^^ bits (hbmGranule a) 9 6

/-- The row of an address. -/
def hbmRow (a : Nat) : Nat := bits (hbmGranule a) 20 6

/-- The word field of an HBM locator: row × 32 + column granule × 8 + w. -/
def hbmWord (a : Nat) : Nat := hbmRow a * 32 + hbmGranule a % 4 * 8 + bits a 7 5

/-- The locator word of an HBM error (R18, R321). -/
def hbmLocator (a bit : Nat) : Nat :=
  (2 + hbmStack a) * 2 ^ 60 + hbmChannel a * 2 ^ 52 + hbmPc a * 2 ^ 44 + hbmBank a * 2 ^ 40 + hbmWord a * 2 ^ 8 + bit

/-- The address of word w of granule k of pseudo-channel q of a stack. -/
def hbmAddr (stack q k w : Nat) : Nat :=
  k * 65536 + ((q % 2) ^^^ bitN k 7) * 32768 + ((q / 2) ^^^ bits k 6 3) * 2048 + (stack ^^^ bits k 2 0) * 256 + w * 32

/-- A pseudo-channel of the device. -/
def hbmPcKey (a : Nat) : Nat := 32 * hbmStack a + hbmQ a

/-- A bank of the device. -/
def hbmBankKey (a : Nat) : Nat := 16 * hbmPcKey a + hbmBank a

/-- The number of the 256-bit word that holds an address. -/
def hbmWordOf (a : Nat) : Nat := a / 32

/-! ## Requests (R322 to R326) -/

/-- Two requests stand in one bank and row. -/
def sameRow (a b : Nat) : Bool := hbmBankKey a == hbmBankKey b && hbmRow a == hbmRow b

/-- A bank is in in-order mode: a write that shares its row with a read that was pending has not retired (R325). -/
def State.inOrder (s : State) (bank : Nat) : Bool :=
  s.hbm.reqs.any (fun r => r.write && r.conflict && hbmBankKey r.addr == bank)

/-- Writes that a pseudo-channel holds. -/
def State.writesHeld (s : State) (pc : Nat) : Nat :=
  (s.hbm.reqs.filter (fun r => r.write && hbmPcKey r.addr == pc)).length

/-- DRQ_WQ.HIGH in effect (R338). -/
def State.wqHigh (s : State) : Nat := min 64 (s.rd Reg.DRQ_WQ_HIGH)

/-- DRQ_WQ.LOW in effect (R338). -/
def State.wqLow (s : State) : Nat := min (s.rd Reg.DRQ_WQ_LOW) (s.wqHigh - 1)

/-- Accept a request: it counts for its port, may put its bank in in-order mode, and may start a write drain. -/
def State.drqTake (s : State) (r : HbmReq) : State :=
  let was := s.inOrder (hbmBankKey r.addr)
  let meets := s.hbm.reqs.any (fun x => x.write != r.write && sameRow x.addr r.addr)
  let r := { r with rid := s.hbm.nextRid, at_ := s.ns, target := s.rdi Reg.DRQ_PORT_i_TARGET_NS r.port,
                    conflict := r.write && (r.part || meets) }
  let old := s.hbm.reqs.map (fun x => if x.write && !r.write && sameRow x.addr r.addr then { x with conflict := true } else x)
  let t : State := { s with hbm := { s.hbm with
      reqs := old ++ [r], nextRid := r.rid + 1, reqCnt := s.hbm.reqCnt.set 0 r.port (s.hbm.reqCnt.get 0 r.port + 1) } }
  let pc := hbmPcKey r.addr
  let t : State := if r.write ∧ t.wqHigh ≠ 0 ∧ t.wqHigh ≤ t.writesHeld pc then
      { t with hbm := { t.hbm with drain := withNat t.hbm.drain pc } }
    else t
  let t := if ¬ was ∧ t.inOrder (hbmBankKey r.addr) then t.stat 0x68 Reg.DRQ_INORDER 0 1 else t
  (t.statEvent 0x68 Reg.DRQ_REQS 0 1).pmu' 0x68 (0x80 + r.port) 1 (some 9) none (some (r.addr % 2 ^ 32))

/-- Waiting requests enter in order as their write queues have room; a port with a waiting request is not overtaken by
itself. -/
def drqAdmit (l : List HbmReq) (s : State) (blocked : List Nat) (kept : List HbmReq) : State × List HbmReq :=
  match l with
  | [] => (s, kept)
  | r :: t =>
    if blocked.contains r.port ∨ (r.write ∧ 64 ≤ s.writesHeld (hbmPcKey r.addr)) then
      drqAdmit t s (withNat blocked r.port) (kept ++ [r])
    else drqAdmit t (s.drqTake r) blocked kept

/-- Let waiting requests in. -/
def State.drqSettle (s : State) : State :=
  let r := drqAdmit s.hbm.waiting { s with hbm := { s.hbm with waiting := [] } } [] []
  { r.1 with hbm := { r.1.hbm with waiting := r.2 } }

/-- A port asks for one 256-bit word (R322, R324): it waits where the write queue is full. -/
def State.drqAsk (s : State) (port addr : Nat) (write part : Bool) : State :=
  if s.pagePowered 0x68 then
    let r : HbmReq := { rid := 0, port := port, addr := addr / 32 * 32, write := write, part := part, conflict := false,
                        at_ := 0, target := 0, issued := false, overdue := false }
    ({ s with hbm := { s.hbm with waiting := s.hbm.waiting ++ [r] } }).drqSettle
  else s

/-- The words of an access from word `w` on: a word that the access does not fill is a partial write. -/
def State.drqWords (n : Nat) (s : State) (port lo hi w : Nat) (write : Bool) : State :=
  match n with
  | 0 => s
  | k + 1 => State.drqWords k (s.drqAsk port (32 * w) write (write && (32 * w < lo || hi < 32 * w + 32))) port lo hi (w + 1) write

/-- An access to `len` bytes of HBM through a requester port, word by word in ascending order (log entry 24). -/
def State.drqAccess (s : State) (port addr len : Nat) (write : Bool) : State :=
  if len = 0 then s
  else State.drqWords ((addr + len - 1) / 32 + 1 - addr / 32) s port addr (addr + len) (addr / 32) write

/-- An access at a place in a region that no rule gives: the address is a free value (R213, R220). -/
def State.drqSomewhere (s : State) (port base size len : Nat) (write : Bool) : State :=
  s.draw.drqAccess port (base + (s.freeNat % (size / len)) * len) len write

/-- A descriptor read or write (R213, R220, R322). -/
def State.drqDesc (s : State) (write : Bool) : State := s.drqSomewhere 2 0x0140000000 0xC0000000 16 write

end Sys2Proof.Machine
end

