-- ==== Sys2Proof/Machine/Access.lean ====
section
/-! DEFINITION. Access: what happens to a register access before it reaches its register (R23, R24, R33, R341, R426), and
the order of effects around one. -/
namespace Sys2Proof.Machine

/-- The PMU's master bit of a register master (R435). -/
def masterBit : Master → Nat
  | .host => 0 | .core0 => 1 | .core1 => 2 | .core2 => 3 | .core3 => 4 | .tdm => 5 | .dma => 6 | .peer => 7

/-- A core (R365). -/
def masterIsCore (m : Master) : Bool := m == .core0 || m == .core1 || m == .core2 || m == .core3

/-- How the device takes an access to a page. -/
inductive Access where
  | unsupported | inReset | off | ok
  deriving DecidableEq, Repr

/-- The instance of a field that a dword offset holds, and which of the instance's dwords it is (R29, R37). -/
def Fld.instAt (f : Fld) (off : Nat) : Option (Nat × Nat) :=
  let i := if f.stride = 0 then 0 else (off - f.off) / f.stride
  if f.off ≤ off ∧ i < f.count ∧ off < f.off + f.stride * i + 4 * ((f.hi + 32) / 32) then
    some (i, (off - f.off - f.stride * i) / 4)
  else none

/-- The dword at an offset of a page holds a read-only field (R26). -/
def hasRo (pg off : Nat) : Bool := (pageFields pg).any (fun f => f.acc == .ro && (f.instAt off).isSome)

/-- How an access is taken: page and form (R23, R24), containment (R341), a running register clear (R426), power (R33). -/
def State.access (s : State) (m : Master) (pg off size : Nat) (write : Bool) : Access :=
  if (blockOf pg).isNone ∨ size ≠ 4 ∨ off % 4 ≠ 0 ∨ 4096 ≤ off then .unsupported
  else if m = .host ∧ s.contained ∧ (pg ≠ 0x0B ∨ (write ∧ hasRo pg off)) then .unsupported
  else if s.pageInClear pg then .inReset
  else if s.pagePowered pg then .ok
  else .off

/-- A PMU event of a register access (R434); a core's access takes a fresh free value for its mode (log entry 11). -/
def State.accessEvent (s : State) (m : Master) (pg off loc : Nat) : State :=
  let t := s.pmuEvent 4 { code := pg * 256 + loc, amt := 1, master := some (masterBit m), core := (masterIsCore m), cls := none,
                          addr := some (pg * 4096 + off) }
  if (masterIsCore m) then t.draw else t

/-- An access that completes with Unsupported Request, or with an access fault for a core (R23, R24, R341). -/
def State.ur (s : State) (m : Master) (pg off : Nat) : State :=
  let s := s.accessEvent m pg off 0x42
  let s := if m = .host then (s.stat 0x0B Reg.HIF_UR 0 1).trb 0x0B 3 else s
  s.emit (.unsupported m)

/-- The reset that runs is a soft WARM or an FLR, whose pages answer the host with Unsupported Request (R426). -/
def State.clearByWarmOrFlr (s : State) (pg : Nat) : Bool :=
  s.rst.warm || (s.rst.flr && hostPages.contains pg)

/-- A write that reaches a page inside a register clear: discarded and counted (R426). -/
def State.writeInClear (s : State) (m : Master) (pg : Nat) : State :=
  let s := s.trb 0x02 4
  if m = .host ∧ s.clearByWarmOrFlr pg then s.emit (.unsupported m) else s

/-- A dword write: `k` is what the register does with it. -/
def State.onWrite (s : State) (m : Master) (pg off : Nat) (k : State → State) : State :=
  match s.access m pg off 4 true with
  | .unsupported => s.ur m pg off
  | .inReset => s.writeInClear m pg
  | .off => (s.accessEvent m pg off 0x41).trb 0x01 3
  | .ok => k (s.accessEvent m pg off 0x41)

/-- A dword read: `k` gives the value and what the read does. -/
def State.onRead (s : State) (m : Master) (pg off : Nat) (k : State → Nat × State) : State :=
  match s.access m pg off 4 false with
  | .unsupported => s.ur m pg off
  | .inReset => if m = .host ∧ s.clearByWarmOrFlr pg then s.emit (.unsupported m) else s.emit (.readData m 0)
  | .off => (s.accessEvent m pg off 0x40).emit (.readData m 0)
  | .ok =>
    let r := k (s.accessEvent m pg off 0x40)
    r.2.emit (.readData m (r.1 % 2 ^ 32))

/-- Staged writes to a page are frozen: from the boundary of E−1 of an armed cairn that covers it (R35). -/
def State.frozen (s : State) (pg : Nat) : Bool :=
  match s.armedFor pg with
  | some a => decide (a.target ≤ s.epoch + 1)
  | none => false

/-- A write to an RWS field: staged, or discarded and counted (R35). -/
def State.stageWrite (s : State) (pg : Nat) (f : Fld) (i v : Nat) : State :=
  if s.frozen pg then s.trb pg 0 else s.wrStg pg f i v

/-! ## Tags of the device's own reads (R339, R355, R356) -/

/-- The completion timeout in µs that requests take now; 0 none (R361). -/
def State.ctoUs (s : State) : Nat :=
  let n := s.rd Reg.HIF_CTO_US
  if n = 0 then 0 else max 50 (min 50000 n)

/-- A read of host memory that brought less than it asked for keeps its tag outstanding, until its timeout or its error
completion is reported (R355); a tag in quarantine is not used (R356). -/
def State.readFailed (s : State) : State :=
  match (List.range 512).find? (fun t => (s.host.tags.lookup t).isNone && (s.host.quarantine.lookup t).isNone) with
  | some t => { s with host := { s.host with tags := s.host.tags.insert t (s.ns, s.ctoUs) } }
  | none => s

/-! ## 64-bit values (R37, R38) -/

/-- Look a key up in a list of pairs. -/
def assoc (l : List ((Master × Nat) × Nat)) (k : Master × Nat) : Nat :=
  match l.find? (fun p => p.1 == k) with
  | some p => p.2
  | none => 0

/-- Replace the value of a key in a list of pairs; 0 leaves no pair. -/
def assocSet (l : List ((Master × Nat) × Nat)) (k : Master × Nat) (v : Nat) : List ((Master × Nat) × Nat) :=
  let r := l.filter (fun p => p.1 != k)
  if v = 0 then r else (k, v) :: r

/-- Latch the upper dword of a value for a master and a page (R37). -/
def State.latchHigh (s : State) (m : Master) (pg v : Nat) : State :=
  { s with regs := { s.regs with rdLatch := assocSet s.regs.rdLatch (m, pg) v } }

/-- The dword that a master's last low-dword read on a page latched, or 0 (R37). -/
def State.latched (s : State) (m : Master) (pg : Nat) : Nat := assoc s.regs.rdLatch (m, pg)

/-- Keep a low dword until its high dword is written (R38). -/
def State.keepLow (s : State) (m : Master) (addr v : Nat) : State :=
  { s with regs := { s.regs with wrLow := assocSet s.regs.wrLow (m, addr) v } }

/-- The low dword last written by a master at a register, or 0 (R38). -/
def State.lowOf (s : State) (m : Master) (addr : Nat) : Nat := assoc s.regs.wrLow (m, addr)

end Sys2Proof.Machine
end

