-- ==== Sys2Proof/Machine/Time.lean ====
section
/-! DEFINITION. Time: network time (R46 to R64): the state machine, frequency, slew and holdover, references, the ToD
UART, the timestamp queue. -/
namespace Sys2Proof.Machine

/-! ## The time state machine (R48, R53) -/

/-- TIM_STATE.STATE. -/
def State.tState (s : State) : Nat := s.rd Reg.TIM_STATE_STATE

/-- TIM_STATE.REF. -/
def State.tRef (s : State) : Nat := s.rd Reg.TIM_STATE_REF

/-- A rejected command or write (TIMA trouble counter 3). -/
def State.tReject (s : State) : State := s.trb 0x10 3

/-- The effective adjustment, within ±524 ppm (R46, R47), in 2^-20 ppb. -/
def TimeSt.eff (t : TimeSt) : Int :=
  max (-(549453824000 : Int)) (min 549453824000 (t.servoFreq + t.slewTerm + t.holdTerm))

/-- Load an adjustment into every channel that runs (R46). -/
def State.loadAdj (s : State) (k : Int) : State :=
  { s with time := { s.time with
      chA := { s.time.chA with adj := k }, chB := { s.time.chB with adj := k }, chC := { s.time.chC with adj := k } } }

/-- Restart the TIM_HOLD_TIMEOUT count (R53). -/
def State.servoCountNow (s : State) : State := { s with time := { s.time with servoEpoch := s.epoch } }

/-- The temperature source in use: 0 when the model term is off (R58). -/
def State.tempSrc (s : State) : Nat :=
  let n := s.rd Reg.TIM_HOLD_CFG_TEMP_SRC
  if n = 2 ∧ 24 ≤ s.rd Reg.TIM_HOLD_CFG_SENSOR then 0 else n

/-- TIM_HOLD_TEMP, signed 1/128 °C. -/
def State.holdTemp (s : State) : Int := s.rdsi Reg.TIM_HOLD_TEMP_TEMP 0

/-- Entry i of the holdover table: temperature in 1/128 °C, frequency offset in 2^-12 ppb (R57). -/
def State.holdEntry (s : State) (i : Nat) : Int × Int := (s.rdsi Reg.HOLD_TBL_n_T_TEMP i, s.rdsi Reg.HOLD_TBL_n_F_FOFS i)

/-- The interval of the model that holds t, interpolated (R57); none where no interval does. -/
def State.modelWalk (s : State) (t : Int) (n i : Nat) : Option Int :=
  match n with
  | 0 => none
  | k + 1 =>
    let a := s.holdEntry i
    let b := s.holdEntry (i + 1)
    if a.1 ≤ t ∧ t < b.1 then some ((a.2 * (b.1 - t) + b.2 * (t - a.1)) * 256 / (b.1 - a.1))
    else State.modelWalk s t k (i + 1)

/-- model(t) of R57 in 2^-20 ppb. -/
def State.holdModel (s : State) (t : Int) : Int :=
  let n := min 64 (s.rd Reg.TIM_HOLD_CFG_ENTRIES)
  if n = 0 then 0
  else match s.modelWalk t (n - 1) 0 with
    | some y => y
    | none => if t < (s.holdEntry 0).1 then (s.holdEntry 0).2 * 256 else (s.holdEntry (n - 1)).2 * 256

/-- The holdover term at an epoch: −(y − y0) − aging · days (R57, R58). -/
def State.holdTermNow (s : State) : Int :=
  (if s.tempSrc = 0 then 0 else -(s.holdModel s.holdTemp - s.time.y0))
    - s.rdsi Reg.TIM_AGING_SLOPE 0 * ((s.epoch : Int) - s.time.holdStart) / 691200000

/-- Entry to HOLDOVER: c0, y0 and the epoch are recorded and the model starts (R57). -/
def State.enterHoldover (s : State) : State :=
  let e := s.epoch
  let s := { s with time := { s.time with
    c0 := s.time.servoFreq, y0 := if s.tempSrc = 0 then 0 else s.holdModel s.holdTemp, holdStart := e, holdTerm := 0,
    holdActive := true } }
  ((s.wr Reg.TIM_STATE_STATE 3).wr Reg.TIM_HOLD_START_LO_EPOCH e).wr Reg.TIM_HOLD_START_HI_EPOCH (e / 2 ^ 32)

/-- HOLDOVER if VALID, otherwise FREE, which uses no reference (R48, R62). -/
def State.holdOrFree (s : State) : State :=
  if s.rdb Reg.TIM_STATE_VALID then s.enterHoldover else (s.wr Reg.TIM_STATE_STATE 0).wr Reg.TIM_STATE_REF 0

/-- CMD = FREE: every term becomes 0 and a slew ends (R48). -/
def State.timeFree (s : State) : State :=
  let s := { s with time := { s.time with
    servoFreq := 0, slewTerm := 0, holdTerm := 0, holdActive := false, phaseRem := 0, freqPending := none } }
  (((s.wr Reg.TIM_FREQ_ADJ 0).wr Reg.TIM_STATE_STATE 0).wr Reg.TIM_STATE_REF 0).loadAdj 0

/-- ACQUIRE with a reference (R48, R50). -/
def State.timeAcquire (s : State) (ref : Nat) : State :=
  if (s.tState = 0 ∨ s.tState = 3) ∧ 1 ≤ ref ∧ ref ≤ 3 then
    let s := ((s.wr Reg.TIM_STATE_STATE 1).wr Reg.TIM_STATE_REF ref).servoCountNow
    { s with time := { s.time with convergeCount := 0 } }
  else s.tReject

/-- Entry to LOCKED (R48). -/
def State.enterLocked (s : State) : State :=
  ((s.wr Reg.TIM_STATE_STATE 2).wr Reg.TIM_STATE_VALID 1).servoCountNow

/-- LOCK: from ACQUIRING with REF 1 or 2; with REF 3 the hardware servo converges instead (R48). -/
def State.timeLock (s : State) : State :=
  if s.tState = 1 ∧ s.tRef ≠ 3 then s.enterLocked else s.tReject

/-- HOLD (R48). -/
def State.timeHold (s : State) : State :=
  if s.tState = 1 ∨ s.tState = 2 then s.holdOrFree else s.tReject

/-- RESUME: the state held before the Traverse (R48). -/
def State.timeResume (s : State) : State :=
  if s.tState = 4 then
    if s.time.beforeTraverse = 2 then s.enterLocked else (s.wr Reg.TIM_STATE_STATE s.time.beforeTraverse).servoCountNow
  else s.tReject

/-- A write of TIM_CMD: 0, 6 and 7 do nothing (R62). -/
def State.timeCommand (s : State) (cmd ref : Nat) : State :=
  if cmd = 1 then s.timeAcquire ref else if cmd = 2 then s.timeLock else if cmd = 3 then s.timeHold
  else if cmd = 4 then s.timeResume else if cmd = 5 then s.timeFree else s

/-- A write of TIM_FREQ (R53). -/
def State.timeFreqWrite (s : State) (v : Nat) : State :=
  if s.tState ≤ 2 ∧ s.tRef ≠ 3 then
    let s := s.wr Reg.TIM_FREQ_ADJ v
    let s := { s with time := { s.time with freqPending := some (toSigned 32 v * 256) } }
    if s.tRef = 1 ∨ s.tRef = 2 then s.servoCountNow else s
  else s.tReject

/-- The slew limit in ppb (R62: values above 2,000 act as 2,000). -/
def State.slewLimit (s : State) : Nat := min 2000 (s.rd Reg.TIM_SLEW_SLEW_LIMIT)

/-- A write of TIM_PHASE_ADJ (R54). -/
def State.phaseWrite (s : State) (v : Nat) : State :=
  let d := toSigned 32 v * subPerNs
  if (0 < d ∧ (s.rd Reg.TIM_STEP_THRESH_NS : Int) * subPerNs < s.time.phaseRem + d) ∨ s.slewLimit = 0 ∨ s.tState = 0
  then s.trb 0x10 4
  else { s with time := { s.time with phaseRem := s.time.phaseRem + d } }

/-- The slew term of the next pitch: the limit, or the smaller term that lands exactly (R54). A term of k 2^-20 ppb
removes 625·k channel units in a pitch. -/
def slewStep (rem : Int) (limit : Nat) : Int :=
  let l : Int := limit * 1048576
  max (-l) (min l (tdiv rem 625))

/-- The terms that a pitch boundary loads: the slew of the last pitch is settled, a waiting TIM_FREQ takes effect and
ends a holdover term (R46, R53, R54, R58). -/
def State.pitchTerms (s : State) : State :=
  let rem := s.time.phaseRem - 625 * s.time.slewTerm
  let t := { s.time with phaseRem := rem, slewTerm := slewStep rem s.slewLimit }
  let t := match t.freqPending with
    | some f => { t with servoFreq := f, freqPending := none, holdActive := false, holdTerm := 0 }
    | none => t
  ({ s with time := t }).loadAdj t.eff

/-- Load a restarting channel with the governing time and adjustment; its FAILED and DISSENT bits clear (R86, log
entry 12). -/
def State.channelLoad (s : State) (n : Nat) : State :=
  let c := s.chan n
  if c.loadPending ∧ s.domainUp (3 + n) then
    let t := s.wr Reg.SPN_STAT_DISSENT (setBit (s.rd Reg.SPN_STAT_DISSENT) n false)
    let t := t.wr Reg.SPN_STAT_FAILED (setBit (t.rd Reg.SPN_STAT_FAILED) n false)
    t.setChan n { c with time := s.sub, adj := s.time.eff, loadPending := false, fallow := false,
                         rejoinAt := some (s.epoch + 1) }
  else s

/-- Everything that network time does at a pitch boundary. -/
def State.timePitch (s : State) : State := (((s.pitchTerms).channelLoad 0).channelLoad 1).channelLoad 2

/-- Let time pass on every channel that runs: to a governing time in nanoseconds not yet reached. -/
def State.advanceTo (s : State) (ns : Nat) : State :=
  if s.sub < ns * subPerNs then
    let d := ns * subPerNs - s.sub
    { s with time := { s.time with
        chA := { s.time.chA with time := s.time.chA.time + d }
        chB := { s.time.chB with time := s.time.chB.time + d }
        chC := { s.time.chC with time := s.time.chC.time + d } } }
  else s

/-- The mean of the on-package sensors that are not STALE (R58, R416); none when all are. -/
def State.meanTemp (s : State) : Option Int :=
  let l := (List.range 24).filter (fun n => s.rdi Reg.THM_TEMP_n_STALE n == 0)
  if l.isEmpty then none else some ((l.map (fun n => s.rdsi Reg.THM_TEMP_n_TEMP n)).sum / l.length)

/-- The temperature in use is taken from its source once an epoch (R58); the SMBus value is held between reads. -/
def State.latchTemp (s : State) : State :=
  match s.tempSrc with
  | 1 => match s.meanTemp with
    | some t => s.wr Reg.TIM_HOLD_TEMP_TEMP (ofSigned 16 t)
    | none => s
  | 2 => s.wr Reg.TIM_HOLD_TEMP_TEMP (s.rdi Reg.THM_TEMP_n_TEMP (s.rd Reg.TIM_HOLD_CFG_SENSOR))
  | _ => s

/-- The holdover model at an epoch boundary, while R57 and R58 apply it; not in TRAVERSE_HOLD (R49). -/
def State.holdoverEpoch (s : State) : State :=
  if s.time.holdActive ∧ s.tState ≠ 4 then
    let t := { s.time with holdTerm := s.holdTermNow }
    ({ s with time := t }).loadAdj t.eff
  else s

/-- Epochs without a word and epochs of conflict, for a device that follows fabric time (R60, R62). -/
def State.fabricEpoch (s : State) : State :=
  let follows := s.tRef = 3 ∧ (s.tState = 1 ∨ s.tState = 2) ∧ s.rdb Reg.TIM_FAB_CFG_FAB_EN ∧ ¬ s.rdb Reg.TIM_FAB_CFG_ROOT
  let s := s.wr Reg.TIM_FAB_STAT_WORDS_OK (b01 s.time.gotWord)
  let t := if follows ∧ ¬ s.time.gotWord then s.trb 0x10 6 else s
  let t := if s.time.conflict then t.trb 0x10 7 else t
  { t with time := { t.time with gotWord := false, conflict := false } }

/-- Everything that network time does at an epoch boundary. -/
def State.timeEpoch (s : State) : State := s.latchTemp.holdoverEpoch.fabricEpoch

/-- The bit rate of a BAUD code (R62); 0 off. -/
def baudOf (n : Nat) : Nat := [0, 9600, 19200, 38400, 57600, 115200, 230400, 460800, 921600].getD n 0

/-- The ToD UART sends for one tick: ten bit times a byte (8N1); at high impedance nothing leaves (R62, R90). -/
def State.todTick (s : State) : State :=
  let b := baudOf (s.rd Reg.TIM_TOD_BAUD_OUT)
  match s.time.todTx with
  | [] => s
  | x :: rest =>
    if b = 0 then s
    else if s.time.todAcc + b < 12500000000 then { s with time := { s.time with todAcc := s.time.todAcc + b } }
    else
      let s := { s with time := { s.time with todAcc := 0, todTx := rest } }
      if s.pins.sharedOut then s.emit (.todByte x) else s

/-- A tick of one channel: 0.8 ns times (1 + a) (R46). -/
def Channel.tick (c : Channel) : Channel :=
  if c.fallow then c else { c with time := c.time + (1048576000000000 + c.adj).toNat }

/-- Every powered channel ticks. -/
def State.tickChannels (s : State) : State :=
  { s with time := { s.time with
      chA := if s.domainUp 3 then s.time.chA.tick else s.time.chA
      chB := if s.domainUp 4 then s.time.chB.tick else s.time.chB
      chC := if s.domainUp 5 then s.time.chC.tick else s.time.chC } }

/-- Queue a PTP timestamp, or lose it and count (R63). -/
def State.tsqPush (s : State) (e : Nat) : State :=
  if ¬ s.runs 0x14 then s
  else if s.time.tsq.length < 4096 then { s with time := { s.time with tsq := s.time.tsq ++ [e] } }
  else (s.wr Reg.PTP_TSQ_STAT_OVF 1).trb 0x14 3

/-- A queue entry (R63): time, port, messageType, transmit, VALID, sequenceId. -/
def tsqEntry (t port mtype : Nat) (tx : Bool) (seq : Nat) : Nat :=
  t % 2 ^ 96 + port % 256 * 2 ^ 96 + mtype % 16 * 2 ^ 104 + b01 tx * 2 ^ 108 + 2 ^ 111 + seq % 65536 * 2 ^ 112

/-- PTP_PORT_CFG of a port. -/
def State.ptpCfg (s : State) (port : Nat) : Nat := s.time.ptpPort.get 0 port

/-- The next byte of the receive FIFO, with VALID; the read removes it (R62). -/
def State.todRxTake (s : State) : Nat × State :=
  match s.time.todRx with
  | [] => (0, s)
  | b :: rest => (b.toNat + 2 ^ 31, { s with time := { s.time with todRx := rest } })

/-- A byte to send; ignored while 256 wait (R62). -/
def State.todTxPut (s : State) (b : Byte) : State :=
  if s.time.todTx.length < 256 then { s with time := { s.time with todTx := s.time.todTx ++ [b] } } else s

/-- PTP_TSQ_k: reading _0 latches the oldest entry, reading _3 removes it (R63). -/
def State.tsqTake (s : State) (k : Nat) : Nat × State :=
  let s := if k = 0 then { s with time := { s.time with tsqLatch := s.time.tsq.headD 0 } } else s
  (bits s.time.tsqLatch (32 * k + 31) (32 * k),
   if k = 3 then { s with time := { s.time with tsq := s.time.tsq.drop 1 } } else s)

/-! ## Meanings -/

/-- TIM_CMD_ACQUIRE (R48, R50). -/
def execTimCmdAcquire (m : Master) (ref : BitVec 2) (s : State) : Host.Outcome State Fault Refusal :=
  .next (s.onWrite m 0x10 0x104 (fun t => t.timeCommand 1 ref.toNat))

/-- TIM_CMD_LOCK (R48). -/
def execTimCmdLock (m : Master) (s : State) : Host.Outcome State Fault Refusal :=
  .next (s.onWrite m 0x10 0x104 (fun t => t.timeCommand 2 0))

/-- TIM_CMD_HOLD (R48, R57). -/
def execTimCmdHold (m : Master) (s : State) : Host.Outcome State Fault Refusal :=
  .next (s.onWrite m 0x10 0x104 (fun t => t.timeCommand 3 0))

/-- TIM_CMD_RESUME (R48). -/
def execTimCmdResume (m : Master) (s : State) : Host.Outcome State Fault Refusal :=
  .next (s.onWrite m 0x10 0x104 (fun t => t.timeCommand 4 0))

/-- TIM_CMD_FREE (R48). -/
def execTimCmdFree (m : Master) (s : State) : Host.Outcome State Fault Refusal :=
  .next (s.onWrite m 0x10 0x104 (fun t => t.timeCommand 5 0))

/-- TIM_FREQ_WRITE (R53). -/
def execTimFreqWrite (m : Master) (v : Word) (s : State) : Host.Outcome State Fault Refusal :=
  .next (s.onWrite m 0x10 0x120 (fun t => t.timeFreqWrite v.toNat))

/-- TIM_PHASE_ADJ (R54). -/
def execTimPhaseAdj (m : Master) (d : Word) (s : State) : Host.Outcome State Fault Refusal :=
  .next (s.onWrite m 0x10 0x124 (fun t => t.phaseWrite d.toNat))

/-- HOLD_TIMEOUT: TIM_HOLD_TIMEOUT epochs have passed without a servo update (R48, R53, R60, R62). -/
def execHoldTimeout (s : State) : Host.Outcome State Fault Refusal :=
  let n := s.rd Reg.TIM_HOLD_TIMEOUT_EPOCHS
  .next (if (s.tState = 1 ∨ s.tState = 2) ∧ n ≠ 0 ∧ s.time.servoEpoch + n ≤ s.epoch then
      let t := s.holdOrFree
      if s.rdb Reg.TIM_STATE_VALID then t.trb 0x10 5 else t
    else s)

/-- TRAVERSE_HOLD_TIMEOUT: 32,000 epochs without RESUME (R48). -/
def execTraverseHoldTimeout (s : State) : Host.Outcome State Fault Refusal :=
  .next (if s.tState = 4 ∧ s.time.travEpoch + 32000 ≤ s.epoch then s.enterHoldover.trb 0x10 5 else s)

/-- SMBUS_TEMP_READ: the external sensor is read; eight failures in a row mark the temperature STALE (R58). -/
def execSmbusTempRead (t : Option (BitVec 16)) (s : State) : Host.Outcome State Fault Refusal :=
  .next (if s.tempSrc = 3 then
      let s := s.emit (.smbus (s.rd Reg.TIM_HOLD_CFG_SMB_ADDR))
      match t with
      | some v =>
        let s := { s with time := { s.time with smbFails := 0, smbTemp := v.toNat } }
        (s.wr Reg.TIM_HOLD_TEMP_TEMP v.toNat).wr Reg.TIM_HOLD_TEMP_STALE 0
      | none =>
        let s := { s with time := { s.time with smbFails := s.time.smbFails + 1 } }
        if 8 ≤ s.time.smbFails then s.wr Reg.TIM_HOLD_TEMP_STALE 1 else s
    else s)

/-- The time of channel n into its page's TIM_PPS_CAP (R62). -/
def State.ppsCapture (s : State) (n : Nat) : State :=
  let t := time96 (s.chan n).time
  (((s.wrp (0x10 + n) Reg.TIM_PPS_CAP_k_TIME 0 t).wrp (0x10 + n) Reg.TIM_PPS_CAP_k_TIME 1 (t / 2 ^ 32)).wrp
    (0x10 + n) Reg.TIM_PPS_CAP_k_TIME 2 (t / 2 ^ 64))

/-- PPS_IN_EDGE: each channel's time is captured and source 0 pends (R50, R62, R369). -/
def execPpsInEdge (s : State) : Host.Outcome State Fault Refusal :=
  let s := if s.domainUp 3 then s.ppsCapture 0 else s
  let s := if s.domainUp 4 then s.ppsCapture 1 else s
  let s := if s.domainUp 5 then s.ppsCapture 2 else s
  .next (s.setPend 0)

/-- PPS_OUT_PULSE: a second boundary plus TIM_PPS_OFS is reached (R62, R90). -/
def State.ppsPulse (s : State) : State :=
  if s.rdb Reg.TIM_PPS_OUT_EN ∧ s.rd Reg.TIM_PPS_OUT_WIDTH ≠ 0 ∧ s.pins.sharedOut then s.emit .pulse else s

/-- PPS_OUT_PULSE (R56, R62, R90, R458). -/
def execPpsOutPulse (s : State) : Host.Outcome State Fault Refusal := .next s.ppsPulse

/-- TOD_RX_BYTE: a byte on TOD_IN; its start bit pends source 1 (R62, R369). -/
def execTodRxByte (b : Byte) (s : State) : Host.Outcome State Fault Refusal :=
  let s := s.setPend 1
  .next (if baudOf (s.rd Reg.TIM_TOD_BAUD_IN) ≠ 0 ∧ s.time.todRx.length < 256 then
      { s with time := { s.time with todRx := s.time.todRx ++ [b] } }
    else s)

/-- TOD_RX_READ (R62). -/
def execTodRxRead (m : Master) (s : State) : Host.Outcome State Fault Refusal :=
  .next (s.onRead m 0x10 0x170 State.todRxTake)

/-- TOD_TX_WRITE (R62). -/
def execTodTxWrite (m : Master) (b : Byte) (s : State) : Host.Outcome State Fault Refusal :=
  .next (s.onWrite m 0x10 0x174 (fun t => t.todTxPut b))

/-- PTP_TSQ_READ (R63). -/
def execPtpTsqRead (m : Master) (k : Nat) (s : State) : Host.Outcome State Fault Refusal :=
  .next (if k < 4 then s.onRead m 0x14 (0x120 + 4 * k) (fun t => t.tsqTake k) else s)

/-- SERVO_CONVERGED: the offset stayed within 2 ns for 64 epochs (R59). -/
def execServoConverged (s : State) : Host.Outcome State Fault Refusal :=
  .next (if s.tState = 1 ∧ s.tRef = 3 ∧ 64 ≤ s.time.convergeCount then s.enterLocked else s)

end Sys2Proof.Machine
end

