-- ==== Sys2Proof/Machine/Spine.lean ====
section
/-! DEFINITION. Spine: the rope of three time channels, its votes, checks and restarts (R82 to R87, R96). -/
namespace Sys2Proof.Machine

/-- The channels in the vote or the comparison, lowest letter first (SPN_STAT.RUNNING). -/
def State.runningChans (s : State) : List Nat := bitsSet (s.rd Reg.SPN_STAT_RUNNING) 3

/-- Put a channel into, or take it out of, SPN_STAT.RUNNING. -/
def State.setRunning (s : State) (n : Nat) (b : Bool) : State :=
  s.wr Reg.SPN_STAT_RUNNING (setBit (s.rd Reg.SPN_STAT_RUNNING) n b)

/-- Set or clear a channel's FAILED bit. -/
def State.setFailed (s : State) (n : Nat) (b : Bool) : State :=
  s.wr Reg.SPN_STAT_FAILED (setBit (s.rd Reg.SPN_STAT_FAILED) n b)

/-- A mismatch or dissent: its epoch goes to SPN_LAST_MM (R96). -/
def State.spnMismatch (s : State) : State :=
  let e := s.epoch
  (s.wr Reg.SPN_LAST_MM_LO_EPOCH e).wr Reg.SPN_LAST_MM_HI_EPOCH (e / 2 ^ 32)

/-- Begin the restart of a channel (R86): it leaves the vote and loads at the next pitch boundary. A channel that was active hands over to the lowest-lettered one that runs (log entry 12). -/
def State.restartChan (s : State) (n : Nat) : State :=
  let s := s.setRunning n false
  let s := s.wr Reg.SPN_STAT_RESTARTING (setBit (s.rd Reg.SPN_STAT_RESTARTING) n true)
  let s := s.setChan n { s.chan n with loadPending := true, rejoinAt := none }
  let s := s.trb 0x13 8
  match s.runningChans with
  | c :: _ => if s.governor = n then s.wr Reg.SPN_STAT_ACTIVE c else s
  | [] => s

/-- A commanded restart: refused and counted for a fallow channel (R86). -/
def State.restartCmd (s : State) (n : Nat) : State :=
  if (s.chan n).fallow then s.trb 0x13 3 else s.restartChan n

/-- Start the known-answer check (R85). -/
def State.katStart (s : State) (two noMaj self : Bool) : State :=
  { s.wr Reg.SPN_STAT_CHECKING 1 with spine := { s.spine with
      checkTwo := s.spine.checkTwo || two, checkNoMajority := s.spine.checkNoMajority || noMaj,
      checkSelf := s.spine.checkSelf || self } }

/-- One channel of three dissents (R83). -/
def State.dissent (s : State) (d winner : Nat) : State :=
  let s := (s.wr Reg.SPN_STAT_ACTIVE winner).spnMismatch
  let s := (s.wr Reg.SPN_STAT_DISSENT (setBit (s.rd Reg.SPN_STAT_DISSENT) d true)).trb 0x13 3
  if s.rdb Reg.SPN_CTL_AUTO_RESTART then s.restartChan d else s.setRunning d false

/-- The vote of three channels (R83). -/
def State.vote (s : State) : State :=
  let a := s.time.chA.time
  let b := s.time.chB.time
  let c := s.time.chC.time
  if a = b ∧ b = c then (if s.governor = 0 then s else s.wr Reg.SPN_STAT_ACTIVE 0)
  else if a = b then s.dissent 2 0
  else if a = c then s.dissent 1 0
  else if b = c then s.dissent 0 1
  else if s.spine.checkNoMajority then s
  else (((s.wr Reg.SPN_STAT_NO_MAJORITY 1).trb 0x13 7).spnMismatch).katStart false true false

/-- The two-channel rule (R84): a mismatch counts, and outside the quiet epoch starts a check. -/
def State.compareTwo (s : State) (x y : Nat) : State :=
  if (s.chan x).time = (s.chan y).time then s
  else
    let t := (s.trb 0x13 4).spnMismatch
    if s.ns < s.spine.quietUntil ∨ s.spine.checkTwo then t
    else { t with spine := { t.spine with quietUntil := s.ns + 125000 } }.katStart true false false

/-- The comparison of a tick (R83, R84). -/
def State.compareChans (s : State) : State :=
  match s.runningChans with
  | [0, 1, 2] => s.vote
  | [x, y] => s.compareTwo x y
  | _ => s

/-- Record one channel's check result: FAILED shows the last check, failures count (R96). -/
def State.katResult (s : State) (n : Nat) (pass : Bool) : State :=
  if s.runningChans.contains n then
    if pass then s.setFailed n false else (s.setFailed n true).trb 0x13 5
  else s

/-- The outcome of a check after a vote without majority: the lowest-lettered channel that passes governs alone, or A
(R83). -/
def State.katNoMajority (s : State) (p : Nat → Bool) : State :=
  let w := ([0, 1, 2].find? p).getD 0
  (s.wr Reg.SPN_STAT_ACTIVE w).wr Reg.SPN_STAT_RUNNING (2 ^ w)

/-- The outcome of a check of active `a` and standby `b` (R84). -/
def State.katTwo (s : State) (p : Nat → Bool) (a b : Nat) : State :=
  if p a then
    if p b then (s.wr Reg.SPN_STAT_NO_FAULT_FOUND 1).trb 0x13 6 else s.setRunning b false
  else if p b then (s.wr Reg.SPN_STAT_ACTIVE b).setRunning a false
  else s

/-- The end of a known-answer check (R83 to R85). -/
def State.katEnd (s : State) (p : Nat → Bool) : State :=
  let s' := ((s.katResult 0 (p 0)).katResult 1 (p 1)).katResult 2 (p 2)
  let s' := if s.spine.checkNoMajority then s'.katNoMajority p
    else if s.spine.checkTwo then
      match (s.runningChans.filter (fun n => n != s.governor)) with
      | [b] => s'.katTwo p s.governor b
      | _ => s'
    else s'
  { s'.wr Reg.SPN_STAT_CHECKING 0 with spine := { s'.spine with
      checkTwo := false, checkNoMajority := false, checkSelf := false } }

/-- The lowest-lettered channel other than `a` that runs and is not FAILED (R84). -/
def State.standbyFor (s : State) (a : Nat) : Option Nat :=
  s.runningChans.find? (fun n => n != a && bitN (s.rd Reg.SPN_STAT_FAILED) n == 0)

/-- A commit that changes SPN_MODE (R84, R87): DUPLEX leaves the third channel fallow and its domain goes down; TMR
powers the fallow channel's domain and restarts it. -/
def State.spnModeCommit (s : State) (old new : Nat) : State :=
  if old = new then s
  else if new = 1 then
    let a := s.governor
    let other := ([0, 1, 2].find? (fun n => n != a)).getD 1
    let t := match s.standbyFor a with
      | some _ => s
      | none => s.restartChan other
    let b := (s.standbyFor a).getD other
    let c := 3 - a - b
    let t := (t.setRunning c false).setChan c { t.chan c with fallow := true, loadPending := false, rejoinAt := none }
    { t with pwr := { t.pwr with seqOff := t.pwr.seqOff ++ [3 + c] } }
  else
    match [0, 1, 2].find? (fun n => (s.chan n).fallow) with
    | none => s
    | some n =>
      let t := (s.setChan n { s.chan n with fallow := false }).restartChan n
      { t with pwr := { t.pwr with seqOn := t.pwr.seqOn ++ [3 + n], seqOff := without t.pwr.seqOff (3 + n) } }

/-- A channel rejoins the vote or the comparison (R86). -/
def State.rejoin (s : State) (n : Nat) : State :=
  match (s.chan n).rejoinAt with
  | some e =>
    if e ≤ s.epoch then
      let s := s.setChan n { s.chan n with rejoinAt := none }
      let s := s.wr Reg.SPN_STAT_RESTARTING (setBit (s.rd Reg.SPN_STAT_RESTARTING) n false)
      s.setRunning n true
    else s
  | none => s

/-! ## Meanings -/

/-- TIME_TICK (R46, R83, R84, R62). -/
def execTimeTick (s : State) : Host.Outcome State Fault Refusal := .next s.tickChannels.compareChans.todTick

/-- KAT_COMPLETE: the check that runs ends with these results (R83 to R85). -/
def execKatComplete (passA passB passC : Bool) (s : State) : Host.Outcome State Fault Refusal :=
  .next (if s.rdb Reg.SPN_STAT_CHECKING then
      s.katEnd (fun n => if n = 0 then passA else if n = 1 then passB else passC)
    else s)

/-- SPN_SELFTEST (R85). -/
def execSpnSelftest (m : Master) (s : State) : Host.Outcome State Fault Refusal :=
  .next (s.onWrite m 0x13 0x108 (fun t => t.katStart false false true))

/-- The channels that a write of SPN_CMD.RESTART names (R96). -/
def State.restartMask (s : State) (v : Nat) : State := (bitsSet v 3).foldl State.restartCmd s

/-- SPN_RESTART (R86). -/
def execSpnRestart (m : Master) (chans : BitVec 3) (s : State) : Host.Outcome State Fault Refusal :=
  .next (s.onWrite m 0x13 0x108 (fun t => t.restartMask chans.toNat))

/-- CHANNEL_REJOIN (R86). -/
def execChannelRejoin (ch : Nat) (s : State) : Host.Outcome State Fault Refusal :=
  .next (if ch < 3 then s.rejoin ch else s)

end Sys2Proof.Machine
end

