-- ==== Sys2Proof/Machine/Pair.lean ====
section
/-! DEFINITION. Pair: the belay, ownership of the shared outputs, decision records and digests (R88 to R98). -/
namespace Sys2Proof.Machine

/-- The device takes part in a pair (R88). -/
def State.inPair (s : State) : Bool := s.pins.present && s.rdb Reg.PAIR_CTL_EN

/-- PAIR_STAT.OWNER. -/
def State.owner (s : State) : Bool := s.rdb Reg.PAIR_STAT_OWNER

/-- A port is protected: named in PAIR_PROT while the device takes part in a pair (R88, R97). -/
def State.protectedPort (s : State) (port : Nat) : Bool :=
  s.inPair && port < 128 && bitN (s.rdi Reg.PAIR_PROT_k_PORTS (port / 32)) (port % 32) == 1

/-- The GPIO of PAIR_CTL.OWN_GPIO shows ownership (R90). -/
def State.ownGpio (s : State) (b : Bool) : State :=
  let n := s.rd Reg.PAIR_CTL_OWN_GPIO
  if n < 16 then
    { s with pins := { s.pins with gpio := BitVec.ofNat 16 (setBit s.pins.gpio.toNat n b) } }
  else s

/-- Become owner: the shared outputs and the protected transmitters are enabled (R89). -/
def State.becomeOwner (s : State) : State :=
  let s := { s with pins := { s.pins with sharedOut := true } }
  ((s.wr Reg.PAIR_STAT_OWNER 1).ownGpio true).trb 0x17 8

/-- Stop owning: outputs off, protected transmitters idle (R89, R90). -/
def State.stopOwning (s : State) : State :=
  let s := { s with pins := { s.pins with sharedOut := false } }
  (s.wr Reg.PAIR_STAT_OWNER 0).ownGpio false

/-- Ownership follows the belay pins (R88, R89): a device owns while its BELAY_OUT is asserted and BELAY_IN has been
deasserted for 200 ns; outside a pair it drives the shared outputs itself. -/
def State.pairSettle (s : State) : State :=
  if s.inPair then
    if s.pins.belayOut ∧ ¬ s.pins.belayIn ∧ s.pins.belayInQuiet then
      (if s.owner then s else s.becomeOwner)
    else s.stopOwning
  else
    let t := { s with pins := { s.pins with belayOut := false, sharedOut := true } }
    if s.owner then (t.wr Reg.PAIR_STAT_OWNER 0).ownGpio false else t

/-- Release: outputs off, then BELAY_OUT deasserted (R89). -/
def State.pairRelease (s : State) : State :=
  let s := s.stopOwning
  ({ s with pins := { s.pins with belayOut := false } }).pairSettle

/-- Claim: BELAY_OUT is asserted (R89). -/
def State.pairClaim (s : State) : State :=
  if s.inPair then ({ s with pins := { s.pins with belayOut := true } }).pairSettle else s

/-- A write of PAIR_CMD; CLAIM and RELEASE together do nothing (R97). -/
def State.pairCommand (s : State) (v : Nat) : State :=
  if v % 4 = 1 then s.pairClaim else if v % 4 = 2 then (if s.pins.belayOut then s.pairRelease else s) else s

/-! ## Decision records and digests (R92) -/

/-- GEN_DIGEST: CRC-64 over PG_GEN.ACTIVE of the pages with banks, in page order. -/
def State.genDigest (s : State) : Nat := crc64 0 (bankPages.flatMap (fun p => toBe 2 (s.pageGen p)))

/-- DEC_DIGEST: CRC-64 over the 128 per-port values in port order. -/
def State.decDigest (s : State) : Nat :=
  crc64 0 ((List.range 128).flatMap (fun p => toBe 8 (s.pair.decCrc.get 0 p)))

/-- DEC_COUNT: the records covered. -/
def State.decCount (s : State) : Nat := (s.pair.decSeq.map Prod.snd).sum

/-- One decision on a protected port: 16 bytes into the port's CRC, the sequence advances. -/
def State.decisionRecord (s : State) (port dest queue cls color : Nat) : State :=
  let seq := s.pair.decSeq.get 0 port
  let r16 := toBe 1 port ++ toBe 4 seq ++ toBe 3 dest ++ toBe 3 queue ++ toBe 1 (cls % 8 + color % 4 * 8) ++ zeros 4
  { s with pair := { s.pair with
      decCrc := s.pair.decCrc.set 0 port (crc64 (s.pair.decCrc.get 0 port) r16)
      decSeq := s.pair.decSeq.set 0 port (seq + 1) } }

/-- At an epoch boundary the ended epoch's digest is kept and new records start. -/
def State.pairEpoch (s : State) : State :=
  { s with pair := { s.pair with
      own := ((s.epoch - 1, s.pair.genAtBoundary, s.decDigest, s.decCount) :: s.pair.own).take 4
      decCrc := [], decSeq := [], genAtBoundary := s.genDigest } }

/-- The digest payload of R92. -/
def digestBytes (flags epoch tx rx gen dec count : Nat) : Bytes :=
  [0x4B, 0x01] ++ toBe 2 flags ++ toBe 6 epoch ++ zeros 2 ++ toBe 12 tx ++ toBe 12 rx ++ toBe 8 gen ++ toBe 8 dec
    ++ toBe 4 count ++ zeros 4

/-- The FLAGS of a digest: seat, owner, self-check running, UNFIT. -/
def State.digestFlags (s : State) : Nat :=
  b01 s.pins.seat + 2 * b01 s.owner + 4 * s.rd Reg.PAIR_STAT_CHECKING + 8 * s.rd Reg.PAIR_STAT_UNFIT

/-- Read a digest payload (R92). -/
def parseDigest (b : Bytes) : Digest :=
  { version := beAt b 1 1, flags := beAt b 2 2, epoch := beAt b 4 6, txTime := beAt b 12 12, peerRx := beAt b 24 12,
    genDigest := beAt b 36 8, decDigest := beAt b 44 8, decCount := beAt b 52 4 }

/-- Offset and delay in 2^-16 ns from the four times of R92; none where a time is missing. -/
def pairTimes (t1 t2 t3 t4 : Nat) : Option (Int × Int) :=
  if t1 = 0 ∨ t2 = 0 then none
  else
    let a : Int := time96Frac t1
    let b : Int := time96Frac t2
    let c : Int := time96Frac t3
    let d : Int := time96Frac t4
    some (((b - a) - (d - c)) / 2, ((d - a) - (c - b)) / 2)

/-- The time comparison of R93 fails. -/
def State.timeDiffers (s : State) (o : Option (Int × Int)) : Bool :=
  match o with
  | some (off, _) => s.rd Reg.PAIR_TIME_TOL_NS != 0 && decide ((s.rd Reg.PAIR_TIME_TOL_NS : Int) * 65536 < off.natAbs)
  | none => false

/-- Start the pair self-check: its first part is the known-answer check (R93). -/
def State.pairCheckStart (s : State) : State :=
  let s := { s with pair := { s.pair with checkStart := s.epoch } }
  (s.wr Reg.PAIR_STAT_CHECKING 1).katStart false false true

/-- A digest mismatch of these kinds (R93). -/
def State.pairMismatch (s : State) (epoch kind : Nat) : State :=
  let s := (((s.wr Reg.PAIR_STAT_MISMATCH 1).wr Reg.PAIR_LAST_MM_LO_EPOCH epoch).wr
    Reg.PAIR_LAST_MM_HI_EPOCH (epoch / 2 ^ 32)).wr Reg.PAIR_LAST_MM_HI_KIND kind
  let s := s.trb 0x17 3
  if s.rdb Reg.PAIR_CTL_CHECK_ON_MISMATCH ∧ ¬ s.rdb Reg.PAIR_STAT_CHECKING then s.pairCheckStart else s

/-- A digest arrives (R92, R93). -/
def State.digestIn (s : State) (d : Digest) (rx : Nat) : State :=
  if ¬ s.inPair ∨ d.version ≠ 1 then s
  else
    let o := pairTimes s.pair.lastTx d.peerRx d.txTime rx
    let s := match o with
      | some (_, delay) => s.wr Reg.PAIR_DELAY_DELAY (ofSigned 32 (delay / 256))
      | none => s
    let s := { s with pair := { s.pair with
      lastRx := rx, missRun := 0, peerSeen := (d.epoch :: s.pair.peerSeen).take 8 } }
    let s := s.wr Reg.PAIR_STAT_LINK_UP 1
    match s.pair.own.find? (fun r => r.1 == d.epoch) with
    | some (_, gen, dec, cnt) =>
      let kind := b01 (s.timeDiffers o) + 2 * b01 (gen != d.genDigest) + 4 * b01 (dec != d.decDigest)
        + 8 * b01 (cnt != d.decCount)
      if kind = 0 then s else s.pairMismatch d.epoch kind
    | none => s

/-! ## Meanings -/

/-- PAIR_CLAIM (R89, R97). -/
def execPairClaim (m : Master) (s : State) : Host.Outcome State Fault Refusal :=
  .next (s.onWrite m 0x17 0x104 (fun t => t.pairCommand 1))

/-- PAIR_RELEASE (R89, R97). -/
def execPairRelease (m : Master) (s : State) : Host.Outcome State Fault Refusal :=
  .next (s.onWrite m 0x17 0x104 (fun t => t.pairCommand 2))

/-- BELAY_IN_QUALIFIED: BELAY_IN has been deasserted for 200 ns; a fit standby with AUTO_TAKEOVER claims (R89). -/
def execBelayInQualified (s : State) : Host.Outcome State Fault Refusal :=
  let s := { s with pins := { s.pins with belayIn := false, belayInQuiet := true } }
  .next (if s.inPair ∧ ¬ s.pins.belayOut ∧ s.rdb Reg.PAIR_CTL_AUTO_TAKEOVER ∧ ¬ s.rdb Reg.PAIR_STAT_UNFIT then
      s.pairClaim
    else s.pairSettle)

/-- BELAY_CONTENTION: the peer's BELAY_OUT is seen asserted; with the own one asserted too, seat 1 yields and seat 0
waits (R89). -/
def execBelayContention (s : State) : Host.Outcome State Fault Refusal :=
  let s := { s with pins := { s.pins with belayIn := true, belayInQuiet := false } }
  .next (if s.inPair ∧ s.pins.belayOut ∧ s.pins.seat then s.pairRelease.trb 0x17 7 else s.pairSettle)

/-- DIGEST_SEND: the digest of the last epoch leaves (R92). -/
def execDigestSend (s : State) : Host.Outcome State Fault Refusal :=
  let e := s.epoch - 1
  .next (match s.inPair, s.pair.own.find? (fun r => r.1 == e) with
    | true, some (_, gen, dec, cnt) =>
      let tx := time96 s.sub
      let s := s.emit (.pairFrame (toBe 2 0x88B5 ++ digestBytes s.digestFlags e tx s.pair.lastRx gen dec cnt))
      { s with pair := { s.pair with lastTx := tx } }
    | _, _ => s)

/-- DIGEST_RECEIVED (R92, R93). -/
def execDigestReceived (d : Digest) (rxTime : Nat) (s : State) : Host.Outcome State Fault Refusal :=
  .next (s.digestIn d rxTime)

/-- DIGEST_MISSING: no digest of epoch E by the boundary of E + 2 (R93). -/
def execDigestMissing (s : State) : Host.Outcome State Fault Refusal :=
  let e := s.epoch - 2
  .next (if s.inPair ∧ 2 ≤ s.epoch ∧ ¬ s.pair.peerSeen.contains e then
      let s := s.trb 0x17 4
      let run := s.pair.missRun + 1
      let s := { s with pair := { s.pair with missRun := run, peerSeen := (e :: s.pair.peerSeen).take 8 } }
      let lim := s.rd Reg.PAIR_MISS_LIMIT_N
      if lim ≠ 0 ∧ lim ≤ run then s.wr Reg.PAIR_STAT_LINK_UP 0 else s
    else s)

/-- PAIR_SELFCHECK_DONE (R93). -/
def execPairSelfcheckDone (pass : Bool) (s : State) : Host.Outcome State Fault Refusal :=
  .next (if s.rdb Reg.PAIR_STAT_CHECKING then
      let s := s.wr Reg.PAIR_STAT_CHECKING 0
      if pass then (s.wr Reg.PAIR_STAT_NO_FAULT_FOUND 1).trb 0x17 6
      else
        let s := ((s.wr Reg.PAIR_STAT_SELF_FAIL 1).wr Reg.PAIR_STAT_UNFIT 1).trb 0x17 5
        if s.owner then s.pairRelease else s
    else s)

/-- PAIR_PRESENT_CHANGE (R88, R459). -/
def execPairPresentChange (high : Bool) (s : State) : Host.Outcome State Fault Refusal :=
  .next ({ s with pins := { s.pins with present := high } }).pairSettle

end Sys2Proof.Machine
end

