-- ==== Sys2Proof/Machine/Ports.lean ====
section
/-! DEFINITION. Ports: network ports, their MACs and input FIFOs, PAUSE and PFC, SEATED_L, SerDes status (R99 to R119). -/
namespace Sys2Proof.Machine

/-- The page of a network port (R99). -/
def portPage (p : Nat) : Nat := 0x40 + p / 16

/-- A per-port field of a network port. -/
def State.pf (s : State) (f : Fld) (p : Nat) : Nat := s.rdp (portPage p) f (p % 16)

/-- Set a per-port field. -/
def State.wpf (s : State) (f : Fld) (p v : Nat) : State := s.wrp (portPage p) f (p % 16) v

/-- A trouble counter of the port's NETPG page. -/
def State.ptrb (s : State) (p k : Nat) : State := s.trb (portPage p) k

/-- The combinations of R102. -/
def cfgValid (width rate fec : Nat) : Bool :=
  if rate = 5 ∨ rate = 4 ∨ rate = 3 then fec == 3 && [1, 2, 4, 8].contains width
  else if rate = 2 then (width == 1 && (fec == 0 || fec == 1 || fec == 2)) || (width == 4 && (fec == 0 || fec == 2))
  else if rate = 1 then width == 1 && (fec == 0 || fec == 1)
  else false

/-- Per-lane Ethernet rate in Gb/s (R102). -/
def laneRate (rate : Nat) : Nat := [0, 10, 25, 50, 100, 200].getD rate 0

/-- PORT_CFG: enable, width, rate, FEC. -/
structure PortCfg where
  en : Bool
  width : Nat
  rate : Nat
  fec : Nat
  deriving DecidableEq, Repr

/-- The active PORT_CFG of a lane. -/
def State.portCfg (s : State) (p : Nat) : PortCfg :=
  { en := s.pf Reg.PORT_CFG_EN p == 1, width := s.pf Reg.PORT_CFG_WIDTH p, rate := s.pf Reg.PORT_CFG_LANE_RATE p,
    fec := s.pf Reg.PORT_CFG_FEC p }

/-- The staged PORT_CFG of a lane. -/
def State.portCfgStg (s : State) (p : Nat) : PortCfg :=
  let g := fun f => s.stgp (portPage p) f (p % 16)
  { en := g Reg.PORT_CFG_EN == 1, width := g Reg.PORT_CFG_WIDTH, rate := g Reg.PORT_CFG_LANE_RATE,
    fec := g Reg.PORT_CFG_FEC }

/-- A configuration defines a port: enabled, with a width and a rate (R39). -/
def PortCfg.defines (c : PortCfg) : Bool := c.en && c.width != 0 && c.rate != 0

/-- A configuration may run at lane j of its group (R101, R102). -/
def PortCfg.ok (c : PortCfg) (j : Nat) : Bool := cfgValid c.width c.rate c.fec && j % c.width == 0

/-- Lanes already taken do not overlap lanes j to j + w − 1. -/
def freeLanes (taken : List Nat) (j w : Nat) : Bool := (List.range w).all (fun k => !taken.contains (j + k))

/-- Running ports of group g, each with its width, lower lanes first (R101). -/
def State.groupPorts (s : State) (g : Nat) : List (Nat × Nat) :=
  ((List.range 16).foldl (fun (a : List (Nat × Nat) × List Nat) j =>
    let c := s.portCfg (16 * g + j)
    if c.defines && c.ok j && freeLanes a.2 j c.width then
      (a.1 ++ [(16 * g + j, c.width)], a.2 ++ (List.range c.width).map (fun k => j + k))
    else a) ([], [])).1

/-- A port number names a running port (R101). -/
def State.portRuns (s : State) (p : Nat) : Bool :=
  decide (p < 128) && (s.groupPorts (p / 16)).any (fun q => q.1 == p) && s.runs (portPage p)
    && s.runs (0x48 + p / 32)

/-- The port that holds a system lane. -/
def State.portOfLane (s : State) (l : Nat) : Option Nat :=
  ((s.groupPorts (l / 16)).find? (fun q => q.1 ≤ l && l < q.1 + q.2)).map Prod.fst

/-- Port speed in Gb/s (R102, R107, R108, R347). -/
def State.portSpeed (s : State) (p : Nat) : Nat :=
  if p < 128 then s.pf Reg.PORT_CFG_WIDTH p * laneRate (s.pf Reg.PORT_CFG_LANE_RATE p)
  else if p = 132 then 200 else if p = 133 then 100 else 0

/-- MAX_FRAME of a port: values above 16,128 act as 16,128; ports beyond the network have 16,128 (R107, R118). -/
def State.maxFrame (s : State) (p : Nat) : Nat :=
  if p < 128 then min 16128 (s.pf Reg.PORT_FRAME_MAX_FRAME p) else 16128

/-- The input of inject ring r: a number of its own beside the ports', since every ring enters as port 132 (R347). -/
def injectInput (r : Nat) : Nat := 192 + r

/-- The logical port by which an input's frames enter. -/
def inputPort (n : Nat) : Nat := if 192 ≤ n then 132 else n

/-- The pipeline of an input (R100, R107, R347). -/
def portPipe (p : Nat) : Nat := if p < 128 then p / 8 else if 192 ≤ p then (p - 192) % 16 else 0

/-- The port's reference clock is present (R455). -/
def State.refOk (s : State) (p : Nat) : Bool := s.pins.sdref.getLsbD (p / 32)

/-- PORT_STAT.LINK_UP of a port that is not held down (R34, R117). -/
def State.linkUp (s : State) (p : Nat) : Bool := s.portRuns p && s.pf Reg.PORT_STAT_LINK_UP p == 1

/-- The port's transmitters are out of electrical idle (R115). -/
def State.txOn (s : State) (p : Nat) : Bool :=
  s.pins.seated && s.pins.seatedQualified && s.portRuns p && s.pf Reg.PORT_CTL_TX_DIS p == 0
    && (!s.protectedPort p || s.owner)

/-- The scheduler treats the port as closed (R117). -/
def State.portClosed (s : State) (p : Nat) : Bool := !(s.linkUp p && s.txOn p)

/-- A lane's transmitter is in electrical idle (R115). -/
def State.laneIdle (s : State) (l : Nat) : Bool :=
  !(s.pins.seated && s.pins.seatedQualified && s.pagePowered (0x48 + l / 32)
    && (match s.portOfLane l with
        | some p => s.txOn p || (s.rdp (0x48 + l / 32) Reg.NSD_PRBS_GEN (l % 32) == 1 && (!s.protectedPort p || s.owner))
        | none => s.rdp (0x48 + l / 32) Reg.NSD_PRBS_GEN (l % 32) == 1))

/-! ## SyncE outputs (R64) -/

/-- Output n is off or squelched. -/
def State.syeSquelched (s : State) (n : Nat) : Bool :=
  let p := s.rdi Reg.SYE_OUT_n_PORT n
  let f := s.rdi Reg.SYE_OUT_n_FREQ n
  128 ≤ p || f == 0 || f == 3 || s.rdi Reg.SYE_OUT_n_SQ_FORCE n == 1 || !s.blkEn 0x15
    || (s.rdi Reg.SYE_OUT_n_SQ_AUTO n == 1 && !s.linkUp p)

/-- Count the outputs that an event squelches (SYE trouble counter 3). -/
def State.syeAfter (s before : State) : State :=
  let t := if !before.syeSquelched 0 && s.syeSquelched 0 then s.trb 0x15 3 else s
  if !before.syeSquelched 1 && s.syeSquelched 1 then t.trb 0x15 3 else t

/-! ## Port state -/

/-- State of a port that has seen nothing. -/
def PortSt.idle : PortSt :=
  { fifo := [], fifoBp := false, admBp := 0, told := 0, pauseUntil := [0, 0, 0, 0, 0, 0, 0, 0] }

/-- MAC and FIFO state of a port. -/
def State.port (s : State) (p : Nat) : PortSt := s.path.ports.get PortSt.idle p

/-- Replace it. -/
def State.setPort (s : State) (p : Nat) (x : PortSt) : State :=
  { s with path := { s.path with ports := s.path.ports.set PortSt.idle p x } }

/-- Take a port's link down, to retrain; a loss counts (R104, R117). -/
def State.portDown (s : State) (p : Nat) : State :=
  let t := ((s.wpf Reg.PORT_STAT_LINK_UP p 0).wpf Reg.PORT_STAT_ALIGNED p 0).wpf Reg.PORT_STAT_FEC_LOCK p 0
  if s.pf Reg.PORT_STAT_LINK_UP p = 1 then (t.ptrb p 6) else t

/-! ## Frames sent by the MAC (R113) -/

/-- The port's PORT_MAC, byte 0 first. -/
def State.portMac (s : State) (p : Nat) : Bytes :=
  toBe 2 (s.pf Reg.PORT_MAC_HI p) ++ toBe 4 (s.pf Reg.PORT_MAC_LO p)

/-- A frame with its FCS. -/
def withFcs (b : Bytes) : Bytes := b ++ toLe 4 (fcs b)

/-- A PAUSE frame (IEEE 802.3). -/
def State.pauseFrame (s : State) (p quanta : Nat) : Bytes :=
  withFcs (padTo 60 ([0x01, 0x80, 0xC2, 0x00, 0x00, 0x01] ++ s.portMac p ++ toBe 2 0x8808 ++ toBe 2 0x0001 ++ toBe 2 quanta))

/-- A PFC frame: the enabled classes, QUANTA for those asserted and 0 for those released (IEEE 802.1Q). -/
def State.pfcFrame (s : State) (p enable asserted quanta : Nat) : Bytes :=
  withFcs (padTo 60 ([0x01, 0x80, 0xC2, 0x00, 0x00, 0x01] ++ s.portMac p ++ toBe 2 0x8808 ++ toBe 2 0x0101 ++ toBe 2 enable
    ++ (List.range 8).flatMap (fun c => toBe 2 (if bitN enable c = 1 ∧ bitN asserted c = 1 then quanta else 0))))

/-- The classes asserted toward the peer: by the FIFO for all, or by admission (R113). -/
def PortSt.asserted (x : PortSt) : Nat := if x.fifoBp then 255 else x.admBp.toNat

/-- The port answers a change of its combined back-pressure (R113). -/
def State.fcUpdate (s : State) (p : Nat) : State :=
  let x := s.port p
  let was := x.told.toNat
  let now := x.asserted
  if was = now then s
  else
    let t := (s.wpf Reg.PORT_STAT_TX_XOFF p now).setPort p { x with told := BitVec.ofNat 8 now }
    let q := s.pf Reg.PORT_FC_QUANTA p
    let mode := s.pf Reg.PORT_FC_TX_MODE p
    if q = 0 ∨ ¬ s.txOn p then t
    else if mode = 1 then
      (if was = 0 then t.emit (.pause p (s.pauseFrame p q)) else if now = 0 then t.emit (.pause p (s.pauseFrame p 0)) else t)
    else if mode = 2 then t.emit (.pause p (s.pfcFrame p (was ^^^ now) now q))
    else t

/-! ## Input FIFO (R110) -/

/-- Bytes of a port's input FIFO: 32 KiB per lane; the pair link has four lanes. -/
def State.fifoSize (s : State) (p : Nat) : Nat :=
  32768 * (if p < 128 then s.pf Reg.PORT_CFG_WIDTH p else 4)

/-- Bytes waiting in a port's input FIFO. -/
def PortSt.fill (x : PortSt) : Nat := (x.fifo.map (fun f => f.bytes.length)).sum

/-- Back-pressure of the FIFO: asserted at 75 %, released at 50 % (R110). -/
def State.fifoLevel (s : State) (p : Nat) : State :=
  let x := s.port p
  let b := if 3 * s.fifoSize p ≤ 4 * x.fill then true else if 2 * x.fill ≤ s.fifoSize p then false else x.fifoBp
  if p < 128 then (s.setPort p { x with fifoBp := b }).fcUpdate p else s

/-- Put a frame into an input FIFO, or drop it at a full one (R110). -/
def State.fifoPut (s : State) (p : Nat) (f : InFrame) : State :=
  let x := s.port p
  if s.fifoSize p < x.fill + f.bytes.length then (if p < 128 then s.ptrb p 11 else s)
  else (s.setPort p { x with fifo := x.fifo ++ [f] }).fifoLevel p

/-! ## Reception (R111, R112, R114) -/

/-- The EtherType after up to two VLAN tags, and its offset. -/
def etherType (b : Bytes) : Nat × Nat :=
  let e := beAt b 12 2
  if e = 0x8100 ∨ e = 0x88A8 then
    let e1 := beAt b 16 2
    if e1 = 0x8100 ∨ e1 = 0x88A8 then (beAt b 20 2, 20) else (e1, 16)
  else (e, 12)

/-- The FCS of a whole frame is wrong (R111). -/
def fcsBad (b : Bytes) : Bool := leAt b (b.length - 4) 4 != fcs (b.take (b.length - 4))

/-- Pause a class for a timer in quanta of 512 bit times (R112). -/
def State.pauseClass (s : State) (p c quanta : Nat) : State :=
  let x := s.port p
  let till := if quanta = 0 then 0 else s.ns * 1000 + quanta * 512000 / max 1 (s.portSpeed p)
  (s.setPort p { x with pauseUntil := setIdx x.pauseUntil c till }).wpf Reg.PORT_STAT_RX_PAUSED p
    (setBit (s.pf Reg.PORT_STAT_RX_PAUSED p) c (quanta != 0))

/-- A MAC control frame (R112). -/
def State.macControl (s : State) (p : Nat) (b : Bytes) : State :=
  let op := beAt b 14 2
  let mode := s.pf Reg.PORT_FC_RX_MODE p
  if mode = 1 ∧ op = 0x0001 then
    ((List.range 8).foldl (fun t c => t.pauseClass p c (beAt b 16 2)) s).ptrb p 9
  else if mode = 2 ∧ op = 0x0101 then
    ((bitsSet (beAt b 16 2) 8).foldl (fun t c => t.pauseClass p c (beAt b (18 + 2 * c) 2)) s).ptrb p 9
  else s.ptrb p 8

/-- T_rx of a frame now: device time plus the port's receive path, in 2^-16 ns (R13, R63). -/
def State.rxStamp (s : State) (p : Nat) : Nat := s.frac + bits (s.time.ptpLat.get 0 p) 15 0 * 256

/-- A time in 2^-16 ns as a 96-bit network time. -/
def fracTo96 (t : Nat) : Nat :=
  (t / 65536 / 1000000000 % 2 ^ 48) * 2 ^ 48 + t / 65536 % 1000000000 * 2 ^ 16 + t % 65536

/-- A PTP event message (messageType 0 or 1) of PTP_CTL.DOMAIN on a clock port, Ethernet-mapped (R50, R63). -/
def State.clockEvent (s : State) (p : Nat) (b : Bytes) : Bool :=
  let e := etherType b
  let d := s.rd Reg.PTP_CTL_DOMAIN
  s.blkEn 0x14 && bitN (s.ptpCfg p) 0 == 1 && e.1 == 0x88F7 && beAt b (e.2 + 2) 1 % 16 ≤ 1
    && beAt b (e.2 + 6) 1 == d && decide (24 ≤ d ∧ d ≤ 43)

/-- An ESMC frame (R52). -/
def isEsmc (b : Bytes) : Bool := beAt b 12 2 == 0x8809 && beAt b 14 1 == 0x0A

/-- A frame that R111 makes a packet: to CORE1 if it is a clock event or ESMC, else into the input FIFO with the class
that the MAC gives eCPRI (R114). -/
def State.frameAccept (s : State) (p : Nat) (b : Bytes) (whole bad : Bool) : State :=
  let t := s.rxStamp p
  let e := etherType b
  if s.clockEvent p b ∧ ¬ bad then
    (s.tsqPush (tsqEntry (fracTo96 t) p (beAt b (e.2 + 2) 1) false (beAt b (e.2 + 32) 2))).emit (.toCore1 p b)
  else if isEsmc b ∧ ¬ bad then s.emit (.toCore1 p b)
  else
    let ec := e.1 == 0xAEFE && s.pf Reg.PORT_ECPRI_EN p == 1
    let f : InFrame := { pid := s.path.nextPid, bytes := b, whole := whole, badFcs := bad,
                         cls := if ec then s.pf Reg.PORT_ECPRI_TC p else 0, ecpri := ec, trx := t, meta16 := 0, direct := none }
    ({ s with path := { s.path with nextPid := s.path.nextPid + 1 } }).fifoPut p f

/-- The MAC's checks of R111, on the bytes present; a frame whose tail is still to come is checked again there. -/
def State.macCheck (s : State) (p : Nat) (b : Bytes) (whole : Bool) : State :=
  if whole ∧ b.length < 64 then s.ptrb p 4
  else if s.maxFrame p < b.length then s.ptrb p 5
  else if whole ∧ fcsBad b then (s.ptrb p 3).frameAccept p b true true
  else if beAt b 12 2 = 0x8808 then (if whole then s.macControl p b else s)
  else s.frameAccept p b whole false

/-- A frame arrives at a network port (R110, R111, R406). -/
def State.frameIn (s : State) (p : Nat) (b : Bytes) (whole : Bool) : State :=
  if ¬ s.linkUp p then s
  else
    let s := s.stat (portPage p) Reg.PORT_RX_FRAMES (p % 16) 1
    if s.forwarding then s.macCheck p b whole else s.trb 0x00 4

/-! ## Commit of a NETPG page (R101 to R105) -/

/-- A lane map is a permutation of 0 to 7 (R105). -/
def isPerm (m : Nat) : Bool :=
  (List.range 8).all (fun v => (List.range 8).any (fun j => bits m (3 * j + 2) (3 * j) == v))

/-- The RWS fields of one port. -/
def portFields : List Fld :=
  [Reg.PORT_CFG_EN, Reg.PORT_CFG_WIDTH, Reg.PORT_CFG_LANE_RATE, Reg.PORT_CFG_FEC, Reg.PORT_FRAME_MAX_FRAME,
   Reg.PORT_FC_RX_MODE, Reg.PORT_FC_TX_MODE, Reg.PORT_FC_QUANTA, Reg.PORT_FC_REFRESH_QUANTA, Reg.PORT_ECPRI_EN,
   Reg.PORT_ECPRI_TC]

/-- Copy one field's staged value to its active copy. -/
def State.commitField (s : State) (pg : Nat) (f : Fld) (i : Nat) : State :=
  match s.regs.staged.lookup (fkey pg f i) with
  | some v => (s.wrp pg f i v).dropStg pg f i
  | none => s

/-- Commit lane j of group g: its staged block, unless invalid or overlapping a lower running port (R103). The second
part lists the lanes taken so far; `okHalf` says that the lane's maps are permutations. -/
def State.commitLane (g : Nat) (okHalf : Nat → Bool) (a : State × List Nat) (j : Nat) : State × List Nat :=
  let s := a.1
  let p := 16 * g + j
  let c := s.portCfgStg p
  let old := s.portCfg p
  let good := !c.defines || (c.ok j && freeLanes a.2 j c.width && okHalf (j / 8))
  if good then
    let t := (portFields.foldl (fun t f => t.commitField (0x40 + g) f j) s).wpf Reg.PORT_STAT_CFG_BAD p 0
    let t := if c = old then t else t.portDown p
    (t, if c.defines then a.2 ++ (List.range c.width).map (fun k => j + k) else a.2)
  else
    ((s.wpf Reg.PORT_STAT_CFG_BAD p 1).ptrb p 10,
     if old.defines ∧ old.ok j ∧ freeLanes a.2 j old.width then a.2 ++ (List.range old.width).map (fun k => j + k) else a.2)

/-- Commit one lane map of a half; a map that is no permutation stays as it was (R105). Ports whose lanes move retrain
(R104). -/
def State.commitMap (s : State) (g h : Nat) (f : Fld) : State :=
  let m := s.stgp (0x40 + g) f h
  let old := s.rdp (0x40 + g) f h
  if isPerm m then
    let moved := (List.range 8).filter (fun j => bits m (3 * j + 2) (3 * j) != bits old (3 * j + 2) (3 * j))
    let ports := (s.groupPorts g).filter (fun q => moved.any (fun j => q.1 ≤ 16 * g + 8 * h + j && 16 * g + 8 * h + j < q.1 + q.2))
    ports.foldl (fun t q => t.portDown q.1) (s.commitField (0x40 + g) f h)
  else s

/-- The commit of NETPG g (R103 to R105). -/
def State.netpgCommit (s : State) (g : Nat) : State :=
  let okHalf := fun h => isPerm (s.stgp (0x40 + g) Reg.NETPG_RXMAP_h_L h) && isPerm (s.stgp (0x40 + g) Reg.NETPG_TXMAP_h_L h)
  let s := (((s.commitMap g 0 Reg.NETPG_RXMAP_h_L).commitMap g 1 Reg.NETPG_RXMAP_h_L).commitMap g 0
    Reg.NETPG_TXMAP_h_L).commitMap g 1 Reg.NETPG_TXMAP_h_L
  ((List.range 16).foldl (State.commitLane g okHalf) (s, [])).1

/-! ## Meanings -/

/-- FRAME_RECEIVED (R110, R111, R114). -/
def execFrameReceived (port : Nat) (b : Bytes) (whole : Bool) (s : State) : Host.Outcome State Fault Refusal :=
  .next (if port < 128 then s.frameIn port b whole else s)

/-- MAC_CONTROL_FRAME (R112). -/
def execMacControlFrame (port : Nat) (b : Bytes) (s : State) : Host.Outcome State Fault Refusal :=
  .next (if port < 128 ∧ s.linkUp port ∧ s.forwarding then s.macControl port b else s)

/-- PAUSE_TIMER_EXPIRE: the timer of a paused class has run out (R112), at the device time that the pause stored. -/
def execPauseTimerExpire (port cls : Nat) (s : State) : Host.Outcome State Fault Refusal :=
  .next (if port < 128 ∧ cls < 8 ∧ bitN (s.pf Reg.PORT_STAT_RX_PAUSED port) cls = 1 ∧
        (s.port port).pauseUntil.getD cls 0 ≤ s.ns * 1000 then
      let x := s.port port
      (s.setPort port { x with pauseUntil := setIdx x.pauseUntil cls 0 }).wpf Reg.PORT_STAT_RX_PAUSED port
        (setBit (s.pf Reg.PORT_STAT_RX_PAUSED port) cls false)
    else s)

/-- FC_REFRESH: REFRESH quanta have passed while a class is asserted (R113). -/
def execFcRefresh (port : Nat) (s : State) : Host.Outcome State Fault Refusal :=
  let a := (s.port port).asserted
  let q := s.pf Reg.PORT_FC_QUANTA port
  .next (if port < 128 ∧ a ≠ 0 ∧ q ≠ 0 ∧ s.pf Reg.PORT_FC_REFRESH_QUANTA port ≠ 0 ∧ s.txOn port then
      if s.pf Reg.PORT_FC_TX_MODE port = 1 then s.emit (.pause port (s.pauseFrame port q))
      else if s.pf Reg.PORT_FC_TX_MODE port = 2 then s.emit (.pause port (s.pfcFrame port a a q))
      else s
    else s)

/-- The PCS state of a running port changes (R117, R52, R64). -/
def State.linkChange (s : State) (p : Nat) (aligned fecLock lf rf : Bool) : State :=
  let up := aligned && (fecLock || s.pf Reg.PORT_CFG_FEC p == 0) && !lf && s.refOk p
  let t := ((((s.wpf Reg.PORT_STAT_ALIGNED p (b01 aligned)).wpf Reg.PORT_STAT_FEC_LOCK p (b01 fecLock)).wpf
    Reg.PORT_STAT_LOCAL_FAULT p (b01 lf)).wpf Reg.PORT_STAT_REMOTE_FAULT p (b01 rf)).wpf Reg.PORT_STAT_LINK_UP p (b01 up)
  let t := if s.pf Reg.PORT_STAT_LINK_UP p = 1 ∧ ¬ up then t.ptrb p 6 else t
  let lanes := (List.range (s.pf Reg.PORT_CFG_WIDTH p)).map (fun k => p + k)
  lanes.foldl (fun t l => ((t.wrp (0x48 + l / 32) Reg.NSD_RX_SIG_DET (l % 32) (b01 aligned)).wrp (0x48 + l / 32)
    Reg.NSD_RX_CDR_LOCK (l % 32) (b01 aligned)).wrp (0x48 + l / 32) Reg.NSD_RX_ADAPT_DONE (l % 32) (b01 aligned)) t

/-- LINK_STATE_CHANGE (R117, R64). -/
def execLinkStateChange (port : Nat) (aligned fecLock localFault remoteFault : Bool) (s : State) :
    Host.Outcome State Fault Refusal :=
  .next (if s.portRuns port then (s.linkChange port aligned fecLock localFault remoteFault).syeAfter s else s)

/-- NSD_PRBS of a lane; the read clears ERR (R119). -/
def State.prbsTake (s : State) (pg lane : Nat) : Nat × State :=
  (s.rdp pg Reg.NSD_PRBS_PATTERN lane + 4 * s.rdp pg Reg.NSD_PRBS_GEN lane + 8 * s.rdp pg Reg.NSD_PRBS_CHK lane
    + 65536 * s.rdp pg Reg.NSD_PRBS_ERR lane, s.wrp pg Reg.NSD_PRBS_ERR lane 0)

/-- PRBS_ERR_READ (R119). -/
def execPrbsErrRead (m : Master) (page lane : Nat) (s : State) : Host.Outcome State Fault Refusal :=
  .next (if 0x48 ≤ page ∧ page ≤ 0x4B ∧ lane < 32 then
      s.onRead m page (0x108 + 0x10 * lane) (fun t => t.prbsTake page lane)
    else s)

/-- The links of the ports of a reference clock that has gone. -/
def State.refLost (s : State) (k : Nat) : State :=
  ((s.groupPorts (2 * k)) ++ (s.groupPorts (2 * k + 1))).foldl (fun t q => t.portDown q.1) s

end Sys2Proof.Machine
end

