-- ==== Sys2Proof/Machine/Parser.lean ====
section
/-! DEFINITION. Parser: the parse graph and its walk (R121 to R132), and the report of a table entry's parity error. -/
namespace Sys2Proof.Machine

/-! ## Parity errors in tables (R189, R438) -/

/-- An entry fails its check. -/
def badCell (bad : List BadCell) (arr : MemArr) (sub idx : Nat) : Bool := bad.contains ⟨arr, sub, idx⟩

/-- A locator on a die: the spec gives no packing of tables into macros, so all but die and bit are free values. -/
def State.freeLocator (s : State) (die : Nat) : Nat := die * 2 ^ 60 + s.freeNat % 2 ^ 52 * 2 ^ 8

/-- Report a parity error of page `pg` in its trouble counter k (R438). -/
def State.parityError (s : State) (pg k die : Nat) : State := s.draw.memUncorrectable pg k (s.freeLocator die)

/-! ## Entry formats (R124, R125) -/

/-- A state is a case state. -/
def isCase (w : Nat) : Bool := bitN w 63 == 1

/-- The 32-bit big-endian word at a place; bytes beyond the string read as 0. -/
def word32 (b : Bytes) (off : Nat) : Nat := be (padTo 4 (sl b off 4))

/-- A header length and a case match. -/
def caseMatches (c key : Nat) : Bool := key / 2 ^ bits c 37 32 == bits c 31 0 / 2 ^ bits c 37 32

/-- The first matching case of a header state: its next state and its MARK. -/
def firstCase (g : List Nat) (key s : Nat) (n i : Nat) : Option (Nat × Nat) :=
  match n with
  | 0 => none
  | k + 1 =>
    let c := g.getD (s + i) 0
    if caseMatches c key then some (bits c 62 53, bits c 40 38) else firstCase g key s k (i + 1)

/-! ## The walk (R128) -/

/-- Why a walk stops. -/
inductive Stop where
  | inc (code : Nat)
  | mal (code : Nat)
  deriving DecidableEq, Repr

/-- What a walk reads: bytes, P where known, and the window (R121, R122). -/
structure Window where
  b : Bytes
  p : Option Nat
  win : Nat
  deriving DecidableEq, Repr

/-- A walk in progress. -/
structure Walk where
  s : Nat
  cur : Nat
  level : Nat
  visits : Nat
  bound : Option Nat
  marked : Bool
  r : ParseRes
  deriving DecidableEq, Repr

/-- The parse result of an empty walk. -/
def ParseRes.empty : ParseRes :=
  { insts := [], stop := 0, inc := 0, mal := 0, fragFirst := false, fragLater := false, ecpri := false, kept := none,
    markInst := none, state := 0 }

/-- Reading the byte at a place: none, or what stops the walk (R128 step 5). -/
def Window.reach (w : Window) (pos : Nat) : Option Stop :=
  if (match w.p with | some p => decide (p ≤ pos) | none => false) then some (.mal 1)
  else if w.win ≤ pos then some (.inc 1) else none

/-- Instance limits (R130, step 4). -/
def Walk.limits (w : Walk) (ht level : Nat) : Option Stop :=
  if ht = 0 then none
  else if 32 ≤ w.r.insts.length then some (.inc 2)
  else if ht = 2 ∧ 4 ≤ (w.r.insts.filter (fun i => i.type == 2 && i.level == level)).length then some (.inc 4)
  else if ht = 3 ∧ 16 ≤ (w.r.insts.filter (fun i => i.type == 3)).length then some (.inc 5)
  else none

/-- The last byte that holds key bits or the length field of a header state at a cursor, plus one; 0 where none does. -/
def needBytes (h cur : Nat) : Nat :=
  max (if bits h 29 24 = 0 then 0 else cur + bits h 40 35 + 4 - bits h 34 30 / 8)
    (if bits h 23 22 = 1 ∧ bits h 12 9 ≠ 0 then cur + bits h 21 16 + 1 else 0)

/-- The key of a header state at a cursor (R124). -/
def stateKey (b : Bytes) (h cur : Nat) : Nat :=
  word32 b (cur + bits h 40 35) / 2 ^ bits h 34 30 % 2 ^ bits h 29 24

/-- The header length (R124). -/
def stateLen (b : Bytes) (h cur : Nat) : Nat :=
  bits h 6 1 + (if bits h 23 22 = 1 then beAt b (cur + bits h 21 16) 1 / 2 ^ bits h 15 13 % 2 ^ bits h 12 9 * 2 ^ bits h 8 7 else 0)

/-- The declared end of a CHECK at a cursor (R131). -/
def declaredEnd (b : Bytes) (check cur : Nat) : Nat :=
  if check = 1 then cur + beAt b (cur + 2) 2
  else if check = 2 then cur + 40 + beAt b (cur + 4) 2
  else cur + beAt b (cur + 4) 2

/-- A CHECK against its own fields alone (R131: IPV4_HDR, and UDP_LEN below 8). -/
def checkOwn (b : Bytes) (check cur : Nat) : Option Stop :=
  if check = 1 ∧ (beAt b cur 1 % 16 < 5 ∨ beAt b (cur + 2) 2 < 4 * (beAt b cur 1 % 16)) then some (.mal 3)
  else if check = 3 ∧ beAt b (cur + 4) 2 < 8 then some (.mal 5)
  else none

/-- A CHECK's declared end against a bound (R131: IP_LEN, UDP_LEN, SURPLUS); `frameEnd` says that the bound is the end of
a 64-byte frame. -/
def checkBound (check declared bound : Nat) (frameEnd : Bool) : Option Stop :=
  if bound < declared then some (.mal (if check = 3 then 5 else 2))
  else if check ≠ 3 ∧ declared + 32 < bound ∧ ¬ frameEnd then some (.mal 4)
  else none

/-- Step 7, CHECK: what stops the walk, or the new bound and the kept end (R131, R132). -/
def Walk.check (k : Walk) (w : Window) (check : Nat) : Stop ⊕ Walk :=
  if check = 0 then .inr k
  else
    match w.reach (k.cur + if check = 1 then 3 else 5) with
    | some st => .inl st
    | none =>
      match checkOwn w.b check k.cur with
      | some st => .inl st
      | none =>
        let d := declaredEnd w.b check k.cur
        match k.bound with
        | none => .inr { k with bound := some d, r := { k.r with kept := some (check, k.cur, d) } }
        | some bd =>
          match checkBound check d bd (decide (w.p = some 60 ∧ bd = 60)) with
          | some st => .inl st
          | none => .inr { k with bound := some d }

/-- Step 7, the SRH checks: SRH_LEN, then SIDS (R130, R131). -/
def srhCheck (w : Window) (ht cur : Nat) : Option Stop :=
  if ht ≠ 8 then none
  else
    match w.reach (cur + 4) with
    | some st => some st
    | none =>
      if 8 + 8 * beAt w.b (cur + 1) 1 < 8 + 16 * (beAt w.b (cur + 4) 1 + 1) then some (.mal 8)
      else if 16 ≤ beAt w.b (cur + 4) 1 then some (.inc 6) else none

/-- Step 8, the header end. -/
def headerEnd (w : Window) (bound : Option Nat) (e : Nat) : Option Stop :=
  if (match w.p with | some p => decide (p < e) | none => false) then some (.mal 1)
  else if (match bound with | some bd => decide (bd < e) | none => false) then some (.mal 6)
  else if w.win < e then some (.inc 1) else none

/-- The result of a walk that stops at a state. -/
def Walk.stopAt (k : Walk) (st : Stop) : ParseRes :=
  match st with
  | .inc c => { k.r with inc := c, stop := k.cur, state := k.s }
  | .mal c => { k.r with mal := c, stop := k.cur, state := k.s }

/-- Steps 9 and 10 for a header state: record, match, go on; a finished walk or the next one. -/
def Walk.advance (k : Walk) (g : List Nat) (w : Window) (h : Nat) : ParseRes ⊕ Walk :=
  let ht := bits h 46 41
  let inst : HdrInst := { type := ht, off := k.cur, level := k.level }
  let r := if ht = 0 then k.r else { k.r with insts := k.r.insts ++ [inst] }
  if ht = 20 then .inl { r with stop := k.cur, state := k.s }
  else
    let m := firstCase g (stateKey w.b h k.cur) k.s (bits h 52 49) 1
    let next := match m with | some (n, _) => n | none => bits h 62 53
    let mark := match m with | some (_, x) => x | none => 0
    let r := if mark ≠ 0 ∧ ¬ k.marked then
        { r with fragFirst := mark == 1, fragLater := mark == 2, markInst := some inst }
      else r
    let cur := k.cur + stateLen w.b h k.cur
    if next = 0 then .inl { r with stop := cur, state := k.s }
    else .inr { k with s := next, cur := cur, marked := k.marked || mark != 0, r := r }

/-- One header-state visit: steps 1 to 10 of R128. `bad` lists states whose parity check fails. -/
def Walk.visit (k : Walk) (g : List Nat) (bad : List BadCell) (w : Window) : ParseRes ⊕ Walk :=
  let h := g.getD k.s 0
  let k := { k with visits := k.visits + 1 }
  let ht := bits h 46 41
  if badCell bad .state 0 k.s then .inl (k.stopAt (.inc 9))
  else if 96 < k.visits then .inl (k.stopAt (.inc 7))
  else if bitN h 0 = 1 ∧ 3 ≤ k.level then .inl (k.stopAt (.inc 3))
  else
    let k := { k with level := k.level + bitN h 0 }
    match k.limits ht k.level with
    | some st => .inl (k.stopAt st)
    | none =>
      let need := needBytes h k.cur
      match if need = 0 then none else w.reach (need - 1) with
      | some st => .inl (k.stopAt st)
      | none =>
        if bits h 23 22 = 1 ∧ ht ≠ 0 ∧ stateLen w.b h k.cur = 0 then .inl (k.stopAt (.mal 7))
        else
          match k.check w (bits h 48 47) with
          | .inl st => .inl (k.stopAt st)
          | .inr k =>
            match srhCheck w ht k.cur with
            | some st => .inl (k.stopAt st)
            | none =>
              match headerEnd w k.bound (k.cur + stateLen w.b h k.cur) with
              | some st => .inl (k.stopAt st)
              | none => k.advance g w h

/-- The walk: at most 97 visits (R130). -/
def Walk.go (fuel : Nat) (g : List Nat) (bad : List BadCell) (w : Window) (k : Walk) : ParseRes :=
  match fuel with
  | 0 => k.stopAt (.inc 7)
  | n + 1 =>
    match k.visit g bad w with
    | .inl r => r
    | .inr k => Walk.go n g bad w k

/-- Walk a graph from a start state (R123, R128). -/
def parseWalk (g : List Nat) (bad : List BadCell) (w : Window) (start : Nat) (ecpri : Bool) : ParseRes :=
  let r := { ParseRes.empty with ecpri := ecpri }
  if g.isEmpty then r
  else if g.length ≤ start ∨ isCase (g.getD start 0) then { r with inc := 8, state := start }
  else Walk.go 97 g bad w { s := start, cur := 0, level := 0, visits := 0, bound := w.p, marked := false, r := r }

/-- The window of a pass (R121, R122). -/
def parseWindow (b : Bytes) (p : Option Nat) : Window :=
  { b := b.take 384, p := p, win := match p with | some n => min n 384 | none => 384 }

/-- Record how a walk stopped (R139): PRS_LAST_INC, PRS_LAST_MAL, counters, a parity report. -/
def State.parseReport (s : State) (port : Nat) (r : ParseRes) : State :=
  let s := if r.inc ≠ 0 then
      (((s.wr Reg.PRS_LAST_INC_REASON r.inc).wr Reg.PRS_LAST_INC_PORT port).wr Reg.PRS_LAST_INC_STATE r.state).stat 0x30
        Reg.PRS_INCOMPLETE 0 1
    else s
  let s := if r.inc = 9 then (s.parityError 0x30 8 0).evt 0x30 0 else s
  if r.mal ≠ 0 then
    ((((s.wr Reg.PRS_LAST_MAL_REASON r.mal).wr Reg.PRS_LAST_MAL_PORT port).wr Reg.PRS_LAST_MAL_OFFSET r.stop).wr
      Reg.PRS_LAST_MAL_TAIL 0).stat 0x30 Reg.PRS_MALFORMED 0 1
  else s

/-! ## The tail (R132) -/

/-- The kept CHECK against P: the defect's code, or 0. -/
def tailDefect (kept : Option (Nat × Nat × Nat)) (p : Nat) : Nat :=
  match kept with
  | none => 0
  | some (check, _, d) => if p < d then (if check = 3 then 5 else 2) else if check ≠ 3 ∧ d + 32 < p then 4 else 0

/-- Record a defect found at the tail (R132, R139). -/
def State.tailReport (s : State) (port : Nat) (kept : Option (Nat × Nat × Nat)) (code : Nat) : State :=
  let off := match kept with | some (_, o, _) => o | none => 0
  (((((s.trb 0x30 7).evt 0x30 1).wr Reg.PRS_LAST_MAL_REASON code).wr Reg.PRS_LAST_MAL_PORT port).wr
    Reg.PRS_LAST_MAL_OFFSET off).wr Reg.PRS_LAST_MAL_TAIL 1 |>.stat 0x30 Reg.PRS_TAIL_BAD 0 1

/-! ## Instances -/

/-- The first instance of a type at a level. -/
def firstInst (l : List HdrInst) (types : List Nat) (level : Nat) : Option HdrInst :=
  l.find? (fun i => types.contains i.type && i.level == level)

/-- The IPv4 or IPv6 instances. -/
def ipInsts (l : List HdrInst) : List HdrInst := l.filter (fun i => i.type == 4 || i.type == 5)

/-- The last IPv4 or IPv6 instance at the deepest level that holds one (R147, R185). -/
def deepIp (l : List HdrInst) : Option HdrInst :=
  let ips := ipInsts l
  let deep := (ips.map HdrInst.level).foldl max 0
  (ips.filter (fun i => i.level == deep)).getLast?

/-- The instances recorded after one. -/
def instsAfter (l : List HdrInst) (x : HdrInst) : List HdrInst := (l.dropWhile (fun i => i != x)).drop 1

/-- The first UDP or TCP instance after an IP instance. -/
def l4After (l : List HdrInst) (x : HdrInst) : Option HdrInst :=
  (instsAfter l x).find? (fun i => i.type == 11 || i.type == 12)

/-- L3_OFS: the first instance that is neither Ethernet nor a VLAN tag at level 0; END with none (R159, log entry 15). -/
def l3Ofs (r : ParseRes) : Nat :=
  match r.insts.find? (fun i => !((i.type == 1 || i.type == 2) && i.level == 0)) with
  | some i => i.off
  | none => r.stop

/-- The egress key: TOS, PROTO, L4_DPORT (R147). -/
def egressKey (b : Bytes) (r : ParseRes) : Option Nat × Option Nat × Option Nat :=
  match deepIp r.insts with
  | none => (none, none, none)
  | some i =>
    let dport := (l4After r.insts i).map (fun u => beAt b (u.off + 2) 2)
    if i.type = 4 then (some (beAt b (i.off + 1) 1), some (beAt b (i.off + 9) 1), dport)
    else (some (beAt b i.off 2 / 16 % 256), some (beAt b (i.off + 6) 1), dport)

end Sys2Proof.Machine
end

