-- ==== Sys2Proof/Machine/Nodes.lean ====
section
/-! DEFINITION. Nodes: the scheduling hierarchy, its maps and shapers, policers (R234, R235, R241, R245 to R250). -/
namespace Sys2Proof.Machine

/-! ## Maps (R234) -/

/-- Reset content of the S-node map. -/
def snReset (n : Nat) : Nat := 2 ^ 31 + n / 8

/-- Reset content of the A-node map. -/
def anReset (a : Nat) : Nat := if a < 5120 then 2 ^ 31 + a / 32 else 0

/-- The active map entry of an S-node. -/
def State.snEntry (s : State) (n : Nat) : Nat := s.tab.snAct.get (snReset n) n

/-- The active map entry of an A-node. -/
def State.anEntry (s : State) (a : Nat) : Nat := s.tab.anAct.get (anReset a) a

/-- The path of an S-node: its A-node and port, if both entries are valid. -/
def State.snPath (s : State) (n : Nat) : Option (Nat × Nat) :=
  let e := s.snEntry n
  let a := bits e 12 0
  if n < 65536 ∧ bitN e 31 = 1 ∧ bitN (s.anEntry a) 31 = 1 then some (a, bits (s.anEntry a) 7 0) else none

/-- The S-node's path ends at a port. -/
def State.leadsTo (s : State) (n port : Nat) : Bool :=
  match s.snPath n with
  | some (_, p) => p == port
  | none => false

/-- The egress queue of a packet for a port and class, and whether SNODE_BASE stood in; none for want of a path (R235). -/
def State.chooseQueue (s : State) (port cls meta16 : Nat) : Option (Nat × Bool) :=
  let base := s.rdi Reg.QM_PORT_p_SNODE_BASE port
  let n := base + (meta16 &&& s.rdi Reg.QM_PORT_p_MASK_MASK port)
  if n ≤ 65535 ∧ s.leadsTo n port then some (8 * n + cls, false)
  else if s.leadsTo base port then some (8 * base + cls, true) else none

/-! ## Buckets (R245, R247): tokens in 1/(8·10^6) byte, so that a rate in kb/s gains rate tokens a nanosecond -/

/-- Tokens in a byte. -/
def tokPerByte : Nat := 8000000

/-- A configuration half: CIR, PIR, CBS, PBS, capped (R245). -/
structure Rates where
  cir : Nat
  pir : Nat
  cbs : Nat
  pbs : Nat
  deriving DecidableEq, Repr

/-- The reset content of a shaper half. -/
def shaperReset : Nat := 1600000000 + 1600000000 * 2 ^ 32 + 65536 * 2 ^ 64 + 65536 * 2 ^ 96

/-- A half as rates. -/
def ratesOf (w : Nat) : Rates :=
  { cir := min (bits w 31 0) 1600000000, pir := min (bits w 63 32) 1600000000, cbs := min (bits w 95 64) 16777216,
    pbs := min (bits w 127 96) 16777216 }

/-- A bucket after `ns` nanoseconds; one of rate or burst 0 holds nothing (R247). -/
def refill (rate burst : Nat) (tok : Int) (ns : Nat) : Int :=
  if rate = 0 ∨ burst = 0 then 0 else min ((burst * tokPerByte : Nat) : Int) (tok + (rate * ns : Nat))

/-- The active half of a shaper. -/
def State.shaper (s : State) (i : Nat) : Rates := ratesOf (s.tab.shpAct.get shaperReset i)

/-- Full buckets. -/
def Rates.full (r : Rates) : Int × Int :=
  ((if r.cir = 0 then 0 else ((r.cbs * tokPerByte : Nat) : Int)), (if r.pir = 0 then 0 else ((r.pbs * tokPerByte : Nat) : Int)))

/-- Shapers act: an idle SHP lets every node act as though both its buckets held tokens, and neither charges nor refills
them (R34). -/
def State.shaping (s : State) : Bool := s.blkEn 0x54

/-- The buckets of a shaper now; one never charged since its restore is full. -/
def State.shaperTok (s : State) (i : Nat) : Int × Int :=
  let r := s.shaper i
  match s.tab.shpTok.lookup i with
  | none => r.full
  | some (c, p, t) =>
    let ns := if s.shaping then s.ns - t else 0
    (refill r.cir r.cbs c ns, refill r.pir r.pbs p ns)

/-- Store a shaper's buckets as of now. -/
def State.setShaperTok (s : State) (i : Nat) (c p : Int) : State :=
  { s with tab := { s.tab with shpTok := s.tab.shpTok.insert i (c, p, s.ns) } }

/-- Every charged bucket as of now, before refilling starts or stops (R34). -/
def State.shapersSettle (s : State) : State :=
  s.tab.shpTok.foldl (fun t e => t.setShaperTok e.1 (s.shaperTok e.1).1 (s.shaperTok e.1).2) s

/-- Shaper indices of an S-node's path: S-node, A-node, port (R245). -/
def State.aboveIdx (s : State) (n : Nat) : List Nat :=
  match s.snPath n with
  | some (a, p) => [524288 + n, 589824 + a, 598016 + p]
  | none => []

/-- P > 0 at every node of a list. -/
def State.peakOk (s : State) (bad : List BadCell) (l : List Nat) : Bool :=
  !s.shaping || l.all (fun i => decide (0 < (s.shaperTok i).2) && !badCell bad .shaper 0 i)

/-- C > 0 at every node of a list. -/
def State.commOk (s : State) (l : List Nat) : Bool := !s.shaping || l.all (fun i => decide (0 < (s.shaperTok i).1))

/-- The charge of a packet of P bytes at a port (R247). -/
def State.charge (s : State) (port p : Nat) : Nat :=
  max 1 (max ((p : Int) + 4 + toSigned 8 (s.rdi Reg.SHP_PORT_p_OVERHEAD port)).toNat (16 * s.rdi Reg.SHP_PORT_p_MIN port))

/-- Charge bytes to the nodes of a list. -/
def State.chargeNodes (s : State) (l : List Nat) (w : Nat) : State :=
  if s.shaping then
    l.foldl (fun t i =>
      let k := t.shaperTok i
      t.setShaperTok i (k.1 - (w * tokPerByte : Nat)) (k.2 - (w * tokPerByte : Nat))) s
  else s

/-! ## Policers (R248, R249) -/

/-- The rates of a policer: CIR, PIR/EIR, CBS, PBS/EBS. -/
def policerRates (w : Nat) : Rates :=
  { cir := min (bits w 63 32) 1600000000, pir := min (bits w 95 64) 1600000000, cbs := min (bits w 127 96) 16777216,
    pbs := min (bits w 159 128) 16777216 }

/-- The buckets of a policer now. -/
def State.policerTok (s : State) (i : Nat) : Int × Int :=
  let r := policerRates (s.tab.polCfg.get 0 i)
  match s.tab.polTok.lookup i with
  | none => r.full
  | some (c, p, t) => (refill r.cir r.cbs c (s.ns - t), refill r.pir r.pbs p (s.ns - t))

/-- The rows of R249: color, and whether Tc and Tx are charged. `aware` green is 0, yellow 1, red 2. -/
def meterColor (mode : Nat) (color : Nat) (tc tx b : Int) : Nat × Bool × Bool :=
  if color = 2 then (2, false, false)
  else if mode = 1 then
    (if tx < b then (2, false, false) else if color = 1 ∨ tc < b then (1, false, true) else (0, true, true))
  else if color = 0 ∧ b ≤ tc then (0, true, false)
  else if b ≤ tx then (1, false, true) else (2, false, false)

/-- Meter B bytes with policer i: the color, and whether the packet is dropped red (R248, R249, R34). -/
def State.police (s : State) (i color b : Nat) : State × Nat × Bool :=
  let w := s.tab.polCfg.get 0 i
  let mode := bits w 1 0
  if mode = 0 ∨ mode = 3 ∨ ¬ s.blkEn 0x55 then (s, color, false)
  else
    let s := s.drqSomewhere 4 0x0040000000 0x03000000 32 false
    let k := s.policerTok i
    let n : Int := ((b * tokPerByte : Nat) : Int)
    let r := meterColor mode (if bitN w 2 = 1 then color else 0) k.1 k.2 n
    let c := if r.2.1 then k.1 - n else k.1
    let p := if r.2.2 then k.2 - n else k.2
    let s := { s with tab := { s.tab with polTok := s.tab.polTok.insert i (c, p, s.ns) } }
    let s := s.drqSomewhere 4 0x0040000000 0x03000000 16 true
    if r.1 = 0 then (s.stat 0x55 Reg.POL_GREEN 0 1, 0, false)
    else if r.1 = 1 then (s.stat 0x55 Reg.POL_YELLOW 0 1, 1, false)
    else
      let s := s.stat 0x55 Reg.POL_RED 0 1
      if bitN w 3 = 1 then ((s.stat 0x55 Reg.POL_RED_DROPS 0 1).trb 0x55 4, 2, true) else (s, 2, false)

/-- A policer whose entry fails its check passes the packet; its state is then rewritten full (R250). -/
def State.policeError (s : State) (i : Nat) : State :=
  let s := (s.parityError 0x55 3 2).wr Reg.POL_LAST_ERR_INDEX i
  { s with tab := { s.tab with polTok := s.tab.polTok.erase i } }

end Sys2Proof.Machine
end

