-- ==== Sys2Proof/Machine/Lookup.lean ====
section
/-! DEFINITION. Lookup: routes, exact match, Layer 2, next hops, ECMP, the flow hash and learning requests (R164 to R193). -/
namespace Sys2Proof.Machine

/-! ## Results -/

/-- The decision that a pass starts with (R152). -/
def Decision.start (cls meta16 : Nat) (tmpl : Option Nat) (color : Nat) : Decision :=
  { destKind := 0, dest := 0, drop := false, recirc := false, punt := none, mirror := none, cls := cls, color := color,
    policer := none, counter := none, tmpl := tmpl, metadata := meta16, adj := none, incRule := false, l2 := none }

/-- Set the destination; an earlier next hop's adjacency goes with the earlier destination. -/
def Decision.setDest (d : Decision) (kind idx : Nat) : Decision := { d with destKind := kind, dest := idx, adj := none }

/-- DROP, once set, stays set (R152). -/
def Decision.setDrop (d : Decision) : Decision := { d with drop := true }

/-! ## Device and ports -/

/-- The device ID (R17); with STRAP[5] its member bits are STRAP[4:0] (R287). -/
def State.devId (s : State) : Nat :=
  if s.pins.straps.getLsbD 5 then s.rd Reg.FAB_ID_ID / 32 * 32 + s.pins.straps.toNat % 32 else s.rd Reg.FAB_ID_ID

/-- The system port ID of a local port (R17). -/
def State.sysPort (s : State) (port : Nat) : Nat := s.devId * 256 + port

/-! ## Banks by generation (R12, R73) -/

/-- The body of the bank that a sampled generation names: the active one or the retiring one. -/
def Banked.at {α : Type} (b : Banked α) (gen : Nat) : α :=
  match b.retiring with
  | some (r, _) => if r.gen = gen ∧ b.active.gen ≠ gen then r.body else b.active.body
  | none => b.active.body

/-! ## Routes (R167 to R172) -/

/-- What a route lookup found: a result (KIND, INDEX), a miss, and an error: its kind (R190) and index. -/
structure RouteRes where
  hit : Option (Nat × Nat)
  err : Nat
  idx : Nat
  deriving DecidableEq, Repr

/-- Bits pos to pos + n − 1 of an address, from its high end; bits beyond it read as 0. -/
def addrBits (addr width pos n : Nat) : Nat := addr * 2 ^ 160 / 2 ^ (width + 160 - pos - n) % 2 ^ n

/-- Ones among the bits of v below bit k. -/
def onesBelow (v k : Nat) : Nat := (bitsSet v k).length

/-- The longest prefix of a node that matches its stride value: its place in INT (R171). -/
def intMatch (node n b : Nat) (l : Nat) : Option Nat :=
  match l with
  | 0 => none
  | k + 1 => if bitN node (2 ^ k - 1 + b / 2 ^ (n - k)) = 1 then some (2 ^ k - 1 + b / 2 ^ (n - k)) else intMatch node n b k

/-- A walk of the trie from a node: `hbm` says which section holds it, `best` the result so far (R171, R189). -/
def trieWalk (fuel : Nat) (img : LpmImage) (bad : List BadCell) (addr width : Nat) (hbm : Bool) (idx pos : Nat)
    (best : Option (Nat × Nat)) : RouteRes :=
  match fuel with
  | 0 => { hit := none, err := 3, idx := idx }
  | k + 1 =>
    if hbm ∧ badCell bad .lpmHbm 0 idx then { hit := none, err := 4, idx := idx }
    else if ¬ hbm ∧ badCell bad .lpmNode 0 idx then { hit := none, err := 1, idx := idx }
    else
      let node := (if hbm then img.hbmNodes else img.nodes).getD idx 0
      let n := bits node 253 251
      let b := addrBits addr width pos n
      let m := intMatch node n b n
      let ri := bits node 223 200 + (match m with | some i => onesBelow (bits node 62 0) i | none => 0)
      if m.isSome ∧ badCell bad .lpmResult 0 ri then { hit := none, err := 2, idx := ri }
      else
        let r := img.results.getD ri 0
        let best := if m.isSome then some (bits r 31 30, bits r 19 0) else best
        if bitN node (64 + b) = 0 then { hit := best, err := 0, idx := 0 }
        else
          trieWalk k img bad addr width (bitN node 250 == 1) (bits node 249 224 + onesBelow (bits node 127 64) b) (pos + n) best

/-- A route lookup (R171): family by `v6`. -/
def routeLookup (img : LpmImage) (bad : List BadCell) (v6 : Bool) (vrf addr : Nat) : RouteRes :=
  let root := (if v6 then img.roots6 else img.roots4).getD vrf 0
  if bitN root 31 = 0 then { hit := none, err := 0, idx := 0 }
  else trieWalk 24 img bad addr (if v6 then 128 else 32) false (bits root 23 0) 0 none

/-- The HBM nodes that a walk visits (R165, R171). -/
def hbmVisits (fuel : Nat) (img : LpmImage) (addr width : Nat) (hbm : Bool) (idx pos : Nat) : List Nat :=
  match fuel with
  | 0 => []
  | k + 1 =>
    let node := (if hbm then img.hbmNodes else img.nodes).getD idx 0
    let n := bits node 253 251
    let b := addrBits addr width pos n
    let rest := if bitN node (64 + b) = 0 then []
      else hbmVisits k img addr width (bitN node 250 == 1) (bits node 249 224 + onesBelow (bits node 127 64) b) (pos + n)
    if hbm then idx :: rest else rest

/-- The HBM reads of a route lookup in MAXIMAL: one 32-byte read for each HBM node visited (R165, R205, R322). The address of
a node within the two banks' ranges is free: which of them is active is not stated (log entry 24). -/
def State.routeReads (s : State) (img : LpmImage) (v6 : Bool) (vrf addr : Nat) : State :=
  let root := (if v6 then img.roots6 else img.roots4).getD vrf 0
  if s.rd Reg.LPM_STAT_PROFILE ≠ 2 ∨ bitN root 31 = 0 then s
  else
    (hbmVisits 24 img addr (if v6 then 128 else 32) false (bits root 23 0) 0).foldl
      (fun t i => t.draw.drqAccess 3 (t.freeNat % 2 * 0x08000000 + 32 * i) 32 false) s

/-- A route lookup by a packet: the statistics and error counters of LPM (R189, R190); an idle LPM misses (R34). -/
def State.route (s : State) (img : LpmImage) (bad : List BadCell) (v6 : Bool) (vrf addr : Nat) :
    State × Option (Nat × Nat) :=
  let r := if s.runs 0x33 then routeLookup img bad v6 vrf addr else { hit := none, err := 0, idx := 0 }
  let s := (if s.runs 0x33 then s.routeReads img v6 vrf addr else s).stat 0x33 Reg.LPM_LOOKUPS 0 1
  let s := if r.err = 0 then s
    else
      let s := (s.wr Reg.LPM_LAST_ERR_KIND r.err).wr Reg.LPM_LAST_ERR_INDEX r.idx
      if r.err = 1 then s.parityError 0x33 3 0
      else if r.err = 2 then s.parityError 0x33 5 0
      else if r.err = 3 then s.trb 0x33 4
      else s.parityError 0x33 6 2
  (if r.hit.isNone then s.stat 0x33 Reg.LPM_MISSES 0 1 else s, r.hit)

/-! ## Exact match (R173 to R175) -/

/-- TYPE and KEY of a slot, as one number. -/
def slotKey (e : Nat) : Nat := e / 2 ^ 60

/-- TYPE and KEY as one number. -/
def exmKey (type key : Nat) : Nat := type * 2 ^ 64 + key

/-- The 9 key bytes of R174. -/
def keyBytes (k : Nat) : Bytes := toBe 9 k

/-- Buckets in each table (R164). -/
def State.exmBuckets (s : State) : Nat :=
  if s.rd Reg.LPM_STAT_PROFILE = 0 then 65536 else if s.rd Reg.LPM_STAT_PROFILE = 1 then 262144 else 4194304

/-- The bucket of a key in table 0 (R174). -/
def State.hash0 (s : State) (k : Nat) : Nat :=
  crc32cSeeded (Config.freeSeed32 s.exm.seedDraw).toNat (keyBytes k) % s.exmBuckets

/-- The bucket of a key in table 1 (R174). -/
def State.hash1 (s : State) (k : Nat) : Nat :=
  (Config.sipHash24 (Config.freeSeed128 s.exm.seedDraw) (keyBytes k)).toNat % s.exmBuckets

/-- An empty bucket. -/
def emptyBucket : List Nat := [0, 0, 0, 0]

/-- A bucket of a table. -/
def State.bucket (s : State) (t b : Nat) : List Nat := (if t = 0 then s.exm.t0 else s.exm.t1).get emptyBucket b

/-- Write one slot of a bucket of four: one atomic 64-byte write (R176). -/
def State.setSlot (s : State) (t b i e : Nat) : State :=
  let l := [0, 1, 2, 3].map (fun j => if j = i then e else (s.bucket t b).getD j 0)
  if t = 0 then { s with exm := { s.exm with t0 := s.exm.t0.set emptyBucket b l } }
  else { s with exm := { s.exm with t1 := s.exm.t1.set emptyBucket b l } }

/-- Where an entry stands: table 0 or 1 with bucket and slot, or the stash (table 2) with its index. -/
structure Place where
  tbl : Nat
  b : Nat
  i : Nat
  deriving DecidableEq, Repr

/-- The entry at a place. -/
def State.entryAt (s : State) (p : Place) : Nat :=
  if p.tbl < 2 then (s.bucket p.tbl p.b).getD p.i 0 else s.exm.stash.get 0 p.i

/-- Write the entry at a place. -/
def State.setEntry (s : State) (p : Place) (e : Nat) : State :=
  if p.tbl < 2 then s.setSlot p.tbl p.b p.i e else { s with exm := { s.exm with stash := s.exm.stash.set 0 p.i e } }

/-- The slot at a place fails its parity check. -/
def badPlace (bad : List BadCell) (p : Place) : Bool :=
  if p.tbl = 0 then badCell bad .exm0 0 (4 * p.b + p.i)
  else if p.tbl = 1 then badCell bad .exm1 0 (4 * p.b + p.i) else badCell bad .stash 0 p.i

/-- The places a key may stand at, in the order of R175: its two buckets and the stash. -/
def State.places (s : State) (k : Nat) : List Place :=
  (List.range 4).map (fun i => ⟨0, s.hash0 k, i⟩) ++ (List.range 4).map (fun i => ⟨1, s.hash1 k, i⟩)
    ++ (List.range 256).map (fun i => ⟨2, 0, i⟩)

/-- Where a key is found (R175): a slot with a parity error does not match (R189). -/
def State.findKey (s : State) (bad : List BadCell) (k : Nat) : Option Place :=
  (s.places k).find? (fun p => slotKey (s.entryAt p) == k && !badPlace bad p)

/-- The HBM reads of an exact-match lookup in MAXIMAL: two 64-byte buckets (R165, R205, R322). -/
def State.exmReads (s : State) (port k : Nat) : State :=
  if s.rd Reg.LPM_STAT_PROFILE ≠ 2 then s
  else (s.drqAccess port (0x10000000 + 64 * s.hash0 k) 64 false).drqAccess port (0x20000000 + 64 * s.hash1 k) 64 false

/-- An exact-match lookup by a packet or by learning; parity errors met are reported, an uncorrectable HBM read misses,
an idle EXM misses (R34, R175, R189). -/
def State.exmLookup (s : State) (bad : List BadCell) (k : Nat) : State × Option Nat :=
  if ¬ s.runs 0x34 then (s, none)
  else if badCell bad .exmHbm 0 (s.hash0 k) ∨ badCell bad .exmHbm 1 (s.hash1 k) then
    ((s.exmReads 3 k).parityError 0x34 6 2, none)
  else
    let n := ((s.places k).filter (badPlace bad)).length
    ((List.replicate n ()).foldl (fun t _ => t.parityError 0x34 3 0) (s.exmReads 3 k), (s.findKey bad k).map s.entryAt)

/-! ## Next hops and ECMP (R183, R184) -/

/-- Resolve a next hop into a decision (R183, R186, R189, R34). -/
def State.nextHop (s : State) (bad : List BadCell) (d : Decision) (i : Nat) : State × Decision :=
  if i = 0 ∨ ¬ s.runs 0x36 then (s, d.setDrop)
  else if badCell bad .nextHop 0 i then
    (((s.parityError 0x36 3 0).wr Reg.ADJ_LAST_ERR_KIND 1).wr Reg.ADJ_LAST_ERR_INDEX i, d.setDest 0 0)
  else
    let e := s.tab.nh.get 0 i
    if bitN e 21 = 0 then (s.trb 0x36 7, d.setDrop)
    else
      let d := { d.setDest 3 (bits e 20 0) with adj := some (bits e 39 22) }
      (s, if bitN e 52 = 1 then { d with tmpl := some (bits e 51 40) } else d)

/-- Resolve an ECMP group by the flow hash at the end of a pass (R184, R189). -/
def State.ecmpResolve (s : State) (bad : List BadCell) (d : Decision) (hash : Nat) : State × Decision :=
  if d.destKind ≠ 2 then (s, d)
  else if ¬ s.runs 0x36 then (s, d.setDrop)
  else
    let g := s.tab.ecmp.get 0 d.dest
    let count := min (bits g 9 0) 512
    let pos := (bits g 31 12 + hash % 65536 * count / 65536) % 1048576
    if badCell bad .ecmp 0 d.dest then
      (((s.parityError 0x36 4 0).wr Reg.ADJ_LAST_ERR_KIND 2).wr Reg.ADJ_LAST_ERR_INDEX d.dest, d.setDest 0 0)
    else if count = 0 then ((s.stat 0x36 Reg.ADJ_ZERO_ECMP 0 1).trb 0x36 6, d.setDrop)
    else if badCell bad .member 0 pos then
      (((s.parityError 0x36 4 0).wr Reg.ADJ_LAST_ERR_KIND 2).wr Reg.ADJ_LAST_ERR_INDEX pos, d.setDest 0 0)
    else s.nextHop bad d (s.tab.member.get 0 pos % 2 ^ 20)

/-- Apply a lookup result in the numbering of R173: 0 system port, 1 next hop, 2 ECMP group, 3 drop. -/
def State.applyResult (s : State) (bad : List BadCell) (d : Decision) (kind idx : Nat) : State × Decision :=
  if kind = 0 then (s, d.setDest 3 idx)
  else if kind = 1 then s.nextHop bad d idx
  else if kind = 2 then (s, d.setDest 2 idx)
  else (s, d.setDrop)

/-! ## Learning requests (R178, R179) -/

/-- Queue a learning request, or discard it at a full queue (R179). -/
def State.learnPush (s : State) (r : LearnReq) : State :=
  if s.learn.queue.length < 65536 then
    { s with learn := { s.learn with queue := s.learn.queue ++ [r], recent := (slotKey r.slot :: s.learn.recent).take 256 } }
  else s.trb 0x35 3

/-- A learned request: not queued again while its key is among the last 256 (R179, log entry 17). -/
def State.learnQueue (s : State) (e : Nat) : State :=
  if s.learn.recent.contains (slotKey e) then s else s.learnPush { slot := e, post := false, remove := false }

/-- The slot that learning installs: MAC in a bridge domain, behind a system port, ORIGIN 1 (R173, R178). -/
def learnSlot (key src : Nat) : Nat := exmKey 1 key * 2 ^ 60 + src * 2 ^ 37 + 2 ^ 34

/-- Source learning on a pass with an L2 lookup (R178). -/
def State.learnSource (s : State) (bad : List BadCell) (port bd mac : Nat) : State :=
  if s.rdb Reg.LRN_CTL_EN ∧ s.rdi Reg.LRN_PORT_p_LEARN port = 1 ∧ bitN (s.tab.bd.get 0 bd) 16 = 1 ∧ bitN mac 40 = 0
      ∧ ¬ badCell bad .bd 0 bd then
    let key := bd * 2 ^ 48 + mac
    let src := s.sysPort port
    match s.exmLookup bad (exmKey 1 key) with
    | (t, none) => t.learnQueue (learnSlot key src)
    | (t, some e) =>
      if bits e 59 58 = 0 ∧ bits e 57 37 = src then
        { t with exm := { t.exm with hits := withNat t.exm.hits (exmKey 1 key) } }
      else if bitN e 36 = 1 then t.trb 0x35 5
      else t.learnQueue (learnSlot key src)
  else s

/-! ## Layer 2 (R177) -/

/-- An L2 lookup, with the source learning that goes with it (R177, R178, R189). -/
def State.l2Lookup (s : State) (bad : List BadCell) (d : Decision) (port bd dst src : Nat) : State × Decision :=
  let r := s.exmLookup bad (exmKey 1 (bd * 2 ^ 48 + dst))
  let r := match r with
    | (t, some e) => t.applyResult bad d (bits e 59 58) (bits e 57 37)
    | (t, none) =>
      if badCell bad .bd 0 bd then (t.parityError 0x35 7 0, d.setDrop)
      else
        let g := t.tab.bd.get 0 bd % 65536
        if g = 0 then (t.trb 0x35 6, d.setDrop) else (t, d.setDest 4 g)
  (r.1.learnSource bad port bd src, { r.2 with l2 := some bd })

/-- The VRF of a lookup: META[11:0], or the port's default (R166). -/
def State.vrfOf (s : State) (meta16 port : Nat) : Nat :=
  if meta16 % 4096 = 0 then s.rdi Reg.LPM_PORT_p_VRF port else meta16 % 4096

/-- The BD of a lookup: META[13:0], or the port's default (R166). -/
def State.bdOf (s : State) (meta16 port : Nat) : Nat :=
  if meta16 % 16384 = 0 then s.rdi Reg.LRN_PORT_p_BD port else meta16 % 16384

/-- Destination address of an IP instance: family, place, length. -/
def dstOf (i : HdrInst) : Bool × Nat × Nat := if i.type = 4 then (false, i.off + 16, 4) else (true, i.off + 24, 16)

/-- Bytes of the pass that lookups and keys may read: min(384, P) (R146). -/
def passLimit (p : Option Nat) : Nat := match p with | some n => min 384 n | none => 384

/-- A DEST_KIND 3 lookup (R151, R166, R172). -/
def State.routeAction (s : State) (bad : List BadCell) (img : LpmImage) (b : Bytes) (lim : Nat) (insts : List HdrInst)
    (port level : Nat) (d : Decision) : State × Decision :=
  match firstInst insts [4, 5] level with
  | none => (s, d)
  | some i =>
    let (v6, off, n) := dstOf i
    if lim < off + n then (s, d)
    else
      let vrf := s.vrfOf d.metadata port
      let addr := beAt b off n
      let (s, host) := if ¬ v6 ∧ s.rdb Reg.LPM_CTL_HOST_EXM then s.exmLookup bad (exmKey 2 (vrf * 2 ^ 32 + addr)) else (s, none)
      match s.route img bad v6 vrf addr, host with
      | (s, _), some e => s.applyResult bad d (bits e 59 58) (bits e 57 37)
      | (s, some (k, i)), none => s.applyResult bad d (k + 1) i
      | (s, none), none => (s, d)

/-- A DEST_KIND 4 lookup (R151, R166). -/
def State.l2Action (s : State) (bad : List BadCell) (b : Bytes) (lim : Nat) (insts : List HdrInst) (port level : Nat)
    (d : Decision) : State × Decision :=
  match firstInst insts [1] level with
  | none => (s, d)
  | some i =>
    if lim < i.off + 6 then (s, d)
    else s.l2Lookup bad d port (s.bdOf d.metadata port) (beAt b i.off 6) (beAt b (i.off + 6) 6)

/-! ## Flow hash (R185) -/

/-- The bytes that the flow hash covers; the flow label takes three bytes, right-aligned (log entry 16). -/
def hashBytes (b : Bytes) (r : ParseRes) (outer label teid : Bool) : Bytes :=
  let ip := if outer then (ipInsts r.insts).head? else deepIp r.insts
  match ip with
  | some i =>
    let ports := if r.fragFirst || r.fragLater then [] else match l4After r.insts i with
      | some u => padTo 4 (sl b u.off 4)
      | none => []
    let lab := if label && i.type == 5 then toBe 3 (beAt b (i.off + 1) 3 % 2 ^ 20) else []
    let te := if teid then match (r.insts.filter (fun x => x.type == 17)).getLast? with
        | some g => padTo 4 (sl b (g.off + 4) 4)
        | none => []
      else []
    (if i.type = 4 then padTo 8 (sl b (i.off + 12) 8) ++ padTo 1 (sl b (i.off + 9) 1)
     else padTo 32 (sl b (i.off + 8) 32) ++ padTo 1 (sl b (i.off + 6) 1)) ++ ports ++ lab ++ te
  | none =>
    match r.insts.find? (fun i => i.type == 1) with
    | some e => padTo 12 (sl b e.off 12)
    | none => []

/-- The flow hash of a pass (R185). -/
def State.flowHash (s : State) (b : Bytes) (r : ParseRes) : Nat :=
  crc32cSeeded (s.rd Reg.ADJ_SEED_SEED)
    (hashBytes b r (s.rdb Reg.ADJ_HASH_OUTER) (s.rdb Reg.ADJ_HASH_FLOW_LABEL) (s.rdb Reg.ADJ_HASH_TEID))

end Sys2Proof.Machine
end

