-- ==== Sys2Proof/Machine/Classify.lean ====
section
/-! DEFINITION. Classify: rule-set trees, their keys and action records (R141 to R152). -/
namespace Sys2Proof.Machine

/-- What a rule-set walk reads: bytes, the byte limit, the parse result, metadata (R146, R147). -/
structure KeyCtx where
  eg : Bool
  b : Bytes
  lim : Nat
  r : ParseRes
  port : Nat
  pass : Nat
  d : Decision
  src : Nat
  tos : Option Nat
  proto : Option Nat
  dport : Option Nat
  deriving DecidableEq, Repr

/-- A metadata key (R147). -/
def KeyCtx.metaKey (c : KeyCtx) (n : Nat) : Option Nat :=
  if n = 0 then some c.port
  else if n = 1 then (if c.eg then none else some c.pass)
  else if n = 2 then
    (if c.eg then none
     else some (b01 (c.r.inc != 0) + 2 * b01 c.r.fragFirst + 4 * b01 c.r.fragLater + 8 * b01 c.r.ecpri + 16 * (c.r.inc % 16)))
  else if n = 3 then some (c.d.cls % 8 + c.d.color % 4 * 8)
  else if n = 4 then some (c.d.metadata % 65536)
  else if n = 5 then (if c.d.destKind = 3 then some c.d.dest else none)
  else if n = 6 then (if c.eg then c.tos else none)
  else if n = 7 then (if c.eg then c.proto else none)
  else if n = 8 then (if c.eg then c.dport else none)
  else if n = 9 then some c.src
  else none

/-- The key of a test node, or none where it is missing (R146). -/
def KeyCtx.key (c : KeyCtx) (n : Nat) : Option Nat :=
  let ht := bits n 121 116
  let fb := bits n 100 95
  let word := if ht = 0 then c.metaKey (bits n 113 106)
    else
      match (c.r.insts.filter (fun i => i.type == ht))[bits n 115 114]? with
      | none => none
      | some i =>
        let off := i.off + bits n 113 106
        if fb ≠ 0 ∧ c.lim ≤ off + 3 - bits n 105 101 / 8 then none else some (word32 c.b off)
  word.map (fun w => w / 2 ^ bits n 105 101 % 2 ^ fb)

/-- The test of a node (R144). -/
def nodeTest (n key : Nat) : Bool :=
  let v := bits n 31 0
  if bits n 125 124 = 0 then key / 2 ^ bits n 94 89 == v / 2 ^ bits n 94 89
  else if bits n 125 124 = 1 then decide (key < v)
  else key &&& bits n 63 32 == v

/-- How a walk of a rule set ends. -/
inductive SetEnd where
  | noMatch
  | depth (i : Nat)
  | nodeParity (i : Nat)
  | actionParity (i : Nat)
  | action (rec256 : Nat) (incRule : Bool)
  deriving DecidableEq, Repr

/-- The walk of a rule set from a node; `fuel` counts the test nodes left (R149). -/
def setWalk (fuel : Nat) (rs : RuleSet) (bad : List BadCell) (set : Nat) (c : KeyCtx) (i : Nat) : SetEnd :=
  let n := rs.nodes.getD i 0
  if badCell bad .node set i then .nodeParity i
  else if bits n 127 126 = 1 then
    (if bitN n 124 = 1 then .noMatch
     else if badCell bad .action set (bits n 123 104) then .actionParity (bits n 123 104)
     else .action (rs.actions.getD (bits n 123 104) 0) (bitN n 125 == 1))
  else
    match fuel with
    | 0 => .depth i
    | k + 1 =>
      match c.key n with
      | none =>
        if bits n 123 122 = 2 then .noMatch
        else setWalk k rs bad set c (bits n 88 69 + if bits n 123 122 = 1 then 0 else 1)
      | some key => setWalk k rs bad set c (bits n 88 69 + if nodeTest n key then 0 else 1)

/-- A walk of rule set n: an absent set matches nothing (R143, R149). -/
def runSet (rs : RuleSet) (bad : List BadCell) (set : Nat) (c : KeyCtx) : SetEnd :=
  if rs.nodes.isEmpty then .noMatch else setWalk 64 rs bad set c 0

/-- CLS_LAST_ERR. -/
def State.clsErr (s : State) (kind set i : Nat) : State :=
  ((s.wr Reg.CLS_LAST_ERR_KIND kind).wr Reg.CLS_LAST_ERR_SET set).wr Reg.CLS_LAST_ERR_INDEX i

/-- The record of a walk's end: counters, events, and the action where one applies (R149, R161). -/
def State.setReport (s : State) (set : Nat) (e : SetEnd) : State × Option (Nat × Bool) :=
  match e with
  | .noMatch => (s, none)
  | .depth i => (((s.trb 0x32 3).evt 0x32 1).clsErr 1 set i, none)
  | .nodeParity i => (((s.parityError 0x32 4 0).evt 0x32 0).clsErr 2 set i, none)
  | .actionParity i => (((s.parityError 0x32 5 0).evt 0x32 0).clsErr 3 set i, none)
  | .action r inc => (s, some (r, inc))

/-- Dword k of an action record (R150). -/
def actDw (r k : Nat) : Nat := bits r (32 * k + 31) (32 * k)

/-- The plain fields of an action record onto a decision (R150, R152). -/
def Decision.applyFields (d : Decision) (r : Nat) : Decision :=
  let w := actDw r 0
  let d := if bitN w 27 = 1 then { d with metadata := bits (actDw r 4) 31 16 } else d
  let d := if bitN w 4 = 1 then d.setDrop else d
  let d := if bitN w 5 = 1 then { d with recirc := true } else d
  let d := if bitN w 6 = 1 then { d with punt := some (bits w 11 8, bitN w 7 == 1) } else d
  let d := if bitN w 12 = 1 then { d with mirror := some (bits w 16 13) } else d
  let d := if bitN w 17 = 1 then { d with cls := bits w 20 18 } else d
  let d := if bitN w 21 = 1 then { d with color := bits w 23 22 } else d
  let d := if bitN w 24 = 1 then { d with policer := some (bits (actDw r 2) 19 0) } else d
  let d := if bitN w 25 = 1 then { d with counter := some (bits (actDw r 3) 23 0) } else d
  if bitN w 26 = 1 then { d with tmpl := some (bits (actDw r 4) 11 0) } else d

/-- The destination of an action record (R151); a next hop's template then replaces the record's (log entry 18). -/
def State.applyDest (s : State) (bad : List BadCell) (img : LpmImage) (c : KeyCtx) (ingress : Nat) (d : Decision) (r : Nat) :
    State × Decision :=
  let kind := bits (actDw r 0) 3 1
  let idx := bits (actDw r 1) 20 0
  if bitN (actDw r 0) 0 = 0 then (s, d)
  else if kind = 0 then s.nextHop bad d idx
  else if kind = 1 then (s, d.setDest 2 idx)
  else if kind = 2 then (s, d.setDest 3 idx)
  else if kind = 3 then s.routeAction bad img c.b c.lim c.r.insts ingress (idx % 4) d
  else if kind = 4 then s.l2Action bad c.b c.lim c.r.insts ingress (idx % 4) d
  else (s, d.setDest 4 idx)

/-- One ingress rule set: walk and action (R149, R152). -/
def State.ingressSet (s : State) (bad : List BadCell) (img : LpmImage) (c : KeyCtx) (ingress set : Nat) (rs : RuleSet)
    (d : Decision) : State × Decision :=
  match s.setReport set (runSet rs bad set { c with d := d }) with
  | (s, none) => (s, d)
  | (s, some (r, inc)) => s.applyDest bad img c ingress { d.applyFields r with incRule := d.incRule || inc } r

/-- The ingress rule sets in the order of R141. -/
def ingressOrder : List Nat := [0, 1, 2, 3, 4, 7]

/-- The bank of rule set n that a packet uses (R12). -/
def State.ruleSet (s : State) (g : Gens) (n : Nat) : RuleSet :=
  match s.banks.sets[n]? with
  | some b => b.at (g.sets.getD n 0)
  | none => RuleSet.empty

/-- All ingress rule sets of a pass (R141, R152). -/
def State.ingressSets (s : State) (bad : List BadCell) (g : Gens) (c : KeyCtx) (ingress : Nat) (d : Decision) :
    State × Decision :=
  ingressOrder.foldl (fun (a : State × Decision) n =>
    a.1.ingressSet bad (a.1.banks.lpm.at g.lpm) c ingress n (a.1.ruleSet g n) a.2) (s, d)

/-- One egress rule set: DROP, counter and template only (R150, R152). The third part is the egress counter. -/
def State.egressSet (s : State) (bad : List BadCell) (c : KeyCtx) (set : Nat) (rs : RuleSet) (a : Decision × Option Nat) :
    State × (Decision × Option Nat) :=
  match s.setReport set (runSet rs bad set { c with d := a.1 }) with
  | (s, none) => (s, a)
  | (s, some (r, _)) =>
    let w := actDw r 0
    let d := if bitN w 4 = 1 then a.1.setDrop else a.1
    let d := if bitN w 26 = 1 then { d with tmpl := some (bits (actDw r 4) 11 0) } else d
    (s, (d, if bitN w 25 = 1 then some (bits (actDw r 3) 23 0) else a.2))

/-- The egress rule sets 5 and 6 (R141). -/
def State.egressSets (s : State) (bad : List BadCell) (g : Gens) (c : KeyCtx) (d : Decision) :
    State × (Decision × Option Nat) :=
  let r := s.egressSet bad c 5 (s.ruleSet g 5) (d, none)
  r.1.egressSet bad c 6 (r.1.ruleSet g 6) r.2

end Sys2Proof.Machine
end

