-- ==== Sys2Proof/Machine/Rewrite.lean ====
section
/-! DEFINITION. Rewrite: templates, fixups, adjacencies (R158, R159, R188), and the correction of PTP messages (R51). -/
namespace Sys2Proof.Machine

/-! ## Checksums -/

/-- Ones' complement sum of the 16-bit words of a string. -/
def onesSum (b : Bytes) : Nat :=
  match b with
  | [] => 0
  | [x] => x.toNat * 256
  | x :: y :: t => x.toNat * 256 + y.toNat + onesSum t

/-- Fold carries back in: a sum of up to 2^32 to 16 bits. -/
def fold16 (n : Nat) : Nat := let a := n % 65536 + n / 65536; let b := a % 65536 + a / 65536; b % 65536 + b / 65536

/-- The IPv4 header checksum of a header whose checksum field is 0. -/
def ipChecksum (h : Bytes) : Nat := 65535 - fold16 (onesSum h)

/-- A checksum after the bytes it covers changed from `old` to `new` (RFC 1624); both start at an even place. -/
def checksumUpdate (c : Nat) (old new : Bytes) : Nat :=
  65535 - fold16 ((65535 - c) + (65535 - fold16 (onesSum old)) + fold16 (onesSum new))

/-! ## Templates (R158) -/

/-- A template's KIND, LEVEL, DATA_LEN, STRIP and DATA. -/
def tmKind (t : Bytes) : Nat := beAt t 0 1
def tmLevel (t : Bytes) : Nat := beAt t 1 1
def tmLen (t : Bytes) : Nat := beAt t 2 1
def tmStrip (t : Bytes) : Nat := beAt t 3 1
def tmData (t : Bytes) : Bytes := sl t 32 (tmLen t)

/-- Fixup k of a template: kind and offset. -/
def tmFixup (t : Bytes) (k : Nat) : Nat × Nat := (leAt t (4 + 2 * k) 2 / 256 % 16, leAt t (4 + 2 * k) 2 % 256)

/-- One fixup on a packet whose DATA stands at `base` (R158). -/
def applyFixup (base len hash : Nat) (b : Bytes) (f : Nat × Nat) : Bytes :=
  let p := base + f.2
  let n := b.length
  if f.1 = 1 then
    let b := putAt (putAt b (p + 2) (toBe 2 (n - p))) (p + 10) (toBe 2 0)
    putAt b (p + 10) (toBe 2 (ipChecksum (sl b p (4 * (beAt b p 1 % 16)))))
  else if f.1 = 2 then putAt b (p + 4) (toBe 2 (n - p - 40))
  else if f.1 = 3 then putAt b (p + 4) (toBe 2 (n - p) ++ toBe 2 0)
  else if f.1 = 4 then putAt b (p + 2) (toBe 2 (n - p - 8))
  else if f.1 = 5 then
    let v := beAt b (base + len) 1 / 16
    if n ≤ base + len then b else if v = 4 then putAt b p (toBe 2 0x0800) else if v = 6 then putAt b p (toBe 2 0x86DD) else b
  else if f.1 = 6 then putAt b p (toBe 2 (0xC000 + hash % 0x4000))
  else b

/-- All fixups of a template. -/
def applyFixups (t : Bytes) (base hash : Nat) (b : Bytes) : Bytes :=
  (List.range 8).foldl (fun b k => applyFixup base (tmLen t) hash b (tmFixup t k)) b

/-- ACT_LAST and the counter of a template failure (R162). -/
def State.actFail (s : State) (t reason k : Nat) : State :=
  ((s.trb 0x37 k).wr Reg.ACT_LAST_TEMPLATE t).wr Reg.ACT_LAST_REASON reason

/-- The template a packet's decision names, in the bank of a generation; none where the set has no such entry. -/
def State.template (s : State) (gen t : Nat) : Option Bytes := (s.banks.tmpl.at gen)[t]?

/-- A DECAP applied at the end of a pass: no DECAP (none), no instance at LEVEL (some none), or the packet after it
(R159). -/
def decapBytes (t : Bytes) (r : ParseRes) (hash : Nat) (b : Bytes) : Option Bytes :=
  match r.insts.find? (fun i => i.level == tmLevel t) with
  | none => none
  | some i => some (applyFixups t 0 hash (tmData t ++ b.drop i.off))

/-- ENCAP or REPLACE at egress: the new packet, or none where STRIP lies beyond it (R159). -/
def encapBytes (t : Bytes) (l3 hash : Nat) (b : Bytes) : Option Bytes :=
  let strip := if tmKind t = 3 then tmStrip t else 0
  if b.length < l3 + strip then none
  else some (applyFixups t l3 hash (b.take l3 ++ tmData t ++ b.drop (l3 + strip)))

/-- The egress template of a copy (R159): the state with its counters and the bytes. -/
def State.egressTemplate (s : State) (bad : List BadCell) (gen : Nat) (d : Decision) (l3 hash : Nat) (b : Bytes) :
    State × Bytes :=
  match d.tmpl with
  | none => (s, b)
  | some t =>
    if ¬ s.runs 0x37 then (s, b)
    else if badCell bad .tmpl 0 t then (((s.parityError 0x37 6 0).wr Reg.ACT_LAST_TEMPLATE t).wr Reg.ACT_LAST_REASON 5, b)
    else
      match s.template gen t with
      | none => (s.actFail t 1 3, b)
      | some e =>
        if tmKind e = 0 then (s.actFail t 1 3, b)
        else if tmKind e = 1 then (s.actFail t 2 3, b)
        else
          match encapBytes e l3 hash b with
          | none => (s.actFail t 1 3, b)
          | some x => (s.stat 0x37 Reg.ACT_REWRITES 0 1, x)

/-! ## Adjacencies (R188) -/

/-- The bytes of adjacency i. -/
def State.adjBytes (s : State) (i : Nat) : Bytes := toLe 32 (s.tab.adj.get 0 i)

/-- The Layer 2 header of an adjacency before a packet's L3_OFS; none where it drops (R188). -/
def adjRewrite (e : Bytes) (l3 : Nat) (b : Bytes) : Option Bytes :=
  let v := beAt b l3 1 / 16
  let et := if 2 ≤ l3 then some (sl b (l3 - 2) 2)
    else if b.length ≤ l3 then none
    else if v = 4 then some (toBe 2 0x0800) else if v = 6 then some (toBe 2 0x86DD) else none
  match et with
  | none => none
  | some t => if beAt e 0 1 = 1 then some (sl e 2 12 ++ sl e 14 (4 * min 2 (beAt e 1 1)) ++ t ++ b.drop l3) else none

/-- A drop at a drop adjacency (R188, R193). -/
def State.adjDrop (s : State) : State := (s.stat 0x36 Reg.ADJ_EGRESS_DROPS 0 1).trb 0x36 8

/-- The adjacency of a copy at egress; none where the packet is dropped (R187 to R189, R34). -/
def State.egressAdj (s : State) (bad : List BadCell) (d : Decision) (l3 : Nat) (b : Bytes) : State × Option Bytes :=
  match d.adj with
  | none => (s, some b)
  | some a =>
    if a = 0 ∨ ¬ s.runs 0x36 then (s.adjDrop, none)
    else if badCell bad .adj 0 a then
      (((s.parityError 0x36 5 0).wr Reg.ADJ_LAST_ERR_KIND 3).wr Reg.ADJ_LAST_ERR_INDEX a, none)
    else
      match adjRewrite (s.adjBytes a) l3 b with
      | none => (s.adjDrop, none)
      | some x => (s, some x)

/-! ## PTP messages in transit (R51) -/

/-- Where a PTP message starts in a frame, and its UDP header if it has one: EtherType 0x88F7, or UDP to port 319. -/
def ptpAt (b : Bytes) : Option (Nat × Option Nat) :=
  let e := etherType b
  let o := e.2 + 2
  if e.1 = 0x88F7 then some (o, none)
  else if e.1 = 0x0800 ∧ beAt b (o + 9) 1 = 17 then
    let u := o + 4 * (beAt b o 1 % 16)
    if beAt b (u + 2) 2 = 319 then some (u + 8, some u) else none
  else if e.1 = 0x86DD ∧ beAt b (o + 6) 1 = 17 then
    if beAt b (o + 42) 2 = 319 then some (o + 48, some (o + 40)) else none
  else none

/-- An event message: messageType 0 to 3. -/
def isPtpEvent (b : Bytes) (o : Nat) : Bool := decide (beAt b o 1 % 16 ≤ 3)

/-- Replace bytes of a packet and update a UDP checksum that covers them (R51). -/
def putChecked (b : Bytes) (o : Nat) (v : Bytes) (udp : Option Nat) : Bytes :=
  match udp with
  | none => putAt b o v
  | some u =>
    let c := beAt b (u + 6) 2
    if c = 0 then putAt b o v
    else
      let odd := (o - u) % 2 = 1
      let old := if odd then (0 : Byte) :: sl b o v.length else sl b o v.length
      let new := if odd then (0 : Byte) :: v else v
      let c' := checksumUpdate c old new
      putAt (putAt b o v) (u + 6) (toBe 2 (if c' = 0 then 65535 else c'))

/-- Add a time in 2^-16 ns to the correctionField, modulo 2^64 (R51). -/
def addCorrection (b : Bytes) (o : Nat) (udp : Option Nat) (t : Int) : Bytes :=
  putChecked b (o + 8) (toBe 8 (ofSigned 64 ((beAt b (o + 8) 8 : Int) + t))) udp

/-- The ingress half of transparent-clock correction, at the end of the first pass (R51): the bytes and TC_OPEN. -/
def State.tcIngress (s : State) (port trx : Nat) (b : Bytes) : State × Bytes × Bool :=
  if s.runs 0x14 ∧ s.rdb Reg.PTP_CTL_TC_EN ∧ bitN (s.ptpCfg port) 2 = 1 then
    match ptpAt b with
    | none => (s, b, false)
    | some (o, udp) =>
      if ¬ isPtpEvent b o then (s, b, false)
      else if b.length < o + 16 then (s.trb 0x14 4, b, false)
      else (s, addCorrection b o udp (-(trx : Int)), true)
  else (s, b, false)

/-- The egress half: T_tx is added where TC_OPEN is set (R51). -/
def tcEgress (tcOpen : Bool) (ttx : Nat) (b : Bytes) : Bytes :=
  if tcOpen then
    match ptpAt b with
    | some (o, udp) => if b.length < o + 16 then b else addCorrection b o udp ttx
    | none => b
  else b

/-- One-step insertion: T_tx into the originTimestamp of a Sync leaving a port with ONE_STEP (R51). -/
def State.oneStep (s : State) (port ttx : Nat) (b : Bytes) : State × Bytes :=
  if s.runs 0x14 ∧ bitN (s.ptpCfg port) 1 = 1 then
    match ptpAt b with
    | none => (s, b)
    | some (o, udp) =>
      if beAt b o 1 % 16 ≠ 0 then (s, b)
      else if b.length < o + 44 then (s.trb 0x14 4, b)
      else
        let ns := ttx / 65536
        (s, putChecked b (o + 34) (toBe 6 (ns / 1000000000) ++ toBe 4 (ns % 1000000000)) udp)
  else (s, b)

end Sys2Proof.Machine
end

