-- ==== Sys2Proof/Machine/Ingress.lean ====
section
/-! DEFINITION. Ingress: the passes of a packet through its pipeline: generations, fragments, default actions, resolution
and recirculation (R121 to R138, R152 to R157, R159). -/
namespace Sys2Proof.Machine

/-! ## Packets -/

/-- The generations that a packet samples now (R12). -/
def State.sampleGens (s : State) : Gens :=
  { parse := s.banks.parse.active.gen, sets := s.banks.sets.map (fun b => b.active.gen), lpm := s.banks.lpm.active.gen,
    tmpl := s.banks.tmpl.active.gen }

/-- No generation at all. -/
def Gens.none : Gens := { parse := 0, sets := [], lpm := 0, tmpl := 0 }

/-- The recirculation port's number of a pipeline (R107). -/
def rccPort (pipe : Nat) : Nat := 128 + pipe / 4

/-- A frame of a FIFO as the packet that its first pass starts with (R4, R12, R121, R156). -/
def State.packetOf (s : State) (port : Nat) (f : InFrame) : Packet :=
  let n := f.bytes.length
  { pid := f.pid, bytes := if f.whole then f.bytes.take (n - 4) else f.bytes,
    plen := if f.whole ∧ n ≤ 388 then some (n - 4) else none, port := inputPort port, mport := inputPort port, pass := 1,
    gens := s.sampleGens, start2 := s.rdi Reg.PRS_PORT_p_START_STATE (rccPort (portPipe port)), parse := ParseRes.empty,
    d := Decision.start f.cls f.meta16 none 0, hash := 0, l3ofs := 0, tos := none, proto := none, dport := none,
    trx := f.trx, tcOpen := false, tailDone := f.whole, bad := f.badFcs,
    crc := f.bytes.foldl (crc32Byte 0xEDB88320) 0xFFFFFFFF, rxLen := n, cls0 := f.cls, fixLater := none, alloc := 0, inSpeed := s.portSpeed (inputPort port), reason := 0,
    srcDev := s.devId, pipe := portPipe port, standby := s.protectedPort port && !s.owner }

/-- Put a packet on the die-to-die link toward admission (R11). -/
def State.cross (s : State) (p : Packet) : State := { s with path := { s.path with d2d := s.path.d2d ++ [p] } }

/-- Queue a flow counter record: counter, bytes (R251, R34). -/
def State.mcrPush (s : State) (counter n : Nat) : State :=
  if ¬ s.blkEn 0x58 then s.stat 0x58 Reg.MCR_LOST 0 1
  else if s.path.mcrq.length < 65536 then { s with path := { s.path with mcrq := s.path.mcrq ++ [(counter, n)] } }
  else (s.stat 0x58 Reg.MCR_LOST 0 1).trb 0x58 3

/-- A dropped packet: its counter record crosses when its length is known (R11, R251). -/
def State.dropPkt (s : State) (p : Packet) : State :=
  match p.d.counter with
  | none => s
  | some c => if p.tailDone then s.mcrPush c (p.bytes.length + 4)
    else { s with path := { s.path with dropped := s.path.dropped ++ [p] } }

/-! ## Recirculation tokens (R155) -/

/-- RATE of recirculation port r, in tokens per 1,000 ns. -/
def State.rccRate (s : State) (r : Nat) : Nat := min 1500 (s.rdi Reg.RCC_PORT_r_RATE r)

/-- The bucket of recirculation port r now, in 1/1,000 tokens. -/
def State.rccTokens (s : State) (r : Nat) : Nat :=
  let t := s.path.rccTok.get (0, 0) r
  if s.rccRate r = 0 then 0 else min (s.rdi Reg.RCC_PORT_r_BURST r * 1000) (t.1 + s.rccRate r * (s.ns - t.2))

/-- Store the bucket's tokens of now. -/
def State.rccSet (s : State) (r tok : Nat) : State :=
  { s with path := { s.path with rccTok := s.path.rccTok.insert r (tok, s.ns) } }

/-- Take a token, or refuse (R155, R34). -/
def State.rccTake (s : State) (r : Nat) : State × Bool :=
  if s.runs 0x38 ∧ 1000 ≤ s.rccTokens r then ((s.rccSet r (s.rccTokens r - 1000)).stat 0x38 Reg.RCC_PASSES_r r 1, true)
  else ((s.trb 0x38 3).stat 0x38 Reg.RCC_REFUSED_r r 1, false)

/-! ## DECAP at the end of a pass (R159) -/

/-- How a DECAP ends. -/
inductive Decap where
  | no
  | fails
  | done
  deriving DecidableEq, Repr

/-- Apply a DECAP template that the pass selected; other templates wait for egress. -/
def State.decap (s : State) (bad : List BadCell) (p : Packet) : State × Packet × Decap :=
  match p.d.tmpl with
  | none => (s, p, .no)
  | some t =>
    match s.template p.gens.tmpl t with
    | none => (s, p, .no)
    | some e =>
      if ¬ s.runs 0x37 ∨ tmKind e ≠ 1 ∨ badCell bad .tmpl 0 t then (s, p, .no)
      else
        match decapBytes e p.parse p.hash p.bytes with
        | none => (s.actFail t 3 4, p, .fails)
        | some b =>
          (s.stat 0x37 Reg.ACT_REWRITES 0 1,
           { p with bytes := b, plen := p.plen.map (fun _ => b.length), l3ofs := tmLen e,
                    fixLater := if p.tailDone then none else some e, d := { p.d with tmpl := none } }, .done)

/-! ## Default actions (R133, R166) -/

/-- Which default action, in the order of PRS_PORT_p_DFLT: field, PRS trouble counter, punt reason. -/
inductive Dflt where
  | noMatch | parseFail | malformed | orphan
  deriving DecidableEq, Repr

/-- The code of a port's default action. -/
def State.dfltCode (s : State) (w : Dflt) (port : Nat) : Nat :=
  match w with
  | .noMatch => s.rdi Reg.PRS_PORT_p_DFLT_NO_MATCH port
  | .parseFail => s.rdi Reg.PRS_PORT_p_DFLT_PARSE_FAIL port
  | .malformed => s.rdi Reg.PRS_PORT_p_DFLT_MALFORMED port
  | .orphan => s.rdi Reg.PRS_PORT_p_DFLT_ORPHAN port

/-- The counters of a default action (R134, R137, R139, R140). -/
def State.dfltCount (s : State) (w : Dflt) : State :=
  match w with
  | .noMatch => s.trb 0x30 5
  | .parseFail => s.trb 0x30 3
  | .malformed => s.trb 0x30 4
  | .orphan => (s.stat 0x31 Reg.FRAG_ORPHAN 0 1).trb 0x31 7

/-- The reason code of a default punt (R344). -/
def Dflt.reason : Dflt → Nat
  | .noMatch => 2 | .parseFail => 3 | .malformed => 4 | .orphan => 5

/-- Default code 2: the destination route of the first IP instance at level 0 (R133). -/
def State.dfltRoute (s : State) (bad : List BadCell) (p : Packet) (d : Decision) : State × Decision :=
  match firstInst p.parse.insts [4, 5] 0 with
  | none => (s, d)
  | some i =>
    let (v6, off, n) := dstOf i
    if p.parse.stop < off + n then (s, d)
    else
      match s.route (s.banks.lpm.at p.gens.lpm) bad v6 (s.rdi Reg.LPM_PORT_p_VRF p.port) (beAt p.bytes off n) with
      | (s, some (k, i)) => s.applyResult bad d (k + 1) i
      | (s, none) => (s, d)

/-- The decision of a default code (R133). -/
def State.dfltDecide (s : State) (bad : List BadCell) (p : Packet) (code : Nat) : State × Decision :=
  let d := Decision.start p.cls0 p.d.metadata none 0
  if code = 1 ∨ code = 4 then
    let r := s.l2Lookup bad d p.port (s.rdi Reg.LRN_PORT_p_BD p.port) (beAt p.bytes 0 6) (beAt p.bytes 6 6)
    (r.1, if code = 4 then { r.2 with mirror := some (s.rdi Reg.PRS_PORT_p_DFLT_MIRROR p.port) } else r.2)
  else if code = 2 then s.dfltRoute bad p d
  else if code = 3 then (s, { d with punt := some (s.rdi Reg.PRS_PORT_p_DFLT_PUNT_RING p.port, false) })
  else (s, d)

/-- A default action: the decision it gives, ECMP resolved, and the packet as it leaves the pass; none where it is dropped
(R133, R153, R159). A drop that the default's own lookup sets counts under row 1 of R153 and as a default drop (R139). -/
def State.default (s : State) (bad : List BadCell) (p : Packet) (w : Dflt) : State × Packet × Bool :=
  let s := s.dfltCount w
  let r := s.dfltDecide bad p (s.dfltCode w p.port)
  let r := r.1.ecmpResolve bad r.2 p.hash
  let p := { p with d := r.2, reason := w.reason }
  if r.2.drop then ((r.1.stat 0x32 Reg.CLS_DROPS 0 1).trb 0x30 6, p, false)
  else if r.2.punt.isNone ∧ r.2.destKind = 0 then (r.1.trb 0x30 6, p, false)
  else
    match r.1.decap bad p with
    | (s, p, .fails) => (s.trb 0x30 6, p, false)
    | (s, p, _) => (s, p, true)

/-! ## The fragment table (R135 to R138) -/

/-- The fragment table is in use (R135, R34). -/
def State.fragOn (s : State) : Bool := s.runs 0x31 && s.rdb Reg.FRAG_CTL_EN

/-- The key of a marked instance (R135); an IPv6 fragment header takes the addresses of the IPv6 header before it. -/
def fragKey (b : Bytes) (r : ParseRes) : Option Bytes :=
  match r.markInst with
  | none => none
  | some i =>
    if i.type = 4 then
      some (padTo 8 (sl b (i.off + 12) 8) ++ padTo 2 (sl b (i.off + 4) 2) ++ padTo 1 (sl b (i.off + 9) 1))
    else
      match ((r.insts.takeWhile (fun x => x != i)).filter (fun x => x.type == 5)).getLast? with
      | some v => some (padTo 32 (sl b (v.off + 8) 32) ++ padTo 4 (sl b (i.off + 4) 4) ++ padTo 1 (sl b i.off 1))
      | none => some (padTo 4 (sl b (i.off + 4) 4) ++ padTo 1 (sl b i.off 1))

/-- The bucket of a key (R135). -/
def State.fragBucket (s : State) (key : Bytes) : Nat :=
  crc32cSeeded (Config.freeSeed32 s.path.fragSeed).toNat key % 8192

/-- LIFETIME in epochs (R138). -/
def State.fragLife (s : State) : Nat := 8 * min 1000 (s.rd Reg.FRAG_CTL_LIFETIME)

/-- An entry still serves lookups (R138). -/
def State.fragLive (s : State) (e : FragEnt) : Bool := decide (s.epoch ≤ e.epoch + s.fragLife)

/-- The live entry of a key (R137). -/
def State.fragFind (s : State) (key : Bytes) : Option FragEnt :=
  s.path.frag.find? (fun e => e.key == key && s.fragLive e)

/-- A slot of a bucket that is free or expired (R136, R138). -/
def State.fragSlot (s : State) (b : Nat) : Option Nat :=
  [0, 1, 2, 3].find? (fun i => !(s.path.frag.any (fun e => e.bucket == b && e.slot == i && s.fragLive e)))

/-- Put an entry into its slot. -/
def State.fragPut (s : State) (e : FragEnt) : State :=
  { s with path := { s.path with
      frag := s.path.frag.filter (fun x => !(x.bucket == e.bucket && x.slot == e.slot)) ++ [e] } }

/-- The insertion at the end of a FRAG_FIRST pass (R136, R138). `moved` says that the decision decapsulates or
recirculates. -/
def State.fragInsert (s : State) (p : Packet) (moved : Bool) : State :=
  match fragKey p.bytes p.parse with
  | none => s
  | some key =>
    if moved then s.trb 0x31 4
    else if s.fragLife = 0 then s
    else
      match s.fragFind key with
      | some e =>
        ((s.fragPut { e with d := p.d, epoch := s.epoch }).stat 0x31 Reg.FRAG_FIRST 0 1).trb 0x31 5
      | none =>
        let b := s.fragBucket key
        match s.fragSlot b with
        | some i => (s.fragPut { bucket := b, slot := i, key := key, d := p.d, epoch := s.epoch }).stat 0x31 Reg.FRAG_FIRST 0 1
        | none => s.trb 0x31 3

/-- The lookup of a FRAG_LATER pass (R137): the stored decision, or none for an orphan. -/
def State.fragLookup (s : State) (bad : List BadCell) (p : Packet) : State × Option Decision :=
  match fragKey p.bytes p.parse with
  | none => (s, none)
  | some key =>
    match s.fragFind key with
    | none => (s, none)
    | some e =>
      if badCell bad .frag 0 (4 * e.bucket + e.slot) then (s.parityError 0x31 6 0, none)
      else (s.stat 0x31 Reg.FRAG_FOLLOW 0 1, some e.d)

/-! ## Resolution (R153) -/

/-- The second pass's packet: META, class, color and a template other than a DECAP carry over (R154). -/
def Packet.again (p : Packet) : Packet :=
  { p with pass := 2, mport := rccPort p.pipe, d := Decision.start p.d.cls p.d.metadata p.d.tmpl p.d.color }

/-- How a pass ends. -/
inductive PassEnd where
  | drop (p : Packet)
  | recirc (p : Packet)
  | cross (p : Packet)
  deriving DecidableEq, Repr

/-- A default action as the end of a pass. -/
def State.defaultEnd (s : State) (bad : List BadCell) (p : Packet) (w : Dflt) : State × PassEnd :=
  match s.default bad p w with
  | (s, p, true) => (s, .cross p)
  | (s, p, false) => (s, .drop p)

/-- Resolve a pass by the table of R153. -/
def State.resolvePass (s : State) (bad : List BadCell) (p : Packet) : State × PassEnd :=
  if p.d.drop then (s.stat 0x32 Reg.CLS_DROPS 0 1, .drop p)
  else
    match p.d.punt, p.d.recirc with
    | some (_, false), _ => (s, .cross { p with reason := 0, d := { p.d with destKind := 0, dest := 0, adj := none, mirror := none } })
    | _, true =>
      let r := p.pipe / 4
      if p.pass = 2 then ((s.trb 0x38 4).stat 0x38 Reg.RCC_REFUSED_r r 1).defaultEnd bad p .noMatch
      else
        match s.rccTake r with
        | (s, false) => s.defaultEnd bad p .noMatch
        | (s, true) =>
          match s.decap bad p with
          | (s, p, .fails) => s.defaultEnd bad p .noMatch
          | (s, p, _) => (s, .recirc p.again)
    | _, false =>
      if p.d.destKind = 0 then s.defaultEnd bad p .noMatch
      else
        match s.decap bad p with
        | (s, p, .fails) => s.defaultEnd bad p .noMatch
        | (s, p, _) => (s, .cross { p with reason := if p.d.punt.isSome then 1 else 0 })

/-- The ingress treatment of R134 up to the resolution; `c` is what the rule sets read. -/
def State.treat (s : State) (bad : List BadCell) (c : KeyCtx) (p : Packet) : State × PassEnd :=
  if p.parse.mal ≠ 0 then s.defaultEnd bad p .malformed
  else if p.parse.fragLater ∧ s.fragOn then
    match s.fragLookup bad p with
    | (s, none) => s.defaultEnd bad p .orphan
    | (s, some d) => s.resolvePass bad { p with d := d }
  else
    let r := s.ingressSets bad p.gens c p.port p.d
    if p.parse.inc ≠ 0 ∧ ¬ r.2.incRule then r.1.defaultEnd bad p .parseFail
    else
      let r := r.1.ecmpResolve bad r.2 p.hash
      r.1.resolvePass bad { p with d := r.2 }

/-- The packet that a pass ends with. -/
def PassEnd.packet : PassEnd → Packet
  | .drop p => p
  | .recirc p => p
  | .cross p => p

/-- What a fragment's first pass stores: a template that was a DECAP, or a second pass, stores nothing (R136). -/
def PassEnd.moved (before : Packet) : PassEnd → Bool
  | .drop _ => false
  | .recirc _ => true
  | .cross p => p.bytes != before.bytes

/-- The decision record of a packet that entered at a protected port (R92). The spec gives a destination ID and an egress
queue only for a local unicast packet; elsewhere they are the group, or 0 (log entry 19). -/
def State.recordDecision (s : State) (p : Packet) (dropped : Bool) : State :=
  if s.protectedPort p.port then
    let dest := if dropped then 0x1FFFFF else match p.d.punt with
      | some (_, false) => 0x1FFFFE
      | _ => p.d.dest
    let q := if dropped ∨ p.d.destKind ≠ 3 ∨ p.d.dest / 256 ≠ s.devId then 0
      else match s.chooseQueue (p.d.dest % 256) p.d.cls p.d.metadata with
        | some (q, _) => q
        | none => 0
    s.decisionRecord p.port dest q p.d.cls p.d.color
  else s

/-- The stored length that allocation uses (R217): P where it is known, the declared end of the kept CHECK, or MAX_FRAME;
`grown` is what rewriting at the end of the pass added. -/
def State.allocLen (s : State) (p : Packet) (grown : Int) : Nat :=
  if p.plen.isSome ∨ p.port = 132 then p.bytes.length + 32
  else match p.parse.kept with
    | some (_, _, d) => ((d : Int) + grown).toNat + 32
    | none => s.maxFrame p.port + 28

/-- A packet crosses, or is discarded before the link by a device that does not own its port (R91). -/
def State.crossOwned (s : State) (p : Packet) : State :=
  if p.standby then (s.stat 0x17 Reg.PAIR_DISCARD 0 1).dropPkt p else s.cross p

/-- Where the packet of a pass goes; `before` is its length before the rewriting at the end of the pass. -/
def State.passGo (s : State) (before : Nat) (e : PassEnd) : State :=
  match e with
  | .drop p => (s.recordDecision p true).dropPkt p
  | .cross p =>
    let s := s.recordDecision p false
    s.crossOwned { p with alloc := s.allocLen p ((p.bytes.length : Int) - before) }
  | .recirc p =>
    if p.bad then s.crossOwned p else { s with path := { s.path with recirc := s.path.recirc ++ [p] } }

/-- The end of a first pass corrects a PTP event message (R51). -/
def State.tcStep (s : State) (p : Packet) : State × Packet :=
  if p.pass = 1 then
    let r := s.tcIngress p.port p.trx p.bytes
    (r.1, { p with bytes := r.2.1, tcOpen := r.2.2 })
  else (s, p)

/-- A pass: parse, classify, resolve (R121 to R138, R149 to R159). An idle PRS or CLS drops it at its end (R34). -/
def State.pass (s : State) (bad : List BadCell) (p : Packet) (start : Nat) (ecpri : Bool) : State :=
  if ¬ s.blkEn 0x30 ∨ ¬ s.blkEn 0x32 then s.trb 0x00 4
  else
    let r := parseWalk (s.banks.parse.at p.gens.parse) bad (parseWindow p.bytes p.plen) start ecpri
    let s := s.parseReport p.mport r
    let p := { p with parse := r, hash := s.flowHash p.bytes r, l3ofs := l3Ofs r, tos := (egressKey p.bytes r).1,
                      proto := (egressKey p.bytes r).2.1, dport := (egressKey p.bytes r).2.2 }
    let c : KeyCtx := { eg := false, b := p.bytes, lim := passLimit p.plen, r := r, port := p.mport, pass := p.pass, d := p.d,
                        src := s.sysPort p.port, tos := none, proto := none, dport := none }
    let t := s.tcStep p
    let e := t.1.treat bad c t.2
    let s := if r.fragFirst ∧ r.mal = 0 ∧ e.1.fragOn then
        e.1.fragInsert { p with d := e.2.packet.d } (e.2.moved t.2)
      else e.1
    s.passGo t.2.bytes.length e.2

/-! ## The tail of a frame (R111, R132, R217) -/

/-- A frame's bytes settle it: giants, FCS, kept CHECKs; then the length fixups of a DECAP. The second part says that it
is bad. -/
def State.settleTail (s : State) (p : Packet) (len : Nat) (fcsOk : Bool) : State × Packet :=
  let giant := decide (s.maxFrame p.port < len)
  let s := if giant then (if p.port < 128 then s.ptrb p.port 5 else s)
    else if ¬ fcsOk then (if p.port < 128 then s.ptrb p.port 3 else s) else s
  let code := tailDefect p.parse.kept (len - 4)
  let s := if code ≠ 0 ∧ ¬ giant ∧ fcsOk then s.tailReport p.port p.parse.kept code else s
  let b := match p.fixLater with
    | some t => applyFixups t 0 p.hash p.bytes
    | none => p.bytes
  (s, { p with bytes := b, fixLater := none, tailDone := true, bad := p.bad || giant || !fcsOk || code != 0,
               plen := some b.length, parse := { p.parse with kept := none } })

/-- The rest of a frame reaches a packet that is already in the pipeline or beyond (R132). -/
def State.appendTail (s : State) (p : Packet) (rest : Bytes) : State × Packet :=
  let crc := rest.foldl (crc32Byte 0xEDB88320) p.crc
  let all := p.bytes ++ rest
  s.settleTail { p with bytes := all.take (all.length - 4), crc := crc, rxLen := p.rxLen + rest.length }
    (p.rxLen + rest.length) (crc == 0xDEBB20E3)

/-- The pass of a DIRECT packet: its parse serves the flow hash alone, no ingress rule set and no default action runs
(R347). -/
def State.directPass (s : State) (bad : List BadCell) (p : Packet) (start dest : Nat) : State :=
  if ¬ s.blkEn 0x30 ∨ ¬ s.blkEn 0x32 then s.trb 0x00 4
  else
    let r := parseWalk (s.banks.parse.at p.gens.parse) bad (parseWindow p.bytes p.plen) start false
    (s.parseReport p.mport r).passGo p.bytes.length
      (.cross { p with hash := s.flowHash p.bytes r, d := { p.d with destKind := 3, dest := dest } })

/-- A first pass starts on a frame (R121): a frame of more than 388 bytes that has arrived whole is settled at once. -/
def State.firstPass (s : State) (bad : List BadCell) (port : Nat) (f : InFrame) : State :=
  let p := s.packetOf port f
  let start := s.rdi Reg.PRS_PORT_p_START_STATE p.port
  match f.direct with
  | some dest => s.directPass bad p start dest
  | none => s.pass bad p start f.ecpri

/-- Settle the kept CHECKs of a packet whose tail arrived before its pass ended. -/
def State.settleWhole (s : State) (pid : Nat) : State :=
  let go := fun (a : State × List Packet) (p : Packet) =>
    if p.pid = pid ∧ p.tailDone ∧ p.parse.kept.isSome then
      let r := a.1.settleTail p p.rxLen true
      (r.1, a.2 ++ [{ r.2 with bad := p.bad || r.2.bad }])
    else (a.1, a.2 ++ [p])
  let a := s.path.d2d.foldl go (s, [])
  let b := s.path.recirc.foldl go (a.1, [])
  (b.2.filter (fun p => p.bad)).foldl State.crossOwned
    { b.1 with path := { b.1.path with d2d := a.2, recirc := b.2.filter (fun p => !p.bad) } }

/-- Back-pressure on a recirculation port holds its pipelines (R223). -/
def State.pipeHeld (s : State) (pipe : Nat) : Bool := (s.port (rccPort pipe)).admBp != 0

/-- A frame at the head of its FIFO can start parsing (R121). -/
def InFrame.ready (f : InFrame) : Bool := f.whole || decide (384 ≤ f.bytes.length)

/-! ## Meanings -/

/-- PARSE_START: the first pass of the frame at the head of a port's input FIFO (R121). -/
def execParseStart (port : Nat) (bad : List BadCell) (s : State) : Host.Outcome State Fault Refusal :=
  let pipe := portPipe port
  .next (match (s.port port).fifo with
    | f :: rest =>
      if f.ready ∧ s.runs (0x20 + pipe) ∧ ¬ s.pipeHeld pipe ∧ s.pwr.govRate ≠ 0 then
        let t := (s.setPort port { s.port port with fifo := rest }).fifoLevel port
        let t := t.stat (0x20 + pipe) Reg.PIPE_FIRST 0 1
        (t.firstPass bad port f).settleWhole f.pid
      else s
    | [] => s)

/-- SECOND_PASS_START: the first packet of a pipeline that waits for its second pass and whose tail has passed (R122,
R156). -/
def execSecondPassStart (pipe : Nat) (bad : List BadCell) (s : State) : Host.Outcome State Fault Refusal :=
  .next (match s.path.recirc.find? (fun p => p.pipe == pipe && p.tailDone) with
    | some p =>
      if s.runs (0x20 + pipe) ∧ ¬ s.pipeHeld pipe ∧ s.pwr.govRate ≠ 0 then
        let t := { s with path := { s.path with recirc := s.path.recirc.filter (fun q => q.pid != p.pid) } }
        let t := t.stat (0x20 + pipe) Reg.PIPE_SECOND 0 1
        t.pass bad { p with plen := some p.bytes.length } p.start2 p.parse.ecpri
      else s
    | none => s)

/-- FRAG_ENTRY_EXPIRE: the boundary from which an entry's slot is free (R138). -/
def execFragEntryExpire (bucket slot : Nat) (s : State) : Host.Outcome State Fault Refusal :=
  .next { s with path := { s.path with
    frag := s.path.frag.filter (fun e => !(e.bucket == bucket && e.slot == slot && !s.fragLive e)) } }

/-- FRAG_FLUSH (R140). -/
def execFragFlush (m : Master) (s : State) : Host.Outcome State Fault Refusal :=
  .next (s.onWrite m 0x31 0x120 (fun t => { t with path := { t.path with frag := [] } }))

end Sys2Proof.Machine
end

