-- ==== Sys2Proof/Machine/Icu.lean ====
section
/-! DEFINITION. Icu: the interrupt controller's claims, services and hold-offs, and the management cores (R365 to R380). -/
namespace Sys2Proof.Machine

/-- The master that core c is. -/
def coreMaster (c : Nat) : Master := if c = 0 then .core0 else if c = 1 then .core1 else if c = 2 then .core2 else .core3

/-- A read of ICU_CLAIM_c (R373). -/
def State.icuClaim (s : State) (c : Nat) : Nat × State :=
  match s.icu.insvc.getD c none with
  | some src => (src, s.trb 0x08 5)
  | none =>
    match s.bestSource c with
    | none => (0xFFFF, s.trb 0x08 3)
    | some src =>
      (src, { s with icu := { s.icu with
        insvc := setIdx s.icu.insvc c (some src)
        edge := if s.edgeSource src then without s.icu.edge src else s.icu.edge } })

/-- A write of ICU_DONE_c (R374, R376). -/
def State.icuDone (s : State) (c src : Nat) : State :=
  if s.icu.insvc.getD c none = some src then
    let held := if s.rdi Reg.ICU_HOLDOFF_g_US (src / 8) = 0 then s.icu.held else withNat s.icu.held (src / 8)
    { s with icu := { s.icu with insvc := setIdx s.icu.insvc c none, held := held } }
  else s.trb 0x08 4

/-- A write of ICU_DOORBELL (R370). -/
def State.doorbell (s : State) (v : Nat) : State := (bitsSet v 8).foldl (fun t n => t.setPend (120 + n)) s

/-- At the start of a Traverse every service ends with no hold-off (R377). -/
def State.icuTraverse (s : State) : State := { s with icu := { s.icu with insvc := [none, none, none, none], held := [] } }

/-- The state of core c (R366). -/
def State.coreState (s : State) (c : Nat) : Nat := s.rdi Reg.MGT_CORE_c_STAT_STATE c

/-- A core starts to run: its watchdog restarts; CORE2 lets the learning engine go on (R366, R367, R393). -/
def State.coreRun (s : State) (c : Nat) : State :=
  { s.wri Reg.MGT_CORE_c_STAT_STATE c 2 with
      mgt := { wdogStart := setIdx s.mgt.wdogStart c s.ns }
      learn := if c = 2 then { s.learn with held := false } else s.learn }

/-- Reset and reload a core: LOADING, one restart more (R366, R380). -/
def State.coreReload (s : State) (c : Nat) : State :=
  (s.wri Reg.MGT_CORE_c_STAT_STATE c 1).satp 0x0A Reg.MGT_CORE_c_STAT_RESTARTS c

/-- A write of MGT_CORE_c_CTL.RESET: from the host or CORE0 only, and ignored for core 0 (R380). -/
def State.coreResetCmd (s : State) (m : Master) (c : Nat) : State :=
  if (m = .host ∨ m = .core0) ∧ 1 ≤ c ∧ c < 4 then s.coreReload c else s

/-- A write of MGT_CORE_c_CTL.HALT: from the host or CORE0 only (R366, R380). -/
def State.coreHaltCmd (s : State) (m : Master) (c : Nat) (h : Bool) : State :=
  if (m = .host ∨ m = .core0) ∧ c < 4 then
    let t := s.wri Reg.MGT_CORE_c_CTL_HALT c (b01 h)
    if h ∧ s.coreState c = 2 then t.wri Reg.MGT_CORE_c_STAT_STATE c 3
    else if ¬ h ∧ s.coreState c = 3 then t.coreRun c
    else t
  else s

/-- A write of MGT_CORE_c_KICK (R367). -/
def State.kick (s : State) (c : Nat) : State := { s with mgt := { wdogStart := setIdx s.mgt.wdogStart c s.ns } }

/-- The watchdog of core c has run out (R367): enabled, the core runs (CORE0 also in FAULT), and the time has passed. -/
def State.wdogDue (s : State) (c : Nat) : Bool :=
  let ms := s.rdi Reg.MGT_CORE_c_WDOG_MS c
  ms != 0 && (s.coreState c == 2 || (c == 0 && s.coreState c == 4))
    && decide (s.mgt.wdogStart.getD c 0 + ms * 1000000 ≤ s.ns)

/-! ## Meanings -/

/-- ICU_CLAIM: core c reads its claim register (R373). -/
def execIcuClaim (core : Nat) (s : State) : Host.Outcome State Fault Refusal :=
  .next (if core < 4 then s.onRead (coreMaster core) 0x08 (0x110 + 0x10 * core) (fun t => t.icuClaim core) else s)

/-- ICU_DONE (R374, R376). -/
def execIcuDone (core src : Nat) (s : State) : Host.Outcome State Fault Refusal :=
  .next (if core < 4 then s.onWrite (coreMaster core) 0x08 (0x114 + 0x10 * core) (fun t => t.icuDone core src) else s)

/-- ICU_DOORBELL (R370). -/
def execIcuDoorbell (m : Master) (bits : Byte) (s : State) : Host.Outcome State Fault Refusal :=
  .next (s.onWrite m 0x08 0x1F0 (fun t => t.doorbell bits.toNat))

/-- HOLDOFF_EXPIRE: the hold-off of a group has passed (R376). -/
def execHoldoffExpire (g : Nat) (s : State) : Host.Outcome State Fault Refusal :=
  .next { s with icu := { s.icu with held := without s.icu.held g } }

/-- GPIO_FILTERED: a change passes the glitch filter of GPIO n (R370, R371); in STANDBY any change wakes (R378). -/
def execGpioFiltered (n : Nat) (level : Bool) (s : State) : Host.Outcome State Fault Refusal :=
  .next (if n < 8 ∧ s.mode = 0 then
      (if s.icu.gpioLevel.getLsbD n = level then s
       else ({ s with icu := { s.icu with
          gpioLevel := BitVec.ofNat 8 (setBit s.icu.gpioLevel.toNat n level) } }).wake (112 + n))
    else if n < 8 ∧ s.rdi Reg.ICU_GPIO_n_FILT n ≠ 0 ∧ s.pagePowered 0x08 then
      let t := { s with icu := { s.icu with
        gpioLevel := BitVec.ofNat 8 (setBit s.icu.gpioLevel.toNat n level) } }
      let active := level != (s.rdi Reg.ICU_GPIO_n_POL n == 1)
      if s.rdi Reg.ICU_GPIO_n_EDGE n = 1 ∧ active ∧ s.icu.gpioLevel.getLsbD n ≠ level then t.setPend (112 + n) else t
    else s)

/-- CORE_RESET (R366, R380). -/
def execCoreReset (m : Master) (core : Nat) (s : State) : Host.Outcome State Fault Refusal :=
  .next (if core < 4 then s.onWrite m 0x0A (0x100 + 0x10 * core) (fun t => t.coreResetCmd m core) else s)

/-- CORE_HALT (R366, R380). -/
def execCoreHalt (m : Master) (core : Nat) (halt : Bool) (s : State) : Host.Outcome State Fault Refusal :=
  .next (if core < 4 then s.onWrite m 0x0A (0x100 + 0x10 * core) (fun t => t.coreHaltCmd m core halt) else s)

/-- CORE_LOAD_DONE: the image being loaded verified or was refused (R366). -/
def execCoreLoadDone (core : Nat) (ok : Bool) (s : State) : Host.Outcome State Fault Refusal :=
  .next (if core < 4 ∧ s.coreState core = 1 then
      if ok then s.coreRun core else s.wri Reg.MGT_CORE_c_STAT_STATE core 4
    else s)

/-- WATCHDOG_KICK (R367). -/
def execWatchdogKick (m : Master) (core : Nat) (s : State) : Host.Outcome State Fault Refusal :=
  .next (if core < 4 then s.onWrite m 0x0A (0x10C + 0x10 * core) (fun t => t.kick core) else s)

/-- AGENT_ACCESS_FAULT: the agent reached for what it may not (R368). -/
def execAgentAccessFault (addr : Nat) (write : Bool) (s : State) : Host.Outcome State Fault Refusal :=
  .next ((((s.wr Reg.MGT_AGENT_FAULT_ADDR addr).wr Reg.MGT_AGENT_FAULT_INFO_WRITE (b01 write)).trb 0x0A 5).emit
    (.unsupported .core3))

/-- CORE_FATAL_TRAP: a running core stops (R366). -/
def execCoreFatalTrap (core : Nat) (s : State) : Host.Outcome State Fault Refusal :=
  .next (if core < 4 ∧ s.coreState core = 2 then s.wri Reg.MGT_CORE_c_STAT_STATE core 4 else s)

end Sys2Proof.Machine
end

