-- ==== Sys2Proof/Machine/Resets.lean ====
section
/-! DEFINITION. Resets: what each reset and each loss of power clears (R425 to R432), and the reset commands. -/
namespace Sys2Proof.Machine

/-! ## Register clears (R425, R28) -/

/-- The field whose active value a key holds, on its page. -/
def fieldOfKey (k : Nat) : Option Fld :=
  let pg := k / 64 / 4096
  (pageFields pg).find? (fun f => f.instances.any (fun i => fkey pg f i == k))

/-- A key of page `p` whose field's class is among those cleared. -/
def keyCleared (p : Nat) (cls : List Ret) (k : Nat) : Bool :=
  k / 64 / 4096 == p && (match fieldOfKey k with
    | some f => cls.contains f.ret
    | none => false)

/-- Live status that a register clear does not change: the governing and running channels (R47), the endpoint's link
(R423), the die-to-die link (R295). Log entry 13. -/
def liveFields : List (Nat × Fld) :=
  [(0x13, Reg.SPN_STAT_ACTIVE), (0x13, Reg.SPN_STAT_RUNNING), (0x13, Reg.SPN_STAT_RESTARTING),
   (0x0B, Reg.HIF_STAT_LINK_UP), (0x0B, Reg.HIF_STAT_SPEED), (0x0B, Reg.HIF_STAT_WIDTH),
   (0x7C, Reg.D2D_STAT_UP), (0x7C, Reg.D2D_STAT_TIME_LOCK), (0x7C, Reg.D2D_STAT_CH_USED)]

/-- The keys of the live status of a page. -/
def liveKeys : List Nat := liveFields.map (fun p => fkey p.1 p.2 0)

/-- Clear the fields of a page whose class is listed; clearing S fields, or anything above, drops staged copies (R28). -/
def State.clearRegs (s : State) (keepLive : Bool) (cls : List Ret) (p : Nat) : State :=
  { s with regs := { s.regs with
      active := s.regs.active.filter (fun e => !(keyCleared p cls e.1) || (keepLive && liveKeys.contains e.1))
      staged := if cls.contains .s then s.regs.staged.filter (fun e => e.1 / 64 / 4096 != p) else s.regs.staged
      rdLatch := s.regs.rdLatch.filter (fun e => e.1.2 % 0x1000 != p)
      wrLow := s.regs.wrLow.filter (fun e => e.1.2 / 4096 != p) } }

/-! ## State beyond the registers -/

/-- Discard every buffered packet and count (R231): queues empty, the free store to be rebuilt. -/
def State.discardBuffers (s : State) : State :=
  { s with buf := { BufSt.initial with sizes := s.buf.sizes, nextBid := s.buf.nextBid }, q := QueueSt.initial }

/-- Empty the exact-match tables; new seeds are drawn (R174). -/
def State.emptyExm (s : State) : State :=
  ({ s with exm := { ExmSt.initial with seedDraw := s.fresh } }).draw

/-- Empty the fragment table; its seed is drawn (R135, R140). -/
def State.emptyFrag (s : State) : State := { s with path := { s.path with frag := [] } }

/-- A new seed of the fragment table's bucket hash (R135). -/
def State.seedFrag (s : State) : State := ({ s with path := { s.path with fragSeed := s.fresh } }).draw

/-- Credit and reassembly state (R319). -/
def State.clearCredits (s : State) : State :=
  { s with fab := { FabSt.initial with links := s.fab.links } }

/-- A stack loses its contents and requests with its domain; its delays are kept (R336). -/
def State.hbmLoss (s : State) (n : Nat) : State :=
  { s with hbm := { s.hbm with
      reqs := s.hbm.reqs.filter (fun r => hbmStack r.addr != n)
      waiting := s.hbm.waiting.filter (fun r => hbmStack r.addr != n)
      badWords := s.hbm.badWords.filter (fun w => hbmStack (32 * w) != n)
      mem := s.hbm.mem.filter (fun c => hbmStack c.1 != n)
      drain := s.hbm.drain.filter (fun q => q / 32 != n), openRows := s.hbm.openRows.filter (fun e => e.1 / 512 != n) } }

/-- A list of words whose contents are lost: free values (R336, log entry 25). -/
def State.lostWords (s : State) (l : List Nat) : List Nat :=
  (List.range l.length).map (fun i => (Config.freeValue (s.fresh + i)).toNat)

/-- What the table region held is lost with an HBM domain: tables 16 to 18 return to their reset content (R255), exact match
in MAXIMAL empties (R429), and the HBM part of the routes, the calendars and the timetables hold free values (R336, log
entry 25). -/
def State.hbmTablesLost (s : State) : State :=
  let s := { s with tab := { s.tab with polCfg := [], polTok := [], ctr := [] } }
  let s := if s.rd Reg.LPM_STAT_PROFILE = 2 then s.emptyExm else s
  let img := s.banks.lpm.active.body
  let lpm := { s.banks.lpm with active := { s.banks.lpm.active with body := { img with hbmNodes := s.lostWords img.hbmNodes } } }
  let cal := fun (e : Nat × Banked Calendar) =>
    let c := e.2.active.body
    (e.1, { e.2 with active := { e.2.active with body := { c with index := s.lostWords c.index, entries := s.lostWords c.entries } } })
  let tt := fun (t : Timetable) => { t with entries := t.entries.map (fun x => (x.1, s.freeNat)) }
  let gate := fun (e : Nat × GatePort) => (e.1, { e.2 with ttActive := e.2.ttActive.map tt, ttPending := e.2.ttPending.map tt })
  ({ s with banks := { s.banks with lpm := lpm, cals := s.banks.cals.map cal }, gates := s.gates.map gate }).draw

/-- State of class V that stands beside a page's registers. -/
def State.clearVolatile (s : State) (p : Nat) : State :=
  if p = 0x10 then { s with time := { s.time with phaseRem := 0, slewTerm := 0, todRx := [], todTx := [], todAcc := 0 } }
  else if p = 0x14 then { s with time := { s.time with tsq := [], tsqLatch := 0 } }
  else if p = 0x13 then { s with spine := SpineSt.initial }
  else if p = 0x17 then { s with pair := PairSt.initial }
  else if 0x20 ≤ p ∧ p ≤ 0x2F then { s with path := { s.path with pipeFrom := s.path.pipeFrom.set 0 (p - 0x20) s.ns } }
  else if p = 0x38 then { s with path := { s.path with rccTok := [(0, (0, s.ns)), (1, (0, s.ns)), (2, (0, s.ns)), (3, (0, s.ns))] } }
  else if p = 0x08 then s.icuTraverse
  else if p = 0x09 then { s with pmu := { s.pmu with val := [], wrap := [], ceCount := 0 } }
  else if p = 0x0B then { s with host := { s.host with tags := [], quarantine := [], holdFrom := 0, holdOver := false } }
  else if p = 0x0C then { s with q := { s.q with punt := [] } }
  else if p = 0x0E then
    (s.host.winHeld.filter (fun x => x.peer.isNone && x.write.isNone)).foldl (fun t _ => t.emit (.unsupported .host))
      { s with host := { s.host with winOld := [], winHeld := [] } }
  else if p = 0x3A then { s with shd := { finds := [] } }
  else if p = 0x57 then { s with lat := { s.lat with samples := [], worst := (0, 0) } }
  else if 0x40 ≤ p ∧ p ≤ 0x47 then
    { s with path := { s.path with ports := s.path.ports.filter (fun e => e.1 / 16 != p - 0x40) } }
  else if 0x72 ≤ p ∧ p ≤ 0x79 then
    { s with fab := { s.fab with links := s.fab.links.filter (fun e => e.1 / 5 != p - 0x72) } }
  else s

/-- The log entry of a cairn that a reset discards (R72, R81). -/
def discardedEntry (epoch : Nat) (a : Armed) : CrnLog :=
  { target := a.target, seq := a.seq, mask := a.mask, status := 8, scope := a.scope, remote := a.remote,
    origin := a.origin, arrival := epoch }

/-- The armed list and the log at a reset that reaches the CRN page (R72). -/
def State.discardCairns (s : State) : State :=
  let l := s.cairn.armed.map (discardedEntry s.epoch)
  ({ s with cairn := { s.cairn with armed := [], log := l.reverse.take 16, seen := [] } }).trbN 0x16 7 l.length

/-- State of class S that stands beside a page's registers: what a WARM or BLOCK reset, but no Traverse, clears. -/
def State.clearCommitted (s : State) (p : Nat) : State :=
  if p = 0x16 then s.discardCairns
  else if p = 0x08 then { s with icu := { s.icu with edge := [] } }
  else if p = 0x01 then { s with banks := { s.banks with plan := Banks.initial.plan } }
  else if p = 0x30 then { s with banks := { s.banks with parse := Banks.initial.parse } }
  else if p = 0x32 then { s with banks := { s.banks with sets := Banks.initial.sets } }
  else if p = 0x33 then { s with banks := { s.banks with lpm := Banks.initial.lpm } }
  else if p = 0x37 then { s with banks := { s.banks with tmpl := Banks.initial.tmpl } }
  else if p = 0x53 then
    { s with banks := { s.banks with cals := [] }, sched := [] }
  else if p = 0x56 then { s with banks := { s.banks with cycs := [] }, gates := [] }
  else if p = 0x71 then { s with banks := { s.banks with frt := Banks.initial.frt } }
  else if p = 0x7A then { s with banks := { s.banks with fmc := Banks.initial.fmc } }
  else if p = 0x57 then { s with lat := { s.lat with watchStg := [] } }
  else if p = 0x31 then s.emptyFrag
  else if p = 0x35 then { s with learn := { s.learn with queue := [], recent := [] } }
  else if p = 0x39 then { s with tdm := { TdmSt.initial with applySel := s.tdm.applySel, applyRunning := s.tdm.applyRunning } }
  else if p = 0x50 ∨ p = 0x51 then s.discardBuffers
  else if p = 0x68 then { s with hbm := { s.hbm with latMax := [], reqCnt := [], overdueCnt := [] } }
  else if p = 0x7B then s.clearCredits
  else s

/-- A WARM or BLOCK reset of one page (R425). -/
def State.clearPage (s : State) (p : Nat) : State :=
  ((s.clearRegs true [.s, .v] p).clearVolatile p).clearCommitted p

/-- The loss of a domain: V fields return to reset, memories of the domain lose what R429 says. -/
def State.domainLoss (s : State) (d : Nat) : State :=
  let pages := allPages.filter (fun p => pageDomain p == d)
  let s := pages.foldl (fun t p => (t.clearRegs false [.v] p).clearVolatile p) s
  if d = 11 then
    let s := s.emptyExm
    { s with tab := { s.tab with bd := [], nh := [], ecmp := [], member := [], adj := [] } }
  else if d = 17 then s.emptyFrag
  else if d = 18 then
    { s with tab := { s.tab with shpStg := [], shpAct := [], shpTok := [], snStg := [], snAct := [], anStg := [],
                                  anAct := [] }, sched := [] }
  else if d = 19 then s.discardBuffers
  else if 20 ≤ d ∧ d ≤ 27 then (s.hbmLoss (d - 20)).hbmTablesLost
  else if d = 32 then s.clearCredits
  else s

/-- Everything that STANDBY loses besides registers (R425, R429). -/
def State.standbyLoss (s : State) : State :=
  let s := (s.emptyExm).emptyFrag
  { s with buf := BufSt.initial, q := QueueSt.initial, time := { TimeSt.initial with ptpPort := [], ptpLat := [] }, spine := SpineSt.initial, pair := PairSt.initial,
           cairn := { armed := [], log := [], seen := [] }, banks := Banks.initial,
           path := { s.path with ports := [], recirc := [], d2d := [], dropped := [], mcrq := [], rccTok := [] },
           learn := LearnSt.initial, tab := Tables.initial, sched := [], gates := [], lat := LatSt.initial,
           fab := FabSt.initial, hbm := HbmSt.initial,
           host := { HostSt.initial with bme := false, nextTid := s.host.nextTid },
           icu := { IcuSt.initial with gpioLevel := s.icu.gpioLevel }, pmu := PmuSt.initial, tdm := TdmSt.initial, shd := { finds := [] },
           d2d := { failed := [] }, rst := { RstSt.initial with cold := s.rst.cold },
           mgt := { wdogStart := [0, 0, 0, 0] },
           boot := { BootSt.initial with rec0 := s.boot.rec0, rec1 := s.boot.rec1, partA := s.boot.partA, partB := s.boot.partB,
                                         staging := s.boot.staging },
           sec := { SecSt.initial with burned := s.sec.burned, revoked := s.sec.revoked },
           pins := { s.pins with sharedOut := false } }

/-! ## Time at a WARM reset (R48, R49) -/

/-- LOCKED, ACQUIRING and TRAVERSE_HOLD go to HOLDOVER, or to FREE without VALID. -/
def State.timeWarm (s : State) : State :=
  if s.tState = 1 ∨ s.tState = 2 ∨ s.tState = 4 then s.holdOrFree else s

/-! ## The record of resets (R432) -/

/-- Record a reset: its code, its source, its epoch. -/
def State.recordReset (s : State) (last src : Nat) : State :=
  let e := s.epoch
  (((s.wr Reg.RST_STAT_LAST last).wr Reg.RST_STAT_SRC src).wr Reg.RST_LAST_EPOCH_LO_EPOCH e).wr
    Reg.RST_LAST_EPOCH_HI_EPOCH (e / 2 ^ 32)

/-- Release the belay before a register clear (R428). -/
def State.belayRelease (s : State) : State := if s.pins.belayOut then s.pairRelease else s

/-! ## WARM (R422, R430) -/

/-- A WARM reset begins: BUSY, DMA stops, the belay is released, the cores go OFF, table DMA is abandoned; smaller resets
are absorbed (R427, R430). -/
def State.warmBegin (s : State) (src : Nat) : State :=
  if s.mode = 0 ∨ s.rst.warm then s
  else
    let s := s.belayRelease
    let s := (List.range 4).foldl (fun t c => t.wri Reg.MGT_CORE_c_STAT_STATE c 0) s
    let s := s.clearCommitted 0x39
    let s := (s.recordReset 2 src).satp 0x02 Reg.RST_CNT_WARM 0
    { s.wr Reg.RST_STAT_BUSY 1 with
        rst := { s.rst with warm := true, flr := false, blocks := [] } }

/-- The register clear of a WARM reset ends: every page is cleared, the mode is BOOT, time holds over (R430). -/
def State.warmEnd (s : State) : State :=
  let s := allPages.foldl (fun t p => t.clearPage p) s
  let s := s.timeWarm
  let s := { s with
    path := { s.path with recirc := [], d2d := [], dropped := [], mcrq := [] }
    rst := { s.rst with warm := false, headless := false }
    boot := { s.boot with headlessAt := none, traverseDelayed := false, startDue := true, verified := false, runHdr := [] }
    pwr := { s.pwr with modeAfter := if s.pwr.modeAfter.isSome then some 1 else none, empties := 0 } }
  (s.pairSettle).evt 0x02 0

/-! ## FLR (R422, R423, R427) -/

/-- An FLR begins: the function's configuration resets, Bus Master Enable with it; containment and window swaps end. -/
def State.flrBegin (s : State) (src : Nat) : State :=
  if s.mode = 0 ∨ s.rst.warm then s
  else
    let s := (s.recordReset 3 src).satp 0x02 Reg.RST_CNT_FLR 0
    { s.wr Reg.RST_STAT_BUSY 1 with
        rst := { s.rst with flr := true }, host := { s.host with bme := false } }

/-- The register clear of an FLR ends (R422, R432). -/
def State.flrEnd (s : State) : State :=
  let s := hostPages.foldl (fun t p => t.clearPage p) s
  ({ s.wr Reg.RST_STAT_BUSY 0 with rst := { s.rst with flr := false } }).evt 0x02 0

/-! ## BLOCK (R422, R424) -/

/-- Pages whose BLOCK reset is refused (R424). -/
def blockRefused (p : Nat) : Bool := [0x00, 0x01, 0x02, 0x06, 0x07, 0x08, 0x0A].contains p

/-- A BLOCK reset of a page begins: the page is cleared and answers as R426 says until it is done. -/
def State.blockBegin (s : State) (p : Nat) : State :=
  if blockRefused p then s.trb 0x02 3
  else if s.rst.warm ∨ (s.rst.flr ∧ hostPages.contains p) ∨ s.rst.blocks.contains p then s
  else
    let s := s.clearPage p
    let s := if p = 0x17 then s.pairSettle else s
    { s with rst := { s.rst with blocks := withNat s.rst.blocks p } }

/-- A BLOCK reset is done (R432). -/
def State.blockEnd (s : State) (p : Nat) : State :=
  let s := { s with rst := { s.rst with blocks := without s.rst.blocks p } }
  ((s.recordReset 5 0).satp 0x02 Reg.RST_CNT_BLOCK_COUNT 0).wr Reg.RST_LAST_BLOCK_PAGE p

/-! ## COLD (R422, R428, R431) -/

/-- The end of CHIP_PORST_L: the machine as reset leaves it. Boot flash, burned fuses, the seating and power-good inputs,
the free-value counter, the queue and the record of outputs stand outside the reset. New seeds are drawn (R174, R135). -/
def State.coldStart (s : State) (straps : Byte) (seat present : Bool) : State :=
  let r := State.reset
  let t := { r with
    pins := { r.pins with straps := straps, seat := seat, present := present, seated := s.pins.seated,
                          seatedQualified := s.pins.seatedQualified, pgIn := s.pins.pgIn, belayIn := s.pins.belayIn,
                          belayInQuiet := s.pins.belayInQuiet, hostPerst := s.pins.hostPerst, sdref := s.pins.sdref }
    boot := { BootSt.initial with rec0 := s.boot.rec0, rec1 := s.boot.rec1, partA := s.boot.partA,
                                   partB := s.boot.partB, staging := s.boot.staging }
    sec := { SecSt.initial with burned := s.sec.burned, revoked := s.sec.revoked }
    fresh := s.fresh, outbox := s.outbox, pending := s.pending }
  (t.emptyExm).seedFrag

/-! ## Meanings -/

/-- COLD_RESET (R422, R428, R431, R447, R456). -/
def execColdReset (straps : Byte) (seat present : Bool) (s : State) : Host.Outcome State Fault Refusal :=
  .next (s.coldStart straps seat present)

/-- A HOST_PERST_L pulse resets: 100 µs or longer, or between 1 and 100 µs at will (R456). -/
def State.perstResets (s : State) (us : Nat) : Bool := decide (100 ≤ us) || (decide (1 ≤ us) && Config.freePulse s.fresh)

/-- The endpoint's own part of a fundamental reset: configuration space and link (R423). -/
def State.endpointReset (s : State) : State :=
  let s := { s with host := { s.host with bme := false }, pins := { s.pins with hostPerst := true } }
  ((s.wr Reg.HIF_STAT_LINK_UP 0).wr Reg.HIF_STAT_SPEED 0).wr Reg.HIF_STAT_WIDTH 0

/-- HOST_PERST: the pin is asserted for so many microseconds (R422, R423, R456). -/
def execHostPerst (us : Nat) (s : State) : Host.Outcome State Fault Refusal :=
  let t := if 1 ≤ us ∧ us < 100 then s.draw else s
  .next (if s.perstResets us then
      let t := t.endpointReset
      if s.rdb Reg.RST_CFG_PERST_SCOPE then t.flrBegin 1 else t.warmBegin 1
    else t)

/-- SOFT_WARM (R422, R430). -/
def execSoftWarm (m : Master) (s : State) : Host.Outcome State Fault Refusal :=
  .next (s.onWrite m 0x00 0x104 (fun t => t.warmBegin 2))

/-- FLR: a Function Level Reset from the host (R422, R423). -/
def execFlr (s : State) : Host.Outcome State Fault Refusal := .next (s.flrBegin 3)

/-- FLR_CLEAR_DONE (R422, R432). -/
def execFlrClearDone (s : State) : Host.Outcome State Fault Refusal := .next (if s.rst.flr then s.flrEnd else s)

/-- BLK_SRST (R30, R424). -/
def execBlkSrst (m : Master) (page : Nat) (s : State) : Host.Outcome State Fault Refusal :=
  .next (s.onWrite m page 0x008 (fun t => t.blockBegin page))

/-- HOST_PERST_DEASSERT: source 16 (R369). -/
def execHostPerstDeassert (s : State) : Host.Outcome State Fault Refusal :=
  .next (({ s with pins := { s.pins with hostPerst := false } }).setPend 16)

/-- HRX_IDLE_EXIT: source 17 (R369). -/
def execHrxIdleExit (s : State) : Host.Outcome State Fault Refusal := .next (s.setPend 17)

end Sys2Proof.Machine
end

