-- ==== Sys2Proof/Machine/Buffers.lean ====
section
/-! DEFINITION. Buffers: pools, the free store, descriptors, occupancy and back-pressure (R213 to R223, R231), and the
flow counters' queue (R251). -/
namespace Sys2Proof.Machine

/-! ## Runs of indices -/

/-- Indices in a list of runs. -/
def runsLen (l : List (Nat × Nat)) : Nat := (l.map Prod.snd).sum

/-- The first n indices of a list of runs, and the rest. -/
def runsTake (n : Nat) (l : List (Nat × Nat)) : List (Nat × Nat) × List (Nat × Nat) :=
  match l with
  | [] => ([], [])
  | (i, k) :: t =>
    if n = 0 then ([], (i, k) :: t)
    else if k ≤ n then let r := runsTake (n - k) t; ((i, k) :: r.1, r.2)
    else ([(i, n)], (i + n, k - n) :: t)

/-! ## Pools (R214, R218) -/

/-- Buffer size of pool n (R214). -/
def bufSize (n : Nat) : Nat := [256, 1024, 4096, 16384].getD n 0

/-- Buffers of a pool of so many GiB. -/
def poolBuffers (n gib : Nat) : Nat := gib * 2 ^ 30 / (if bufSize n = 0 then 1 else bufSize n)

/-- First byte of pool n; 0 when absent (R214, R232). -/
def poolBase (sizes : List Nat) (n : Nat) : Nat :=
  if sizes.getD n 0 = 0 then 0 else 0x0200000000 + (sizes.take n).sum * 2 ^ 30

/-- A pool as a rebuild leaves it: every buffer in index order, the cache filled (R218). -/
def rebuildPool (sizes : List Nat) (n : Nat) : Pool :=
  let t := poolBuffers n (sizes.getD n 0)
  { base := poolBase sizes n, total := t, ring := if 4096 < t then [(4096, t - 4096)] else [],
    cache := if t = 0 then [] else [(0, min 4096 t)] }

/-- No pool. -/
def Pool.absent : Pool := { base := 0, total := 0, ring := [], cache := [] }

/-- Pool n. -/
def State.pool (s : State) (n : Nat) : Pool := s.buf.pools.getD n Pool.absent

/-- Replace pool n. -/
def State.setPool (s : State) (n : Nat) (p : Pool) : State := { s with buf := { s.buf with pools := setIdx s.buf.pools n p } }

/-- A pool is present (R214). -/
def State.poolPresent (s : State) (n : Nat) : Bool := s.buf.sizes.getD n 0 != 0

/-- Move up to 1,024 indices from the ring into the cache (R218). -/
def Pool.refill (p : Pool) : Pool :=
  let r := runsTake 1024 p.ring
  { p with ring := r.2, cache := p.cache ++ r.1 }

/-- Take one index: from the cache, refilled first where it is empty (R218). -/
def Pool.take (p : Pool) : Option (Nat × Pool) :=
  let p := if p.cache.isEmpty then p.refill else p
  match (runsTake 1 p.cache).1 with
  | (i, _) :: _ => some (i, { p with cache := (runsTake 1 p.cache).2 })
  | [] => none

/-- Take a buffer of pool n. -/
def State.takeFrom (s : State) (n : Nat) : Option (Nat × State) :=
  (s.pool n).take.map (fun r => (r.1, s.setPool n r.2))

/-- A failed allocation (R219, R226). -/
def State.allocFail (s : State) (n : Option Nat) : State :=
  let s := match n with
    | some n => s.stat 0x50 Reg.BPM_FAIL_n n 1
    | none => s
  (((s.trb 0x50 3).evt 0x50 0).trb 0x51 4).evt 0x51 0

/-- The pool that a stored length selects (R216). -/
def State.poolFor (s : State) (len : Nat) : Option Nat :=
  [0, 1, 2, 3].find? (fun n => s.poolPresent n && decide (len ≤ bufSize n))

/-- Take a buffer for a stored length (R216, R219): pool and index. A length beyond every present pool fails (log
entry 20). -/
def State.allocate (s : State) (len : Nat) : State × Option (Nat × Nat) :=
  match s.poolFor len with
  | none => (s.allocFail none, none)
  | some n =>
    match s.takeFrom n with
    | some (i, t) => (t, some (n, i))
    | none =>
      if s.rdi Reg.BPM_POOL_n_MODE n = 0 then (s.allocFail (some n), none)
      else
        match [0, 1, 2, 3].find? (fun m => decide (n < m) && s.poolPresent m) with
        | none => (s.allocFail (some n), none)
        | some m =>
          match s.takeFrom m with
          | some (i, t) => ((t.stat 0x50 Reg.BPM_FALLBACK_n n 1).trb 0x50 4, some (m, i))
          | none => (s.allocFail (some n), none)

/-- Return a buffer to its pool's cache. -/
def State.giveBack (s : State) (n i : Nat) : State :=
  s.setPool n { s.pool n with cache := (s.pool n).cache ++ [(i, 1)] }

/-! ## Descriptors (R220) -/

/-- Take a descriptor and write it, or count the loss. -/
def State.takeDesc (s : State) : State × Bool :=
  if s.buf.descFree = 0 then ((s.trb 0x51 5).evt 0x51 0, false)
  else (({ s with buf := { s.buf with descFree := s.buf.descFree - 1 } }).drqDesc true, true)

/-- Return descriptors. -/
def State.giveDesc (s : State) (n : Nat) : State := { s with buf := { s.buf with descFree := s.buf.descFree + n } }

/-! ## Occupancy and back-pressure (R222, R223) -/

/-- The profile of a source port and class. -/
def State.admProf (s : State) (p c : Nat) : Nat := bits (s.rdi Reg.ADM_MAP_p p) (4 * c + 3) (4 * c)

/-- OCC(p, c): buffers, and frames of the class that wait in the port's input FIFO (R222). -/
def State.occOf (s : State) (p c : Nat) : Nat :=
  s.buf.occ.get 0 (8 * p + c) + (((s.port p).fifo.filter (fun f => f.cls == c)).map (fun f => f.bytes.length)).sum

/-- The state of back-pressure that an evaluation of OCC leaves (R223). -/
def bpNext (was : Bool) (occ xoff xon : Nat) : Bool :=
  if xoff = 0 then false
  else if was then decide ((if xoff ≤ xon then xoff - 1 else xon) * 1024 < occ)
  else decide (xoff * 1024 ≤ occ)

/-- Evaluate OCC(p, c): back-pressure is asserted or released, and a network port answers (R223, R113). -/
def State.evalBp (s : State) (p c : Nat) : State :=
  if p = 133 then s
  else
    let x := s.port p
    let k := s.admProf p c
    let b := bpNext (x.admBp.getLsbD c) (s.occOf p c) (s.rdi Reg.ADM_PROF_k_XOFF_KIB k) (s.rdi Reg.ADM_PROF_k_XON_KIB k)
    let t := s.setPort p { x with admBp := BitVec.ofNat 8 (setBit x.admBp.toNat c b) }
    if p < 128 then t.fcUpdate p else t

/-- Count bytes of a new buffer in OCC, or in FOCC for a fabric arrival. -/
def State.occAdd (s : State) (fabric : Bool) (p c n : Nat) : State :=
  if fabric then { s with buf := { s.buf with focc := s.buf.focc.set 0 c (s.buf.focc.get 0 c + n) } }
  else ({ s with buf := { s.buf with occ := s.buf.occ.set 0 (8 * p + c) (s.buf.occ.get 0 (8 * p + c) + n) } }).evalBp p c

/-- Take bytes of a freed buffer out again. -/
def State.occSub (s : State) (fabric : Bool) (p c n : Nat) : State :=
  if fabric then { s with buf := { s.buf with focc := s.buf.focc.set 0 c (s.buf.focc.get 0 c - n) } }
  else ({ s with buf := { s.buf with occ := s.buf.occ.set 0 (8 * p + c) (s.buf.occ.get 0 (8 * p + c) - n) } }).evalBp p c

/-! ## Buffers in use (R221) -/

/-- The buffer numbered bid. -/
def State.buffer (s : State) (bid : Nat) : Option Buffer := s.buf.bufs.lookup bid

/-- Store a buffer. -/
def State.setBuffer (s : State) (b : Buffer) : State := { s with buf := { s.buf with bufs := s.buf.bufs.insert b.bid b } }

/-- Address of a buffer in HBM (R213, R214). -/
def State.bufAddr (s : State) (pool idx : Nat) : Nat := (s.pool pool).base + idx * bufSize pool

/-- Bytes of a packet go to its buffer, from byte `from_` of the packet on, behind the 32-byte header (R216, R322); the
header is written with the first of them. -/
def State.bufWrite (s : State) (b : Buffer) (from_ : Nat) : State :=
  let lo := if from_ = 0 then 0 else 32 + from_
  s.drqAccess 0 (s.bufAddr b.pool b.idx + lo) (32 + b.pkt.bytes.length - lo) true

/-- A packet is read from its buffer (R322). -/
def State.bufRead (s : State) (bid : Nat) : State :=
  match s.buffer bid with
  | some b => s.drqAccess 1 (s.bufAddr b.pool b.idx) (32 + b.pkt.bytes.length) false
  | none => s

/-- Put a packet into a newly taken buffer, counted in OCC or FOCC; no copies yet. An admission clears DRAINED (R408). -/
def State.newBuffer (s : State) (k : Nat × Nat) (p : Packet) (fabric : Bool) (port cls charge : Nat) : State × Nat :=
  let bid := s.buf.nextBid
  let b : Buffer := { bid := bid, pool := k.1, idx := k.2, pkt := p, refs := 0, fabric := fabric, occPort := port,
                      occCls := cls, charge := charge }
  let s := ((s.setBuffer b).bufWrite b 0).wr Reg.TOP_STAT_DRAINED 0
  (({ s with buf := { s.buf with nextBid := bid + 1 } }).occAdd fabric port cls charge, bid)

/-- A buffer returns to its pool. -/
def State.freeBuffer (s : State) (b : Buffer) : State :=
  let s := { s with buf := { s.buf with bufs := s.buf.bufs.erase b.bid } }
  (s.giveBack b.pool b.idx).occSub b.fabric b.occPort b.occCls b.charge

/-- One decrement of a reference count (R221): at 0 the buffer is free; below 0 nothing is freed. -/
def State.unref (s : State) (bid : Nat) : State :=
  match s.buffer bid with
  | none => s.trb 0x50 6
  | some b =>
    if b.refs = 0 then s.trb 0x50 6
    else if b.refs = 1 then s.freeBuffer b
    else s.setBuffer { b with refs := b.refs - 1 }

/-- One copy leaves or is discarded: its descriptor is read and returns, and its reference goes (R220, R221). -/
def State.decRef (s : State) (bid : Nat) : State := ((s.drqDesc false).giveDesc 1).unref bid

/-- Set the packet of a buffer; bytes that it did not hold are written. -/
def State.setPacket (s : State) (bid : Nat) (p : Packet) : State :=
  match s.buffer bid with
  | some b =>
    let n := { b with pkt := p }
    let t := s.setBuffer n
    if b.pkt.bytes.length < p.bytes.length then t.bufWrite n b.pkt.bytes.length else t
  | none => s

/-! ## The rebuild of the free store (R215, R218, R231) -/

/-- A write of BPM_CMD.APPLY (R215). -/
def State.poolApply (s : State) : State :=
  let z := (List.range 4).map (fun n => s.rdi Reg.BPM_POOL_n_SIZE n)
  let count := ((List.range 4).map (fun n => poolBuffers n (z.getD n 0))).sum
  if s.mode = 2 ∧ z.sum ≤ 120 ∧ count ≤ 184549376 then
    let t := s.discardBuffers
    let t := { t with buf := { t.buf with sizes := z } }
    (List.range 4).foldl (fun t n => t.wri Reg.BPM_BASE_n n (poolBase z n)) t
  else s.trb 0x50 8

/-- Descriptors of the descriptor region (R213). -/
def descTotal : Nat := 201326592

/-! ## Flow counters (R251) -/

/-- One counter record reaches its counter, in HBM from 0x00_3000_0000 on (R251, R255). -/
def State.mcrApply (s : State) (f : MemFinding) : State :=
  match s.path.mcrq with
  | [] => s
  | (c, n) :: rest =>
    let s := ({ s with path := { s.path with mcrq := rest } }).stat 0x58 Reg.MCR_RECORDS 0 1
    let s := s.drqAccess 4 (0x0030000000 + 16 * c) 16 true
    let old := s.tab.ctr.get (0, 0) c
    let set := fun (s : State) (v : Nat × Nat) => { s with tab := { s.tab with ctr := s.tab.ctr.set (0, 0) c v } }
    match f with
    | .uncorrectable => set ((s.parityError 0x58 4 2).wr Reg.MCR_LAST_ERR_INDEX c) (1, n)
    | _ => set s ((old.1 + 1) % 2 ^ 64, (old.2 + n) % 2 ^ 64)

/-! ## Meanings -/

/-- MCR_RECORD_APPLY (R251). -/
def execMcrRecordApply (f : MemFinding) (s : State) : Host.Outcome State Fault Refusal := .next (s.mcrApply f)

/-- FREE_CACHE_REFILL: a cache of fewer than 1,024 indices is refilled from its ring (R218, R232). -/
def execFreeCacheRefill (pool : Nat) (f : MemFinding) (s : State) : Host.Outcome State Fault Refusal :=
  let p := s.pool pool
  .next (if pool < 4 ∧ s.poolPresent pool ∧ ¬ s.buf.rebuilding ∧ runsLen p.cache < 1024 then
      if p.ring.isEmpty then s.trb 0x50 7
      else
        let t := (s.setPool pool p.refill).drqSomewhere 6 0x0100000000 0x40000000 4096 false
        match f with
        | .uncorrectable =>
          let q := p.refill
          (t.setPool pool { q with total := q.total - 1, cache := p.cache ++ (runsTake 1 (q.cache.drop p.cache.length)).2 }).parityError
            0x50 5 2
        | _ => t
    else s)

/-- FREE_CACHE_SPILL: a cache of more than 3,072 indices gives 1,024 back to its ring (R218). -/
def execFreeCacheSpill (pool : Nat) (s : State) : Host.Outcome State Fault Refusal :=
  let p := s.pool pool
  .next (if pool < 4 ∧ 3072 < runsLen p.cache then
      let r := runsTake 1024 p.cache
      (s.setPool pool { p with ring := p.ring ++ r.1, cache := r.2 }).drqSomewhere 6 0x0100000000 0x40000000 4096 true
    else s)

/-- BPM_APPLY (R215). -/
def execBpmApply (m : Master) (s : State) : Host.Outcome State Fault Refusal :=
  .next (s.onWrite m 0x50 0x110 State.poolApply)

/-- FREE_STORE_REBUILD_DONE: every present pool stands in its ring and its cache, every descriptor is free, and admission
may start (R218, R231, R232). -/
def execFreeStoreRebuildDone (s : State) : Host.Outcome State Fault Refusal :=
  .next (if s.buf.rebuilding ∧ s.runs 0x50 then
      let t := { s with buf := { s.buf with
        pools := (List.range 4).map (rebuildPool s.buf.sizes), descFree := descTotal, rebuilding := false } }
      t.evt 0x50 1
    else s)

end Sys2Proof.Machine
end

