-- ==== Sys2Proof/Machine/Queues.lean ====
section
/-! DEFINITION. Queues: the copies of an admitted packet and the queues that they enter (R4, R221, R227, R228, R234 to R236,
R308, R345), discards from queues (R252 to R254), and bad tails (R229). -/
namespace Sys2Proof.Machine

/-- P of a packet once its tail is here, or when its start held all of it (R217). -/
def Packet.knownLen (p : Packet) : Option Nat := if p.tailDone then some p.bytes.length else p.plen

/-! ## Queues by number -/

/-- Egress queue q. -/
def State.eq (s : State) (q : Nat) : List QEnt := s.q.egress.get [] q

/-- Replace egress queue q. -/
def State.setEq (s : State) (q : Nat) (l : List QEnt) : State := { s with q := { s.q with egress := s.q.egress.set [] q l } }

/-- Fabric VOQ v. -/
def State.voqOf (s : State) (v : Nat) : List QEnt := s.q.voq.get [] v

/-- Replace fabric VOQ v. -/
def State.setVoq (s : State) (v : Nat) (l : List QEnt) : State := { s with q := { s.q with voq := s.q.voq.set [] v l } }

/-- Fabric multicast queue c. -/
def State.fmcOf (s : State) (c : Nat) : List QEnt := s.q.fmcq.get [] c

/-- Replace fabric multicast queue c. -/
def State.setFmc (s : State) (c : Nat) (l : List QEnt) : State := { s with q := { s.q with fmcq := s.q.fmcq.set [] c l } }

/-- Punt queue r. -/
def State.puntOf (s : State) (r : Nat) : List QEnt := s.q.punt.get [] r

/-- Replace punt queue r. -/
def State.setPunt (s : State) (r : Nat) (l : List QEnt) : State := { s with q := { s.q with punt := s.q.punt.set [] r l } }

/-! ## End-to-end credit (R311) -/

/-- The credit of a VOQ in 256-byte units, signed. -/
def State.voqCredit (s : State) (v : Nat) : Int :=
  toSigned 32 (ofSigned 32 ((s.fab.gSeen.get 0 v : Int) - s.fab.charged.get 0 v - s.fab.returned.get 0 v))

/-! ## Multicast trees (R307) -/

/-- A tree: local ports, links, root. -/
structure Tree where
  ports : List Nat
  links : List Nat
  root : Nat
  deriving DecidableEq, Repr

/-- Read a tree entry; none where it is not in use. -/
def treeOf (e : Nat) : Option Tree :=
  if bitN e 168 = 1 then
    some { ports := bitsSet (bits e 127 0) 128, links := bitsSet (bits e 167 128) 40, root := bits e 188 176 }
  else none

/-- Count an event of FMC with its group (R317). -/
def State.fmcCount (s : State) (k g : Nat) : State := (s.trb 0x7A k).wr Reg.FMC_LAST_ERR_GROUP g

/-- The tree of a group in a tree table; a parity error is reported and acts as no tree (R307, R317). -/
def State.treeIn (s : State) (bad : List BadCell) (body : List Nat) (g : Nat) : State × Option Tree :=
  if badCell bad .tree 0 g then ((s.parityError 0x7A 7 1).wr Reg.FMC_LAST_ERR_GROUP g, none)
  else (s, (body[g]?).bind treeOf)

/-! ## Copies -/

/-- One copy of a packet: where it goes, in which class, why it is punted, and the mirror session that asked for it. -/
inductive Leg where
  | egress (port cls : Nat) (mirror : Option Nat)
  | voq (v : Nat) (mirror : Option Nat)
  | fmc (cls : Nat) (mirror : Option Nat)
  | punt (ring reason : Nat) (mirror : Option Nat)
  deriving DecidableEq, Repr

/-- A local logical port that no packet may be sent to (R17, R101). -/
def State.noPort (s : State) (port : Nat) : Bool := 134 ≤ port || (port < 128 && !s.portRuns port)

/-- The copy for a system port (R4, R17, R344); none where it names no port. -/
def State.portLeg (s : State) (dest cls : Nat) (mirror : Option Nat) : Option Leg :=
  let port := dest % 256
  if dest / 256 = s.devId then
    if s.noPort port then none
    else if port = 132 then some (.punt (s.rd Reg.HIF_PORT132_RING) 6 mirror)
    else some (.egress port cls mirror)
  else if 134 ≤ port then none
  else some (.voq (dest / 256 * 8 + cls) mirror)

/-- Local copies of a group, leaving out the ingress port (R308). -/
def State.treePorts (s : State) (t : Tree) (ingress : Option Nat) : List Nat :=
  t.ports.filter (fun p => some p != ingress && s.portRuns p)

/-- The copies of a multicast destination at the device where the packet entered (R308). -/
def State.groupLegs (s : State) (bad : List BadCell) (g cls : Nat) (ingress : Option Nat) (mirror : Option Nat) : State × List Leg :=
  match s.treeIn bad s.banks.fmc.active.body g with
  | (s, none) => (s.fmcCount 6 g, [])
  | (s, some t) =>
    let l := (s.treePorts t ingress).map (fun p => Leg.egress p cls mirror)
    if t.links.isEmpty then (s, l)
    else if t.root = s.devId then (s, l ++ [.fmc cls mirror])
    else (s.fmcCount 4 g, l)

/-- A copy that a limit forbids (R227, R226). -/
def State.copyLost (s : State) : State := ((s.stat 0x51 Reg.ADM_COPY_DROP 0 1).trb 0x51 8).evt 0x51 0

/-- A packet or a copy for the host is discarded while containment has outlasted HIF_HOLD (R353). -/
def State.puntDiscard (s : State) (r : Nat) : State :=
  ((s.stat 0x0B Reg.HIF_PUNT_DISCARD 0 1).trb 0x0B 8).addp 0x0C Reg.HDM_ERR_i_CNT r 1

/-- The mirror copy's destination, with EN and the session's limit (R153, R227, R34). -/
def State.mirrorLegs (s : State) (d : Decision) : State × List Leg :=
  match d.mirror with
  | none => (s, [])
  | some n =>
    if ¬ s.blkEn 0x37 then (s, [])
    else if s.rdi Reg.ACT_MIR_n_EN n = 0 then (s.trb 0x37 7, [])
    else if s.rdi Reg.ADM_MIR_s_MAX n ≤ s.buf.mirHeld.get 0 n then (s.copyLost, [])
    else
      match s.portLeg (s.rdi Reg.ACT_MIR_n_DEST n) (s.rdi Reg.ACT_MIR_n_CLASS n) (some n) with
      | some l => (s, [l])
      | none => (s.trb 0x51 9, [])

/-- The packet's own copies: a trap alone, or its destination with mirror and punt copies (R153). -/
def State.legs (s : State) (bad : List BadCell) (p : Packet) : State × List Leg :=
  match p.d.punt with
  | some (r, false) => (s, [.punt r p.reason none])
  | punt =>
    let ingress := if p.srcDev = s.devId then some p.port else none
    let main := if p.d.destKind = 4 then s.groupLegs bad p.d.dest p.d.cls ingress none
      else (s, (s.portLeg p.d.dest p.d.cls none).toList)
    let mir := main.1.mirrorLegs p.d
    (mir.1, main.2 ++ mir.2 ++ (match punt with | some (r, _) => [Leg.punt r 1 none] | none => []))

/-- Whether a copy may be made now: punt rings by their limits, 4,095 copies at most (R221, R227, R353). -/
def State.legAllowed (s : State) (a : State × List Leg) (l : Leg) : State × List Leg :=
  if 4095 ≤ a.2.length then (a.1.trb 0x51 8, a.2)
  else match l with
    | .punt r _ _ =>
      let mine := (a.2.filter (fun x => match x with | .punt q _ _ => q == r | _ => false)).length
      if s.rdb Reg.HIF_STAT_CONTAINED ∧ s.host.holdOver then (a.1.puntDiscard r, a.2)
      else if s.rdi Reg.ADM_PUNT_r_MAX r ≤ s.buf.puntHeld.get 0 r + mine then (a.1.copyLost, a.2)
      else (a.1, a.2 ++ [l])
    | _ => (a.1, a.2 ++ [l])

/-- A copy counts against its mirror session or its punt ring (R227). -/
def State.holdCount (s : State) (mirror : Option Nat) (ring : Option Nat) (up : Bool) : State :=
  let f := fun (m : SMap Nat) (k : Nat) => m.set 0 k (if up then m.get 0 k + 1 else m.get 0 k - 1)
  let s := match mirror with
    | some n => { s with buf := { s.buf with mirHeld := f s.buf.mirHeld n } }
    | none => s
  match ring with
  | some r => { s with buf := { s.buf with puntHeld := f s.buf.puntHeld r } }
  | none => s

/-- A copy leaves the device or is discarded (R221, R227). -/
def State.dropEnt (s : State) (e : QEnt) (ring : Option Nat) : State := (s.holdCount e.mirror ring false).decRef e.bid

/-! ## Enqueue (R235, R236) -/

/-- The queue entry of a copy, stamped now (R13). -/
def State.entry (s : State) (bid port cls reason : Nat) (gens : Gens) (mirror : Option Nat) (cut : Bool) : QEnt :=
  { bid := bid, dst := port, cls := cls, tenq := s.ns, gens := gens, reason := reason, mirror := mirror, cut := cut, sent := none }

/-- Egress enqueue (R235, R12): an arrival by fabric samples the egress generations here. -/
def State.egressEnqueue (s : State) (bid : Nat) (p : Packet) (port cls : Nat) (mirror : Option Nat) (cut : Bool) : State :=
  let gens := if p.srcDev = s.devId then p.gens else s.sampleGens
  let e := s.entry bid port cls 0 gens mirror cut
  match s.chooseQueue port cls p.d.metadata with
  | none => (s.trb 0x52 7).dropEnt e none
  | some (q, base) =>
    let s := if base then s.trb 0x52 5 else s
    (s.setEq q (s.eq q ++ [e])).stat 0x52 Reg.QM_ENQ 0 1

/-- One copy enters its queue. -/
def State.sendLeg (s : State) (bid : Nat) (p : Packet) (cut : Bool) (l : Leg) : State :=
  match l with
  | .egress port cls m => (s.holdCount m none true).egressEnqueue bid p port cls m cut
  | .voq v m => (s.holdCount m none true).setVoq v (s.voqOf v ++ [s.entry bid (p.d.dest % 256) (v % 8) 0 p.gens m cut])
  | .fmc c m => (s.holdCount m none true).setFmc c (s.fmcOf c ++ [s.entry bid 0 c 0 p.gens m false])
  | .punt r reason m =>
    (s.holdCount m (some r) true).setPunt r (s.puntOf r ++ [s.entry bid r p.d.cls reason p.gens m false])

/-- A further copy takes a descriptor of its own; without one only it is lost (R220). -/
def State.sendCopy (bid : Nat) (p : Packet) (s : State) (l : Leg) : State :=
  match s.takeDesc with
  | (t, true) => t.sendLeg bid p false l
  | (t, false) => t.unref bid

/-- The copies of a packet enter their queues: the reference count first, then each copy (R221). A packet that keeps no
copy returns its buffer. -/
def State.dispatchLegs (s : State) (bid : Nat) (p : Packet) (l : List Leg) (cut : Bool) : State :=
  match s.buffer bid with
  | none => s
  | some b =>
    match l with
    | [] => (s.giveDesc 1).freeBuffer b
    | x :: rest =>
      let s := (s.setBuffer { b with refs := l.length, pkt := p }).sendLeg bid p cut x
      rest.foldl (State.sendCopy bid p) s

/-- The copies that a packet keeps. -/
def State.keptLegs (s : State) (bad : List BadCell) (p : Packet) : State × List Leg :=
  let r := s.legs bad p
  r.2.foldl (State.legAllowed r.1) (r.1, [])

/-- A stored packet whose tail is good is queued (R228). -/
def State.dispatch (s : State) (bad : List BadCell) (bid : Nat) (p : Packet) : State :=
  let r := s.keptLegs bad p
  r.1.dispatchLegs bid p r.2 false

/-! ## Cut-through (R228) -/

/-- A stored packet of class c for output port `port` waits for its tail. -/
def State.tailWaits (s : State) (port c : Nat) : Bool :=
  s.buf.bufs.any (fun e => !e.2.pkt.tailDone && e.2.refs == 0 && e.2.pkt.d.destKind == 3 && e.2.pkt.d.cls == c
    && e.2.pkt.d.dest == s.sysPort port)

/-- A packet of class c is queued for output port `port`. -/
def State.classQueued (s : State) (port c : Nat) : Bool :=
  s.q.egress.any (fun e => e.2.any (fun x => x.dst == port && x.cls == c))
    || (match (s.sched.lookup port).bind (fun x => x.cutting) with | some (x, _) => x.cls == c | none => false)

/-- The packet is cut through on the one copy that it has. -/
def State.mayCut (s : State) (p : Packet) (l : List Leg) : Bool :=
  p.plen.isNone && !p.tailDone && p.d.mirror.isNone && p.d.punt.isNone && p.d.destKind == 3 && p.port < 160
    && bitN (s.rdi Reg.ADM_CT_k_PORTS (p.port / 32)) (p.port % 32) == 1
    && (match l with
        | [.egress port c none] => !s.classQueued port c && !s.tailWaits port c && decide (s.portSpeed port ≤ p.inSpeed)
        | [.voq v none] => (s.voqOf v).isEmpty && decide (0 < s.voqCredit v)
        | _ => false)

/-! ## Discards (R252) -/

/-- RESIDENCE_MAX in ns; 0 none (R252, R256). -/
def State.residence (s : State) : Nat := min 10000 (s.rd Reg.QM_RESIDENCE_MS) * 1000000

/-- An entry has outstayed RESIDENCE_MAX; what is already leaving stays. -/
def State.tooOld (s : State) (e : QEnt) : Bool :=
  s.residence != 0 && e.sent.isNone && decide (e.tenq + s.residence < s.ns)

/-- Discard the old heads of a queue, counting each on QM trouble counter k and in the statistics counter f (R252, R253). -/
def State.dropOld (s : State) (k : Nat) (f : Fld) (l : List QEnt) : State × List QEnt :=
  match l with
  | [] => (s, [])
  | e :: t =>
    if s.tooOld e then State.dropOld (((s.stat 0x52 f 0 1).trb 0x52 k).dropEnt e none) k f t else (s, e :: t)

/-- The heads of egress queue q settled at dequeue (R252). -/
def State.settleEq (s : State) (q : Nat) : State :=
  let r := s.dropOld 3 Reg.QM_AGED (s.eq q)
  r.1.setEq q r.2

/-- The heads of VOQ v settled at dequeue (R252). -/
def State.settleVoq (s : State) (v : Nat) : State :=
  let r := s.dropOld 3 Reg.QM_AGED (s.voqOf v)
  r.1.setVoq v r.2

/-! ## Bad packets found in a buffer (R229) -/

/-- A packet bad at its tail is dropped at admission. -/
def State.tailDrop (s : State) : State := (s.stat 0x51 Reg.ADM_TAIL_DROP 0 1).trb 0x51 10

/-- A stomp or a poisoned tail of this device. -/
def State.stompCount (s : State) : State := ((s.stat 0x51 Reg.ADM_STOMP 0 1).trb 0x51 6).evt 0x51 1

/-- A frame ended with the complement of its FCS after k bytes (R229). -/
def stomped (b : Bytes) (k : Nat) : Bytes :=
  let x := padTo (max 60 (min k b.length)) (b.take k)
  x ++ toLe 4 (0xFFFFFFFF - fcs x)

/-- Remove a bad cut-through packet, of which no byte has left, from the queues it waits in. -/
def State.unqueue (s : State) (bid : Nat) : State :=
  let keep := fun (l : List QEnt) => l.filter (fun e => e.bid != bid || e.sent.isSome)
  let qs := (s.q.egress.filter (fun e => e.2.any (fun x => x.bid == bid))).map Prod.fst
  let vs := (s.q.voq.filter (fun e => e.2.any (fun x => x.bid == bid && x.sent.isNone))).map Prod.fst
  let s := qs.foldl (fun t q => (t.setEq q (keep (t.eq q))).decRef bid) s
  vs.foldl (fun t v => (t.setVoq v (keep (t.voqOf v))).decRef bid) s

end Sys2Proof.Machine
end

