-- ==== Sys2Proof/Machine/Admission.lean ====
section
/-! DEFINITION. Admission: policing, limits, allocation and queueing of a packet that reaches Cygil-T (R216 to R228, R248,
R251), and the arrival of a frame's tail (R111, R132, R229). -/
namespace Sys2Proof.Machine

/-! ## Steps of admission -/

/-- The policer of a packet meters B = P + 4 (R248 to R250). While the tail is still to come P is not known and the spec
gives no B: it is a free value (log entry 21). The last part says that the packet is dropped. -/
def State.policePacket (s : State) (bad : List BadCell) (p : Packet) : State × Packet × Bool :=
  match p.d.policer with
  | none => (s, p, false)
  | some i =>
    if badCell bad .policer 0 i ∧ s.blkEn 0x55 then (s.policeError i, p, false)
    else
      let b := match p.knownLen with
        | some n => (s, n + 4)
        | none => (s.draw, s.freeNat % 16385)
      let r := b.1.police i p.d.color b.2
      (r.1, { p with d := { p.d with color := r.2.1 } }, r.2.2)

/-- The packet names no port (R17, R101); a trap has no destination. -/
def State.noDest (s : State) (p : Packet) : Bool :=
  (match p.d.punt with | some (_, false) => false | _ => true) && p.d.destKind == 3 && (s.portLeg p.d.dest p.d.cls none).isNone

/-- The counter of an admitted packet, once its length is known (R251). -/
def State.countPkt (s : State) (p : Packet) : State :=
  match p.d.counter with
  | some c => if p.tailDone then s.mcrPush c (p.bytes.length + 4) else s
  | none => s

/-- A LIMIT drop (R223, R226). -/
def State.limitDrop (s : State) : State := ((s.stat 0x51 Reg.ADM_DROP_LIMIT 0 1).trb 0x51 3).evt 0x51 0

/-- A buffer of `size` bytes would take OCC(p, c) beyond its LIMIT (R223). -/
def State.overLimit (s : State) (p c size : Nat) : Bool :=
  let lim := s.rdi Reg.ADM_PROF_k_LIMIT_KIB (s.admProf p c) * 1024
  lim == 0 || decide (lim < s.occOf p c + size)

/-- A packet that fits into its buffer is stored there, or cut through (R221, R228). -/
def State.place (s : State) (bad : List BadCell) (k : Nat × Nat) (p : Packet) : State :=
  match s.takeDesc with
  | (t, false) => (t.giveBack k.1 k.2).dropPkt p
  | (t, true) =>
    let r := t.newBuffer k p false p.mport p.d.cls (bufSize k.1)
    let t := r.1.countPkt p
    if p.tailDone then t.dispatch bad r.2 p
    else
      let l := t.keptLegs bad p
      if t.mayCut p l.2 then (l.1.dispatchLegs r.2 p l.2 true).stat 0x51 Reg.ADM_CUT 0 1 else t

/-- Limit and allocation (R219, R223). -/
def State.admitSized (s : State) (bad : List BadCell) (p : Packet) : State :=
  match s.allocate p.alloc with
  | (t, none) => t.dropPkt p
  | (t, some k) =>
    if s.overLimit p.mport p.d.cls (bufSize k.1) then s.limitDrop.dropPkt p else t.place bad k p

/-- Admission of a packet of this device (R216 to R228). -/
def State.intake (s : State) (bad : List BadCell) (p : Packet) : State :=
  if ¬ s.blkEn 0x51 then (s.trb 0x00 4).dropPkt p
  else if p.tailDone ∧ p.bad then s.tailDrop.dropPkt p
  else
    match s.policePacket bad p with
    | (s, p, true) => s.dropPkt p
    | (s, p, false) => if s.noDest p then (s.trb 0x51 9).dropPkt p else s.admitSized bad p

/-! ## The tail of a frame -/

/-- The tail of a frame that still waits in an input FIFO (R110, R111). -/
def State.fifoTail (s : State) (port : Nat) (f : InFrame) (rest : Bytes) : State :=
  let b := f.bytes ++ rest
  let giant := decide (s.maxFrame port < b.length)
  let x := s.port port
  if s.fifoSize port < x.fill + rest.length then
    let t := s.setPort port { x with fifo := x.fifo.filter (fun y => y.pid != f.pid) }
    (if port < 128 then t.ptrb port 11 else t).fifoLevel port
  else
    let s := if giant then (if port < 128 then s.ptrb port 5 else s)
      else if fcsBad b ∧ port < 128 then s.ptrb port 3 else s
    let g := { f with bytes := b, whole := true, badFcs := giant || fcsBad b }
    let x := s.port port
    (s.setPort port { x with fifo := x.fifo.map (fun y => if y.pid = f.pid then g else y) }).fifoLevel port

/-- The frame of a number that waits in an input FIFO for its tail. -/
def State.fifoFind (s : State) (pid : Nat) : Option (Nat × InFrame) :=
  s.path.ports.findSome? (fun e => (e.2.fifo.find? (fun f => f.pid == pid && !f.whole)).map (fun f => (e.1, f)))

/-- A packet of the list whose tail is still to come. -/
def pendingIn (l : List Packet) (pid : Nat) : Option Packet := l.find? (fun p => p.pid == pid && !p.tailDone)

/-- Replace a packet of a list. -/
def putPacket (l : List Packet) (p : Packet) : List Packet := l.map (fun q => if q.pid = p.pid then p else q)

/-- What becomes of a buffered packet at its tail (R228, R229): a stored one is dropped or queued; a cut-through one of
which nothing has left is dropped, if bad, and otherwise goes on. -/
def State.tailSettled (s : State) (b : Buffer) (p : Packet) : State :=
  let s := (s.setBuffer { b with pkt := p }).countPkt p
  if b.refs = 0 then
    if p.bad then ((s.tailDrop.giveDesc 1).freeBuffer { b with pkt := p }) else s.dispatch [] b.bid p
  else if p.bad then
    let t := s.unqueue b.bid
    if (t.buffer b.bid).isNone then t.tailDrop else t
  else s

/-- The buffer whose packet has a number and waits for its tail. -/
def State.bufFind (s : State) (pid : Nat) : Option Buffer :=
  (s.buf.bufs.find? (fun e => e.2.pkt.pid == pid && !e.2.pkt.tailDone && !e.2.fabric)).map Prod.snd

/-- A tail reaches the packet wherever it is, short of the wire (R111, R132, R229). -/
def State.tailIn (s : State) (pid : Nat) (rest : Bytes) : State :=
  match s.fifoFind pid with
  | some (port, f) => s.fifoTail port f rest
  | none =>
    match pendingIn s.path.recirc pid with
    | some p =>
      let r := s.appendTail p rest
      if r.2.bad then
        ({ r.1 with path := { r.1.path with recirc := r.1.path.recirc.filter (fun q => q.pid != pid) } }).crossOwned r.2
      else { r.1 with path := { r.1.path with recirc := putPacket r.1.path.recirc r.2 } }
    | none =>
      match pendingIn s.path.d2d pid with
      | some p =>
        let r := s.appendTail p rest
        { r.1 with path := { r.1.path with d2d := putPacket r.1.path.d2d r.2 } }
      | none =>
        match pendingIn s.path.dropped pid with
        | some p =>
          let r := s.appendTail p rest
          { r.1 with path := { r.1.path with dropped := r.1.path.dropped.filter (fun q => q.pid != pid) } }.dropPkt r.2
        | none =>
          match s.bufFind pid with
          | none => s
          | some b =>
            let r := s.appendTail b.pkt rest
            let p := { r.2 with bad := r.2.bad || decide (bufSize b.pool < r.2.bytes.length + 32) }
            r.1.tailSettled b p

/-! ## Meanings -/

/-- ADMISSION: the next packet on the die-to-die link (R219, R223, R228, R231). -/
def execAdmission (bad : List BadCell) (s : State) : Host.Outcome State Fault Refusal :=
  .next (match s.path.d2d with
    | [] => s
    | p :: rest =>
      if s.pageReady 0x50 then ({ s with path := { s.path with d2d := rest } }).intake bad p else s)

end Sys2Proof.Machine
end

