-- ==== Sys2Proof/Machine/Gates.lean ====
section
/-! DEFINITION. Gates: cyclic gate lists, timetables, the guard rule (R261 to R273). -/
namespace Sys2Proof.Machine

/-- A port that no list has touched: all gates open. -/
def GatePort.initial : GatePort :=
  { open_ := 0xFF, start := none, running := false, fault := false, ttActive := none, ttPending := none, ttNext := 0,
    ttState := 0xFF, ttOnDie := 0 }

/-- The gates of a port. -/
def State.gate (s : State) (p : Nat) : GatePort := s.gates.get GatePort.initial p

/-- Replace the gates of a port. -/
def State.setGate (s : State) (p : Nat) (g : GatePort) : State := { s with gates := s.gates.set GatePort.initial p g }

/-! ## Cyclic lists (R263 to R267) -/

/-- INTERVAL and GATES of an entry. -/
def cycEntry (e : Nat) : Nat × Nat := (bits e 47 16, bits e 7 0)

/-- The entries that are not skipped. -/
def CycList.live (l : CycList) : List (Nat × Nat) := (l.entries.map cycEntry).filter (fun e => e.1 != 0)

/-- The entry within which position x falls; the last one beyond the sum (R266). -/
def entryAtPos (l : List (Nat × Nat)) (x : Nat) : Nat :=
  match l with
  | [] => 0xFF
  | [e] => e.2
  | e :: t => if x < e.1 then e.2 else entryAtPos t (x - e.1)

/-- The position of a time in the cycle (R266). -/
def CycList.pos (l : CycList) (ns : Nat) : Nat := (((ns : Int) - l.base) % (l.cycleNs : Int)).toNat

/-- The state that a running list gives at a time (R266). -/
def CycList.gatesAt (l : CycList) (ns : Nat) : Nat :=
  if l.cycleNs = 0 ∨ l.live.isEmpty then 0xFF else entryAtPos l.live (l.pos ns)

/-- The cyclic list of a port. -/
def State.cyc (s : State) (p : Nat) : Banked CycList := s.banks.cycs.get (Banked.initial CycList.empty) p

/-- The first cycle boundary at or after a time. -/
def CycList.boundaryFrom (l : CycList) (ns : Nat) : Nat :=
  if ns ≤ l.base ∨ l.cycleNs = 0 then max l.base ns else l.base + (ns - l.base + l.cycleNs - 1) / l.cycleNs * l.cycleNs

/-- S of a list committed at a time, and whether it starts late (R267). With CYCLE_NS 0 it starts at once (all open). -/
def CycList.startFrom (l : CycList) (e0 : Nat) : Nat × Bool :=
  if e0 ≤ l.base then (l.base, false)
  else if l.cycleNs = 0 then (e0, false)
  else (l.boundaryFrom (e0 + 500000), true)

/-! ## What governs a class (R261) -/

/-- The cyclic list governs class c. -/
def State.cycGoverns (s : State) (p c : Nat) : Bool := bitN (s.rdi Reg.GATE_CFG_p_CYC_CLASSES p) c == 1

/-- The timetable governs class c. -/
def State.ttGoverns (s : State) (p c : Nat) : Bool := !s.cycGoverns p c && bitN (s.rdi Reg.GATE_CFG_p_TT_CLASSES p) c == 1

/-- The list of a port has been committed and gives states. -/
def State.cycPresent (s : State) (p : Nat) : Bool := (s.cyc p).active.gen != 0

/-- The gate state of class c that its mechanism gives now; a list in CYC_HOLD keeps the present state. -/
def State.gateTarget (s : State) (p c : Nat) : Bool :=
  let g := s.gate p
  if s.cycGoverns p c then
    (if g.fault || !s.cycPresent p then true
     else if g.start.isSome then g.open_.getLsbD c
     else bitN ((s.cyc p).active.body.gatesAt s.ns) c == 1)
  else if s.ttGoverns p c then bitN g.ttState c == 1
  else true

/-- All gates of a port take the states of their mechanisms. -/
def State.gateRefresh (s : State) (p : Nat) : State :=
  let v := (List.range 8).foldl (fun v c => setBit v c (s.gateTarget p c)) 0
  s.setGate p { s.gate p with open_ := BitVec.ofNat 8 v }

/-- The gate of class c on a port is open (R261, R34). -/
def State.gateOpen (s : State) (p c : Nat) : Bool := !s.blkEn 0x56 || (s.gate p).open_.getLsbD c

/-! ## The guard rule (R271) -/

/-- Nanoseconds from position x until a list of segments closes class c; none where it stays open to the end. -/
def openRun (l : List (Nat × Nat)) (x c : Nat) : Option Nat :=
  match l with
  | [] => none
  | e :: t =>
    if e.1 ≤ x then openRun t (x - e.1) c
    else if bitN e.2 c = 0 then some 0
    else (openRun t 0 c).map (fun n => n + (e.1 - x))

/-- The segments of one cycle: cut at its end, the last one drawn out to it (R266). -/
def segments (l : List (Nat × Nat)) (cycle : Nat) : List (Nat × Nat) :=
  match l with
  | [] => []
  | [e] => [(cycle, e.2)]
  | e :: t => if cycle ≤ e.1 then [(cycle, e.2)] else e :: segments t (cycle - e.1)

/-- The next instant at which class c may close, in ns; none where it never does (R271). -/
def State.nextClose (s : State) (p c : Nat) : Option Nat :=
  let g := s.gate p
  let l := (s.cyc p).active.body
  if s.cycGoverns p c then
    (if g.fault || !s.cycPresent p then none
     else match g.start with
       | some t => some t
       | none =>
         if l.cycleNs = 0 ∨ l.live.isEmpty then none
         else
           let seg := segments l.live l.cycleNs
           (openRun (seg ++ seg) (l.pos s.ns) c).map (fun n => s.ns + n))
  else if s.ttGoverns p c then
    match g.ttActive with
    | none => none
    | some tt => (((tt.entries.take g.ttOnDie).drop g.ttNext).find? (fun e => bitN e.2 c == 0)).map Prod.fst
  else none

/-- A frame of P + 4 bytes started now ends, with the guard margin, before its gate closes (R271). -/
def State.guardOk (s : State) (p c plen : Nat) : Bool :=
  if s.rdi Reg.GATE_CFG_p_GUARD p = 0 ∨ ¬ s.blkEn 0x56 then true
  else
    match s.nextClose p c with
    | none => true
    | some t =>
      let sp := s.portSpeed p
      decide ((s.frac + s.rdi Reg.GATE_CFG_p_GUARD_NS p * 65536) * sp + (plen + 24) * 8 * 65536 ≤ t * 65536 * sp)

/-! ## Commits and steps (R261, R267, R273) -/

/-- What the commit of group 0x56 does to a port, after its fields and banks have been swapped: a new list's start S is
fixed, classes take the states of their mechanisms, classes set in both masks count. -/
def State.gateCommit (s : State) (p : Nat) (newList cfgWritten : Bool) : State :=
  let s := if newList then
      let st := (s.cyc p).active.body.startFrom s.ns
      let s := s.setGate p { s.gate p with start := some st.1, running := false, fault := false }
      let s := s.wri Reg.GATE_STAT_p_CYC_FAULT p 0
      if st.2 then (s.wri Reg.GATE_STAT_p_LATE_START p 1).trb 0x56 3 else s
    else s
  let both := s.rdi Reg.GATE_CFG_p_CYC_CLASSES p &&& s.rdi Reg.GATE_CFG_p_TT_CLASSES p
  let s := if cfgWritten then s.trbN 0x56 8 (bitsSet both 8).length else s
  s.gateRefresh p

/-- TAKEOVER: the pending timetable replaces the active one (R270). -/
def State.ttTake (s : State) (p : Nat) : State :=
  match (s.gate p).ttPending with
  | none => s
  | some tt =>
    if tt.takeover ≤ s.ns then
      (s.setGate p { s.gate p with
        ttActive := some tt, ttPending := none, ttNext := 0, ttState := if tt.entries.isEmpty then 0xFF else tt.initial,
        ttOnDie := min 64 tt.entries.length }).gateRefresh p
    else s

/-- The next timetable entry, if its time has come (R270, R272). -/
def State.ttStep (s : State) (p : Nat) (ok : Bool) : State :=
  let g := s.gate p
  match g.ttActive with
  | none => s
  | some tt =>
    match tt.entries[g.ttNext]? with
    | none => s
    | some e =>
      if e.1 ≤ s.ns then
        (s.setGate p { g with ttNext := g.ttNext + 1, ttState := if ok then e.2 else g.ttState }).gateRefresh p
      else s

/-- Every timetable entry whose time has passed, in order. -/
def State.ttCatchUp (s : State) (p : Nat) : State :=
  let n := match (s.gate p).ttActive with | some tt => tt.entries.length | none => 0
  (List.replicate n ()).foldl (fun t _ => t.ttStep p true) s

/-- A forward step to the present time, from a time `old`, on the gates of a port (R56, R273). -/
def State.gateSkip (s : State) (old p : Nat) : State :=
  let g := s.gate p
  let l := (s.cyc p).active.body
  let s := if s.cycPresent p ∧ l.cycleNs ≠ 0 ∧ ¬ g.fault then
      match g.start with
      | none => (s.setGate p { g with start := some (l.boundaryFrom s.ns), running := false }).trb 0x56 4
      | some t => if old < t ∧ t < s.ns then (s.setGate p { g with start := some (l.boundaryFrom s.ns) }).trb 0x56 4 else s
    else s
  ((s.ttTake p).ttCatchUp p)

/-! ## Meanings -/

/-- GATE_ENTRY_CHANGE: a running list passes to another entry; an uncorrectable entry stops the list (R266, R272). -/
def execGateEntryChange (port : Nat) (f : MemFinding) (s : State) : Host.Outcome State Fault Refusal :=
  let g := s.gate port
  .next (if port < 160 ∧ g.running ∧ ¬ g.fault then
      match f with
      | .uncorrectable =>
        let t := s.setGate port { g with fault := true, running := false }
        ((t.wri Reg.GATE_STAT_p_CYC_FAULT port 1).parityError 0x56 7 1).gateRefresh port
      | _ => s.gateRefresh port
    else s)

/-- CYCLIC_LIST_START: S is reached (R267). -/
def execCyclicListStart (port : Nat) (s : State) : Host.Outcome State Fault Refusal :=
  .next (match (s.gate port).start with
    | some t =>
      if port < 160 ∧ t ≤ s.ns then
        (s.setGate port { s.gate port with start := none, running := true }).gateRefresh port
      else s
    | none => s)

/-- TIMETABLE_TAKEOVER (R270). -/
def execTimetableTakeover (port : Nat) (s : State) : Host.Outcome State Fault Refusal :=
  .next (if port < 160 then s.ttTake port else s)

/-- TIMETABLE_ENTRY (R270, R272). -/
def execTimetableEntry (port : Nat) (f : MemFinding) (s : State) : Host.Outcome State Fault Refusal :=
  .next (if port < 160 then
      match f with
      | .uncorrectable =>
        let t := s.ttStep port false
        if (t.gate port).ttNext = (s.gate port).ttNext then s else t.parityError 0x56 7 2
      | _ => s.ttStep port true
    else s)

/-- TIMETABLE_FETCH: the next 64 entries are kept on die (R272). -/
def execTimetableFetch (port : Nat) (s : State) : Host.Outcome State Fault Refusal :=
  .next (match (s.gate port).ttActive with
    | some tt => if port < 160 then
        let n := min ((s.gate port).ttNext + 64) tt.entries.length
        let from_ := max (s.gate port).ttOnDie (s.gate port).ttNext
        (s.setGate port { s.gate port with ttOnDie := n }).drqAccess 5
          (0x0066000000 + port * 0x40000 + 16 * from_) (16 * (n - from_)) false
      else s
    | none => s)

/-- A cancel of a pending timetable (R269). -/
def State.ttCancel (s : State) (port : Nat) : State :=
  let s := s.wr Reg.GATE_TT_RESULT_PORT port
  let ok := decide (port < 160) && (match (s.gate port).ttPending with
    | some tt => decide (s.epoch + 1 < tt.takeover / 125000)
    | none => false)
  if ok then (s.setGate port { s.gate port with ttPending := none }).wr Reg.GATE_TT_RESULT_STATUS 1
  else s.wr Reg.GATE_TT_RESULT_STATUS 2

/-- GATE_TT_CANCEL (R269). -/
def execGateTtCancel (m : Master) (port : Nat) (s : State) : Host.Outcome State Fault Refusal :=
  .next (s.onWrite m 0x56 0x100 (fun t => t.ttCancel port))

end Sys2Proof.Machine
end

