-- ==== Sys2Proof/Machine/Artifacts.lean ====
section
/-! DEFINITION. Artifacts: the Fioft container, the checks of a load and the staged banks (R15, R41 to R45, R470, and the entry
rules of each type). -/
namespace Sys2Proof.Machine

/-! ## Container (R41 to R43) -/

/-- A section table entry (R42). -/
structure Sect where
  kind : Nat
  off : Nat
  len : Nat
  count : Nat
  deriving DecidableEq, Repr

/-- TYPE of an artifact (R41). -/
def artType (b : Bytes) : Nat := leAt b 4 1

/-- SUBJECT of an artifact (R41). -/
def artSubject (b : Bytes) : Nat := leAt b 0xC 2

/-- The section table (R42). -/
def artSects (b : Bytes) : List Sect :=
  (List.range (leAt b 0xE 2)).map (fun i =>
    let o := leAt b 0x14 4 + 16 * i
    { kind := leAt b o 2, off := leAt b (o + 4) 4, len := leAt b (o + 8) 4, count := leAt b (o + 12) 4 })

/-- Largest SUBJECT of a type; none for a type that R15 does not list (R15, R41). -/
def maxSubject (ty : Nat) : Option Nat :=
  if ty = 2 then some 7 else if 6 ≤ ty ∧ ty ≤ 8 then some 159
  else if (1 ≤ ty ∧ ty ≤ 5) ∨ (9 ≤ ty ∧ ty ≤ 11) then some 0 else none

/-- The section kinds of a type: kind, entry size, and whether it must be there. -/
def artKinds (ty : Nat) : List (Nat × Nat × Bool) :=
  if ty = 1 then [(1, 8, true)]
  else if ty = 2 then [(1, 16, true), (2, 32, true)]
  else if ty = 3 then [(1, 128, true)]
  else if ty = 4 then [(1, 4, false), (2, 4, false), (3, 32, false), (4, 4, false), (5, 32, false)]
  else if ty = 5 then [(1, 16, true), (2, 8, false), (3, 40, false), (4, 8, false)]
  else if ty = 6 then [(1, 16, true), (2, 4, true), (3, 8, true), (4, 8, false)]
  else if ty = 7 then [(1, 16, true), (2, 8, true)]
  else if ty = 8 then [(1, 16, true), (2, 16, true)]
  else if ty = 9 then [(1, 16, true)]
  else if ty = 10 then [(1, 32, true)]
  else [(1, 16, true)]

/-- The entry size of a section kind. -/
def kindSize (ty kind : Nat) : Option Nat := ((artKinds ty).find? (fun k => k.1 == kind)).map (fun k => k.2.1)

/-- Two ranges of bytes share a byte. -/
def overlaps (a n b m : Nat) : Bool := decide (0 < n ∧ 0 < m ∧ a < b + m ∧ b < a + n)

/-- Sections that no earlier or later one overlaps. -/
def disjointSects (l : List Sect) : Bool :=
  match l with
  | [] => true
  | x :: t => t.all (fun y => !overlaps x.off x.len y.off y.len) && disjointSects t

/-- Section kinds without repeats. -/
def distinctKinds (l : List Sect) : Bool :=
  match l with
  | [] => true
  | x :: t => t.all (fun y => y.kind != x.kind) && distinctKinds t

/-- The section of a kind. -/
def sectOf (l : List Sect) (kind : Nat) : Option Sect := l.find? (fun x => x.kind == kind)

/-- Entry count of a kind; 0 where it is missing. -/
def countOf (l : List Sect) (kind : Nat) : Nat := ((sectOf l kind).map (fun x => x.count)).getD 0

/-- Offset of entry i of a kind. -/
def offsetOf (l : List Sect) (kind size i : Nat) : Nat := ((sectOf l kind).map (fun x => x.off)).getD 0 + size * i

/-- The entries of a kind as byte strings. -/
def entryBytes (b : Bytes) (l : List Sect) (kind size : Nat) : List Bytes :=
  match sectOf l kind with
  | some x => entriesOf size (sl b x.off x.len)
  | none => []

/-- The entries of a kind as little-endian numbers. -/
def entryNats (b : Bytes) (l : List Sect) (kind size : Nat) : List Nat := (entryBytes b l kind size).map le

/-- Number the members of a list. -/
def numbered {α : Type} (l : List α) : List (Nat × α) := (List.range l.length).zip l

/-- The container part of check 8 (R41, R42). -/
def sectionsOk (b : Bytes) : Bool :=
  let n := leAt b 0xE 2
  let t := leAt b 0x14 4
  let l := artSects b
  let ty := artType b
  decide (1 ≤ n ∧ n ≤ 64 ∧ t % 16 = 0 ∧ 0x40 ≤ t ∧ t + 16 * n ≤ b.length)
    && l.all (fun x => decide (x.off % 64 = 0 ∧ x.off + x.len ≤ b.length) && !overlaps x.off x.len 0 64
        && !overlaps x.off x.len t (16 * n) && (kindSize ty x.kind).isSome && x.len == x.count * (kindSize ty x.kind).getD 0)
    && disjointSects l && distinctKinds l
    && (artKinds ty).all (fun k => !k.2.2 || (sectOf l k.1).isSome)

/-- The layout that the owning chapter adds to check 8: one header entry, 250 index words an epoch, HBM nodes only in
MAXIMAL (R167, R202, R237, R263, R268, R412). -/
def layoutOk (b : Bytes) (maximal : Bool) : Bool :=
  let l := artSects b
  let ty := artType b
  let cyc := leAt b (offsetOf l 1 16 0) 1
  if ty = 4 then maximal || countOf l 5 == 0
  else if ty = 5 then
    countOf l 1 == 1 && (maximal || (entryNats b l 3 40).all (fun e => bitN e 31 == 0))
  else if ty = 6 then countOf l 1 == 1 && (cyc == 0 || decide (8 < cyc) || countOf l 2 == 250 * cyc)
  else if ty = 7 ∨ ty = 8 ∨ ty = 11 then countOf l 1 == 1
  else true

/-! ## Entry rules (check 12): the offsets of bad entries -/

/-- Offsets of the entries of a kind that a test refuses. -/
def badEntries (b : Bytes) (l : List Sect) (kind size : Nat) (bad : Nat → Nat → Bool) : List Nat :=
  ((numbered (entryNats b l kind size)).filter (fun e => bad e.1 e.2)).map (fun e => offsetOf l kind size e.1)

/-- The header state whose case run covers state i. -/
def runOwner (st : List Nat) (i : Nat) : Option Nat :=
  (List.range i).find? (fun h => !isCase (st.getD h 0) && decide (i ≤ h + bits (st.getD h 0) 52 49))

/-- A next-state field names no header state of the graph (R127). -/
def badNext (st : List Nat) (n : Nat) : Bool := n != 0 && (decide (st.length ≤ n) || isCase (st.getD n 0))

/-- A state breaks R127. -/
def badState (st : List Nat) (i w : Nat) : Bool :=
  if isCase w then
    i == 0 || badNext st (bits w 62 53) || bits w 52 41 != 0 || decide (32 < bits w 37 32) || decide (2 < bits w 40 38)
      || (match runOwner st i with
        | none => true
        | some h => bits w 40 38 != 0 && bits (st.getD h 0) 46 41 != 4 && bits (st.getD h 0) 46 41 != 10)
  else
    let kb := bits w 29 24
    decide (32 < kb) || (kb != 0 && decide (32 < bits w 34 30 + kb)) || decide (2 ≤ bits w 23 22)
      || decide (8 < bits w 12 9) || decide (8 < bits w 15 13 + bits w 12 9)
      || decide (24 ≤ bits w 46 41 ∧ bits w 46 41 ≤ 47) || badNext st (bits w 62 53)
      || decide (st.length ≤ i + bits w 52 49)
      || (List.range (bits w 52 49)).any (fun j => !isCase (st.getD (i + 1 + j) 0))

/-- A tree node breaks R148: `n` nodes, `na` action records, egress set or not. -/
def badNode (n na : Nat) (eg : Bool) (i w : Nat) : Bool :=
  let k := bits w 127 126
  if k = 0 then
    let fb := bits w 100 95
    let ht := bits w 121 116
    let child := bits w 88 69
    bits w 125 124 == 3 || bits w 123 122 == 3 || decide (24 ≤ ht ∧ ht ≤ 47) || decide (32 < fb)
      || (fb != 0 && decide (32 < bits w 105 101 + fb)) || decide (32 < bits w 94 89) || decide (child ≤ i)
      || decide (n ≤ child + 1) || bits w 68 64 != 0
      || (eg && (ht != 0 || bits w 113 106 == 1 || bits w 113 106 == 2))
  else if k = 1 then bits w 103 0 != 0 || (bitN w 124 == 0 && decide (na ≤ bits w 123 104))
  else true

/-- A destination is out of range for its kind (R151). -/
def badDest (kind idx : Nat) : Bool :=
  if kind = 0 then decide (1048575 < idx) else if kind = 1 ∨ kind = 5 then decide (65535 < idx)
  else if kind = 2 then false else if kind = 3 ∨ kind = 4 then decide (3 < idx) else true

/-- An action record breaks R150 or R151. -/
def badAction (eg : Bool) (w : Nat) : Bool :=
  bits w 31 28 != 0 || bits w 63 53 != 0 || bits w 95 84 != 0 || bits w 127 120 != 0 || bits w 143 140 != 0
    || w / 2 ^ 160 != 0 || (bitN w 0 == 1 && badDest (bits w 3 1) (bits w 52 32))
    || (bitN w 21 == 1 && bits w 23 22 == 3)
    || (eg && [0, 5, 6, 12, 17, 21, 24, 27].any (fun k => bitN w k == 1))

/-- Bytes that a fixup writes from its offset on (R158). -/
def fixEnd (kind : Nat) : Nat := [0, 12, 6, 8, 4, 2, 2].getD kind 0

/-- A template breaks R158. -/
def badTemplate (w : Nat) : Bool :=
  let kind := bits w 7 0
  let len := bits w 23 16
  decide (3 < kind) || decide (96 < len) || decide (96 < bits w 31 24) || bits w 255 160 != 0
    || (kind == 1 && (bits w 15 8 == 0 || decide (3 < bits w 15 8)))
    || (List.range 8).any (fun i =>
        let f := bits w (32 + 16 * i + 15) (32 + 16 * i)
        bits f 15 12 != 0 || decide (6 < bits f 11 8)
          || (bits f 11 8 != 0 && decide (len < bits f 7 0 + fixEnd (bits f 11 8))))

/-- Ones of a number below 2^64. -/
def ones64 (n : Nat) : Nat := onesBelow n 64

/-- A trie node breaks R170. -/
def badTrie (nn nh nr : Nat) (maximal inHbm : Bool) (w : Nat) : Bool :=
  let st := bits w 253 251
  let ext := bits w 127 64
  let int := bits w 62 0
  let hbm := bitN w 250 == 1
  bits w 255 254 != 0 || st == 0 || st == 7 || bits w 199 128 != 0 || bitN w 63 != 0
    || decide (2 ^ 2 ^ st ≤ ext) || decide (2 ^ (2 ^ st - 1) ≤ int) || (hbm && !maximal)
    || (ext != 0 && (decide ((if hbm then nh else nn) < bits w 249 224 + ones64 ext) || (inHbm && !hbm)))
    || (int != 0 && decide (nr < bits w 223 200 + ones64 int))

/-- A result word breaks R169 or R170. -/
def badResult (w : Nat) : Bool :=
  let k := bits w 31 30
  k == 3 || bits w 29 20 != 0 || (k == 1 && decide (65535 < bits w 19 0)) || (k == 2 && bits w 19 0 != 0)

/-- A valid root names a node beyond NODES (R170). -/
def badRoot (nn w : Nat) : Bool := bitN w 31 == 1 && decide (nn ≤ bits w 23 0)

/-- A pitch entry breaks R239. -/
def badPitch (rope : Bool) (w : Nat) : Bool :=
  decide (2 ≤ bits w 63 62) || bits w 61 59 != 0 || bits w 15 0 != 0
    || (bits w 63 62 == 1 && decide (65535 < bits w 58 40)) || ((bits w 19 16 == 0) == rope)

/-- An index word breaks R239. -/
def badIndex (entries w : Nat) : Bool :=
  bitN w 31 == 1 || decide (1024 < bits w 30 20) || decide (entries < bits w 19 0 + bits w 30 20)

/-- A gate-list entry breaks R265. -/
def badGate (w : Nat) : Bool := bits w 63 48 != 0 || bits w 15 8 != 0 || decide (1000000000 < bits w 47 16)

/-- A 96-bit time has fraction bits. -/
def hasFraction (w : Nat) : Bool := bits w 15 0 != 0

/-- A 96-bit time of whole nanoseconds, in nanoseconds since the PTP epoch. -/
def timeNs (w : Nat) : Nat := time96Frac (bits w 95 0) / 65536

/-- A fabric route breaks R304. -/
def badFrt (w : Nat) : Bool :=
  let n := bits w 100 96
  decide (16 < n) || bits w 127 101 != 0 || (List.range (min n 16)).any (fun i => decide (39 < bits w (6 * i + 5) (6 * i)))

/-- A multicast tree breaks R307. -/
def badTree (w : Nat) : Bool := bits w 175 169 != 0 || bits w 191 189 != 0 || bits w 255 192 != 0

/-- The domains of a mask are all in another mask. -/
def coversAll (m : Nat) (l : List Nat) : Bool := l.all (fun d => bitN m d == 1)

/-- What a fallow domain requires (R413). -/
def fallowNeeds (d : Nat) : Option (List Nat) :=
  let hbm := [20, 21, 22, 23, 24, 25, 26, 27]
  let pipes := [6, 7, 8, 9]
  if d ≤ 5 ∨ d = 16 then none
  else if 20 ≤ d ∧ d ≤ 27 then some (hbm ++ [18, 19])
  else if d = 18 ∨ d = 19 then some ([18, 19] ++ hbm ++ pipes ++ [17, 32])
  else if 6 ≤ d ∧ d ≤ 9 then some [12 + (d - 6)]
  else if d = 10 ∨ d = 11 then some pipes
  else if d = 17 then some (pipes ++ [12, 13, 14, 15])
  else if d = 32 then some [28, 29, 30, 31]
  else some []

/-- A lean-plan record breaks R413. -/
def badPlan (w : Nat) : Bool :=
  let f := bits w 39 0
  bits w 39 33 != 0 || bits w 63 40 != 0 || bits w 127 96 != 0
    || (bitsSet f 33).any (fun d => match fallowNeeds d with
        | none => true
        | some l => !coversAll f l)

/-! ## LPM images and patches (R167 to R170, R202, R203) -/

/-- The sections of an LPM image. -/
def lpmOf (b : Bytes) : LpmImage :=
  let l := artSects b
  { roots4 := entryNats b l 1 4, roots6 := entryNats b l 2 4, nodes := entryNats b l 3 32, results := entryNats b l 4 4,
    hbmNodes := entryNats b l 5 32 }

/-- On-die LPM bytes of a profile (R164). -/
def lpmSpace (profile : Nat) : Nat := if profile = 0 then 18874368 else 37748736

/-- Counts fit the bank (R164). -/
def lpmFits (profile nodes results hbm : Nat) : Bool :=
  decide (32 * nodes + 4 * results ≤ lpmSpace profile ∧ 32 * hbm ≤ 134217728)

/-- Offsets of an image's bad entries (R170). -/
def lpmBad (b : Bytes) (maximal : Bool) : List Nat :=
  let l := artSects b
  let nn := countOf l 3
  let nr := countOf l 4
  let nh := countOf l 5
  badEntries b l 1 4 (fun _ w => badRoot nn w) ++ badEntries b l 2 4 (fun _ w => badRoot nn w)
    ++ badEntries b l 3 32 (fun _ w => badTrie nn nh nr maximal false w)
    ++ badEntries b l 4 4 (fun _ w => badResult w)
    ++ badEntries b l 5 32 (fun _ w => badTrie nn nh nr maximal true w)

/-- A list cut or padded with zeros to a length. -/
def sized (n : Nat) (l : List Nat) : List Nat := l.take n ++ List.replicate (n - l.length) 0

/-- The totals of a patch header: BASE_GEN, NODES, RESULTS, HBM_NODES (R202). -/
def patchTotals (b : Bytes) : Nat × Nat × Nat × Nat :=
  let o := offsetOf (artSects b) 1 16 0
  (leAt b o 2, leAt b (o + 4) 4, leAt b (o + 8) 4, leAt b (o + 12) 4)

/-- A root list with entry v replaced; entries between are not valid. -/
def setRoot (l : List Nat) (v r : Nat) : List Nat := (sized (max l.length (v + 1)) l).set v r

/-- Apply the entries of one section of a patch (R203). -/
def patchSect (b : Bytes) (l : List Sect) (img : LpmImage) (kind : Nat) : LpmImage :=
  if kind = 2 then (entryNats b l 2 8).foldl (fun m e =>
      if bits e 55 48 = 4 then { m with roots4 := setRoot m.roots4 (bits e 47 32) (bits e 31 0) }
      else { m with roots6 := setRoot m.roots6 (bits e 47 32) (bits e 31 0) }) img
  else if kind = 3 then (entryNats b l 3 40).foldl (fun m e =>
      if bitN e 31 = 1 then { m with hbmNodes := m.hbmNodes.set (bits e 23 0) (bits e 319 64) }
      else { m with nodes := m.nodes.set (bits e 23 0) (bits e 319 64) }) img
  else if kind = 4 then (entryNats b l 4 8).foldl (fun m e => { m with results := m.results.set (bits e 31 0) (bits e 63 32) }) img
  else img

/-- The bank that a patch builds from the active one (R203): section order, entry order. -/
def patched (b : Bytes) (img : LpmImage) : LpmImage :=
  let l := artSects b
  let t := patchTotals b
  let base := { img with nodes := sized t.2.1 img.nodes, results := sized t.2.2.1 img.results,
                         hbmNodes := sized t.2.2.2 img.hbmNodes }
  l.foldl (fun m x => patchSect b l m x.kind) base

/-- The last write of a patch to an entry: section kind and a test on its entries. -/
def lastWrite (b : Bytes) (l : List Sect) (kind size : Nat) (hit : Nat → Bool) : Option Nat :=
  (((numbered (entryNats b l kind size)).filter (fun e => hit e.2)).getLast?).map (fun e => offsetOf l kind size e.1)

/-- An index between two counts that no write of the patch covers (R203). -/
def unwritten (b : Bytes) (l : List Sect) (kind size lo hi : Nat) (covers : Nat → Nat → Bool) : Bool :=
  (List.range (hi - lo)).any (fun i => !(entryNats b l kind size).any (covers (lo + i)))

/-- The first failure of a patch under R203; its offset. -/
def patchBad (b : Bytes) (gen : Nat) (img : LpmImage) (maximal : Bool) : Option Nat :=
  let l := artSects b
  let hdr := offsetOf l 1 16 0
  let t := patchTotals b
  let beyond := badEntries b l 2 8 (fun _ e => decide (4095 < bits e 47 32) || (bits e 55 48 != 4 && bits e 55 48 != 6))
    ++ badEntries b l 3 40 (fun _ e => decide ((if bitN e 31 = 1 then t.2.2.2 else t.2.1) ≤ bits e 23 0))
    ++ badEntries b l 4 8 (fun _ e => decide (t.2.2.1 ≤ bits e 31 0))
  if t.1 ≠ gen then some hdr
  else
    match beyond.min? with
    | some o => some o
    | none =>
      if unwritten b l 3 40 img.nodes.length t.2.1 (fun i e => bitN e 31 == 0 && bits e 23 0 == i)
          || unwritten b l 3 40 img.hbmNodes.length t.2.2.2 (fun i e => bitN e 31 == 1 && bits e 23 0 == i)
          || unwritten b l 4 8 img.results.length t.2.2.1 (fun i e => bits e 31 0 == i) then some hdr
      else
        let m := patched b img
        let bad := fun (f : Nat → Bool) (x : List Nat) => ((numbered x).filter (fun e => f e.2)).map Prod.fst
        let where_ := fun (kind size : Nat) (hit : Nat → Nat → Bool) (i : Nat) => (lastWrite b l kind size (hit i)).getD hdr
        let offs :=
          (bad (badRoot t.2.1) m.roots4).map (where_ 2 8 (fun i e => bits e 55 48 == 4 && bits e 47 32 == i))
          ++ (bad (badRoot t.2.1) m.roots6).map (where_ 2 8 (fun i e => bits e 55 48 == 6 && bits e 47 32 == i))
          ++ (bad (badTrie t.2.1 t.2.2.2 t.2.2.1 maximal false) m.nodes).map
              (where_ 3 40 (fun i e => bitN e 31 == 0 && bits e 23 0 == i))
          ++ (bad (badTrie t.2.1 t.2.2.2 t.2.2.1 maximal true) m.hbmNodes).map
              (where_ 3 40 (fun i e => bitN e 31 == 1 && bits e 23 0 == i))
          ++ (bad badResult m.results).map (where_ 4 8 (fun i e => bits e 31 0 == i))
        offs.min?

/-! ## Calendars (R237 to R239) -/

/-- The calendar of an artifact. -/
def calOf (b : Bytes) : Calendar :=
  let l := artSects b
  { cycle := leAt b (offsetOf l 1 16 0) 1, index := entryNats b l 2 4, entries := entryNats b l 3 8, rope := entryNats b l 4 8 }

/-- Distinct entries of one slice of 250 index words. -/
def sliceSize (idx : List Nat) : Nat :=
  ((idx.flatMap (fun w => (List.range (bits w 30 20)).map (fun j => bits w 19 0 + j))).eraseDups).length

/-- The largest slice of a calendar (R239). -/
def Calendar.largest (c : Calendar) : Nat :=
  ((List.range c.cycle).map (fun j => sliceSize ((c.index.drop (250 * j)).take 250))).foldl max 0

/-- The room that the other ports' calendars take (R239). -/
def State.calOthers (s : State) (p : Nat) : Nat :=
  ((s.banks.cals.filter (fun e => e.1 != p)).map (fun e =>
    max e.2.active.body.largest ((e.2.staged.map (fun b => b.body.largest)).getD 0))).sum

/-! ## Banks and staging (R44, R45, R69) -/

/-- The page that governs an artifact type (R15). -/
def artPage (ty : Nat) : Nat := [0, 0x30, 0x32, 0x37, 0x33, 0x33, 0x53, 0x56, 0x56, 0x71, 0x7A, 0x01].getD ty 0

/-- A banked structure has a retiring bank. -/
def Banked.draining {α : Type} (b : Banked α) : Bool := b.retiring.isSome

/-- A calendar's bank pair. -/
def State.calBank (s : State) (p : Nat) : Banked Calendar := s.banks.cals.get (Banked.initial Calendar.empty) p

/-- A gate list's bank pair. -/
def State.cycBank (s : State) (p : Nat) : Banked CycList := s.banks.cycs.get (Banked.initial CycList.empty) p

/-- A rule set's bank pair. -/
def State.setBank (s : State) (n : Nat) : Banked RuleSet := s.banks.sets.getD n (Banked.initial RuleSet.empty)

/-- Check 9: the staged bank's retiring predecessor still drains. -/
def State.bankDrains (s : State) (ty sub : Nat) : Bool :=
  if ty = 1 then s.banks.parse.draining else if ty = 2 then (s.setBank sub).draining
  else if ty = 3 then s.banks.tmpl.draining else if ty = 4 ∨ ty = 5 then s.banks.lpm.draining
  else if ty = 6 then (s.calBank sub).draining else if ty = 7 then (s.cycBank sub).draining
  else if ty = 8 then false else if ty = 9 then s.banks.frt.draining
  else if ty = 10 then s.banks.fmc.draining else s.banks.plan.draining

/-- Check 10 (R470): an armed cairn covers the page; for a timetable, one of the port is pending. -/
def State.bankNamed (s : State) (ty sub : Nat) : Bool :=
  if ty = 8 then (s.gate sub).ttPending.isSome else (s.armedFor (artPage ty)).isSome

/-- Bytes of a rule set. -/
def RuleSet.size (r : RuleSet) : Nat := 16 * r.nodes.length + 32 * r.actions.length

/-- Bytes that the banks of a rule set hold, with or without its staged one. -/
def setBytes (b : Banked RuleSet) (staged : Bool) : Nat :=
  b.active.body.size + (if staged then (b.staged.map (fun x => x.body.size)).getD 0 else 0)
    + (b.retiring.map (fun x => x.1.body.size)).getD 0

/-- Check 11 for a rule set (R142). -/
def State.setFits (s : State) (sub nn na : Nat) : Bool :=
  let half := if sub < 4 then [0, 1, 2, 3] else [4, 5, 6, 7]
  let used := (half.map (fun n => setBytes (s.setBank n) (n != sub))).sum
  let acts := (([0, 1, 2, 3, 4, 5, 6, 7].filter (fun n => n != sub)).map (fun n => (s.setBank n).active.body.actions.length)).sum
  decide (nn ≤ 1048576 ∧ na ≤ 524288 ∧ used + 16 * nn + 32 * na ≤ 33554432 ∧ acts + na ≤ 524288)

/-- Check 11: entries fit the structure's capacity. -/
def State.hasRoom (s : State) (b : Bytes) : Bool :=
  let l := artSects b
  let ty := artType b
  let prof := s.rd Reg.LPM_STAT_PROFILE
  if ty = 1 then decide (countOf l 1 ≤ 1024)
  else if ty = 2 then s.setFits (artSubject b) (countOf l 1) (countOf l 2)
  else if ty = 3 then decide (countOf l 1 ≤ 4096)
  else if ty = 4 then
    decide (countOf l 1 ≤ 4096 ∧ countOf l 2 ≤ 4096) && lpmFits prof (countOf l 3) (countOf l 4) (countOf l 5)
  else if ty = 5 then lpmFits prof (patchTotals b).2.1 (patchTotals b).2.2.1 (patchTotals b).2.2.2
  else if ty = 6 then
    decide (countOf l 3 ≤ 65536 ∧ countOf l 4 ≤ 1024 ∧ (calOf b).largest ≤ 16384
      ∧ (calOf b).largest + s.calOthers (artSubject b) ≤ 524288)
  else if ty = 7 then decide (countOf l 2 ≤ 1024)
  else if ty = 8 then decide (countOf l 2 ≤ 4096)
  else if ty = 9 then decide (countOf l 1 ≤ 8192)
  else if ty = 10 then decide (countOf l 1 ≤ 65536)
  else true

/-- Offsets of the entries of a timetable that break R268. -/
def ttBad (b : Bytes) (l : List Sect) : List Nat :=
  let t := entryNats b l 2 16
  let take := timeNs (le (sl b (offsetOf l 1 16 0) 12))
  badEntries b l 1 16 (fun _ w => hasFraction w || bits w 127 104 != 0)
    ++ badEntries b l 2 16 (fun i w => hasFraction w || bits w 127 104 != 0
        || (if i = 0 then decide (timeNs w < take) else decide (timeNs w < timeNs (t.getD (i - 1) 0) + 100)))

/-- Check 12 (R127, R148, R158, R170, R203, R239, R265, R268, R269, R304, R307, R413): the first bad entry's offset. -/
def State.badEntry (s : State) (b : Bytes) : Option Nat :=
  let l := artSects b
  let ty := artType b
  let max_ := s.rd Reg.LPM_STAT_PROFILE == 2
  if ty = 1 then let st := entryNats b l 1 8; (badEntries b l 1 8 (badState st)).min?
  else if ty = 2 then
    let eg := artSubject b == 5 || artSubject b == 6
    (badEntries b l 1 16 (badNode (countOf l 1) (countOf l 2) eg) ++ badEntries b l 2 32 (fun _ w => badAction eg w)).min?
  else if ty = 3 then (badEntries b l 1 128 (fun _ w => badTemplate w)).min?
  else if ty = 4 then (lpmBad b max_).min?
  else if ty = 5 then patchBad b (s.pageGen 0x33) s.banks.lpm.active.body max_
  else if ty = 6 then
    (badEntries b l 1 16 (fun _ w => w % 256 == 0 || decide (8 < w % 256) || w / 256 != 0)
      ++ badEntries b l 2 4 (fun _ w => badIndex (countOf l 3) w)
      ++ badEntries b l 3 8 (fun _ w => badPitch false w) ++ badEntries b l 4 8 (fun _ w => badPitch true w)).min?
  else if ty = 7 then
    (badEntries b l 1 16 (fun _ w => hasFraction w || decide (1000000000 < bits w 127 96))
      ++ badEntries b l 2 8 (fun _ w => badGate w)).min?
  else if ty = 8 then
    let late := epochOf (timeNs (le (sl b (offsetOf l 1 16 0) 12))) ≤ s.epoch + 4
    ((if late then [offsetOf l 1 16 0] else []) ++ ttBad b l).min?
  else if ty = 9 then (badEntries b l 1 16 (fun _ w => badFrt w)).min?
  else if ty = 10 then (badEntries b l 1 32 (fun _ w => badTree w)).min?
  else (badEntries b l 1 16 (fun _ w => badPlan w)).min?

/-- Put a new artifact, or none, into the staged bank. -/
def Banked.stage {α : Type} (b : Banked α) (x : Option (Bank α)) : Banked α := { b with staged := x }

/-- A SHA-384 value as its 48 bytes. -/
def shaBytes (d : BitVec 384) : Bytes := toBe 48 d.toNat

/-- The staged bank of a type and SUBJECT holds an artifact, or no valid one (R44, R45). A timetable has no bank. -/
def State.stageBank (s : State) (b : Bytes) (ok : Bool) : State :=
  let ty := artType b
  let sub := artSubject b
  let l := artSects b
  let g := nextGen (s.pageGen (artPage ty))
  let dig := Config.sha384 b
  let k := s.banks
  if ty = 1 then
    { s with banks := { k with parse := k.parse.stage (if ok then some { gen := g, body := entryNats b l 1 8, digest := dig } else none) } }
  else if ty = 2 then
    let r : RuleSet := { nodes := entryNats b l 1 16, actions := entryNats b l 2 32 }
    { s with banks := { k with sets := setIdx k.sets sub ((s.setBank sub).stage (if ok then some { gen := g, body := r, digest := dig } else none)) } }
  else if ty = 3 then
    { s with banks := { k with tmpl := k.tmpl.stage (if ok then some { gen := g, body := entryBytes b l 1 128, digest := dig } else none) } }
  else if ty = 4 then
    { s with banks := { k with lpm := k.lpm.stage (if ok then some { gen := g, body := lpmOf b, digest := dig } else none) } }
  else if ty = 5 then
    let d := Config.sha384 (shaBytes k.lpm.active.digest ++ shaBytes dig)
    { s with banks := { k with lpm := k.lpm.stage (if ok then some { gen := g, body := patched b k.lpm.active.body, digest := d } else none) } }
  else if ty = 6 then
    let x := (s.calBank sub).stage (if ok then some { gen := g, body := calOf b, digest := dig } else none)
    { s with banks := { k with cals := k.cals.set (Banked.initial Calendar.empty) sub x } }
  else if ty = 7 then
    let h := le (sl b (offsetOf l 1 16 0) 16)
    let c : CycList := { base := timeNs h, cycleNs := bits h 127 96, entries := entryNats b l 2 8 }
    let x := (s.cycBank sub).stage (if ok then some { gen := g, body := c, digest := dig } else none)
    { s with banks := { k with cycs := k.cycs.set (Banked.initial CycList.empty) sub x } }
  else if ty = 8 then
    if ok then
      let h := le (sl b (offsetOf l 1 16 0) 16)
      let t : Timetable := { takeover := timeNs h, initial := bits h 103 96,
                             entries := (entryNats b l 2 16).map (fun w => (timeNs w, bits w 103 96)) }
      s.setGate sub { s.gate sub with ttPending := some t }
    else s
  else if ty = 9 then
    { s with banks := { k with frt := k.frt.stage (if ok then some { gen := g, body := entryNats b l 1 16, digest := dig } else none) } }
  else if ty = 10 then
    { s with banks := { k with fmc := k.fmc.stage (if ok then some { gen := g, body := entryNats b l 1 32, digest := dig } else none) } }
  else
    let w := le (sl b (offsetOf l 1 16 0) 16)
    let p : LeanPlan := { fallow := bits w 39 0, planId := bits w 95 64 }
    { s with banks := { k with plan := k.plan.stage (if ok then some { gen := g, body := p, digest := dig } else none) } }

/-- The CRC of R41: over the whole artifact, the CRC field taken as 0. -/
def artCrcOk (b : Bytes) : Bool := crc32c (putAt b 0x3C (zeros 4)) == leAt b 0x3C 4

/-- The checks of R44 in their order: status and DETAIL. -/
def State.checkArtifact (s : State) (b : Bytes) : Nat × Nat :=
  let ty := artType b
  if b.length < 64 ∨ leAt b 0x10 4 ≠ b.length then (1, 0)
  else if sl b 0 4 ≠ [0x43, 0x59, 0x47, 0x41] then (2, 0)
  else if ¬ artCrcOk b then (3, 0)
  else
    match maxSubject ty with
    | none => (4, 0)
    | some m =>
      if leAt b 6 2 ≠ 0x0100 then (5, 0)
      else if leAt b 8 4 ≠ 0x256000B0 then (6, 0)
      else if m < artSubject b then (7, 0)
      else if ¬ sectionsOk b ∨ ¬ layoutOk b (s.rd Reg.LPM_STAT_PROFILE == 2) then (8, 0)
      else if s.bankDrains ty (artSubject b) then (9, 0)
      else if s.bankNamed ty (artSubject b) then (10, 0)
      else if ¬ s.hasRoom b then (11, 0)
      else
        match s.badEntry b with
        | some o => (12, o)
        | none => (0, 0)

/-- Load an artifact: its status, its DETAIL, and the staged bank after it (R44, R45, R269). -/
def State.loadArtifact (s : State) (b : Bytes) : State × Nat × Nat :=
  let r := s.checkArtifact b
  let t := if r.1 = 0 then s.stageBank b true
    else if r.1 = 8 ∨ r.1 = 11 ∨ r.1 = 12 then s.stageBank b false
    else s
  let ttLate := r.1 = 12 ∧ artType b = 8 ∧ epochOf (timeNs (le (sl b (offsetOf (artSects b) 1 16 0) 12))) ≤ s.epoch + 4
  (if ttLate then (t.wri Reg.GATE_STAT_p_TT_LATE (artSubject b) 1).trb 0x56 5 else t, r.1, r.2)

end Sys2Proof.Machine
end

