-- ==== Sys2Proof/Machine/Sched.lean ====
section
/-! DEFINITION. Sched: calendars, the walk of a port's pitch list and rope, transmission, and the scan of old heads (R237
to R244, R247, R252 to R254, R229). -/
namespace Sys2Proof.Machine

/-! ## Calendars (R237, R238, R240) -/

/-- Fields of a pitch entry (R238). -/
def peKind (e : Nat) : Nat := bits e 63 62
def peNode (e : Nat) : Nat := bits e 58 40
def peQuantum (e : Nat) : Nat := bits e 39 20
def peRank (e : Nat) : Nat := bits e 19 16

/-- The S-node of an entry's node. -/
def peSnode (e : Nat) : Nat := if peKind e = 0 then peNode e / 8 else peNode e

/-- The queues under an entry, in the order in which they are chosen (R241). -/
def peQueues (e : Nat) : List Nat :=
  if peKind e = 0 then [peNode e] else [7, 6, 5, 4, 3, 2, 1, 0].map (fun c => 8 * peNode e + c)

/-- The calendar of a port. -/
def State.cal (s : State) (p : Nat) : Banked Calendar := s.banks.cals.get (Banked.initial Calendar.empty) p

/-- The port's calendar is present (R237, R34). -/
def State.calPresent (s : State) (p : Nat) : Bool :=
  (s.cal p).active.gen != 0 && s.runs 0x53
    && !((s.cal p).active.body.entries.isEmpty && (s.cal p).active.body.rope.isEmpty)

/-- An arbiter that has done nothing. -/
def SchedPort.initial : SchedPort :=
  { todo := [], visit := none, ropePtr := [], slices := [], cutting := none, cnt := [0, 0, 0, 0, 0, 0] }

/-- The arbiter of a port. -/
def State.sch (s : State) (p : Nat) : SchedPort := s.sched.get SchedPort.initial p

/-- Replace the arbiter of a port. -/
def State.setSch (s : State) (p : Nat) (x : SchedPort) : State := { s with sched := s.sched.set SchedPort.initial p x }

/-- The per-port counters of R257, in the order of SchedPort.cnt. -/
def schFields : List Fld :=
  [Reg.SCH_VISITS, Reg.SCH_SKIP_EMPTY, Reg.SCH_SKIP_GATE, Reg.SCH_SKIP_TOK, Reg.SCH_CUT, Reg.SCH_ROPE]

/-- Add to counter k of a port (R257). -/
def State.schCount (s : State) (p k n : Nat) : State :=
  if n = 0 then s
  else
    let x := s.sch p
    (s.setSch p { x with cnt := setIdx x.cnt k ((x.cnt.getD k 0 + n) % 2 ^ 64) }).statEvent 0x53 (schFields.getD k Reg.SCH_VISITS) 0 n

/-- The pitch list of pitch k of an epoch, without the entries whose read failed (R237, R240). -/
def Calendar.pitchList (c : Calendar) (epoch k : Nat) (bad : List Nat) : List Nat :=
  let w := c.index.getD (250 * (if c.cycle = 0 then 0 else epoch % c.cycle) + k) 0
  ((List.range (bits w 30 20)).filter (fun i => !bad.contains (bits w 19 0 + i))).map (fun i => c.entries.getD (bits w 19 0 + i) 0)

/-- A pitch boundary at a port: the old list is cut, the new one starts; without its slice on die the list is empty (R240,
R242, R257). -/
def State.schedPitch (s : State) (p : Nat) : State :=
  let x := s.sch p
  let n := x.todo.length
  let s := (s.trbN 0x53 3 n).schCount p 4 n
  let x := { s.sch p with todo := [], visit := none, slices := x.slices.filter (fun e => s.epoch ≤ e.1) }
  if s.calPresent p then
    match x.slices.find? (fun e => e.1 == s.epoch) with
    | some (_, bad) => s.setSch p { x with todo := (s.cal p).active.body.pitchList s.epoch s.pitch bad }
    | none => ((s.setSch p x).trb 0x53 5).evt 0x53 1
  else s.setSch p x

/-! ## Which queue can send (R241) -/

/-- Why a queue cannot send, or that it can. -/
inductive Block where
  | ok | empty | paused | gated | guarded | tokens
  deriving DecidableEq, Repr

/-- The length by which the guard rule judges a head: P, or the length allocated while P is unknown. -/
def Packet.guardLen (p : Packet) : Nat := match p.knownLen with | some n => n | none => p.alloc - 32

/-- The shapers on a queue's path, the queue's own first. -/
def State.pathOf (s : State) (q : Nat) : List Nat := q :: s.aboveIdx (q / 8)

/-- Whether queue q can be served under an entry (R241, R112, R271). -/
def State.queueState (s : State) (bad : List BadCell) (port e q : Nat) (rope : Bool) : Block :=
  match s.eq q with
  | [] => .empty
  | h :: _ =>
    let c := q % 8
    let len := match s.buffer h.bid with | some b => b.pkt.guardLen | none => 0
    let comm := if peKind e = 0 then s.pathOf q else s.aboveIdx (q / 8)
    if port < 128 ∧ bitN (s.pf Reg.PORT_STAT_RX_PAUSED port) c = 1 then .paused
    else if ¬ s.peakOk bad (s.pathOf q) ∨ (¬ rope ∧ ¬ s.commOk comm) then .tokens
    else if ¬ s.gateOpen port c then .gated
    else if ¬ s.guardOk port c len then .guarded
    else .ok

/-- Discard heads that are too old, or that another port's packet heads (R252, R254). -/
def State.dropHeads (s : State) (port : Nat) (l : List QEnt) : State × List QEnt :=
  match l with
  | [] => (s, [])
  | e :: t =>
    if s.tooOld e then State.dropHeads (((s.stat 0x52 Reg.QM_AGED 0 1).trb 0x52 3).dropEnt e none) port t
    else if e.dst ≠ port then State.dropHeads ((s.trb 0x52 6).dropEnt e none) port t
    else (s, e :: t)

/-- Settle the head of a queue before it is served. -/
def State.settleHead (port : Nat) (s : State) (q : Nat) : State :=
  let r := s.dropHeads port (s.eq q)
  r.1.setEq q r.2

/-- Report the shaper entries that fail their check on the paths of an entry's waiting queues (R247). -/
def State.shaperErrors (s : State) (bad : List BadCell) (l : List Nat) : State :=
  let idx := ((l.filter (fun q => !(s.eq q).isEmpty)).flatMap s.pathOf).eraseDups
  if s.shaping then (idx.filter (badCell bad .shaper 0)).foldl (fun t _ => t.parityError 0x54 3 1) s else s

/-- Try an entry: the queue to serve, or why there is none (R241, R257); an entry that the guard rule withholds counts
(R278). -/
def State.tryEntry (s : State) (bad : List BadCell) (port e : Nat) (rope : Bool) : State × Option Nat × Block :=
  if ¬ s.leadsTo (peSnode e) port then (s.trb 0x53 6, none, .paused)
  else
    let s := (peQueues e).foldl (State.settleHead port) s
    let s := s.shaperErrors bad (peQueues e)
    let l := (peQueues e).map (fun q => (q, s.queueState bad port e q rope))
    match l.find? (fun x => x.2 == .ok) with
    | some (q, _) => (s, some q, .ok)
    | none =>
      let guarded := l.any (fun x => x.2 == .guarded)
      (if guarded then s.trb 0x56 6 else s, none,
       if l.any (fun x => x.2 == .tokens) then .tokens else if guarded || l.any (fun x => x.2 == .gated) then .gated
        else if l.any (fun x => x.2 == .paused) then .paused else .empty)

/-- Count a skipped entry (R257). -/
def State.skipCount (s : State) (port : Nat) (b : Block) : State :=
  match b with
  | .empty => s.schCount port 1 1
  | .gated => s.schCount port 2 1
  | .tokens => s.schCount port 3 1
  | _ => s

/-! ## The walk (R242, R243) -/

/-- Walk the pitch list to the next queue that can send. -/
def State.walkList (s : State) (bad : List BadCell) (port : Nat) (l : List Nat) : State × Option Nat :=
  match l with
  | [] => (s.setSch port { s.sch port with todo := [] }, none)
  | e :: t =>
    if peQuantum e = 0 then State.walkList s bad port t
    else
      match s.tryEntry bad port e false with
      | (s, some q, _) =>
        let s := s.setSch port { s.sch port with todo := t, visit := some (e, (peQuantum e : Int), none) }
        (s.schCount port 0 1, some q)
      | (s, none, b) => State.walkList (s.skipCount port b) bad port t

/-- The entries of a rank with their places in the rank. -/
def ropeRank (rope : List Nat) (r : Nat) : List Nat := rope.filter (fun e => peRank e == r)

/-- Try the entries of one rank, from the pointer on, once around (R243). -/
def State.walkRank (s : State) (bad : List BadCell) (port r : Nat) (l : List (Nat × Nat)) (n : Nat) : State × Option Nat :=
  match l with
  | [] => (s, none)
  | (e, i) :: t =>
    if peQuantum e = 0 then State.walkRank s bad port r t n
    else
      match s.tryEntry bad port e true with
      | (s, some q, _) =>
        let x := s.sch port
        ((s.setSch port { x with visit := some (e, (peQuantum e : Int), some r), ropePtr := x.ropePtr.set 0 r ((i + 1) % n) }).schCount
          port 5 1, some q)
      | (s, none, _) => State.walkRank s bad port r t n

/-- The rope walk (R243). -/
def State.walkRope (s : State) (bad : List BadCell) (port : Nat) (ranks : List Nat) : State × Option Nat :=
  match ranks with
  | [] => (s, none)
  | r :: rest =>
    let l := ropeRank (s.cal port).active.body.rope r
    let k := (s.sch port).ropePtr.get 0 r
    let m := l.zip (List.range l.length)
    match s.walkRank bad port r (m.drop k ++ m.take k) l.length with
    | (s, some q) => (s, some q)
    | (s, none) => State.walkRope s bad port rest

/-- Ranks 1 to 15. -/
def ranks : List Nat := (List.range 15).map (· + 1)

/-- The next queue to send: the visit in progress, then the pitch list, then the rope (R242, R243). -/
def State.nextQueue (s : State) (bad : List BadCell) (port : Nat) : State × Option Nat :=
  let go := fun (s : State) =>
    match (s.setSch port { s.sch port with visit := none }).walkList bad port (s.sch port).todo with
    | (s, some q) => (s, some q)
    | (s, none) => s.walkRope bad port ranks
  match (s.sch port).visit with
  | some (e, left, rope) =>
    if 0 < left then
      match s.tryEntry bad port e rope.isSome with
      | (s, some q, _) => (s, some q)
      | (s, none, _) => go s
    else go s
  | none => go s

/-! ## Transmission (R159, R188, R229, R247) -/

/-- Charge a packet of P bytes sent from queue q, to its path and to the visit in progress (R242, R247). -/
def State.chargeSent (s : State) (port q p : Nat) : State :=
  let w := s.charge port p
  let s := s.chargeNodes (s.pathOf q) w
  match (s.sch port).visit with
  | some (e, left, r) => s.setSch port { s.sch port with visit := some (e, left - w, r) }
  | none => s

/-- What the egress rule sets read of a copy (R147). -/
def Packet.egressKeys (p : Packet) (port cls : Nat) : KeyCtx :=
  { eg := true, b := [], lim := 0, r := ParseRes.empty, port := port, pass := 0, d := { p.d with cls := cls },
    src := p.srcDev * 256 + p.port, tos := p.tos, proto := p.proto, dport := p.dport }

/-- T_tx of a frame that starts now (R13, R63). -/
def State.txStamp (s : State) (port : Nat) : Nat := s.frac + bits (s.time.ptpLat.get 0 port) 31 16 * 256

/-- Egress rewriting of a copy: rule sets, template, adjacency, length, padding, and the two insertions of time (R51, R141,
R159, R188); no bytes where it drops the copy; and the flow counter that the rule sets name. -/
def State.rewrite (s : State) (bad : List BadCell) (port ttx : Nat) (e : QEnt) (p : Packet) :
    State × Option Bytes × Option Nat :=
  match s.egressSets bad e.gens (p.egressKeys port e.cls) p.d with
  | (s, d, c) =>
    if d.drop then (s.stat 0x32 Reg.CLS_DROPS 0 1, none, c)
    else
      let r := s.egressTemplate bad e.gens.tmpl d p.l3ofs p.hash p.bytes
      match r.1.egressAdj bad d p.l3ofs r.2 with
      | (s, none) => (s, none, c)
      | (s, some b) =>
        if s.maxFrame port < b.length + 4 then (s.actFail (d.tmpl.getD 0) 4 5, none, c)
        else
          let b := if b.length < 60 then padTo 60 b else b
          let r := s.oneStep port ttx (tcEgress p.tcOpen ttx b)
          (r.1, some r.2, c)

/-- Count a copy on the flow counter of its egress rule sets (R251). -/
def State.countCopy (s : State) (c : Option Nat) (p : Packet) : State :=
  match c with
  | some k => s.mcrPush k (p.bytes.length + 4)
  | none => s

/-- A frame leaves a port: counted, and stamped for a clock port (R63, R118). -/
def State.sendFrame (s : State) (port ttx : Nat) (b : Bytes) : State :=
  let s := if port < 128 then s.stat (portPage port) Reg.PORT_TX_FRAMES (port % 16) 1 else s
  let e := etherType b
  let s := if port < 128 ∧ s.clockEvent port b then
      s.tsqPush (tsqEntry (fracTo96 ttx) port (beAt b (e.2 + 2) 1) true (beAt b (e.2 + 32) 2))
    else s
  s.emit (.frame port (withFcs b))

/-- A frame stomped at the byte that the wire has reached, which no rule states: a free value (R229, log entry 22). -/
def State.sendStomped (s : State) (port : Nat) (b : Bytes) (poison : Bool) : State :=
  let k := s.freeNat % (b.length + 1)
  let s := s.draw
  let s := if poison then (s.stat 0x51 Reg.ADM_POISON_DROP 0 1).trb 0x51 7 else s.stompCount
  s.emit (.frame port (stomped b k))

/-- Send the head of queue q (R242): a packet whose tail is still to come holds the port until it arrives. -/
def State.sendHead (s : State) (bad : List BadCell) (port q : Nat) : State :=
  match s.eq q with
  | [] => s
  | e :: t =>
    let s := s.setEq q t
    match s.buffer e.bid with
    | none => s
    | some b =>
      let p := b.pkt
      let ttx := s.txStamp port
      let s := s.bufRead e.bid
      if e.cut ∧ ¬ p.tailDone then
        match s.rewrite bad port ttx e p with
        | (s, none, c) => ((s.chargeSent port q p.bytes.length).dropPkt { p with d := { p.d with counter := c } }).dropEnt e none
        | (s, some _, _) => s.setSch port { s.sch port with cutting := some (e, q, ttx) }
      else
        match (s.chargeSent port q p.bytes.length).rewrite bad port ttx e p with
        | (s, none, c) => (s.countCopy c p).dropEnt e none
        | (s, some x, c) =>
          let s := s.countCopy c p
          (if badCell bad .buffer 0 e.bid then s.sendStomped port x false else s.sendFrame port ttx x).dropEnt e none

/-- The cut-through frame on the wire ends with its packet's tail (R228, R229); `poison` says that the tail came by fabric
and was poisoned. -/
def State.finishCut (s : State) (port : Nat) (poison : Bool) : State :=
  match (s.sch port).cutting with
  | none => s
  | some (e, q, ttx) =>
    match s.buffer e.bid with
    | none => s
    | some b =>
      let p := b.pkt
      let s := (s.setSch port { s.sch port with cutting := none }).chargeSent port q p.bytes.length
      let r := (s.rewrite [] port ttx e p).2
      let s := s.countCopy r.2 p
      (if p.bad then s.sendStomped port (r.1.getD p.bytes) poison else s.sendFrame port ttx (r.1.getD p.bytes)).dropEnt e none

/-- The port on whose wire a buffer's packet is. -/
def State.cutPort (s : State) (bid : Nat) : Option Nat :=
  (s.sched.find? (fun e => match e.2.cutting with | some (x, _) => x.bid == bid | none => false)).map Prod.fst

/-- The link of a port, or the pair link, can take a frame (R108, R117). -/
def State.txOpen (s : State) (port : Nat) : Bool :=
  if port < 128 then !s.portClosed port else port == 133 && s.pins.present

/-- The lowest-numbered queue of a port that holds a packet. -/
def State.anyQueue (s : State) (port : Nat) : Option Nat :=
  (s.q.egress.find? (fun e => s.leadsTo (e.1 / 8) port)).map Prod.fst

/-- A closed port with DOWN_DROP discards the head of a queue (R117). -/
def State.downDrop (s : State) (port : Nat) : State :=
  if port < 128 ∧ s.pf Reg.PORT_CTL_DOWN_DROP port = 1 then
    match s.anyQueue port with
    | none => s
    | some q =>
      match s.eq q with
      | [] => s
      | e :: t => ((s.setEq q t).ptrb port 12).dropEnt e none
  else s

/-- The walk of a port that can start a packet. -/
def State.txGo (s : State) (bad : List BadCell) (port : Nat) : State :=
  match s.nextQueue bad port with
  | (s, none) => s
  | (s, some q) => s.sendHead bad port q

/-- The arbiter of a port may act: traffic is forwarded and no frame holds the wire. -/
def State.txIdle (s : State) (port : Nat) : Bool := decide (port < 160) && s.forwarding && (s.sch port).cutting.isNone

/-! ## Meanings -/

/-- PORT_TX_READY (R117, R241 to R243, R247, R252, R254). -/
def execPortTxReady (port : Nat) (bad : List BadCell) (s : State) : Host.Outcome State Fault Refusal :=
  .next (if s.txIdle port then
      if ¬ s.txOpen port then s.downDrop port
      else if s.calPresent port then s.txGo bad port else s
    else s)

/-- ROPE_WAKE: an idle port whose pitch list is done walks its rope (R242, R243). -/
def execRopeWake (port : Nat) (s : State) : Host.Outcome State Fault Refusal :=
  .next (if s.txIdle port ∧ s.txOpen port ∧ s.calPresent port ∧ (s.sch port).todo.isEmpty then
      match s.walkRope [] port ranks with
      | (t, none) => t
      | (t, some q) => t.sendHead [] port q
    else s)

/-- The queues of a scan that hold anything (R253): egress queues first, then VOQs. -/
def State.scanOne (s : State) (n : Nat) : State :=
  if n < 524288 then
    let r := s.dropOld 4 Reg.QM_AGED_SCAN (s.eq n)
    r.1.setEq n r.2
  else
    let r := s.dropOld 4 Reg.QM_AGED_SCAN (s.voqOf (n - 524288))
    r.1.setVoq (n - 524288) r.2

/-- RESIDENCE_SCAN: the heads of the next 4,096 of the 589,824 queues (R253). -/
def execResidenceScan (s : State) : Host.Outcome State Fault Refusal :=
  let lo := s.q.scanPos
  let l := ((s.q.egress.map Prod.fst) ++ (s.q.voq.map (fun (e : Nat × List QEnt) => 524288 + e.1))).filter (fun (n : Nat) => decide (lo ≤ n ∧ n < lo + 4096))
  let t := l.foldl State.scanOne s
  .next { t with q := { t.q with scanPos := (lo + 4096) % 589824 } }

/-- CALENDAR_PREFETCH: the slice of the next epoch comes on die, or, late, that of the epoch that runs; entries whose read
is uncorrectable are skipped (R240, R257). -/
def execCalendarPrefetch (port : Nat) (onTime : Bool) (bad : List Nat) (s : State) : Host.Outcome State Fault Refusal :=
  .next (if port < 160 ∧ s.calPresent port then
      let e := if onTime then s.epoch + 1 else s.epoch
      let bad := bad.filter (fun i => decide (i < (s.cal port).active.body.entries.length))
      let x := s.sch port
      let t := s.setSch port { x with slices := x.slices.filter (fun y => y.1 != e) ++ [(e, bad)] }
      let t := t.drqSomewhere 5 (0x0050000000 + port * 0x200000) 0x200000 1024 false
      bad.foldl (fun t _ => (t.parityError 0x53 4 2).evt 0x53 0) t
    else s)

end Sys2Proof.Machine
end

