-- ==== Sys2Proof/Machine/Hbm.lean ====
section
/-! DEFINITION. Hbm: the HBM controllers: initialisation, delays, bands, refresh windows, command choice, ECC and scrub
(R323 to R338). -/
namespace Sys2Proof.Machine

/-! ## Stacks -/

/-- The page of a stack's controller. -/
def hbmPage (n : Nat) : Nat := 0x60 + n

/-- A stack with nothing pending. -/
def StackSt.initial : StackSt := { window := false, pendingBand := none, loading := none, delays := [], writeBack := [] }

/-- Stack n. -/
def State.stack (s : State) (n : Nat) : StackSt := s.hbm.stackSts.get StackSt.initial n

/-- Replace stack n. -/
def State.setStack (s : State) (n : Nat) (x : StackSt) : State :=
  { s with hbm := { s.hbm with stackSts := s.hbm.stackSts.set StackSt.initial n x } }

/-- HBM_STAT.STATE: 0 OFF, 1 LOADED, 2 INIT, 3 RUN, 4 FAILED. -/
def State.stackState (s : State) (n : Nat) : Nat := s.rdp (hbmPage n) Reg.HBM_STAT_STATE 0

/-- Set HBM_STAT.STATE. -/
def State.setStackState (s : State) (n v : Nat) : State := s.wrp (hbmPage n) Reg.HBM_STAT_STATE 0 v

/-! ## Refresh windows (R327, R328, R333) -/

/-- The band that the next window loads: the forced one, or the one that the temperature chose (R332). -/
def State.nextBand (s : State) (n : Nat) : Nat :=
  if s.rdp (hbmPage n) Reg.HBM_BAND_CTL_FORCE 0 = 1 then s.rdp (hbmPage n) Reg.HBM_BAND_CTL_BAND 0
  else (s.stack n).pendingBand.getD (s.rdp (hbmPage n) Reg.HBM_STAT_BAND 0)

/-- A window opens in a stack: rows close, and a band change loads its delays (R327, R333). -/
def State.openWindow (s : State) (n : Nat) : State :=
  if s.stackState n = 0 then s
  else
    let b := s.nextBand n
    let t := s.setStack n { s.stack n with
      window := true, pendingBand := none
      loading := if b = s.rdp (hbmPage n) Reg.HBM_STAT_BAND 0 then none else some b }
    { t with hbm := { t.hbm with openRows := t.hbm.openRows.filter (fun e => e.1 / 512 != n) } }

/-- A window opens in every stack at the same instant. -/
def State.openWindows (s : State) : State := (List.range 8).foldl State.openWindow s

/-- DRQ_REF.PHASE in effect (R338). -/
def State.refreshPhase (s : State) : Nat := if s.rd Reg.DRQ_REF_PHASE < 5 then s.rd Reg.DRQ_REF_PHASE else 0

/-- A window closes: a loaded band is in use and counts (R333, R337). -/
def State.closeWindow (s : State) (n : Nat) : State :=
  let x := s.stack n
  if ¬ x.window then s
  else
    let t := s.setStack n { x with window := false, loading := none }
    match x.loading with
    | none => t
    | some b =>
      let t := t.wrp (hbmPage n) Reg.HBM_STAT_BAND 0 b
      let t := t.wrp (hbmPage n) Reg.HBM_STAT_HOT 0 (b01 (decide (6 ≤ b)))
      (t.trb (hbmPage n) 7).evt (hbmPage n) 1

/-! ## Bands (R332) -/

/-- Lower bound of a band, in 1/128 °C; band 0 has none. -/
def bandLow (b : Nat) : Int := ((b : Int) - 1) * 15 * 128

/-- Move up while the temperature has reached the next lower bound + 1 °C. -/
def bandUp (fuel b : Nat) (t : Int) : Nat :=
  match fuel with
  | 0 => b
  | k + 1 => if b < 7 ∧ bandLow (b + 1) + 128 ≤ t then bandUp k (b + 1) t else b

/-- Move down while the temperature is below the lower bound − 1 °C. -/
def bandDown (fuel b : Nat) (t : Int) : Nat :=
  match fuel with
  | 0 => b
  | k + 1 => if 0 < b ∧ t < bandLow b - 128 then bandDown k (b - 1) t else b

/-- The band that a reading chooses from the one chosen last. -/
def bandFor (b : Nat) (t : Int) : Nat := bandDown 8 (bandUp 8 b t) t

/-- A stack's temperature is read (R332, R337). -/
def State.readStackTemp (s : State) (n : Nat) (t : Option (BitVec 16)) : State :=
  let pg := hbmPage n
  match t with
  | none => (s.wrp pg Reg.HBM_TEMP_STALE 0 1).trb pg 8
  | some v =>
    let s := (s.wrp pg Reg.HBM_TEMP_TEMP 0 v.toNat).wrp pg Reg.HBM_TEMP_STALE 0 0
    let x := s.stack n
    let old := s.rdp pg Reg.HBM_STAT_BAND 0
    let b := bandFor (x.pendingBand.getD (x.loading.getD old)) (toSigned 16 v.toNat)
    s.setStack n { x with pendingBand := if b = x.loading.getD old then none else some b }

/-! ## Delays (R330, R337) -/

/-- The band, pseudo-channel and lane that HBM_DLY_IDX names. -/
def State.dlyIdx (s : State) (pg : Nat) : Nat × Nat × Nat :=
  (s.rdp pg Reg.HBM_DLY_IDX_BAND 0, s.rdp pg Reg.HBM_DLY_IDX_QPC 0, s.rdp pg Reg.HBM_DLY_IDX_LANE 0)

/-- Each access advances the index: lane 39 to lane 0 of the next pseudo-channel, QPC 31 to the next band. -/
def State.dlyAdvance (s : State) (pg : Nat) : State :=
  let i := s.dlyIdx pg
  let s := s.wrp pg Reg.HBM_DLY_IDX_LANE 0 (if i.2.2 = 39 then 0 else i.2.2 + 1)
  if i.2.2 ≠ 39 then s
  else
    let s := s.wrp pg Reg.HBM_DLY_IDX_QPC 0 (i.2.1 + 1)
    if i.2.1 = 31 then s.wrp pg Reg.HBM_DLY_IDX_BAND 0 (i.1 + 1) else s

/-- Key of a delay entry. -/
def dlyKey (i : Nat × Nat × Nat) : Nat := (i.1 * 32 + i.2.1) * 64 + i.2.2

/-- A read of HBM_DLY_DATA. -/
def State.dlyRead (s : State) (n : Nat) : Nat × State :=
  let i := s.dlyIdx (hbmPage n)
  (if i.2.2 < 40 then (s.stack n).delays.get 0 (dlyKey i) else 0, s.dlyAdvance (hbmPage n))

/-- A write of HBM_DLY_DATA: discarded and counted in INIT and RUN, discarded for lanes 40 to 63. -/
def State.dlyWrite (s : State) (n v : Nat) : State :=
  let i := s.dlyIdx (hbmPage n)
  let t := s.dlyAdvance (hbmPage n)
  if s.stackState n = 2 ∨ s.stackState n = 3 then t.trb (hbmPage n) 9
  else if 40 ≤ i.2.2 then t
  else t.setStack n { t.stack n with delays := (t.stack n).delays.set 0 (dlyKey i) (bits v 6 0 + bits v 14 8 * 256) }

/-! ## Requests in flight (R323 to R326) -/

/-- Urgency of a request (R323). -/
def State.urgency (s : State) (r : HbmReq) : Nat :=
  let a := s.ns - r.at_
  if r.target = 0 ∨ 2 * a < r.target then 0 else if 4 * a < 3 * r.target then 1 else if a < r.target then 2 else 3

/-- A request that has reached urgency 3 counts once (R323). -/
def State.overdueCheck (s : State) (r : HbmReq) : State :=
  if r.overdue ∨ s.urgency r ≠ 3 then s
  else
    let t : State := { s with hbm := { s.hbm with
      reqs := s.hbm.reqs.map (fun (x : HbmReq) => if x.rid = r.rid then { x with overdue := true } else x)
      overdueCnt := s.hbm.overdueCnt.set 0 r.port (s.hbm.overdueCnt.get 0 r.port + 1) } }
    (t.statEvent 0x68 Reg.DRQ_OVERDUE 0 1).trb 0x68 (3 + r.port)

/-- A request may be offered: R325 orders a bank in in-order mode, and the writes of a bank. -/
def State.offered (s : State) (r : HbmReq) : Bool :=
  let bank := hbmBankKey r.addr
  let older := s.hbm.reqs.filter (fun x => !x.issued && decide (x.rid < r.rid) && hbmBankKey x.addr == bank)
  !r.issued && (if s.inOrder bank then older.isEmpty else !r.write || older.all (fun x => !x.write))

/-- The rows 3 to 6 of R324 as one number; the smaller goes first. -/
def State.rank (s : State) (pc : Nat) (r : HbmReq) : Nat :=
  (3 - s.urgency r) * 8 + (if s.hbm.drain.contains pc ∧ ¬ r.write then 4 else 0)
    + (if s.hbm.openRows.get 0 (hbmBankKey r.addr) = hbmRow r.addr + 1 then 0 else 2) + b01 r.write

/-- The first of the least rank: requests stand in acceptance order, so row 7 decides ties. -/
def State.choose (s : State) (pc : Nat) (l : List HbmReq) : Option HbmReq :=
  match l with
  | [] => none
  | r :: t =>
    match State.choose s pc t with
    | none => some r
    | some x => if s.rank pc r ≤ s.rank pc x then some r else some x

/-- A pseudo-channel has a free command slot (R324): it issues a request, or, idle, writes corrected words back (R334). -/
def State.issue (s : State) (n q : Nat) : State :=
  let pc := 32 * n + q
  if (s.stack n).window then s
  else
    match s.choose pc (s.hbm.reqs.filter (fun r => hbmPcKey r.addr == pc && s.offered r)) with
    | some r =>
      { s with hbm := { s.hbm with
          reqs := s.hbm.reqs.map (fun (x : HbmReq) => if x.rid = r.rid then { x with issued := true } else x)
          openRows := s.hbm.openRows.set 0 (hbmBankKey r.addr) (hbmRow r.addr + 1) } }
    | none => s.setStack n { s.stack n with writeBack := (s.stack n).writeBack.filter (fun a => hbmQ a != q) }

/-- The age of a completed request enters DRQ_LAT_MAX, and it leaves DRQ (R323, R338). -/
def State.complete (s : State) (r : HbmReq) : State :=
  let s := s.overdueCheck r
  { s with hbm := { s.hbm with
      reqs := s.hbm.reqs.filter (fun x => x.rid != r.rid)
      latMax := s.hbm.latMax.set 0 r.port (max (s.hbm.latMax.get 0 r.port) ((s.ns - r.at_) % 2 ^ 32)) } }

/-! ## ECC (R334, R438) -/

/-- A write to a word is pending. -/
def State.wordWritten (s : State) (a : Nat) : Bool :=
  s.hbm.reqs.any (fun r => r.write && hbmWordOf r.addr == hbmWordOf a)

/-- A finding in a word of its stack (R321, R334, R337): counters, locators, event, write-back, and the report of R438. -/
def State.finding (s : State) (a : Nat) (f : MemFinding) : State :=
  let n := hbmStack a
  let pg := hbmPage n
  match f with
  | .clean => s
  | .onDie => (s.stat pg Reg.HBM_STACK_CE 0 1).trb pg 5
  | .corrected bit =>
    let s := (s.stat pg Reg.HBM_CE 0 1).wrp pg Reg.HBM_CE_LOC 0 (hbmLocator a (bit % 256))
    let s := if s.wordWritten a then s
      else s.setStack n { s.stack n with writeBack := (s.stack n).writeBack ++ [a] }
    s.memCorrected pg 3 (hbmLocator a (bit % 256))
  | .uncorrectable =>
    let s := ((s.stat pg Reg.HBM_UE 0 1).wrp pg Reg.HBM_UE_LOC 0 (hbmLocator a 0)).evt pg 0
    s.memUncorrectable pg 4 (hbmLocator a 0)

/-- A word left with bad check bits reads as uncorrectable (R326). -/
def State.trueFinding (s : State) (a : Nat) (f : MemFinding) : MemFinding :=
  if s.hbm.badWords.contains (hbmWordOf a) then .uncorrectable else f

/-- The packet on a wire whose buffer holds an address. -/
def State.cutAt (s : State) (a : Nat) : Option Nat :=
  ((s.buf.bufs.map Prod.snd).find? (fun b =>
    let base := s.bufAddr b.pool b.idx
    decide (base ≤ a ∧ a < base + bufSize b.pool) && (s.cutPort b.bid).isSome)).bind (fun b => s.cutPort b.bid)

/-- A packet whose read fails while it is on a wire ends stomped (R229). -/
def State.stompRead (s : State) (r : HbmReq) : State :=
  match s.cutAt r.addr with
  | none => s
  | some port =>
    match (s.sch port).cutting with
    | none => s
    | some (e, _, _) =>
      match s.buffer e.bid with
      | none => s
      | some b => ((s.setSch port { s.sch port with cutting := none }).sendStomped port b.pkt.bytes false).dropEnt e none

/-! ## Meanings -/

/-- HBM_INIT: a write of HBM_CMD.INIT = 1 (R331, R337). -/
def execHbmInit (m : Master) (stack : Nat) (s : State) : Host.Outcome State Fault Refusal :=
  .next (if stack < 8 then
      s.onWrite m (hbmPage stack) 0x100 (fun t =>
        if t.stackState stack = 1 ∨ t.stackState stack = 4 then t.setStackState stack 2 else t)
    else s)

/-- HBM_INIT_DONE: RUN with a window at once, or FAILED with the first failing pseudo-channel (R328, R331). -/
def execHbmInitDone (stack : Nat) (failPc : Option Nat) (s : State) : Host.Outcome State Fault Refusal :=
  .next (if stack < 8 ∧ s.stackState stack = 2 then
      match failPc with
      | none => (s.setStackState stack 3).openWindow stack
      | some q => ((s.setStackState stack 4).wrp (hbmPage stack) Reg.HBM_STAT_FAIL_PC 0 q).trb (hbmPage stack) 10
    else s)

/-- HBM_DLY_DATA_ACCESS (R331, R337). -/
def execHbmDlyDataAccess (m : Master) (stack : Nat) (w : Option Word) (s : State) : Host.Outcome State Fault Refusal :=
  .next (if stack < 8 then
      match w with
      | some v => s.onWrite m (hbmPage stack) 0x114 (fun t => t.dlyWrite stack v.toNat)
      | none => s.onRead m (hbmPage stack) 0x114 (fun t => t.dlyRead stack)
    else s)

/-- HBM_TEMP_READ (R332). -/
def execHbmTempRead (stack : Nat) (t : Option (BitVec 16)) (s : State) : Host.Outcome State Fault Refusal :=
  .next (if stack < 8 ∧ s.stackState stack ≠ 0 then s.readStackTemp stack t else s)

/-- REFRESH_WINDOW_OPEN: at the pitches whose number mod 5 is the phase (R327, R333). -/
def execRefreshWindowOpen (s : State) : Host.Outcome State Fault Refusal :=
  .next (if s.pitch % 5 = s.refreshPhase then s.openWindows else s)

/-- REFRESH_WINDOW_CLOSE (R327, R333). -/
def execRefreshWindowClose (stack : Nat) (s : State) : Host.Outcome State Fault Refusal :=
  .next (if stack < 8 then s.closeWindow stack else s)

/-- HBM_COMMAND_ISSUE (R324 to R326). -/
def execHbmCommandIssue (stack q : Nat) (s : State) : Host.Outcome State Fault Refusal :=
  .next (if stack < 8 ∧ q < 32 ∧ s.stackState stack = 3 then s.issue stack q else s)

/-- HBM_READ_COMPLETE (R323, R334, R229). -/
def execHbmReadComplete (req : Nat) (f : MemFinding) (s : State) : Host.Outcome State Fault Refusal :=
  .next (match s.hbm.reqs.find? (fun r => r.rid == req && r.issued && !r.write) with
    | none => s
    | some r =>
      let g := s.trueFinding r.addr f
      let t := (s.complete r).finding r.addr g
      (if g = .uncorrectable ∧ r.port = 1 then t.stompRead r else t).drqSettle)

/-- HBM_WRITE_RETIRE: a partial write whose read is uncorrectable is abandoned (R323, R326). -/
def execHbmWriteRetire (req : Nat) (rmwUncorrectable : Bool) (s : State) : Host.Outcome State Fault Refusal :=
  .next (match s.hbm.reqs.find? (fun r => r.rid == req && r.issued && r.write) with
    | none => s
    | some r =>
      let w := hbmWordOf r.addr
      let t := s.complete r
      let t := if r.part ∧ (rmwUncorrectable ∨ s.hbm.badWords.contains w) then
          ({ t with hbm := { t.hbm with badWords := withNat t.hbm.badWords w } }).finding r.addr .uncorrectable
            |>.trb (hbmPage (hbmStack r.addr)) 6
        else if r.part then t
        else { t with hbm := { t.hbm with badWords := without t.hbm.badWords w } }
      let pc := hbmPcKey r.addr
      let t := if t.writesHeld pc ≤ t.wqLow then { t with hbm := { t.hbm with drain := without t.hbm.drain pc } } else t
      t.drqSettle)

/-- REQUEST_OVERDUE (R323). -/
def execRequestOverdue (req : Nat) (s : State) : Host.Outcome State Fault Refusal :=
  .next (match s.hbm.reqs.find? (fun r => r.rid == req) with
    | some r => s.overdueCheck r
    | none => s)

/-- SCRUB_READ: the next word of the stack's scrub position (R335, R337). -/
def execScrubRead (stack word : Nat) (f : MemFinding) (s : State) : Host.Outcome State Fault Refusal :=
  let pos := s.rdp (hbmPage stack) Reg.HBM_SCRUB_POS_GRANULE 0
  let w := s.hbm.scrubWord.get 0 stack
  .next (if stack < 8 ∧ s.stackState stack = 3 ∧ s.rd Reg.DRQ_SCRUB_HOURS ≠ 0 ∧ word % 8 = w then
      let a := hbmAddr stack (pos / 2 ^ 21) (pos % 2 ^ 21) w
      let t := s.finding a (s.trueFinding a f)
      let t := { t with hbm := { t.hbm with scrubWord := t.hbm.scrubWord.set 0 stack ((w + 1) % 8) } }
      if w = 7 then t.wrp (hbmPage stack) Reg.HBM_SCRUB_POS_GRANULE 0 (pos + 1) else t
    else s)

/-- DRQ_LAT_MAX_READ: returns and clears the port's largest age (R338). -/
def execDrqLatMaxRead (m : Master) (s : State) : Host.Outcome State Fault Refusal :=
  .next (s.onRead m 0x68 0x130 (fun t =>
    let p := t.rd Reg.DRQ_SEL_PORT
    (t.hbm.latMax.get 0 p, { t with hbm := { t.hbm with latMax := t.hbm.latMax.set 0 p 0 } })))

end Sys2Proof.Machine
end

