-- ==== Sys2Proof/Machine/Links.lean ====
section
/-! DEFINITION. Links: fabric links, their states, HELLO, credits and time words (R280 to R294, R59 to R61), and the
die-to-die link (R295). -/
namespace Sys2Proof.Machine

/-! ## Links by number -/

/-- The FLK page of a link (R280). -/
def linkPage (n : Nat) : Nat := 0x72 + n / 5

/-- A field of a link. -/
def State.lf (s : State) (f : Fld) (n : Nat) : Nat := s.rdp (linkPage n) f (n % 5)

/-- Set a field of a link. -/
def State.wlf (s : State) (f : Fld) (n v : Nat) : State := s.wrp (linkPage n) f (n % 5) v

/-- A link that has not spoken. -/
def LinkSt.initial : LinkSt :=
  { peer := none, good := 0, helloAt := 0, sent := [0, 0, 0], received := [0, 0, 0], freed := [0, 0, 0],
    reported := [0, 0, 0], seenFreed := [0, 0, 0], relay := [], own := [], rr := 0, tx := [], rx := none, word := none,
    mcLock := [] }

/-- The run-time state of a link. -/
def State.link (s : State) (n : Nat) : LinkSt := s.fab.links.get LinkSt.initial n

/-- Replace it. -/
def State.setLink (s : State) (n : Nat) (x : LinkSt) : State :=
  { s with fab := { s.fab with links := s.fab.links.set LinkSt.initial n x } }

/-- FLK_STAT.STATE: 0 OFF, 1 TRAINING, 2 HELLO, 3 UP, 4 INCOMPAT, 5 MISWIRED. -/
def State.lstate (s : State) (n : Nat) : Nat := s.lf Reg.FLK_STAT_STATE n

/-- The link is UP. -/
def State.linkIsUp (s : State) (n : Nat) : Bool := decide (n < 40) && s.lstate n == 3

/-- The links that are UP. -/
def State.upLinks (s : State) : List Nat := (List.range 40).filter s.linkIsUp

/-! ## Cells (R282, R283) -/

/-- A cell with its CRC in header bytes 12 to 15. -/
def withCrc (hdr payload : Bytes) : Bytes :=
  let b := padTo 12 hdr ++ zeros 4 ++ padTo 240 payload
  b.take 12 ++ toBe 4 (fcs b) ++ b.drop 16

/-- The CRC of a cell is right (R282). -/
def crcGood (b : Bytes) : Bool := b.length == 256 && beAt b 12 4 == fcs (b.take 12 ++ zeros 4 ++ b.drop 16)

/-- A cell of any kind leaves on a link (R297). -/
def State.cellOut (s : State) (n : Nat) (b : Bytes) : State :=
  (s.stat (linkPage n) Reg.FLK_CELLS_TX (n % 5) 1).emit (.cell n b)

/-- A link control cell. -/
def controlCell (subtype link : Nat) (payload : Bytes) : Bytes := withCrc (toBe 1 (0xC0 + subtype) ++ toBe 1 link) payload

/-- The serial number: the low 64 bits of the unit ID (R283, R404). -/
def serial : Nat := (Config.fuse 0).toNat + (Config.fuse 1).toNat * 2 ^ 32

/-- A HELLO period in ns by the state of its link (R285). -/
def helloPeriod (state : Nat) : Nat := if state = 2 then 1000 else if state = 3 then 125000 else 1000000

/-- HEARD: a valid HELLO within the last four periods (R283). -/
def State.heard (s : State) (n : Nat) : Bool :=
  (s.link n).peer.isSome && decide (s.ns ≤ (s.link n).helloAt + 4 * helloPeriod (s.lstate n))

/-- The payload of the device's HELLO on a link (R283). -/
def State.helloBytes (s : State) (n : Nat) : Bytes :=
  toBe 1 1 ++ toBe 1 (s.rd Reg.FAB_ID_VALID + 2 * s.rd Reg.FAB_CFG_ONE_GROUP + 4 * b01 (s.heard n)) ++ toBe 2 s.devId
    ++ toBe 1 n ++ zeros 1 ++ toBe 2 (s.rd Reg.FAB_IFV_IFV) ++ toBe 1 (s.rd Reg.FAB_IFV_MIN) ++ zeros 7 ++ toBe 8 serial
    ++ (s.link n).sent.flatMap (toBe 4)

/-- Read a HELLO payload. -/
def parseHello (b : Bytes) : Hello :=
  { fmt := beAt b 0 1, idValid := bitN (beAt b 1 1) 0 == 1, oneGroup := bitN (beAt b 1 1) 1 == 1,
    heard := bitN (beAt b 1 1) 2 == 1, devId := beAt b 2 2 % 2 ^ 13, link := beAt b 4 1, ifv := beAt b 6 2,
    ifvMin := beAt b 8 1, serial := beAt b 16 8, sent := [beAt b 24 4 % 2 ^ 24, beAt b 28 4 % 2 ^ 24, beAt b 32 4 % 2 ^ 24] }

/-- Read a TIME payload. -/
def parseTime (b : Bytes) : TimeWord :=
  { epoch := beAt b 0 6, hops := beAt b 6 1 % 16, rootState := beAt b 6 1 / 16 % 8, rootId := beAt b 8 2 % 2 ^ 13,
    txTime := beAt b 10 12, peerRx := beAt b 22 12 }

/-- Read a CAIRN payload. -/
def parseCairn (b : Bytes) : CairnCell :=
  { origin := beAt b 0 2 % 2 ^ 13, seq := beAt b 2 2, target := beAt b 4 6,
    mask := beAt b 10 4 + beAt b 14 4 * 2 ^ 32 + beAt b 18 4 * 2 ^ 64 + beAt b 22 4 * 2 ^ 96 }

/-- The reserved bytes of a link control cell's payload, by SUBTYPE: offset and length. -/
def reservedOf (subtype : Nat) : List (Nat × Nat) :=
  if subtype = 1 then [(5, 1), (9, 7), (36, 204)] else if subtype = 2 then [(7, 1), (34, 206)]
  else if subtype = 3 then [(12, 228)] else [(26, 214)]

/-- A link control cell that R283 accepts. -/
def controlOk (b : Bytes) : Bool :=
  let st := beAt b 0 1 % 64
  [1, 2, 3, 4].contains st && (sl b 2 10).all (fun x => x == 0)
    && (reservedOf st).all (fun r => (sl b (16 + r.1) r.2).all (fun x => x == 0))

/-! ## State changes (R285) -/

/-- FABSD domain, FABCORE, page and transmitters allow the link to run (R280, R285, R115). -/
def State.linkAllowed (s : State) (n : Nat) : Bool :=
  decide (n < 40) && s.lf Reg.FLK_CTL_EN n == 1 && s.lf Reg.FLK_CTL_TX_DIS n == 0 && s.pins.seated && s.pins.seatedQualified
    && s.runs (linkPage n) && s.domainUp 32

/-- A link leaves its state for another; one that leaves UP discards its cells and its credits, and raises its event
(R285, R297). -/
def State.linkTo (s : State) (n st : Nat) : State :=
  let up := s.lstate n = 3
  let x := s.link n
  let s := if up ∧ st ≠ 3 then
      (s.setLink n { LinkSt.initial with peer := x.peer, helloAt := x.helloAt }).evt (linkPage n) (n % 5)
    else if st = 1 ∨ st = 0 then s.setLink n LinkSt.initial else s.setLink n { s.link n with good := 0 }
  s.wlf Reg.FLK_STAT_STATE n st

/-- A link loss of link n (R297). -/
def State.linkLoss (s : State) (n : Nat) : State := s.trb (linkPage n) (8 + n % 5)

/-- A link follows what allows it to run (R285, rows 1 and 2). -/
def State.linkSettle (s : State) (n : Nat) : State :=
  if s.linkAllowed n then (if s.lstate n = 0 then s.linkTo n 1 else s)
  else if s.lstate n = 0 then s else s.linkTo n 0

/-- Every link follows what allows it to run. -/
def State.linksSettle (s : State) : State := (List.range 40).foldl State.linkSettle s

/-! ## HELLO (R285, R286, R289) -/

/-- The wiring rule of R289 for a link of this device and what its peer says. -/
def State.wiringOk (s : State) (n : Nat) (h : Hello) : Bool :=
  let g := s.devId / 32
  let m := s.devId % 32
  let one := s.rdb Reg.FAB_CFG_ONE_GROUP
  if n ≤ 30 then h.devId / 32 == g && h.devId % 32 == (m + n + 1) % 32 && h.link == 30 - n
  else if one then h.devId / 32 == g && h.devId % 32 != m else h.devId / 32 != g

/-- The first check of R286 that fails; 0 none. -/
def State.helloCheck (s : State) (n : Nat) (h : Hello) : Nat :=
  let ifv := s.rd Reg.FAB_IFV_IFV
  if h.fmt ≠ 1 then 1
  else if h.ifv / 256 ≠ ifv / 256 then 2
  else if h.ifv % 256 < s.rd Reg.FAB_IFV_MIN ∨ ifv % 256 < h.ifvMin then 3
  else if h.serial = serial then 4
  else if ¬ h.idValid ∨ ¬ s.rdb Reg.FAB_ID_VALID then 5
  else if h.devId = s.devId then 6
  else if h.oneGroup ≠ s.rdb Reg.FAB_CFG_ONE_GROUP then 7
  else if s.rdb Reg.FAB_CFG_WIRING_CHECK ∧ ¬ s.wiringOk n h then 8
  else 0

/-- A failed check decides the state (R286, R297). -/
def State.helloFail (s : State) (n cause : Nat) : State :=
  let s := s.wlf Reg.FLK_STAT_CAUSE n cause
  if cause = 5 then (if s.lstate n = 2 then s else s.linkTo n 2)
  else if cause ≤ 3 then (if s.lstate n = 4 then s else (s.linkTo n 4).trb (linkPage n) 13)
  else (if s.lstate n = 5 then s else (s.linkTo n 5).trb (linkPage n) 14)

/-- What a peer says of itself, beyond HEARD and SENT. -/
def sameHello (a b : Hello) : Bool := { a with heard := false, sent := [] } == { b with heard := false, sent := [] }

/-- The peer's identity differs (R285). -/
def otherPeer (a b : Hello) : Bool :=
  a.devId != b.devId || a.idValid != b.idValid || a.serial != b.serial || a.link != b.link || a.oneGroup != b.oneGroup

/-- The peer's fields on the FLK page (R297). -/
def State.showPeer (s : State) (n : Nat) (h : Hello) : State :=
  (((((s.wlf Reg.FLK_PEER_ID n h.devId).wlf Reg.FLK_PEER_LINK n h.link).wlf Reg.FLK_PEER_ID_VALID n (b01 h.idValid)).wlf
    Reg.FLK_PEER_IFV_IFV n h.ifv).wlf Reg.FLK_PEER_IFV_MIN n h.ifvMin).wlf Reg.FLK_PEER_SERIAL n h.serial

/-- Cells lost on a link, by the sender's counts (R292). -/
def State.lostCells (s : State) (n : Nat) (h : Hello) : State :=
  let x := s.link n
  let lost := (List.range 3).map (fun v => (h.sent.getD v 0 + 2 ^ 24 - x.received.getD v 0) % 2 ^ 24)
  let add := fun (l : List Nat) => (List.range 3).map (fun v => (l.getD v 0 + lost.getD v 0) % 2 ^ 24)
  (s.setLink n { x with received := add x.received, freed := add x.freed }).trbN (linkPage n) 15 lost.sum

/-- A HELLO in the state HELLO: three in a row that heard us, and the checks (R285, R286). -/
def State.helloInHello (s : State) (n : Nat) (h : Hello) : State :=
  let good := if h.heard then (s.link n).good + 1 else 0
  let s := s.setLink n { s.link n with good := good }
  let c := s.helloCheck n h
  if c ≠ 0 then s.helloFail n c
  else if 3 ≤ good then (s.wlf Reg.FLK_STAT_CAUSE n 0).linkTo n 3
  else s.wlf Reg.FLK_STAT_CAUSE n 0

/-- A valid HELLO arrives (R285, R286, R292). -/
def State.helloIn (s : State) (n : Nat) (h : Hello) : State :=
  let st := s.lstate n
  if st < 2 then s
  else
    let old := (s.link n).peer
    let s := (s.setLink n { s.link n with peer := some h, helloAt := s.ns }).showPeer n h
    let changed := match old with | some o => !sameHello o h | none => true
    if st = 2 then s.helloInHello n h
    else if st = 3 then
      match old with
      | some o =>
        if otherPeer o h ∨ o.fmt ≠ h.fmt then s.linkTo n 2
        else if (o.ifv ≠ h.ifv ∨ o.ifvMin ≠ h.ifvMin) ∧ s.helloCheck n h ≠ 0 then s.helloFail n (s.helloCheck n h)
        else s.lostCells n h
      | none => s.lostCells n h
    else if changed then s.linkTo n 2 else s

/-- A change of the own FAB_ID, FAB_CFG or FAB_IFV lets links in INCOMPAT and MISWIRED try again (R285). -/
def State.fabChanged (s : State) : State :=
  (List.range 40).foldl (fun t n => if t.lstate n = 4 ∨ t.lstate n = 5 then t.linkTo n 2 else t) s

/-- A write of FAB_ID (R287): with STRAP[5] the member bits stay. -/
def State.fabIdWrite (s : State) (v : Nat) : State :=
  if s.upLinks.isEmpty then
    let id := if s.pins.straps.getLsbD 5 then bits v 12 5 * 32 + s.devId % 32 else bits v 12 0
    ((s.wr Reg.FAB_ID_ID id).wr Reg.FAB_ID_VALID (bitN v 31)).fabChanged
  else s.trb 0x70 3

/-! ## Link-level credits (R290 to R292) -/

/-- Cells of VC v on the way or in the peer's buffer. -/
def LinkSt.outstanding (x : LinkSt) (v : Nat) : Nat := (x.sent.getD v 0 + 2 ^ 24 - x.seenFreed.getD v 0) % 2 ^ 24

/-- Credits of VC v: what is left of its own 128 and of the shared 1,664 (R290). -/
def LinkSt.credits (x : LinkSt) (v : Nat) : Nat :=
  (128 - x.outstanding v) + (1664 - ((x.outstanding 0 - 128) + (x.outstanding 1 - 128) + (x.outstanding 2 - 128)))

/-- Add 1 to a VC's count, modulo 2^24. -/
def bump (l : List Nat) (v : Nat) : List Nat := setIdx l v ((l.getD v 0 + 1) % 2 ^ 24)

/-- A cell of VC v leaves on an UP link against a credit (R290). -/
def State.sendOn (s : State) (n v : Nat) (b : Bytes) : State :=
  (s.setLink n { s.link n with sent := bump (s.link n).sent v }).cellOut n b

/-- A cell of this device for a link: sent now, or kept until the link holds a credit (R290, R306). -/
def State.sendOwn (s : State) (n : Nat) (b : Bytes) : State :=
  if ¬ s.linkIsUp n then s
  else if (s.link n).own.isEmpty ∧ 0 < (s.link n).credits 0 then s.sendOn n 0 b
  else s.setLink n { s.link n with own := (s.link n).own ++ [b] }

/-- A slot of VC v of a link's relay buffer is free (R291). -/
def State.freeSlot (s : State) (n v : Nat) : State :=
  s.setLink n { s.link n with freed := bump (s.link n).freed v }

/-! ## Time words (R59 to R61, R294) -/

/-- The time word of a link may be followed: UP, and HOPS not 15. -/
def State.wordValid (s : State) (n : Nat) : Option TimeWord :=
  if s.linkIsUp n then (s.link n).word.bind (fun w => if w.hops = 15 then none else some w) else none

/-- The valid words, with their links. -/
def State.words (s : State) : List (Nat × TimeWord) :=
  (List.range 40).filterMap (fun n => (s.wordValid n).map (fun w => (n, w)))

/-- The better of two words: the lower root ID, then fewer hops, then the lower link (R59, R60). -/
def betterWord (a b : Nat × TimeWord) : Nat × TimeWord :=
  if b.2.rootId < a.2.rootId ∨ (b.2.rootId = a.2.rootId ∧ b.2.hops < a.2.hops) then b else a

/-- The link that the device follows (R59, R60, R62). -/
def State.followed (s : State) : Option Nat :=
  if s.rdb Reg.TIM_FAB_CFG_FAB_EN ∧ ¬ s.rdb Reg.TIM_FAB_CFG_ROOT then
    if ¬ s.rdb Reg.TIM_FAB_CFG_AUTO ∧ s.rd Reg.TIM_FAB_CFG_LINK < 40 then some (s.rd Reg.TIM_FAB_CFG_LINK)
    else match s.words with
      | [] => none
      | w :: t => some (t.foldl betterWord w).1
  else none

/-- Two words name two roots (R60). -/
def State.rootConflict (s : State) : Bool :=
  match s.words with
  | [] => false
  | w :: t => t.any (fun x => x.2.rootId != w.2.rootId)

/-- The hardware servo on a measured offset in 2^-16 ns (R59 to R61): it slews to −offset and never steps; a word ahead by
more than TIM_STEP_THRESH makes a locked follower ACQUIRING. -/
def State.servo (s : State) (off : Int) : State :=
  let ahead := (s.rd Reg.TIM_STEP_THRESH_NS : Int) * 65536 < -off
  let s := s.servoCountNow
  let n := if off.natAbs ≤ 2 * 65536 then s.time.convergeCount + 1 else 0
  let rem := if ahead then s.time.phaseRem else -(off * (subPerNs : Int) / 65536)
  let s := { s with time := { s.time with convergeCount := n, phaseRem := rem } }
  if ahead ∧ s.tState = 2 then
    let t := s.wr Reg.TIM_STATE_STATE 1
    { t with time := { t.time with convergeCount := 0 } }
  else s

/-- A complete pair of time words on the followed link (R59, R61, R62). -/
def State.follow (s : State) (n : Nat) (w : TimeWord) (off : Int) : State :=
  let s := ((((s.wr Reg.TIM_FAB_STAT_LINK n).wr Reg.TIM_FAB_STAT_HOPS w.hops).wr Reg.TIM_FAB_STAT_ROOT_STATE w.rootState).wr
    Reg.TIM_FAB_STAT_ROOT_ID w.rootId).wr Reg.TIM_FAB_OFS_OFS (ofSigned 32 (off / 256))
  let s := { s with time := { s.time with gotWord := true, wordEpoch := s.epoch } }
  if s.tRef = 3 ∧ (s.tState = 1 ∨ s.tState = 2) ∧ w.epoch ≠ s.time.stepEpoch then s.servo off else s

/-- A TIME cell arrives (R294): `rx` is its receive time. -/
def State.timeIn (s : State) (n : Nat) (w : TimeWord) (rx : Nat) : State :=
  if ¬ s.linkIsUp n then s
  else
    let x := s.link n
    let s := s.setLink n { x with rx := some (w.epoch, rx), word := some w }
    let s := if s.rootConflict ∧ s.rdb Reg.TIM_FAB_CFG_FAB_EN ∧ ¬ s.rdb Reg.TIM_FAB_CFG_ROOT then
        { s with time := { s.time with conflict := true } }
      else s
    match x.tx.find? (fun e => e.1 + 1 == w.epoch) with
    | some (_, t1) =>
      if w.peerRx = 0 ∨ w.txTime = 0 then s
      else
        let a : Int := time96Frac t1
        let b : Int := time96Frac w.peerRx
        let c : Int := time96Frac w.txTime
        let d : Int := time96Frac rx
        let mean := ((d - a) - (c - b)) / 2
        let asym := toSigned 32 (s.lf Reg.FLK_ASYM_ASYM n) * 256
        let s := s.wlf Reg.FLK_DELAY_MEAN n (ofSigned 32 (mean / 256))
        if s.followed = some n ∧ w.hops ≠ 15 then s.follow n w (d - (c + mean + asym)) else s
    | none => s

/-- What the device says of the time it follows: hops, root state, root ID (R294). -/
def State.ownWord (s : State) : Nat × Nat × Nat :=
  if ¬ s.rdb Reg.TIM_FAB_CFG_FAB_EN then (15, s.tState, 0)
  else if s.rdb Reg.TIM_FAB_CFG_ROOT then (0, s.tState, s.devId)
  else match s.followed.bind s.wordValid with
    | some w => (min 15 (w.hops + 1), w.rootState, w.rootId)
    | none => (15, s.tState, 0)

/-- The TIME cell of this epoch on one UP link (R294). -/
def State.timeOut (s : State) (n : Nat) : State :=
  let x := s.link n
  if x.tx.any (fun e => e.1 == s.epoch) then s
  else
    let w := s.ownWord
    let tx := time96 s.sub
    let peer := match x.rx with | some (e, t) => if e + 1 = s.epoch then t else 0 | none => 0
    let s := s.setLink n { x with tx := ((s.epoch, tx) :: x.tx).take 2 }
    s.cellOut n (controlCell 2 n (toBe 6 s.epoch ++ toBe 1 (w.1 + 16 * w.2.1) ++ zeros 1 ++ toBe 2 w.2.2 ++ toBe 12 tx ++ toBe 12 peer))

/-! ## Meanings -/

/-- LINK_ENABLE: a write of FLK_CTL.EN (R285). -/
def execLinkEnable (m : Master) (link : Nat) (en : Bool) (s : State) : Host.Outcome State Fault Refusal :=
  .next (if link < 40 then
      s.onWrite m (linkPage link) (0x100 + 64 * (link % 5)) (fun t => (t.wlf Reg.FLK_CTL_EN link (b01 en)).linkSettle link)
    else s)

/-- A write of FLK_CTL.RESTART (R285). -/
def State.linkRestart (s : State) (n : Nat) : State := if s.lstate n = 0 then s else s.linkTo n 1

/-- LINK_RESTART (R285). -/
def execLinkRestart (m : Master) (link : Nat) (s : State) : Host.Outcome State Fault Refusal :=
  .next (if link < 40 then s.onWrite m (linkPage link) (0x100 + 64 * (link % 5)) (fun t => t.linkRestart link) else s)

/-- LINK_ALIGNED: all four lanes aligned and FEC locked (R285, R455). -/
def execLinkAligned (link : Nat) (s : State) : Host.Outcome State Fault Refusal :=
  .next (if link < 40 ∧ s.lstate link = 1 ∧ s.pins.sdref.getLsbD (4 + link / 10) then s.linkTo link 2 else s)

/-- LINK_TRAIN_TIMEOUT: 10 ms without alignment (R285). -/
def execLinkTrainTimeout (link : Nat) (s : State) : Host.Outcome State Fault Refusal :=
  .next (if link < 40 ∧ s.lstate link = 1 then s.linkLoss link else s)

/-- Loss of alignment or FEC lock on a lane (R285). -/
def State.alignLoss (s : State) (n : Nat) : State :=
  if s.lstate n = 2 ∨ s.lstate n = 3 then (s.linkTo n 1).linkLoss n else s

/-- LINK_ALIGN_LOSS (R285). -/
def execLinkAlignLoss (link : Nat) (s : State) : Host.Outcome State Fault Refusal :=
  .next (if link < 40 then s.alignLoss link else s)

/-- HELLO_SEND (R283, R285). -/
def execHelloSend (link : Nat) (s : State) : Host.Outcome State Fault Refusal :=
  .next (if link < 40 ∧ 2 ≤ s.lstate link then s.cellOut link (controlCell 1 link (s.helloBytes link)) else s)

/-- HELLO_RECEIVED (R285, R286, R292). -/
def execHelloReceived (link : Nat) (h : Hello) (s : State) : Host.Outcome State Fault Refusal :=
  .next (if link < 40 then s.helloIn link h else s)

/-- HELLO_TIMEOUT: no valid HELLO for 4 epochs on an UP link (R285). -/
def execHelloTimeout (link : Nat) (s : State) : Host.Outcome State Fault Refusal :=
  .next (if s.linkIsUp link ∧ (s.link link).helloAt + 500000 ≤ s.ns then (s.linkTo link 2).linkLoss link else s)

/-- FAB_ID_WRITE (R287). -/
def execFabIdWrite (m : Master) (v : Word) (s : State) : Host.Outcome State Fault Refusal :=
  .next (s.onWrite m 0x70 0x100 (fun t => t.fabIdWrite v.toNat))

/-- CREDIT_SEND: slots freed and not yet reported (R291). -/
def execCreditSend (link : Nat) (s : State) : Host.Outcome State Fault Refusal :=
  let x := s.link link
  .next (if s.linkIsUp link ∧ x.freed ≠ x.reported then
      (s.setLink link { x with reported := x.freed }).cellOut link (controlCell 3 link (x.freed.flatMap (toBe 4)))
    else s)

/-- The peer reports freed slots (R291). -/
def State.creditIn (s : State) (n : Nat) (freed : List Nat) : State :=
  if s.linkIsUp n then
    s.setLink n { s.link n with seenFreed := (List.range 3).map (fun v => freed.getD v 0 % 2 ^ 24) }
  else s

/-- CREDIT_RECEIVED (R291). -/
def execCreditReceived (link : Nat) (freed : List Nat) (s : State) : Host.Outcome State Fault Refusal :=
  .next (s.creditIn link freed)

/-- TIME_WORD_RECEIVED (R59 to R61, R294). -/
def execTimeWordReceived (link : Nat) (w : TimeWord) (rxTime : Nat) (s : State) : Host.Outcome State Fault Refusal :=
  .next (s.timeIn link w rxTime)

/-- TIME_CELL_SEND: one TIME cell on every UP link (R294). -/
def execTimeCellSend (s : State) : Host.Outcome State Fault Refusal := .next (s.upLinks.foldl State.timeOut s)

/-- D2D_TRAIN: training ends; a failure leaves the link down (R295, R298). -/
def execD2dTrain (ok : Bool) (spares : Word) (s : State) : Host.Outcome State Fault Refusal :=
  .next (if s.runs 0x7C ∧ s.mode = 1 then
      let used := 65535 - (s.d2d.failed.foldl (fun v c => v + 2 ^ c) 0)
      (((s.wr Reg.D2D_STAT_UP (b01 ok)).wr Reg.D2D_STAT_TIME_LOCK (b01 ok)).wr Reg.D2D_STAT_CH_USED (if ok then used else 0)).wr
        Reg.D2D_REPAIR_SPARES spares.toNat
    else s)

/-- D2D_REPLAY: a flit is replayed (R295). -/
def execD2dReplay (s : State) : Host.Outcome State Fault Refusal :=
  .next (if s.rdb Reg.D2D_STAT_UP then (s.stat 0x7C Reg.D2D_REPLAYS 0 1).trb 0x7C 3 else s)

/-- D2D_CHANNEL_FAIL: a channel is taken out of use until the next COLD reset (R295). -/
def execD2dChannelFail (ch : Nat) (s : State) : Host.Outcome State Fault Refusal :=
  .next (if ch < 16 ∧ ¬ s.d2d.failed.contains ch then
      (({ s with d2d := { failed := withNat s.d2d.failed ch } }).wr Reg.D2D_STAT_CH_USED
        (setBit (s.rd Reg.D2D_STAT_CH_USED) ch false)).trb 0x7C 4
    else s)

/-- WARM_CLEAR_DONE (R430). -/
def execWarmClearDone (s : State) : Host.Outcome State Fault Refusal :=
  .next (if s.rst.warm then s.warmEnd.linksSettle else s)

/-- BLOCK_RESET_DONE (R30, R432). -/
def execBlockResetDone (page : Nat) (s : State) : Host.Outcome State Fault Refusal :=
  .next (if s.rst.blocks.contains page then (s.blockEnd page).linksSettle else s)

/-- SEATED_ASSERTED: the 100 ms count starts and source 8 pends (R116, R369, R457). -/
def execSeatedAsserted (s : State) : Host.Outcome State Fault Refusal :=
  .next (({ s with pins := { s.pins with seated := true, seatedQualified := false } }).setPend 8).linksSettle

/-- SEATED_QUALIFIED: SEATED_L has been asserted for 100 ms without a break (R115, R116). -/
def execSeatedQualified (s : State) : Host.Outcome State Fault Refusal :=
  .next (if s.pins.seated then ({ s with pins := { s.pins with seatedQualified := true } }).linksSettle else s)

/-- The links of fabric reference 4 + d lose alignment with it (R280, R455). -/
def State.fabRefLost (s : State) (d : Nat) : State :=
  (List.range 10).foldl (fun t i => t.alignLoss (10 * d + i)) s

/-- SDREF_OK_CHANGE: references 0 to 3 serve the network ports, 4 to 7 the fabric (R99, R119, R280, R455). -/
def execSdrefOkChange (k : Nat) (ok : Bool) (s : State) : Host.Outcome State Fault Refusal :=
  .next (if k < 8 then
      let t := { s with pins := { s.pins with sdref := BitVec.ofNat 8 (setBit s.pins.sdref.toNat k ok) } }
      if ok then t else if 4 ≤ k then t.fabRefLost (k - 4) else (t.refLost k).syeAfter s
    else s)

end Sys2Proof.Machine
end

