-- ==== Sys2Proof/Machine/Power.lean ====
section
/-! DEFINITION. Power: operating modes, power sequences, lean plans, the governor, thermal limits, power-good inputs and
waking (R406 to R421, R431, R451). -/
namespace Sys2Proof.Machine

/-! ## Modes (R407 to R409) -/

/-- Enter a mode for a cause. Leaving DRAIN clears DRAINED (R408). -/
def State.setMode (s : State) (m cause : Nat) : State :=
  let t := if s.mode = 5 ∧ m ≠ 5 then s.wr Reg.TOP_STAT_DRAINED 0 else s
  { (t.wr Reg.TOP_STAT_MODE m).wr Reg.TOP_STAT_CAUSE cause with pwr := { s.pwr with empties := 0 } }

/-- FALLOW of the active plan (R412). -/
def State.fallow (s : State) : Nat := s.banks.plan.active.body.fallow

/-- A domain is to be powered: not fallow by the plan, and not the channel that DUPLEX leaves out (R84, R406, R412). -/
def State.wanted (s : State) (d : Nat) : Bool :=
  bitN s.fallow d == 0 && !(decide (3 ≤ d ∧ d ≤ 5) && (s.chan (d - 3)).fallow)

/-- The domains that are on and no longer wanted, in descending order, and the wanted ones that are off, in ascending order
(R410, R414). -/
def State.planSequence (s : State) : State :=
  { s with pwr := { s.pwr with
      seqOff := ((List.range 33).filter (fun d => s.pwr.on.contains d && !s.wanted d)).reverse
      seqOn := (List.range 33).filter (fun d => s.wanted d && !s.pwr.on.contains d) } }

/-- A power-up or power-down sequence runs. -/
def State.seqBusy (s : State) : Bool := !s.pwr.seqOn.isEmpty || !s.pwr.seqOff.isEmpty || s.pwr.awaitReady.isSome

/-- A refused mode request. -/
def State.modeRefused (s : State) : State := s.trb 0x00 3

/-- The end of a sequence: the mode that waited for it is entered, unless a domain that it needs failed (R407, R410). -/
def State.seqEnd (s : State) : State :=
  if s.seqBusy then s
  else
    let t := { s with pwr := { s.pwr with modeAfter := none } }
    if s.pwr.modeAfter = some 2 then
      (if (List.range 33).all (fun d => !s.wanted d || s.pwr.on.contains d) then t.setMode 2 1 else t.modeRefused)
    else t

/-- Enter STANDBY: everything but AON is lost at once, and the domains switch off in descending order (R407, R415, R425,
R427, R429). -/
def State.enterStandby (s : State) (cause : Nat) : State :=
  if s.mode = 0 then s
  else
    let s := s.belayRelease
    let s := ((allPages.filter (fun p => p != 3)).foldl (fun t p => t.clearRegs false [.s, .v, .w] p) s).standbyLoss
    let s := ((s.wr Reg.TOP_STAT_MODE 0).wr Reg.TOP_STAT_CAUSE cause).satp 0x03 Reg.AON_STBY_COUNT 0
    { s with pwr := { PwrSt.initial with on := s.pwr.on
                                         seqOff := ((List.range 33).filter (fun d => d != 0 && s.pwr.on.contains d)).reverse } }

/-- Every HBM stack is in RUN, the die-to-die link is up and a bundle runs (R407). -/
def State.bootComplete (s : State) : Bool :=
  s.rd Reg.BOOT_STAT_SOURCE != 3 && (List.range 8).all (fun n => s.stackState n == 3) && s.rdb Reg.D2D_STAT_UP

/-- GOTO = 2 in BOOT: the power-up, then READY (R407, R410). -/
def State.bootToReady (s : State) : State :=
  if s.bootComplete then
    let t := s.planSequence
    ({ t with pwr := { t.pwr with modeAfter := some 2 } }).seqEnd
  else s.modeRefused

/-- The forwarding mode of the active plan (R407). -/
def State.serviceMode (s : State) : Nat := if s.fallow = 0 then 3 else 4

/-- The rows of R407 that GOTO and REQ share. -/
def State.modeRequest (s : State) (n cause : Nat) : State :=
  if n = 3 ∧ (s.mode = 2 ∨ s.mode = 5) then s.setMode s.serviceMode cause
  else if n = 5 ∧ (s.mode = 3 ∨ s.mode = 4) then s.setMode 5 cause
  else if n = 2 ∧ (s.mode = 3 ∨ s.mode = 4 ∨ s.mode = 5) then s.setMode 2 cause
  else s.modeRefused

/-- A write of TOP_CMD.GOTO; 6 and 7 name no mode (R407, R409, R418). -/
def State.goto (s : State) (n : Nat) : State :=
  if 6 ≤ n then s
  else if n = 0 then (if s.mode = 0 then s.modeRefused else s.enterStandby 1)
  else if s.seqBusy then s.modeRefused
  else if n = 2 ∧ s.mode = 1 then s.bootToReady
  else s.modeRequest n 1

/-- The commit of TOP_MODE.REQ (R407, R409). -/
def State.modeReq (s : State) (n : Nat) : State := if n = 7 ∨ n = s.mode then s else s.modeRequest n 2

/-! ## Lean plans (R414, R419) -/

/-- The commit of a lean plan: its fields are shown, LEAN or SERVICE is entered, domains follow (R407, R414). -/
def State.planApply (s : State) : State :=
  let p := s.banks.plan.active.body
  let s := ((s.wri Reg.PWR_FALLOW_k 0 p.fallow).wri Reg.PWR_FALLOW_k 1 (p.fallow / 2 ^ 32)).wr Reg.PWR_PLAN_ID p.planId
  let s := if s.mode = 3 ∧ p.fallow ≠ 0 then s.setMode 4 2 else if s.mode = 4 ∧ p.fallow = 0 then s.setMode 3 2 else s
  if 2 ≤ s.mode then s.planSequence else s

/-! ## Domains (R410, R414) -/

/-- Network ports whose lanes or pipelines lie in a domain. -/
def domainPorts (d : Nat) : List Nat :=
  if 6 ≤ d ∧ d ≤ 9 then (List.range 32).map (fun i => 32 * (d - 6) + i)
  else if 12 ≤ d ∧ d ≤ 15 then (List.range 32).map (fun i => 32 * (d - 12) + i)
  else if d = 17 then List.range 128
  else []

/-- Packets inside a domain, lost at its switch-off (R414): packets in pipelines, in input FIFOs, in buffers (whose bytes
lie in HBM), and in reassembly. -/
def State.packetsIn (s : State) (d : Nat) : Nat :=
  if 6 ≤ d ∧ d ≤ 9 then (s.path.recirc.filter (fun p => p.pipe / 4 == d - 6)).length
  else if d = 17 then (s.path.ports.map (fun e => e.2.fifo.length)).sum
  else if 18 ≤ d ∧ d ≤ 27 then s.buf.bufs.length
  else if d = 32 then ((s.fab.reasm ++ s.fab.mreasm).filter (fun e => !e.2.stream.isEmpty || e.2.ct.isSome)).length
  else 0

/-- What a domain's packets leave behind. -/
def State.packetsGone (s : State) (d : Nat) : State :=
  if 6 ≤ d ∧ d ≤ 9 then { s with path := { s.path with recirc := s.path.recirc.filter (fun p => p.pipe / 4 != d - 6) } }
  else if d = 17 then { s with path := { s.path with ports := [] } }
  else if 18 ≤ d ∧ d ≤ 27 then s.discardBuffers
  else s

/-- A domain switches off (R410, R414, R417): its ports and links go down, its packets are lost, its memories and V fields
with them. In STANDBY everything has been lost before. -/
def State.domainOff (s : State) (d : Nat) : State :=
  let s := { s with pwr := { s.pwr with seqOff := s.pwr.seqOff.filter (fun x => x != d) } }
  let s := if s.mode = 0 then s
    else
      let s := (domainPorts d).foldl State.portDown s
      ((s.trbN 0x01 6 (s.packetsIn d)).packetsGone d).domainLoss d
  let s := if 20 ≤ d ∧ d ≤ 27 then s.setStackState (d - 20) 0 else s
  ({ s with pwr := { s.pwr with on := without s.pwr.on d } }).linksSettle.seqEnd

/-- MGMT is ready in BOOT: a start is due (R389); after a wake, the waking edge source pends and is shown (R378). -/
def State.mgmtReady (s : State) : State :=
  let s := if s.mode = 1 then { s with boot := { s.boot with startDue := true } } else s
  if s.mode = 1 ∧ s.rd Reg.TOP_STAT_CAUSE = 6 ∧ s.rdb Reg.AON_WAKE_LAST_VALID then
    let src := s.rd Reg.AON_WAKE_LAST_SRC
    ((s.setPend src).wr Reg.ICU_WAKE_SRC_SRC src).wr Reg.ICU_WAKE_SRC_VALID 1
  else s

/-- The rope starts with its last channel, all of it at 0 (R82, R431). -/
def State.ropeStart (s : State) : State :=
  if s.mode = 1 ∧ ¬ s.time.chC.loadPending ∧ s.tState = 0 then
    { s with time := { s.time with
        chA := { s.time.chA with time := 0 }, chB := { s.time.chB with time := 0 }, chC := { s.time.chC with time := 0 } } }
  else s

/-- A domain's pages read READY (R410): HBM stacks are LOADED, or reinitialise after a fallow time (R331, R336); links may
train. -/
def State.domainReady (s : State) (d : Nat) : State :=
  let s := if d = 1 then s.mgmtReady
    else if d = 5 then s.ropeStart
    else if 6 ≤ d ∧ d ≤ 9 then
      [0, 1, 2, 3].foldl (fun t i => { t with path := { t.path with pipeFrom := t.path.pipeFrom.set 0 (4 * (d - 6) + i) t.ns } }) s
    else if 20 ≤ d ∧ d ≤ 27 then s.setStackState (d - 20) (if 2 ≤ s.mode then 2 else 1)
    else s
  s.linksSettle.seqEnd

/-! ## The governor and thermal limits (R411, R416, R417) -/

/-- Pipeline clocks of a governor tick: 10 ns at 1.5 GHz (R3). -/
def tickClocks : Nat := 15

/-- Clocks that the step limit grants: the estimate would rise by `rise` mA in the tick, the limit of 0.1 A/µs is 1 mA a
tick (R411, log entry 27). -/
def State.stepGrant (s : State) (rise : Nat) : Nat :=
  let lim := s.rd Reg.PWR_STEP_LIMIT
  if lim = 0 ∨ rise ≤ lim then tickClocks else tickClocks * lim / rise

/-- Clocks that throttling grants (R417). -/
def State.dutyGrant (s : State) : Nat :=
  if s.rdb Reg.THM_STAT_THROTTLING then tickClocks * s.rd Reg.THM_THROTTLE_DUTY / 256 else tickClocks

/-- Withheld clocks of one pipeline. -/
def State.withhold (n : Nat) (s : State) (pipe : Nat) : State :=
  if s.runs (0x20 + pipe) then
    (((s.wrp (0x20 + pipe) Reg.PIPE_STAT_THROTTLED 0 (b01 (n != 0))).trbN (0x20 + pipe) 3 n)).stat 0x01 Reg.PWR_GOV_CLOCKS 0 n
  else s

/-- Store one sensor's reading (R416). -/
def State.sensorRead (s : State) (n : Nat) (t : Option (BitVec 16)) : State :=
  match t with
  | some v =>
    let s := { s with pwr := { s.pwr with thmFails := setIdx s.pwr.thmFails n 0 } }
    (s.wri Reg.THM_TEMP_n_TEMP n v.toNat).wri Reg.THM_TEMP_n_STALE n 0
  | none =>
    let k := s.pwr.thmFails.getD n 0 + 1
    let s := { s with pwr := { s.pwr with thmFails := setIdx s.pwr.thmFails n k } }
    if k = 3 then (s.wri Reg.THM_TEMP_n_STALE n 1).trb 0x04 3 else s

/-- The sensors that are not STALE, with their readings. -/
def State.liveSensors (s : State) : List (Nat × Int) :=
  ((List.range 24).filter (fun n => s.rdi Reg.THM_TEMP_n_STALE n == 0)).map (fun n => (n, s.rdsi Reg.THM_TEMP_n_TEMP n))

/-- The hottest of the sensors, the lower number first. -/
def hottest (l : List (Nat × Int)) : Option (Nat × Int) :=
  match l with
  | [] => none
  | a :: t => some (t.foldl (fun b x => if b.2 < x.2 then x else b) a)

/-- Warning and throttling at THM_MAX (R417, R421). -/
def State.thermalLimits (s : State) (t : Int) : State :=
  let warn : Int := s.rd Reg.THM_WARN_TEMP
  let thr : Int := s.rd Reg.THM_THROTTLE_TEMP
  let s := if warn ≠ 0 ∧ warn * 128 ≤ t then (s.evt 0x04 0).wr Reg.THM_STAT_WARN 1 else s
  if thr = 0 ∨ t < (thr - 3) * 128 then s.wr Reg.THM_STAT_THROTTLING 0
  else if thr * 128 ≤ t ∧ ¬ s.rdb Reg.THM_STAT_THROTTLING then (s.wr Reg.THM_STAT_THROTTLING 1).evt 0x04 1
  else s

/-- The trip comparators (R417). -/
def State.thermalTrip (s : State) (l : List (Nat × Int)) : State :=
  match l.find? (fun e => decide (120 * 128 ≤ e.2)) with
  | some _ =>
    if s.pins.thermTrip then s
    else
      let n := match hottest l with | some e => e.1 | none => 0
      let s := (s.satp 0x03 Reg.AON_TRIP_COUNT 0).wr Reg.AON_TRIP_SENSOR n
      ({ s with pins := { s.pins with thermTrip := true } }).enterStandby 3
  | none =>
    if s.pins.thermTrip ∧ l.all (fun e => decide (e.2 < 100 * 128)) then { s with pins := { s.pins with thermTrip := false } } else s

/-! ## Meanings -/

/-- GOTO_STANDBY (R407). -/
def execGotoStandby (m : Master) (s : State) : Host.Outcome State Fault Refusal :=
  .next (s.onWrite m 0x00 0x104 (fun t => t.goto 0))

/-- GOTO_READY (R407, R410). -/
def execGotoReady (m : Master) (s : State) : Host.Outcome State Fault Refusal :=
  .next (s.onWrite m 0x00 0x104 (fun t => t.goto 2))

/-- GOTO_SERVICE (R407). -/
def execGotoService (m : Master) (s : State) : Host.Outcome State Fault Refusal :=
  .next (s.onWrite m 0x00 0x104 (fun t => t.goto 3))

/-- GOTO_DRAIN (R407). -/
def execGotoDrain (m : Master) (s : State) : Host.Outcome State Fault Refusal :=
  .next (s.onWrite m 0x00 0x104 (fun t => t.goto 5))

/-- DOMAIN_SWITCH_ON: the next domain of the sequence, once a power-down has ended (R410, R414); `ready` says that its pages
read READY within 40 µs. -/
def execDomainSwitchOn (ready : Bool) (s : State) : Host.Outcome State Fault Refusal :=
  .next (match s.pwr.seqOn with
    | [] => s
    | d :: rest =>
      if s.pwr.seqOff.isEmpty ∧ s.pwr.awaitReady.isNone then
        let t := { s with pwr := { s.pwr with seqOn := rest, on := withNat s.pwr.on d, awaitReady := if ready then none else some d } }
        if ready then t.domainReady d else t
      else s)

/-- DOMAIN_READY_TIMEOUT: a domain not ready 40 µs after its switch-on is switched off again (R410, R419). -/
def execDomainReadyTimeout (s : State) : Host.Outcome State Fault Refusal :=
  .next (match s.pwr.awaitReady with
    | none => s
    | some d =>
      let t := { s with pwr := { s.pwr with awaitReady := none, on := without s.pwr.on d } }
      let t := t.wri Reg.PWR_FAIL_k (d / 32) (setBit (t.rdi Reg.PWR_FAIL_k (d / 32)) (d % 32) true)
      (t.trb 0x01 5).seqEnd)

/-- DOMAIN_SWITCH_OFF: the next domain of a power-down (R410, R414, R415). -/
def execDomainSwitchOff (s : State) : Host.Outcome State Fault Refusal :=
  .next (match s.pwr.seqOff with
    | [] => s
    | d :: _ => s.domainOff d)

/-- GOVERNOR_TICK: the current estimates of VDDC_F and VDDC_T would rise by these mA (R411, R417). -/
def execGovernorTick (riseF riseT : Nat) (s : State) : Host.Outcome State Fault Refusal :=
  let g := min (s.stepGrant riseF) (s.stepGrant riseT)
  let n := min g s.dutyGrant
  .next (if s.mode = 0 then s
    else
      let t := if g < tickClocks then s.trb 0x01 4 else s
      (List.range 16).foldl (State.withhold (tickClocks - n)) { t with pwr := { t.pwr with govRate := n } })

/-- THERMAL_READ: all 24 sensors, none where a read fails (R416, R417). -/
def execThermalRead (t : List (Option (BitVec 16))) (s : State) : Host.Outcome State Fault Refusal :=
  let s := ((t.take 24).zip (List.range 24)).foldl (fun s x => s.sensorRead x.2 x.1) s
  let l := s.liveSensors
  .next (match hottest l with
    | some (n, v) => (((s.wr Reg.THM_MAX_TEMP (ofSigned 16 v)).wr Reg.THM_MAX_SENSOR n).thermalLimits v).thermalTrip l
    | none => s)

/-- SEATED_DEASSERTED: for 100 ns; the transmitters are squelched, the belay is released, STANDBY begins (R116, R415). -/
def execSeatedDeasserted (s : State) : Host.Outcome State Fault Refusal :=
  let t := { s with pins := { s.pins with seated := false, seatedQualified := false } }
  .next ((t.enterStandby 4).linksSettle)

/-- PG_IN_FALL: a required PG_IN input falls for 100 ns (R407, R420, R451). -/
def execPgInFall (n : Nat) (s : State) : Host.Outcome State Fault Refusal :=
  .next (if n < 8 ∧ bitN (s.rd Reg.AON_PGIN_REQ) n = 1 then
      let t := { s with pins := { s.pins with pgIn := BitVec.ofNat 8 (setBit s.pins.pgIn.toNat n false) } }
      (t.trb 0x03 3).enterStandby 5
    else s)

/-- PG_IN_CHANGE: the levels of PG_IN change; source 9 (R369, R420). -/
def execPgInChange (levels : Byte) (s : State) : Host.Outcome State Fault Refusal :=
  .next (if levels = s.pins.pgIn then s else ({ s with pins := { s.pins with pgIn := levels } }).setPend 9)

/-- WAKE: a wake source fires in STANDBY (R378, R407, R420). -/
def execWake (src : Nat) (s : State) : Host.Outcome State Fault Refusal := .next (s.wake src)

/-- AON_WAKE_TIMER: AON_TIMER seconds have passed since STANDBY was entered; source 11 (R369, R420). -/
def execAonWakeTimer (s : State) : Host.Outcome State Fault Refusal :=
  .next (if s.mode = 0 ∧ s.rd Reg.AON_TIMER_S ≠ 0 then s.setPend 11 else s)

/-- END_OF_COLD: 1 ms after CHIP_PORST_L ends, STANDBY is left for BOOT (R407, R431). -/
def execEndOfCold (s : State) : Host.Outcome State Fault Refusal :=
  .next (if s.rst.cold then
      let t := { s with rst := { s.rst with cold := false } }
      if t.mayWake then t.enterBoot 7 else t
    else s)

end Sys2Proof.Machine
end

