-- ==== Sys2Proof/Machine/Tdm.lean ====
section
/-! DEFINITION. Tdm: the table DMA engine and the exact-match insert engine (R176, R194 to R201, R204, R210). -/
namespace Sys2Proof.Machine

/-! ## Lines (R199) -/

/-- The PMU event of a 64-byte line written by the engine or an insert lane (R434). -/
def State.lineWritten (s : State) : State := s.pmu' 0x39 0x80 1 (some 5) none none

/-! ## The insert engine (R173 to R176) -/

/-- Address of a bucket in HBM, in MAXIMAL (R205). -/
def bucketAddr (t b : Nat) : Nat := (if t = 0 then 0x10000000 else 0x20000000) + 64 * b

/-- Write an entry at a place: one atomic line write (R176, R199). -/
def State.enginePut (s : State) (p : Place) (e : Nat) : State :=
  let s := (s.setEntry p e).lineWritten
  if p.tbl < 2 ∧ s.rd Reg.LPM_STAT_PROFILE = 2 then s.drqAccess 7 (bucketAddr p.tbl p.b) 64 true else s

/-- A slot that the engine may take: empty, and its parity holds (R189). -/
def State.slotFree (s : State) (bad : List BadCell) (p : Place) : Bool := s.entryAt p == 0 && !badPlace bad p

/-- The first free slot of a bucket. -/
def State.freeIn (s : State) (bad : List BadCell) (t b : Nat) : Option Place :=
  ([0, 1, 2, 3].map (fun i => ({ tbl := t, b := b, i := i } : Place))).find? (s.slotFree bad)

/-- The other bucket of the entry at a place. -/
def State.altOf (s : State) (p : Place) : Nat × Nat :=
  let k := slotKey (s.entryAt p)
  if p.tbl = 0 then (1, s.hash1 k) else (0, s.hash0 k)

/-- The search of R176 from a full bucket: the path of places to empty, and the free place at its end. -/
def State.pathFrom (fuel : Nat) (s : State) (bad : List BadCell) (m : Nat) (cur : Nat × Nat) (on : List (Nat × Nat))
    (path : List Place) : Option (List Place × Place) :=
  match fuel with
  | 0 => none
  | k + 1 =>
    let slots := [0, 1, 2, 3].map (fun i => ({ tbl := cur.1, b := cur.2, i := i } : Place))
    let movable := slots.filter (fun p => !badPlace bad p)
    match movable.findSome? (fun p => (s.freeIn bad (s.altOf p).1 (s.altOf p).2).map (fun f => (p, f))) with
    | some (p, f) => some (path ++ [p], f)
    | none =>
      let order := [m - 1, m, m + 1, m + 2].map (fun x => ({ tbl := cur.1, b := cur.2, i := x % 4 } : Place))
      match order.find? (fun p => !badPlace bad p && !on.contains (s.altOf p)) with
      | none => none
      | some p => State.pathFrom k s bad (m + 1) (s.altOf p) (on ++ [s.altOf p]) (path ++ [p])

/-- The moves of a path, from its end back; then the new entry takes the first slot (R176). -/
def State.movePath (s : State) (path : List Place) (dst : Place) (e : Nat) : State :=
  match path with
  | [] => s.enginePut dst e
  | p :: t => (s.movePath t dst (s.entryAt p)).enginePut p e

/-- Place a new entry in the tables: free slot, or moves of up to 12 entries; none where neither is found (R176). -/
def State.placeEntry (s : State) (bad : List BadCell) (e : Nat) : Option State :=
  let k := slotKey e
  match s.freeIn bad 0 (s.hash0 k), s.freeIn bad 1 (s.hash1 k) with
  | some p, _ => some (s.enginePut p e)
  | none, some p => some (s.enginePut p e)
  | none, none =>
    match s.pathFrom 12 bad 1 (0, s.hash0 k) [(0, s.hash0 k)] [] with
    | some (path, f) => some ((s.movePath path f e).stat 0x34 Reg.EXM_MOVES 0 path.length)
    | none => none

/-- The lowest-numbered stash entry that a test accepts. -/
def State.stashFind (s : State) (bad : List BadCell) (used : Bool) : Option Place :=
  ((List.range 256).map (fun i => ({ tbl := 2, b := 0, i := i } : Place))).find? (fun p =>
    (s.entryAt p != 0) == used && !badPlace bad p)

/-- Insert a slot (R173, R176, R196): 1 OK, 2 REPLACED, 3 STASHED, 4 FULL, 7 BAD_TYPE. -/
def State.insertSlot (s : State) (bad : List BadCell) (e : Nat) : State × Nat :=
  let ty := bits e 127 124
  if ty ≠ 1 ∧ ty ≠ 2 then (s, 7)
  else
    let k := slotKey e
    let s := s.exmReads 7 k
    match s.findKey bad k with
    | some p => ((s.enginePut p e).stat 0x34 Reg.EXM_INSERTS 0 1, 2)
    | none =>
      match s.placeEntry bad e with
      | some t => (t.stat 0x34 Reg.EXM_INSERTS 0 1, 1)
      | none =>
        match s.stashFind bad false with
        | some p => (((s.enginePut p e).trb 0x34 5).stat 0x34 Reg.EXM_INSERTS 0 1, 3)
        | none => (s.trb 0x34 4, 4)

/-- After a removal, the lowest-numbered stash entry is tried again; copy first, clear afterwards (R176). -/
def State.retryStash (s : State) (bad : List BadCell) : State :=
  match s.stashFind bad true with
  | none => s
  | some p =>
    match s.placeEntry bad (s.entryAt p) with
    | some t => t.enginePut p 0
    | none => s

/-- Remove the entry of a slot's key (R196): 5 REMOVED, 6 NOT_FOUND, 7 BAD_TYPE. -/
def State.removeSlot (s : State) (bad : List BadCell) (e : Nat) : State × Nat :=
  let ty := bits e 127 124
  if ty ≠ 1 ∧ ty ≠ 2 then (s, 7)
  else
    let s := s.exmReads 7 (slotKey e)
    match s.findKey bad (slotKey e) with
    | none => (s, 6)
    | some p => (((s.enginePut p 0).stat 0x34 Reg.EXM_REMOVES 0 1).retryStash bad, 5)

/-! ## The ring (R194, R195, R198) -/

/-- Entries of the table DMA ring (R211). -/
def State.tdmCount (s : State) : Nat := ringCount (s.rd Reg.TDM_RING_SIZE_COUNT)

/-- Host address of the descriptor at a ring index. -/
def State.descAddr (s : State) (i : Nat) : Nat := s.rd Reg.TDM_RING_BASE + 32 * i

/-- The fields of a descriptor. -/
def parseDesc (ring : Nat) (b : Bytes) : Desc :=
  { op := leAt b 0 1, table := leAt b 1 1, bank := leAt b 2 1 % 2, len := leAt b 4 4, addr := leAt b 8 8,
    index := leAt b 16 4, tag := leAt b 20 4, ring := ring, pos := 0, bad := 0 }

/-- An accepted APPLY starts when no descriptor is in progress (R204). -/
def State.applyNext (s : State) : State :=
  if s.tdm.applyWaiting ∧ s.tdm.cur.isNone then
    { s with tdm := { s.tdm with applyWaiting := false, applyRunning := true } }
  else s

/-- Complete the descriptor in progress: STATUS, ART_STATUS and DETAIL with DONE, then HEAD advances (R194, R198, R211). -/
def State.tdmComplete (s : State) (d : Desc) (status art detail : Nat) : State :=
  let s := if status = 0 then s
    else (((((s.trb 0x39 3).evt 0x39 0).wr Reg.TDM_LAST_STATUS status).wr Reg.TDM_LAST_ART_STATUS art).wr Reg.TDM_LAST_IDX d.ring)
  let s := if status = 7 then s.trb 0x39 4 else if status = 6 then s.trb 0x39 7 else s
  let s := s.emit (.hostWrite (s.descAddr d.ring + 24) (dwords [detail, status + art * 256 + 2 ^ 31]))
  let s := s.wr Reg.TDM_HEAD_IDX ((d.ring + 1) % max 1 s.tdmCount)
  ({ s with tdm := { s.tdm with cur := none, abandoned := false } }).applyNext

/-- The engine may take up a descriptor (R194, R204, R210). -/
def State.tdmMayTake (s : State) : Bool :=
  s.runs 0x39 && s.rdb Reg.TDM_CTL_EN && !s.rdb Reg.TDM_CTL_PAUSE && decide (2 ≤ s.tdmCount)
    && s.rd Reg.TDM_HEAD_IDX % max 1 s.tdmCount != s.rd Reg.TDM_TAIL_IDX % max 1 s.tdmCount && s.dmaOk
    && s.tdm.cur.isNone && !s.tdm.applyWaiting && !s.tdm.applyRunning

/-- The descriptor at HEAD is read (R194, R198, R210, R355). -/
def State.tdmTake (s : State) (r : HostRead) : State :=
  let h := s.rd Reg.TDM_HEAD_IDX % max 1 s.tdmCount
  match r with
  | .failed => ({ s.readFailed with tdm := { s.tdm with retry := true } }).trb 0x39 7
  | .ok b =>
    let d := parseDesc h b
    let s := { s with tdm := { s.tdm with retry := false } }
    if s.rst.headless then s.tdmComplete d 7 0 0
    else { s with tdm := { s.tdm with cur := some d } }

/-! ## Tables (R197, R255) -/

/-- Entry size, whether WRITE is allowed, and the page of a table. -/
def tableOf (t : Nat) : Option (Nat × Bool × Nat) :=
  if t = 1 then some (8, true, 0x35) else if t = 2 then some (8, true, 0x36) else if t = 3 ∨ t = 4 then some (4, true, 0x36)
  else if t = 5 then some (32, true, 0x36) else if t = 6 then some (16, false, 0x34)
  else if t = 7 ∨ t = 8 then some (32, false, 0x33) else if t = 9 then some (4, false, 0x33)
  else if t = 16 then some (32, true, 0x60) else if t = 17 then some (16, false, 0x60) else if t = 18 then some (16, true, 0x60)
  else if t = 19 then some (32, true, 0x54) else if t = 20 then some (16, false, 0x54)
  else if t = 21 ∨ t = 22 then some (8, true, 0x53) else none

/-- The LPM image that BANK names; none for a bank with no valid artifact (R197). -/
def State.imgOf (s : State) (bank : Nat) : LpmImage :=
  if bank = 0 then s.banks.lpm.active.body
  else match s.banks.lpm.staged with
    | some b => b.body
    | none => LpmImage.empty

/-- Entries of a table. -/
def State.tableSize (s : State) (t bank : Nat) : Nat :=
  if t = 1 then 16384 else if t = 2 then 1048576 else if t = 3 then 65536 else if t = 4 then 1048576
  else if t = 5 then 262144 else if t = 6 then s.rd Reg.EXM_SIZE_SLOTS + 256
  else if t = 7 then (s.imgOf bank).nodes.length else if t = 8 then (s.imgOf bank).hbmNodes.length
  else if t = 9 then (s.imgOf bank).results.length
  else if t = 16 ∨ t = 17 then 1048576 else if t = 18 then 16777216 else if t = 19 ∨ t = 20 then 598176
  else if t = 21 then 65536 else if t = 22 then 8192 else 0

/-- The staged half of a shaper: what was written since the last commit, or the active half (R245, R246). -/
def State.shaperStaged (s : State) (i : Nat) : Nat := (s.tab.shpStg.lookup i).getD (s.tab.shpAct.get shaperReset i)

/-- Entry i of a table as a number (R197, R255). -/
def State.tableGet (s : State) (t bank i : Nat) : Nat :=
  if t = 1 then s.tab.bd.get 0 i else if t = 2 then s.tab.nh.get 0 i else if t = 3 then s.tab.ecmp.get 0 i
  else if t = 4 then s.tab.member.get 0 i else if t = 5 then s.tab.adj.get 0 i
  else if t = 6 then
    let b := s.exmBuckets
    if i < 8 * b then s.entryAt { tbl := i / (4 * b), b := i / 4 % b, i := i % 4 } else s.entryAt { tbl := 2, b := 0, i := i - 8 * b }
  else if t = 7 then (s.imgOf bank).nodes.getD i 0 else if t = 8 then (s.imgOf bank).hbmNodes.getD i 0
  else if t = 9 then (s.imgOf bank).results.getD i 0
  else if t = 16 then s.tab.polCfg.get 0 i
  else if t = 17 then
    let k := s.policerTok i
    ofSigned 32 (k.1 * 256 / tokPerByte) + ofSigned 32 (k.2 * 256 / tokPerByte) * 2 ^ 32
  else if t = 18 then let c := s.tab.ctr.get (0, 0) i; c.1 % 2 ^ 64 + c.2 % 2 ^ 64 * 2 ^ 64
  else if t = 19 then s.shaperStaged i + s.tab.shpAct.get shaperReset i * 2 ^ 128
  else if t = 20 then
    let k := s.shaperTok i
    ofSigned 32 (k.1 / tokPerByte) + ofSigned 32 (k.2 / tokPerByte) * 2 ^ 32
  else if t = 21 then (s.tab.snStg.lookup i).getD (s.snEntry i) + s.snEntry i * 2 ^ 32
  else if t = 22 then (s.tab.anStg.lookup i).getD (s.anEntry i) + s.anEntry i * 2 ^ 32
  else 0

/-- Write entry i of a table (R199, R246, R250, R255). -/
def State.tablePut (s : State) (t i v : Nat) : State :=
  let k := s.tab
  if t = 1 then { s with tab := { k with bd := k.bd.set 0 i v } }
  else if t = 2 then { s with tab := { k with nh := k.nh.set 0 i v } }
  else if t = 3 then { s with tab := { k with ecmp := k.ecmp.set 0 i v } }
  else if t = 4 then { s with tab := { k with member := k.member.set 0 i v } }
  else if t = 5 then { s with tab := { k with adj := k.adj.set 0 i v } }
  else if t = 16 then
    ({ s with tab := { k with polCfg := k.polCfg.set 0 i v, polTok := k.polTok.erase i } }).drqSomewhere 7 0x0040000000 0x03000000 32 true
  else if t = 18 then
    ({ s with tab := { k with ctr := k.ctr.set (0, 0) i (v % 2 ^ 64, v / 2 ^ 64 % 2 ^ 64) } }).drqAccess 7 (0x0030000000 + 16 * i) 16 true
  else if t = 19 then { s with tab := { k with shpStg := k.shpStg.insert i (v % 2 ^ 128) } }
  else if t = 21 then { s with tab := { k with snStg := k.snStg.insert i (v % 2 ^ 32) } }
  else if t = 22 then { s with tab := { k with anStg := k.anStg.insert i (v % 2 ^ 32) } }
  else s

/-- Entries of the next 64-byte line of an access: from entry `at_`, at most n (R197, R199). -/
def lineCount (size at_ n : Nat) : Nat := min n (64 / size - at_ % (64 / size))

/-- A descriptor is BAD_OP: its OP, its table, or the pairing (R196, R197). -/
def badOp (d : Desc) : Bool :=
  if d.op = 2 then (match tableOf d.table with | some (_, w, _) => !w | none => true)
  else if d.op = 3 then (tableOf d.table).isNone
  else d.op == 0 || decide (6 < d.op)

/-- A descriptor's range or length fails (R198, R388 for STAGE_FW's own refusals). -/
def State.badRange (s : State) (d : Desc) : Bool :=
  d.addr % 64 != 0 || (d.op == 1 && d.index != 0) || ((d.op == 4 || d.op == 5) && d.len % 16 != 0)
    || ((d.op == 2 || d.op == 3) && (match tableOf d.table with
      | some (z, _, _) => d.len % z != 0 || decide (s.tableSize d.table d.bank < d.index + d.len / z)
      | none => false))

/-- Work on the descriptor in progress, if it is of an operation, after the checks that R198 orders before it. -/
def State.tdmWith (s : State) (op : Nat) (f : State → Desc → State) : State :=
  match s.tdm.cur with
  | none => s
  | some d =>
    if d.op ≠ op ∨ badOp d ∨ s.tdm.abandoned ∨ ¬ s.runs 0x39 ∨ ¬ s.dmaOk then s
    else if d.pos = 0 ∧ s.badRange d then s.tdmComplete d 3 0 0
    else if d.len = 0 then s.tdmComplete d 1 0 0
    else f s d

/-- Keep a descriptor in progress. -/
def State.tdmKeep (s : State) (d : Desc) : State := { s with tdm := { s.tdm with cur := some d } }

/-- Bytes moved by the engine (R211). -/
def State.tdmMoved (s : State) (n : Nat) : State := s.stat 0x39 Reg.TDM_BYTES 0 n

/-- The bytes of a host read, if it brought as many as were asked for. -/
def hostBytes (r : HostRead) (n : Nat) : Option Bytes :=
  match r with
  | .ok b => if n ≤ b.length then some (b.take n) else none
  | .failed => none

/-! ## Operations -/

/-- LOAD: the artifact is read whole and checked (R44, R45, R196). -/
def State.tdmLoadOp (s : State) (r : HostRead) (d : Desc) : State :=
  match hostBytes r d.len with
  | none =>
    let n := match r with | .ok b => b.length | .failed => 0
    (s.readFailed.tdmMoved n).tdmComplete d 6 0 n
  | some b =>
    let l := s.loadArtifact b
    if l.2.1 = 0 then (l.1.tdmMoved d.len).tdmComplete d 0 0 0
    else (l.1.tdmMoved d.len).tdmComplete d 4 l.2.1 l.2.2

/-- A WRITE to tables 19, 21 and 22 is held before its first line while their group is frozen (R246). -/
def State.writeHeld (s : State) (d : Desc) : Bool :=
  d.pos == 0 && ((d.table == 19 && s.frozen 0x54) || ((d.table == 21 || d.table == 22) && s.frozen 0x53))

/-- One line of a WRITE (R199). A table whose domain is off takes nothing. -/
def State.tdmWriteOp (s : State) (r : HostRead) (d : Desc) : State :=
  match tableOf d.table with
  | none => s
  | some (z, _, page) =>
    if s.writeHeld d then s
    else
      let at_ := d.index + d.pos
      let m := lineCount z at_ (d.len / z - d.pos)
      match hostBytes r (m * z) with
      | none => s.readFailed.tdmComplete d 6 0 (d.pos * z)
      | some b =>
        let t := if s.pagePowered page then
            ((numbered (entriesOf z b)).foldl (fun t e => t.tablePut d.table (at_ + e.1) (le e.2)) s).lineWritten
          else s
        let t := t.tdmMoved (m * z)
        if d.len / z ≤ d.pos + m then t.tdmComplete d 0 0 d.len else t.tdmKeep { d with pos := d.pos + m }

/-- One line of a READ (R197, R199). -/
def State.tdmReadOp (s : State) (writeOk : Bool) (d : Desc) : State :=
  match tableOf d.table with
  | none => s
  | some (z, _, page) =>
    let at_ := d.index + d.pos
    let m := lineCount z at_ (d.len / z - d.pos)
    if ¬ writeOk then s.tdmComplete d 6 0 (d.pos * z)
    else
      let b := (List.range m).flatMap (fun j => toLe z (if s.pagePowered page then s.tableGet d.table d.bank (at_ + j) else 0))
      let t := (s.emit (.hostWrite (d.addr + d.pos * z) b)).tdmMoved (m * z)
      if d.len / z ≤ d.pos + m then t.tdmComplete d 0 0 d.len else t.tdmKeep { d with pos := d.pos + m }

/-- One slot of an INSERT or REMOVE: passed to the insert engine, its outcome written into bits [3:0] of the slot in host
memory (R196, R198). -/
def State.tdmSlotOp (s : State) (r : HostRead) (bad : List BadCell) (d : Desc) : State :=
  match hostBytes r 16 with
  | none => s.readFailed.tdmComplete d 6 0 d.pos
  | some b =>
    let e := le b / 2 ^ 34 * 2 ^ 34
    let o := if d.op = 4 then s.insertSlot bad e else s.removeSlot bad e
    let t := (o.1.emit (.hostWrite (d.addr + 16 * d.pos) (toLe 16 (le b / 16 * 16 + o.2)))).tdmMoved 16
    let n := { d with pos := d.pos + 1, bad := d.bad + (if o.2 = 4 ∨ o.2 = 6 ∨ o.2 = 7 then 1 else 0) }
    if n.pos < d.len / 16 then t.tdmKeep n
    else if n.bad = 0 then t.tdmComplete d 0 0 n.pos
    else t.tdmComplete d 5 0 n.bad

/-! ## Stops (R210) -/

/-- Containment stops the descriptor in progress. -/
def State.tdmContain (s : State) : State := { s with tdm := { s.tdm with abandoned := s.tdm.cur.isSome } }

/-- After containment, the abandoned descriptor completes with HOST_ERR. -/
def State.tdmRelease (s : State) : State :=
  match s.tdm.cur with
  | some d => if s.tdm.abandoned ∧ s.dmaOk then s.tdmComplete d 6 0 0 else s
  | none => s

/-! ## Profiles (R204) -/

/-- A write of TDM_PROFILE.APPLY. -/
def State.profileApply (s : State) : State :=
  if s.mode ≠ 2 ∨ s.tdm.applyWaiting ∨ s.tdm.applyRunning ∨ (s.armedFor 0x33).isSome ∨ (s.armedFor 0x34).isSome then s.trb 0x39 5
  else
    ({ s with tdm := { s.tdm with
        applyWaiting := true, applySel := if s.rd Reg.TDM_PROFILE_SEL = 3 then 1 else s.rd Reg.TDM_PROFILE_SEL } }).applyNext

/-- The profile changes: both LPM banks and exact match are empty (R204). -/
def State.profileDone (s : State) : State :=
  let sel := s.tdm.applySel
  let s := { s with banks := { s.banks with lpm := Banked.initial LpmImage.empty }, tdm := { s.tdm with applyRunning := false } }
  let s := (s.wrp 0x33 Reg.PG_GEN_ACTIVE 0 0).wr Reg.LPM_STAT_PROFILE sel
  (s.wr Reg.EXM_SIZE_SLOTS (8 * s.exmBuckets)).emptyExm

/-! ## Meanings -/

/-- TDM_DESCRIPTOR_TAKEUP (R194). -/
def execTdmDescriptorTakeup (r : HostRead) (s : State) : Host.Outcome State Fault Refusal :=
  .next (if s.tdmMayTake ∧ ¬ s.tdm.retry then s.tdmTake r else s)

/-- TDM_DESCRIPTOR_READ_RETRY (R194, R355). -/
def execTdmDescriptorReadRetry (r : HostRead) (s : State) : Host.Outcome State Fault Refusal :=
  .next (if s.tdmMayTake ∧ s.tdm.retry then s.tdmTake r else s)

/-- TDM_LOAD (R44, R196). -/
def execTdmLoad (r : HostRead) (s : State) : Host.Outcome State Fault Refusal :=
  .next (s.tdmWith 1 (fun t d => t.tdmLoadOp r d))

/-- TDM_WRITE: the next line of a WRITE (R199). -/
def execTdmWrite (r : HostRead) (s : State) : Host.Outcome State Fault Refusal :=
  .next (s.tdmWith 2 (fun t d => t.tdmWriteOp r d))

/-- TDM_READ: the next line of a READ (R197, R199). -/
def execTdmRead (writeOk : Bool) (s : State) : Host.Outcome State Fault Refusal :=
  .next (s.tdmWith 3 (fun t d => t.tdmReadOp writeOk d))

/-- TDM_INSERT: the next slot of an INSERT (R196). -/
def execTdmInsert (r : HostRead) (bad : List BadCell) (s : State) : Host.Outcome State Fault Refusal :=
  .next (s.tdmWith 4 (fun t d => t.tdmSlotOp r bad d))

/-- TDM_REMOVE: the next slot of a REMOVE (R196). -/
def execTdmRemove (r : HostRead) (bad : List BadCell) (s : State) : Host.Outcome State Fault Refusal :=
  .next (s.tdmWith 5 (fun t d => t.tdmSlotOp r bad d))

/-- TDM_BAD_OP (R196 to R198). -/
def execTdmBadOp (s : State) : Host.Outcome State Fault Refusal :=
  .next (match s.tdm.cur with
    | some d => if badOp d ∧ ¬ s.tdm.abandoned ∧ s.dmaOk then s.tdmComplete d 2 0 0 else s
    | none => s)

/-- TDM_PROFILE_APPLY (R204). -/
def execTdmProfileApply (m : Master) (s : State) : Host.Outcome State Fault Refusal :=
  .next (s.onWrite m 0x39 0x120 State.profileApply)

/-- PROFILE_APPLY_DONE (R204). -/
def execProfileApplyDone (s : State) : Host.Outcome State Fault Refusal :=
  .next (if s.tdm.applyRunning then s.profileDone else s)

end Sys2Proof.Machine
end

