-- ==== Sys2Proof/Machine/Boot.lean ====
section
/-! DEFINITION. Boot: boot flash, bundles, staging, starts, flash copies, the Traverse, watchdogs, and the SEC block (R366,
R367, R381 to R405). -/
namespace Sys2Proof.Machine

/-! ## Fuses (R397, R404) -/

/-- A count of fuse bits burned from bit 0 upward, over a field of n bits. -/
def burnLow (n : Nat) (field k : Nat) : Nat :=
  ((List.range n).foldl (fun (a : Nat × Nat) i =>
    if a.2 = 0 ∨ bitN a.1 i = 1 then a else (setBit a.1 i true, a.2 - 1)) (field, k)).1

/-- The rollback field, with what COMMIT has burned (R397). -/
def State.rollField (s : State) : Nat :=
  burnLow 64 ((Config.fuse 53).toNat + (Config.fuse 54).toNat * 2 ^ 32) s.sec.burned

/-- The rollback level: the number of set bits (R397). -/
def State.rollLevel (s : State) : Nat := (bitsSet s.rollField 64).length

/-- The revoked key slots (R397). -/
def State.revoked (s : State) : Nat := (Config.fuse 52).toNat % 16 ||| s.sec.revoked % 16

/-- A fuse dword as it reads now (R404). -/
def State.fuseDword (s : State) (i : Nat) : Nat :=
  if 83 ≤ i then 0
  else if i = 52 then (Config.fuse 52).toNat / 16 * 16 + s.revoked
  else if i = 53 then s.rollField % 2 ^ 32
  else if i = 54 then s.rollField / 2 ^ 32
  else (Config.fuse i).toNat

/-- The unit ID as 16 bytes (R404). -/
def unitBytes : Bytes := [0, 1, 2, 3].flatMap (fun i => toLe 4 (Config.fuse i).toNat)

/-- The digest of a key slot, in byte order (R404). -/
def slotDigest (n : Nat) : Bytes := (List.range 12).flatMap (fun i => toLe 4 (Config.fuse (4 + 12 * n + i)).toNat)

/-! ## Boot record (R382) -/

/-- The record of no flags, which stands where no copy is valid. -/
def BootRec.none : BootRec := { seq := 0, pending := false, copyAB := false, copySA := false, stgLen := 0 }

/-- The governing boot record. -/
def State.bootRec (s : State) : BootRec :=
  match s.boot.rec0, s.boot.rec1 with
  | some a, some b => if a.seq < b.seq then b else a
  | some a, none => a
  | none, some b => b
  | none, none => BootRec.none

/-- Write a new record to the copy that does not govern, with SEQ + 1. -/
def State.writeRec (s : State) (r : BootRec) : State :=
  let r := { r with seq := (s.bootRec.seq + 1) % 2 ^ 32 }
  let second := match s.boot.rec0, s.boot.rec1 with
    | some a, some b => !decide (a.seq < b.seq)
    | some _, none => true
    | none, _ => false
  if second then { s with boot := { s.boot with rec1 := some r } } else { s with boot := { s.boot with rec0 := some r } }

/-! ## Bundles (R383 to R386) -/

/-- The bytes of a bundle of the LENGTH that its header gives; erased flash reads 0xFF. -/
def bundleBytes (b : Bytes) : Bytes :=
  let n := leAt (b ++ List.replicate (16 - b.length) 0xFF) 0x0C 4
  if 16777216 < n then b else b.take n ++ List.replicate (n - b.length) 0xFF

/-- LENGTH of a bundle. -/
def buLen (b : Bytes) : Nat := leAt b 0x0C 4

/-- Entry i of the image table: ROLE, IFV, OFFSET, LENGTH, LOAD, DIGEST. -/
structure Image where
  role : Nat
  ifv : Nat
  off : Nat
  len : Nat
  load : Nat
  digest : Bytes
  deriving DecidableEq, Repr

/-- Read an image table entry (R384). -/
def imageAt (b : Bytes) (i : Nat) : Image :=
  let e := sl b (0x80 + 64 * i) 64
  { role := leAt e 0 1, ifv := leAt e 2 2, off := leAt e 4 4, len := leAt e 8 4, load := leAt e 12 4, digest := sl e 16 48 }

/-- Two ranges share a place. -/
def overlap (a n b m : Nat) : Bool := decide (a < b + m ∧ b < a + n)

/-- The image table is as R384 requires, with every digest matching. -/
def imagesOk (b : Bytes) : Bool :=
  let l := (List.range 4).map (imageAt b)
  (numbered l).all (fun x => x.2.role == x.1 && x.2.off % 64 == 0 && decide (0x180 ≤ x.2.off)
      && decide (x.2.off + x.2.len + 5376 ≤ buLen b) && x.2.load % 4096 == 0 && decide (x.2.load + x.2.len ≤ 8388608)
      && x.2.digest == shaBytes (Config.sha384 (sl b x.2.off x.2.len)))
    && (numbered l).all (fun x => (numbered l).all (fun y => decide (y.1 ≤ x.1)
      || (!overlap x.2.off x.2.len y.2.off y.2.len && !overlap x.2.load x.2.len y.2.load y.2.len)))

/-- The IFVs of the images for CORE1 to CORE3 appear in IFV_TABLE (R383, R386). -/
def ifvsOk (b : Bytes) : Bool :=
  [1, 2, 3].all (fun c =>
    let t := (List.range 4).map (fun k => leAt b (0x34 + 8 * (c - 1) + 2 * k) 2)
    let v := (imageAt b c).ifv
    v != 0 && t.contains v)

/-- The code of the first failing check of R386, 0 OK; `lenOk` is check 1's comparison with what was staged. -/
def State.verifyBundle (s : State) (b : Bytes) (lenOk : Bool) : Nat :=
  let n := buLen b
  let t := b.drop (n - 5376)
  let slot := leAt b 0x15 1
  let m := shaBytes (Config.sha384 (b.take (n - 5376)))
  if n < 5760 ∨ 16777216 < n ∨ ¬ lenOk then 1
  else if b.take 4 ≠ [0x43, 0x59, 0x47, 0x42] then 2
  else if leAt b 4 2 ≠ 0x0100 then 3
  else if leAt b 8 4 ≠ 0x256000B0 then 4
  else if ¬ (sl b 0x28 8).contains 0xB0 then 5
  else if leAt b 0x17 1 % 2 = 1 ∧ sl b 0x18 16 ≠ unitBytes then 6
  else if 3 < slot ∨ bitN s.revoked slot = 1 then 7
  else if shaBytes (Config.sha384 (t.take 1984)) ≠ slotDigest slot then 8
  else if ¬ Config.ed25519Verify (t.take 32) (sl t 0x7C0 64) m then 9
  else if ¬ Config.mlDsa65Verify (sl t 0x20 1952) (sl t 0x800 3309) m then 10
  else if 64 < leAt b 0x14 1 ∨ leAt b 0x14 1 < s.rollLevel then 11
  else if ¬ imagesOk b then 12
  else if ¬ ifvsOk b then 13
  else 0

/-- BOOT_LAST: a refusal code, its candidate, and whether a start refused it (R405). -/
def State.bootLast (s : State) (code cand : Nat) (atStart : Bool) : State :=
  ((s.wr Reg.BOOT_LAST_CODE code).wr Reg.BOOT_LAST_CAND cand).wr Reg.BOOT_LAST_AT_START (b01 atStart)

/-! ## Staging (R388) -/

/-- A STAGE_FW descriptor is refused. -/
def State.stageRefuse (s : State) (d : Desc) (code : Nat) : State :=
  ((s.bootLast code 0 false).trb 0x07 3).tdmComplete d 8 0 code

/-- The staged bundle is complete: CORE0 verifies it before the descriptor completes. -/
def State.stageVerify (s : State) (d : Desc) : State :=
  let b := bundleBytes s.boot.staging
  let code := s.verifyBundle b (buLen b == s.rd Reg.BOOT_STG_BYTES)
  let s := s.evt 0x07 1
  if code = 0 then
    (s.writeRec { s.bootRec with pending := true, stgLen := buLen b }).tdmComplete d 0 0 d.len
  else s.stageRefuse d code

/-- The bytes of a descriptor go into staging, at INDEX (R388). -/
def State.stageBytes (s : State) (d : Desc) (b : Bytes) : State :=
  let s := if d.index = 0 then
      let t := { s with boot := { s.boot with staging := [] } }
      if s.bootRec.pending then t.writeRec { s.bootRec with pending := false } else t
    else s
  let n := d.index + d.len
  let s := { s with boot := { s.boot with staging := s.boot.staging.take d.index ++ b } }
  let s := (s.wr Reg.BOOT_STG_BYTES n).tdmMoved d.len
  if 16 ≤ n ∧ leAt s.boot.staging 0x0C 4 ≤ n then s.stageVerify d else s.tdmComplete d 0 0 d.len

/-- A STAGE_FW descriptor (R388, R395, R198). -/
def State.tdmStageOp (s : State) (r : HostRead) (d : Desc) : State :=
  if s.coreState 0 ≠ 2 ∨ s.rdb Reg.BOOT_STAT_COPYING then s.stageRefuse d 0x11
  else if d.index ≠ 0 ∧ d.index ≠ s.rd Reg.BOOT_STG_BYTES then s.stageRefuse d 0x10
  else if 16777216 < d.index + d.len then s.stageRefuse d 0x12
  else
    match hostBytes r d.len with
    | none => s.readFailed.tdmComplete d 6 0 0
    | some b => s.stageBytes d b

/-! ## The Traverse (R392 to R396) -/

/-- Time at a Traverse (R48, R49). -/
def State.timeTraverse (s : State) : State :=
  if (s.tState = 1 ∨ s.tState = 2) ∧ (s.tRef = 1 ∨ s.tRef = 2) then
    { s.wr Reg.TIM_STATE_STATE 4 with time := { s.time with beforeTraverse := s.tState, travEpoch := s.epoch } }
  else s

/-- A Traverse begins at H (R393, R422, R425, R377). -/
def State.traverseStart (s : State) : State :=
  let e := s.epoch
  let s := mgmtPages.foldl (fun t p => (t.clearRegs false [.v] p).clearVolatile p) s
  let s := (s.recordReset 4 0).timeTraverse
  let s := (((s.wr Reg.BOOT_STAT_HEADLESS 1).wr Reg.BOOT_H_START_LO_EPOCH e).wr Reg.BOOT_H_START_HI_EPOCH (e / 2 ^ 32)).satp
    0x07 Reg.BOOT_TRAVERSES_COUNT 0
  { s with
    rst := { s.rst with headless := true }
    learn := { s.learn with held := true }
    boot := { s.boot with headlessAt := some s.ns, traverseDelayed := false, startDue := true, verified := false, copyTries := 0 } }

/-- A trigger of a Traverse (R392, R395, R427). -/
def State.traverseBegin (s : State) : State :=
  if s.rst.headless ∨ s.mode < 2 ∨ 5 < s.mode then s.trb 0x07 5
  else if s.rst.warm then s
  else if s.rdb Reg.SEC_STAT_COMMIT_BUSY then { s with boot := { s.boot with traverseDelayed := true } }
  else s.traverseStart

/-- The headless interval ends (R393, R394). -/
def State.headlessEnd (s : State) : State :=
  match s.boot.headlessAt with
  | none => s
  | some h =>
    let s := ((s.wr Reg.BOOT_STAT_HEADLESS 0).wr Reg.BOOT_H_LEN_US ((s.ns - h) / 1000)).evt 0x07 0
    { s with rst := { s.rst with headless := false }, boot := { s.boot with headlessAt := none } }

/-- The commit of BOOT_ACT: an active ARM of 1 starts a Traverse, and both copies clear (R395, R396). -/
def State.armCommit (s : State) : State :=
  if s.rdb Reg.BOOT_ACT_ARM then ((s.wr Reg.BOOT_ACT_ARM 0).dropStg 0x07 Reg.BOOT_ACT_ARM 0).traverseBegin else s

/-! ## Starts (R389, R390) -/

/-- A candidate: 0 staging, 1 A, 2 B (R405). -/
def State.candidate (s : State) (c : Nat) : Bytes :=
  bundleBytes (if c = 0 then s.boot.staging else if c = 1 then s.boot.partA else s.boot.partB)

/-- The check of a candidate at a start. -/
def State.candCode (s : State) (c : Nat) : Nat :=
  let b := s.candidate c
  s.verifyBundle b (c != 0 || buLen b == s.bootRec.stgLen)

/-- A refused candidate (R389). -/
def State.candRefused (s : State) (c : Nat) : State :=
  let s := (s.bootLast (s.candCode c) c true).trb 0x07 4
  if c = 0 then s.writeRec { s.bootRec with pending := false } else s

/-- A candidate runs: CORE0 executes it (R366, R389, R405). -/
def State.candRun (s : State) (c : Nat) (fallback : Bool) : State :=
  let b := s.candidate c
  let s := if fallback then s.wr Reg.BOOT_STAT_FALLBACK 1 else s
  let s := (((s.wr Reg.BOOT_STAT_SOURCE (if c = 0 then 2 else c - 1)).wr Reg.BOOT_RUN_VER_VERSION (leAt b 0x10 4)).wr
    Reg.BOOT_RUN_SVN_SVN (leAt b 0x14 1)).wr Reg.BOOT_RUN_SVN_SLOT (leAt b 0x15 1)
  { s.coreRun 0 with boot := { s.boot with verified := true, runHdr := b.take 0x180 } }

/-- Try candidates in order; `fallback` says that one has been refused. -/
def State.tryCands (l : List Nat) (s : State) (fallback : Bool) : State :=
  match l with
  | [] => { s.wr Reg.BOOT_STAT_SOURCE 3 with boot := { s.boot with runHdr := [] } }
  | c :: t => if s.candCode c = 0 then s.candRun c (fallback && c != 0) else State.tryCands t (s.candRefused c) true

/-- The mask ROM tries the candidates of R389. -/
def State.bootTry (s : State) : State :=
  State.tryCands (if s.bootRec.pending then [0, 1, 2] else [1, 2])
    { s with boot := { s.boot with startDue := false, copyTries := 0 } } false

/-- An accepted candidate: its interface versions, and its subordinate cores (R390). -/
def State.accepted (s : State) : State :=
  let h := s.boot.runHdr
  let s := ((s.wr Reg.FAB_IFV_IFV (leAt h 0x30 2)).wr Reg.FAB_IFV_MIN (leAt h 0x32 1)).fabChanged
  let s := [1, 2, 3].foldl (fun t c => t.wri Reg.MGT_CORE_c_STAT_STATE c 1) s
  { s with boot := { s.boot with verified := false } }

/-! ## The flash copy (R391) -/

/-- The second half begins: COPY_SA is written, and A is rewritten. -/
def State.copySaStart (s : State) : State :=
  let t := s.writeRec { s.bootRec with copyAB := false, copySA := true }
  { t with boot := { t.boot with partA := [], copyTries := 0 } }

/-- A copy begins, or resumes from the step that the flags name. -/
def State.copyStart (s : State) : State :=
  let s := s.wr Reg.BOOT_STAT_COPYING 1
  if s.bootRec.copySA then s.copySaStart
  else
    let s := s.writeRec { s.bootRec with copyAB := true, copySA := false }
    let code := s.verifyBundle (bundleBytes s.boot.partA) true
    if code = 0 ∨ code = 13 then { s with boot := { s.boot with partB := [], copyTries := 0 } } else s.copySaStart

/-- The half of a copy that runs has been written and read back. -/
def State.copyStep (s : State) (ok : Bool) : State :=
  if ok then
    if s.bootRec.copyAB then ({ s with boot := { s.boot with partB := s.boot.partA } }).copySaStart
    else
      let t := { s with boot := { s.boot with partA := s.boot.staging.take s.bootRec.stgLen, copyTries := 0 } }
      let t := t.writeRec { t.bootRec with pending := false, copyAB := false, copySA := false }
      ((t.wr Reg.BOOT_STAT_SOURCE 0).wr Reg.BOOT_STAT_COPYING 0).evt 0x07 2
  else
    let t := { s with boot := { s.boot with copyTries := s.boot.copyTries + 1 } }
    if 2 ≤ t.boot.copyTries then ((t.wr Reg.BOOT_STAT_COPYING 0).trb 0x07 7).evt 0x07 2 else t

/-! ## Trust (R397 to R402) -/

/-- A write of SEC_CMD.ATTEST (R399, R402). -/
def State.attest (s : State) : State :=
  if s.rdb Reg.SEC_STAT_ATT_BUSY then (s.wr Reg.SEC_STAT_ATT_STATUS 4).trb 0x06 3
  else if s.rst.headless then (s.wr Reg.SEC_STAT_ATT_STATUS 2).trb 0x06 3
  else
    let nonce := ((List.range 8).map (fun k => s.rdi Reg.SEC_ATT_NONCE_k k * 2 ^ (32 * k))).sum
    { s.wr Reg.SEC_STAT_ATT_BUSY 1 with sec := { s.sec with nonce := nonce, attRestarted := false, attDirty := false } }

/-- A measurement record (R401). -/
def measure (kind sub_ index gen : Nat) (digest : Bytes) : Bytes :=
  toLe 1 kind ++ toLe 1 sub_ ++ toLe 2 index ++ toLe 2 gen ++ zeros 10 ++ padTo 48 digest

/-- Records of KIND 1: the images as loaded, and the header. -/
def State.firmwareRecords (s : State) : List Bytes :=
  if s.boot.runHdr.isEmpty then []
  else (List.range 4).map (fun c => measure 1 c 0 0 (imageAt s.boot.runHdr c).digest)
    ++ [measure 1 4 0 0 (shaBytes (Config.sha384 s.boot.runHdr))]

/-- The record of an active bank that holds an artifact. -/
def bankRecord {α : Type} (type subject : Nat) (b : Bank α) : List Bytes :=
  if b.gen = 0 then [] else [measure 2 type subject b.gen (shaBytes b.digest)]

/-- Records of KIND 2, by type and SUBJECT. -/
def State.artifactRecords (s : State) : List Bytes :=
  let k := s.banks
  bankRecord 1 0 k.parse.active ++ (numbered k.sets).flatMap (fun x => bankRecord 2 x.1 x.2.active) ++ bankRecord 3 0 k.tmpl.active
    ++ bankRecord 4 0 k.lpm.active ++ k.cals.flatMap (fun x => bankRecord 6 x.1 x.2.active)
    ++ k.cycs.flatMap (fun x => bankRecord 7 x.1 x.2.active) ++ bankRecord 9 0 k.frt.active ++ bankRecord 10 0 k.fmc.active
    ++ bankRecord 11 0 k.plan.active

/-- The active values of a page's RWS fields as dwords, by offset; TIMB and TIMC show TIMA's (R62). -/
def State.rwsDwords (s : State) (p : Nat) : SMap Nat :=
  ((pageFields p).filter (fun f => f.acc == .rws)).foldl (fun m f => f.instances.foldl (fun m i =>
    let o := f.off + f.stride * i
    let v := s.rdp (if p = 0x11 ∨ p = 0x12 then 0x10 else p) f i * 2 ^ f.lo
    let m := m.insert o (m.get 0 o + v % 2 ^ 32)
    if 32 ≤ f.hi then m.insert (o + 4) (m.get 0 (o + 4) + v / 2 ^ 32) else m) m) []

/-- Records of KIND 3: every page with staged fields (R401). -/
def State.configRecords (s : State) : List Bytes :=
  (allPages.filter hasStaged).map (fun p =>
    measure 3 0 p 0 (shaBytes (Config.sha384 (dwords ((s.rwsDwords p).map Prod.snd)))))

/-- The attestation report (R400). -/
def State.report (s : State) : Bytes :=
  let sel := s.rd Reg.SEC_ATT_SEL_SEL
  let recs := ((if bitN sel 0 = 1 then s.firmwareRecords else []) ++ (if bitN sel 1 = 1 then s.artifactRecords else [])
    ++ (if bitN sel 2 = 1 then s.configRecords else [])).take 1024
  let n := 5504 + 64 * recs.length
  let body := [0x43, 0x59, 0x47, 0x54] ++ toLe 2 0x0100 ++ toLe 2 recs.length ++ toLe 4 n ++ toLe 4 0x256000B0 ++ toLe 32 s.sec.nonce
    ++ unitBytes ++ toLe 12 (time96 s.sub) ++ toLe 6 s.epoch ++ toLe 1 s.rollLevel ++ toLe 1 s.revoked ++ toLe 1 sel
    ++ toLe 1 (s.rd Reg.BOOT_STAT_SOURCE) ++ zeros 42 ++ padTo 32 Config.ed25519Identity ++ padTo 1952 Config.mlDsa65Identity
    ++ recs.flatten
  let m := shaBytes (Config.sha384 body)
  padTo n (body ++ padTo 64 (Config.ed25519Sign m) ++ padTo 3309 (Config.mlDsa65Sign m))

/-- The report is built: written, or refused; a commit during the build restarts it once (R399, R402). -/
def State.attestEnd (s : State) (dmaOk : Bool) : State :=
  if s.sec.attDirty ∧ ¬ s.sec.attRestarted then
    { s with sec := { s.sec with attDirty := false, attRestarted := true } }
  else
    let s := s.wr Reg.SEC_STAT_ATT_BUSY 0
    let r := s.report
    if s.rd Reg.SEC_ATT_LEN_BYTES < r.length then (s.wr Reg.SEC_STAT_ATT_STATUS 1).trb 0x06 3
    else if ¬ dmaOk ∨ ¬ s.dmaOk then (s.wr Reg.SEC_STAT_ATT_STATUS 3).trb 0x06 3
    else (s.wr Reg.SEC_STAT_ATT_STATUS 0).emit (.hostWrite (s.rd Reg.SEC_ATT_ADDR) r)

/-- A write of SEC_CMD.COMMIT (R398). -/
def State.fuseCommit (s : State) : State :=
  if s.rdb Reg.SEC_STAT_COMMIT_BUSY then s
  else if s.rd Reg.BOOT_STAT_SOURCE = 0 ∧ ¬ s.rdb Reg.BOOT_STAT_COPYING ∧ ¬ s.rst.headless then s.wr Reg.SEC_STAT_COMMIT_BUSY 1
  else (s.wr Reg.SEC_STAT_COMMIT_STATUS 2).trb 0x06 4

/-- The burn ends (R398). What burned before a failure no rule states: free values (log entry 28). -/
def State.fuseBurned (s : State) (ok : Bool) : State :=
  let need := s.rd Reg.BOOT_RUN_SVN_SVN - s.rollLevel
  let revoke := setBit (leAt s.boot.runHdr 0x16 1 % 16) (s.rd Reg.BOOT_RUN_SVN_SLOT) false
  let s := s.wr Reg.SEC_STAT_COMMIT_BUSY 0
  let s := if ok then
      { s.wr Reg.SEC_STAT_COMMIT_STATUS 0 with sec := { s.sec with burned := s.sec.burned + need, revoked := s.sec.revoked ||| revoke } }
    else
      let t := { s.draw with sec := { s.sec with
        burned := s.sec.burned + s.freeNat % (need + 1), revoked := s.sec.revoked ||| (revoke &&& (s.freeNat / 256)) } }
      (t.wr Reg.SEC_STAT_COMMIT_STATUS 3).trb 0x06 4
  if s.boot.traverseDelayed then ({ s with boot := { s.boot with traverseDelayed := false } }).traverseBegin else s

/-- A read of SEC_FUSE_DATA (R403). -/
def State.fuseTake (s : State) : Nat × State :=
  let i := s.rd Reg.SEC_FUSE_IDX_IDX
  (s.fuseDword i, s.wr Reg.SEC_FUSE_IDX_IDX (i + 1))

/-! ## Meanings -/

/-- TDM_STAGE_FW (R196, R388). -/
def execTdmStageFw (r : HostRead) (s : State) : Host.Outcome State Fault Refusal :=
  .next (s.tdmWith 6 (fun t d => t.tdmStageOp r d))

/-- BOOT_START: the mask ROM on CORE0 tries the candidates (R389). -/
def execBootStart (s : State) : Host.Outcome State Fault Refusal :=
  .next (if s.boot.startDue ∧ s.domainUp 1 ∧ ¬ s.rst.warm ∧ s.coreState 0 = 0 then s.bootTry else s)

/-- CANDIDATE_ACCEPTED (R390). -/
def execCandidateAccepted (s : State) : Host.Outcome State Fault Refusal :=
  .next (if s.boot.verified ∧ s.coreState 0 = 2 then s.accepted else s)

/-- FLASH_COPY: the copy begins, or its running half ends, with the outcome of its verification (R391). -/
def execFlashCopy (verifyOk : Bool) (s : State) : Host.Outcome State Fault Refusal :=
  .next (if s.rd Reg.BOOT_STAT_SOURCE = 2 ∧ ¬ s.rst.headless ∧ s.coreState 0 = 2 ∧ s.boot.copyTries < 2 then
      if s.rdb Reg.BOOT_STAT_COPYING then s.copyStep verifyOk else s.copyStart
    else s)

/-- BOOT_TRAVERSE: by the host or CORE0 (R392). -/
def execBootTraverse (m : Master) (s : State) : Host.Outcome State Fault Refusal :=
  .next (s.onWrite m 0x07 0x100 (fun t => if m = .host ∨ m = .core0 then t.traverseBegin else t))

/-- BOOT_LIVE: by CORE0 alone (R394, R405). -/
def execBootLive (m : Master) (s : State) : Host.Outcome State Fault Refusal :=
  .next (s.onWrite m 0x07 0x100 (fun t => if m = .core0 then t.headlessEnd else t))

/-- HEADLESS_TIMEOUT: H + 2 s (R394). -/
def execHeadlessTimeout (s : State) : Host.Outcome State Fault Refusal :=
  .next (match s.boot.headlessAt with
    | some h => if h + 2000000000 ≤ s.ns then ((s.wr Reg.BOOT_STAT_LATE_LIVE 1).trb 0x07 6).headlessEnd else s
    | none => s)

/-- A write of BOOT_CMD.UNSTAGE (R388, R395). -/
def State.unstage (s : State) : State :=
  if s.rdb Reg.BOOT_STAT_COPYING then s.trb 0x07 3
  else if s.bootRec.pending then s.writeRec { s.bootRec with pending := false } else s

/-- BOOT_UNSTAGE (R388). -/
def execBootUnstage (m : Master) (s : State) : Host.Outcome State Fault Refusal :=
  .next (s.onWrite m 0x07 0x100 State.unstage)

/-- SEC_ATTEST (R399, R402). -/
def execSecAttest (m : Master) (s : State) : Host.Outcome State Fault Refusal := .next (s.onWrite m 0x06 0x100 State.attest)

/-- ATTEST_DONE (R399 to R402). -/
def execAttestDone (dmaOk : Bool) (s : State) : Host.Outcome State Fault Refusal :=
  .next (if s.rdb Reg.SEC_STAT_ATT_BUSY then s.attestEnd dmaOk else s)

/-- SEC_COMMIT (R398). -/
def execSecCommit (m : Master) (s : State) : Host.Outcome State Fault Refusal := .next (s.onWrite m 0x06 0x100 State.fuseCommit)

/-- COMMIT_DONE (R398, R427). -/
def execCommitDone (ok : Bool) (s : State) : Host.Outcome State Fault Refusal :=
  .next (if s.rdb Reg.SEC_STAT_COMMIT_BUSY then s.fuseBurned ok else s)

/-- SEC_FUSE_READ (R403, R404). -/
def execSecFuseRead (m : Master) (s : State) : Host.Outcome State Fault Refusal := .next (s.onRead m 0x06 0x164 State.fuseTake)

/-- WATCHDOG_EXPIRE: CORE1 to CORE3 fault and are reloaded by CORE0; CORE0's starts a Traverse (R366, R367). -/
def execWatchdogExpire (core : Nat) (s : State) : Host.Outcome State Fault Refusal :=
  .next (if core < 4 ∧ s.wdogDue core then
      if core = 0 then (s.trb 0x0A 4).traverseBegin
      else
        let t := (s.trb 0x0A 3).wri Reg.MGT_CORE_c_STAT_STATE core 4
        if t.coreState 0 = 2 then t.coreReload core else t
    else s)

end Sys2Proof.Machine
end

