-- ==== Sys2Proof/Machine/Fabric.lean ====
section
/-! DEFINITION. Fabric: cells, routes, VOQ streams, reassembly, relays, multicast and end-to-end credits (R299 to R313). -/
namespace Sys2Proof.Machine

/-! ## Cell headers (R299, R300) -/

/-- A data or control cell: byte 0, hops, parity, DEST or GROUP, SRC, FLOW_PIN, SEQ, FIRST_OFS, payload. -/
def dataCell (b0 hops parity dest src pin seq first : Nat) (payload : Bytes) : Bytes :=
  withCrc (toBe 1 b0 ++ toBe 1 (hops * 64 + parity * 32) ++ toBe 2 dest ++ toBe 2 src ++ toBe 2 pin ++ toBe 3 seq ++ toBe 1 first)
    payload

/-- Fields of a cell header. -/
def cKind (b : Bytes) : Nat := beAt b 0 1 / 64
def cClass (b : Bytes) : Nat := beAt b 0 1 / 8 % 8
def cPoison (b : Bytes) : Bool := bitN (beAt b 0 1) 2 == 1
def cEnd (b : Bytes) : Bool := bitN (beAt b 0 1) 1 == 1
def cSubtype (b : Bytes) : Nat := beAt b 0 1 % 64
def cHops (b : Bytes) : Nat := beAt b 1 1 / 64
def cParity (b : Bytes) : Nat := beAt b 1 1 / 32 % 2
def cDest (b : Bytes) : Nat := beAt b 2 2 % 2 ^ 13
def cGroup (b : Bytes) : Nat := beAt b 2 2
def cSrc (b : Bytes) : Nat := beAt b 4 2 % 2 ^ 13
def cPin (b : Bytes) : Nat := beAt b 6 2
def cSeq (b : Bytes) : Nat := beAt b 8 3
def cFirst (b : Bytes) : Nat := beAt b 11 1
def cPayload (b : Bytes) : Bytes := b.drop 16

/-- A cell with other HOPS and its CRC made again (R305). -/
def withHops (b : Bytes) (h : Nat) : Bytes :=
  withCrc (putAt (b.take 12) 1 (toBe 1 (beAt b 1 1 % 64 + h * 64))) (cPayload b)

/-! ## Banks by parity (R77) -/

/-- The bank whose generation has a parity: the active, the retiring or a staged one; before any commit the empty active
bank serves every cell (R319). -/
def Banked.ofParity {α : Type} (b : Banked α) (parity : Nat) : Option α :=
  if b.active.gen = 0 ∨ b.active.gen % 2 = parity then some b.active.body
  else match b.retiring, b.staged with
    | some (r, _), _ => if r.gen % 2 = parity then some r.body else (b.staged.bind (fun x => if x.gen % 2 = parity then some x.body else none))
    | none, some x => if x.gen % 2 = parity then some x.body else none
    | none, none => none

/-! ## Routes (R304, R305) -/

/-- A cell dropped under R305: KIND of FRT_LAST_ERR, trouble counter, DEST. -/
def State.routeDrop (s : State) (kind k dest : Nat) : State :=
  (((s.trb 0x71 k).stat 0x71 Reg.FRT_DROPS 0 1).wr Reg.FRT_LAST_ERR_KIND kind).wr Reg.FRT_LAST_ERR_DEST dest |>.evt 0x71 0

/-- The link of a cell among the slots of its entry: the one wanted, or the next that is UP, and whether it fell back. -/
def State.slotLink (s : State) (e want count : Nat) : Option (Nat × Bool) :=
  (List.range count).findSome? (fun i =>
    let k := (want + i) % count
    let n := bits e (6 * k + 5) (6 * k)
    if s.linkIsUp n then some (n, i != 0) else none)

/-- Route a unicast or control cell of this device (`own`) or of another (R305). -/
def State.route' (s : State) (bad : List BadCell) (own : Bool) (b : Bytes) : State × Option Nat :=
  let dest := cDest b
  match s.banks.frt.ofParity (cParity b) with
  | none => (s.routeDrop 3 5 dest, none)
  | some body =>
    let e := body.getD dest 0
    let count := bits e 100 96
    if badCell bad .route 0 dest then
      ((((s.parityError 0x71 8 1).stat 0x71 Reg.FRT_DROPS 0 1).wr Reg.FRT_LAST_ERR_KIND 5).wr Reg.FRT_LAST_ERR_DEST dest |>.evt 0x71 0, none)
    else if count = 0 ∨ body.length ≤ dest then (s.routeDrop 1 3 dest, none)
    else if ¬ own ∧ 2 ≤ cHops b then (s.routeDrop 2 4 dest, none)
    else
      match s.slotLink e (if own then cPin b * count / 65536 else 0) count with
      | none => (s.routeDrop 4 7 dest, none)
      | some (n, back) => (if back then s.trb 0x71 6 else s, some n)

/-- A cell of this device leaves by its route (R305). -/
def State.originate (s : State) (bad : List BadCell) (b : Bytes) : State :=
  match (s.stat 0x71 Reg.FRT_ORIG 0 1).route' bad true b with
  | (s, some n) => s.sendOwn n b
  | (s, none) => s

/-- The parity of the active route table (R12, R76). -/
def State.frtParity (s : State) : Nat := s.banks.frt.active.gen % 2

/-- A fabric control cell of this device (R300). -/
def State.sendControl (s : State) (subtype dest : Nat) (payload : Bytes) : State :=
  s.originate [] (dataCell (0x80 + subtype) 0 s.frtParity dest s.devId 0 0 0 payload)

/-! ## Forwarding metadata (R301) -/

/-- The IN_SPEED code of a speed in Gb/s. -/
def speedCode (n : Nat) : Nat :=
  if n = 10 then 0 else if n = 25 then 1 else if n = 50 then 2 else if n = 100 then 3 else if n = 200 then 4
  else if n = 400 then 5 else if n = 800 then 6 else 7

/-- The speed of an IN_SPEED code in Gb/s. -/
def codeSpeed (n : Nat) : Nat := [10, 25, 50, 100, 200, 400, 800, 1600].getD n 1600

/-- The forwarding metadata of a packet (R301). -/
def metaBytes (p : Packet) (len : Nat) (ct : Bool) (port cls charge : Nat) : Bytes :=
  toBe 2 (len % 2 ^ 14 + b01 ct * 2 ^ 14 + b01 p.d.tmpl.isSome * 2 ^ 15) ++ toBe 1 port ++ toBe 1 p.port ++ toBe 2 p.d.metadata
    ++ toBe 1 (cls % 8 + p.d.color % 4 * 8 + (if p.port < 128 then speedCode p.inSpeed else 7) * 32)
    ++ toBe 1 (charge % 4 + b01 p.tos.isSome * 4 + b01 p.dport.isSome * 8 + b01 p.d.adj.isSome * 16 + b01 p.tcOpen * 32)
    ++ toBe 1 (p.tos.getD 0) ++ toBe 1 (p.proto.getD 0) ++ toBe 2 (p.dport.getD 0)
    ++ toBe 4 (p.d.adj.getD 0 % 2 ^ 18 + p.d.tmpl.getD 0 % 2 ^ 12 * 2 ^ 18)

/-- Units of 256 bytes that a buffer of a pool charges (R311). -/
def chargeUnits (pool : Nat) : Nat := [1, 4, 16, 64].getD pool 64

/-- LEN, CT and the charge code of a metadata. -/
def mLen (m : Bytes) : Nat := beAt m 0 2 % 2 ^ 14
def mCt (m : Bytes) : Bool := bitN (beAt m 0 2) 14 == 1
def mCharge (m : Bytes) : Nat := beAt m 7 1 % 4

/-- The packet that arrives with a metadata, from a device, as a unicast or as one of a group. The fabric carries neither
L3_OFS nor the low half of the flow hash: free values (log entry 23). -/
def State.arrivalPacket (s : State) (src pin : Nat) (group : Option Nat) (m data : Bytes) (tail bad : Bool) : State × Packet :=
  let ipv := bitN (beAt m 7 1) 2 = 1
  let d : Decision :=
    { Decision.start (beAt m 6 1 % 8) (beAt m 4 2) (if bitN (beAt m 0 2) 15 = 1 then some (bits (beAt m 12 4) 29 18) else none)
        (beAt m 6 1 / 8 % 4) with
      destKind := if group.isSome then 4 else 3, dest := match group with | some g => g | none => s.sysPort (beAt m 2 1)
      adj := if bitN (beAt m 7 1) 4 = 1 then some (bits (beAt m 12 4) 17 0) else none }
  let p : Packet :=
    { pid := s.path.nextPid, bytes := data, plen := if tail then some data.length else none, port := beAt m 3 1, mport := beAt m 3 1,
      pass := 0, gens := Gens.none, start2 := 0, parse := ParseRes.empty, d := d,
      hash := pin * 65536 + s.freeNat % 65536, l3ofs := s.freeNat / 65536 % (mLen m + 1),
      tos := if ipv then some (beAt m 8 1) else none, proto := if ipv then some (beAt m 9 1) else none,
      dport := if bitN (beAt m 7 1) 3 = 1 then some (beAt m 10 2) else none, trx := 0, tcOpen := bitN (beAt m 7 1) 5 == 1,
      tailDone := tail, bad := bad, crc := 0, rxLen := 0, cls0 := beAt m 6 1 % 8, fixLater := none, alloc := mLen m + 32,
      inSpeed := codeSpeed (beAt m 6 1 / 32), reason := 0, srcDev := src, pipe := 0, standby := false }
  ({ s.draw with path := { s.path with nextPid := s.path.nextPid + 1 } }, p)

/-! ## Credits at the destination (R224, R312) -/

/-- The key of a source and class. -/
def pairKey (src cls : Nat) : Nat := 8 * src + cls

/-- OUT(s, c) (R312). -/
def State.outOf (s : State) (k : Nat) : Int :=
  toSigned 32 (ofSigned 32 ((s.fab.g.get 0 k : Int) - s.fab.chRec.get 0 k - s.fab.ret.get 0 k))

/-- OUT summed over the sources of a class. -/
def State.outSum (s : State) (c : Nat) : Int :=
  ((s.fab.g.filter (fun e => e.1 % 8 == c)).map (fun e => s.outOf e.1)).sum

/-- The reserve of class c in bytes (R224). -/
def State.rsv (s : State) (c : Nat) : Nat := s.rdi Reg.ADM_FAB_c_RSV c * 1024

/-- A POISON drop or stomp at this device (R229). -/
def State.poisonCount (s : State) : State := (s.stat 0x51 Reg.ADM_POISON_DROP 0 1).trb 0x51 7

/-- The copies of a fabric arrival (R308, R235): of a unicast packet the one to its port, of a multicast packet one to each
local port of the tree. -/
def State.arrivalLegs (s : State) (p : Packet) (tree : Option Tree) : State × List Leg :=
  match tree with
  | none => s.keptLegs [] p
  | some t =>
    let l := (s.treePorts t none).map (fun q => Leg.egress q p.d.cls none)
    (s.stat 0x7A Reg.FMC_LOCAL 0 l.length, l)

/-- Admission of a fabric arrival (R219, R220, R224, R226, R228, R313). The second part is its buffer. -/
def State.admitArrival (s : State) (p : Packet) (charge : Nat) (tree : Option Tree) : State × Option Nat :=
  let c := p.d.cls
  let n := chargeUnits charge * 256
  let out : Int := if tree.isSome then s.outSum c * 256 else 0
  if ¬ s.blkEn 0x51 then (s.trb 0x00 4, none)
  else if tree.isNone ∧ s.noDest p then (s.trb 0x51 9, none)
  else if (s.rsv c : Int) < (s.buf.focc.get 0 c : Int) + out + n then ((s.trb 0x51 7).evt 0x51 0, none)
  else
    match s.allocate p.alloc with
    | (s, none) => (s, none)
    | (s, some k) =>
      match s.takeDesc with
      | (t, false) => (t.giveBack k.1 k.2, none)
      | (t, true) =>
        let r := t.newBuffer k p true p.port c n
        if p.tailDone then
          let l := r.1.arrivalLegs p tree
          (l.1.dispatchLegs r.2 p l.2 false, some r.2)
        else
          let l := r.1.arrivalLegs p tree
          if tree.isNone ∧ r.1.mayCut p l.2 then ((l.1.dispatchLegs r.2 p l.2 true).stat 0x51 Reg.ADM_CUT 0 1, some r.2)
          else (r.1, some r.2)

/-- A data packet's charge is recorded for its source (R312). -/
def State.recordCharge (s : State) (k units : Nat) : State :=
  { s with fab := { s.fab with chRec := s.fab.chRec.set 0 k ((s.fab.chRec.get 0 k + units) % 2 ^ 32) } }

/-- A whole unicast packet has been reassembled; a poisoned one is dropped (R229, R309). -/
def State.arriveWhole (s : State) (src cls pin : Nat) (bad : Bool) (m data : Bytes) : State :=
  let s := s.recordCharge (pairKey src cls) (chargeUnits (mCharge m))
  if bad then s.poisonCount
  else
    let r := s.arrivalPacket src pin none m data true false
    (r.1.admitArrival r.2 (mCharge m) none).1

/-- The head of a cut-through packet has arrived (R228). -/
def State.ctHead (s : State) (src cls pin : Nat) (m data : Bytes) : State × Option Nat :=
  let s := s.recordCharge (pairKey src cls) (chargeUnits (mCharge m))
  let r := s.arrivalPacket src pin none m data false false
  r.1.admitArrival r.2 (mCharge m) none

/-- The end of a cut-through arrival: its tail, a poisoned tail, or the loss of a cell (R229, R310). -/
inductive CtEnd where
  | good | poison | lost
  deriving DecidableEq, Repr

/-- A cut-through arrival ends with these bytes (R228, R229, R310). -/
def State.ctTail (s : State) (bid : Nat) (data : Bytes) (e : CtEnd) : State :=
  match s.buffer bid with
  | none => s
  | some b =>
    let p := { b.pkt with bytes := data, plen := some data.length, tailDone := true, bad := e != .good }
    let s := s.setBuffer { b with pkt := p }
    match s.cutPort bid with
    | some port => s.finishCut port (e == .poison)
    | none =>
      let s := if e = .poison then s.poisonCount else s
      if b.refs = 0 then
        if e = .good then s.dispatch [] bid p else (s.giveDesc 1).freeBuffer { b with pkt := p }
      else if e = .good then s else s.unqueue bid

/-! ## Reassembly (R302, R309, R310) -/

/-- A context that has seen nothing. -/
def Reasm.initial : Reasm := { expect := 0, held := [], gapAt := none, stream := [], skipping := false, ct := none }

/-- The context of a source and class. -/
def State.ctx (s : State) (k : Nat) : Reasm := s.fab.reasm.get Reasm.initial k

/-- Replace it. -/
def State.setCtx (s : State) (k : Nat) (r : Reasm) : State :=
  { s with fab := { s.fab with reasm := s.fab.reasm.set Reasm.initial k r } }

/-- Whole packets at the front of a stream, as metadata and data, and what is left of it: nothing after padding (R302). -/
def splitStream (fuel : Nat) (b : Bytes) : List (Bytes × Bytes) × Bytes :=
  match fuel with
  | 0 => ([], b)
  | k + 1 =>
    if b.length < 2 ∨ mLen b = 0 then ([], [])
    else if b.length < 16 ∨ mCt b ∨ b.length < 16 + mLen b then ([], b)
    else
      let r := splitStream k (b.drop (16 + mLen b))
      ((b.take 16, sl b 16 (mLen b)) :: r.1, r.2)

/-- A packet discarded in reassembly (R310). -/
def State.reasmDrop (s : State) : State := (s.stat 0x7B Reg.FCR_REASM_DROPS 0 1).trb 0x7B 4

/-- A cell of a cut-through packet in progress. -/
def State.ctCell (s : State) (b : Bytes) (r : Reasm) (bid : Option Nat) : State × Reasm :=
  let pl := cPayload b
  if cEnd b then
    let data := (r.stream ++ pl.take 238).take (beAt pl 238 2)
    (match bid with
      | some x => s.ctTail x data (if cPoison b then .poison else .good)
      | none => s, { r with stream := [], ct := none })
  else
    let data := r.stream ++ pl
    (match bid.bind (fun x => s.buffer x) with
      | some x => s.setBuffer { x with pkt := { x.pkt with bytes := data } }
      | none => s, { r with stream := data })

/-- The head of a cut-through packet at the front of the stream. -/
def State.ctStart (s : State) (src cls : Nat) (b : Bytes) (r : Reasm) : State × Reasm :=
  let m := r.stream.take 16
  if cEnd b then
    let data := (r.stream.drop 16).take (beAt (cPayload b) 238 2)
    let t := s.ctHead src cls (cPin b) m data
    (match t.2 with
      | some x => t.1.ctTail x data (if cPoison b then .poison else .good)
      | none => t.1, { r with stream := [] })
  else
    let t := s.ctHead src cls (cPin b) m (r.stream.drop 16)
    (t.1, { r with stream := r.stream.drop 16, ct := some t.2 })

/-- The expected cell of a context is taken in (R302, R309, R310). -/
def State.consume (s : State) (src cls : Nat) (b : Bytes) (r : Reasm) : State × Reasm :=
  let r := { r with expect := (r.expect + 1) % 2 ^ 24 }
  if r.skipping ∧ cFirst b = 0xFF then (s, r)
  else
    let data := if r.skipping then (cPayload b).drop (cFirst b) else cPayload b
    let r := if r.skipping then { r with skipping := false, stream := [] } else r
    match r.ct with
    | some bid => s.ctCell b r bid
    | none =>
      let x := splitStream 32 (r.stream ++ data)
      let last := cPoison b && x.2.isEmpty
      let s := x.1.dropLast.foldl (fun t y => t.arriveWhole src cls (cPin b) false y.1 y.2) s
      let s := match x.1.getLast? with
        | some y => s.arriveWhole src cls (cPin b) last y.1 y.2
        | none => s
      let r := { r with stream := x.2 }
      if 16 ≤ x.2.length ∧ mCt x.2 then s.ctStart src cls b r
      else if cPoison b ∧ ¬ x.2.isEmpty then
        (if 16 ≤ x.2.length then s.arriveWhole src cls (cPin b) true (x.2.take 16) [] else s.poisonCount, { r with stream := [] })
      else (s, r)

/-- How far one SEQ lies ahead of another. -/
def seqAhead (a b : Nat) : Nat := (a + 2 ^ 24 - b) % 2 ^ 24

/-- Take in held cells while the expected one is held. -/
def State.runHeld (fuel : Nat) (s : State) (src cls : Nat) (r : Reasm) : State × Reasm :=
  match fuel with
  | 0 => (s, r)
  | k + 1 =>
    match r.held.lookup r.expect with
    | none => (s, { r with gapAt := if r.held.isEmpty then none else some s.ns })
    | some b =>
      let t := s.consume src cls b { r with held := r.held.erase r.expect }
      State.runHeld k t.1 src cls t.2

/-- The held cell nearest to the expected one. -/
def Reasm.nextHeld (r : Reasm) : Option (Nat × Bytes) :=
  r.held.foldl (fun a e => match a with
    | some x => if seqAhead e.1 r.expect < seqAhead x.1 r.expect then some e else some x
    | none => some e) none

/-- The expected cells up to the next one held are lost (R309, R310). -/
def State.loseGap (s : State) (src cls : Nat) (r : Reasm) : State × Reasm :=
  match r.nextHeld with
  | none => (s, r)
  | some (seq, b) =>
    let n := seqAhead seq r.expect
    let s := (s.stat 0x7B Reg.FCR_LOST_CELLS 0 n).trbN 0x7B 3 n
    let open_ := !r.stream.isEmpty || r.ct.isSome
    let need := if r.ct.isSome then 2 ^ 24 else if 2 ≤ r.stream.length then 16 + mLen r.stream - r.stream.length else 0
    let s := match r.ct with
      | some (some bid) => s.ctTail bid r.stream .lost
      | _ => s
    let s := if open_ then s.reasmDrop else s
    let s := if cFirst b ≠ 0 ∧ (¬ open_ ∨ need ≤ 240 * n) then s.reasmDrop else s
    State.runHeld r.held.length s src cls { r with expect := seq, stream := [], skipping := cFirst b != 0, ct := none, gapAt := none }

/-- Cells in the reorder store (R309, R318). -/
def State.storeUsed (s : State) : Nat := (s.fab.reasm.map (fun e => e.2.held.length)).sum

/-- A unicast cell for this device (R309). -/
def State.unicastIn (s : State) (b : Bytes) : State :=
  let src := cSrc b
  let cls := cClass b
  let k := pairKey src cls
  let r := s.ctx k
  let a := seqAhead (cSeq b) r.expect
  if 4096 ≤ a then s.trb 0x7B 8
  else if a = 0 then
    let t := s.consume src cls b r
    let u := State.runHeld t.2.held.length t.1 src cls t.2
    let u := if u.2.held.isEmpty then (u.1, { u.2 with gapAt := none }) else u
    u.1.setCtx k u.2
  else if (r.held.lookup (cSeq b)).isSome then s
  else if 16384 ≤ s.storeUsed then s.trb 0x7B 5
  else
    let r := { r with held := r.held.insert (cSeq b) b, gapAt := some (r.gapAt.getD s.ns) }
    if s.rd Reg.FCR_REORDER_NS = 0 then
      let t := s.loseGap src cls r
      t.1.setCtx k t.2
    else s.setCtx k r

/-- REORDER_TIMEOUT: the expected cell has been missing for FCR_REORDER.NS (R309, R310). -/
def execReorderTimeout (src cls : Nat) (s : State) : Host.Outcome State Fault Refusal :=
  let k := pairKey src cls
  let r := s.ctx k
  .next (match r.gapAt with
    | some t => if cls < 8 ∧ t + s.rd Reg.FCR_REORDER_NS ≤ s.ns then
        let u := s.loseGap src cls r
        u.1.setCtx k u.2
      else s
    | none => s)

/-! ## Multicast arrivals (R308) -/

/-- The context key of an arrival link, VC and class. -/
def mcKey (link vc cls : Nat) : Nat := (link * 3 + vc) * 8 + cls

/-- A multicast cell of a context: packets are whole between SEQ 0 and the cell that completes LEN (R308). -/
def State.multicastLocal (s : State) (n : Nat) (b : Bytes) (t : Tree) : State :=
  let k := mcKey n (min 2 (cHops b)) (cClass b)
  let r := s.fab.mreasm.get Reasm.initial k
  let put := fun (s : State) (r : Reasm) => { s with fab := { s.fab with mreasm := s.fab.mreasm.set Reasm.initial k r } }
  let s := if cSeq b = 0 ∧ ¬ r.stream.isEmpty then s.reasmDrop else s
  if cSeq b ≠ 0 ∧ (r.stream.isEmpty ∨ cSeq b ≠ r.expect) then
    put (if r.stream.isEmpty then s else s.reasmDrop) Reasm.initial
  else
    let data := (if cSeq b = 0 then [] else r.stream) ++ cPayload b
    if cPoison b then put s.poisonCount Reasm.initial
    else if data.length < 16 + mLen data then put s { Reasm.initial with expect := cSeq b + 1, stream := data }
    else
      let p := s.arrivalPacket (cSrc b) 0 (some (cGroup b)) (data.take 16) (sl data 16 (mLen data)) true false
      put (p.1.admitArrival p.2 (mCharge data) (some t)).1 Reasm.initial

/-- A relayed cell is put into the relay buffer of its arrival link (R306). -/
def State.relayPut (s : State) (n : Nat) (b : Bytes) (outs : List Nat) : State :=
  if outs.isEmpty then s.freeSlot n (min 2 (cHops b))
  else
    let c : RelayCell := { bytes := withHops b (cHops b + 1), inLink := n, vc := min 2 (cHops b), outs := outs }
    s.setLink n { s.link n with relay := (s.link n).relay ++ [c] }

/-- A multicast cell arrives (R77, R308). -/
def State.multicastIn (s : State) (bad : List BadCell) (n : Nat) (b : Bytes) : State :=
  let g := cGroup b
  let vc := min 2 (cHops b)
  match s.banks.fmc.ofParity (cParity b) with
  | none => (s.routeDrop 3 5 g).freeSlot n vc
  | some body =>
    match s.treeIn bad body g with
    | (s, none) => (if cSeq b = 0 then s.fmcCount 6 g else s).freeSlot n vc
    | (s, some t) =>
      let s := if t.links.contains n then s.fmcCount 3 g else s
      let stop := decide (2 ≤ cHops b) && !t.links.isEmpty
      let s := if stop then s.fmcCount 5 g else s
      let outs := if stop then [] else (t.links.filter (fun l => l != n && s.linkIsUp l))
      let s := s.stat 0x7A Reg.FMC_REPL 0 outs.length
      let s := if t.ports.isEmpty then s else s.multicastLocal n b t
      s.relayPut n b outs

/-! ## Credits (R311, R312) -/

/-- Buffer bytes that wait in a VOQ. -/
def State.voqBytes (s : State) (v : Nat) : Nat :=
  ((s.voqOf v).map (fun e => match s.buffer e.bid with | some b => bufSize b.pool | none => 0)).sum

/-- A REQUEST cell with the current cumulative values (R300, R311). -/
def State.sendRequest (s : State) (v backlog : Nat) : State :=
  s.sendControl 1 (v / 8) (toBe 1 (v % 8) ++ toBe 3 backlog ++ toBe 4 (s.fab.gSeen.get 0 v) ++ toBe 4 (s.fab.charged.get 0 v)
    ++ toBe 4 (s.fab.returned.get 0 v) ++ toBe 3 (s.fab.seqAt.get 0 v))

/-- The backlog of a VOQ in KiB, rounded up. -/
def State.voqBacklog (s : State) (v : Nat) : Nat := (s.voqBytes v + 1023) / 1024

/-- The first REQUEST of a VOQ that cannot send; later ones wait for the retry (R311). -/
def State.firstRequest (s : State) (v : Nat) : State :=
  if s.fab.reqAt.get 0 v = 0 then
    let t := s.sendRequest v (s.voqBacklog v)
    { t with fab := { t.fab with reqAt := t.fab.reqAt.set 0 v (t.ns + 1) } }
  else s

/-- The reassembly of a source and class has passed a SEQ. -/
def State.passedSeq (s : State) (k seq : Nat) : Bool := decide (seqAhead ((s.ctx k).expect + 2 ^ 24 - 1) seq < 2 ^ 23)

/-- A GRANT cell (R300, R312). -/
def State.sendGrant (s : State) (src c : Nat) : State :=
  (s.sendControl 2 src (toBe 1 c ++ zeros 3 ++ toBe 4 (s.fab.g.get 0 (pairKey src c)))).stat 0x7B Reg.FCR_GRANTS 0 1

/-- a is behind b, as counts modulo 2^32. -/
def behind32 (a b : Nat) : Bool := decide (0 < toSigned 32 (ofSigned 32 ((b : Int) - a)))

/-- A REQUEST arrives (R312). -/
def State.requestIn (s : State) (r : ReqCell) : State :=
  let k := pairKey r.src r.cls
  let s := { s with fab := { s.fab with
      backlog := s.fab.backlog.set 0 k r.backlog, ret := s.fab.ret.set 0 k (r.returned % 2 ^ 32),
      chRec := if s.passedSeq k r.seqAt then s.fab.chRec.set 0 k (r.charged % 2 ^ 32) else s.fab.chRec } }
  if behind32 r.gSeen (s.fab.g.get 0 k) then (s.sendGrant r.src r.cls).trb 0x7B 7 else s

/-- A GRANT arrives: G_SEEN is the largest G (R311). -/
def State.grantIn (s : State) (src c g : Nat) : State :=
  let v := pairKey src c
  if behind32 (s.fab.gSeen.get 0 v) g then
    { s with fab := { s.fab with gSeen := s.fab.gSeen.set 0 v (g % 2 ^ 32) } }
  else s

/-- One source in the grant engine of class c (R312). -/
def State.grantOne (c : Nat) (s : State) (src : Nat) : State :=
  let k := pairKey src c
  let u := s.rd Reg.FCR_GRANT_KIB * 4
  if u ≠ 0 ∧ (s.buf.focc.get 0 c : Int) + (s.outSum c + u) * 256 ≤ s.rsv c then
    let s := { s with fab := { s.fab with
        g := s.fab.g.set 0 k ((s.fab.g.get 0 k + u) % 2 ^ 32), rrNext := s.fab.rrNext.set 0 c (src + 1) } }
    s.sendGrant src c
  else s

/-- The grant engine of class c: sources with a backlog, from the round-robin pointer on (R312). -/
def State.grantClass (s : State) (c : Nat) : State :=
  let l := (s.fab.backlog.filter (fun e => e.1 % 8 == c)).map (fun e => e.1 / 8)
  let n := s.fab.rrNext.get 0 c
  ((l.filter (fun x => decide (n ≤ x))) ++ (l.filter (fun x => decide (x < n)))).foldl (State.grantOne c) s

/-! ## VOQ streams (R301 to R303) -/

/-- Send the cell in progress of a VOQ (R303). -/
def State.sendVoqCell (s : State) (bad : List BadCell) (v : Nat) (c : VoqCell) (end_ poison : Bool) : State :=
  let seq := s.fab.seqNext.get 0 v
  let s := { s with fab := { s.fab with seqNext := s.fab.seqNext.set 0 v ((seq + 1) % 2 ^ 24), cell := s.fab.cell.erase v } }
  s.originate bad (dataCell (v % 8 * 8 + b01 poison * 4 + b01 end_ * 2) 0 c.parity (v / 8) s.devId c.pin seq c.first c.bytes)

/-- The cell in progress, or a new one for a packet. -/
def State.cellFor (s : State) (v pin : Nat) : VoqCell :=
  (s.fab.cell.lookup v).getD { bytes := [], first := 0xFF, pin := pin, parity := s.frtParity }

/-- Flush a VOQ's cell in progress with zeros (R302). -/
def State.flushCell (s : State) (bad : List BadCell) (v : Nat) : State :=
  match s.fab.cell.lookup v with
  | some c => s.sendVoqCell bad v c false false
  | none => s

/-- Put bytes into a VOQ's stream; `head` says that they begin with a metadata (R302). -/
def State.stream (fuel : Nat) (s : State) (bad : List BadCell) (v pin : Nat) (head : Bool) (b : Bytes) : State :=
  match fuel with
  | 0 => s
  | k + 1 =>
    if b.isEmpty then s
    else
      let c := s.cellFor v pin
      let n := 240 - c.bytes.length
      let c := { c with first := if head ∧ c.first = 0xFF then c.bytes.length else c.first, bytes := c.bytes ++ b.take n }
      let s := { s with fab := { s.fab with cell := s.fab.cell.insert v c } }
      State.stream k (if c.bytes.length = 240 then s.sendVoqCell bad v c false false else s) bad v pin false (b.drop n)

/-- Room for a metadata in the cell in progress (R302). -/
def State.tightCell (s : State) (v : Nat) : Bool :=
  match s.fab.cell.lookup v with
  | some c => decide (238 < c.bytes.length)
  | none => false

/-- The SEQ of the cell that holds the last byte streamed. -/
def State.lastSeq (s : State) (v : Nat) : Nat :=
  if (s.fab.cell.lookup v).isSome then s.fab.seqNext.get 0 v else (s.fab.seqNext.get 0 v + 2 ^ 24 - 1) % 2 ^ 24

/-- A packet's charge is taken (R311). -/
def State.chargeVoq (s : State) (v units : Nat) : State :=
  { s with fab := { s.fab with charged := s.fab.charged.set 0 v ((s.fab.charged.get 0 v + units) % 2 ^ 32),
                               reqAt := s.fab.reqAt.erase v, emptyRun := s.fab.emptyRun.erase v } }

/-- SEQ_AT of what has been charged (R300). -/
def State.markSeq (s : State) (v : Nat) : State :=
  { s with fab := { s.fab with seqAt := s.fab.seqAt.set 0 v (s.lastSeq v) } }

/-- End a packet in the cell in progress with POISON (R229). -/
def State.poisonCell (s : State) (bad : List BadCell) (v pin : Nat) (end_ : Bool) (plen : Nat) : State :=
  let c := s.cellFor v pin
  s.sendVoqCell bad v (if end_ then { c with bytes := padTo 238 c.bytes ++ toBe 2 plen } else c) end_ true

/-- The END cell of a cut-through packet of P bytes (R302). -/
def State.endCell (s : State) (bad : List BadCell) (v pin plen : Nat) : State :=
  let s := if s.tightCell v then s.flushCell bad v else s
  let c := s.cellFor v pin
  s.sendVoqCell bad v { c with bytes := padTo 238 c.bytes ++ toBe 2 plen } true false

/-- The next head of a VOQ can follow in the same cell. -/
def State.nextReady (s : State) (v : Nat) : Bool :=
  match s.voqOf v with
  | e :: _ => (match s.buffer e.bid with
      | some b => !s.tooOld e && decide ((chargeUnits b.pool : Int) ≤ s.voqCredit v)
      | none => false)
  | [] => false

/-- Send a whole packet of a VOQ (R301 to R303, R311); a buffer read that fails ends it with POISON at a byte that no rule
states (R229, log entry 22). -/
def State.sendWhole (s : State) (bad : List BadCell) (v : Nat) (e : QEnt) (b : Buffer) : State :=
  let p := b.pkt
  let pin := p.hash / 65536 % 65536
  let m := metaBytes p p.bytes.length false e.dst e.cls b.pool
  let s := if s.tightCell v then s.flushCell bad v else s
  let s := if badCell bad .buffer 0 e.bid then
      let k := s.freeNat % (p.bytes.length + 1)
      ((State.stream 80 s.draw bad v pin true (m ++ p.bytes.take k)).poisonCell bad v pin false 0).stompCount
    else State.stream 80 s bad v pin true (m ++ p.bytes)
  let s := (s.markSeq v).dropEnt e none
  if s.tightCell v ∨ ¬ s.nextReady v then s.flushCell bad v else s

/-- Start a cut-through packet of a VOQ: its metadata and the bytes that have come (R228, R301). -/
def State.sendCutHead (s : State) (bad : List BadCell) (v : Nat) (e : QEnt) (t : List QEnt) (b : Buffer) : State :=
  let p := b.pkt
  let pin := p.hash / 65536 % 65536
  let m := metaBytes p (p.alloc - 32) true e.dst e.cls b.pool
  let s := if s.tightCell v then s.flushCell bad v else s
  let s := (State.stream 80 s bad v pin true (m ++ p.bytes)).markSeq v
  s.setVoq v ({ e with sent := some p.bytes.length } :: t)

/-- End a cut-through packet of a VOQ with its tail (R229, R302). -/
def State.sendCutTail (s : State) (bad : List BadCell) (v : Nat) (e : QEnt) (n : Nat) (b : Buffer) : State :=
  let p := b.pkt
  let pin := p.hash / 65536 % 65536
  let s := s.setVoq v ((s.voqOf v).filter (fun x => x.bid != e.bid))
  let s := if p.bad then (s.poisonCell bad v pin true n).stompCount
    else (State.stream 80 s bad v pin false (p.bytes.drop n)).endCell bad v pin p.bytes.length
  (s.markSeq v).dropEnt e none

/-- The tail of a packet whose cells are leaving has arrived. -/
def State.finishVoq (s : State) (bid : Nat) : State :=
  match s.q.voq.find? (fun x => x.2.any (fun e => e.bid == bid && e.sent.isSome)) with
  | none => s
  | some (v, l) =>
    match l.find? (fun e => e.bid == bid), s.buffer bid with
    | some e, some b => s.sendCutTail [] v e (e.sent.getD 0) b
    | _, _ => s

/-- Serve a VOQ (R252, R311). -/
def State.voqServe (s : State) (bad : List BadCell) (v : Nat) : State :=
  let s := s.settleVoq v
  match s.voqOf v with
  | [] => s.flushCell bad v
  | e :: t =>
    match s.buffer e.bid with
    | none => s
    | some b =>
      if e.sent.isSome then s
      else if s.voqCredit v < chargeUnits b.pool then (s.flushCell bad v).firstRequest v
      else
        let s := (s.chargeVoq v (chargeUnits b.pool)).bufRead e.bid
        if e.cut then
          let s := s.sendCutHead bad v e t b
          if b.pkt.tailDone then s.sendCutTail bad v e b.pkt.bytes.length b else s
        else (s.setVoq v t).sendWhole bad v e b

/-! ## Fabric multicast queues (R307, R308, R313) -/

/-- One cell of a group to the links of its tree. -/
def State.mcastCell (s : State) (links : List Nat) (b : Bytes) : State := links.foldl (fun t n => t.sendOwn n b) s

/-- Send a packet of a fabric multicast queue (R302, R308, R229). -/
def State.fmcSend (s : State) (bad : List BadCell) (c : Nat) (e : QEnt) (b : Buffer) : State :=
  let p := b.pkt
  let g := p.d.dest
  let all := metaBytes p p.bytes.length false 0 c b.pool ++ p.bytes
  let fails := badCell bad .buffer 0 e.bid
  let k := if fails then 16 + s.freeNat % (p.bytes.length + 1) else all.length
  let s := if fails then s.draw.stompCount else s
  let l := entriesOf 240 (padTo ((k + 239) / 240 * 240) (all.take k))
  let parity := s.banks.fmc.active.gen % 2
  match s.treeIn bad s.banks.fmc.active.body g with
  | (s, none) => s.fmcCount 6 g
  | (s, some t) =>
    (l.zip (List.range l.length)).foldl (fun s x =>
      s.mcastCell t.links (dataCell (64 + c * 8 + b01 (fails && x.2 + 1 == l.length) * 4) 0 parity g s.devId 0 x.2
        (if x.2 = 0 then 0 else 0xFF) x.1)) s

/-- Serve fabric multicast queue c, no faster than its rate (R252, R313). -/
def State.fmcServe (s : State) (bad : List BadCell) (c : Nat) : State :=
  let rate := s.rdi Reg.FMC_RATE_c_MBPS c
  let r := s.dropOld 3 Reg.QM_AGED (s.fmcOf c)
  let s := r.1.setFmc c r.2
  match r.2 with
  | [] => s
  | e :: t =>
    match s.buffer e.bid with
    | none => s
    | some b =>
      if rate = 0 ∨ s.ns < s.fab.fmcAt.get 0 c then s
      else
        let s := { s with fab := { s.fab with fmcAt := s.fab.fmcAt.set 0 c (s.ns + b.pkt.bytes.length * 8000 / rate) } }
        (((s.setFmc c t).bufRead e.bid).fmcSend bad c e b).dropEnt e none

/-! ## Relays (R306) -/

/-- The cells that could leave on a link next, each with its arrival link (40 for own cells): the first of each arrival link,
VC and class. -/
def State.relayHeads (s : State) (out : Nat) : List (Nat × Bytes) :=
  let of := fun (l : List Bytes) => (l.foldl (fun (a : List Bytes) b =>
    if a.any (fun x => cHops x == cHops b && cClass x == cClass b) then a else a ++ [b]) [])
  (List.range 40).flatMap (fun n => (of (((s.link n).relay.filter (fun c => c.outs.contains out)).map (fun c => c.bytes))).map
    (fun b => (n, b)))
    ++ (of (s.link out).own).map (fun b => (40, b))

/-- The multicast lock key of a cell. -/
def lockKey (b : Bytes) : Nat := cHops b * 8 + cClass b

/-- A cell may leave: a credit, and no other multicast packet of its VC and class in progress (R306). -/
def State.mayRelay (s : State) (out : Nat) (x : Nat × Bytes) : Bool :=
  decide (0 < (s.link out).credits (cHops x.2))
    && (cKind x.2 != 1 || (match (s.link out).mcLock.find? (fun l => l.1 == lockKey x.2) with
        | some l => l.2.1 == x.1
        | none => true))

/-- x goes before y on a link: higher VC, higher class, then round-robin from the pointer (R306). -/
def relayBefore (rr : Nat) (x y : Nat × Bytes) : Bool :=
  let k := fun (z : Nat × Bytes) => cHops z.2 * 8 + cClass z.2
  decide (k y < k x) || (k x == k y && decide ((x.1 + 41 - rr) % 41 < (y.1 + 41 - rr) % 41))

/-- The lock after a multicast cell: set by the first cell for the cells that LEN gives, released by the last (R306). -/
def nextLock (l : List (Nat × Nat × Nat)) (x : Nat × Bytes) : List (Nat × Nat × Nat) :=
  if cKind x.2 ≠ 1 then l
  else
    let k := lockKey x.2
    let left := if cSeq x.2 = 0 then (16 + mLen (cPayload x.2) + 239) / 240 - 1
      else match l.find? (fun e => e.1 == k) with | some e => e.2.2 - 1 | none => 0
    let l := l.filter (fun e => e.1 != k)
    if left = 0 ∨ cPoison x.2 then l else l ++ [(k, x.1, left)]

/-- A relayed cell has left on one link: its slot is free when it has left on all (R291, R306). -/
def State.relayed (s : State) (n out : Nat) (b : Bytes) : State :=
  let x := s.link n
  match x.relay.find? (fun c => c.bytes == b && c.outs.contains out) with
  | none => s
  | some c =>
    let c' := { c with outs := without c.outs out }
    let l := x.relay.erase c
    if c'.outs.isEmpty then (s.setLink n { x with relay := l }).freeSlot n c.vc
    else s.setLink n { x with relay := c' :: l }

/-- The next cell that waits for a link leaves on it (R306). -/
def State.relayOne (s : State) (out : Nat) : State :=
  let l := (s.relayHeads out).filter (s.mayRelay out)
  match l with
  | [] => s
  | a :: t =>
    let x := t.foldl (fun b y => if relayBefore (s.link out).rr y b then y else b) a
    let s := if x.1 = 40 then s.setLink out { s.link out with own := (s.link out).own.erase x.2 } else s.relayed x.1 out x.2
    let s := s.setLink out { s.link out with rr := (x.1 + 1) % 41, mcLock := nextLock (s.link out).mcLock x }
    s.sendOn out (cHops x.2) x.2

/-! ## Cells received (R282, R285, R299 to R305) -/

/-- A unicast or control cell that is not for this device (R305). -/
def State.transit (s : State) (bad : List BadCell) (n : Nat) (b : Bytes) : State :=
  match s.route' bad false b with
  | (s, some out) => (s.stat 0x71 Reg.FRT_RELAY 0 1).relayPut n b [out]
  | (s, none) => s.freeSlot n (min 2 (cHops b))

/-- Read a REQUEST cell (R300). -/
def parseReq (b : Bytes) : ReqCell :=
  let p := cPayload b
  { src := cSrc b, cls := beAt p 0 1 % 8, backlog := beAt p 1 3, gSeen := beAt p 4 4, charged := beAt p 8 4,
    returned := beAt p 12 4, seqAt := beAt p 16 3 }

/-- A fabric control cell for this device (R300); `mgmt` takes the management transactions. -/
def State.controlIn (s : State) (mgmt : State → Nat → Bytes → State) (n : Nat) (b : Bytes) : State :=
  let st := cSubtype b
  if st = 1 then s.requestIn (parseReq b)
  else if st = 2 then s.grantIn (cSrc b) (beAt (cPayload b) 0 1 % 8) (beAt (cPayload b) 4 4)
  else if 8 ≤ st ∧ st ≤ 12 then mgmt s n b
  else s.trb 0x7B 9

/-- A management transaction that stays on its link (R358). -/
def isLinkDirected (b : Bytes) : Bool :=
  cKind b == 2 && decide (8 ≤ cSubtype b ∧ cSubtype b ≤ 12) && bitN (beAt (cPayload b) 2 1) 6 == 1

/-- A data or fabric control cell on an UP link (R299, R305, R308). -/
def State.fabricIn (s : State) (bad : List BadCell) (mgmt : State → Nat → Bytes → State) (n : Nat) (b : Bytes) : State :=
  let vc := min 2 (cHops b)
  let s := s.setLink n { s.link n with received := bump (s.link n).received vc }
  if cKind b = 1 then s.multicastIn bad n b
  else if isLinkDirected b then (mgmt s n b).freeSlot n vc
  else if cDest b = s.devId then
    let s := s.stat 0x71 Reg.FRT_DELIVER 0 1
    (if cKind b = 0 then s.unicastIn b else s.controlIn mgmt n b).freeSlot n vc
  else s.transit bad n b

/-- A link control cell (R283); `cairn` takes the CAIRN cells. -/
def State.linkControlIn (s : State) (cairn : State → Nat → CairnCell → State) (n : Nat) (b : Bytes) : State :=
  let p := cPayload b
  if ¬ controlOk b then s.trb (linkPage n) 15
  else if cSubtype b = 1 then s.helloIn n (parseHello p)
  else if ¬ s.linkIsUp n then s
  else if cSubtype b = 2 then s.timeIn n (parseTime p) (time96 s.sub)
  else if cSubtype b = 3 then s.creditIn n [beAt p 0 4, beAt p 4 4, beAt p 8 4]
  else cairn s n (parseCairn p)

/-- A cell arrives on a link (R282, R285). -/
def State.cellIn (s : State) (bad : List BadCell) (mgmt : State → Nat → Bytes → State) (cairn : State → Nat → CairnCell → State)
    (n : Nat) (b : Bytes) : State :=
  if 40 ≤ n ∨ s.lstate n < 2 then s
  else if ¬ crcGood b then s.trb (linkPage n) (3 + n % 5)
  else
    let s := s.stat (linkPage n) Reg.FLK_CELLS_RX (n % 5) 1
    if cKind b = 3 then s.linkControlIn cairn n b
    else if s.linkIsUp n then s.fabricIn bad mgmt n b
    else if s.lstate n = 2 ∧ isLinkDirected b then mgmt s n b
    else s

/-! ## Meanings -/

/-- CELL_RELAY: the next cell that waits for a link leaves (R306). -/
def execCellRelay (link : Nat) (s : State) : Host.Outcome State Fault Refusal :=
  .next (if s.linkIsUp link then s.relayOne link else s)

/-- VOQ_DEQUEUE (R252, R301, R311). -/
def execVoqDequeue (voq : Nat) (bad : List BadCell) (s : State) : Host.Outcome State Fault Refusal :=
  .next (if voq < 65536 then s.voqServe bad voq else s)

/-- FMC_QUEUE_SEND (R308, R313). -/
def execFmcQueueSend (cls : Nat) (bad : List BadCell) (s : State) : Host.Outcome State Fault Refusal :=
  .next (if cls < 8 then s.fmcServe bad cls else s)

/-- REQUEST_RETRY: a VOQ still holds what it cannot send (R311). -/
def execRequestRetry (voq : Nat) (s : State) : Host.Outcome State Fault Refusal :=
  let us := s.rd Reg.FCR_REQ_RETRY_US
  let at_ := s.fab.reqAt.get 0 voq
  .next (if voq < 65536 ∧ us ≠ 0 ∧ at_ ≠ 0 ∧ at_ - 1 + us * 1000 ≤ s.ns ∧ ¬ (s.voqOf voq).isEmpty then
      let t := (s.sendRequest voq (s.voqBacklog voq)).trb 0x7B 6
      { t with fab := { t.fab with reqAt := t.fab.reqAt.set 0 voq (t.ns + 1) } }
    else s)

/-- CREDIT_RETURN: a VOQ long empty returns its credit (R311). -/
def execCreditReturn (voq : Nat) (s : State) : Host.Outcome State Fault Refusal :=
  let c := s.voqCredit voq
  .next (if voq < 65536 ∧ (s.voqOf voq).isEmpty ∧ 0 < c ∧ max 1 (s.rd Reg.FCR_RETURN_EPOCHS) ≤ s.fab.emptyRun.get 0 voq then
      let t := { s with fab := { s.fab with
        returned := s.fab.returned.set 0 voq ((s.fab.returned.get 0 voq + c.toNat) % 2 ^ 32), emptyRun := s.fab.emptyRun.erase voq } }
      t.sendRequest voq 0
    else s)

/-- Empty epoch boundaries of the VOQs that hold credit (R311). -/
def State.voqEpoch (s : State) : State :=
  s.fab.gSeen.foldl (fun t e =>
    if (t.voqOf e.1).isEmpty ∧ 0 < t.voqCredit e.1 then
      { t with fab := { t.fab with emptyRun := t.fab.emptyRun.set 0 e.1 (t.fab.emptyRun.get 0 e.1 + 1) } }
    else { t with fab := { t.fab with emptyRun := t.fab.emptyRun.erase e.1 } }) s

/-- REQUEST_RECEIVED (R312). -/
def execRequestReceived (r : ReqCell) (s : State) : Host.Outcome State Fault Refusal :=
  .next (if r.cls < 8 then s.requestIn r else s)

/-- GRANT_ENGINE: one round of every class (R224, R312). -/
def execGrantEngine (s : State) : Host.Outcome State Fault Refusal :=
  .next (if s.runs 0x7B then (List.range 8).foldl State.grantClass s else s)

/-- GRANT_RECEIVED (R311). -/
def execGrantReceived (src cls g : Nat) (s : State) : Host.Outcome State Fault Refusal :=
  .next (if cls < 8 then s.grantIn src cls g else s)

/-- FRAME_TAIL_ARRIVED: a frame's tail settles it, wherever its head has gone (R111, R132, R228, R229). -/
def execFrameTailArrived (pkt : Nat) (rest : Bytes) (s : State) : Host.Outcome State Fault Refusal :=
  let bid := (s.bufFind pkt).map (fun b => b.bid)
  let t := s.tailIn pkt rest
  .next (match bid with
    | some x => (match t.cutPort x with
        | some port => t.finishCut port false
        | none => t.finishVoq x)
    | none => t)

end Sys2Proof.Machine
end

