-- ==== Sys2Proof/Machine/Learn.lean ====
section
/-! DEFINITION. Learn: the learning lane of the insert engine, EVPN posts and ageing (R178 to R182, R201, R348). -/
namespace Sys2Proof.Machine

/-- A slot as four dwords, lowest first. -/
def slotDwords (e : Nat) : List Nat := [bits e 31 0, bits e 63 32, bits e 95 64, bits e 127 96]

/-- A learn notice on ring 32: 0 installed, 1 moved, 2 aged, 3 removed by a post (R348). -/
def State.learnNotice (s : State) (e kind : Nat) : State :=
  s.eventRecord 32 (dwords (slotDwords e ++ [kind, s.epoch % 2 ^ 32, s.epoch / 2 ^ 32, 0]))

/-- A learn failure on ring 33: 1 FULL, 2 slot parity on the path (R180, R348). -/
def State.learnFailure (s : State) (e reason : Nat) : State :=
  ((s.trb 0x35 4).stat 0x35 Reg.LRN_FAILED 0 1).eventRecord 33
    (dwords (slotDwords e ++ [reason, s.epoch % 2 ^ 32, s.epoch / 2 ^ 32, 0]))

/-- RES_KIND and RES_IDX of a slot. -/
def slotRes (e : Nat) : Nat := bits e 59 37

/-- A request may replace or remove an entry (R201). -/
def mayReplace (r : LearnReq) (e : Nat) : Bool :=
  bitN e 36 == 0 && (if r.post then bits e 35 34 == 1 || bits e 35 34 == 2 else bits e 35 34 == 1)

/-- A bad slot stands in one of the key's buckets or in the stash. -/
def State.badOnPath (s : State) (bad : List BadCell) (k : Nat) : Bool := (s.places k).any (badPlace bad)

/-- Install a new entry, or report that no room was found (R176, R179, R180). -/
def State.learnInstall (s : State) (bad : List BadCell) (e : Nat) : State :=
  match s.insertSlot bad e with
  | (t, 4) => t.learnFailure e (if s.badOnPath bad (slotKey e) then 2 else 1)
  | (t, _) => (t.stat 0x35 Reg.LRN_LEARNED 0 1).learnNotice e 0

/-- Serve one request (R179, R182, R201). -/
def State.learnServe (s : State) (bad : List BadCell) (r : LearnReq) : State :=
  let e := if r.post then setBits (r.slot / 2 ^ 34 * 2 ^ 34) 35 34 2 else r.slot
  match s.findKey bad (slotKey e) with
  | none => if r.remove then s.trb 0x35 5 else s.learnInstall bad e
  | some p =>
    let old := s.entryAt p
    if r.remove then
      if mayReplace r old then (s.removeSlot bad e).1.learnNotice old 3 else s.trb 0x35 5
    else if slotRes old = slotRes e ∧ (¬ r.post ∨ bits old 36 34 = bits e 36 34) then s
    else if mayReplace r old then
      ((s.insertSlot bad e).1.stat 0x35 Reg.LRN_MOVED 0 1).learnNotice e 1
    else s.trb 0x35 5

/-- The engine serves requests: it has power, is enabled, and is not held for a Traverse (R34, R179). -/
def State.learnRuns (s : State) : Bool := s.runs 0x35 && s.pagePowered 0x34 && !s.learn.held

/-- The slot in LRN_POST_0–3. -/
def State.postSlot (s : State) : Nat :=
  s.rdi Reg.LRN_POST_k 0 + s.rdi Reg.LRN_POST_k 1 * 2 ^ 32 + s.rdi Reg.LRN_POST_k 2 * 2 ^ 64 + s.rdi Reg.LRN_POST_k 3 * 2 ^ 96

/-- A write of LRN_POST_GO with GO = 1: a post takes a queue place; one of TYPE 0 or 3–15 is discarded and counted (R182). -/
def State.learnPost (s : State) (remove : Bool) : State :=
  let e := s.postSlot
  if bits e 127 124 ≠ 1 ∧ bits e 127 124 ≠ 2 then s.trb 0x35 3
  else s.learnPush { slot := e, post := true, remove := remove }

/-- Every place that an entry may stand at, of those that hold one. -/
def State.occupied (s : State) : List Place :=
  (s.exm.t0.flatMap (fun e => [0, 1, 2, 3].map (fun i => ({ tbl := 0, b := e.1, i := i } : Place))))
    ++ (s.exm.t1.flatMap (fun e => [0, 1, 2, 3].map (fun i => ({ tbl := 1, b := e.1, i := i } : Place))))
    ++ s.exm.stash.map (fun e => ({ tbl := 2, b := 0, i := e.1 } : Place))

/-- A learned entry that no source lookup has hit since the last sweep (R181). -/
def State.aged (s : State) (hits : List Nat) (p : Place) : Bool :=
  let e := s.entryAt p
  e != 0 && bits e 35 34 == 1 && bitN e 36 == 0 && !hits.contains (slotKey e)

/-- Remove an aged entry. -/
def State.ageOut (s : State) (p : Place) : State :=
  let e := s.entryAt p
  (((s.enginePut p 0).stat 0x34 Reg.EXM_REMOVES 0 1).stat 0x35 Reg.LRN_AGED 0 1).learnNotice e 2

/-! ## Meanings -/

/-- LEARN_REQUEST (R179, R180, R201). -/
def execLearnRequest (bad : List BadCell) (s : State) : Host.Outcome State Fault Refusal :=
  .next (match s.learn.queue with
    | r :: t => if s.learnRuns then ({ s with learn := { s.learn with queue := t } }).learnServe bad r else s
    | [] => s)

/-- LRN_POST_GO (R182). -/
def execLrnPostGo (m : Master) (s : State) : Host.Outcome State Fault Refusal :=
  .next (s.onWrite m 0x35 0x120 (fun t => t.learnPost false))

/-- LRN_POST_REMOVE (R182). -/
def execLrnPostRemove (m : Master) (s : State) : Host.Outcome State Fault Refusal :=
  .next (s.onWrite m 0x35 0x120 (fun t => t.learnPost true))

/-- LEARN_AGE_SWEEP: every PERIOD seconds, with the stash tried again once (R176, R181). -/
def execLearnAgeSweep (s : State) : Host.Outcome State Fault Refusal :=
  .next (if s.rd Reg.LRN_AGE_PERIOD ≠ 0 ∧ s.learnRuns then
      let old := (s.occupied).filter (s.aged s.exm.hits)
      let t := old.foldl State.ageOut s
      let t := { t with exm := { t.exm with hits := [] } }
      old.foldl (fun t _ => t.retryStash []) t
    else s)

end Sys2Proof.Machine
end

