-- ==== Sys2Proof/Machine/Shadow.lean ====
section
/-! DEFINITION. Shadow: the background compare of HBM tables with the host's shadow arrays (R206 to R210). -/
namespace Sys2Proof.Machine

/-- The compare runs: switched on, MAXIMAL, neither headless nor stopped (R206, R210). -/
def State.shdRuns (s : State) : Bool :=
  s.runs 0x3A && s.rdb Reg.SHD_CTL_EN && s.rd Reg.SHD_CTL_PERIOD != 0 && s.rd Reg.LPM_STAT_PROFILE == 2
    && !s.rst.headless && s.dmaOk

/-- Entries to compare in an epoch (R207). -/
def State.shdQuota (s : State) (count : Nat) : Nat :=
  let d := s.rd Reg.SHD_CTL_PERIOD * 8000
  (count + d - 1) / d

/-- The LPM compare may run: there are nodes, and the shadow matches the active bank (R207). -/
def State.shdLpm (s : State) : Bool := s.rd Reg.SHD_LPM_COUNT_N != 0 && s.rd Reg.SHD_LPM_GEN_GEN == s.pageGen 0x33

/-- What a comparison of LPM node k finds: 0 nothing (R207). -/
def State.lpmKind (s : State) (bad : Bool) (k node : Nat) : Nat :=
  if bad then 4 else if node = s.banks.lpm.active.body.hbmNodes.getD k 0 then 0 else 1

/-- What a comparison of a shadow slot finds (R207). -/
def State.exmKind (s : State) (bad : Bool) (slot : Nat) : Nat :=
  if bad then 4
  else match s.findKey [] (slotKey slot) with
    | none => 2
    | some p => if bits (s.entryAt p) 59 34 = bits slot 59 34 then 0 else 3

/-- A read of a slot's buckets is uncorrectable. -/
def State.exmBad (s : State) (bad : List BadCell) (slot : Nat) : Bool :=
  badCell bad .exmHbm 0 (s.hash0 (slotKey slot)) || badCell bad .exmHbm 1 (s.hash1 (slotKey slot))

/-- Hold a finding. -/
def State.shdFind (s : State) (kind : Nat) (exm : Bool) (k : Nat) : State :=
  if kind = 0 then s
  else { s with shd := { s.shd with finds := s.shd.finds ++ [{ kind := kind, exm := exm, idx := k, epoch := s.epoch }] } }

/-- Move past an entry; at the end of the array the pass is complete (R207, R212). -/
def State.shdAdvance (s : State) (exm : Bool) : State :=
  let pos := if exm then Reg.SHD_EXM_POS_K else Reg.SHD_LPM_POS_K
  let cnt := if exm then s.rd Reg.SHD_EXM_COUNT_N else s.rd Reg.SHD_LPM_COUNT_N
  let passes := if exm then Reg.SHD_PASSES_EXM else Reg.SHD_PASSES_LPM
  if s.rd pos + 1 < cnt then s.wr pos (s.rd pos + 1)
  else ((s.wr pos 0).satp 0x3A passes 0).evt 0x3A 1

/-- The address of LPM node k in HBM: which of the two banks' ranges is active is not stated, a free value (log entry 24). -/
def State.lpmNodeAddr (s : State) (k : Nat) : Nat := s.freeNat % 2 * 0x08000000 + 32 * k

/-- Compare the next entry of an array; while 16 findings wait, the pass holds (R207, R208). -/
def State.shdOne (exm : Bool) (bad : List BadCell) (s : State) (r : HostRead) : State :=
  if 16 ≤ s.shd.finds.length then s
  else
    match hostBytes r (if exm then 16 else 32) with
    | none => (s.readFailed.trb 0x3A 6).shdAdvance exm
    | some b =>
      let k := s.rd (if exm then Reg.SHD_EXM_POS_K else Reg.SHD_LPM_POS_K)
      let v := le b
      if exm then ((s.exmReads 7 (slotKey v)).shdFind (s.exmKind (s.exmBad bad v) v) true k).shdAdvance true
      else
        let t := s.draw.drqAccess 7 (s.lpmNodeAddr k) 32 false
        (t.shdFind (s.lpmKind (badCell bad .lpmHbm 0 k) k v) false k).shdAdvance false

/-- The locator of the device's copy (R209): for LPM, in whichever bank is active; 0 for a missing key. -/
def State.shdLocator (s : State) (f : Finding) (v : Nat) : State × Nat :=
  if ¬ f.exm then (s.draw, hbmLocator (s.lpmNodeAddr f.idx) 0)
  else if f.kind = 2 then (s, 0)
  else match s.findKey [] (slotKey v) with
    | some p =>
      if p.tbl < 2 then (s, hbmLocator (bucketAddr p.tbl p.b + 16 * p.i) 0) else (s.draw, s.freeLocator 0)
    | none => (s, hbmLocator (bucketAddr 0 (s.hash0 (slotKey v))) 0)

/-- Correct a confirmed finding from the shadow (R208): the state, and whether it succeeded. -/
def State.shdCorrect (s : State) (f : Finding) (v : Nat) : State × Bool :=
  if ¬ s.rdb Reg.SHD_CTL_CORRECT then (s, false)
  else if f.exm then
    match s.insertSlot [] (v / 2 ^ 34 * 2 ^ 34) with
    | (t, o) => if o = 4 ∨ o = 7 then (t.trb 0x3A 7, false) else (t.stat 0x3A Reg.SHD_CORRECTED 0 1, true)
  else
    let b := s.banks.lpm.active
    let img := { b.body with hbmNodes := b.body.hbmNodes.set f.idx v }
    let t : State := { s with banks := { s.banks with lpm := { s.banks.lpm with active := { b with body := img } } } }
    (t.lineWritten.stat 0x3A Reg.SHD_CORRECTED 0 1, true)

/-- A confirmed finding: counted, corrected, recorded on ring 34 (R208, R209). -/
def State.shdConfirmed (s : State) (f : Finding) (v : Nat) : State :=
  let gen := if f.exm then 0 else s.rd Reg.SHD_LPM_GEN_GEN
  let s := (((s.trb 0x3A (if f.exm then 4 else 3)).stat 0x3A Reg.SHD_MISMATCH 0 1).evt 0x3A 0)
  let l := s.shdLocator f v
  let c := l.1.shdCorrect f v
  c.1.eventRecord 34 (dwords
    [f.kind + b01 c.2 * 256 + gen * 65536, f.idx, s.epoch % 2 ^ 32, s.epoch / 2 ^ 32, l.2 % 2 ^ 32, l.2 / 2 ^ 32, 0, 0])

/-! ## Meanings -/

/-- SHADOW_COMPARE: the entries of an epoch, with what the host reads brought (R207). -/
def execShadowCompare (lpm exm : List HostRead) (bad : List BadCell) (s : State) : Host.Outcome State Fault Refusal :=
  .next (if s.shdRuns then
      let t := if s.shdLpm then (lpm.take (s.shdQuota (s.rd Reg.SHD_LPM_COUNT_N))).foldl (State.shdOne false bad) s else s
      if t.rd Reg.SHD_EXM_COUNT_N = 0 then t
      else (exm.take (t.shdQuota (t.rd Reg.SHD_EXM_COUNT_N))).foldl (State.shdOne true bad) t
    else s)

/-- SHADOW_CONFIRM: the oldest finding, SHD_CONFIRM epochs old, is read again: confirmed, or vanished (R208, R355). -/
def execShadowConfirm (r : HostRead) (f : MemFinding) (s : State) : Host.Outcome State Fault Refusal :=
  .next (match s.shd.finds with
    | [] => s
    | x :: rest =>
      if ¬ s.shdRuns ∨ s.epoch < x.epoch + s.rd Reg.SHD_CONFIRM_EPOCHS then s
      else
        let t := { s with shd := { s.shd with finds := rest } }
        match hostBytes r (if x.exm then 16 else 32) with
        | none => t.readFailed.trb 0x3A 6
        | some b =>
          let bad := f == .uncorrectable
          let k := if x.exm then t.exmKind bad (le b) else t.lpmKind bad x.idx (le b)
          if k = x.kind then t.shdConfirmed x (le b) else t.trb 0x3A 5)

end Sys2Proof.Machine
end

