-- ==== Sys2Proof/Machine/HostIf.lean ====
section
/-! DEFINITION. HostIf: the PCI Express endpoint, punt and inject rings, containment, completion timeouts, the user counter
window and the pair link's frames (R92, R108, R339 to R356, R360 to R362, R437, R469). -/
namespace Sys2Proof.Machine

/-! ## Containment (R352 to R354) -/

/-- Every punted packet that waits is discarded (R353, R469). -/
def State.discardRing (s : State) (r : Nat) : State :=
  ((s.puntOf r).foldl (fun t e => (t.puntDiscard r).dropEnt e (some r)) s).setPunt r []

/-- HIF_HOLD has run out: what waits for the host is discarded, and so is every later punt (R353). -/
def State.holdExpired (s : State) : State :=
  (List.range 16).foldl State.discardRing { s with host := { s.host with holdOver := true } }

/-- The link has left DL_Active: the function's configuration space resets, Bus Master Enable with it (R352, R354). -/
def State.hostLinkDown (s : State) : State :=
  let s := { s with host := { s.host with bme := false } }
  ((s.wr Reg.HIF_STAT_LINK_UP 0).wr Reg.HIF_STAT_SPEED 0).wr Reg.HIF_STAT_WIDTH 0

/-- The interface enters CONTAINED, unless it is contained already (R352, R353, R210). -/
def State.containEnter (s : State) (cause : Nat) : State :=
  if s.contained then s
  else
    let s := ((s.wr Reg.HIF_STAT_CONTAINED 1).wr Reg.HIF_STAT_CAUSE cause).trb 0x0B 7
    let s : State := { s.tdmContain with host := { s.host with holdFrom := s.ns, holdOver := false } }
    if s.rd Reg.HIF_HOLD_MS = 0 then s.holdExpired else s

/-- A write of HIF_CMD.RELEASE (R354, R210). -/
def State.containRelease (s : State) : State :=
  if s.rd Reg.HIF_STAT_LINK_UP = 0 then s.trb 0x0B 9
  else if s.contained then
    let s := s.wr Reg.HIF_STAT_CONTAINED 0
    ({ s with host := { s.host with holdOver := false } }).tdmRelease
  else s

/-! ## Completions (R355, R356) -/

/-- A read times out: its tag goes into quarantine (R355, R356). -/
def State.tagTimeout (s : State) (tag : Nat) : State :=
  match s.host.tags.lookup tag with
  | some (at_, us) =>
    if us ≠ 0 ∧ at_ + us * 1000 ≤ s.ns then
      (({ s with host := { s.host with
          tags := s.host.tags.erase tag, quarantine := s.host.quarantine.insert tag (s.ns, us) } }).stat
        0x0B Reg.HIF_CTO_CNT 0 1).trb 0x0B 4
    else s
  | none => s

/-- A completion arrives: for a quarantined tag late, for an unknown one unexpected, with an error an outcome of R355. -/
def State.tagCompletion (s : State) (tag : Nat) (last err : Bool) : State :=
  if (s.host.quarantine.lookup tag).isSome then (s.stat 0x0B Reg.HIF_LATE_CPL 0 1).trb 0x0B 5
  else if (s.host.tags.lookup tag).isSome then
    let s := if err then s.trb 0x0B 4 else s
    if last ∨ err then { s with host := { s.host with tags := s.host.tags.erase tag } } else s
  else s.trb 0x0B 6

/-! ## Rings 0 to 31 (R343) -/

/-- An entry that ring i may take up: its index, while the ring runs and DMA is allowed. -/
def State.ringEntry (s : State) (i : Nat) : Option Nat :=
  let n := ringCount (s.rdi Reg.HDM_SIZE_i_COUNT i)
  let dev := s.rdi Reg.HDM_DEV_i_IDX i
  if 2 ≤ n ∧ s.rdi Reg.HDM_CTL_i_EN i = 1 ∧ s.dmaOk ∧ s.runs 0x0C ∧ dev % n ≠ s.rdi Reg.HDM_HOST_i_IDX i % n then some (dev % n)
  else none

/-- Host address of entry k of ring i. -/
def State.entryAddr (s : State) (i k : Nat) : Nat := s.rdi Reg.HDM_BASE_i i + 32 * k

/-- DEV_IDX moves past entry k. -/
def State.devNext (s : State) (i k : Nat) : State :=
  s.wri Reg.HDM_DEV_i_IDX i ((k + 1) % max 1 (ringCount (s.rdi Reg.HDM_SIZE_i_COUNT i)))

/-- Complete an entry by its dword 7 alone: STATUS and DONE. -/
def State.entryDone (s : State) (i k status : Nat) : State :=
  (s.emit (.hostWrite (s.entryAddr i k + 28) (toLe 4 (status + 2 ^ 31)))).devNext i k

/-! ## Punt (R344, R345, R469) -/

/-- Dwords 1 to 7 of a completed punt entry (R344). -/
def puntDwords (e : QEnt) (p : Packet) (len n addr trx : Nat) : List Nat :=
  [len + (if len < n then 2 ^ 15 else 0), addr % 2 ^ 32, addr / 2 ^ 32,
   (p.srcDev * 256 + p.port) % 2 ^ 21 + e.cls % 8 * 2 ^ 21 + e.reason % 16 * 2 ^ 24,
   p.d.metadata % 65536 + trx / 65536 / 1000000000 % 65536 * 65536, trx / 65536 % 1000000000, 2 ^ 31]

/-- The head of ring r's punt queue is written into a buffer: its bytes, the entry, the index (R51, R345). Another device's
T_rx does not travel: a free value (R13, log entry 26). -/
def State.puntInto (s : State) (r k len addr : Nat) (e : QEnt) (t : List QEnt) (b : Buffer) : State :=
  let p := b.pkt
  let own := p.srcDev = s.devId
  let trx := if own then p.trx else s.freeNat
  let s := if own then s else s.draw
  let data := tcEgress p.tcOpen trx p.bytes
  let m := min len data.length
  let s := (s.setPunt r t).bufRead e.bid
  let s := s.emit (.hostWrite addr (data.take m))
  let s := s.emit (.hostWrite (s.entryAddr r k + 4) (dwords (puntDwords e p m data.length addr trx)))
  ((s.devNext r k).stat 0x0C Reg.HDM_PUNTS 0 1).dropEnt e (some r)

/-- Serve ring r with what the read of its next entry brought. -/
def State.puntServe (s : State) (r k : Nat) (entry : HostRead) : State :=
  match hostBytes entry 32 with
  | none => s.readFailed
  | some b =>
    let len := leAt b 0 2
    let addr := leAt b 8 8
    if len = 0 then s.entryDone r k 1
    else if len % 64 ≠ 0 ∨ addr % 64 ≠ 0 then s.entryDone r k 2
    else
      match s.puntOf r with
      | [] => s
      | e :: t =>
        match s.buffer e.bid with
        | some x => s.puntInto r k len addr e t x
        | none => s

/-! ## Inject (R346, R347) -/

/-- A fetched frame enters pipeline r as logical port 132: padded, with its FCS (R347). -/
def State.injectFrame (s : State) (r : Nat) (b : Bytes) (cls meta16 : Nat) (direct : Option Nat) : State :=
  let f : InFrame := { pid := s.path.nextPid, bytes := withFcs (padTo (max 60 b.length) b), whole := true, badFcs := false,
                       cls := cls, ecpri := false, trx := s.frac, meta16 := meta16, direct := direct }
  ({ s with path := { s.path with nextPid := s.path.nextPid + 1 } }).fifoPut (injectInput r) f

/-- Room for the largest frame in the input of ring r. -/
def State.injectRoom (s : State) (r : Nat) : Bool :=
  decide ((s.port (injectInput r)).fill + 16128 ≤ s.fifoSize (injectInput r))

/-- Fetching of ring r is stopped by back-pressure on (132, CLASS) (R347). -/
def State.injectStopped (s : State) (r : Nat) : Bool :=
  (s.port 132).admBp.getLsbD (s.rdi Reg.HDM_CTL_i_CLASS (16 + r))

/-- Serve inject ring r with what the reads of its next entry and its frame brought (R346, R347, R355). -/
def State.injectServe (s : State) (r k : Nat) (entry frame : HostRead) : State :=
  match hostBytes entry 32 with
  | none => s.readFailed
  | some b =>
    let len := bits (leAt b 0 4) 13 0
    let addr := leAt b 8 8
    let d4 := leAt b 16 4
    if len = 0 then s.entryDone (16 + r) k 1
    else if addr % 64 ≠ 0 ∨ 16124 < len then s.entryDone (16 + r) k 2
    else
      match hostBytes frame len with
      | none => (s.readFailed.addp 0x0C Reg.HDM_ERR_i_CNT (16 + r) 1).entryDone (16 + r) k 3
      | some x =>
        let s := if bitN (leAt b 0 4) 16 = 1 then s.injectFrame r x (bits d4 26 24) (leAt b 20 2) (some (bits d4 20 0))
          else s.injectFrame r x (s.rdi Reg.HDM_CTL_i_CLASS (16 + r)) (leAt b 20 2) none
        (s.stat 0x0C Reg.HDM_INJECTS 0 1).entryDone (16 + r) k 0

/-! ## Meanings -/

/-- PUNT_WRITE: the head of a punt queue meets the next entry of its ring (R343 to R345, R469). -/
def execPuntWrite (ring : Nat) (entry : HostRead) (s : State) : Host.Outcome State Fault Refusal :=
  .next (match s.ringEntry ring with
    | some k => if ring < 16 ∧ ¬ (s.puntOf ring).isEmpty then s.puntServe ring k entry else s
    | none => s)

/-- INJECT_FETCH (R343, R346, R347, R355). -/
def execInjectFetch (ring : Nat) (entry frame : HostRead) (s : State) : Host.Outcome State Fault Refusal :=
  .next (match s.ringEntry (16 + ring) with
    | some k =>
      if ring < 16 ∧ s.runs (0x20 + ring) ∧ s.injectRoom ring ∧ ¬ s.injectStopped ring then s.injectServe ring k entry frame else s
    | none => s)

/-- HDM_ERR_READ: the read clears the count (R26, R362). -/
def execHdmErrRead (m : Master) (ring : Nat) (s : State) : Host.Outcome State Fault Refusal :=
  .next (if ring < 36 then s.onRead m 0x0C (0x118 + 0x20 * ring)
      (fun t => (t.rdi Reg.HDM_ERR_i_CNT ring, t.wri Reg.HDM_ERR_i_CNT ring 0))
    else s)

/-- CONTAINMENT_ENTER: an event of R352; cause 1 takes the link down with it. -/
def execContainmentEnter (cause : Nat) (s : State) : Host.Outcome State Fault Refusal :=
  .next (if 1 ≤ cause ∧ cause ≤ 6 ∧ s.pagePowered 0x0B then
      let t := s.containEnter cause
      if cause = 1 then t.hostLinkDown else t
    else s)

/-- HIF_CONTAIN (R352). -/
def execHifContain (m : Master) (s : State) : Host.Outcome State Fault Refusal :=
  .next (s.onWrite m 0x0B 0x104 (fun t => t.containEnter 6))

/-- HIF_RELEASE (R354). -/
def execHifRelease (m : Master) (s : State) : Host.Outcome State Fault Refusal :=
  .next (s.onWrite m 0x0B 0x104 State.containRelease)

/-- PUNT_HOLD_EXPIRE: HIF_HOLD.MS have passed in containment (R353). -/
def execPuntHoldExpire (s : State) : Host.Outcome State Fault Refusal :=
  .next (if s.contained ∧ ¬ s.host.holdOver ∧ s.host.holdFrom + s.rd Reg.HIF_HOLD_MS * 1000000 ≤ s.ns then s.holdExpired else s)

/-- HOST_LINK_UP: DL_Active (R339, R354, R361). -/
def execHostLinkUp (gen width : Nat) (s : State) : Host.Outcome State Fault Refusal :=
  .next (if s.pagePowered 0x0B ∧ 1 ≤ gen ∧ gen ≤ 5 ∧ [1, 2, 4, 8].contains width then
      ((s.wr Reg.HIF_STAT_LINK_UP 1).wr Reg.HIF_STAT_SPEED gen).wr Reg.HIF_STAT_WIDTH width
    else s)

/-- COMPLETION_RECEIVED (R355, R356). -/
def execCompletionReceived (tag : Nat) (last err : Bool) (s : State) : Host.Outcome State Fault Refusal :=
  .next (if s.pagePowered 0x0B then s.tagCompletion tag last err else s)

/-- COMPLETION_TIMEOUT (R355). -/
def execCompletionTimeout (tag : Nat) (s : State) : Host.Outcome State Fault Refusal := .next (s.tagTimeout tag)

/-- TAG_QUARANTINE_END (R356). -/
def execTagQuarantineEnd (tag : Nat) (s : State) : Host.Outcome State Fault Refusal :=
  .next (match s.host.quarantine.lookup tag with
    | some (at_, us) =>
      if at_ + us * 1000 ≤ s.ns then { s with host := { s.host with quarantine := s.host.quarantine.erase tag } } else s
    | none => s)

/-- BUS_MASTER_ENABLE_CHANGE: a configuration write, on a link that is up (R339, R354, R469). -/
def execBusMasterEnableChange (on : Bool) (s : State) : Host.Outcome State Fault Refusal :=
  .next (if s.rd Reg.HIF_STAT_LINK_UP = 1 then
      let t := { s with host := { s.host with bme := on } }
      if on then t.tdmRelease else t
    else s)

/-- What a user-readable counter shows (R360, R437). -/
def State.userCounter (s : State) (n : Nat) : Nat :=
  if s.pagePowered 0x09 ∧ bitN (s.pmuCfg n) 20 = 1 then s.pmu.val.get 0 n + b01 (s.pmu.wrap.contains n) * 2 ^ 63 else 0

/-- A BAR4 read of 4 or 8 bytes; the 4-byte halves follow R37 (R360). -/
def State.userRead (s : State) (off len : Nat) : State :=
  if 0x1000 ≤ off then s.emit (.readData .host 0)
  else if len = 8 then s.emit (.readData .host (s.userCounter (off / 8)))
  else if off % 8 = 0 then
    let v := s.userCounter (off / 8)
    (s.latchHigh .host 0x100 (v / 2 ^ 32)).emit (.readData .host (v % 2 ^ 32))
  else s.emit (.readData .host (s.latched .host 0x100))

/-- USER_COUNTER_READ (R341, R360, R437). -/
def execUserCounterRead (off len : Nat) (s : State) : Host.Outcome State Fault Refusal :=
  .next (if s.contained ∨ (len ≠ 4 ∧ len ≠ 8) ∨ off % len ≠ 0 ∨ 65536 < off + len then
      (((s.stat 0x0B Reg.HIF_UR 0 1).trb 0x0B 3).emit (.unsupported .host))
    else s.userRead off len)

/-- A frame of the pair link that is no digest, and no MAC control frame, enters as logical port 133 (R92, R107, R108, R111,
R406). -/
def State.pairFrameIn (s : State) (b : Bytes) : State :=
  if ¬ s.forwarding then s.trb 0x00 4
  else if b.length < 64 ∨ s.maxFrame 133 < b.length ∨ (¬ fcsBad b ∧ beAt b 12 2 = 0x8808) then s
  else
    let f : InFrame := { pid := s.path.nextPid, bytes := b, whole := true, badFcs := fcsBad b, cls := 0, ecpri := false,
                         trx := s.rxStamp 133, meta16 := 0, direct := none }
    ({ s with path := { s.path with nextPid := s.path.nextPid + 1 } }).fifoPut 133 f

/-- PAIR_LINK_FRAME: a digest is consumed, any other frame enters (R92, R108). -/
def execPairLinkFrame (b : Bytes) (s : State) : Host.Outcome State Fault Refusal :=
  .next (if s.pagePowered 0x17 then
      (if ¬ fcsBad b ∧ beAt b 12 2 = 0x88B5 ∧ beAt b 14 1 = 0x4B then s.digestIn (parseDigest (b.drop 14)) (time96 s.sub)
       else s.pairFrameIn b)
    else s)

end Sys2Proof.Machine
end

