-- ==== Sys2Proof/Machine/Latency.lean ====
section
/-! DEFINITION. Latency: samples of queue depth and head delay (R275 to R277, R279). -/
namespace Sys2Proof.Machine

/-- The watched entry n that acts. -/
def State.watched (s : State) (n : Nat) : Nat := s.lat.watchAct.get 0 n

/-- The staged watched entry n. -/
def State.watchedStg (s : State) (n : Nat) : Nat := (s.lat.watchStg.lookup n).getD (s.watched n)

/-- Bytes of a queue: P + 4 of each packet (R275). -/
def State.queueBytes (s : State) (l : List QEnt) : Nat :=
  min (2 ^ 40 - 1) ((l.map (fun e => match s.buffer e.bid with | some b => b.pkt.bytes.length + 4 | none => 4)).sum)

/-- A sample of a queue (R275). -/
def State.sampleOf (s : State) (off : Nat) (l : List QEnt) (queue epoch : Nat) (watched : Bool) : LatSample :=
  { off := off, pkts := l.length, bytes := s.queueBytes l,
    delay := match l with | e :: _ => s.ns - e.tenq | [] => 0, valid := true, epoch := epoch, queue := queue, watched := watched }

/-- The rotation sample of queue q. -/
def State.rotSample (s : State) (epoch q : Nat) : LatSample := s.sampleOf (16 * q) (s.eq q) q epoch false

/-- The watched sample of entry n; VALID = 0 for an entry not in use (R276). -/
def State.watchSample (s : State) (epoch n : Nat) : LatSample :=
  let w := s.watched n
  let off := 0x800000 + 0x8000 * (epoch % 2) + 16 * n
  if bitN w 31 = 0 then
    { off := off, pkts := 0, bytes := 0, delay := 0, valid := false, epoch := epoch, queue := 0, watched := true }
  else if bitN w 30 = 1 then s.sampleOf off (s.voqOf (bits w 15 0)) (bits w 18 0) epoch true
  else s.sampleOf off (s.eq (bits w 18 0)) (bits w 18 0) epoch true

/-- The samples due in pitch k of an epoch (R275). -/
def State.samplesDue (s : State) (epoch k : Nat) : List LatSample :=
  if k < 128 then
    (List.range 32).map (fun i => s.rotSample epoch (4096 * (epoch % 128) + 32 * k + i))
      ++ (List.range 16).map (fun i => s.watchSample epoch (16 * k + i))
  else []

/-- Take one sample: kept until it is written, counted beyond the threshold, compared with the worst of the rotation
(R275, R277). -/
def State.takeSample (s : State) (x : LatSample) : State :=
  if s.lat.samples.any (fun y => y.off == x.off && y.epoch == x.epoch) then s
  else
    let th := s.rd Reg.LAT_THRESH_US * 1000
    let worst := if ¬ x.watched ∧ s.lat.worst.1 < x.delay then (x.delay, x.queue) else s.lat.worst
    let t := { s with lat := { s.lat with samples := s.lat.samples ++ [x], worst := worst } }
    if th ≠ 0 ∧ th < x.delay then t.trb 0x57 (if x.watched then 3 else 4) else t

/-- The end of a rotation publishes its worst sample (R277). -/
def State.rotationEnd (s : State) : State :=
  let t := (s.wr Reg.LAT_WORST_DELAY_UNITS (min (2 ^ 32 - 1) (s.lat.worst.1 / 8))).wr Reg.LAT_WORST_Q_QUEUE s.lat.worst.2
  { t with lat := { t.lat with worst := (0, 0) } }

/-- The sampler works (R275, R34). -/
def State.latOn (s : State) : Bool := s.runs 0x57 && s.rdb Reg.LAT_CTL_EN

/-- The samples of pitch k of an epoch; the last pitch of slice 127 ends the rotation. -/
def State.samplePitch (s : State) (epoch k : Nat) : State :=
  let t := (s.samplesDue epoch k).foldl State.takeSample s
  if epoch % 128 = 127 ∧ k = 127 then t.rotationEnd else t

/-- Samples due in the pitches that a forward step skips are taken once, at the step (R56, R275). -/
def State.latSkip (s : State) (old : Nat) : State :=
  if s.latOn then
    let p0 := old / 500 + 1
    let p1 := s.ns / 500
    let n := min (p1 - p0) 32000
    (List.range n).foldl (fun t i => t.samplePitch (epochOf ((p1 - n + i) * 500)) (pitchOf ((p1 - n + i) * 500))) s
  else s

/-- A sample's 16-byte record (R276). -/
def sampleBytes (x : LatSample) : Bytes :=
  toLe 4 (x.pkts % 2 ^ 28 + b01 x.valid * 2 ^ 31) ++ toLe 5 x.bytes ++ toLe 1 0 ++ toLe 2 x.epoch
    ++ toLe 4 (min (2 ^ 32 - 1) (x.delay / 8))

/-- Write the samples of past epochs, or discard and count them (R276). -/
def State.latWrite (s : State) : State :=
  let due := s.lat.samples.filter (fun x => x.epoch != s.epoch)
  let t := { s with lat := { s.lat with samples := s.lat.samples.filter (fun x => x.epoch == s.epoch) } }
  if due.isEmpty then s
  else if s.dmaOk then
    let t := (t.wr Reg.LAT_STAT_HELD 0).stat 0x57 Reg.LAT_SAMPLES 0 due.length
    due.foldl (fun t x => t.emit (.hostWrite (t.rd Reg.LAT_HOST_BASE + x.off) (sampleBytes x))) t
  else ((t.wr Reg.LAT_STAT_HELD (b01 s.contained)).stat 0x57 Reg.LAT_LOST 0 due.length).trbN 0x57 5 due.length

/-- LAT_WIDX moves on by one (R279). -/
def State.widxNext (s : State) : State := s.wr Reg.LAT_WIDX_IDX ((s.rd Reg.LAT_WIDX_IDX + 1) % 2048)

/-- A write of LAT_WDATA (R279, R35). -/
def State.watchWrite (s : State) (v : Nat) : State :=
  let n := s.rd Reg.LAT_WIDX_IDX
  let w := bits v 18 0 + bitN v 30 * 2 ^ 30 + bitN v 31 * 2 ^ 31
  (if s.frozen 0x57 then s.trb 0x57 0
   else { s with lat := { s.lat with watchStg := s.lat.watchStg.insert n w } }).widxNext

/-- A read of LAT_WDATA (R279). -/
def State.watchRead (s : State) : Nat × State := (s.watchedStg (s.rd Reg.LAT_WIDX_IDX), s.widxNext)

/-- The commit of group 0x57 (R279). -/
def State.watchCommit (s : State) : State :=
  let act := s.lat.watchStg.foldl (fun m e => SMap.set m 0 e.1 e.2) s.lat.watchAct
  { s with lat := { s.lat with watchAct := act, watchStg := [] } }

/-! ## Meanings -/

/-- LATENCY_SAMPLE: the samples of the present pitch (R275, R277). -/
def execLatencySample (s : State) : Host.Outcome State Fault Refusal :=
  .next (if s.latOn then s.samplePitch s.epoch s.pitch else s)

/-- LATENCY_WRITE (R276). -/
def execLatencyWrite (s : State) : Host.Outcome State Fault Refusal := .next (if s.runs 0x57 then s.latWrite else s)

/-- LAT_WDATA_ACCESS: a read or a write of LAT_WDATA (R279). -/
def execLatWdataAccess (m : Master) (w : Option Word) (s : State) : Host.Outcome State Fault Refusal :=
  .next (match w with
    | some v => s.onWrite m 0x57 0x118 (fun t => t.watchWrite v.toNat)
    | none => s.onRead m 0x57 0x118 State.watchRead)

end Sys2Proof.Machine
end

