-- ==== Sys2Proof/Machine/Views.lean ====
section
/-! DEFINITION. Views: what a read of a register field shows (R26, R30, R36, R37): the stored value, the staged copy, or
a value computed from the state that the field describes. -/
namespace Sys2Proof.Machine

/-! ## Packets that use a retiring bank (R73, R74) -/

/-- A retiring bank's generation, if anything was committed in it. -/
def oldGen {α : Type} (b : Banked α) : Option Nat :=
  match b.retiring with
  | some (x, _) => if x.gen = 0 then none else some x.gen
  | none => none

/-- Packets between their passes in an ingress pipeline, by what they sampled. -/
def State.inPass (s : State) (q : Gens → Bool) : List Nat := (s.path.recirc.filter (fun p => q p.gens)).map (fun p => p.pid)

/-- The entries whose egress rewrite is to come: in egress queues, and on the wire. -/
def State.egressEnts (s : State) : List QEnt :=
  s.q.egress.flatMap Prod.snd ++ s.sched.filterMap (fun e => e.2.cutting.map (fun c => c.1))

/-- Packets whose egress rewrite is to come, by what they sampled. -/
def State.toEgress (s : State) (q : Gens → Bool) : List Nat :=
  s.inPass q ++ (s.path.d2d.filter (fun p => q p.gens)).map (fun p => p.pid)
    ++ (s.egressEnts.filter (fun e => q e.gens)).filterMap (fun e => (s.buffer e.bid).map (fun b => b.pkt.pid))

/-- Cells of this device and of others that carry a parity and have still to leave, unicast or multicast (R74, R77). -/
def State.cellsWith (s : State) (multicast : Bool) (parity : Nat) : Nat :=
  let mine := fun (b : Bytes) => (cKind b == 1) == multicast && cParity b == parity
  (if multicast then 0 else (s.fab.cell.filter (fun e => e.2.parity == parity && !e.2.bytes.isEmpty)).length)
    + (s.fab.links.map (fun e => (e.2.own.filter mine).length + (e.2.relay.filter (fun c => mine c.bytes)).length)).sum

/-- PG_DRAIN.COUNT: packets that still use a retiring bank of the page (R73, R74). -/
def State.drainCount (s : State) (p : Nat) : Nat :=
  let sets := fun (egress : Bool) (g : Gens) => [0, 1, 2, 3, 4, 5, 6, 7].any (fun n =>
    (n == 5 || n == 6) == egress && (match oldGen (s.setBank n) with | some o => g.sets.getD n 0 == o | none => false))
  let using_ := fun (o : Option Nat) (f : Gens → Nat) (g : Gens) => match o with | some x => f g == x | none => false
  if p = 0x30 then (s.inPass (using_ (oldGen s.banks.parse) (fun g => g.parse))).eraseDups.length
  else if p = 0x33 then (s.inPass (using_ (oldGen s.banks.lpm) (fun g => g.lpm))).eraseDups.length
  else if p = 0x32 then (s.inPass (sets false) ++ s.toEgress (sets true)).eraseDups.length
  else if p = 0x37 then (s.toEgress (using_ (oldGen s.banks.tmpl) (fun g => g.tmpl))).eraseDups.length
  else if p = 0x71 then (match oldGen s.banks.frt with | some g => s.cellsWith false (g % 2) | none => 0)
  else if p = 0x7A then (match oldGen s.banks.fmc with | some g => s.cellsWith true (g % 2) | none => 0)
  else 0

/-! ## The common header (R30) -/

/-- The header fields that follow other state. -/
def State.hdrView (s : State) (p : Nat) : List (Fld × Nat) :=
  let a := s.armedFor p
  let t := match a with | some x => x.target | none => 0
  [(Reg.PG_ID_TYPE, (blockOf p).getD 0), (Reg.PG_ID_INST, pageInst p), (Reg.PG_CAP_TRB_USED, trbUsed p),
   (Reg.PG_CAP_HAS_STAGED, b01 (hasStaged p)), (Reg.PG_CAP_HAS_BANKS, b01 (bankPages.contains p)),
   (Reg.PG_CAP_DOMAIN, pageDomain p), (Reg.PG_CAP_COMMIT_GROUP, p), (Reg.PG_STAT_READY, b01 (s.pageReady p)),
   (Reg.PG_STAT_TRB_SAT, b01 ((List.range 16).any (fun k => s.trbVal p k == 0xFFFF))),
   (Reg.PG_STAT_CAIRN_PENDING, b01 a.isSome), (Reg.PG_STAT_GEN_DRAINING, b01 (s.draining p)),
   (Reg.PG_CAIRN_LO_TARGET_LO, t % 2 ^ 32), (Reg.PG_CAIRN_HI_TARGET_HI, t / 2 ^ 32), (Reg.PG_CAIRN_HI_ARMED, b01 a.isSome),
   (Reg.PG_GEN_STAGED, if s.hasStagedBank p then nextGen (s.pageGen p) else 0), (Reg.PG_DRAIN_COUNT, s.drainCount p),
   (Reg.EVT_SRC_SRC, evtSrc p)]

/-! ## Time, cairns, pairs (R62 to R64, R80, R97) -/

/-- A non-zero forward step is staged (R55). -/
def State.stepStaged (s : State) : Nat := s.stgp 0x10 Reg.TIM_STEP_LO_NS 0 + s.stgp 0x10 Reg.TIM_STEP_HI_NS 0 * 2 ^ 32

/-- The armed cairn with the nearest target, the first posted of several (R80). -/
def State.nextTarget (s : State) : Option Nat :=
  match s.cairn.armed with
  | [] => none
  | a :: t => some (t.foldl (fun m x => min m x.target) a.target)

/-- Network time of one channel (R62). -/
def State.timView (s : State) (p i : Nat) : List (Fld × Nat) :=
  let c := s.chan (p - 0x10)
  let ns := c.time / subPerNs
  let rem := ofSigned 32 (awayDiv s.time.phaseRem subPerNs)
  [(Reg.TIM_STATE_SLEWING, b01 (rem != 0)),
   (Reg.TIM_STATE_STEP_ARMED, b01 (s.stepStaged != 0 && (s.armedFor 0x10).isSome)),
   (Reg.TIM_NOW_k_TIME, bits (time96 c.time) (32 * i + 31) (32 * i)), (Reg.TIM_EPOCH_LO_EPOCH, epochOf ns % 2 ^ 32),
   (Reg.TIM_EPOCH_HI_EPOCH, epochOf ns / 2 ^ 32), (Reg.TIM_EPOCH_HI_PITCH, pitchOf ns),
   (Reg.TIM_FREQ_EFF_ADJ, ofSigned 32 (tdiv c.adj 256)), (Reg.TIM_PHASE_REM_NS, rem)]

/-- PTP, SyncE, cairns and the pair's pins. -/
def State.clockView (s : State) (p : Nat) : List (Fld × Nat) :=
  if p = 0x14 then
    let n := s.rd Reg.PTP_PORT_SEL_PORT
    let c := if n < 128 then s.ptpCfg n else 0
    let l := if n < 128 then s.time.ptpLat.get 0 n else 0
    [(Reg.PTP_PORT_CFG_CLOCK, bitN c 0), (Reg.PTP_PORT_CFG_ONE_STEP, bitN c 1), (Reg.PTP_PORT_CFG_TC, bitN c 2),
     (Reg.PTP_LAT_RX, bits l 15 0), (Reg.PTP_LAT_TX, bits l 31 16), (Reg.PTP_TSQ_STAT_FILL, s.time.tsq.length)]
  else if p = 0x15 then
    let rec_ := fun (n : Nat) =>
      let q := s.rdi Reg.SYE_OUT_n_PORT n
      decide (q < 128) && s.rdp (0x48 + q / 32) Reg.NSD_RX_CDR_LOCK (q % 32) == 1
    [(Reg.SYE_STAT_SQUELCHED, b01 (s.syeSquelched 0) + 2 * b01 (s.syeSquelched 1)),
     (Reg.SYE_STAT_RECOVERED, b01 (rec_ 0) + 2 * b01 (rec_ 1))]
  else if p = 0x16 then
    let t := s.nextTarget
    [(Reg.CRN_STAT_ARMED, s.cairn.armed.length), (Reg.CRN_NEXT_LO_TARGET, t.getD 0 % 2 ^ 32),
     (Reg.CRN_NEXT_HI_TARGET, t.getD 0 / 2 ^ 32), (Reg.CRN_NEXT_HI_VALID, b01 t.isSome)]
  else if p = 0x17 then
    [(Reg.PAIR_STAT_SEAT, b01 s.pins.seat), (Reg.PAIR_STAT_PRESENT, b01 s.pins.present),
     (Reg.PAIR_STAT_BELAY_OUT, b01 s.pins.belayOut), (Reg.PAIR_STAT_BELAY_IN, b01 s.pins.belayIn)]
  else []

/-! ## Ports and the packet path (R118, R119, R130, R138, R149, R160 to R163) -/

/-- Network ports that a pipeline serves (R100). -/
def State.pipePorts (s : State) (n : Nat) : Nat := ((List.range 8).filter (fun k => s.portRuns (8 * n + k))).length

/-- Clocks of 1.5 GHz without a start since the counter last stood at 0 (R3, R119). -/
def State.pipeIdle (s : State) (n : Nat) : Nat :=
  (s.ns - s.path.pipeFrom.get 0 n) * 3 / 2 - (s.rdp (0x20 + n) Reg.PIPE_FIRST 0 + s.rdp (0x20 + n) Reg.PIPE_SECOND 0)

/-- The port, SerDes and pipeline pages. -/
def State.portView (s : State) (p i : Nat) : List (Fld × Nat) :=
  if 0x48 ≤ p ∧ p ≤ 0x4B then
    [(Reg.NSD_TX_CLIPPED, b01 (decide (63 < s.rdp p Reg.NSD_TX_PRE i + s.rdp p Reg.NSD_TX_MAIN i + s.rdp p Reg.NSD_TX_POST i))),
     (Reg.NSD_RX_TX_IDLE, b01 (s.laneIdle (32 * (p - 0x48) + i))), (Reg.NSD_REF_OK, b01 (s.pins.sdref.getLsbD (p - 0x48)))]
  else if 0x20 ≤ p ∧ p ≤ 0x2F then
    [(Reg.PIPE_STAT_PORTS, s.pipePorts (p - 0x20)), (Reg.PIPE_IDLE, s.pipeIdle (p - 0x20) % 2 ^ 64)]
  else []

/-- Entries of a staged artifact. -/
def stagedLen {α β : Type} (b : Banked α) (f : α → List β) : Nat :=
  match b.staged with
  | some x => (f x.body).length
  | none => 0

/-- Occupied slots of exact match, the stash included (R173). -/
def ExmSt.inUse (x : ExmSt) : Nat :=
  ((x.t0 ++ x.t1).map (fun e => (e.2.filter (fun w => w != 0)).length)).sum + x.stash.length

/-- The parser, fragment, classification and table pages. -/
def State.tableView (s : State) (p i : Nat) : List (Fld × Nat) :=
  let b := s.banks
  let rs := s.setBank i
  if p = 0x30 then [(Reg.PRS_GRAPH_ENTRIES, b.parse.active.body.length), (Reg.PRS_GRAPH_STAGED, stagedLen b.parse id)]
  else if p = 0x31 then [(Reg.FRAG_STAT_IN_USE, (s.path.frag.filter s.fragLive).length)]
  else if p = 0x32 then
    let kib := fun (l : List Nat) => ((l.map (fun n => setBytes (s.setBank n) true)).sum + 1023) / 1024
    [(Reg.CLS_SET_n_NODES, rs.active.body.nodes.length), (Reg.CLS_SET_n_ACT_ACTIONS, rs.active.body.actions.length),
     (Reg.CLS_GEN_n_GEN, rs.active.gen), (Reg.CLS_GEN_n_STAGED, b01 rs.staged.isSome),
     (Reg.CLS_MEM_LK0, kib [0, 1, 2, 3]), (Reg.CLS_MEM_LK1, kib [4, 5, 6, 7]),
     (Reg.CLS_RULES_ACTIVE, (b.sets.map (fun x => x.active.body.actions.length)).sum)]
  else if p = 0x37 then [(Reg.ACT_TMPL_ENTRIES, b.tmpl.active.body.length), (Reg.ACT_TMPL_STAGED, stagedLen b.tmpl id)]
  else if p = 0x38 then [(Reg.RCC_TOK_r_TOKENS, s.rccTokens i / 1000)]
  else if p = 0x33 then
    let r := b.lpm.active.body
    [(Reg.LPM_NODES_ACTIVE, r.nodes.length), (Reg.LPM_HBM_NODES_ACTIVE, r.hbmNodes.length),
     (Reg.LPM_RESULTS_ACTIVE, r.results.length), (Reg.LPM_ROOTS_V4, r.roots4.length), (Reg.LPM_ROOTS_V6, r.roots6.length)]
  else if p = 0x34 then [(Reg.EXM_STAT_IN_USE, s.exm.inUse), (Reg.EXM_STASH_USED, s.exm.stash.length)]
  else if p = 0x35 then [(Reg.LRN_QSTAT_FILL, s.learn.queue.length), (Reg.LRN_QSTAT_HELD, b01 s.learn.held)]
  else if p = 0x39 then
    let d := s.tdm.cur
    [(Reg.TDM_STAT_BUSY, b01 d.isSome), (Reg.TDM_STAT_HEADLESS, b01 s.rst.headless), (Reg.TDM_STAT_CONTAINED, b01 s.contained),
     (Reg.TDM_STAT_OP, match d with | some x => x.op | none => 0), (Reg.TDM_LOCK_WAITS, 0)]
  else if p = 0x3A then
    let maximal := s.rd Reg.LPM_STAT_PROFILE == 2
    let held := s.rst.headless || !s.dmaOk || !s.blkEn 0x3A || decide (16 ≤ s.shd.finds.length)
    [(Reg.SHD_STAT_RUNNING, b01 (s.shdRuns && decide (s.shd.finds.length < 16))),
     (Reg.SHD_STAT_GEN_WAIT, b01 (s.rd Reg.SHD_LPM_GEN_GEN != s.pageGen 0x33)), (Reg.SHD_STAT_HELD, b01 held),
     (Reg.SHD_STAT_NOT_MAXIMAL, b01 !maximal)]
  else []

/-! ## Buffers, queues, gates (R232, R233, R255 to R257, R273, R279) -/

/-- The buffer and admission pages. -/
def State.bufferView (s : State) (p i : Nat) : List (Fld × Nat) :=
  if p = 0x50 then
    [(Reg.BPM_STAT_REBUILDING, b01 s.buf.rebuilding), (Reg.BPM_FREE_n_COUNT, runsLen (s.pool i).ring + runsLen (s.pool i).cache),
     (Reg.BPM_CACHE_n_FILL, runsLen (s.pool i).cache), (Reg.BPM_DESC_FREE_COUNT, s.buf.descFree)]
  else if p = 0x51 then
    let n := s.rd Reg.ADM_OCC_SEL_PORT
    let c := s.rd Reg.ADM_OCC_SEL_CLASS
    let bp := fun (k : Nat) => (s.port (k / 8)).admBp.getLsbD (k % 8)
    [(Reg.ADM_OCC_KIB, if n < 160 then s.occOf n c / 1024 else 0), (Reg.ADM_OCC_XOFF, if n < 160 then b01 (bp (8 * n + c)) else 0),
     (Reg.ADM_FOCC_c_KIB, s.buf.focc.get 0 i / 1024),
     (Reg.ADM_XOFF_STAT_k, ((List.range 32).map (fun j => b01 (bp (32 * i + j)) * 2 ^ j)).sum)]
  else []

/-- Shaper entries with PEND set (R246). -/
def State.shpPend (s : State) : Nat := s.tab.shpStg.length

/-- The queue, calendar, shaper and counter pages. -/
def State.queueView (s : State) (p i : Nat) : List (Fld × Nat) :=
  if p = 0x52 then
    let n := s.rd Reg.QM_QSEL_QUEUE
    let l := if s.rdb Reg.QM_QSEL_VOQ then s.voqOf n else s.eq n
    let size := fun (e : QEnt) => match s.buffer e.bid with | some b => bufSize b.pool | none => 0
    [(Reg.QM_DEPTH_PKTS, l.length), (Reg.QM_DEPTH_KIB_KIB, (l.map size).sum / 1024),
     (Reg.QM_HEAD_AGE_US, match l with | [] => 0 | e :: _ => (s.ns - e.tenq) / 1000)]
  else if p = 0x53 then
    let x := s.sch (s.rd Reg.SCH_SEL_PORT)
    let c := s.cal i
    [(Reg.SCH_BUF_USED, s.calOthers 160), (Reg.SCH_VISITS, x.cnt.getD 0 0), (Reg.SCH_SKIP_EMPTY, x.cnt.getD 1 0),
     (Reg.SCH_SKIP_GATE, x.cnt.getD 2 0), (Reg.SCH_SKIP_TOK, x.cnt.getD 3 0), (Reg.SCH_CUT, x.cnt.getD 4 0),
     (Reg.SCH_ROPE, x.cnt.getD 5 0), (Reg.SCH_CAL_p_ENTRIES, c.active.body.entries.length),
     (Reg.SCH_CAL_p_CYCLE, c.active.body.cycle), (Reg.SCH_CAL_p_GEN_GEN, c.active.gen),
     (Reg.SCH_CAL_p_GEN_STAGED, b01 c.staged.isSome)]
  else if p = 0x54 then
    let n := s.rd Reg.SHP_SEL_NODE
    let t := if n < 598176 then s.shaperTok n else (0, 0)
    [(Reg.SHP_TOK_C_BYTES, ofSigned 32 (t.1 / (tokPerByte : Int))), (Reg.SHP_TOK_P_BYTES, ofSigned 32 (t.2 / (tokPerByte : Int))),
     (Reg.SHP_PEND_COUNT, s.shpPend)]
  else if p = 0x58 then [(Reg.MCR_STAT_BACKLOG, s.path.mcrq.length)]
  else if p = 0x56 then
    let g := s.gate i
    [(Reg.GATE_STAT_p_OPEN, if s.blkEn 0x56 then g.open_.toNat else 0xFF), (Reg.GATE_STAT_p_CYC_ACTIVE, b01 (g.running && !g.fault)),
     (Reg.GATE_STAT_p_CYC_HOLD, b01 g.start.isSome), (Reg.GATE_STAT_p_TT_PENDING, b01 g.ttPending.isSome),
     (Reg.GATE_STAT_p_TT_ACTIVE, b01 g.ttActive.isSome), (Reg.GATE_CYC_p_ENTRIES, (s.cyc i).active.body.entries.length),
     (Reg.GATE_CYC_p_GEN, (s.cyc i).active.gen),
     (Reg.GATE_TT_p_ENTRIES, match g.ttActive with | some t => t.entries.length | none => 0), (Reg.GATE_TT_p_NEXT, g.ttNext)]
  else if p = 0x57 then [(Reg.LAT_STAT_SLICE, s.epoch % 128)]
  else []

/-! ## Fabric and HBM (R295 to R297, R316 to R319, R337, R338) -/

/-- The fabric, die-to-die and HBM pages. -/
def State.fabricView (s : State) (p i : Nat) : List (Fld × Nat) :=
  if p = 0x70 then [(Reg.FAB_ID_ID, s.devId), (Reg.FAB_STAT_UP, s.upLinks.length), (Reg.FAB_STAT_STRAP_ID, b01 (s.pins.straps.getLsbD 5))]
  else if 0x72 ≤ p ∧ p ≤ 0x79 then
    let n := 5 * (p - 0x72) + i
    let c := fun (v : Nat) => if s.linkIsUp n then (s.link n).credits v else 0
    [(Reg.FLK_CREDIT_01_VC0, c 0), (Reg.FLK_CREDIT_01_VC1, c 1), (Reg.FLK_CREDIT_2_VC2, c 2)]
  else if p = 0x7C then [(Reg.D2D_TIME_OFS_OFS, s.freeNat % 2 ^ 32)]
  else if p = 0x71 then
    [(Reg.FRT_STAT_ENTRIES, s.banks.frt.active.body.length), (Reg.FRT_STAT_STAGED, stagedLen s.banks.frt id)]
  else if p = 0x7A then [(Reg.FMC_STAT_ENTRIES, s.banks.fmc.active.body.length)]
  else if p = 0x7B then
    let k := 8 * s.rd Reg.FCR_SEL_DEV + s.rd Reg.FCR_SEL_CLASS
    [(Reg.FCR_STORE_USED, s.storeUsed), (Reg.FCR_CREDIT_UNITS, ofSigned 32 (s.voqCredit k)), (Reg.FCR_OUT_UNITS, ofSigned 32 (s.outOf k))]
  else if p = 0x68 then
    let n := s.rd Reg.DRQ_SEL_PORT
    [(Reg.DRQ_LAT_MAX_NS, min (s.hbm.latMax.get 0 n) (2 ^ 32 - 1)), (Reg.DRQ_REQS, s.hbm.reqCnt.get 0 n), (Reg.DRQ_OVERDUE, s.hbm.overdueCnt.get 0 n)]
  else []

/-! ## Host, management, power (R361 to R364, R376, R404, R405, R418 to R420, R444) -/

/-- The domain that a sequence switches (R419). -/
def State.seqDomain (s : State) : Nat :=
  match s.pwr.seqOff, s.pwr.awaitReady, s.pwr.seqOn with
  | d :: _, _, _ => d
  | [], some d, _ => d
  | [], none, d :: _ => d
  | [], none, [] => 0

/-- The host, interrupt, trust, boot, power and counter pages. -/
def State.mgmtView (s : State) (p i : Nat) : List (Fld × Nat) :=
  if p = 0x0B then
    [(Reg.HIF_STAT_BME, b01 s.host.bme), (Reg.HIF_TAGS_OUTSTANDING, s.host.tags.length), (Reg.HIF_TAGS_QUARANTINED, s.host.quarantine.length)]
  else if p = 0x08 then
    [(Reg.ICU_INSVC_c_SRC, match s.icu.insvc.getD i none with | some n => n | none => 0xFFFF), (Reg.ICU_INSVC_c_LINE, b01 (s.irqLine i)),
     (Reg.ICU_PEND_k, ((List.range 32).map (fun j => b01 (s.pend (32 * i + j)) * 2 ^ j)).sum),
     (Reg.ICU_HOLDOFF_g_HELD, b01 (s.icu.held.contains i))]
  else if p = 0x06 then
    [(Reg.SEC_LEVEL_ROLLBACK, s.rollLevel), (Reg.SEC_LEVEL_REVOKED, s.revoked), (Reg.SEC_UNIT_ID_k, (Config.fuse i).toNat)]
  else if p = 0x07 then
    let r := s.bootRec
    [(Reg.BOOT_STAT_STAGED, b01 r.pending), (Reg.BOOT_STG_VER_VERSION, if r.pending then leAt s.boot.staging 0x10 4 else 0)]
  else if p = 0x01 then
    [(Reg.PWR_ON_k, ((List.range 32).map (fun j => b01 (s.pwr.on.contains (32 * i + j)) * 2 ^ j)).sum),
     (Reg.PWR_SEQ_BUSY, b01 s.seqBusy), (Reg.PWR_SEQ_DOMAIN, s.seqDomain)]
  else if p = 0x03 then [(Reg.AON_PGIN_STATE, s.pins.pgIn.toNat), (Reg.AON_STRAP_STRAP, s.pins.straps.toNat)]
  else if p = 0x09 then
    let n := s.rd Reg.PMU_IDX_IDX
    let c := s.pmuCfg n
    let f := s.pmuFilt n
    let v := s.pmu.val.get 0 n
    [(Reg.PMU_CFG_EVENT, bits c 15 0), (Reg.PMU_CFG_EN, bitN c 16), (Reg.PMU_CFG_PRIV, bits c 19 17), (Reg.PMU_CFG_UREAD, bitN c 20),
     (Reg.PMU_CFG_RANGE, bits c 23 21), (Reg.PMU_CFG_ADDR_EN, bitN c 24), (Reg.PMU_FILT_MASTER, bits f 9 0),
     (Reg.PMU_FILT_CLASS, bits f 23 16), (Reg.PMU_VAL_LO_VAL, v % 2 ^ 32), (Reg.PMU_VAL_HI_VAL, v / 2 ^ 32),
     (Reg.PMU_VAL_HI_WRAP, b01 (s.pmu.wrap.contains n)),
     (Reg.PMU_WRAP_k, ((List.range 32).map (fun j => b01 (s.pmu.wrap.contains (32 * i + j)) * 2 ^ j)).sum)]
  else []

/-! ## Reading -/

/-- The values of a page that are computed rather than stored. -/
def State.derived (s : State) (p i : Nat) : List (Fld × Nat) :=
  if 0x10 ≤ p ∧ p ≤ 0x12 then s.timView p i
  else if 0x13 ≤ p ∧ p ≤ 0x17 then s.clockView p
  else if (0x20 ≤ p ∧ p ≤ 0x2F) ∨ (0x40 ≤ p ∧ p ≤ 0x4B) then s.portView p i
  else if 0x30 ≤ p ∧ p ≤ 0x3A then s.tableView p i
  else if p = 0x50 ∨ p = 0x51 then s.bufferView p i
  else if 0x52 ≤ p ∧ p ≤ 0x58 then s.queueView p i
  else if 0x60 ≤ p then s.fabricView p i
  else s.mgmtView p i

/-- The page whose register a field shows: TIMB and TIMC show TIMA's, but for the header and their own captures (R62). -/
def shownPage (p : Nat) (f : Fld) : Nat :=
  if (p = 0x11 ∨ p = 0x12) ∧ 0x100 ≤ f.off ∧ f ≠ Reg.TIM_PPS_CAP_k_TIME then 0x10 else p

/-- What a read of instance i of a field on page p shows (R26, R36). -/
def State.fieldView (s : State) (p : Nat) (f : Fld) (i : Nat) : Nat :=
  if f.acc = .wo then 0
  else
    match (if f.off < 0x100 then s.hdrView p else s.derived p i).find? (fun e => e.1 == f) with
    | some e => e.2 % 2 ^ f.width
    | none =>
      if f.acc = .rws ∧ s.rdp p Reg.PG_CTRL_BANK_VIEW 0 = 1 then s.stgp (shownPage p f) f i
      else s.rdp (shownPage p f) f i

/-- A log entry of R81 as eight dwords. -/
def CrnLog.dwords (e : CrnLog) : List Nat :=
  [e.target % 2 ^ 32, e.target / 2 ^ 32 % 2 ^ 16 + e.seq * 2 ^ 16] ++ [0, 1, 2, 3].map (fun k => bits e.mask (32 * k + 31) (32 * k))
    ++ [e.status + b01 e.scope * 2 ^ 8 + b01 e.remote * 2 ^ 9 + e.origin % 2 ^ 13 * 2 ^ 16, e.arrival % 2 ^ 32]

/-- Dword k of the cairn log, entry 0 newest (R80, R81). -/
def State.logDword (s : State) (k : Nat) : Nat :=
  match s.cairn.log[k / 8]? with
  | some e => e.dwords.getD (k % 8) 0
  | none => 0

/-- What a dword of a page shows; reserved bits and offsets read 0 (R23, R26). -/
def State.viewDword (s : State) (p off : Nat) : Nat :=
  if p = 0x16 ∧ 0x400 ≤ off ∧ off < 0x600 then s.logDword ((off - 0x400) / 4)
  else
    ((pageFields p).map (fun f => match f.instAt off with
      | some (i, k) => s.fieldView p f i * 2 ^ f.lo / 2 ^ (32 * k) % 2 ^ 32
      | none => 0)).sum

end Sys2Proof.Machine
end

