-- ==== Sys2Proof/Machine/Boundaries.lean ====
section
/-! DEFINITION. Boundaries: what falls due at every pitch and every epoch boundary (R6, R46, R92, R240, R242, R311, R408, R441). -/
namespace Sys2Proof.Machine

/-- The governing channel runs: device time passes (R82). -/
def State.timeRuns (s : State) : Bool := s.domainUp (3 + s.governor)

/-- The ports whose arbiter has anything to do at a pitch boundary. -/
def State.schedPorts (s : State) : List Nat :=
  (List.range 160).filter (fun p => (s.sched.lookup p).isSome || (s.banks.cals.lookup p).isSome)

/-- The duties of the pitch that device time is in (R46, R53, R54, R86, R240, R242). -/
def State.pitchDuties (s : State) : State :=
  let t := s.timePitch
  let t := { t with time := { t.time with pitchDone := t.ns / 500 } }
  if t.runs 0x53 then t.schedPorts.foldl State.schedPitch t else t

/-- No packet waits for a port, for the fabric, or for the rest of itself (R408). -/
def State.drainedNow (s : State) : Bool :=
  s.q.egress.isEmpty && s.q.voq.isEmpty && s.sched.all (fun e => e.2.cutting.isNone)
    && s.fab.reasm.all (fun e => e.2.stream.isEmpty && e.2.held.isEmpty && e.2.ct.isNone)
    && s.fab.mreasm.all (fun e => e.2.stream.isEmpty && e.2.held.isEmpty && e.2.ct.isNone)

/-- DRAINED, counted at epoch boundaries (R408). -/
def State.drainEpoch (s : State) : State :=
  if s.mode = 5 then
    if s.drainedNow then
      let n := s.pwr.empties + 1
      let t := { s with pwr := { s.pwr with empties := n } }
      if max 1 (s.rd Reg.TOP_DRAIN_QUIET) ≤ n then t.wr Reg.TOP_STAT_DRAINED 1 else t
    else { s with pwr := { s.pwr with empties := 0 } }
  else s

/-- The duties of the epoch that device time is in (R57 to R60, R92, R311, R408, R441). -/
def State.epochDuties (s : State) : State :=
  let t := s.timeEpoch.pairEpoch.voqEpoch.drainEpoch
  { t with time := { t.time with epochDone := t.ns / 125000 }, pmu := { t.pmu with ceCount := 0 } }

/-! ## Meanings -/

/-- PITCH_BOUNDARY: the boundary that device time has reached, or else the next one, to which it moves. -/
def execPitchBoundary (s : State) : Host.Outcome State Fault Refusal :=
  .next (if s.timeRuns then
      (if s.time.pitchDone < s.ns / 500 then s else s.advanceTo ((s.ns / 500 + 1) * 500)).pitchDuties
    else s)

/-- EPOCH_BOUNDARY: the boundary that device time has reached, or else the next one, to which it moves. -/
def execEpochBoundary (s : State) : Host.Outcome State Fault Refusal :=
  .next (if s.timeRuns then
      (if s.time.epochDone < s.ns / 125000 then s else s.advanceTo ((s.ns / 125000 + 1) * 125000)).epochDuties
    else s)

end Sys2Proof.Machine
end

