-- ==== Sys2Proof/Machine/Mirror.lean ====
section
/-! DEFINITION. Mirror: the status mirror in host memory (R98, R350, R351, R363). -/
namespace Sys2Proof.Machine

/-- A dword as an access would show it: a page that is off shows PG_ID, PG_CAP and PG_STAT alone (R33). -/
def State.shownDword (s : State) (p off : Nat) : Nat :=
  if s.pagePowered p ∨ off = 0 ∨ off = 4 ∨ off = 0xC then s.viewDword p off else 0

/-- PG_STAT of a page with its request, as the mirror shows them (R350). -/
def State.mirPage (s : State) (g : Nat) : Nat :=
  if (blockOf g).isSome then s.shownDword g 0xC % 128 + b01 (s.pageRequests g) * 256 else 0

/-- The fault windows of a page, as the mirror shows them (R350). -/
def State.mirWindows (s : State) (g : Nat) : Nat :=
  if (blockOf g).isSome then
    ((List.range 4).map (fun n => s.rdp g Reg.FWIN_n_STAT_DECLARED n * 2 ^ n
      + b01 (s.rdp g Reg.FWIN_n_CFG_LEN n != 0) * 2 ^ (8 + n))).sum
      + ((List.range 4).map (fun n => s.rdp g Reg.FWIN_n_STAT_CUR n)).foldl max 0 * 65536
  else 0

/-- The indices of ring i, ring 36 being table DMA's (R343, R350). -/
def State.mirRing (s : State) (i : Nat) : Nat :=
  if i < 36 then s.rdi Reg.HDM_DEV_i_IDX i + s.rdi Reg.HDM_HOST_i_IDX i * 65536
  else s.rd Reg.TDM_HEAD_IDX + s.rd Reg.TDM_TAIL_IDX * 65536

/-- MIR_CTL.PERIOD in epochs (R363). -/
def State.mirPeriod (s : State) : Nat := min 4096 (s.rd Reg.MIR_CTL_PERIOD)

/-- Dword k of the mirror at a device time in channel units, SEQ_HEAD and SEQ_TAIL apart (R98, R350). -/
def State.mirDword (s : State) (time k : Nat) : Nat :=
  let t := time96 time
  let e := epochOf (time / subPerNs)
  if 2 ≤ k ∧ k ≤ 4 then bits t (32 * (k - 2) + 31) (32 * (k - 2))
  else if k = 5 then e % 2 ^ 32
  else if k = 6 then e / 2 ^ 32
  else if k = 7 then s.mirPeriod
  else if k = 8 then s.shownDword 0x0B 0x100
  else if k = 0x10 then s.mode
  else if k = 0x11 then s.shownDword 0x10 0x100
  else if k = 0x12 then s.shownDword 0x10 0x11C
  else if k = 0x13 then s.shownDword 0x10 0x128
  else if k = 0x14 then s.shownDword 0x10 0x17C
  else if k = 0x15 then s.shownDword 0x16 0x1C4
  else if 0x20 ≤ k ∧ k ≤ 0x44 then s.mirRing (k - 0x20)
  else if 0x80 ≤ k ∧ k < 0x100 then s.mirPage (k - 0x80)
  else if 0x100 ≤ k ∧ k < 0x180 then s.logDword (k - 0x100)
  else if 0x180 ≤ k ∧ k < 0x200 then s.mirWindows (k - 0x180)
  else if k = 0x200 then s.shownDword 0x13 0x10C
  else if k = 0x201 then s.shownDword 0x17 0x108
  else if k = 0x202 then s.shownDword 0x13 0x110
  else if k = 0x203 then s.shownDword 0x13 0x114
  else if k = 0x204 then s.shownDword 0x17 0x130
  else if k = 0x205 then s.shownDword 0x17 0x134
  else if k = 0x206 then s.shownDword 0x17 0x128
  else 0

/-- Dwords [a, b) of the mirror, as bytes. -/
def State.mirBytes (s : State) (time a b : Nat) : Bytes := ((List.range (b - a)).map (fun i => s.mirDword time (a + i))).flatMap (toLe 4)

/-- The sequence number of the next write: 1 after a reset and after 0xFFFF_FFFF (R350). -/
def State.mirNext (s : State) : Nat := if s.rd Reg.MIR_SEQ_SEQ = 0xFFFFFFFF then 1 else s.rd Reg.MIR_SEQ_SEQ + 1

/-- The writes of one mirror, in their order: SEQ_HEAD, the body, SEQ_TAIL (R351). -/
def State.mirEmits (s : State) (time : Nat) : List Emit :=
  let a := s.rd Reg.MIR_BASE
  [.hostWrite a (toLe 4 s.mirNext), .hostWrite (a + 4) (s.mirBytes time 1 0xF), .hostWrite (a + 0x40) (s.mirBytes time 0x10 0x400),
   .hostWrite (a + 0x3C) (toLe 4 s.mirNext)]

/-- The mirror is switched on (R34, R350). -/
def State.mirOn (s : State) : Bool := s.runs 0x0D && s.rdb Reg.MIR_CTL_EN && s.mirPeriod != 0

/-- One mirror write, or the count of one that cannot be made (R350). -/
def State.mirrorAt (s : State) (time : Nat) : State :=
  if s.mirOn then
    if s.dmaOk ∧ s.rd Reg.MIR_BASE % 4096 = 0 then
      let t := { s with outbox := s.outbox ++ s.mirEmits time }
      (t.wr Reg.MIR_SEQ_SEQ s.mirNext).wr Reg.MIR_LAST_EPOCH (epochOf (time / subPerNs))
    else s.trb 0x0D 3
  else s

/-- A mirror write falls due in epoch e (R350). -/
def State.mirDue (s : State) (e : Nat) : Bool := e % max 1 s.mirPeriod == 0

/-! ## Meaning -/

/-- MIRROR_WRITE: pitch 0 of an epoch that PERIOD divides (R350, R351). -/
def execMirrorWrite (s : State) : Host.Outcome State Fault Refusal :=
  .next (if s.pitch = 0 ∧ s.mirDue s.epoch then s.mirrorAt (s.ns / 125000 * 125000 * subPerNs) else s)

end Sys2Proof.Machine
end

