-- ==== Sys2Proof/Machine/Pmu.lean ====
section
/-! DEFINITION. Pmu: fault windows' own registers and the PMU's commands (R442 to R444). -/
namespace Sys2Proof.Machine

/-- A write of FWIN_n_CFG ends the current window, then takes the value; the next window holds the next epoch boundary,
so that boundary does not end it (R443). -/
def State.fwinCfg (s : State) (pg n v : Nat) : State :=
  let s := s.windowEnd pg n
  let s := { s with pmu := { s.pmu with fwinFrom := s.pmu.fwinFrom.insert (4 * pg + n) (s.epoch + 1) } }
  ((s.wrp pg Reg.FWIN_n_CFG_EVENT n (bits v 3 0)).wrp pg Reg.FWIN_n_CFG_LEN n (bits v 23 8)).wrp pg
    Reg.FWIN_n_CFG_THRESH n (bits v 31 24)

/-- FWIN_n_STAT; the read clears TRANSIENT (R30, R443). -/
def State.fwinStatTake (s : State) (pg n : Nat) : Nat × State :=
  (s.rdp pg Reg.FWIN_n_STAT_TRANSIENT n + 65536 * s.rdp pg Reg.FWIN_n_STAT_CUR n
    + 2 ^ 31 * s.rdp pg Reg.FWIN_n_STAT_DECLARED n, s.wrp pg Reg.FWIN_n_STAT_TRANSIENT n 0)

/-- The boundary that the device has reached ends window n of a page: its length divides the epoch number (R442), and the
window was not begun by a write in the epoch before (R443). -/
def State.windowDue (s : State) (pg n : Nat) : Bool :=
  let len := s.rdp pg Reg.FWIN_n_CFG_LEN n
  len != 0 && s.epoch % len == 0 && s.pmu.fwinFrom.lookup (4 * pg + n) != some s.epoch

/-- Every window whose end lies in the skipped epochs after e0 up to e1 ends once (R56, R443). -/
def State.windowsSkipped (s : State) (e0 e1 : Nat) : State :=
  allPages.foldl (fun t pg => (List.range 4).foldl (fun t n =>
    let len := t.rdp pg Reg.FWIN_n_CFG_LEN n
    let from_ := if t.pmu.fwinFrom.lookup (4 * pg + n) = some (e0 + 1) then e0 + 1 else e0
    if len ≠ 0 ∧ from_ / len < e1 / len then t.windowEnd pg n else t) t) s

/-- Set every PMU value and WRAP to 0 (R436). -/
def State.pmuClear (s : State) : State := { s with pmu := { s.pmu with val := [], wrap := [] } }

/-- A write of the value of the counter that PMU_IDX names: the high dword takes effect with the low one, and WRAP clears
(R38, R436). -/
def State.pmuValue (s : State) (m : Master) (hi : Bool) (v : Nat) : State :=
  if hi then
    let n := s.rd Reg.PMU_IDX_IDX
    { s with pmu := { s.pmu with
        val := s.pmu.val.set 0 n (v % 256 * 2 ^ 32 + s.lowOf m 0x9110), wrap := without s.pmu.wrap n } }
  else s.keepLow m 0x9110 v

/-! ## Meanings -/

/-- FAULT_WINDOW_END: the boundary that ends a window (R442). -/
def execFaultWindowEnd (page n : Nat) (s : State) : Host.Outcome State Fault Refusal :=
  .next (if (blockOf page).isSome ∧ n < 4 ∧ s.windowDue page n then s.windowEnd page n else s)

/-- FWIN_CFG_WRITE (R443). -/
def execFwinCfgWrite (m : Master) (page n : Nat) (v : Word) (s : State) : Host.Outcome State Fault Refusal :=
  .next (if n < 4 then s.onWrite m page (0x40 + 8 * n) (fun t => t.fwinCfg page n v.toNat) else s)

/-- FWIN_STAT_READ (R443). -/
def execFwinStatRead (m : Master) (page n : Nat) (s : State) : Host.Outcome State Fault Refusal :=
  .next (if n < 4 then s.onRead m page (0x44 + 8 * n) (fun t => t.fwinStatTake page n) else s)

/-- PMU_CLEAR_ALL (R436). -/
def execPmuClearAll (m : Master) (s : State) : Host.Outcome State Fault Refusal :=
  .next (s.onWrite m 0x09 0x100 State.pmuClear)

/-- PMU_VALUE_WRITE (R436). -/
def execPmuValueWrite (m : Master) (hi : Bool) (v : Word) (s : State) : Host.Outcome State Fault Refusal :=
  .next (s.onWrite m 0x09 (if hi then 0x114 else 0x110) (fun t => t.pmuValue m hi v.toNat))

/-- A write of TRB_k: a half written as 0 clears its counter (R31). -/
def State.trbWrite (s : State) (pg k v : Nat) : State :=
  let s := if v % 65536 = 0 then s.wrp pg Reg.TRB_k_CNT_LO k 0 else s
  if v / 65536 % 65536 = 0 then s.wrp pg Reg.TRB_k_CNT_HI k 0 else s

/-- TRB_WRITE (R31). -/
def execTrbWrite (m : Master) (page k : Nat) (v : Word) (s : State) : Host.Outcome State Fault Refusal :=
  .next (if k < 8 then s.onWrite m page (0x20 + 4 * k) (fun t => t.trbWrite page k v.toNat) else s)

end Sys2Proof.Machine
end

