-- ==== Sys2Proof/Machine/Cairn.lean ====
section
/-! DEFINITION. Cairn: posting, cancelling and committing cairns, forward steps, retirement of banks, fabric-wide cairns
(R35, R40, R55, R56, R65 to R81). -/
namespace Sys2Proof.Machine

/-! ## The log and the slots (R66, R80, R81) -/

/-- The master of a posting slot (R66). -/
def slotMaster (slot : Nat) : Master := if slot = 0 then .host else coreMaster (slot - 1)

/-- Put an entry into the log; it holds the 16 newest (R81). -/
def State.crnLog (s : State) (e : CrnLog) : State := { s with cairn := { s.cairn with log := (e :: s.cairn.log).take 16 } }

/-- The outcome that a slot shows (R66, R80). -/
def State.crnResult (s : State) (slot seq status : Nat) : State :=
  ((s.wri Reg.CRN_Pm_RESULT_SEQ slot seq).wri Reg.CRN_Pm_RESULT_STATUS slot status).wri Reg.CRN_Pm_RESULT_DONE slot 1

/-- The mask of a slot (R80). -/
def State.slotMask (s : State) (slot : Nat) : Nat :=
  s.rdi Reg.CRN_Pm_MASK_0_GROUPS slot + s.rdi Reg.CRN_Pm_MASK_1_GROUPS slot * 2 ^ 32
    + s.rdi Reg.CRN_Pm_MASK_2_GROUPS slot * 2 ^ 64 + s.rdi Reg.CRN_Pm_MASK_3_GROUPS slot * 2 ^ 96

/-- The groups that CORE3 may name (R80). -/
def State.agentMask (s : State) : Nat := ((List.range 4).map (fun k => s.rdi Reg.CRN_AGENT_MASK_k_GROUPS k * 2 ^ (32 * k))).sum

/-- A page of the mask drains, or an armed cairn covers its group (R66, check 5). -/
def State.crnBusy (s : State) (mask : Nat) : Bool := (maskPages mask).any (fun p => s.draining p || (s.armedFor p).isSome)

/-- A LATE outcome, on every page in the mask (R66, R32). -/
def State.crnLate (s : State) (mask : Nat) : State :=
  ((maskPages mask).foldl (fun t p => (t.wrp p Reg.PG_STAT_CAIRN_LATE 0 1).trb p 1) s).evt 0x16 1

/-- A BUSY outcome, on every page in the mask (R66, R32). -/
def State.crnBusyOut (s : State) (mask : Nat) : State :=
  ((maskPages mask).foldl (fun t p => (t.wrp p Reg.PG_STAT_CAIRN_BUSY 0 1).trb p 2) s).evt 0x16 2

/-- A FULL outcome (R66). -/
def State.crnFull (s : State) : State := (s.trb 0x16 3).evt 0x16 3

/-- The first check that a posting fails, as a status of R81; 0 arms it (R66). -/
def State.postStatus (s : State) (slot target mask : Nat) (scope : Bool) : Nat :=
  if s.rst.headless then 5
  else if slot = 4 ∧ mask &&& s.agentMask ≠ mask then 6
  else if scope ∧ ¬ s.rdb Reg.CRN_CTL_FAB_EN then 9
  else if target ≤ s.epoch + (if scope then 64 else 4) then 2
  else if s.crnBusy mask then 3
  else if 32 ≤ s.cairn.armed.length then 4
  else 0

/-- What a refusal leaves on pages and counters (R66). -/
def State.postRefused (s : State) (status mask : Nat) : State :=
  if status = 5 then s.trb 0x16 4
  else if status = 2 then s.crnLate mask
  else if status = 3 then s.crnBusyOut mask
  else if status = 4 then s.crnFull
  else s

/-- The payload of a CAIRN cell (R75, R283). -/
def cairnPayload (a : Armed) : Bytes :=
  toBe 2 a.origin ++ toBe 2 a.seq ++ toBe 6 a.target
    ++ [0, 1, 2, 3].flatMap (fun k => toBe 4 (bits a.mask (32 * k + 31) (32 * k)))

/-- A CAIRN cell leaves on every up link but one (R75). -/
def State.cairnCells (s : State) (a : Armed) (except : Option Nat) : State :=
  (s.upLinks.filter (fun n => some n != except)).foldl (fun t n => t.cellOut n (controlCell 4 n (cairnPayload a))) s

/-- Arm a cairn, last in posting order. -/
def State.arm (s : State) (a : Armed) : State := { s with cairn := { s.cairn with armed := s.cairn.armed ++ [a] } }

/-- Record an (origin, sequence) pair (R75). -/
def State.seePair (s : State) (origin seq : Nat) : State :=
  { s with cairn := { s.cairn with seen := (origin, seq) :: s.cairn.seen } }

/-- A cairn is armed on this device: on the list, and a fabric-wide one on every up link (R66, R75). -/
def State.armOwn (s : State) (a : Armed) : State :=
  if a.scope then ((s.arm a).seePair a.origin a.seq).cairnCells a none else s.arm a

/-- Submit the contents of a slot (R66, R67). -/
def State.post (s : State) (slot : Nat) : State :=
  let target := s.rdi Reg.CRN_Pm_TGT_LO_TARGET slot + s.rdi Reg.CRN_Pm_TGT_HI_TARGET slot * 2 ^ 32
  let scope := s.rdi Reg.CRN_Pm_TGT_HI_SCOPE slot == 1
  let mask := s.slotMask slot
  let seq := s.rd Reg.CRN_STAT_NEXT_SEQ
  let status := s.postStatus slot target mask scope
  let a : Armed := { seq := seq, target := target, scope := scope, mask := mask, origin := s.devId, remote := false,
                     arrival := s.epoch, nextRepeat := s.epoch + 8 }
  let e : CrnLog := { target := target, seq := seq, mask := mask, status := status, scope := scope, remote := false,
                      origin := s.devId, arrival := s.epoch }
  let t := if status = 0 then s.armOwn a else s.postRefused status mask
  ((t.wr Reg.CRN_STAT_NEXT_SEQ (seq + 1)).crnLog e).crnResult slot seq status

/-! ## Cancelling (R71) -/

/-- Change the status of the log entry of an armed cairn (R81). -/
def State.logStatus (s : State) (a : Armed) (status : Nat) : State :=
  { s with cairn := { s.cairn with log := s.cairn.log.map (fun e =>
      if e.status = 0 ∧ e.seq = a.seq ∧ e.origin = a.origin ∧ e.remote = a.remote ∧ e.target = a.target then { e with status := status }
      else e) } }

/-- Take a cairn off the armed list. -/
def State.disarm (s : State) (a : Armed) : State :=
  { s with cairn := { s.cairn with armed := s.cairn.armed.filter (fun x => x != a) } }

/-- The armed cairn that a sequence ID names: a posting of this device, before a peer's (R71). -/
def State.armedSeq (s : State) (seq : Nat) : Option Armed :=
  match s.cairn.armed.find? (fun a => a.seq == seq && !a.remote) with
  | some a => some a
  | none => s.cairn.armed.find? (fun a => a.seq == seq)

/-- A cancel from a slot (R71). -/
def State.cancel (s : State) (slot seq : Nat) : State :=
  let found := s.armedSeq seq
  let ok := match found with
    | some a => !a.scope && !a.remote && decide (s.epoch + 1 < a.target)
    | none => false
  let status := if ok then 7 else 0xA
  let e : CrnLog := match found with
    | some a => { target := a.target, seq := seq, mask := a.mask, status := status, scope := a.scope, remote := false, origin := s.devId,
                  arrival := s.epoch }
    | none => { target := 0, seq := seq, mask := 0, status := status, scope := false, remote := false, origin := s.devId, arrival := s.epoch }
  let t := match found with
    | some a => if ok then (s.logStatus a 7).disarm a else s
    | none => s
  (t.crnLog e).crnResult slot seq status

/-- A write of CRN_Pm_GO: only the slot's own master's counts, POST and CANCEL together do nothing (R66, R71, R80). -/
def State.crnGo (s : State) (m : Master) (slot v : Nat) : State :=
  if m ≠ slotMaster slot then s.trb 0x16 6
  else if v % 4 = 1 then s.post slot
  else if v % 4 = 2 then s.cancel slot (bits v 31 16)
  else s

/-! ## Fabric-wide cairns (R75, R76) -/

/-- The outcome of a remote cairn (R76). -/
def State.remoteStatus (s : State) (c : CairnCell) : Nat :=
  if c.target ≤ s.epoch + 1 then 2 else if s.crnBusy c.mask then 3 else if 32 ≤ s.cairn.armed.length then 4 else 0

/-- A CAIRN cell arrives (R75, R76). -/
def State.cairnIn (s : State) (link : Nat) (c : CairnCell) : State :=
  let a : Armed := { seq := c.seq, target := c.target, scope := true, mask := c.mask, origin := c.origin, remote := true,
                     arrival := s.epoch, nextRepeat := c.target }
  if ¬ s.rdb Reg.CRN_CTL_FAB_EN ∨ s.cairn.seen.contains (c.origin, c.seq) then s
  else if s.rst.headless then (s.trb 0x16 4).cairnCells a (some link)
  else
    let status := s.remoteStatus c
    let s := s.seePair c.origin c.seq
    let t := if status = 0 then s.arm a else ((s.postRefused status c.mask).trb 0x16 5).evt 0x16 4
    let e : CrnLog := { target := c.target, seq := c.seq, mask := c.mask, status := status, scope := true, remote := true,
                        origin := c.origin, arrival := s.epoch }
    (t.crnLog e).cairnCells a (some link)

/-- Replace an armed cairn. -/
def State.setArmed (s : State) (a b : Armed) : State :=
  { s with cairn := { s.cairn with armed := s.cairn.armed.map (fun x => if x = a then b else x) } }

/-- A repeat falls due at the origin (R75): it is sent while 8 epochs remain, and never again once it fell due with FAB_EN 0. -/
def State.crnRepeat (s : State) (seq : Nat) : State :=
  match s.cairn.armed.find? (fun a => a.seq == seq && a.scope && !a.remote) with
  | none => s
  | some a =>
    if s.epoch < a.nextRepeat ∨ a.target < s.epoch + 8 then s
    else if ¬ s.rdb Reg.CRN_CTL_FAB_EN then s.setArmed a { a with nextRepeat := a.target }
    else (s.setArmed a { a with nextRepeat := a.nextRepeat + 8 }).cairnCells a none

/-! ## Banks at a commit (R69, R70, R73, R74) -/

/-- A valid staged artifact becomes active with the page's next generation; the old bank retires (R69, R73). -/
def Banked.commit {α : Type} (b : Banked α) (gen target : Nat) : Banked α :=
  match b.staged with
  | some x => { active := { x with gen := gen }, staged := none, retiring := some (b.active, target) }
  | none => b

/-- Swap every structure of a page whose staged bank holds a valid artifact (R65, R69). -/
def State.swapBanks (s : State) (p gen target : Nat) : State :=
  let b := s.banks
  { s with banks :=
      if p = 0x01 then { b with plan := b.plan.commit gen target }
      else if p = 0x30 then { b with parse := b.parse.commit gen target }
      else if p = 0x32 then { b with sets := b.sets.map (fun x => x.commit gen target) }
      else if p = 0x33 then { b with lpm := b.lpm.commit gen target }
      else if p = 0x37 then { b with tmpl := b.tmpl.commit gen target }
      else if p = 0x53 then { b with cals := b.cals.map (fun e => (e.1, e.2.commit gen target)) }
      else if p = 0x56 then { b with cycs := b.cycs.map (fun e => (e.1, e.2.commit gen target)) }
      else if p = 0x71 then { b with frt := b.frt.commit gen target }
      else if p = 0x7A then { b with fmc := b.fmc.commit gen target }
      else b }

/-- The banks of a page at E+0: nothing happens to a page that is off, or without a valid staged artifact (R45, R70, R73). -/
def State.commitBanks (s : State) (p target : Nat) : State :=
  if s.hasStagedBank p ∧ s.pagePowered p then
    (s.swapBanks p (nextGen (s.pageGen p)) target).wrp p Reg.PG_GEN_ACTIVE 0 (nextGen (s.pageGen p))
  else s

/-! ## Registers at a commit (R68) -/

/-- The staged fields of a page, instance by instance. -/
def rwsInstances (p : Nat) : List (Fld × Nat) :=
  ((blockFields p).filter (fun f => f.acc == .rws)).flatMap (fun f => f.instances.map (fun i => (f, i)))

/-- Every staged field of a page becomes active; a NETPG page judges its ports (R68, R103 to R105, R64). -/
def State.commitRegs (s : State) (p : Nat) : State :=
  if p = 0x11 ∨ p = 0x12 then s
  else if 0x40 ≤ p ∧ p ≤ 0x47 then (s.netpgCommit (p - 0x40)).syeAfter s
  else (rwsInstances p).foldl (fun t x => t.commitField p x.1 x.2) s

/-! ## What a commit sets in motion -/

/-- The buckets of a committed shaper keep their tokens, clipped to the new bursts (R246). -/
def State.shaperCommit (s : State) (e : Nat × Nat) : State :=
  let t := s.shaperTok e.1
  let s := { s with tab := { s.tab with shpAct := s.tab.shpAct.set shaperReset e.1 e.2, shpStg := s.tab.shpStg.erase e.1 } }
  let r := s.shaper e.1
  s.setShaperTok e.1 (refill r.cir r.cbs t.1 0) (refill r.pir r.pbs t.2 0)

/-- The map tables of group 0x53 (R246). -/
def State.mapsCommit (s : State) : State :=
  let k := s.tab
  { s with tab := { k with snAct := k.snStg.foldl (fun m e => SMap.set m (snReset e.1) e.1 e.2) k.snAct,
                           anAct := k.anStg.foldl (fun m e => SMap.set m (anReset e.1) e.1 e.2) k.anAct, snStg := [], anStg := [] } }

/-- The walk of a port whose calendar has been replaced starts with the pitch that runs (R69, R237, R243). -/
def State.calendarCommit (s : State) (p : Nat) : State :=
  let t := s.setSch p { s.sch p with todo := [], visit := none, ropePtr := [] }
  if t.time.pitchDone = t.ns / 500 then t.schedPitch p else t

/-- What follows the commit of a group, from the state before it (R84, R206, R246, R261, R267, R279, R327). -/
def State.afterCommit (before s : State) (p : Nat) : State :=
  if p = 0x13 then s.spnModeCommit (before.rd Reg.SPN_MODE_MODE) (s.rd Reg.SPN_MODE_MODE)
  else if p = 0x17 then s.pairSettle
  else if p = 0x53 ∧ s.pagePowered p then
    (before.banks.cals.filter (fun e => e.2.staged.isSome)).foldl (fun t e => t.calendarCommit e.1) s.mapsCommit
  else if p = 0x54 ∧ s.pagePowered p then s.tab.shpStg.foldl State.shaperCommit s
  else if p = 0x56 ∧ s.pagePowered p then
    (List.range 160).foldl (fun t n =>
      let newList := (before.cyc n).staged.isSome
      let cfg := [Reg.GATE_CFG_p_CYC_CLASSES, Reg.GATE_CFG_p_TT_CLASSES].any (fun f => (before.regs.staged.lookup (fkey 0x56 f n)).isSome)
      if newList ∨ cfg then t.gateCommit n newList cfg else t) s
  else if p = 0x57 ∧ s.pagePowered p then s.watchCommit
  else if p = 0x68 then (if before.refreshPhase = s.refreshPhase then s else s.openWindows)
  else if p = 0x3A then
    (if before.rd Reg.SHD_LPM_GEN_GEN = s.rd Reg.SHD_LPM_GEN_GEN then s else s.wr Reg.SHD_LPM_POS_K 0)
  else s

/-- One group at E+0 (R65, R68, R69). -/
def State.commitGroup (target : Nat) (s : State) (p : Nat) : State := State.afterCommit s ((s.commitRegs p).commitBanks p target) p

/-- A plan, a mode request and a firmware activation of the same cairn, in this order (R409, R396, R414). -/
def State.commitModes (before s : State) (mask : Nat) : State :=
  let s := if maskHas mask 0x01 ∧ before.banks.plan.staged.isSome ∧ s.banks.plan.staged.isNone then s.planApply else s
  let s := if maskHas mask 0x00 then s.modeReq (s.rd Reg.TOP_MODE_REQ) else s
  if maskHas mask 0x07 then s.armCommit else s

/-! ## Forward steps (R55, R56, R273, R443) -/

/-- The pitches after one time up to another hold a refresh pitch (R327). -/
def State.refreshSkipped (s : State) (old new : Nat) : Bool :=
  decide (old / 500 + 5 ≤ new / 500) || (List.range (new / 500 - old / 500)).any (fun i => (old / 500 + 1 + i) % 250 % 5 == s.refreshPhase)

/-- Settle what falls into the time that a step from `old` ns skips (R56). -/
def State.settleStep (s : State) (old : Nat) : State :=
  let s := (List.range 160).foldl (fun t p => t.gateSkip old p) s
  let s := (s.windowsSkipped (old / 125000) (s.ns / 125000)).latSkip old
  let s := if old / 1000000000 < s.ns / 1000000000 then s.ppsPulse else s
  if s.refreshSkipped old s.ns then s.openWindows else s

/-- A committed step: every channel adds it at once, both copies clear (R55). -/
def State.applyStep (s : State) (target : Nat) : State :=
  let n := s.rd Reg.TIM_STEP_LO_NS + s.rd Reg.TIM_STEP_HI_NS * 2 ^ 32
  if n = 0 then s
  else
    let old := s.ns
    let d := n * subPerNs
    let s := (((s.wr Reg.TIM_STEP_LO_NS 0).wr Reg.TIM_STEP_HI_NS 0).dropStg 0x10 Reg.TIM_STEP_LO_NS 0).dropStg 0x10 Reg.TIM_STEP_HI_NS 0
    let s := { s with time := { s.time with
        chA := { s.time.chA with time := s.time.chA.time + d }
        chB := { s.time.chB with time := s.time.chB.time + d }
        chC := { s.time.chC with time := s.time.chC.time + d }
        stepEpoch := target } }
    s.settleStep old

/-! ## Commit (R68 to R70) -/

/-- Commit one cairn: its groups in page order, what they set in motion, its log entry (R68, R70, R80). -/
def State.commitOne (s : State) (a : Armed) : State :=
  let t := s.disarm a
  let u := (maskPages a.mask).foldl (State.commitGroup a.target) t
  let u := State.commitModes t u a.mask
  let u := if maskHas a.mask 0x10 then u.applyStep a.target else u
  let u := if u.rdb Reg.SEC_STAT_ATT_BUSY then { u with sec := { u.sec with attDirty := true } } else u
  (u.logStatus a 1).evt 0x16 0

/-- Commit every armed cairn whose target has come, in posting order; a step may bring more (R56, R70). -/
def State.commitDue (fuel : Nat) (s : State) : State :=
  match fuel with
  | 0 => s
  | k + 1 =>
    match s.cairn.armed.find? (fun a => decide (a.target ≤ s.epoch)) with
    | some a => State.commitDue k (s.commitOne a)
    | none => s

/-- What a step leaves to do once in the pitch and the epoch that it led to (R56). -/
def State.afterStep (s : State) (old : Nat) : State :=
  if s.ns = old then s
  else
    let t := if s.time.epochDone < s.ns / 125000 then s.epochDuties else s
    let t := if t.time.pitchDone < t.ns / 500 then t.pitchDuties else t
    if (List.range (min 4096 (s.ns / 125000 - old / 125000))).any (fun i => t.mirDue (old / 125000 + 1 + i)) then t.mirrorAt t.sub else t

/-- The commits that are due. -/
def State.commitAll (s : State) : State := (State.commitDue s.cairn.armed.length s).afterStep s.ns

/-! ## Retirement (R74) -/

/-- Epochs from a swap to the earliest retirement of a page's banks (R74). -/
def retireAfter (p : Nat) : Nat := if p = 0x71 ∨ p = 0x7A then 64 else 1

/-- Retire a bank whose earliest boundary has passed (R74). -/
def Banked.retire {α : Type} (b : Banked α) (after epoch : Nat) : Banked α :=
  match b.retiring with
  | some (_, t) => if t + after ≤ epoch then { b with retiring := none } else b
  | none => b

/-- Retire the banks of a page that nothing uses any more (R74). -/
def State.retire (s : State) (p : Nat) : State :=
  if s.drainCount p = 0 then
    let b := s.banks
    let n := retireAfter p
    let e := s.epoch
    { s with banks :=
        if p = 0x01 then { b with plan := b.plan.retire n e }
        else if p = 0x30 then { b with parse := b.parse.retire n e }
        else if p = 0x32 then { b with sets := b.sets.map (fun x => x.retire n e) }
        else if p = 0x33 then { b with lpm := b.lpm.retire n e }
        else if p = 0x37 then { b with tmpl := b.tmpl.retire n e }
        else if p = 0x53 then { b with cals := b.cals.map (fun x => (x.1, x.2.retire n e)) }
        else if p = 0x56 then { b with cycs := b.cycs.map (fun x => (x.1, x.2.retire n e)) }
        else if p = 0x71 then { b with frt := b.frt.retire n e }
        else if p = 0x7A then { b with fmc := b.fmc.retire n e }
        else b }
  else s

/-! ## Meanings -/

/-- CAIRN_POST: a write of CRN_Pm_GO.POST (R66, R67). -/
def execCairnPost (m : Master) (slot : Nat) (s : State) : Host.Outcome State Fault Refusal :=
  .next (if slot < 5 then s.onWrite m 0x16 (0x118 + 0x20 * slot) (fun t => t.crnGo m slot 1) else s)

/-- CAIRN_CANCEL: a write of CRN_Pm_GO.CANCEL with SEQ (R71). -/
def execCairnCancel (m : Master) (slot seq : Nat) (s : State) : Host.Outcome State Fault Refusal :=
  .next (if slot < 5 then s.onWrite m 0x16 (0x118 + 0x20 * slot) (fun t => t.crnGo m slot (2 + seq % 65536 * 65536)) else s)

/-- CAIRN_COMMIT: E+0 of every armed cairn whose target has come (R56, R68 to R70). -/
def execCairnCommit (s : State) : Host.Outcome State Fault Refusal := .next (if s.pagePowered 0x16 then s.commitAll else s)

/-- BANK_RETIRE (R74). -/
def execBankRetire (page : Nat) (s : State) : Host.Outcome State Fault Refusal := .next (s.retire page)

/-- CAIRN_REPEAT (R75). -/
def execCairnRepeat (seq : Nat) (s : State) : Host.Outcome State Fault Refusal := .next (s.crnRepeat seq)

/-- CAIRN_CELL_RECEIVED: on a link that is UP (R75, R76, R285). -/
def execCairnCellReceived (link : Nat) (c : CairnCell) (s : State) : Host.Outcome State Fault Refusal :=
  .next (if s.linkIsUp link ∧ s.pagePowered 0x16 then s.cairnIn link c else s)

end Sys2Proof.Machine
end

