-- ==== Sys2Proof/Machine/Registers.lean ====
section
/-! DEFINITION. Registers: a dword written to or read from a page (R22 to R38): the registers that act when they are
written or read, and every other field by its access code. -/
namespace Sys2Proof.Machine

/-! ## Fields by their access code (R26, R35, R38) -/

/-- The fields that a dword of a page holds, each with its instance and which of the instance's dwords it is. -/
def fieldsAt (p off : Nat) : List (Fld × Nat × Nat) := (pageFields p).filterMap (fun f => (f.instAt off).map (fun x => (f, x)))

/-- A field of two dwords (R37). -/
def Fld.wide (f : Fld) : Bool := decide (32 ≤ f.hi)

/-- Store a value in a field as its access code says (R26). -/
def State.store (s : State) (p : Nat) (f : Fld) (i v : Nat) : State :=
  match f.acc with
  | .rw => s.wrp p f i v
  | .rws => s.wrStg p f i v
  | .w1c => s.wrp p f i (s.rdp p f i - (s.rdp p f i &&& v))
  | _ => s

/-- The address that names a wide field's low dword (R38). -/
def lowAddr (p : Nat) (f : Fld) (i : Nat) : Nat := p * 4096 + f.off + f.stride * i

/-- Dword k of instance i of a field takes a value; a wide field takes effect with its high dword (R38). -/
def State.writeFld (s : State) (m : Master) (p : Nat) (v : Nat) (h : Fld × Nat × Nat) : State :=
  if ¬ h.1.wide then s.store p h.1 h.2.1 (bits v h.1.hi h.1.lo)
  else if h.2.2 = 0 then s.keepLow m (lowAddr p h.1 h.2.1) v
  else s.store p h.1 h.2.1 (s.lowOf m (lowAddr p h.1 h.2.1) + v * 2 ^ 32)

/-- A dword write by access code: staged fields that are frozen keep their copy, and the write counts once (R26, R35).
TIMB and TIMC take no control writes (R62). -/
def State.writeFields (s : State) (m : Master) (p off v : Nat) : State :=
  if (p = 0x11 ∨ p = 0x12) ∧ 0x100 ≤ off then s
  else
    let l := fieldsAt p off
    if s.frozen p && l.any (fun h => h.1.acc == .rws) then
      (l.filter (fun h => h.1.acc != .rws)).foldl (fun t h => t.writeFld m p v h) (s.trb p 0)
    else l.foldl (fun t h => t.writeFld m p v h) s

/-! ## PG_CTRL (R30, R34) -/

/-- Ports of a page that an idle page holds down (R34). -/
def heldPorts (p : Nat) : List Nat :=
  if 0x40 ≤ p ∧ p ≤ 0x47 then (List.range 16).map (fun j => 16 * (p - 0x40) + j)
  else if 0x48 ≤ p ∧ p ≤ 0x4B then (List.range 32).map (fun j => 32 * (p - 0x48) + j)
  else []

/-- A write of PG_CTRL.BLK_EN: blocks that never idle take no 0 (R34). Links, ports, shaper buckets and SyncE outputs
follow. -/
def State.blkEnSet (s : State) (p : Nat) (en : Bool) : State :=
  if neverIdle p ∧ ¬ en then s
  else
    let s := if p = 0x54 then s.shapersSettle else s
    let t := s.wrp p Reg.PG_CTRL_BLK_EN 0 (b01 en)
    let t := if 0x72 ≤ p ∧ p ≤ 0x79 then t.linksSettle
             else if en then t else (heldPorts p).foldl State.portDown t
    State.syeAfter t s

/-- A write of PG_CTRL (R30). -/
def State.pgCtrl (s : State) (p v : Nat) : State :=
  let t := (s.blkEnSet p (bitN v 0 == 1)).wrp p Reg.PG_CTRL_BANK_VIEW 0 (bitN v 4)
  if bitN v 1 = 1 then t.blockBegin p else t

/-! ## Window swaps requested (R359) -/

/-- A write of WIN_SWAP: a window already pending counts. -/
def State.winSwapReq (s : State) (v : Nat) : State :=
  (bitsSet v 8).foldl (fun t n =>
    let pend := t.rd Reg.WIN_STAT_PENDING
    if bitN pend n = 1 then t.trb 0x0E 7 else t.wr Reg.WIN_STAT_PENDING (pend + 2 ^ n)) s

/-- A write to the window page (R359, R364). -/
def State.writeWin (s : State) (m : Master) (off v : Nat) : State :=
  if off = 0x200 then s.winSwapReq v
  else if 0x100 ≤ off ∧ off < 0x200 ∧ off % 32 < 0x10 ∧ bitN (s.rd Reg.WIN_STAT_PENDING) ((off - 0x100) / 32) = 1 then s.trb 0x0E 7
  else s.writeFields m 0x0E off v

/-! ## Registers that act when they are written -/

/-- The header (R30, R31, R442). -/
def State.writeHdr (s : State) (m : Master) (p off v : Nat) : State :=
  if off = 0x008 then s.pgCtrl p v
  else if 0x020 ≤ off ∧ off < 0x040 then s.trbWrite p ((off - 0x020) / 4) v
  else if 0x040 ≤ off ∧ off < 0x060 ∧ off % 8 = 0 then s.fwinCfg p ((off - 0x040) / 8) v
  else s.writeFields m p off v

/-- SEC and BOOT (R404, R405). -/
def State.writeTrust (s : State) (m : Master) (p off v : Nat) : State :=
  if p = 0x06 ∧ off = 0x100 then
    let s := if bitN v 0 = 1 then s.attest else s
    if bitN v 1 = 1 then s.fuseCommit else s
  else if p = 0x07 ∧ off = 0x100 then
    let s := if bitN v 0 = 1 ∧ (m = .host ∨ m = .core0) then s.traverseBegin else s
    let s := if bitN v 1 = 1 ∧ m = .core0 then s.headlessEnd else s
    if bitN v 2 = 1 then s.unstage else s
  else s.writeFields m p off v

/-- ICU and MGT (R379, R380): RESET, HALT and the agent's permissions are the host's and CORE0's. -/
def State.writeMgmt (s : State) (m : Master) (p off v : Nat) : State :=
  let c := (off - 0x100) / 16
  if p = 0x08 then
    if 0x110 ≤ off ∧ off < 0x150 ∧ off % 16 = 4 then s.icuDone (c - 1) (v % 65536)
    else if off = 0x1F0 then s.doorbell (v % 256)
    else s.writeFields m p off v
  else if 0x100 ≤ off ∧ off < 0x140 ∧ off % 16 = 0 then
    let s := if bitN v 0 = 1 then s.coreResetCmd m c else s
    s.coreHaltCmd m c (bitN v 1 == 1)
  else if 0x100 ≤ off ∧ off < 0x140 ∧ off % 16 = 0xC then (if bitN v 0 = 1 then s.kick c else s)
  else if 0x140 ≤ off ∧ off < 0x170 ∧ m ≠ .host ∧ m ≠ .core0 then s
  else s.writeFields m p off v

/-- PMU (R437). -/
def State.writePmu (s : State) (m : Master) (off v : Nat) : State :=
  let n := s.rd Reg.PMU_IDX_IDX
  if off = 0x100 then
    let s := s.writeFields m 0x09 off v
    if bitN v 2 = 1 then s.pmuClear else s
  else if off = 0x108 then { s with pmu := { s.pmu with cfg := s.pmu.cfg.set 0xE0000 n (v % 2 ^ 25) } }
  else if off = 0x10C then { s with pmu := { s.pmu with filt := s.pmu.filt.set 0xFF03FF n (v &&& 0xFF03FF) } }
  else if off = 0x110 ∨ off = 0x114 then s.pmuValue m (off == 0x114) v
  else if 0x120 ≤ off ∧ off < 0x160 then
    let k := (off - 0x120) / 4
    { s with pmu := { s.pmu with wrap := s.pmu.wrap.filter (fun x => !(x / 32 == k && bitN v (x % 32) == 1)) } }
  else s.writeFields m 0x09 off v

/-- The top, host and power pages: TOP, SEC, BOOT, ICU, PMU, MGT, HIF, WIN. -/
def State.writeSystem (s : State) (m : Master) (p off v : Nat) : State :=
  if p = 0x00 ∧ off = 0x104 then
    let s := s.goto (v % 8)
    if bitN v 8 = 1 then s.warmBegin 2 else s
  else if p = 0x06 ∨ p = 0x07 then s.writeTrust m p off v
  else if p = 0x08 ∨ p = 0x0A then s.writeMgmt m p off v
  else if p = 0x09 then s.writePmu m off v
  else if p = 0x0B ∧ off = 0x104 then
    let s := if bitN v 0 = 1 then s.containRelease else s
    if bitN v 1 = 1 then s.containEnter 6 else s
  else if p = 0x0E then s.writeWin m off v
  else s.writeFields m p off v

/-- PTP's registers of one port (R63). -/
def State.writePtp (s : State) (m : Master) (off v : Nat) : State :=
  let n := s.rd Reg.PTP_PORT_SEL_PORT
  if off = 0x108 then (if n < 128 then { s with time := { s.time with ptpPort := s.time.ptpPort.set 0 n (v % 8) } } else s)
  else if off = 0x10C then (if n < 128 then { s with time := { s.time with ptpLat := s.time.ptpLat.set 0 n v } } else s)
  else s.writeFields m 0x14 off v

/-- CRN (R66, R80): a posting slot is its master's, AGENT_MASK the host's and CORE0's. -/
def State.writeCrn (s : State) (m : Master) (off v : Nat) : State :=
  if 0x100 ≤ off ∧ off < 0x1A0 then
    let slot := (off - 0x100) / 32
    if m ≠ slotMaster slot then s.trb 0x16 6
    else if off % 32 = 0x18 then s.crnGo m slot v
    else s.writeFields m 0x16 off v
  else if 0x1D0 ≤ off ∧ off < 0x1E0 ∧ m ≠ .host ∧ m ≠ .core0 then s
  else s.writeFields m 0x16 off v

/-- The time, clock, cairn and pair pages: TIMA, SPN, PTP, SYE, CRN, PAIR. -/
def State.writeClocks (s : State) (m : Master) (p off v : Nat) : State :=
  if p = 0x10 ∧ off = 0x104 then s.timeCommand (v % 8) (bits v 5 4)
  else if p = 0x10 ∧ off = 0x120 then s.timeFreqWrite v
  else if p = 0x10 ∧ off = 0x124 then s.phaseWrite v
  else if p = 0x10 ∧ off = 0x174 then s.todTxPut (BitVec.ofNat 8 v)
  else if p = 0x13 ∧ off = 0x108 then
    let s := s.restartMask (v % 8)
    if bitN v 4 = 1 then s.katStart false false true else s
  else if p = 0x14 then s.writePtp m off v
  else if p = 0x15 then State.syeAfter (s.writeFields m p off v) s
  else if p = 0x16 then s.writeCrn m off v
  else if p = 0x17 ∧ off = 0x100 then (s.writeFields m p off v).pairSettle
  else if p = 0x17 ∧ off = 0x104 then s.pairCommand v
  else s.writeFields m p off v

/-- The table and buffer pages: FRAG, LRN, RCC, TDM, BPM, GATE, LAT. -/
def State.writeTables (s : State) (m : Master) (p off v : Nat) : State :=
  if p = 0x31 ∧ off = 0x120 then (if bitN v 0 = 1 then s.emptyFrag else s)
  else if p = 0x35 ∧ off = 0x120 then (if bitN v 0 = 1 then s.learnPost (bitN v 1 == 1) else s)
  else if p = 0x38 ∧ 0x100 ≤ off ∧ off < 0x110 then
    let r := (off - 0x100) / 4
    (s.rccSet r (s.rccTokens r)).writeFields m p off v
  else if p = 0x39 ∧ off = 0x120 then
    let s := s.writeFields m p off v
    if bitN v 8 = 1 then s.profileApply else s
  else if p = 0x50 ∧ off = 0x110 then (if bitN v 0 = 1 then s.poolApply else s)
  else if p = 0x56 ∧ off = 0x100 then (if bitN v 8 = 1 then s.ttCancel (v % 256) else s)
  else if p = 0x57 ∧ off = 0x118 then s.watchWrite v
  else s.writeFields m p off v

/-- The HBM, fabric and link pages. -/
def State.writeFabric (s : State) (m : Master) (p off v : Nat) : State :=
  if 0x60 ≤ p ∧ p ≤ 0x67 ∧ off = 0x100 then
    let n := p - 0x60
    if bitN v 0 = 1 ∧ (s.stackState n = 1 ∨ s.stackState n = 4) then s.setStackState n 2 else s
  else if 0x60 ≤ p ∧ p ≤ 0x67 ∧ off = 0x114 then s.dlyWrite (p - 0x60) v
  else if p = 0x70 ∧ off = 0x100 then s.fabIdWrite v
  else if p = 0x70 ∧ (off = 0x104 ∨ off = 0x108) then (s.writeFields m p off v).fabChanged
  else if 0x72 ≤ p ∧ p ≤ 0x79 ∧ 0x100 ≤ off ∧ off < 0x240 ∧ (off - 0x100) % 64 = 0 then
    let n := 5 * (p - 0x72) + (off - 0x100) / 64
    let s := (s.writeFields m p off v).linkSettle n
    if bitN v 2 = 1 then s.linkRestart n else s
  else s.writeFields m p off v

/-- A dword that reaches its page. -/
def State.writeReg (s : State) (m : Master) (p off v : Nat) : State :=
  if off < 0x100 then s.writeHdr m p off v
  else if p < 0x10 then s.writeSystem m p off v
  else if p < 0x20 then s.writeClocks m p off v
  else if p < 0x60 then s.writeTables m p off v
  else s.writeFabric m p off v

/-! ## Reading a dword (R26, R37) -/

/-- Dwords that a read of another dword latches, by page: the dword read, the dword latched, its place in the latch, the
bits latched (R62, R80, R96, R97, R396, R432, R437). -/
def latchedDwords : List (Nat × Nat × Nat × Nat × Nat) :=
  [(0x10, 0x108, 0x10C, 0, 0xFFFFFFFF), (0x10, 0x108, 0x110, 1, 0xFFFFFFFF), (0x10, 0x114, 0x118, 0, 0xFF00FFFF),
   (0x10, 0x158, 0x15C, 0, 0xFFFFFFFF), (0x10, 0x158, 0x160, 1, 0xFFFFFFFF), (0x16, 0x1C8, 0x1CC, 0, 0xFFFF),
   (0x13, 0x110, 0x114, 0, 0xFFFF), (0x17, 0x130, 0x134, 0, 0xFFFF), (0x02, 0x114, 0x118, 0, 0xFFFF),
   (0x07, 0x120, 0x124, 0, 0xFFFF), (0x09, 0x110, 0x114, 0, 0xFF)]

/-- The latched dwords of a page; TIMB and TIMC as TIMA. -/
def latchedOf (p : Nat) : List (Nat × Nat × Nat × Nat) :=
  (latchedDwords.filter (fun e => e.1 == (if p = 0x11 ∨ p = 0x12 then 0x10 else p))).map Prod.snd

/-- The latch that a dword read fills: the page's own latch of R37, or that of a register of three dwords, TIM_NOW or
TIM_PPS_CAP, which latches two (R62). -/
def latchKey (p low : Nat) : Nat :=
  if 0x10 ≤ p ∧ p ≤ 0x12 ∧ low = 0x108 then p + 0x1000 else if 0x10 ≤ p ∧ p ≤ 0x12 ∧ low = 0x158 then p + 0x2000 else p

/-- What a read of a dword latches for its master: the high dword of a wide field, or the dwords that go with it. -/
def State.latchFor (s : State) (p off : Nat) : Option Nat :=
  match (fieldsAt p off).find? (fun h => h.1.wide && h.2.2 == 0) with
  | some h => some (s.fieldView p h.1 h.2.1 / 2 ^ 32)
  | none =>
    let l := (latchedOf p).filter (fun e => e.1 == off)
    if l.isEmpty then none else some (l.map (fun e => s.viewDword p e.2.1 * 2 ^ (32 * e.2.2.1))).sum

/-- A dword as a master reads it: high dwords come from the master's latch (R37). -/
def State.seenDword (s : State) (m : Master) (p off : Nat) : Nat :=
  if (fieldsAt p off).any (fun h => h.1.wide && h.2.2 == 1) then s.latched m p % 2 ^ 32
  else
    match (latchedOf p).find? (fun e => e.2.1 == off) with
    | some e =>
      (s.viewDword p off - (s.viewDword p off &&& e.2.2.2)) + (s.latched m (latchKey p e.1) / 2 ^ (32 * e.2.2.1) &&& e.2.2.2)
    | none => s.viewDword p off

/-- A read clears the fields that clear on read (R26). -/
def State.readClear (s : State) (p off : Nat) : State :=
  ((fieldsAt p off).filter (fun h => h.1.acc == .rc)).foldl (fun t h => t.wrp p h.1 h.2.1 0) s

/-- A dword read by its fields. -/
def State.readFields (s : State) (m : Master) (p off : Nat) : Nat × State :=
  let s' := match s.latchFor p off with
    | some v => s.latchHigh m (latchKey p off) v
    | none => s
  (s.seenDword m p off, s'.readClear p off)

/-- A dword read from its page: the registers that act when they are read, and the fields of every other. -/
def State.readReg (s : State) (m : Master) (p off : Nat) : Nat × State :=
  if p = 0x06 ∧ off = 0x164 then s.fuseTake
  else if p = 0x08 ∧ 0x110 ≤ off ∧ off < 0x150 ∧ off % 16 = 0 ∧ m = coreMaster ((off - 0x110) / 16) then s.icuClaim ((off - 0x110) / 16)
  else if p = 0x10 ∧ off = 0x170 then s.todRxTake
  else if p = 0x14 ∧ 0x120 ≤ off ∧ off < 0x130 then s.tsqTake ((off - 0x120) / 4)
  else if p = 0x57 ∧ off = 0x118 then s.watchRead
  else if 0x60 ≤ p ∧ p ≤ 0x67 ∧ off = 0x114 then s.dlyRead (p - 0x60)
  else if p = 0x68 ∧ off = 0x130 then
    let q := s.rd Reg.DRQ_SEL_PORT
    (min (s.hbm.latMax.get 0 q) (2 ^ 32 - 1), { s with hbm := { s.hbm with latMax := s.hbm.latMax.set 0 q 0 } })
  else s.readFields m p off

/-- A dword read by a master: a page that is off shows PG_ID, PG_CAP and PG_STAT (R33). -/
def State.readDword (s : State) (m : Master) (p off : Nat) : State :=
  if s.access m p off 4 false = .off then (s.accessEvent m p off 0x40).emit (.readData m (s.shownDword p off % 2 ^ 32))
  else s.onRead m p off (fun t => t.readReg m p off)

/-- A dword written by a master. -/
def State.writeDword (s : State) (m : Master) (p off v : Nat) : State := s.onWrite m p off (fun t => t.writeReg m p off v)

/-- The dword at an offset completes a value of two dwords (R38). -/
def isHighDword (p off : Nat) : Bool :=
  (p == 0x09 && off == 0x114) || (fieldsAt p off).any (fun h => h.1.wide && h.2.2 == 1 && (h.1.acc == .rw || h.1.acc == .rws))

/-! ## Meanings -/

/-- REGISTER_WRITE (R22 to R28, R33, R35). -/
def execRegisterWrite (m : Master) (page off size : Nat) (v : Word) (s : State) : Host.Outcome State Fault Refusal :=
  .next (if size = 4 then s.writeDword m page off v.toNat else s.ur m page off)

/-- LOW_DWORD_READ: a dword read, and the latch that it takes (R37). -/
def execLowDwordRead (m : Master) (page off : Nat) (s : State) : Host.Outcome State Fault Refusal :=
  .next (s.readDword m page off)

/-- HIGH_DWORD_WRITE: the dword that makes a value of two dwords take effect (R38). -/
def execHighDwordWrite (m : Master) (page off : Nat) (v : Word) (s : State) : Host.Outcome State Fault Refusal :=
  .next (if isHighDword page off then s.writeDword m page off v.toNat else s)

/-- BLK_EN_WRITE (R30, R34). -/
def execBlkEnWrite (m : Master) (page : Nat) (en : Bool) (s : State) : Host.Outcome State Fault Refusal :=
  .next (s.onWrite m page 0x008 (fun t => t.blkEnSet page en))

/-- WIN_SWAP: windows are asked to take their staged copies (R359). -/
def execWinSwap (m : Master) (req : Byte) (s : State) : Host.Outcome State Fault Refusal :=
  .next (s.onWrite m 0x0E 0x200 (fun t => t.winSwapReq req.toNat))

end Sys2Proof.Machine
end

