-- ==== Sys2Proof/Machine/Tap.lean ====
section
/-! DEFINITION. Tap: the IEEE 1149.1 test access port (R461). -/
namespace Sys2Proof.Machine

/-- The TAP controller's next state, by the state codes of IEEE 1149.1: 15 Test-Logic-Reset, 12 Run-Test/Idle; 7, 6, 2, 1,
3, 0, 5 the DR column from Select to Update; 4, 14, 10, 9, 11, 8, 13 the IR column. -/
def tapNext (st : Nat) (tms : Bool) : Nat :=
  if tms then [5, 5, 1, 0, 15, 7, 1, 4, 13, 13, 9, 8, 7, 7, 9, 15].getD st 15
  else [2, 3, 2, 3, 14, 12, 2, 6, 10, 11, 10, 11, 12, 12, 10, 12].getD st 12

/-- One TCK: what the present state shifts out and takes in, then the next state. The instruction register's length and
capture, and the boundary register that EXTEST would shift under CHIP_PORST_L, are not given: free bits (log entry 29). -/
def State.tapClock (s : State) (tms tdi : Bool) : State :=
  let st := s.tap.state
  let t := if st = 2 ∧ ¬ s.pins.porst then ({ s with tap := { s.tap with bypass := tdi } }).emit (.tdo s.tap.bypass)
           else if st = 2 ∨ st = 10 then (s.emit (.tdo (s.freeNat % 2 == 1))).draw
           else if st = 6 then { s with tap := { s.tap with bypass := false } }
           else s
  { t with tap := { t.tap with state := tapNext st tms } }

/-- TAP_CLOCK: a TCK edge with TMS and TDI (R461). -/
def execTapClock (tms tdi : Bool) (s : State) : Host.Outcome State Fault Refusal := .next (s.tapClock tms tdi)

end Sys2Proof.Machine
end

