-- ==== Sys2Proof/Machine/Windows.lean ====
section
/-! DEFINITION. Windows: the peer windows of BAR2 and the management transactions that they become (R340, R341, R357 to
R359), and the arrival of a cell on a link, which may carry one (R282, R305). -/
namespace Sys2Proof.Machine

/-! ## The active configuration (R357, R364) -/

/-- SIZE of a window's active copy in bytes; 0 disables it: no size, a KIND that maps nothing, an idle WIN (R34, R357). -/
def State.winBytes (s : State) (n : Nat) : Nat :=
  let c := s.rdi Reg.WIN_n_ACT_CFG n
  if 8 ≤ n ∨ ¬ s.runs 0x0E ∨ 4 ≤ bits c 7 5 then 0 else min 16 (bits c 4 0) * 2 ^ 20

/-- KIND of a window. -/
def State.winKind (s : State) (n : Nat) : Nat := bits (s.rdi Reg.WIN_n_ACT_CFG n) 7 5

/-- PEER lets a peer's access in: 1 any peer, 2 a link-directed one (R364). -/
def State.winPeer (s : State) (n : Nat) (linkDirected : Bool) : Bool :=
  let v := bits (s.rdi Reg.WIN_n_ACT_CFG n) 9 8
  v == 1 || (v == 2 && linkDirected)

/-- A swap of a window is pending (R359). -/
def State.winPending (s : State) (n : Nat) : Bool := bitN (s.rd Reg.WIN_STAT_PENDING) n == 1

/-- An access fits its window: inside its size, 1 to 64 bytes of one 64-byte line, a dword in a register window
(R341, R357). -/
def State.winFits (s : State) (n off len : Nat) : Bool :=
  decide (off < s.winBytes n ∧ len ≤ 64 ∧ off % 64 + len ≤ 64) && (s.winKind n != 0 || (len == 4 && off % 4 == 0))

/-! ## Local HBM, byte by byte (R357): what the device's own structures hold, and what windows wrote elsewhere -/

/-- The buffer whose packet bytes lie at an HBM address, and the offset of the byte (R213, R216). -/
def State.bufferAt (s : State) (a : Nat) : Option (Buffer × Nat) :=
  ((s.buf.bufs.map Prod.snd).find? (fun b =>
    let base := s.bufAddr b.pool b.idx + 32
    decide (base ≤ a ∧ a < base + b.pkt.bytes.length))).map (fun b => (b, a - (s.bufAddr b.pool b.idx + 32)))

/-- An exact-match bucket of MAXIMAL at an address: table, bucket, slot, byte of the slot (R205). -/
def State.slotAt (s : State) (a : Nat) : Option (Nat × Nat × Nat × Nat) :=
  if s.rd Reg.LPM_STAT_PROFILE = 2 ∧ 0x10000000 ≤ a ∧ a < 0x30000000 then
    some (a / 0x10000000 - 1, a % 0x10000000 / 64, a % 64 / 16, a % 16)
  else none

/-- Byte k of a number. -/
def byteOf (n k : Nat) : Byte := BitVec.ofNat 8 (n / 2 ^ (8 * k))

/-- A number with byte k replaced. -/
def withByte (n k : Nat) (b : Byte) : Nat := setBits n (8 * k + 7) (8 * k) b.toNat

/-- A flow counter as a number of 16 bytes (R251). -/
def State.ctrNat (s : State) (c : Nat) : Nat :=
  let v := s.tab.ctr.get (0, 0) c
  v.1 % 2 ^ 64 + v.2 % 2 ^ 64 * 2 ^ 64

/-- An address at which the device keeps data of its own whose layout no rule states: route nodes of the bank that is not
known to be A or B, policer state, calendars, gate artifacts and timetables, free rings and descriptors, and the header of
a buffer in use (R205, R213, R218, R240, R255, R272). -/
def State.ownHbm (s : State) (a : Nat) : Bool :=
  (s.rd Reg.LPM_STAT_PROFILE == 2 && decide (a < 0x10000000))
    || (decide (0x40000000 ≤ a) && decide (a < 0x43000000)) || (decide (0x50000000 ≤ a) && decide (a < 0x64500000))
    || (decide (0x66000000 ≤ a) && decide (a < 0x68800000)) || (decide (2 ^ 32 ≤ a) && decide (a < 2 ^ 33))
    || (s.buf.bufs.map Prod.snd).any (fun b => decide (s.bufAddr b.pool b.idx ≤ a) && decide (a < s.bufAddr b.pool b.idx + 32))

/-- A byte of the local HBM. -/
def State.hbmByte (s : State) (a : Nat) : Byte :=
  match s.slotAt a, s.bufferAt a with
  | some (t, b, i, k), _ => byteOf ((s.bucket t b).getD i 0) k
  | none, some (b, k) => b.pkt.bytes.getD k 0
  | none, none =>
    if 0x30000000 ≤ a ∧ a < 0x40000000 then byteOf (s.ctrNat (a % 0x10000000 / 16)) (a % 16)
    else if s.ownHbm a then Config.freeHbm s.fresh a
    else SMap.get s.hbm.mem 0 a

/-- Write a byte of the local HBM; a stack that does not run takes none. -/
def State.hbmPut (s : State) (a : Nat) (v : Byte) : State :=
  if s.stackState (hbmStack a) ≠ 3 then s
  else
    match s.slotAt a, s.bufferAt a with
    | some (t, b, i, k), _ => s.setSlot t b i (withByte ((s.bucket t b).getD i 0) k v)
    | none, some (b, k) => s.setBuffer { b with pkt := { b.pkt with bytes := putAt b.pkt.bytes k [v] } }
    | none, none =>
      if 0x30000000 ≤ a ∧ a < 0x40000000 then
        let c := a % 0x10000000 / 16
        let n := withByte (s.ctrNat c) (a % 16) v
        { s with tab := { s.tab with ctr := s.tab.ctr.set (0, 0) c (n % 2 ^ 64, n / 2 ^ 64) } }
      else { s with hbm := { s.hbm with mem := SMap.set s.hbm.mem 0 a v } }

/-- Bytes of the local HBM from an address on. -/
def State.hbmRead (s : State) (a n : Nat) : Bytes := (List.range n).map (fun i => s.hbmByte (a + i))

/-- Write bytes of the local HBM, through the table DMA's port of DRQ (R322). -/
def State.hbmWrite (s : State) (a : Nat) (b : Bytes) : State :=
  ((List.range b.length).foldl (fun t i => t.hbmPut (a + i) (b.getD i 0)) s).drqAccess 7 a b.length true

/-! ## Cells of management transactions (R358) -/

/-- The payload of a transaction. -/
def mtPayload (tag window : Nat) (linkDirected : Bool) (len off reason : Nat) (data : Bytes) : Bytes :=
  toBe 2 tag ++ toBe 1 (window + 64 * b01 linkDirected) ++ toBe 1 len ++ toBe 4 (off % 2 ^ 24) ++ toBe 1 reason ++ zeros 7 ++ padTo 64 data

/-- A transaction as it stands in a cell. -/
def parseMt (b : Bytes) : MtCell :=
  let p := cPayload b
  { subtype := cSubtype b, src := cSrc b, tag := beAt p 0 2, window := beAt p 2 1 % 8, linkDirected := bitN (beAt p 2 1) 6 == 1,
    len := beAt p 3 1, offset := beAt p 5 3, reason := beAt p 8 1, data := sl p 16 64 }

/-- A link-directed cell leaves on its link: against credit while the link is UP, at once in HELLO (R285, R358). -/
def State.mtOnLink (s : State) (n subtype : Nat) (payload : Bytes) : State :=
  let b := dataCell (0x80 + subtype) 0 s.frtParity 0 s.devId 0 0 0 payload
  if s.linkIsUp n then s.sendOwn n b
  else if n < 40 ∧ s.lstate n = 2 then s.cellOut n b
  else s

/-- The answer to a peer's transaction, back where it came from. -/
def State.mtAnswer (s : State) (n : Nat) (c : MtCell) (subtype reason : Nat) (data : Bytes) : State :=
  let p := mtPayload c.tag c.window c.linkDirected c.len c.offset reason data
  if c.linkDirected then s.mtOnLink n subtype p else s.sendControl subtype c.src p

/-- A NACK; each counts (R358). -/
def State.mtNack (s : State) (n : Nat) (c : MtCell) (reason : Nat) : State := (s.mtAnswer n c 12 reason []).trb 0x0E 6

/-! ## The host's accesses (R341, R357, R358) -/

/-- An access of the host that ends with Unsupported Request (R341). -/
def State.hostUr (s : State) : State := ((s.stat 0x0B Reg.HIF_UR 0 1).trb 0x0B 3).emit (.unsupported .host)

/-- A host access that becomes a management transaction (R358). -/
def State.winRemote (s : State) (x : WinTxn) : State :=
  let g := s.rdi Reg.WIN_n_ACT_TGT x.win
  let tid := s.host.nextTid
  let kind3 := s.winKind x.win == 3
  let pay := mtPayload (tid % 2 ^ 16) (bits g 18 16) kind3 x.len x.off 0 (x.write.getD [])
  let sub_ := if x.write.isSome then 9 else 8
  let s := { s with host := { s.host with winOld := s.host.winOld ++ [{ x with tid := tid }], nextTid := tid + 1 } }
  if kind3 then s.mtOnLink (bits g 29 24) sub_ pay else s.sendControl sub_ (bits g 12 0) pay

/-- A host access through a register window (R357). -/
def State.winRegs (s : State) (x : WinTxn) : State :=
  let a := s.rdi Reg.WIN_n_ACT_BASE x.win + x.off
  if 2 ^ 20 ≤ a then s.hostUr
  else match x.write with
    | some b => s.writeDword .host (a / 4096) (a % 4096) (le b)
    | none => s.readDword .host (a / 4096) (a % 4096)

/-- A host access through an HBM window (R357). -/
def State.winHbm (s : State) (x : WinTxn) : State :=
  let a := s.rdi Reg.WIN_n_ACT_BASE x.win + x.off
  if 2 ^ 37 < a + x.len then s.hostUr
  else match x.write with
    | some b => s.hbmWrite a (b.take x.len)
    | none => (s.drqAccess 7 a x.len false).draw.emit (.readData .host (le (s.hbmRead a x.len)))

/-- A host access under the active mapping; one of no bytes completes with none (R341, R357). -/
def State.winServe (s : State) (x : WinTxn) : State :=
  if ¬ s.winFits x.win x.off x.len then (s.hostUr).trb 0x0E 4
  else if x.len = 0 then (if x.write.isSome then s else s.emit (.readData .host 0))
  else if s.winKind x.win = 0 then s.winRegs x
  else if s.winKind x.win = 1 then s.winHbm x
  else s.winRemote x

/-! ## A peer's transactions (R358) -/

/-- A register read for a peer; none where the access is unsupported (R23). -/
def State.peerRead (s : State) (pg off : Nat) : State × Option Nat :=
  match s.access .peer pg off 4 false with
  | .unsupported => (s.accessEvent .peer pg off 0x42, none)
  | .inReset => (s, some 0)
  | .off => (s.accessEvent .peer pg off 0x40, some (s.shownDword pg off))
  | .ok => let r := (s.accessEvent .peer pg off 0x40).readReg .peer pg off; (r.2, some (r.1 % 2 ^ 32))

/-- A register write for a peer (R23, R33, R426). -/
def State.peerWrite (s : State) (pg off v : Nat) : State × Option Nat :=
  match s.access .peer pg off 4 true with
  | .unsupported => (s.accessEvent .peer pg off 0x42, none)
  | .inReset => (s.trb 0x02 4, some 0)
  | .off => ((s.accessEvent .peer pg off 0x41).trb 0x01 3, some 0)
  | .ok => ((s.accessEvent .peer pg off 0x41).writeReg .peer pg off v, some 0)

/-- A peer's access to this device's registers. -/
def State.mtRegs (s : State) (n : Nat) (c : MtCell) : State :=
  let a := s.rdi Reg.WIN_n_ACT_BASE c.window + c.offset
  if 2 ^ 20 ≤ a then s.mtNack n c 1
  else
    let r := if c.subtype = 9 then s.peerWrite (a / 4096) (a % 4096) (leAt c.data 0 4) else s.peerRead (a / 4096) (a % 4096)
    match r.2 with
    | none => r.1.mtNack n c 1
    | some v => if c.subtype = 9 then r.1.mtAnswer n c 11 0 [] else r.1.mtAnswer n c 10 0 (toLe 4 v)

/-- A peer's access to this device's HBM. -/
def State.mtHbm (s : State) (n : Nat) (c : MtCell) : State :=
  let a := s.rdi Reg.WIN_n_ACT_BASE c.window + c.offset
  if 2 ^ 37 < a + c.len then s.mtNack n c 1
  else if c.subtype = 9 then (s.hbmWrite a (c.data.take c.len)).mtAnswer n c 11 0 []
  else (s.drqAccess 7 a c.len false).draw.mtAnswer n c 10 0 (s.hbmRead a c.len)

/-- A READ or WRITE of a peer under the active mapping, the causes of a NACK in the order of their codes (R358). -/
def State.mtServe (s : State) (n : Nat) (c : MtCell) : State :=
  if c.len = 0 ∨ ¬ s.winFits c.window c.offset c.len then s.mtNack n c 1
  else if ¬ s.winPeer c.window c.linkDirected then s.mtNack n c 2
  else if s.winKind c.window = 0 then s.mtRegs n c
  else if s.winKind c.window = 1 then s.mtHbm n c
  else s.mtNack n c 4

/-- A READ or WRITE arrives; it is held while a swap of its window is pending (R358, R359). -/
def State.mtRequest (s : State) (n : Nat) (c : MtCell) : State :=
  if s.winPending c.window then
    let x : WinTxn := { tid := s.host.nextTid, win := c.window, write := if c.subtype = 9 then some c.data else none, off := c.offset,
                        len := c.len, peer := some (n, c) }
    { s with host := { s.host with winHeld := s.host.winHeld ++ [x], nextTid := s.host.nextTid + 1 } }
  else s.mtServe n c

/-- The outstanding transaction of a tag. -/
def State.mtFind (s : State) (tag : Nat) : Option WinTxn := s.host.winOld.find? (fun x => x.tid % 2 ^ 16 == tag)

/-- A transaction is over. -/
def State.mtForget (s : State) (x : WinTxn) : State :=
  { s with host := { s.host with winOld := s.host.winOld.filter (fun y => y.tid != x.tid) } }

/-- A transaction fails: a read with Unsupported Request, a write counted (R341, R358). -/
def State.mtFail (s : State) (x : WinTxn) : State := if x.write.isSome then s.trb 0x0E 5 else s.hostUr

/-- An answer arrives (R358); one that answers nothing outstanding is dropped. -/
def State.mtResponse (s : State) (c : MtCell) : State :=
  match s.mtFind c.tag with
  | none => s
  | some x =>
    if c.subtype = 12 then (s.mtForget x).mtFail x
    else if c.subtype = 11 ∧ x.write.isSome then s.mtForget x
    else if c.subtype = 10 ∧ x.write.isNone then (s.mtForget x).emit (.readData .host (le (c.data.take x.len)))
    else s

/-- A management cell for this device (R300, R358). -/
def State.mgmtIn (s : State) (n : Nat) (b : Bytes) : State :=
  let c := parseMt b
  if c.subtype = 8 ∨ c.subtype = 9 then s.mtRequest n c else s.mtResponse c

/-! ## Swaps (R359) -/

/-- The staged copy of a window becomes active. -/
def State.winTake (s : State) (n : Nat) : State :=
  let cfg := s.rdi Reg.WIN_n_STG_CFG_SIZE n + s.rdi Reg.WIN_n_STG_CFG_KIND n * 2 ^ 5 + s.rdi Reg.WIN_n_STG_CFG_PEER n * 2 ^ 8
  let tgt := s.rdi Reg.WIN_n_STG_TGT_DEV n + s.rdi Reg.WIN_n_STG_TGT_RWIN n * 2 ^ 16 + s.rdi Reg.WIN_n_STG_TGT_LINK n * 2 ^ 24
  (((s.wri Reg.WIN_n_ACT_CFG n cfg).wri Reg.WIN_n_ACT_TGT n tgt).wri Reg.WIN_n_ACT_BASE n (s.rdi Reg.WIN_n_STG_BASE n)).wr
    Reg.WIN_STAT_PENDING (setBit (s.rd Reg.WIN_STAT_PENDING) n false)

/-- A held transaction proceeds. -/
def State.heldGo (s : State) (x : WinTxn) : State :=
  match x.peer with
  | some (n, c) => s.mtServe n c
  | none => s.winServe x

/-- Every old transaction has completed: the swap takes effect, and what was held proceeds in its order. -/
def State.winSwapDone (s : State) (n : Nat) : State :=
  if s.winPending n ∧ ¬ s.host.winOld.any (fun x => x.win == n) then
    let held := s.host.winHeld.filter (fun x => x.win == n)
    let t := (s.winTake n)
    held.foldl State.heldGo { t with host := { t.host with winHeld := t.host.winHeld.filter (fun x => x.win != n) } }
  else s

/-- The oldest transaction held for a window has waited 10 µs: it fails, and the swap stays pending. -/
def State.winHoldFail (s : State) (n : Nat) : State :=
  match s.host.winHeld.find? (fun x => x.win == n) with
  | none => s
  | some x =>
    let s := { s with host := { s.host with winHeld := s.host.winHeld.filter (fun y => y.tid != x.tid) } }
    let s := match x.peer with
      | some (l, c) => s.mtNack l c 3
      | none => s.hostUr
    (s.stat 0x0E Reg.WIN_SWAP_FAIL 0 1).trb 0x0E 3

/-! ## Meanings -/

/-- CELL_RECEIVED (R282, R283, R285, R299 to R314, R358). -/
def execCellReceived (link : Nat) (b : Bytes) (bad : List BadCell) (s : State) : Host.Outcome State Fault Refusal :=
  .next (s.cellIn bad State.mgmtIn State.cairnIn link b)

/-- BAR2_WINDOW_ACCESS: a host access of `len` bytes at a byte of BAR2 (R340, R341, R357 to R359). -/
def execBar2WindowAccess (addr len : Nat) (w : Option Bytes) (s : State) : Host.Outcome State Fault Refusal :=
  let x : WinTxn := { tid := s.host.nextTid, win := addr / 2 ^ 24, write := w, off := addr % 2 ^ 24, len := len, peer := none }
  .next (if s.contained ∨ 2 ^ 27 ≤ addr then s.hostUr
    else if s.winPending (addr / 2 ^ 24) then
      { s with host := { s.host with winHeld := s.host.winHeld ++ [x], nextTid := s.host.nextTid + 1 } }
    else s.winServe x)

/-- MT_REQUEST_RECEIVED: a READ or WRITE of a peer (R358). -/
def execMtRequestReceived (link : Nat) (c : MtCell) (s : State) : Host.Outcome State Fault Refusal :=
  .next (if c.subtype = 8 ∨ c.subtype = 9 then s.mtRequest link c else s)

/-- MT_RESPONSE_RECEIVED: a READ_RESP, WRITE_ACK or NACK (R358). -/
def execMtResponseReceived (_link : Nat) (c : MtCell) (s : State) : Host.Outcome State Fault Refusal :=
  .next (if 10 ≤ c.subtype ∧ c.subtype ≤ 12 then s.mtResponse c else s)

/-- MT_TIMEOUT: no answer within HIF_MT.TIMEOUT_US; 0 is no timeout (R358, R361). -/
def execMtTimeout (tag : Nat) (s : State) : Host.Outcome State Fault Refusal :=
  .next (match s.mtFind tag with
    | some x => if s.rd Reg.HIF_MT_TIMEOUT_US = 0 then s else (s.mtForget x).mtFail x
    | none => s)

/-- WIN_SWAP_COMPLETE (R359). -/
def execWinSwapComplete (n : Nat) (s : State) : Host.Outcome State Fault Refusal := .next (if n < 8 then s.winSwapDone n else s)

/-- WIN_SWAP_HOLD_TIMEOUT (R359). -/
def execWinSwapHoldTimeout (n : Nat) (s : State) : Host.Outcome State Fault Refusal :=
  .next (if n < 8 ∧ s.winPending n then s.winHoldFail n else s)

end Sys2Proof.Machine
end

