-- ==== Sys2Proof/Machine/Dispatch.lean ====
section
/-! DEFINITION. Dispatch: one arm per command, each a direct call of its meaning. -/
namespace Sys2Proof.Machine

def exec (i : Instr) (s : State) : Host.Outcome State Fault Refusal :=
  match i with
  | .registerWrite m page off size v => Sys2Proof.Machine.execRegisterWrite m page off size v s
  | .lowDwordRead m page off => Sys2Proof.Machine.execLowDwordRead m page off s
  | .highDwordWrite m page off v => Sys2Proof.Machine.execHighDwordWrite m page off v s
  | .trbWrite m page k v => Sys2Proof.Machine.execTrbWrite m page k v s
  | .blkEnWrite m page en => Sys2Proof.Machine.execBlkEnWrite m page en s
  | .blkSrst m page => Sys2Proof.Machine.execBlkSrst m page s
  | .faultWindowEnd page n => Sys2Proof.Machine.execFaultWindowEnd page n s
  | .fwinCfgWrite m page n v => Sys2Proof.Machine.execFwinCfgWrite m page n v s
  | .fwinStatRead m page n => Sys2Proof.Machine.execFwinStatRead m page n s
  | .timeTick => Sys2Proof.Machine.execTimeTick s
  | .katComplete passA passB passC => Sys2Proof.Machine.execKatComplete passA passB passC s
  | .spnSelftest m => Sys2Proof.Machine.execSpnSelftest m s
  | .spnRestart m chans => Sys2Proof.Machine.execSpnRestart m chans s
  | .channelRejoin ch => Sys2Proof.Machine.execChannelRejoin ch s
  | .pitchBoundary => Sys2Proof.Machine.execPitchBoundary s
  | .epochBoundary => Sys2Proof.Machine.execEpochBoundary s
  | .timCmdAcquire m ref => Sys2Proof.Machine.execTimCmdAcquire m ref s
  | .timCmdLock m => Sys2Proof.Machine.execTimCmdLock m s
  | .timCmdHold m => Sys2Proof.Machine.execTimCmdHold m s
  | .timCmdResume m => Sys2Proof.Machine.execTimCmdResume m s
  | .timCmdFree m => Sys2Proof.Machine.execTimCmdFree m s
  | .timFreqWrite m v => Sys2Proof.Machine.execTimFreqWrite m v s
  | .timPhaseAdj m d => Sys2Proof.Machine.execTimPhaseAdj m d s
  | .holdTimeout => Sys2Proof.Machine.execHoldTimeout s
  | .traverseHoldTimeout => Sys2Proof.Machine.execTraverseHoldTimeout s
  | .smbusTempRead t => Sys2Proof.Machine.execSmbusTempRead t s
  | .ppsInEdge => Sys2Proof.Machine.execPpsInEdge s
  | .ppsOutPulse => Sys2Proof.Machine.execPpsOutPulse s
  | .todRxByte b => Sys2Proof.Machine.execTodRxByte b s
  | .todRxRead m => Sys2Proof.Machine.execTodRxRead m s
  | .todTxWrite m b => Sys2Proof.Machine.execTodTxWrite m b s
  | .ptpTsqRead m k => Sys2Proof.Machine.execPtpTsqRead m k s
  | .timeWordReceived link w rxTime => Sys2Proof.Machine.execTimeWordReceived link w rxTime s
  | .servoConverged => Sys2Proof.Machine.execServoConverged s
  | .timeCellSend => Sys2Proof.Machine.execTimeCellSend s
  | .pairClaim m => Sys2Proof.Machine.execPairClaim m s
  | .pairRelease m => Sys2Proof.Machine.execPairRelease m s
  | .belayInQualified => Sys2Proof.Machine.execBelayInQualified s
  | .belayContention => Sys2Proof.Machine.execBelayContention s
  | .digestSend => Sys2Proof.Machine.execDigestSend s
  | .digestReceived d rxTime => Sys2Proof.Machine.execDigestReceived d rxTime s
  | .digestMissing => Sys2Proof.Machine.execDigestMissing s
  | .pairSelfcheckDone pass => Sys2Proof.Machine.execPairSelfcheckDone pass s
  | .frameReceived port b whole => Sys2Proof.Machine.execFrameReceived port b whole s
  | .macControlFrame port b => Sys2Proof.Machine.execMacControlFrame port b s
  | .pauseTimerExpire port cls => Sys2Proof.Machine.execPauseTimerExpire port cls s
  | .fcRefresh port => Sys2Proof.Machine.execFcRefresh port s
  | .linkStateChange port aligned fecLock localFault remoteFault => Sys2Proof.Machine.execLinkStateChange port aligned fecLock localFault remoteFault s
  | .seatedAsserted => Sys2Proof.Machine.execSeatedAsserted s
  | .seatedQualified => Sys2Proof.Machine.execSeatedQualified s
  | .seatedDeasserted => Sys2Proof.Machine.execSeatedDeasserted s
  | .parseStart port bad => Sys2Proof.Machine.execParseStart port bad s
  | .secondPassStart pipe bad => Sys2Proof.Machine.execSecondPassStart pipe bad s
  | .frameTailArrived pkt rest => Sys2Proof.Machine.execFrameTailArrived pkt rest s
  | .fragEntryExpire bucket slot => Sys2Proof.Machine.execFragEntryExpire bucket slot s
  | .fragFlush m => Sys2Proof.Machine.execFragFlush m s
  | .admission bad => Sys2Proof.Machine.execAdmission bad s
  | .mcrRecordApply f => Sys2Proof.Machine.execMcrRecordApply f s
  | .freeCacheRefill pool f => Sys2Proof.Machine.execFreeCacheRefill pool f s
  | .freeCacheSpill pool => Sys2Proof.Machine.execFreeCacheSpill pool s
  | .bpmApply m => Sys2Proof.Machine.execBpmApply m s
  | .freeStoreRebuildDone => Sys2Proof.Machine.execFreeStoreRebuildDone s
  | .portTxReady port bad => Sys2Proof.Machine.execPortTxReady port bad s
  | .ropeWake port => Sys2Proof.Machine.execRopeWake port s
  | .residenceScan => Sys2Proof.Machine.execResidenceScan s
  | .calendarPrefetch port onTime bad => Sys2Proof.Machine.execCalendarPrefetch port onTime bad s
  | .gateEntryChange port f => Sys2Proof.Machine.execGateEntryChange port f s
  | .cyclicListStart port => Sys2Proof.Machine.execCyclicListStart port s
  | .timetableTakeover port => Sys2Proof.Machine.execTimetableTakeover port s
  | .timetableEntry port f => Sys2Proof.Machine.execTimetableEntry port f s
  | .timetableFetch port => Sys2Proof.Machine.execTimetableFetch port s
  | .gateTtCancel m port => Sys2Proof.Machine.execGateTtCancel m port s
  | .latencySample => Sys2Proof.Machine.execLatencySample s
  | .latencyWrite => Sys2Proof.Machine.execLatencyWrite s
  | .latWdataAccess m w => Sys2Proof.Machine.execLatWdataAccess m w s
  | .cairnPost m slot => Sys2Proof.Machine.execCairnPost m slot s
  | .cairnCancel m slot seq => Sys2Proof.Machine.execCairnCancel m slot seq s
  | .cairnCommit => Sys2Proof.Machine.execCairnCommit s
  | .bankRetire page => Sys2Proof.Machine.execBankRetire page s
  | .cairnRepeat seq => Sys2Proof.Machine.execCairnRepeat seq s
  | .cairnCellReceived link c => Sys2Proof.Machine.execCairnCellReceived link c s
  | .linkEnable m link en => Sys2Proof.Machine.execLinkEnable m link en s
  | .linkRestart m link => Sys2Proof.Machine.execLinkRestart m link s
  | .linkAligned link => Sys2Proof.Machine.execLinkAligned link s
  | .linkTrainTimeout link => Sys2Proof.Machine.execLinkTrainTimeout link s
  | .linkAlignLoss link => Sys2Proof.Machine.execLinkAlignLoss link s
  | .helloSend link => Sys2Proof.Machine.execHelloSend link s
  | .helloReceived link h => Sys2Proof.Machine.execHelloReceived link h s
  | .helloTimeout link => Sys2Proof.Machine.execHelloTimeout link s
  | .fabIdWrite m v => Sys2Proof.Machine.execFabIdWrite m v s
  | .cellReceived link b bad => Sys2Proof.Machine.execCellReceived link b bad s
  | .cellRelay link => Sys2Proof.Machine.execCellRelay link s
  | .reorderTimeout src cls => Sys2Proof.Machine.execReorderTimeout src cls s
  | .creditSend link => Sys2Proof.Machine.execCreditSend link s
  | .creditReceived link freed => Sys2Proof.Machine.execCreditReceived link freed s
  | .voqDequeue voq bad => Sys2Proof.Machine.execVoqDequeue voq bad s
  | .fmcQueueSend cls bad => Sys2Proof.Machine.execFmcQueueSend cls bad s
  | .requestRetry voq => Sys2Proof.Machine.execRequestRetry voq s
  | .creditReturn voq => Sys2Proof.Machine.execCreditReturn voq s
  | .requestReceived r => Sys2Proof.Machine.execRequestReceived r s
  | .grantEngine => Sys2Proof.Machine.execGrantEngine s
  | .grantReceived src cls g => Sys2Proof.Machine.execGrantReceived src cls g s
  | .d2dTrain ok spares => Sys2Proof.Machine.execD2dTrain ok spares s
  | .d2dReplay => Sys2Proof.Machine.execD2dReplay s
  | .d2dChannelFail ch => Sys2Proof.Machine.execD2dChannelFail ch s
  | .hbmInit m stack => Sys2Proof.Machine.execHbmInit m stack s
  | .hbmInitDone stack failPc => Sys2Proof.Machine.execHbmInitDone stack failPc s
  | .hbmDlyDataAccess m stack w => Sys2Proof.Machine.execHbmDlyDataAccess m stack w s
  | .hbmTempRead stack t => Sys2Proof.Machine.execHbmTempRead stack t s
  | .refreshWindowOpen => Sys2Proof.Machine.execRefreshWindowOpen s
  | .refreshWindowClose stack => Sys2Proof.Machine.execRefreshWindowClose stack s
  | .hbmCommandIssue stack q => Sys2Proof.Machine.execHbmCommandIssue stack q s
  | .hbmReadComplete req f => Sys2Proof.Machine.execHbmReadComplete req f s
  | .hbmWriteRetire req rmwUncorrectable => Sys2Proof.Machine.execHbmWriteRetire req rmwUncorrectable s
  | .requestOverdue req => Sys2Proof.Machine.execRequestOverdue req s
  | .scrubRead stack word f => Sys2Proof.Machine.execScrubRead stack word f s
  | .drqLatMaxRead m => Sys2Proof.Machine.execDrqLatMaxRead m s
  | .tdmDescriptorTakeup r => Sys2Proof.Machine.execTdmDescriptorTakeup r s
  | .tdmLoad r => Sys2Proof.Machine.execTdmLoad r s
  | .tdmWrite r => Sys2Proof.Machine.execTdmWrite r s
  | .tdmRead writeOk => Sys2Proof.Machine.execTdmRead writeOk s
  | .tdmInsert r bad => Sys2Proof.Machine.execTdmInsert r bad s
  | .tdmRemove r bad => Sys2Proof.Machine.execTdmRemove r bad s
  | .tdmStageFw r => Sys2Proof.Machine.execTdmStageFw r s
  | .tdmBadOp => Sys2Proof.Machine.execTdmBadOp s
  | .tdmDescriptorReadRetry r => Sys2Proof.Machine.execTdmDescriptorReadRetry r s
  | .tdmProfileApply m => Sys2Proof.Machine.execTdmProfileApply m s
  | .learnRequest bad => Sys2Proof.Machine.execLearnRequest bad s
  | .lrnPostGo m => Sys2Proof.Machine.execLrnPostGo m s
  | .lrnPostRemove m => Sys2Proof.Machine.execLrnPostRemove m s
  | .learnAgeSweep => Sys2Proof.Machine.execLearnAgeSweep s
  | .shadowCompare lpm exm bad => Sys2Proof.Machine.execShadowCompare lpm exm bad s
  | .shadowConfirm r f => Sys2Proof.Machine.execShadowConfirm r f s
  | .bar2WindowAccess addr len w => Sys2Proof.Machine.execBar2WindowAccess addr len w s
  | .mtRequestReceived link c => Sys2Proof.Machine.execMtRequestReceived link c s
  | .mtResponseReceived link c => Sys2Proof.Machine.execMtResponseReceived link c s
  | .mtTimeout tag => Sys2Proof.Machine.execMtTimeout tag s
  | .winSwap m req => Sys2Proof.Machine.execWinSwap m req s
  | .winSwapComplete n => Sys2Proof.Machine.execWinSwapComplete n s
  | .winSwapHoldTimeout n => Sys2Proof.Machine.execWinSwapHoldTimeout n s
  | .userCounterRead off len => Sys2Proof.Machine.execUserCounterRead off len s
  | .puntWrite ring entry => Sys2Proof.Machine.execPuntWrite ring entry s
  | .injectFetch ring entry frame => Sys2Proof.Machine.execInjectFetch ring entry frame s
  | .mirrorWrite => Sys2Proof.Machine.execMirrorWrite s
  | .containmentEnter cause => Sys2Proof.Machine.execContainmentEnter cause s
  | .hifContain m => Sys2Proof.Machine.execHifContain m s
  | .hifRelease m => Sys2Proof.Machine.execHifRelease m s
  | .puntHoldExpire => Sys2Proof.Machine.execPuntHoldExpire s
  | .hostLinkUp gen width => Sys2Proof.Machine.execHostLinkUp gen width s
  | .completionReceived tag last err => Sys2Proof.Machine.execCompletionReceived tag last err s
  | .completionTimeout tag => Sys2Proof.Machine.execCompletionTimeout tag s
  | .tagQuarantineEnd tag => Sys2Proof.Machine.execTagQuarantineEnd tag s
  | .icuClaim core => Sys2Proof.Machine.execIcuClaim core s
  | .icuDone core src => Sys2Proof.Machine.execIcuDone core src s
  | .icuDoorbell m bits => Sys2Proof.Machine.execIcuDoorbell m bits s
  | .holdoffExpire g => Sys2Proof.Machine.execHoldoffExpire g s
  | .gpioFiltered n level => Sys2Proof.Machine.execGpioFiltered n level s
  | .coreReset m core => Sys2Proof.Machine.execCoreReset m core s
  | .coreHalt m core halt => Sys2Proof.Machine.execCoreHalt m core halt s
  | .coreLoadDone core ok => Sys2Proof.Machine.execCoreLoadDone core ok s
  | .watchdogKick m core => Sys2Proof.Machine.execWatchdogKick m core s
  | .watchdogExpire core => Sys2Proof.Machine.execWatchdogExpire core s
  | .agentAccessFault addr write => Sys2Proof.Machine.execAgentAccessFault addr write s
  | .bootStart => Sys2Proof.Machine.execBootStart s
  | .candidateAccepted => Sys2Proof.Machine.execCandidateAccepted s
  | .flashCopy verifyOk => Sys2Proof.Machine.execFlashCopy verifyOk s
  | .bootTraverse m => Sys2Proof.Machine.execBootTraverse m s
  | .bootLive m => Sys2Proof.Machine.execBootLive m s
  | .headlessTimeout => Sys2Proof.Machine.execHeadlessTimeout s
  | .bootUnstage m => Sys2Proof.Machine.execBootUnstage m s
  | .secAttest m => Sys2Proof.Machine.execSecAttest m s
  | .attestDone dmaOk => Sys2Proof.Machine.execAttestDone dmaOk s
  | .secCommit m => Sys2Proof.Machine.execSecCommit m s
  | .commitDone ok => Sys2Proof.Machine.execCommitDone ok s
  | .secFuseRead m => Sys2Proof.Machine.execSecFuseRead m s
  | .gotoStandby m => Sys2Proof.Machine.execGotoStandby m s
  | .gotoReady m => Sys2Proof.Machine.execGotoReady m s
  | .gotoService m => Sys2Proof.Machine.execGotoService m s
  | .gotoDrain m => Sys2Proof.Machine.execGotoDrain m s
  | .domainSwitchOn ready => Sys2Proof.Machine.execDomainSwitchOn ready s
  | .domainReadyTimeout => Sys2Proof.Machine.execDomainReadyTimeout s
  | .domainSwitchOff => Sys2Proof.Machine.execDomainSwitchOff s
  | .governorTick riseF riseT => Sys2Proof.Machine.execGovernorTick riseF riseT s
  | .thermalRead t => Sys2Proof.Machine.execThermalRead t s
  | .pgInFall n => Sys2Proof.Machine.execPgInFall n s
  | .wake src => Sys2Proof.Machine.execWake src s
  | .aonWakeTimer => Sys2Proof.Machine.execAonWakeTimer s
  | .coldReset straps seat present => Sys2Proof.Machine.execColdReset straps seat present s
  | .hostPerst us => Sys2Proof.Machine.execHostPerst us s
  | .softWarm m => Sys2Proof.Machine.execSoftWarm m s
  | .warmClearDone => Sys2Proof.Machine.execWarmClearDone s
  | .flr => Sys2Proof.Machine.execFlr s
  | .pmuClearAll m => Sys2Proof.Machine.execPmuClearAll m s
  | .pmuValueWrite m hi v => Sys2Proof.Machine.execPmuValueWrite m hi v s
  | .prbsErrRead m page lane => Sys2Proof.Machine.execPrbsErrRead m page lane s
  | .hdmErrRead m ring => Sys2Proof.Machine.execHdmErrRead m ring s
  | .pairPresentChange high => Sys2Proof.Machine.execPairPresentChange high s
  | .sdrefOkChange k ok => Sys2Proof.Machine.execSdrefOkChange k ok s
  | .pgInChange levels => Sys2Proof.Machine.execPgInChange levels s
  | .hostPerstDeassert => Sys2Proof.Machine.execHostPerstDeassert s
  | .hrxIdleExit => Sys2Proof.Machine.execHrxIdleExit s
  | .busMasterEnableChange on => Sys2Proof.Machine.execBusMasterEnableChange on s
  | .coreFatalTrap core => Sys2Proof.Machine.execCoreFatalTrap core s
  | .profileApplyDone => Sys2Proof.Machine.execProfileApplyDone s
  | .flrClearDone => Sys2Proof.Machine.execFlrClearDone s
  | .blockResetDone page => Sys2Proof.Machine.execBlockResetDone page s
  | .endOfCold => Sys2Proof.Machine.execEndOfCold s
  | .tapClock tms tdi => Sys2Proof.Machine.execTapClock tms tdi s
  | .pairLinkFrame b => Sys2Proof.Machine.execPairLinkFrame b s

end Sys2Proof.Machine
end

