-- ==== Sys2Proof/Safety.lean ====
section
/-! DEFINITION. Safety: what claims about runs are stated with: safe runs, the invariant that every step keeps, and what
counting (fault windows, PMU counters and their records) may change beside a command's own effect. -/
namespace Sys2Proof.Machine

/-- The first n commands of the queue all take effect: no step faults or is refused. -/
def runsSafely (n : Nat) (s : State) : Prop :=
  match n with
  | 0 => True
  | k + 1 => ∃ t, step s = .next t ∧ runsSafely k t

/-- The canonical form of the HBM bytes that windows have written: rising addresses, no byte that reads as 0. -/
abbrev Memory.wf (l : List Host.Cell) : Bool := SMap.wf 0 l

/-- No page is covered by the masks of two cairns of a list (R66). -/
def armedApart (l : List Armed) : Prop :=
  l.Pairwise (fun a b => ∀ p ∈ allPages, maskHas a.mask p = true → maskHas b.mask p = false)

/-- What every step keeps: HBM bytes in canonical form, the TAP controller in one of its sixteen states (R461), at most 32
armed cairns, no two of which cover one page (R66), at most 16 log entries (R81), die-to-die channels numbered below 16
(R295). -/
structure State.Inv (s : State) : Prop where
  mem : Memory.wf s.hbm.mem = true
  tap : s.tap.state < 16
  armed : s.cairn.armed.length ≤ 32
  apart : armedApart s.cairn.armed
  log : s.cairn.log.length ≤ 16
  d2d : ∀ c ∈ s.d2d.failed, c < 16

/-- Register fields that counting changes on its own: the running count and the declaration of a page's fault windows
(R442), and what a wrapping PMU counter touches: EVT_STAT and trouble counter 4 of page PMU (R444), and the indexes and loss
counts of the event rings (R349). -/
def isTele (key : Nat) : Bool :=
  let p := key / 64 / 4096
  let off := key / 64 % 4096
  let lo := key % 64
  (off == 0x0C && lo == 1) || (decide (0x44 ≤ off) && decide (off < 0x60) && off % 8 == 4 && (lo == 16 || lo == 31))
    || (p == 0x09 && off == 0x60) || (p == 0x09 && off == 0x28 && lo == 0)
    || (p == 0x0C && decide (0x110 ≤ off) && decide (off < 0x580) && (off % 32 == 16 || off % 32 == 24))

/-- An output that is not a write to host memory. -/
def Emit.isDirect (e : Emit) : Bool :=
  match e with
  | .hostWrite _ _ => false
  | _ => true

/-- `t` is `s` but for counting: every register field outside `isTele`, every staged copy and latch, every other structure
and every output is the same, and only PMU values, records written to host memory and the count of free values may differ
beside. -/
structure State.CountsTo (s t : State) : Prop where
  reg : ∀ k, isTele k = false → t.regs.active.lookup k = s.regs.active.lookup k
  staged : t.regs.staged = s.regs.staged
  rdLatch : t.regs.rdLatch = s.regs.rdLatch
  wrLow : t.regs.wrLow = s.regs.wrLow
  pmu : t.pmu = { s.pmu with val := t.pmu.val, wrap := t.pmu.wrap }
  direct : t.outbox.filter Emit.isDirect = s.outbox.filter Emit.isDirect
  out : List.Sublist s.outbox t.outbox
  fresh : s.fresh ≤ t.fresh
  rest : t = { s with regs := t.regs, pmu := t.pmu, outbox := t.outbox, fresh := t.fresh }

/-- A dword whose write is more than a write of its fields: PG_CTRL, trouble counters, fault windows (R30, R31, R443), and
the command and selector registers of the pages. -/
def actsWhenWritten (p off : Nat) : Bool :=
  if off < 0x100 then off == 0x08 || (decide (0x20 ≤ off) && decide (off < 0x60))
  else if p == 0x00 || p == 0x0B then off == 0x104
  else if p == 0x06 || p == 0x07 then off == 0x100
  else if p == 0x08 then (decide (off < 0x150) && off % 16 == 4) || off == 0x1F0
  else if p == 0x09 then decide (off < 0x118) && off != 0x104 || (decide (0x120 ≤ off) && decide (off < 0x160))
  else if p == 0x0A then decide (off < 0x170)
  else if p == 0x0E then decide (off ≤ 0x200)
  else if p == 0x10 then off == 0x104 || off == 0x120 || off == 0x124 || off == 0x174
  else if p == 0x11 || p == 0x12 || p == 0x15 then true
  else if p == 0x13 then off == 0x108
  else if p == 0x14 then off == 0x108 || off == 0x10C
  else if p == 0x16 then decide (off < 0x1A0) || (decide (0x1D0 ≤ off) && decide (off < 0x1E0))
  else if p == 0x17 then off == 0x100 || off == 0x104
  else if p == 0x31 || p == 0x35 || p == 0x39 then off == 0x120
  else if p == 0x38 then decide (off < 0x110)
  else if p == 0x50 then off == 0x110
  else if p == 0x56 then off == 0x100
  else if p == 0x57 then off == 0x118
  else if 0x60 ≤ p && p ≤ 0x67 then off == 0x100 || off == 0x114
  else if p == 0x70 then decide (off < 0x10C)
  else if 0x72 ≤ p && p ≤ 0x79 then decide (off < 0x240) && off % 64 == 0
  else false

/-- A dword whose read does more than its fields' access codes say: FUSE_DATA, an interrupt claim, the FIFOs, and the windows
onto tables (R404, R379, R62, R63, R279, R337). -/
def actsWhenRead (p off : Nat) : Bool :=
  (p == 0x06 && off == 0x164) || (p == 0x08 && decide (0x110 ≤ off) && decide (off < 0x150) && off % 16 == 0)
    || (p == 0x10 && off == 0x170) || (p == 0x14 && decide (0x120 ≤ off) && decide (off < 0x130))
    || (p == 0x57 && off == 0x118) || (decide (0x60 ≤ p) && decide (p ≤ 0x67) && off == 0x114) || (p == 0x68 && off == 0x130)

/-- The register file's key of a field that a dword holds (its instance is the second part). -/
def keyOf (p : Nat) (h : Fld × Nat × Nat) : Nat := fkey p h.1 h.2.1

/-- Nothing but registers, and what counting changes, differs from `s` in `t`. -/
def State.OnlyRegs (s t : State) : Prop := t = { s with regs := t.regs, pmu := t.pmu, outbox := t.outbox, fresh := t.fresh }

/-- The register file's key of instance i of a field of a block with one page. -/
def Fld.key (f : Fld) (i : Nat) : Nat := fkey f.pg f i

/-- The key of the half of TRB_n that holds trouble counter k of a page (R31). -/
def trbKey (p k : Nat) : Nat :=
  if k % 2 = 0 then fkey p Reg.TRB_k_CNT_LO (k / 2) else fkey p Reg.TRB_k_CNT_HI (k / 2)

/-- No register field but those with a key of the list, and what counting changes, differs from `s` in `t`. -/
def State.RegsBut (l : List Nat) (s t : State) : Prop :=
  ∀ k, isTele k = false → k ∉ l → t.regs.active.lookup k = s.regs.active.lookup k

/-- Trouble counter k of a page after one increment: it saturates at 0xFFFF, and stands still where the page does not
define it or its block is idle (R31, R32, R34). -/
def State.trouble (s : State) (p k : Nat) : State :=
  if s.trbCounts p k then s.trbSet p k (min (s.trbVal p k + 1) 0xFFFF) else s

/-- A state with the parts that a mask names put back as they are at reset: bit i is the i-th field of State. -/
def State.but (u : Nat) (s : State) : State :=
  { regs := if u.testBit 0 then State.reset.regs else s.regs
    pins := if u.testBit 1 then State.reset.pins else s.pins
    time := if u.testBit 2 then State.reset.time else s.time
    spine := if u.testBit 3 then State.reset.spine else s.spine
    pair := if u.testBit 4 then State.reset.pair else s.pair
    cairn := if u.testBit 5 then State.reset.cairn else s.cairn
    banks := if u.testBit 6 then State.reset.banks else s.banks
    path := if u.testBit 7 then State.reset.path else s.path
    exm := if u.testBit 8 then State.reset.exm else s.exm
    learn := if u.testBit 9 then State.reset.learn else s.learn
    tab := if u.testBit 10 then State.reset.tab else s.tab
    buf := if u.testBit 11 then State.reset.buf else s.buf
    q := if u.testBit 12 then State.reset.q else s.q
    sched := if u.testBit 13 then State.reset.sched else s.sched
    gates := if u.testBit 14 then State.reset.gates else s.gates
    lat := if u.testBit 15 then State.reset.lat else s.lat
    fab := if u.testBit 16 then State.reset.fab else s.fab
    hbm := if u.testBit 17 then State.reset.hbm else s.hbm
    host := if u.testBit 18 then State.reset.host else s.host
    icu := if u.testBit 19 then State.reset.icu else s.icu
    mgt := if u.testBit 20 then State.reset.mgt else s.mgt
    boot := if u.testBit 21 then State.reset.boot else s.boot
    sec := if u.testBit 22 then State.reset.sec else s.sec
    pwr := if u.testBit 23 then State.reset.pwr else s.pwr
    pmu := if u.testBit 24 then State.reset.pmu else s.pmu
    tdm := if u.testBit 25 then State.reset.tdm else s.tdm
    shd := if u.testBit 26 then State.reset.shd else s.shd
    rst := if u.testBit 27 then State.reset.rst else s.rst
    tap := if u.testBit 28 then State.reset.tap else s.tap
    d2d := if u.testBit 29 then State.reset.d2d else s.d2d
    fresh := if u.testBit 30 then State.reset.fresh else s.fresh
    outbox := if u.testBit 31 then State.reset.outbox else s.outbox
    pending := s.pending }

/-! ## Which parts of the state each command may change -/

/-- A part of the state: one field of State each, the queue apart. -/
inductive Part where
  /-- The register file. -/
  | regs
  /-- The pins. -/
  | pins
  /-- The time channels and their FIFOs. -/
  | time
  /-- The rope of channels. -/
  | spine
  /-- The device pair. -/
  | pair
  /-- Armed cairns and their log. -/
  | cairn
  /-- Banked artifacts. -/
  | banks
  /-- The packet path. -/
  | path
  /-- The exact-match tables. -/
  | exm
  /-- The learning engine. -/
  | learn
  /-- Tables written by table DMA. -/
  | tab
  /-- Packet buffers and the free store. -/
  | buf
  /-- Queues. -/
  | q
  /-- Calendars and shapers. -/
  | sched
  /-- Gates. -/
  | gates
  /-- Latency samples. -/
  | lat
  /-- Links and the fabric. -/
  | fab
  /-- HBM. -/
  | hbm
  /-- The host interface. -/
  | host
  /-- The interrupt controller. -/
  | icu
  /-- Watchdogs. -/
  | mgt
  /-- Boot flash and starts. -/
  | boot
  /-- Fuses and attestation. -/
  | sec
  /-- Power sequences. -/
  | pwr
  /-- The PMU. -/
  | pmu
  /-- Table DMA. -/
  | tdm
  /-- Shadow compare. -/
  | shd
  /-- Resets in progress. -/
  | rst
  /-- The test access port. -/
  | tap
  /-- Die-to-die channels. -/
  | d2d
  /-- The model's count of free values. -/
  | fresh
  /-- The model's record of outputs. -/
  | outbox
  deriving DecidableEq, Repr

/-- A part is the same in two states. -/
def Part.kept (p : Part) (s t : State) : Prop :=
  match p with
  | .regs => t.regs = s.regs
  | .pins => t.pins = s.pins
  | .time => t.time = s.time
  | .spine => t.spine = s.spine
  | .pair => t.pair = s.pair
  | .cairn => t.cairn = s.cairn
  | .banks => t.banks = s.banks
  | .path => t.path = s.path
  | .exm => t.exm = s.exm
  | .learn => t.learn = s.learn
  | .tab => t.tab = s.tab
  | .buf => t.buf = s.buf
  | .q => t.q = s.q
  | .sched => t.sched = s.sched
  | .gates => t.gates = s.gates
  | .lat => t.lat = s.lat
  | .fab => t.fab = s.fab
  | .hbm => t.hbm = s.hbm
  | .host => t.host = s.host
  | .icu => t.icu = s.icu
  | .mgt => t.mgt = s.mgt
  | .boot => t.boot = s.boot
  | .sec => t.sec = s.sec
  | .pwr => t.pwr = s.pwr
  | .pmu => t.pmu = s.pmu
  | .tdm => t.tdm = s.tdm
  | .shd => t.shd = s.shd
  | .rst => t.rst = s.rst
  | .tap => t.tap = s.tap
  | .d2d => t.d2d = s.d2d
  | .fresh => t.fresh = s.fresh
  | .outbox => t.outbox = s.outbox

/-- The parts that a command may change; a command that writes a register may count PMU events, which records in host
memory may report. -/
def changes (c : Instr) : List Part :=
  match c with
  | .registerWrite .. | .highDwordWrite .. | .seatedDeasserted .. | .cellReceived .. | .bar2WindowAccess ..
  | .mtRequestReceived .. | .winSwapComplete .. | .gotoStandby .. | .gotoReady .. | .gotoService .. | .gotoDrain ..
  | .thermalRead .. | .pgInFall .. =>
    [.regs, .pins, .time, .spine, .pair, .cairn, .banks, .path, .exm, .learn, .tab, .buf, .q, .sched, .gates, .lat,
     .fab, .hbm, .host, .icu, .mgt, .boot, .sec, .pwr, .pmu, .tdm, .shd, .rst, .d2d, .fresh, .outbox]
  | .lowDwordRead .. =>
    [.regs, .time, .hbm, .icu, .pmu, .fresh, .outbox]
  | .trbWrite .. | .fwinCfgWrite .. | .fwinStatRead .. | .hbmInit .. | .winSwap .. | .coreReset .. | .secCommit ..
  | .secFuseRead .. | .pmuClearAll .. | .pmuValueWrite .. | .prbsErrRead .. | .hdmErrRead .. =>
    [.regs, .pmu, .fresh, .outbox]
  | .blkEnWrite .. =>
    [.regs, .tab, .fab, .pmu, .fresh, .outbox]
  | .blkSrst .. =>
    [.regs, .pins, .time, .spine, .pair, .cairn, .banks, .path, .learn, .buf, .q, .sched, .gates, .lat, .fab, .hbm,
     .host, .icu, .pmu, .tdm, .shd, .rst, .fresh, .outbox]
  | .faultWindowEnd .. | .d2dTrain .. | .hostLinkUp .. | .coreFatalTrap .. =>
    [.regs]
  | .timeTick .. =>
    [.regs, .time, .spine, .pmu, .outbox]
  | .katComplete .. =>
    [.regs, .spine, .pmu, .outbox]
  | .spnSelftest .. =>
    [.regs, .spine, .pmu, .fresh, .outbox]
  | .spnRestart .. | .timCmdAcquire .. | .timCmdLock .. | .timCmdHold .. | .timCmdResume .. | .timCmdFree ..
  | .timFreqWrite .. | .timPhaseAdj .. | .todRxRead .. | .todTxWrite .. | .ptpTsqRead .. =>
    [.regs, .time, .pmu, .fresh, .outbox]
  | .channelRejoin .. | .servoConverged .. =>
    [.regs, .time]
  | .pitchBoundary .. =>
    [.regs, .time, .sched, .pmu, .outbox]
  | .epochBoundary .. =>
    [.regs, .time, .pair, .fab, .pwr, .pmu, .outbox]
  | .holdTimeout .. | .traverseHoldTimeout .. =>
    [.regs, .time, .pmu, .outbox]
  | .smbusTempRead .. =>
    [.regs, .time, .outbox]
  | .ppsInEdge .. | .gpioFiltered .. | .aonWakeTimer .. | .pgInChange .. | .hostPerstDeassert .. | .hrxIdleExit .. =>
    [.regs, .pins, .icu, .pwr]
  | .ppsOutPulse .. | .fcRefresh .. =>
    [.outbox]
  | .todRxByte .. =>
    [.regs, .pins, .time, .icu, .pwr]
  | .timeWordReceived .. =>
    [.regs, .time, .fab]
  | .timeCellSend .. | .linkAlignLoss .. | .helloReceived .. | .helloTimeout .. | .cellRelay .. | .creditSend .. =>
    [.regs, .fab, .pmu, .outbox]
  | .pairClaim .. | .pairRelease .. =>
    [.regs, .pins, .pmu, .fresh, .outbox]
  | .belayInQualified .. | .belayContention .. | .pairSelfcheckDone .. | .pairPresentChange .. =>
    [.regs, .pins, .pmu, .outbox]
  | .digestSend .. =>
    [.pair, .outbox]
  | .digestReceived .. =>
    [.regs, .spine, .pair, .pmu, .outbox]
  | .digestMissing .. =>
    [.regs, .pair, .pmu, .outbox]
  | .frameReceived .. =>
    [.regs, .time, .path, .pmu, .outbox]
  | .macControlFrame .. =>
    [.regs, .path, .pmu, .outbox]
  | .pauseTimerExpire .. =>
    [.regs, .path]
  | .linkStateChange .. | .linkTrainTimeout .. | .helloSend .. | .d2dReplay .. | .userCounterRead .. | .mirrorWrite ..
  | .agentAccessFault .. =>
    [.regs, .pmu, .outbox]
  | .seatedAsserted .. =>
    [.regs, .pins, .fab, .icu, .pwr]
  | .seatedQualified .. =>
    [.regs, .pins, .fab]
  | .parseStart .. | .secondPassStart .. =>
    [.regs, .pair, .path, .exm, .learn, .hbm, .pmu, .fresh, .outbox]
  | .frameTailArrived .. | .reorderTimeout .. =>
    [.regs, .time, .path, .tab, .buf, .q, .sched, .fab, .hbm, .pmu, .fresh, .outbox]
  | .fragEntryExpire .. =>
    [.path]
  | .fragFlush .. =>
    [.regs, .path, .pmu, .fresh, .outbox]
  | .admission .. =>
    [.regs, .path, .tab, .buf, .q, .hbm, .pmu, .fresh, .outbox]
  | .mcrRecordApply .. =>
    [.regs, .path, .tab, .hbm, .pmu, .fresh, .outbox]
  | .freeCacheRefill .. | .freeCacheSpill .. =>
    [.regs, .buf, .hbm, .pmu, .fresh, .outbox]
  | .bpmApply .. =>
    [.regs, .buf, .q, .pmu, .fresh, .outbox]
  | .freeStoreRebuildDone .. =>
    [.regs, .buf]
  | .portTxReady .. | .ropeWake .. =>
    [.regs, .time, .path, .tab, .buf, .q, .sched, .hbm, .pmu, .fresh, .outbox]
  | .residenceScan .. =>
    [.regs, .path, .buf, .q, .hbm, .pmu, .fresh, .outbox]
  | .calendarPrefetch .. =>
    [.regs, .sched, .hbm, .pmu, .fresh, .outbox]
  | .gateEntryChange .. | .timetableEntry .. | .gateTtCancel .. =>
    [.regs, .gates, .pmu, .fresh, .outbox]
  | .cyclicListStart .. | .timetableTakeover .. =>
    [.gates]
  | .timetableFetch .. =>
    [.regs, .gates, .hbm, .pmu, .outbox]
  | .latencySample .. | .latencyWrite .. =>
    [.regs, .lat, .pmu, .outbox]
  | .latWdataAccess .. =>
    [.regs, .lat, .pmu, .fresh, .outbox]
  | .cairnPost .. | .cairnCancel .. =>
    [.regs, .cairn, .pmu, .fresh, .outbox]
  | .cairnCommit .. =>
    [.regs, .pins, .time, .spine, .pair, .cairn, .banks, .path, .learn, .tab, .q, .sched, .gates, .lat, .fab, .hbm,
     .host, .icu, .boot, .sec, .pwr, .pmu, .shd, .rst, .outbox]
  | .bankRetire .. =>
    [.banks]
  | .cairnRepeat .. | .cairnCellReceived .. =>
    [.regs, .cairn, .pmu, .outbox]
  | .linkEnable .. | .linkRestart .. | .fabIdWrite .. | .requestRetry .. | .creditReturn .. | .requestReceived ..
  | .grantEngine .. =>
    [.regs, .fab, .pmu, .fresh, .outbox]
  | .linkAligned .. =>
    [.regs, .fab]
  | .creditReceived .. | .grantReceived .. =>
    [.fab]
  | .voqDequeue .. | .fmcQueueSend .. =>
    [.regs, .path, .buf, .q, .fab, .hbm, .pmu, .fresh, .outbox]
  | .d2dChannelFail .. =>
    [.regs, .pmu, .d2d, .outbox]
  | .hbmInitDone .. | .hbmTempRead .. | .refreshWindowClose .. | .hbmWriteRetire .. | .requestOverdue .. | .scrubRead .. =>
    [.regs, .hbm, .pmu, .outbox]
  | .hbmDlyDataAccess .. | .drqLatMaxRead .. =>
    [.regs, .hbm, .pmu, .fresh, .outbox]
  | .refreshWindowOpen .. | .hbmCommandIssue .. =>
    [.hbm]
  | .hbmReadComplete .. =>
    [.regs, .path, .buf, .sched, .hbm, .pmu, .fresh, .outbox]
  | .tdmDescriptorTakeup .. | .tdmDescriptorReadRetry .. | .busMasterEnableChange .. =>
    [.regs, .host, .pmu, .tdm, .outbox]
  | .tdmLoad .. =>
    [.regs, .banks, .gates, .host, .pmu, .tdm, .outbox]
  | .tdmWrite .. =>
    [.regs, .tab, .hbm, .host, .pmu, .tdm, .fresh, .outbox]
  | .tdmRead .. | .tdmBadOp .. =>
    [.regs, .pmu, .tdm, .outbox]
  | .tdmInsert .. | .tdmRemove .. =>
    [.regs, .exm, .hbm, .host, .pmu, .tdm, .outbox]
  | .tdmStageFw .. =>
    [.regs, .host, .boot, .pmu, .tdm, .outbox]
  | .tdmProfileApply .. =>
    [.regs, .pmu, .tdm, .fresh, .outbox]
  | .learnRequest .. =>
    [.regs, .exm, .learn, .hbm, .pmu, .outbox]
  | .lrnPostGo .. | .lrnPostRemove .. =>
    [.regs, .learn, .pmu, .fresh, .outbox]
  | .learnAgeSweep .. =>
    [.regs, .exm, .hbm, .pmu, .outbox]
  | .shadowCompare .. =>
    [.regs, .hbm, .host, .pmu, .shd, .fresh, .outbox]
  | .shadowConfirm .. =>
    [.regs, .banks, .exm, .hbm, .host, .pmu, .shd, .fresh, .outbox]
  | .mtResponseReceived .. | .mtTimeout .. | .completionReceived .. | .completionTimeout .. =>
    [.regs, .host, .pmu, .outbox]
  | .winSwapHoldTimeout .. =>
    [.regs, .fab, .host, .pmu, .fresh, .outbox]
  | .puntWrite .. | .puntHoldExpire .. =>
    [.regs, .path, .buf, .q, .hbm, .host, .pmu, .fresh, .outbox]
  | .injectFetch .. =>
    [.regs, .path, .host, .pmu, .outbox]
  | .containmentEnter .. | .hifContain .. =>
    [.regs, .path, .buf, .q, .hbm, .host, .pmu, .tdm, .fresh, .outbox]
  | .hifRelease .. =>
    [.regs, .host, .pmu, .tdm, .fresh, .outbox]
  | .tagQuarantineEnd .. =>
    [.host]
  | .icuClaim .. | .icuDone .. =>
    [.regs, .icu, .pmu, .fresh, .outbox]
  | .icuDoorbell .. =>
    [.regs, .pins, .icu, .pwr, .pmu, .fresh, .outbox]
  | .holdoffExpire .. =>
    [.icu]
  | .coreHalt .. =>
    [.regs, .learn, .mgt, .pmu, .fresh, .outbox]
  | .coreLoadDone .. =>
    [.regs, .learn, .mgt]
  | .watchdogKick .. =>
    [.regs, .mgt, .pmu, .fresh, .outbox]
  | .watchdogExpire .. =>
    [.regs, .time, .spine, .pair, .path, .learn, .q, .lat, .fab, .host, .icu, .boot, .pmu, .shd, .rst, .outbox]
  | .bootStart .. =>
    [.regs, .learn, .mgt, .boot, .pmu, .outbox]
  | .candidateAccepted .. =>
    [.regs, .fab, .boot]
  | .flashCopy .. =>
    [.regs, .boot, .pmu, .outbox]
  | .bootTraverse .. =>
    [.regs, .time, .spine, .pair, .path, .learn, .q, .lat, .fab, .host, .icu, .boot, .pmu, .shd, .rst, .fresh, .outbox]
  | .bootLive .. =>
    [.regs, .boot, .pmu, .rst, .fresh, .outbox]
  | .headlessTimeout .. =>
    [.regs, .boot, .pmu, .rst, .outbox]
  | .bootUnstage .. =>
    [.regs, .boot, .pmu, .fresh, .outbox]
  | .secAttest .. =>
    [.regs, .sec, .pmu, .fresh, .outbox]
  | .attestDone .. =>
    [.regs, .sec, .pmu, .outbox]
  | .commitDone .. =>
    [.regs, .time, .spine, .pair, .path, .learn, .q, .lat, .fab, .host, .icu, .boot, .sec, .pmu, .shd, .rst, .fresh,
     .outbox]
  | .domainSwitchOn .. =>
    [.regs, .pins, .time, .path, .fab, .icu, .boot, .pwr, .pmu, .outbox]
  | .domainReadyTimeout .. | .governorTick .. =>
    [.regs, .pwr, .pmu, .outbox]
  | .domainSwitchOff .. =>
    [.regs, .time, .spine, .pair, .banks, .path, .exm, .tab, .buf, .q, .sched, .gates, .lat, .fab, .hbm, .host, .icu,
     .pwr, .pmu, .shd, .fresh, .outbox]
  | .wake .. =>
    [.regs, .pins, .pwr]
  | .coldReset .. =>
    [.regs, .pins, .time, .spine, .pair, .cairn, .banks, .path, .exm, .learn, .tab, .buf, .q, .sched, .gates, .lat,
     .fab, .hbm, .host, .icu, .mgt, .boot, .sec, .pwr, .pmu, .tdm, .shd, .rst, .tap, .d2d, .fresh]
  | .hostPerst .. =>
    [.regs, .pins, .cairn, .banks, .path, .learn, .buf, .q, .sched, .gates, .lat, .fab, .hbm, .host, .icu, .pmu, .tdm,
     .rst, .fresh, .outbox]
  | .softWarm .. =>
    [.regs, .pins, .cairn, .banks, .path, .learn, .buf, .q, .sched, .gates, .lat, .fab, .hbm, .icu, .pmu, .tdm, .rst,
     .fresh, .outbox]
  | .warmClearDone .. =>
    [.regs, .pins, .time, .spine, .pair, .cairn, .banks, .path, .learn, .buf, .q, .sched, .gates, .lat, .fab, .hbm,
     .host, .icu, .boot, .pwr, .pmu, .tdm, .shd, .rst, .outbox]
  | .flr .. =>
    [.regs, .host, .rst]
  | .sdrefOkChange .. =>
    [.regs, .pins, .fab, .pmu, .outbox]
  | .profileApplyDone .. =>
    [.regs, .banks, .exm, .tdm, .fresh]
  | .flrClearDone .. =>
    [.regs, .time, .spine, .pair, .cairn, .banks, .path, .learn, .buf, .q, .sched, .gates, .lat, .fab, .hbm, .host,
     .icu, .pmu, .tdm, .shd, .rst, .outbox]
  | .blockResetDone .. =>
    [.regs, .fab, .rst]
  | .endOfCold .. =>
    [.regs, .pins, .pwr, .rst]
  | .tapClock .. =>
    [.tap, .fresh, .outbox]
  | .pairLinkFrame .. =>
    [.regs, .spine, .pair, .path, .pmu, .outbox]

/-! ## What statements name -/

/-- The buffer indices that a list of runs stands for, oldest first. -/
def runIndices (l : List (Nat × Nat)) : List Nat := l.flatMap (fun r => List.range' r.1 r.2)

/-- Every gate of a port has the state that the mechanism of its class gives (R261). -/
def State.gatesSettled (s : State) (p : Nat) : Prop := ∀ c, c < 8 → (s.gate p).open_.getLsbD c = s.gateTarget p c

/-- The descriptor in progress is one of operation `op` that the engine works on: no earlier check of R198 stops it. -/
def State.tdmWorks (s : State) (op : Nat) (d : Desc) : Prop :=
  s.tdm.cur = some d ∧ d.op = op ∧ badOp d = false ∧ s.tdm.abandoned = false ∧ s.runs 0x39 = true ∧ s.dmaOk = true ∧
    (d.pos = 0 → s.badRange d = false) ∧ d.len ≠ 0

/-- `t` is a state in which a descriptor at ring index `ring` has completed with a status: no descriptor is in progress, HEAD
has advanced, and dwords 6 and 7 of the descriptor were written to host memory. -/
def State.tdmDone (s t : State) (ring status art detail : Nat) : Prop :=
  t.tdm.cur = none ∧ t.rd Reg.TDM_HEAD_IDX = (ring + 1) % max 1 s.tdmCount % 2 ^ Reg.TDM_HEAD_IDX.width ∧
    Emit.hostWrite (s.descAddr ring + 24) (dwords [detail, status + art * 256 + 2 ^ 31]) ∈ t.outbox

/-- A byte of local HBM that no structure of the device holds, in a stack that runs. -/
def State.plainHbm (s : State) (a : Nat) : Bool :=
  s.stackState (hbmStack a) == 3 && (s.slotAt a).isNone && (s.bufferAt a).isNone && !s.ownHbm a
    && !(decide (0x30000000 ≤ a) && decide (a < 0x40000000))

end Sys2Proof.Machine
end

