-- ==== Sys2Proof/Certificates/Slice0/Obligations.lean ====
section
/-! DEFINITION. Obligations: the statements for the provers, in the order of the spec's parts. -/
open Sys2Proof Sys2Proof.Machine

/-! ## The whole block -/

/-- A step takes the command at the front of the queue and is exec of it on the state with the rest of the queue; with no
command waiting it changes nothing (the model's choice, log entry 2). -/
def Obligations.StepRunsTheFrontCommand : Prop :=
  (∀ (s : State) (c : Instr) (rest : List Instr), s.pending = c :: rest → step s = exec c { s with pending := rest }) ∧
  ∀ s : State, s.pending = [] → step s = .next s

/-- Every command completes in every state (the model's reading of conditions that do not hold, log entry 1) and leaves the
queue as it is; so a step takes exactly one command off it. -/
def Obligations.EveryCommandCompletesAndLeavesTheQueue : Prop :=
  (∀ (c : Instr) (s : State), ∃ t, exec c s = .next t ∧ t.pending = s.pending) ∧
  ∀ (n : Nat) (s : State), runsSafely n s

/-- At reset the invariant of the model holds. -/
def Obligations.InvariantHoldsAtReset : Prop := State.reset.Inv

/-- R66, R81, R295, R461: every step keeps the invariant: the HBM bytes in canonical form, at most 32 armed cairns, no two of
which cover one page, at most 16 entries of the cairn log, die-to-die channels below 16, and one of the sixteen states of the
TAP controller. -/
def Obligations.EveryStepKeepsTheInvariant : Prop :=
  ∀ s t : State, s.Inv → step s = .next t → t.Inv

/-- Each command leaves every part of the state as it is but the ones that its row of `changes` lists. -/
def Obligations.EachCommandChangesItsPartsAlone : Prop :=
  ∀ (c : Instr) (s t : State), exec c s = .next t → ∀ p : Part, p ∉ changes c → p.kept s t

/-- R28, R407, R422, R431: the state after reset: registers at their reset values but for the mode, STANDBY (the model's choice
of the moment, log entry 7), only AON powered, no core running, nothing armed, queued, buffered or waiting. -/
def Obligations.ResetLeavesTheDeviceInStandby : Prop :=
  State.reset.mode = 0 ∧ State.reset.pwr.on = [0] ∧ State.reset.rst.cold = true ∧ State.reset.tState = 0 ∧
  (∀ c, c < 4 → State.reset.coreState c = 0) ∧ State.reset.rd Reg.BOOT_STAT_SOURCE = 3 ∧ State.reset.cairn.armed = [] ∧ State.reset.buf.bufs = [] ∧
  State.reset.tdm.cur = none ∧ State.reset.hbm.mem = [] ∧ State.reset.pending = [] ∧ State.reset.outbox = [] ∧
  (∀ p ∈ allPages, ∀ f ∈ pageFields p, ∀ i ∈ f.instances, fkey p f i ≠ Reg.TOP_STAT_MODE.key 0 →
    State.reset.rdp p f i = f.resetAt i)

/-! ## Registers -/

/-- R26: a dword write that reaches its page, not frozen by R35, takes effect field by field: an RW field takes its bits of the
value, an RWS field's staged copy takes them and its active value stays, a W1C field loses the bits written as 1, RO, RC and WO
fields stay; every field of another dword and every other structure stays. -/
def Obligations.RegisterWriteFollowsAccessCodes : Prop :=
  ∀ (s : State) (m : Master) (p off : Nat) (v : Word), s.access m p off 4 true = .ok → actsWhenWritten p off = false →
    s.frozen p = false → ((fieldsAt p off).map (keyOf p)).Nodup → (∀ h ∈ fieldsAt p off, h.1.wide = false) →
    ∃ t, exec (.registerWrite m p off 4 v) s = .next t ∧
      (∀ h ∈ fieldsAt p off, isTele (keyOf p h) = false →
        (h.1.acc = .rw → t.rdp p h.1 h.2.1 = bits v.toNat h.1.hi h.1.lo) ∧
        (h.1.acc = .rws → t.rdp p h.1 h.2.1 = s.rdp p h.1 h.2.1 ∧ t.stgp p h.1 h.2.1 = bits v.toNat h.1.hi h.1.lo) ∧
        (h.1.acc = .w1c → t.rdp p h.1 h.2.1 =
          (s.rdp p h.1 h.2.1 - (s.rdp p h.1 h.2.1 &&& bits v.toNat h.1.hi h.1.lo)) % 2 ^ h.1.width) ∧
        ((h.1.acc = .ro ∨ h.1.acc = .rc ∨ h.1.acc = .wo) → t.rdp p h.1 h.2.1 = s.rdp p h.1 h.2.1)) ∧
      (∀ k, isTele k = false → k ∉ (fieldsAt p off).map (keyOf p) → t.regs.active.lookup k = s.regs.active.lookup k) ∧
      s.OnlyRegs t

/-- R35: while an armed cairn freezes a page, a write of a dword that holds RWS fields alone changes no staged copy and counts
one STAGED_FROZEN trouble. R24, R23: a write of another size than a dword, at an offset that is no multiple of 4, or to a page
number that is not implemented changes no register field but the host's count of such accesses, and is answered as unsupported.
-/
def Obligations.FrozenAndMalformedWritesChangeNothing : Prop :=
  (∀ (s : State) (m : Master) (p off : Nat) (v : Word), s.access m p off 4 true = .ok → actsWhenWritten p off = false →
    s.frozen p = true → fieldsAt p off ≠ [] → (∀ h ∈ fieldsAt p off, h.1.acc = .rws) →
    ∃ t, exec (.registerWrite m p off 4 v) s = .next t ∧ t.regs.staged = s.regs.staged ∧ (s.trouble p 0).CountsTo t) ∧
  (∀ (s : State) (m : Master) (p off size : Nat) (v : Word), (size ≠ 4 ∨ off % 4 ≠ 0 ∨ (blockOf p).isNone) → m ≠ .host →
    ∃ t, exec (.registerWrite m p off size v) s = .next t ∧ (s.emit (.unsupported m)).CountsTo t)

/-- R38: a write of a 64-bit field's low dword is kept and changes no field; the write of its high dword gives the field both.
-/
def Obligations.HighDwordWriteTakesBothDwords : Prop :=
  ∀ (s : State) (m : Master) (p off : Nat) (f : Fld) (i : Nat) (v : Word), s.access m p off 4 true = .ok →
    actsWhenWritten p off = false → f.wide = true → s.frozen p = false → isTele (fkey p f i) = false →
    (fieldsAt p off = [(f, i, 0)] →
      ∃ t, exec (.registerWrite m p off 4 v) s = .next t ∧ (s.keepLow m (lowAddr p f i) v.toNat).CountsTo t) ∧
    (fieldsAt p off = [(f, i, 1)] → isHighDword p off = true →
      ∃ t, exec (.highDwordWrite m p off v) s = .next t ∧
        (f.acc = .rw → (s.wrp p f i (s.lowOf m (lowAddr p f i) + v.toNat * 2 ^ 32)).CountsTo t) ∧
        (f.acc = .rws → (s.wrStg p f i (s.lowOf m (lowAddr p f i) + v.toNat * 2 ^ 32)).CountsTo t))

/-- R37: a dword read that reaches its page answers the dword as its master sees it; a read of a 64-bit field's low dword
latches the high dword for that master and page, and a read of a high dword answers what is latched. R31: a write of TRB_k sets
a half to 0 where it writes 0 there, and leaves the other values as they are. R26, R106, R343: the read-to-clear counters of a
lane's PRBS errors and of a ring's losses answer their value and are 0 afterwards. R436: CLEAR_ALL sets every PMU value and WRAP
bit to 0, and a write of the two dwords of a value sets the counter that PMU_IDX names and clears its WRAP bit. -/
def Obligations.LatchingReadsAndClearingAccesses : Prop :=
  (∀ (s : State) (m : Master) (p off : Nat), s.access m p off 4 false = .ok → actsWhenRead p off = false →
    ∃ u t, s.CountsTo u ∧ exec (.lowDwordRead m p off) s = .next t ∧
      t.outbox = u.outbox ++ [.readData m (u.seenDword m p off % 2 ^ 32)] ∧
      (∀ h, (fieldsAt p off).find? (fun h => h.1.wide && h.2.2 == 0) = some h →
        t.latched m (latchKey p off) = u.fieldView p h.1 h.2.1 / 2 ^ 32) ∧
      ((fieldsAt p off).any (fun h => h.1.wide && h.2.2 == 1) = true → u.seenDword m p off = s.latched m p % 2 ^ 32) ∧
      s.OnlyRegs t) ∧
  (∀ (s : State) (m : Master) (p k : Nat) (v : Word), k < 8 → s.access m p (0x20 + 4 * k) 4 true = .ok → ¬ (p = 9 ∧ k = 2) →
    ∃ t, exec (.trbWrite m p k v) s = .next t ∧
      t.rdp p Reg.TRB_k_CNT_LO k = (if v.toNat % 65536 = 0 then 0 else s.rdp p Reg.TRB_k_CNT_LO k) ∧
      t.rdp p Reg.TRB_k_CNT_HI k = (if v.toNat / 65536 = 0 then 0 else s.rdp p Reg.TRB_k_CNT_HI k) ∧
      (∀ x, isTele x = false → x ≠ fkey p Reg.TRB_k_CNT_LO k → x ≠ fkey p Reg.TRB_k_CNT_HI k →
        t.regs.active.lookup x = s.regs.active.lookup x) ∧
      s.OnlyRegs t) ∧
  (∀ (s : State) (m : Master),
    (∀ p lane, 0x48 ≤ p → p ≤ 0x4B → lane < 32 → s.access m p (0x108 + 0x10 * lane) 4 false = .ok →
      ∃ t, exec (.prbsErrRead m p lane) s = .next t ∧ t.rdp p Reg.NSD_PRBS_ERR lane = 0 ∧
        Emit.readData m ((s.rdp p Reg.NSD_PRBS_PATTERN lane + 4 * s.rdp p Reg.NSD_PRBS_GEN lane +
          8 * s.rdp p Reg.NSD_PRBS_CHK lane + 65536 * s.rdp p Reg.NSD_PRBS_ERR lane) % 2 ^ 32) ∈ t.outbox) ∧
    (∀ ring, ring < 36 → s.access m 0x0C (0x118 + 0x20 * ring) 4 false = .ok →
      ∃ t, exec (.hdmErrRead m ring) s = .next t ∧ t.rdi Reg.HDM_ERR_i_CNT ring = 0)) ∧
  (∀ (s : State) (m : Master),
    (s.access m 0x09 0x100 4 true = .ok →
      ∃ t, exec (.pmuClearAll m) s = .next t ∧ t.pmu.val = [] ∧ t.pmu.wrap = [] ∧ t.pmu.cfg = s.pmu.cfg) ∧
    (∀ v : Word, s.access m 0x09 0x110 4 true = .ok →
      ∃ t, exec (.pmuValueWrite m false v) s = .next t ∧ (s.keepLow m 0x9110 v.toNat).CountsTo t) ∧
    (∀ v : Word, s.access m 0x09 0x114 4 true = .ok → v.toNat < 256 →
      ∃ t, exec (.pmuValueWrite m true v) s = .next t ∧
        t.pmu.val.get 0 (s.rd Reg.PMU_IDX_IDX) = v.toNat * 2 ^ 32 + s.lowOf m 0x9110 ∧
        (s.rd Reg.PMU_IDX_IDX) ∉ t.pmu.wrap))

/-- R30, R34: a write of PG_CTRL.BLK_EN sets it, but the pages that never idle take no 0; R30, R432: BLK_SRST begins a BLOCK
reset of the page, whose end the command BLOCK_RESET_DONE reports, recording the page in RST_LAST. R432: the end of a BLOCK
reset takes the page out of its register clear and records it. R442, R443: the boundary that ends a fault window moves its count
to TRANSIENT unless the window declared, and a write of FWIN_n_CFG ends the window and sets its event, length and threshold; a
read of FWIN_n_STAT clears TRANSIENT. -/
def Obligations.PageControlsAndFaultWindowsTakeEffect : Prop :=
  (∀ (s : State) (m : Master) (p : Nat), s.access m p 8 4 true = .ok →
    (∀ en : Bool, (neverIdle p = false ∨ en = true) → ∃ t, exec (.blkEnWrite m p en) s = .next t ∧ t.blkEn p = en) ∧
    (neverIdle p = true → ∃ t, exec (.blkEnWrite m p false) s = .next t ∧ s.CountsTo t) ∧
    (blockRefused p = false → s.rst.warm = false → (s.rst.flr = false ∨ hostPages.contains p = false) →
      s.rst.blocks.contains p = false →
      ∃ t, exec (.blkSrst m p) s = .next t ∧ p ∈ t.rst.blocks) ∧
    (blockRefused p = true → ∃ t, exec (.blkSrst m p) s = .next t ∧ (s.trouble 0x02 3).CountsTo t)) ∧
  (∀ (s : State) (p : Nat), p < 0x80 → s.rst.blocks.contains p = true →
    ∃ t, exec (.blockResetDone p) s = .next t ∧ p ∉ t.rst.blocks ∧ t.rd Reg.RST_LAST_BLOCK_PAGE = p) ∧
  (∀ (s : State) (p n : Nat), (blockOf p).isSome → n < 4 →
    (s.windowDue p n = true → ∃ t, exec (.faultWindowEnd p n) s = .next t ∧ t.rdp p Reg.FWIN_n_STAT_CUR n = 0 ∧
      t.rdp p Reg.FWIN_n_STAT_TRANSIENT n =
        (if s.rdp p Reg.FWIN_n_CFG_THRESH n ≠ 0 ∧ s.rdp p Reg.FWIN_n_CFG_THRESH n ≤ s.rdp p Reg.FWIN_n_STAT_CUR n
          then s.rdp p Reg.FWIN_n_STAT_TRANSIENT n
          else min (s.rdp p Reg.FWIN_n_STAT_TRANSIENT n + s.rdp p Reg.FWIN_n_STAT_CUR n) 0xFFFF)) ∧
    (∀ (m : Master) (v : Word), s.access m p (0x40 + 8 * n) 4 true = .ok →
      ∃ t, exec (.fwinCfgWrite m p n v) s = .next t ∧ t.rdp p Reg.FWIN_n_STAT_CUR n = 0 ∧
        t.rdp p Reg.FWIN_n_CFG_EVENT n = bits v.toNat 3 0 ∧ t.rdp p Reg.FWIN_n_CFG_LEN n = bits v.toNat 23 8 ∧
        t.rdp p Reg.FWIN_n_CFG_THRESH n = bits v.toNat 31 24) ∧
    (∀ m : Master, s.access m p (0x44 + 8 * n) 4 false = .ok →
      ∃ t, exec (.fwinStatRead m p n) s = .next t ∧ t.rdp p Reg.FWIN_n_STAT_TRANSIENT n = 0 ∧
        ∃ x, Emit.readData m x ∈ t.outbox ∧ x % 65536 = s.rdp p Reg.FWIN_n_STAT_TRANSIENT n % 65536))

/-! ## Time and the rope of channels -/

/-- R6: the epoch number of a time is its seconds × 8,000 plus the 125 µs in its nanoseconds, as a count of 48 bits, and the
pitch number is the 500 ns in the nanoseconds within the epoch, from 0 to 249; the device's own are those of its time. -/
def Obligations.EpochAndPitchNumberTime : Prop :=
  (∀ sec ns, ns < 10 ^ 9 → epochOf (sec * 10 ^ 9 + ns) = (sec * 8000 + ns / 125000) % 2 ^ 48 ∧
    pitchOf (sec * 10 ^ 9 + ns) = ns % 125000 / 500 ∧ pitchOf (sec * 10 ^ 9 + ns) ≤ 249) ∧
  ∀ s : State, s.epoch = epochOf s.ns ∧ s.pitch = pitchOf s.ns

/-- R46, R83: a tick adds 0.8 ns times (1 + adj) to every powered channel that is not fallow, in the model's units of
1/(5·2^18·10^9) ns, whatever the vote finds; a channel without power or fallow stays. R83: with three channels in the vote,
AUTO_RESTART off and one channel that differs from two equal ones after the tick, the lower-lettered of the equal ones governs,
the differing one leaves the vote and its DISSENT bit is set. -/
def Obligations.TicksAdvanceAndDissentersLeaveTheVote : Prop :=
  (∀ s : State, ∃ t, exec .timeTick s = .next t ∧ ∀ n, n < 3 →
    (t.chan n).time = if s.domainUp (3 + n) = true ∧ (s.chan n).fallow = false
      then (s.chan n).time + (1048576000000000 + (s.chan n).adj).toNat else (s.chan n).time) ∧
  (∀ s : State, s.rd Reg.SPN_STAT_RUNNING = 7 → s.rdb Reg.SPN_CTL_AUTO_RESTART = false →
    let u := s.tickChannels
    ∀ d w x, ((d, w, x) = (2, 0, 1) ∨ (d, w, x) = (1, 0, 2) ∨ (d, w, x) = (0, 1, 2)) →
      (u.chan w).time = (u.chan x).time → (u.chan d).time ≠ (u.chan w).time →
      ∃ t, exec .timeTick s = .next t ∧ t.rd Reg.SPN_STAT_ACTIVE = w ∧ t.runningChans = [w, x] ∧
        t.rd Reg.SPN_STAT_DISSENT = setBit (s.rd Reg.SPN_STAT_DISSENT) d true % 2 ^ Reg.SPN_STAT_DISSENT.width ∧
        s.RegsBut [Reg.SPN_STAT_ACTIVE.key 0, Reg.SPN_STAT_RUNNING.key 0, Reg.SPN_STAT_DISSENT.key 0,
          Reg.SPN_LAST_MM_LO_EPOCH.key 0, Reg.SPN_LAST_MM_HI_EPOCH.key 0, trbKey 0x13 3] t)

/-- R85, R83, R84: SPN_CMD.SELFTEST starts the known-answer check; its end clears CHECKING, and a check that a command started
sets the FAILED bit of each running channel that failed and clears it for each that passed, and changes neither RUNNING nor
ACTIVE. R86: a commanded restart of a channel that is not fallow takes it out of the vote until it has loaded the governing time
at a pitch boundary and the next epoch boundary has come; then it rejoins. -/
def Obligations.ChannelChecksAndRestartsEnd : Prop :=
  ((∀ (s : State) (m : Master), s.access m 0x13 0x108 4 true = .ok →
    ∃ t, exec (.spnSelftest m) s = .next t ∧ t.rd Reg.SPN_STAT_CHECKING = 1 ∧ t.spine.checkSelf = true ∧
      s.RegsBut [Reg.SPN_STAT_CHECKING.key 0] t) ∧
  (∀ (s : State) (a b c : Bool), s.rdb Reg.SPN_STAT_CHECKING = true → s.spine.checkNoMajority = false →
    s.spine.checkTwo = false → s.rd Reg.SPN_STAT_RUNNING = 7 →
    ∃ t, exec (.katComplete a b c) s = .next t ∧ t.rd Reg.SPN_STAT_CHECKING = 0 ∧
      t.rd Reg.SPN_STAT_FAILED = b01 (!a) + 2 * b01 (!b) + 4 * b01 (!c) ∧ t.spine.checkSelf = false ∧
      s.RegsBut [Reg.SPN_STAT_CHECKING.key 0, Reg.SPN_STAT_FAILED.key 0, trbKey 0x13 5] t)) ∧
  ((∀ (s : State) (m : Master) (n : Nat), n < 3 → s.access m 0x13 0x108 4 true = .ok → (s.chan n).fallow = false →
    ∃ t, exec (.spnRestart m (BitVec.ofNat 3 (2 ^ n))) s = .next t ∧ bitN (t.rd Reg.SPN_STAT_RUNNING) n = 0 ∧
      bitN (t.rd Reg.SPN_STAT_RESTARTING) n = 1 ∧ (t.chan n).loadPending = true ∧ (t.chan n).rejoinAt = none) ∧
  (∀ (s : State) (n e : Nat), n < 3 → (s.chan n).rejoinAt = some e → e ≤ s.epoch →
    ∃ t, exec (.channelRejoin n) s = .next t ∧ bitN (t.rd Reg.SPN_STAT_RUNNING) n = 1 ∧
      bitN (t.rd Reg.SPN_STAT_RESTARTING) n = 0 ∧ (t.chan n).rejoinAt = none ∧
      s.RegsBut [Reg.SPN_STAT_RUNNING.key 0, Reg.SPN_STAT_RESTARTING.key 0] t))

/-- R46, R53: while time runs, the event of a pitch boundary lets a waiting TIM_FREQ take effect, ends a holdover term, and
marks the boundary as handled. R92, R313: the event of an epoch boundary keeps the digest of the ended epoch and starts new
decision records. -/
def Obligations.PitchAndEpochBoundariesTakeEffect : Prop :=
  (∀ (s : State) (f : Int), s.timeRuns = true → s.time.freqPending = some f →
    ∃ t, exec .pitchBoundary s = .next t ∧ t.time.servoFreq = f ∧ t.time.freqPending = none ∧ t.time.holdTerm = 0 ∧
      t.time.holdActive = false ∧ t.time.chA.adj = t.time.eff) ∧
  (∀ s : State, s.timeRuns = true →
    ∃ t, exec .epochBoundary s = .next t ∧ t.pair.decCrc = [] ∧ t.pair.decSeq = [] ∧ t.pmu.ceCount = 0 ∧
      ∃ r, t.pair.own.head? = some r ∧ r.2.1 = s.pair.genAtBoundary ∧ r.2.2.2 = s.decCount)

/-- R48: the transitions that TIM_CMD gives network time: ACQUIRE from FREE or HOLDOVER, LOCK from ACQUIRING with a reference of
the host, HOLD with VALID to HOLDOVER, RESUME to the state before the Traverse, FREE from every state with every term 0; any
other command in any other state is rejected and counted. R53, R54: a write of TIM_FREQ waits for the next pitch boundary and
restarts the TIM_HOLD_TIMEOUT count; a write of TIM_PHASE_ADJ that is neither a forward sum beyond TIM_STEP_THRESH nor made with
no slew limit or in FREE adds to the phase still to slew. R48, R53: TIM_HOLD_TIMEOUT epochs without an update take a locked
device with VALID to HOLDOVER; 32,000 epochs in TRAVERSE_HOLD do too; R59: a servo that has stayed within 2 ns for 64 epochs
locks. -/
def Obligations.TimeStateFollowsItsTable : Prop :=
  (∀ (s : State) (m : Master), s.access m 0x10 0x104 4 true = .ok →
    (∀ ref : BitVec 2, (s.tState = 0 ∨ s.tState = 3) → ref ≠ 0 →
      ∃ t, exec (.timCmdAcquire m ref) s = .next t ∧ t.tState = 1 ∧ t.tRef = ref.toNat ∧ t.time.convergeCount = 0 ∧
        s.RegsBut [Reg.TIM_STATE_STATE.key 0, Reg.TIM_STATE_REF.key 0] t) ∧
    (s.tState = 1 → s.tRef ≠ 3 →
      ∃ t, exec (.timCmdLock m) s = .next t ∧ t.tState = 2 ∧ t.rd Reg.TIM_STATE_VALID = 1 ∧
        s.RegsBut [Reg.TIM_STATE_STATE.key 0, Reg.TIM_STATE_VALID.key 0] t) ∧
    ((s.tState = 1 ∨ s.tState = 2) → s.rdb Reg.TIM_STATE_VALID = true →
      ∃ t, exec (.timCmdHold m) s = .next t ∧ t.tState = 3 ∧ t.time.holdStart = s.epoch ∧ t.time.holdActive = true ∧
        t.time.c0 = s.time.servoFreq ∧
        s.RegsBut [Reg.TIM_STATE_STATE.key 0, Reg.TIM_HOLD_START_LO_EPOCH.key 0, Reg.TIM_HOLD_START_HI_EPOCH.key 0] t) ∧
    (s.tState = 4 → s.time.beforeTraverse < 8 →
      ∃ t, exec (.timCmdResume m) s = .next t ∧ t.tState = s.time.beforeTraverse ∧ t.time.servoEpoch = s.epoch) ∧
    (∃ t, exec (.timCmdFree m) s = .next t ∧ t.tState = 0 ∧ t.tRef = 0 ∧ t.time.servoFreq = 0 ∧ t.time.slewTerm = 0 ∧
      t.time.holdTerm = 0 ∧ t.time.phaseRem = 0 ∧
      s.RegsBut [Reg.TIM_FREQ_ADJ.key 0, Reg.TIM_STATE_STATE.key 0, Reg.TIM_STATE_REF.key 0] t) ∧
    (∀ ref : BitVec 2, ¬ (s.tState = 0 ∨ s.tState = 3) ∨ ref = 0 →
      ∃ t, exec (.timCmdAcquire m ref) s = .next t ∧ (s.trouble 0x10 3).CountsTo t)) ∧
  (∀ (s : State) (m : Master),
    (∀ v : Word, s.access m 0x10 0x120 4 true = .ok → s.tState ≤ 2 → s.tRef ≠ 3 →
      ∃ t, exec (.timFreqWrite m v) s = .next t ∧ t.rd Reg.TIM_FREQ_ADJ = v.toNat ∧
        t.time.freqPending = some (toSigned 32 v.toNat * 256) ∧
        ((s.tRef = 1 ∨ s.tRef = 2) → t.time.servoEpoch = s.epoch) ∧ s.RegsBut [Reg.TIM_FREQ_ADJ.key 0] t) ∧
    (∀ d : Word, s.access m 0x10 0x124 4 true = .ok → s.slewLimit ≠ 0 → s.tState ≠ 0 →
      (let sum := s.time.phaseRem + toSigned 32 d.toNat * subPerNs
       (toSigned 32 d.toNat ≤ 0 ∨ sum ≤ (s.rd Reg.TIM_STEP_THRESH_NS : Int) * subPerNs) →
        ∃ t, exec (.timPhaseAdj m d) s = .next t ∧
          (show State from { s with time := { s.time with phaseRem := sum } }).CountsTo t) ∧
      (0 < toSigned 32 d.toNat →
        (s.rd Reg.TIM_STEP_THRESH_NS : Int) * subPerNs < s.time.phaseRem + toSigned 32 d.toNat * subPerNs →
        ∃ t, exec (.timPhaseAdj m d) s = .next t ∧ (s.trouble 0x10 4).CountsTo t))) ∧
  (∀ s : State,
    ((s.tState = 1 ∨ s.tState = 2) → s.rdb Reg.TIM_STATE_VALID = true → s.rd Reg.TIM_HOLD_TIMEOUT_EPOCHS ≠ 0 →
      s.time.servoEpoch + s.rd Reg.TIM_HOLD_TIMEOUT_EPOCHS ≤ s.epoch →
      ∃ t, exec .holdTimeout s = .next t ∧ t.tState = 3 ∧ t.time.holdStart = s.epoch) ∧
    (s.tState = 4 → s.time.travEpoch + 32000 ≤ s.epoch →
      ∃ t, exec .traverseHoldTimeout s = .next t ∧ t.tState = 3 ∧ t.time.holdStart = s.epoch) ∧
    (s.tState = 1 → s.tRef = 3 → 64 ≤ s.time.convergeCount →
      ∃ t, exec .servoConverged s = .next t ∧ t.tState = 2 ∧ t.rd Reg.TIM_STATE_VALID = 1))

/-- R50, R58, R62, R63, R90: the pins and FIFOs of network time: a PPS edge captures the time of every powered channel, a PPS
output pulse leaves where it is enabled and the shared outputs are driven, the ToD FIFOs take and give bytes in order, the
timestamp queue gives its oldest entry and drops it at the last dword, and a good SMBus reading is the temperature in use. -/
def Obligations.TimePinsAndFifos : Prop :=
  ∀ (s : State) (m : Master),
    (s.domainUp 3 = true → ∃ t, exec .ppsInEdge s = .next t ∧
      t.rdp 0x10 Reg.TIM_PPS_CAP_k_TIME 0 = time96 (s.chan 0).time % 2 ^ 32) ∧
    (s.rdb Reg.TIM_PPS_OUT_EN = true → s.rd Reg.TIM_PPS_OUT_WIDTH ≠ 0 → s.pins.sharedOut = true →
      exec .ppsOutPulse s = .next (s.emit .pulse)) ∧
    (s.pins.sharedOut = false → exec .ppsOutPulse s = .next s) ∧
    (∀ b : Byte, baudOf (s.rd Reg.TIM_TOD_BAUD_IN) ≠ 0 → s.time.todRx.length < 256 → s.mode ≠ 0 →
      ∃ t, exec (.todRxByte b) s = .next t ∧ t.time.todRx = s.time.todRx ++ [b] ∧ s.RegsBut [] t) ∧
    (s.access m 0x10 0x170 4 false = .ok → ∀ b rest, s.time.todRx = b :: rest →
      ∃ t, exec (.todRxRead m) s = .next t ∧ Emit.readData m (b.toNat + 2 ^ 31) ∈ t.outbox ∧ t.time.todRx = rest) ∧
    (∀ b : Byte, s.access m 0x10 0x174 4 true = .ok → s.time.todTx.length < 256 →
      ∃ t, exec (.todTxWrite m b) s = .next t ∧
        (show State from { s with time := { s.time with todTx := s.time.todTx ++ [b] } }).CountsTo t) ∧
    (∀ k, k < 4 → s.access m 0x14 (0x120 + 4 * k) 4 false = .ok → ∀ e rest, s.time.tsq = e :: rest → s.time.tsqLatch = e →
      ∃ t, exec (.ptpTsqRead m k) s = .next t ∧ Emit.readData m (bits e (32 * k + 31) (32 * k)) ∈ t.outbox ∧
        t.time.tsq = (if k = 3 then rest else e :: rest)) ∧
    (∀ v : BitVec 16, s.tempSrc = 3 →
      ∃ t, exec (.smbusTempRead (some v)) s = .next t ∧ t.rd Reg.TIM_HOLD_TEMP_TEMP = v.toNat ∧
        t.rd Reg.TIM_HOLD_TEMP_STALE = 0 ∧ t.time.smbTemp = v.toNat ∧ t.time.smbFails = 0 ∧
        s.RegsBut [Reg.TIM_HOLD_TEMP_TEMP.key 0, Reg.TIM_HOLD_TEMP_STALE.key 0] t)

/-! ## The device pair -/

/-- R88, R89, R90: in a pair with BELAY_IN deasserted for 200 ns a CLAIM makes the device owner, with its shared outputs driven;
RELEASE ends ownership and deasserts BELAY_OUT; a fit standby with AUTO_TAKEOVER claims when BELAY_IN has been deasserted for
200 ns; of two devices that assert, seat 1 yields; a device whose PRESENT falls drives the shared outputs itself. -/
def Obligations.BelayDecidesOwnership : Prop :=
  ∀ (s : State) (m : Master),
    (s.access m 0x17 0x104 4 true = .ok → s.inPair = true → s.pins.belayIn = false → s.pins.belayInQuiet = true →
      s.owner = false →
      ∃ t, exec (.pairClaim m) s = .next t ∧ t.pins.belayOut = true ∧ t.pins.sharedOut = true ∧ t.owner = true ∧
        s.RegsBut [Reg.PAIR_STAT_OWNER.key 0, trbKey 0x17 8] t) ∧
    (s.access m 0x17 0x104 4 true = .ok → s.inPair = true → s.pins.belayOut = true →
      ∃ t, exec (.pairRelease m) s = .next t ∧ t.pins.belayOut = false ∧ t.pins.sharedOut = false ∧ t.owner = false ∧
        s.RegsBut [Reg.PAIR_STAT_OWNER.key 0] t) ∧
    (s.inPair = true → s.pins.belayOut = false → s.owner = false → s.rdb Reg.PAIR_CTL_AUTO_TAKEOVER = true →
      s.rdb Reg.PAIR_STAT_UNFIT = false →
      ∃ t, exec .belayInQualified s = .next t ∧ t.pins.belayOut = true ∧ t.pins.sharedOut = true ∧ t.owner = true) ∧
    (s.inPair = true → s.pins.belayOut = true → s.pins.seat = true →
      ∃ t, exec .belayContention s = .next t ∧ t.pins.belayOut = false ∧ t.pins.sharedOut = false ∧ t.owner = false ∧
        s.RegsBut [Reg.PAIR_STAT_OWNER.key 0, trbKey 0x17 7] t) ∧
    (∃ t, exec (.pairPresentChange false) s = .next t ∧ t.pins.present = false ∧ t.pins.belayOut = false ∧
      t.pins.sharedOut = true ∧ t.owner = false)

/-- R92, R93: the digest of the last epoch leaves with its generations and decisions; a digest that arrives restarts the miss
count and one whose GEN_DIGEST differs from the own record of its epoch sets MISMATCH; an epoch without digest is counted, and
the run that reaches PAIR_MISS_LIMIT takes LINK_UP; a frame of the pair link with EtherType 0x88B5 and 0x4B is such a digest.
R93: the end of the pair self-check: a pass sets NO_FAULT_FOUND, a failure SELF_FAIL and UNFIT and ends ownership. -/
def Obligations.DigestsAndSelfChecksCompareThePair : Prop :=
  (∀ s : State,
    (s.inPair = true → ∀ gen dec cnt, s.pair.own.find? (fun r => r.1 == s.epoch - 1) = some (s.epoch - 1, gen, dec, cnt) →
      ∃ t, exec .digestSend s = .next t ∧ t.pair.lastTx = time96 s.sub ∧
        t.outbox = s.outbox ++ [.pairFrame (toBe 2 0x88B5 ++
          digestBytes s.digestFlags (s.epoch - 1) (time96 s.sub) s.pair.lastRx gen dec cnt)] ∧ s.RegsBut [] t) ∧
    (∀ (d : Digest) (rx : Nat), s.inPair = true → d.version = 1 →
      ∃ t, exec (.digestReceived d rx) s = .next t ∧ t.pair.lastRx = rx ∧ t.pair.missRun = 0 ∧
        d.epoch ∈ t.pair.peerSeen ∧ t.rd Reg.PAIR_STAT_LINK_UP = 1 ∧
        (∀ gen dec cnt, s.pair.own.find? (fun r => r.1 == d.epoch) = some (d.epoch, gen, dec, cnt) → gen ≠ d.genDigest →
          t.rd Reg.PAIR_STAT_MISMATCH = 1 ∧ t.rd Reg.PAIR_LAST_MM_LO_EPOCH = d.epoch % 2 ^ 32)) ∧
    (s.inPair = true → 2 ≤ s.epoch → s.epoch - 2 ∉ s.pair.peerSeen →
      ∃ t, exec .digestMissing s = .next t ∧ t.pair.missRun = s.pair.missRun + 1 ∧
        (s.rd Reg.PAIR_MISS_LIMIT_N ≠ 0 → s.rd Reg.PAIR_MISS_LIMIT_N ≤ s.pair.missRun + 1 →
          t.rd Reg.PAIR_STAT_LINK_UP = 0) ∧
        s.RegsBut [trbKey 0x17 4, Reg.PAIR_STAT_LINK_UP.key 0] t) ∧
    (∀ b : Bytes, s.pagePowered 0x17 = true → fcsBad b = false → beAt b 12 2 = 0x88B5 → beAt b 14 1 = 0x4B →
      exec (.pairLinkFrame b) s = exec (.digestReceived (parseDigest (b.drop 14)) (time96 s.sub)) s)) ∧
  (∀ s : State, s.rdb Reg.PAIR_STAT_CHECKING = true →
    (∃ t, exec (.pairSelfcheckDone true) s = .next t ∧ t.rd Reg.PAIR_STAT_CHECKING = 0 ∧
      t.rd Reg.PAIR_STAT_NO_FAULT_FOUND = 1 ∧
      s.RegsBut [Reg.PAIR_STAT_CHECKING.key 0, Reg.PAIR_STAT_NO_FAULT_FOUND.key 0, trbKey 0x17 6] t) ∧
    (∃ t, exec (.pairSelfcheckDone false) s = .next t ∧ t.rd Reg.PAIR_STAT_CHECKING = 0 ∧
      t.rd Reg.PAIR_STAT_SELF_FAIL = 1 ∧ t.rd Reg.PAIR_STAT_UNFIT = 1 ∧
      (s.owner = true → s.inPair = true → t.owner = false ∧ t.pins.belayOut = false ∧ t.pins.sharedOut = false)))

/-! ## Ports -/

/-- R110, R111: a whole frame of 64 bytes to MAX_FRAME with a good FCS that is no MAC control frame, clock event or ESMC frame
waits at the end of its port's input FIFO, where the FIFO has room for it, and PORT_RX_FRAMES counts it. R112, R113: a PAUSE
frame to a port in RX_MODE 1 pauses every class for its timer, or ends the pause with a timer of 0; a timer that has run out
ends its class's pause; a refresh repeats the PAUSE of an asserted port. -/
def Obligations.FramesAndPausesReachTheirPort : Prop :=
  (∀ (s : State) (p : Nat) (b : Bytes), p < 128 → s.linkUp p = true → s.forwarding = true → 64 ≤ b.length →
    b.length ≤ s.maxFrame p → fcsBad b = false → beAt b 12 2 ≠ 0x8808 → s.clockEvent p b = false → isEsmc b = false →
    (s.port p).fill + b.length ≤ s.fifoSize p →
    ∃ t f, exec (.frameReceived p b true) s = .next t ∧ (t.port p).fifo = (s.port p).fifo ++ [f] ∧ f.bytes = b ∧
      f.whole = true ∧ f.badFcs = false ∧ f.pid = s.path.nextPid ∧ t.path.nextPid = s.path.nextPid + 1 ∧
      t.pf Reg.PORT_RX_FRAMES p = (s.pf Reg.PORT_RX_FRAMES p + 1) % 2 ^ 64) ∧
  (∀ (s : State) (p : Nat), p < 128 →
    (∀ b : Bytes, s.linkUp p = true → s.forwarding = true → s.pf Reg.PORT_FC_RX_MODE p = 1 → beAt b 14 2 = 1 →
      ∃ t, exec (.macControlFrame p b) s = .next t ∧ ∀ c, c < 8 →
        bitN (t.pf Reg.PORT_STAT_RX_PAUSED p) c = b01 (beAt b 16 2 != 0)) ∧
    (∀ c, c < 8 → bitN (s.pf Reg.PORT_STAT_RX_PAUSED p) c = 1 → (s.port p).pauseUntil.getD c 0 ≤ s.ns * 1000 →
      ∃ t, exec (.pauseTimerExpire p c) s = .next t ∧ bitN (t.pf Reg.PORT_STAT_RX_PAUSED p) c = 0 ∧
        s.RegsBut [fkey (portPage p) Reg.PORT_STAT_RX_PAUSED (p % 16)] t) ∧
    ((s.port p).asserted ≠ 0 → s.pf Reg.PORT_FC_QUANTA p ≠ 0 → s.pf Reg.PORT_FC_REFRESH_QUANTA p ≠ 0 → s.txOn p = true →
      s.pf Reg.PORT_FC_TX_MODE p = 1 →
      exec (.fcRefresh p) s = .next (s.emit (.pause p (s.pauseFrame p (s.pf Reg.PORT_FC_QUANTA p))))))

/-- R117: LINK_UP of a running port is 1 exactly while its PCS is aligned, FEC is locked where FEC is used, no local fault is
present and its reference clock runs (R455); PORT_STAT shows each of them. R116, R415, R455: SEATED_L asserted is qualified by
100 ms without a break; deasserted it takes a device that is on to STANDBY with cause 4; a reference clock that comes or goes is
seen. -/
def Obligations.LinkUpFollowsTheReceiveSide : Prop :=
  (∀ (s : State) (p : Nat) (al fl lf rf : Bool), p < 128 → s.portRuns p = true →
    ∃ t, exec (.linkStateChange p al fl lf rf) s = .next t ∧
      t.pf Reg.PORT_STAT_LINK_UP p = b01 (al && (fl || s.pf Reg.PORT_CFG_FEC p == 0) && !lf && s.refOk p) ∧
      t.pf Reg.PORT_STAT_ALIGNED p = b01 al ∧ t.pf Reg.PORT_STAT_FEC_LOCK p = b01 fl ∧
      t.pf Reg.PORT_STAT_LOCAL_FAULT p = b01 lf ∧ t.pf Reg.PORT_STAT_REMOTE_FAULT p = b01 rf) ∧
  (∀ s : State,
    (∃ t, exec .seatedAsserted s = .next t ∧ t.pins.seated = true ∧ t.pins.seatedQualified = false) ∧
    (s.pins.seated = true → ∃ t, exec .seatedQualified s = .next t ∧ t.pins.seated = true ∧ t.pins.seatedQualified = true) ∧
    (s.mode ≠ 0 → ∃ t, exec .seatedDeasserted s = .next t ∧ t.pins.seated = false ∧ t.pins.seatedQualified = false ∧
      t.mode = 0 ∧ t.rd Reg.TOP_STAT_CAUSE = 4) ∧
    (∀ (k : Nat) (ok : Bool), k < 8 → ∃ t, exec (.sdrefOkChange k ok) s = .next t ∧ t.pins.sdref.getLsbD k = ok))

/-! ## The packet path and buffers -/

/-- R121, R122, R132, R154: a frame that starts parsing leaves its FIFO and no other frame does; a packet that starts its second
pass leaves the recirculation port, enters none again, and crosses to admission or is discarded; admission takes the oldest
packet that has crossed. R111, R132: the tail of a frame that is still in its FIFO completes that frame where the FIFO has room;
the tail of a packet that waits for admission completes that packet, whose length then is all that was received, and no packet
is lost or added. -/
def Obligations.PacketsMoveThroughThePath : Prop :=
  (∀ (s : State) (bad : List BadCell),
    (∀ (port : Nat) (f : InFrame) (rest : List InFrame), (s.port port).fifo = f :: rest → f.ready = true →
      s.runs (0x20 + portPipe port) = true → s.pipeHeld (portPipe port) = false → s.pwr.govRate ≠ 0 →
      ∃ t, exec (.parseStart port bad) s = .next t ∧ (t.port port).fifo = rest ∧
        ∀ q, q ≠ port → (t.port q).fifo = (s.port q).fifo) ∧
    (∀ (pipe : Nat) (p : Packet), s.path.recirc.find? (fun q => q.pipe == pipe && q.tailDone) = some p → p.pass = 2 →
      s.runs (0x20 + pipe) = true → s.pipeHeld pipe = false → s.pwr.govRate ≠ 0 →
      ∃ t, exec (.secondPassStart pipe bad) s = .next t ∧
        t.path.recirc = s.path.recirc.filter (fun q => q.pid != p.pid) ∧
        (t.path.d2d = s.path.d2d ∨ ∃ q, t.path.d2d = s.path.d2d ++ [q]) ∧
        ∀ q, (t.port q).fifo = (s.port q).fifo) ∧
    (∀ (p : Packet) (rest : List Packet), s.path.d2d = p :: rest → s.pageReady 0x50 = true →
      ∃ t, exec (.admission bad) s = .next t ∧ t.path.d2d = rest ∧ t.path.recirc = s.path.recirc ∧
        ∀ q, (t.port q).fifo = (s.port q).fifo)) ∧
  (∀ (s : State) (pid : Nat) (rest : Bytes), s.bufFind pid = none →
    (∀ (port : Nat) (f : InFrame), s.fifoFind pid = some (port, f) → (s.port port).fill + rest.length ≤ s.fifoSize port →
      ∃ t g, exec (.frameTailArrived pid rest) s = .next t ∧ g.bytes = f.bytes ++ rest ∧ g.whole = true ∧
        g.badFcs = (decide (s.maxFrame port < (f.bytes ++ rest).length) || fcsBad (f.bytes ++ rest)) ∧
        (t.port port).fifo = (s.port port).fifo.map (fun y => if y.pid = f.pid then g else y)) ∧
    (∀ p : Packet, s.fifoFind pid = none → pendingIn s.path.recirc pid = none → pendingIn s.path.d2d pid = some p →
      ∃ t q, exec (.frameTailArrived pid rest) s = .next t ∧ t.path.d2d = putPacket s.path.d2d q ∧ q.pid = p.pid ∧
        q.tailDone = true ∧ q.rxLen = p.rxLen + rest.length ∧ t.path.recirc = s.path.recirc))

/-- R138, R140: an entry of the fragment table leaves its slot once its lifetime is over, and a flush empties the table. R213:
the oldest record of the match counters' queue adds one match and its bytes to its counter, each modulo 2^64, and changes no
other counter. -/
def Obligations.FragmentEntriesEndAndMatchesCount : Prop :=
  (∀ s : State,
    (∀ bucket slot, ∃ t, exec (.fragEntryExpire bucket slot) s = .next t ∧ t = { s with path := t.path } ∧
      ∀ e, e ∈ t.path.frag ↔ e ∈ s.path.frag ∧ ¬ (e.bucket = bucket ∧ e.slot = slot ∧ e.epoch + s.fragLife < s.epoch)) ∧
    (∀ m, s.access m 0x31 0x120 4 true = .ok →
      ∃ t, exec (.fragFlush m) s = .next t ∧ State.CountsTo { s with path := { s.path with frag := [] } } t)) ∧
  (∀ (s : State) (c n : Nat) (rest : List (Nat × Nat)) (f : MemFinding), s.path.mcrq = (c, n) :: rest → f ≠ .uncorrectable →
    ∃ t, exec (.mcrRecordApply f) s = .next t ∧ t.path.mcrq = rest ∧
      t.tab.ctr.get (0, 0) c = (((s.tab.ctr.get (0, 0) c).1 + 1) % 2 ^ 64, ((s.tab.ctr.get (0, 0) c).2 + n) % 2 ^ 64) ∧
      ∀ k, k ≠ c → t.tab.ctr.get (0, 0) k = s.tab.ctr.get (0, 0) k)

/-- R218: a refill moves the ring's next 1,024 indices to the end of the cache, a spill the cache's 1,024 oldest to the end of
the ring; no index is lost or doubled, and no other pool changes. R214, R215, R218: an accepted APPLY takes the sizes, shows
each pool's base and starts the rebuild with every buffer discarded; a refused APPLY changes nothing but trouble counter 8; the
end of the rebuild frees every buffer and descriptor. -/
def Obligations.TheFreeStoreKeepsItsIndices : Prop :=
  (∀ (s : State) (n : Nat), n < 4 → s.buf.pools.length = 4 →
    (∀ f : MemFinding, s.poolPresent n = true → s.buf.rebuilding = false → runsLen (s.pool n).cache < 1024 →
      (s.pool n).ring ≠ [] → f ≠ .uncorrectable →
      ∃ t, exec (.freeCacheRefill n f) s = .next t ∧
        runIndices (t.pool n).cache = runIndices (s.pool n).cache ++ (runIndices (s.pool n).ring).take 1024 ∧
        runIndices (t.pool n).ring = (runIndices (s.pool n).ring).drop 1024 ∧
        (∀ k, k ≠ n → t.pool k = s.pool k) ∧ t.buf = { s.buf with pools := t.buf.pools }) ∧
    (3072 < runsLen (s.pool n).cache →
      ∃ t, exec (.freeCacheSpill n) s = .next t ∧
        runIndices (t.pool n).ring = runIndices (s.pool n).ring ++ (runIndices (s.pool n).cache).take 1024 ∧
        runIndices (t.pool n).cache = (runIndices (s.pool n).cache).drop 1024 ∧
        (∀ k, k ≠ n → t.pool k = s.pool k) ∧ t.buf = { s.buf with pools := t.buf.pools })) ∧
  (∀ (s : State) (m : Master),
    let z := (List.range 4).map (fun n => s.rdi Reg.BPM_POOL_n_SIZE n)
    let fits := s.mode = 2 ∧ z.sum ≤ 120 ∧ ((List.range 4).map (fun n => poolBuffers n (z.getD n 0))).sum ≤ 184549376
    (s.access m 0x50 0x110 4 true = .ok → fits →
      ∃ t, exec (.bpmApply m) s = .next t ∧ t.buf.sizes = z ∧ t.buf.rebuilding = true ∧ t.buf.bufs = [] ∧
        t.q = QueueSt.initial ∧ (∀ n, n < 4 → t.rdi Reg.BPM_BASE_n n = poolBase z n) ∧
        s.RegsBut [Reg.BPM_BASE_n.key 0, Reg.BPM_BASE_n.key 1, Reg.BPM_BASE_n.key 2, Reg.BPM_BASE_n.key 3] t) ∧
    (s.access m 0x50 0x110 4 true = .ok → ¬ fits → ∃ t, exec (.bpmApply m) s = .next t ∧ (s.trouble 0x50 8).CountsTo t) ∧
    (s.buf.rebuilding = true → s.runs 0x50 = true →
      exec .freeStoreRebuildDone s = .next (({ s with buf := { s.buf with
        pools := (List.range 4).map (rebuildPool s.buf.sizes), descFree := descTotal, rebuilding := false } }).evt 0x50 1)))

/-! ## Scheduling, gates and latency -/

/-- R242, R243: the arbiter of an idle port whose link is open sends the head of the queue that its visit, its pitch list or its
rope picks; that entry leaves its queue, every other queue keeps what it holds, and fabric queues are not touched. -/
def Obligations.ArbitersSendTheHeadTheyPick : Prop :=
  ∀ (s u : State) (port q : Nat) (bad : List BadCell) (e : QEnt) (rest : List QEnt), s.txIdle port = true →
    s.txOpen port = true → s.calPresent port = true → u.eq q = e :: rest →
    (s.nextQueue bad port = (u, some q) →
      ∃ t, exec (.portTxReady port bad) s = .next t ∧ t.eq q = rest ∧ (∀ r, r ≠ q → t.eq r = u.eq r) ∧
        (∀ v, t.voqOf v = u.voqOf v)) ∧
    ((s.sch port).todo = [] → s.walkRope [] port ranks = (u, some q) →
      ∃ t, exec (.ropeWake port) s = .next t ∧ t.eq q = rest ∧ (∀ r, r ≠ q → t.eq r = u.eq r) ∧
        (∀ v, t.voqOf v = u.voqOf v))

/-- R253: a scan looks at the next 4,096 of the 589,824 queues, discards nothing but heads of those, and, where no head is too
old, changes no queue and no register. R240: a prefetch brings the slice of the next epoch on die, or, late, the slice of the
running one, in place of what the port held for that epoch; entries of which the read failed are kept out of it; other ports
keep theirs. -/
def Obligations.ScansAndPrefetchesMoveOn : Prop :=
  (∀ s : State, ∃ t, exec .residenceScan s = .next t ∧ t.q.scanPos = (s.q.scanPos + 4096) % 589824 ∧
    (∀ n, n < 524288 → ∃ k, t.eq n = (s.eq n).drop k ∧ (n < s.q.scanPos ∨ s.q.scanPos + 4096 ≤ n → k = 0)) ∧
    (∀ v, ∃ k, t.voqOf v = (s.voqOf v).drop k ∧
      (524288 + v < s.q.scanPos ∨ s.q.scanPos + 4096 ≤ 524288 + v → k = 0)) ∧
    ((∀ e, s.tooOld e = false) → s.RegsBut [] t ∧ (∀ n, n < 524288 → t.eq n = s.eq n) ∧ ∀ v, t.voqOf v = s.voqOf v)) ∧
  (∀ (s : State) (port : Nat) (onTime : Bool) (bad : List Nat), port < 160 → s.calPresent port = true →
    let e := if onTime then s.epoch + 1 else s.epoch
    ∃ t, exec (.calendarPrefetch port onTime bad) s = .next t ∧
      t.sch port = { s.sch port with slices := (s.sch port).slices.filter (fun y => y.1 != e) ++
        [(e, bad.filter (fun i => decide (i < (s.cal port).active.body.entries.length)))] } ∧
      ∀ p, p ≠ port → t.sch p = s.sch p)

/-- R261, R266, R267, R272: a running list's change of entry settles the port's gates; an entry whose read fails stops the list
and opens every gate that it governs; a list starts once its start is reached. Other ports' gates stay. R269, R270, R272: a
pending timetable takes over once its time is reached, each entry is taken once its time is reached, the next 64 entries come on
die, and a cancel withdraws a timetable that still has more than an epoch to its takeover. -/
def Obligations.GatesFollowListsAndTimetables : Prop :=
  (∀ (s : State) (p : Nat), p < 160 →
    (∀ f : MemFinding, (s.gate p).running = true → (s.gate p).fault = false → f ≠ .uncorrectable →
      ∃ t, exec (.gateEntryChange p f) s = .next t ∧ t.gatesSettled p ∧
        t.gate p = { s.gate p with open_ := (t.gate p).open_ } ∧ ∀ q, q ≠ p → t.gate q = s.gate q) ∧
    ((s.gate p).running = true → (s.gate p).fault = false →
      ∃ t, exec (.gateEntryChange p .uncorrectable) s = .next t ∧ (t.gate p).fault = true ∧ (t.gate p).running = false ∧
        (∀ c, c < 8 → t.cycGoverns p c = true → (t.gate p).open_.getLsbD c = true) ∧ ∀ q, q ≠ p → t.gate q = s.gate q) ∧
    (∀ at_, (s.gate p).start = some at_ → at_ ≤ s.ns →
      ∃ t, exec (.cyclicListStart p) s = .next t ∧ t.gatesSettled p ∧
        t.gate p = { s.gate p with start := none, running := true, open_ := (t.gate p).open_ } ∧
        ∀ q, q ≠ p → t.gate q = s.gate q)) ∧
  (∀ (s : State) (p : Nat), p < 160 →
    (∀ tt, (s.gate p).ttPending = some tt → tt.takeover ≤ s.ns →
      ∃ t, exec (.timetableTakeover p) s = .next t ∧ t.gatesSettled p ∧
        t.gate p = { s.gate p with
          ttActive := some tt, ttPending := none, ttNext := 0, ttOnDie := min 64 tt.entries.length,
          ttState := if tt.entries.isEmpty then 0xFF else tt.initial, open_ := (t.gate p).open_ } ∧
        ∀ q, q ≠ p → t.gate q = s.gate q) ∧
    (∀ (tt : Timetable) (e : Nat × Nat), (s.gate p).ttActive = some tt → tt.entries[(s.gate p).ttNext]? = some e → e.1 ≤ s.ns →
      (∀ f : MemFinding, f ≠ .uncorrectable →
        ∃ t, exec (.timetableEntry p f) s = .next t ∧ t.gatesSettled p ∧
          t.gate p = { s.gate p with ttNext := (s.gate p).ttNext + 1, ttState := e.2, open_ := (t.gate p).open_ } ∧
          ∀ q, q ≠ p → t.gate q = s.gate q) ∧
      ∃ t, exec (.timetableEntry p .uncorrectable) s = .next t ∧
        t.gate p = { s.gate p with ttNext := (s.gate p).ttNext + 1, open_ := (t.gate p).open_ }) ∧
    (∀ tt, (s.gate p).ttActive = some tt →
      ∃ t, exec (.timetableFetch p) s = .next t ∧
        t.gate p = { s.gate p with ttOnDie := min ((s.gate p).ttNext + 64) tt.entries.length } ∧
        ∀ q, q ≠ p → t.gate q = s.gate q) ∧
    (∀ m, s.access m 0x56 0x100 4 true = .ok →
      ∃ t, exec (.gateTtCancel m p) s = .next t ∧ t.rd Reg.GATE_TT_RESULT_PORT = p ∧
        (∀ q, q ≠ p → t.gate q = s.gate q) ∧
        (∀ tt, (s.gate p).ttPending = some tt → s.epoch + 1 < tt.takeover / 125000 →
          t.gate p = { s.gate p with ttPending := none } ∧ t.rd Reg.GATE_TT_RESULT_STATUS = 1) ∧
        ((s.gate p).ttPending = none → t.gate p = s.gate p ∧ t.rd Reg.GATE_TT_RESULT_STATUS = 2)))

/-- R275, R276, R279: a pitch adds the samples due in it, once each, and keeps those taken before; the samples of past epochs go
to their slots of host memory; LAT_WDATA stages and shows the watched entry that LAT_WIDX names and moves LAT_WIDX on. -/
def Obligations.LatencySamplesAreTakenAndWritten : Prop :=
  ∀ s : State,
    (s.latOn = true →
      ∃ t, exec .latencySample s = .next t ∧ (∀ x ∈ s.lat.samples, x ∈ t.lat.samples) ∧
        ∀ k ∈ s.samplesDue s.epoch s.pitch, ∃ x ∈ t.lat.samples, x.off = k.off ∧ x.epoch = k.epoch) ∧
    (s.runs 0x57 = true → s.dmaOk = true →
      ∃ t, exec .latencyWrite s = .next t ∧
        (∀ x ∈ s.lat.samples, x.epoch ≠ s.epoch →
          Emit.hostWrite (s.rd Reg.LAT_HOST_BASE + x.off) (sampleBytes x) ∈ t.outbox) ∧
        ∀ x, x ∈ t.lat.samples ↔ x ∈ s.lat.samples ∧ x.epoch = s.epoch) ∧
    (∀ (m : Master) (v : Word), s.access m 0x57 0x118 4 true = .ok → s.frozen 0x57 = false →
      ∃ t, exec (.latWdataAccess m (some v)) s = .next t ∧
        t.watchedStg (s.rd Reg.LAT_WIDX_IDX) = bits v.toNat 18 0 + bitN v.toNat 30 * 2 ^ 30 + bitN v.toNat 31 * 2 ^ 31 ∧
        t.rd Reg.LAT_WIDX_IDX = (s.rd Reg.LAT_WIDX_IDX + 1) % 2048 ∧ s.RegsBut [Reg.LAT_WIDX_IDX.key 0] t) ∧
    (∀ m : Master, s.access m 0x57 0x118 4 false = .ok →
      ∃ t, exec (.latWdataAccess m none) s = .next t ∧
        Emit.readData m (s.watchedStg (s.rd Reg.LAT_WIDX_IDX) % 2 ^ 32) ∈ t.outbox ∧
        t.rd Reg.LAT_WIDX_IDX = (s.rd Reg.LAT_WIDX_IDX + 1) % 2048 ∧ s.RegsBut [Reg.LAT_WIDX_IDX.key 0] t)

/-! ## Cairns and generations -/

/-- R66, R67, R80, R81: a posting by a slot's own master takes the next sequence ID, shows its outcome in its slot and enters
the log; it is armed exactly when every check passes; one that is too close is LATE. R71: a cancel of a device-local cairn of
this device with more than an epoch to its target takes it off the list with CANCELLED; any other cancel leaves the list and
answers 0xA. -/
def Obligations.PostsAndCancelsFollowTheirChecks : Prop :=
  (∀ (s : State) (m : Master) (slot : Nat), slot < 5 → s.access m 0x16 (0x118 + 0x20 * slot) 4 true = .ok →
    let target := s.rdi Reg.CRN_Pm_TGT_LO_TARGET slot + s.rdi Reg.CRN_Pm_TGT_HI_TARGET slot * 2 ^ 32
    let scope := s.rdi Reg.CRN_Pm_TGT_HI_SCOPE slot == 1
    let seq := s.rd Reg.CRN_STAT_NEXT_SEQ
    (m = slotMaster slot →
      ∃ t st, exec (.cairnPost m slot) s = .next t ∧ t.rd Reg.CRN_STAT_NEXT_SEQ = (seq + 1) % 2 ^ 16 ∧
        t.rdi Reg.CRN_Pm_RESULT_SEQ slot = seq % 2 ^ 16 ∧ t.rdi Reg.CRN_Pm_RESULT_STATUS slot = st ∧
        t.rdi Reg.CRN_Pm_RESULT_DONE slot = 1 ∧
        t.cairn.log = (CrnLog.mk target seq (s.slotMask slot) st scope false s.devId s.epoch :: s.cairn.log).take 16 ∧
        (st = 0 ↔ s.rst.headless = false ∧ (slot = 4 → s.slotMask slot &&& s.agentMask = s.slotMask slot) ∧
          (scope = true → s.rdb Reg.CRN_CTL_FAB_EN = true) ∧ s.epoch + (if scope then 64 else 4) < target ∧
          s.crnBusy (s.slotMask slot) = false ∧ s.cairn.armed.length < 32) ∧
        (s.rst.headless = false → slot ≠ 4 → scope = false → target ≤ s.epoch + 4 → st = 2) ∧
        t.cairn.armed = if st = 0 then
          s.cairn.armed ++ [⟨seq, target, scope, s.slotMask slot, s.devId, false, s.epoch, s.epoch + 8⟩] else s.cairn.armed) ∧
    (m ≠ slotMaster slot → ∃ t, exec (.cairnPost m slot) s = .next t ∧ (s.trouble 0x16 6).CountsTo t)) ∧
  (∀ (s : State) (m : Master) (slot seq : Nat), slot < 5 → seq < 65536 →
    s.access m 0x16 (0x118 + 0x20 * slot) 4 true = .ok → m = slotMaster slot →
    (∀ a, s.armedSeq seq = some a → a.scope = false → a.remote = false → s.epoch + 1 < a.target →
      ∃ t, exec (.cairnCancel m slot seq) s = .next t ∧ t.cairn.armed = s.cairn.armed.filter (fun x => x != a) ∧
        t.rdi Reg.CRN_Pm_RESULT_STATUS slot = 7 ∧ t.rdi Reg.CRN_Pm_RESULT_SEQ slot = seq) ∧
    (s.armedSeq seq = none →
      ∃ t, exec (.cairnCancel m slot seq) s = .next t ∧ t.cairn.armed = s.cairn.armed ∧
        t.rdi Reg.CRN_Pm_RESULT_STATUS slot = 0xA ∧ t.rdi Reg.CRN_Pm_RESULT_SEQ slot = seq))

/-- R65, R68, R70: the commit of a due cairn that names one page makes every staged field of that page active, leaves no staged
copy there, changes no other register but the event status of page CRN, and takes the cairn off the list. -/
def Obligations.CommitsMakeStagedFieldsActive : Prop :=
  ∀ (s : State) (a : Armed) (p : Nat), p ∈ [0x48, 0x49, 0x4A, 0x4B, 0x51, 0x52] → s.pagePowered 0x16 = true →
    a ∈ s.cairn.armed → (∀ x ∈ s.cairn.armed, x.target ≤ s.epoch ↔ x = a) → maskPages a.mask = [p] →
    ∃ t, exec .cairnCommit s = .next t ∧ t.cairn.armed = s.cairn.armed.filter (fun x => x != a) ∧
      (∀ f i, (f, i) ∈ rwsInstances p → t.regs.staged.lookup (fkey p f i) = none ∧
        t.rdp p f i = match s.regs.staged.lookup (fkey p f i) with
          | some v => v % 2 ^ f.width
          | none => s.rdp p f i) ∧
      s.RegsBut (fkey 0x16 Reg.EVT_STAT_EVT 0 :: (rwsInstances p).map (fun x => fkey p x.1 x.2)) t

/-- R74: a retiring bank is given up once nothing uses it and its time has passed, one epoch after its swap, or 64 for the
forwarding and multicast tables of the fabric; the active and the staged bank stay, and nothing else changes. R75, R76: the
origin repeats an armed fabric-wide cairn on every up link while 8 epochs remain; a cell of a new cairn is recorded, logged,
armed when its checks pass and passed on to the other up links; a cell seen before does nothing. -/
def Obligations.BanksRetireAndFabricWideCairnsSpread : Prop :=
  (∀ s : State,
    (∀ (b : Bank (List Nat)) (n : Nat), s.drainCount 0x30 = 0 → s.banks.parse.retiring = some (b, n) → n + 1 ≤ s.epoch →
      exec (.bankRetire 0x30) s = .next { s with banks := { s.banks with parse := { s.banks.parse with retiring := none } } }) ∧
    (∀ (b : Bank (List Nat)) (n : Nat), s.drainCount 0x71 = 0 → s.banks.frt.retiring = some (b, n) →
      ∃ t, exec (.bankRetire 0x71) s = .next t ∧ t = { s with banks := { s.banks with frt := t.banks.frt } } ∧
        t.banks.frt.active = s.banks.frt.active ∧ t.banks.frt.staged = s.banks.frt.staged ∧
        (t.banks.frt.retiring = none ↔ n + 64 ≤ s.epoch)) ∧
    (∀ p, s.drainCount p ≠ 0 → exec (.bankRetire p) s = .next s)) ∧
  (∀ s : State,
    (∀ (seq : Nat) (a : Armed), s.cairn.armed.find? (fun a => a.seq == seq && a.scope && !a.remote) = some a →
      a.nextRepeat ≤ s.epoch → s.epoch + 8 ≤ a.target → s.rdb Reg.CRN_CTL_FAB_EN = true →
      ∃ t, exec (.cairnRepeat seq) s = .next t ∧
        t.cairn.armed = s.cairn.armed.map (fun x => if x = a then { a with nextRepeat := a.nextRepeat + 8 } else x) ∧
        ∀ n ∈ s.upLinks, Emit.cell n (controlCell 4 n (cairnPayload a)) ∈ t.outbox) ∧
    (∀ (link : Nat) (c : CairnCell), s.linkIsUp link = true → s.pagePowered 0x16 = true → s.rdb Reg.CRN_CTL_FAB_EN = true →
      (s.cairn.seen.contains (c.origin, c.seq) = true → exec (.cairnCellReceived link c) s = .next s) ∧
      (s.cairn.seen.contains (c.origin, c.seq) = false → s.rst.headless = false →
        ∃ t st, exec (.cairnCellReceived link c) s = .next t ∧ t.cairn.seen = (c.origin, c.seq) :: s.cairn.seen ∧
          (st = 0 ↔ s.epoch + 1 < c.target ∧ s.crnBusy c.mask = false ∧ s.cairn.armed.length < 32) ∧
          t.cairn.log = (CrnLog.mk c.target c.seq c.mask st true true c.origin s.epoch :: s.cairn.log).take 16 ∧
          t.cairn.armed = if st = 0 then
            s.cairn.armed ++ [⟨c.seq, c.target, true, c.mask, c.origin, true, s.epoch, c.target⟩] else s.cairn.armed)))

/-- R40: a generation number runs from 1 to 0xFFFE and then returns to 1; it is never 0 after the first commit nor 0xFFFF, and
two consecutive generations differ in bit 0. A commit of a page with a staged bank takes its generation on so. -/
def Obligations.GenerationsRunFromOneAndAlternate : Prop :=
  nextGen 0 = 1 ∧ nextGen 0xFFFE = 1 ∧ (∀ g, 1 ≤ g → g < 0xFFFE → nextGen g = g + 1) ∧
  (∀ g, g ≤ 0xFFFE → nextGen g ≠ 0 ∧ nextGen g ≠ 0xFFFF ∧ nextGen g % 2 ≠ g % 2) ∧
  ∀ (s : State) (p target : Nat), s.hasStagedBank p = true → s.pagePowered p = true → s.pageGen p ≤ 0xFFFE →
    (s.commitBanks p target).pageGen p = nextGen (s.pageGen p)

/-! ## Links and the fabric -/

/-- R285: a link's state follows the table: enabling and disabling it, a restart, alignment, loss of alignment, and a silent
peer; a training that does not end counts a link loss and goes on. No other link changes its state. -/
def Obligations.LinkStatesFollowTheTable : Prop :=
  ∀ (s : State) (m : Master) (n : Nat), n < 40 →
    let others := fun t : State => ∀ k, k < 40 → k ≠ n → t.lstate k = s.lstate k
    (s.access m (linkPage n) (0x100 + 64 * (n % 5)) 4 true = .ok →
      ((s.wlf Reg.FLK_CTL_EN n 1).linkAllowed n = true → s.lstate n = 0 →
        ∃ t, exec (.linkEnable m n true) s = .next t ∧ t.lstate n = 1 ∧ others t) ∧
      (s.lstate n ≠ 0 → ∃ t, exec (.linkEnable m n false) s = .next t ∧ t.lstate n = 0 ∧ others t) ∧
      (s.lstate n ≠ 0 → ∃ t, exec (.linkRestart m n) s = .next t ∧ t.lstate n = 1 ∧ others t)) ∧
    (s.lstate n = 1 → s.pins.sdref.getLsbD (4 + n / 10) = true →
      ∃ t, exec (.linkAligned n) s = .next t ∧ t.lstate n = 2 ∧ others t) ∧
    (s.lstate n = 1 → ∃ t, exec (.linkTrainTimeout n) s = .next t ∧ (s.trouble (linkPage n) (8 + n % 5)).CountsTo t) ∧
    (s.lstate n = 2 ∨ s.lstate n = 3 → ∃ t, exec (.linkAlignLoss n) s = .next t ∧ t.lstate n = 1 ∧ others t) ∧
    (s.lstate n = 3 → (s.link n).helloAt + 500000 ≤ s.ns →
      ∃ t, exec (.helloTimeout n) s = .next t ∧ t.lstate n = 2 ∧ others t)

/-- R283, R285, R286: a link past training sends its HELLO; a HELLO that fails no check brings the link UP when it is the third
in a row that heard this device, one that fails a check shows the check and takes the state it names, and a different peer takes
an UP link back to HELLO. R287: with no link UP a write of FAB_ID sets the identity and its VALID, on a device without the strap
all thirteen bits; with a link UP it changes nothing but trouble counter 3. -/
def Obligations.HellosAndIdentityDecideLinks : Prop :=
  (∀ (s : State) (n : Nat) (h : Hello), n < 40 →
    (2 ≤ s.lstate n →
      ∃ t, exec (.helloSend n) s = .next t ∧ Emit.cell n (controlCell 1 n (s.helloBytes n)) ∈ t.outbox ∧ t.fab = s.fab) ∧
    (s.lstate n = 2 →
      ∃ t, exec (.helloReceived n h) s = .next t ∧ (t.link n).peer = some h ∧ t.lf Reg.FLK_STAT_CAUSE n = s.helloCheck n h ∧
        t.lstate n = (if s.helloCheck n h = 0 then (if h.heard = true ∧ 2 ≤ (s.link n).good then 3 else 2)
          else if s.helloCheck n h = 5 then 2 else if s.helloCheck n h ≤ 3 then 4 else 5)) ∧
    (∀ o, s.lstate n = 3 → (s.link n).peer = some o → otherPeer o h = true →
      ∃ t, exec (.helloReceived n h) s = .next t ∧ t.lstate n = 2)) ∧
  (∀ (s : State) (m : Master) (v : Word), s.access m 0x70 0x100 4 true = .ok →
    (s.upLinks = [] → s.pins.straps.getLsbD 5 = false →
      ∃ t, exec (.fabIdWrite m v) s = .next t ∧ t.rd Reg.FAB_ID_ID = bits v.toNat 12 0 ∧ t.rd Reg.FAB_ID_VALID = bitN v.toNat 31 ∧
        ∀ n, n < 40 → t.lstate n = if s.lstate n = 4 ∨ s.lstate n = 5 then 2 else s.lstate n) ∧
    (s.upLinks ≠ [] → ∃ t, exec (.fabIdWrite m v) s = .next t ∧ (s.trouble 0x70 3).CountsTo t))

/-- R282, R290, R291, R306: a link reports the slots it has freed and takes in what its peer reports, by command or by a CREDIT
cell; a cell with a bad CRC is discarded and counted; the next cell that waits for a link leaves against a credit of its VC.
R294: a TIME cell of an UP link leaves its word and its receive time with the link; every UP link that has sent none in this
epoch sends one, and keeps its send time. -/
def Obligations.CreditsAndTimeCrossLinks : Prop :=
  (∀ (s : State) (n : Nat), s.linkIsUp n = true →
    ((s.link n).freed ≠ (s.link n).reported →
      ∃ t, exec (.creditSend n) s = .next t ∧ t.link n = { s.link n with reported := (s.link n).freed } ∧
        Emit.cell n (controlCell 3 n ((s.link n).freed.flatMap (toBe 4))) ∈ t.outbox) ∧
    (∀ freed, ∃ t, exec (.creditReceived n freed) s = .next t ∧
      t.link n = { s.link n with seenFreed := (List.range 3).map (fun v => freed.getD v 0 % 2 ^ 24) }) ∧
    (∀ (b : Bytes) (bad : List BadCell), crcGood b = true → cKind b = 3 → controlOk b = true → cSubtype b = 3 →
      ∃ t, exec (.cellReceived n b bad) s = .next t ∧ t.link n = { s.link n with
        seenFreed := [beAt (cPayload b) 0 4 % 2 ^ 24, beAt (cPayload b) 4 4 % 2 ^ 24, beAt (cPayload b) 8 4 % 2 ^ 24] }) ∧
    (∀ (b : Bytes) (bad : List BadCell), crcGood b = false →
      ∃ t, exec (.cellReceived n b bad) s = .next t ∧ (s.trouble (linkPage n) (3 + n % 5)).CountsTo t) ∧
    ((s.relayHeads n).filter (s.mayRelay n) ≠ [] →
      ∃ t, ∃ x ∈ (s.relayHeads n).filter (s.mayRelay n), exec (.cellRelay n) s = .next t ∧ Emit.cell n x.2 ∈ t.outbox ∧
        (t.link n).sent = bump (s.link n).sent (cHops x.2) ∧ (t.link n).rr = (x.1 + 1) % 41)) ∧
  (∀ s : State,
    (∀ (n : Nat) (w : TimeWord) (rx : Nat), s.linkIsUp n = true →
      ∃ t, exec (.timeWordReceived n w rx) s = .next t ∧ (t.link n).rx = some (w.epoch, rx) ∧ (t.link n).word = some w ∧
        (t.link n).tx = (s.link n).tx) ∧
    (∃ t, exec .timeCellSend s = .next t ∧ ∀ n ∈ s.upLinks, (s.link n).tx.any (fun e => e.1 == s.epoch) = false →
      (t.link n).tx = ((s.epoch, time96 s.sub) :: (s.link n).tx).take 2 ∧ ∃ b, Emit.cell n b ∈ t.outbox))

/-- R295, R298: training in BOOT shows the link and the channels in use; a replay counts; a failed channel leaves the link for
good. -/
def Obligations.DieToDieLinkTrainsAndRepairs : Prop :=
  ∀ s : State,
    (∀ (ok : Bool) (spares : Word), s.runs 0x7C = true → s.mode = 1 →
      ∃ t, exec (.d2dTrain ok spares) s = .next t ∧ t.rd Reg.D2D_STAT_UP = b01 ok ∧ t.rd Reg.D2D_STAT_TIME_LOCK = b01 ok ∧
        t.d2d = s.d2d ∧ s.RegsBut [Reg.D2D_STAT_UP.key 0, Reg.D2D_STAT_TIME_LOCK.key 0, Reg.D2D_STAT_CH_USED.key 0,
          Reg.D2D_REPAIR_SPARES.key 0] t) ∧
    (s.rdb Reg.D2D_STAT_UP = true →
      ∃ t, exec .d2dReplay s = .next t ∧ t.rd Reg.D2D_REPLAYS = (s.rd Reg.D2D_REPLAYS + 1) % 2 ^ Reg.D2D_REPLAYS.width ∧
        s.RegsBut [Reg.D2D_REPLAYS.key 0, trbKey 0x7C 3] t) ∧
    (∀ ch, ch < 16 → ch ∉ s.d2d.failed →
      ∃ t, exec (.d2dChannelFail ch) s = .next t ∧ ch ∈ t.d2d.failed ∧ (∀ c ∈ s.d2d.failed, c ∈ t.d2d.failed) ∧
        bitN (t.rd Reg.D2D_STAT_CH_USED) ch = 0 ∧ s.RegsBut [Reg.D2D_STAT_CH_USED.key 0, trbKey 0x7C 4] t)

/-- R311: a fabric queue that holds the credit sends its oldest packet and is charged for it; one that lacks it keeps the
packet; a retry sends the REQUEST again and notes its time; a queue long empty returns all its credit. R300, R311, R312: a
REQUEST leaves its backlog and counts with its source and class and grants nothing by itself; a GRANT ahead of what was seen is
taken, one behind it is not; the grant engine grants whole units, to sources with a backlog only, and nothing where the unit is
0. -/
def Obligations.FabricQueuesSendAgainstGrants : Prop :=
  (∀ (s : State) (v : Nat), v < 65536 →
    (∀ (e : QEnt) (rest : List QEnt) (b : Buffer) (bad : List BadCell), s.voqOf v = e :: rest → s.tooOld e = false →
      s.buffer e.bid = some b → e.sent = none →
      (e.cut = false → (chargeUnits b.pool : Int) ≤ s.voqCredit v →
        ∃ t, exec (.voqDequeue v bad) s = .next t ∧ t.voqOf v = rest ∧ (∀ u, u ≠ v → t.voqOf u = s.voqOf u) ∧
          t.fab.charged.get 0 v = (s.fab.charged.get 0 v + chargeUnits b.pool) % 2 ^ 32) ∧
      (s.voqCredit v < (chargeUnits b.pool : Int) →
        ∃ t, exec (.voqDequeue v bad) s = .next t ∧ (∀ u, t.voqOf u = s.voqOf u) ∧ t.fab.charged = s.fab.charged)) ∧
    (s.rd Reg.FCR_REQ_RETRY_US ≠ 0 → s.fab.reqAt.get 0 v ≠ 0 →
      s.fab.reqAt.get 0 v - 1 + s.rd Reg.FCR_REQ_RETRY_US * 1000 ≤ s.ns → s.voqOf v ≠ [] →
      ∃ t, exec (.requestRetry v) s = .next t ∧ t.q = s.q ∧ t.fab.charged = s.fab.charged ∧ t.fab.gSeen = s.fab.gSeen ∧
        t.fab.returned = s.fab.returned ∧ t.fab.reqAt.get 0 v = t.ns + 1) ∧
    (s.voqOf v = [] → 0 < s.voqCredit v → max 1 (s.rd Reg.FCR_RETURN_EPOCHS) ≤ s.fab.emptyRun.get 0 v →
      ∃ t, exec (.creditReturn v) s = .next t ∧ t.fab.charged = s.fab.charged ∧ t.fab.gSeen = s.fab.gSeen ∧
        t.fab.returned.get 0 v = (s.fab.returned.get 0 v + (s.voqCredit v).toNat) % 2 ^ 32 ∧
        t.fab.emptyRun.lookup v = none)) ∧
  (∀ s : State,
    (∀ r : ReqCell, r.cls < 8 →
      ∃ t, exec (.requestReceived r) s = .next t ∧ t.fab.backlog.get 0 (pairKey r.src r.cls) = r.backlog ∧
        t.fab.ret.get 0 (pairKey r.src r.cls) = r.returned % 2 ^ 32 ∧ t.fab.g = s.fab.g ∧
        t.fab.chRec.get 0 (pairKey r.src r.cls) = (if s.passedSeq (pairKey r.src r.cls) r.seqAt then r.charged % 2 ^ 32
          else s.fab.chRec.get 0 (pairKey r.src r.cls))) ∧
    (∀ src cls g, cls < 8 →
      exec (.grantReceived src cls g) s = .next (if behind32 (s.fab.gSeen.get 0 (pairKey src cls)) g
        then { s with fab := { s.fab with gSeen := s.fab.gSeen.set 0 (pairKey src cls) (g % 2 ^ 32) } } else s)) ∧
    (s.runs 0x7B = true →
      (∃ t, exec .grantEngine s = .next t ∧ t.fab.backlog = s.fab.backlog ∧
        ∀ k, (∀ e ∈ s.fab.backlog, e.1 ≠ k) → t.fab.g.get 0 k = s.fab.g.get 0 k) ∧
      (∀ src c x, c < 8 → s.fab.backlog = [(pairKey src c, x)] →
        ∃ t, exec .grantEngine s = .next t ∧ t.fab.g.get 0 (pairKey src c) =
          if s.rd Reg.FCR_GRANT_KIB ≠ 0 ∧ (s.buf.focc.get 0 c : Int) + (s.outSum c + s.rd Reg.FCR_GRANT_KIB * 4) * 256 ≤ s.rsv c
          then (s.fab.g.get 0 (pairKey src c) + s.rd Reg.FCR_GRANT_KIB * 4) % 2 ^ 32 else s.fab.g.get 0 (pairKey src c))))

/-- R308, R309, R313: a multicast queue sends its oldest packet once its rate allows the next; the cells still missing after the
reorder time are given up, the cell that was held for them is taken in. -/
def Obligations.MulticastQueuesAndReorderingGoOn : Prop :=
  ∀ s : State,
    (∀ (c : Nat) (bad : List BadCell) (e : QEnt) (rest : List QEnt) (b : Buffer), c < 8 → s.fmcOf c = e :: rest →
      s.tooOld e = false → s.buffer e.bid = some b → s.rdi Reg.FMC_RATE_c_MBPS c ≠ 0 → s.fab.fmcAt.get 0 c ≤ s.ns →
      ∃ t, exec (.fmcQueueSend c bad) s = .next t ∧ t.fmcOf c = rest ∧
        t.fab.fmcAt.get 0 c = s.ns + b.pkt.bytes.length * 8000 / s.rdi Reg.FMC_RATE_c_MBPS c) ∧
    (∀ (src cls at_ seq : Nat) (b : Bytes), cls < 8 → (s.ctx (pairKey src cls)).gapAt = some at_ →
      at_ + s.rd Reg.FCR_REORDER_NS ≤ s.ns → (s.ctx (pairKey src cls)).nextHeld = some (seq, b) →
      ∃ t, exec (.reorderTimeout src cls) s = .next t ∧ (t.ctx (pairKey src cls)).held.lookup seq = none)

/-! ## HBM -/

/-- R328, R330, R331, R337: HBM_CMD.INIT starts a loaded or failed stack, which ends in RUN with a refresh window at once, or
FAILED with the first failing pseudo-channel; HBM_DLY_DATA reads and writes the delay that the index names, and advances the
index; in INIT and RUN a write changes no delay and counts. R327, R332, R333: a temperature reading shows and chooses the band,
a failed one shows STALE; at its pitches a window opens in every stack that is not off, closing its rows and taking the chosen
band; a window that closes puts the band in use. -/
def Obligations.StacksInitialiseAndFollowTemperature : Prop :=
  (∀ (s : State) (n : Nat), n < 8 →
    (∀ m : Master, s.access m (hbmPage n) 0x100 4 true = .ok → (s.stackState n = 1 ∨ s.stackState n = 4) →
      ∃ t, exec (.hbmInit m n) s = .next t ∧ t.stackState n = 2 ∧ (s.wrp (hbmPage n) Reg.HBM_STAT_STATE 0 2).CountsTo t) ∧
    (s.stackState n = 2 →
      (∃ t, exec (.hbmInitDone n none) s = .next t ∧ t.stackState n = 3 ∧ (t.stack n).window = true) ∧
      ∀ q, q < 32 → ∃ t, exec (.hbmInitDone n (some q)) s = .next t ∧ t.stackState n = 4 ∧
        t.rdp (hbmPage n) Reg.HBM_STAT_FAIL_PC 0 = q ∧ t.hbm = s.hbm) ∧
    (∀ (m : Master) (v : Word), s.access m (hbmPage n) 0x114 4 true = .ok → s.rdp (hbmPage n) Reg.HBM_DLY_IDX_LANE 0 < 39 →
      ∃ t, exec (.hbmDlyDataAccess m n (some v)) s = .next t ∧
        t.rdp (hbmPage n) Reg.HBM_DLY_IDX_LANE 0 = s.rdp (hbmPage n) Reg.HBM_DLY_IDX_LANE 0 + 1 ∧
        ((s.stackState n = 2 ∨ s.stackState n = 3) → t.hbm = s.hbm) ∧
        (s.stackState n ≠ 2 ∧ s.stackState n ≠ 3 →
          (t.stack n).delays.get 0 (dlyKey (s.dlyIdx (hbmPage n))) = v.toNat % 128 + v.toNat / 256 % 128 * 256)) ∧
    (∀ m : Master, s.access m (hbmPage n) 0x114 4 false = .ok → s.rdp (hbmPage n) Reg.HBM_DLY_IDX_LANE 0 < 39 →
      ∃ t, exec (.hbmDlyDataAccess m n none) s = .next t ∧ t.hbm = s.hbm ∧
        t.rdp (hbmPage n) Reg.HBM_DLY_IDX_LANE 0 = s.rdp (hbmPage n) Reg.HBM_DLY_IDX_LANE 0 + 1 ∧
        Emit.readData m ((s.stack n).delays.get 0 (dlyKey (s.dlyIdx (hbmPage n))) % 2 ^ 32) ∈ t.outbox)) ∧
  (∀ s : State,
    (∀ n, n < 8 → s.stackState n ≠ 0 →
      (∃ t, exec (.hbmTempRead n none) s = .next t ∧ t.rdp (hbmPage n) Reg.HBM_TEMP_STALE 0 = 1 ∧ t.hbm = s.hbm) ∧
      ∀ v : BitVec 16, (s.stack n).pendingBand = none → (s.stack n).loading = none →
        ∃ t, exec (.hbmTempRead n (some v)) s = .next t ∧ t.rdp (hbmPage n) Reg.HBM_TEMP_TEMP 0 = v.toNat ∧
          t.rdp (hbmPage n) Reg.HBM_TEMP_STALE 0 = 0 ∧
          (t.stack n).pendingBand.getD (s.rdp (hbmPage n) Reg.HBM_STAT_BAND 0) =
            bandFor (s.rdp (hbmPage n) Reg.HBM_STAT_BAND 0) (toSigned 16 v.toNat)) ∧
    (s.pitch % 5 = s.refreshPhase →
      ∃ t, exec .refreshWindowOpen s = .next t ∧ t.regs = s.regs ∧ ∀ n, n < 8 → s.stackState n ≠ 0 →
        (t.stack n).window = true ∧ (t.stack n).pendingBand = none ∧ (∀ e ∈ t.hbm.openRows, e.1 / 512 ≠ n) ∧
        (t.stack n).loading.getD (s.rdp (hbmPage n) Reg.HBM_STAT_BAND 0) = s.nextBand n) ∧
    (∀ n, n < 8 → (s.stack n).window = true →
      ∃ t, exec (.refreshWindowClose n) s = .next t ∧ (t.stack n).window = false ∧ (t.stack n).loading = none ∧
        ∀ b, (s.stack n).loading = some b → t.rdp (hbmPage n) Reg.HBM_STAT_BAND 0 = b % 8 ∧
          t.rdp (hbmPage n) Reg.HBM_STAT_HOT 0 = b01 (decide (6 ≤ b))))

/-- R323 to R326, R335, R338: a pseudo-channel with no window open issues a request of the least rank among those it may offer;
a read that completes and a write that retires leave DRQ and their age enters the port's maximum, which a read of DRQ_LAT_MAX
answers and clears; an overdue request counts once; a scrub reads its words in turn. -/
def Obligations.HbmRequestsIssueAndRetire : Prop :=
  ∀ s : State,
    (∀ n q, n < 8 → q < 32 → s.stackState n = 3 → (s.stack n).window = false →
      (s.hbm.reqs.filter (fun r => hbmPcKey r.addr == 32 * n + q && s.offered r)) ≠ [] →
      ∃ t, ∃ r ∈ s.hbm.reqs.filter (fun r => hbmPcKey r.addr == 32 * n + q && s.offered r),
        exec (.hbmCommandIssue n q) s = .next t ∧
        (∀ x ∈ s.hbm.reqs.filter (fun r => hbmPcKey r.addr == 32 * n + q && s.offered r), s.rank (32 * n + q) r ≤ s.rank (32 * n + q) x) ∧
        t.hbm.reqs = s.hbm.reqs.map (fun x => if x.rid = r.rid then { x with issued := true } else x) ∧
        t.hbm.openRows.get 0 (hbmBankKey r.addr) = hbmRow r.addr + 1 ∧ t.regs = s.regs) ∧
    (∀ req r, s.hbm.waiting = [] →
      s.hbm.reqs.find? (fun r => r.rid == req && r.issued && !r.write) = some r → s.hbm.badWords.contains (hbmWordOf r.addr) = false →
      ∃ t, exec (.hbmReadComplete req .clean) s = .next t ∧ (∀ x ∈ t.hbm.reqs, x.rid ≠ req) ∧
        t.hbm.latMax.get 0 r.port = max (s.hbm.latMax.get 0 r.port) ((s.ns - r.at_) % 2 ^ 32)) ∧
    (∀ req r bad, s.hbm.waiting = [] →
      s.hbm.reqs.find? (fun r => r.rid == req && r.issued && r.write) = some r → r.part = false →
      ∃ t, exec (.hbmWriteRetire req bad) s = .next t ∧ (∀ x ∈ t.hbm.reqs, x.rid ≠ req) ∧
        t.hbm.badWords = without s.hbm.badWords (hbmWordOf r.addr) ∧
        t.hbm.latMax.get 0 r.port = max (s.hbm.latMax.get 0 r.port) ((s.ns - r.at_) % 2 ^ 32)) ∧
    (∀ req r, s.hbm.reqs.find? (fun r => r.rid == req) = some r → r.overdue = false → s.urgency r = 3 →
      ∃ t, exec (.requestOverdue req) s = .next t ∧ t.hbm.overdueCnt.get 0 r.port = s.hbm.overdueCnt.get 0 r.port + 1 ∧
        ∀ x ∈ t.hbm.reqs, x.rid = req → x.overdue = true) ∧
    (∀ n w, n < 8 → w < 8 → s.stackState n = 3 → s.rd Reg.DRQ_SCRUB_HOURS ≠ 0 → s.hbm.scrubWord.get 0 n = w →
      s.hbm.badWords.contains (hbmWordOf (hbmAddr n (s.rdp (hbmPage n) Reg.HBM_SCRUB_POS_GRANULE 0 / 2 ^ 21)
        (s.rdp (hbmPage n) Reg.HBM_SCRUB_POS_GRANULE 0 % 2 ^ 21) w)) = false →
      ∃ t, exec (.scrubRead n w .clean) s = .next t ∧ t.hbm.scrubWord.get 0 n = (w + 1) % 8 ∧
        t.rdp (hbmPage n) Reg.HBM_SCRUB_POS_GRANULE 0 = (if w = 7
          then (s.rdp (hbmPage n) Reg.HBM_SCRUB_POS_GRANULE 0 + 1) % 2 ^ Reg.HBM_SCRUB_POS_GRANULE.width
          else s.rdp (hbmPage n) Reg.HBM_SCRUB_POS_GRANULE 0)) ∧
    (∀ m : Master, s.access m 0x68 0x130 4 false = .ok →
      ∃ t, exec (.drqLatMaxRead m) s = .next t ∧ t.hbm.latMax.get 0 (s.rd Reg.DRQ_SEL_PORT) = 0 ∧
        Emit.readData m (s.hbm.latMax.get 0 (s.rd Reg.DRQ_SEL_PORT) % 2 ^ 32) ∈ t.outbox)

/-! ## Table maintenance and learning -/

/-- R194, R196, R198: an engine that may take a descriptor up takes the one at HEAD from what the host read brought; a read that
failed is retried; a descriptor with a bad operation completes with status 2. R44, R197, R199: a line of a WRITE puts its
entries into the table, in order; a line of a READ writes the entries to host memory; the last line completes the descriptor
with status 0, an earlier one moves its position; a LOAD stages an artifact that passes its checks and completes with status 0,
and one that fails a check before the bank is taken changes no bank and completes with status 4 and the check's code. -/
def Obligations.TableDmaMovesTables : Prop :=
  (∀ s : State,
    (s.tdmMayTake = true → s.rst.headless = false →
      (∀ b : Bytes, s.tdm.retry = false → ∃ t, exec (.tdmDescriptorTakeup (.ok b)) s = .next t ∧ t.regs = s.regs ∧
        t.tdm = { s.tdm with cur := some (parseDesc (s.rd Reg.TDM_HEAD_IDX % max 1 s.tdmCount) b), retry := false }) ∧
      (s.tdm.retry = false → ∃ t, exec (.tdmDescriptorTakeup .failed) s = .next t ∧ t.tdm = { s.tdm with retry := true }) ∧
      (∀ b : Bytes, s.tdm.retry = true → ∃ t, exec (.tdmDescriptorReadRetry (.ok b)) s = .next t ∧ t.regs = s.regs ∧
        t.tdm = { s.tdm with cur := some (parseDesc (s.rd Reg.TDM_HEAD_IDX % max 1 s.tdmCount) b), retry := false })) ∧
    (∀ d, s.tdm.cur = some d → badOp d = true → s.tdm.abandoned = false → s.dmaOk = true →
      ∃ t, exec .tdmBadOp s = .next t ∧ s.tdmDone t d.ring 2 0 0 ∧ t.rd Reg.TDM_LAST_STATUS = 2)) ∧
  (∀ (s : State) (d : Desc) (z page : Nat) (w : Bool),
    (s.tdmWorks 2 d → tableOf d.table = some (z, w, page) → s.writeHeld d = false → s.pagePowered page = true → d.table ≤ 5 →
      ∀ b : Bytes, b.length = lineCount z (d.index + d.pos) (d.len / z - d.pos) * z →
      ∃ t, exec (.tdmWrite (.ok b)) s = .next t ∧
        (∀ j, j < lineCount z (d.index + d.pos) (d.len / z - d.pos) →
          t.tableGet d.table d.bank (d.index + d.pos + j) = le ((entriesOf z b).getD j [])) ∧
        (d.len / z ≤ d.pos + lineCount z (d.index + d.pos) (d.len / z - d.pos) → s.tdmDone t d.ring 0 0 d.len) ∧
        (d.pos + lineCount z (d.index + d.pos) (d.len / z - d.pos) < d.len / z →
          t.tdm.cur = some { d with pos := d.pos + lineCount z (d.index + d.pos) (d.len / z - d.pos) })) ∧
    (s.tdmWorks 3 d → tableOf d.table = some (z, w, page) → s.pagePowered page = true →
      ∃ t, exec (.tdmRead true) s = .next t ∧ t.tab = s.tab ∧ t.banks = s.banks ∧
        Emit.hostWrite (d.addr + d.pos * z) ((List.range (lineCount z (d.index + d.pos) (d.len / z - d.pos))).flatMap
          (fun j => toLe z (s.tableGet d.table d.bank (d.index + d.pos + j)))) ∈ t.outbox ∧
        (d.len / z ≤ d.pos + lineCount z (d.index + d.pos) (d.len / z - d.pos) → s.tdmDone t d.ring 0 0 d.len) ∧
        (d.pos + lineCount z (d.index + d.pos) (d.len / z - d.pos) < d.len / z →
          t.tdm.cur = some { d with pos := d.pos + lineCount z (d.index + d.pos) (d.len / z - d.pos) })) ∧
    (s.tdmWorks 1 d → ∀ b : Bytes, b.length = d.len →
      ((s.checkArtifact b).1 = 0 → ∃ t, exec (.tdmLoad (.ok b)) s = .next t ∧ s.tdmDone t d.ring 0 0 0 ∧
        t.banks = (s.stageBank b true).banks) ∧
      ((s.checkArtifact b).1 ≠ 0 ∧ (s.checkArtifact b).1 < 8 → ∃ t, exec (.tdmLoad (.ok b)) s = .next t ∧
        s.tdmDone t d.ring 4 (s.checkArtifact b).1 (s.checkArtifact b).2 ∧ t.banks = s.banks)))

/-- R175, R176, R196: an INSERT of a slot whose key stands in the tables replaces that entry and answers 2, and one of a new key
takes a free slot of its bucket in table 0 and answers 1; a REMOVE empties the entry and answers 5; the answer is written into
bits 3 to 0 of the slot in host memory. R174, R204: an APPLY in READY with no cairn armed for the tables starts once no
descriptor is in progress, in another mode it is discarded and counted; its end empties exact match and both LPM banks and shows
the profile. -/
def Obligations.InsertEngineKeepsEntriesFound : Prop :=
  (∀ (s : State) (d : Desc) (b : Bytes) (bad : List BadCell), b.length = 16 →
    (bits (le b / 2 ^ 34 * 2 ^ 34) 127 124 = 1 ∨ bits (le b / 2 ^ 34 * 2 ^ 34) 127 124 = 2) →
    (s.tdmWorks 4 d →
      (∀ p, s.findKey bad (slotKey (le b / 2 ^ 34 * 2 ^ 34)) = some p →
        ∃ t, exec (.tdmInsert (.ok b) bad) s = .next t ∧ t.entryAt p = le b / 2 ^ 34 * 2 ^ 34 ∧
          Emit.hostWrite (d.addr + 16 * d.pos) (toLe 16 (le b / 16 * 16 + 2)) ∈ t.outbox) ∧
      (∀ p, s.findKey bad (slotKey (le b / 2 ^ 34 * 2 ^ 34)) = none →
        s.freeIn bad 0 (s.hash0 (slotKey (le b / 2 ^ 34 * 2 ^ 34))) = some p →
        ∃ t, exec (.tdmInsert (.ok b) bad) s = .next t ∧ t.entryAt p = le b / 2 ^ 34 * 2 ^ 34 ∧
          Emit.hostWrite (d.addr + 16 * d.pos) (toLe 16 (le b / 16 * 16 + 1)) ∈ t.outbox)) ∧
    (s.tdmWorks 5 d → s.exm.stash = [] → ∀ p, s.findKey bad (slotKey (le b / 2 ^ 34 * 2 ^ 34)) = some p →
      ∃ t, exec (.tdmRemove (.ok b) bad) s = .next t ∧ t.entryAt p = 0 ∧
        Emit.hostWrite (d.addr + 16 * d.pos) (toLe 16 (le b / 16 * 16 + 5)) ∈ t.outbox)) ∧
  (∀ s : State,
    (∀ m : Master, s.access m 0x39 0x120 4 true = .ok →
      (s.mode = 2 → s.tdm.applyWaiting = false → s.tdm.applyRunning = false → s.armedFor 0x33 = none → s.armedFor 0x34 = none →
        s.tdm.cur = none → ∃ t, exec (.tdmProfileApply m) s = .next t ∧ t.tdm = { s.tdm with
          applyRunning := true
          applySel := if s.rd Reg.TDM_PROFILE_SEL = 3 then 1 else s.rd Reg.TDM_PROFILE_SEL }) ∧
      (s.mode ≠ 2 → ∃ t, exec (.tdmProfileApply m) s = .next t ∧ (s.trouble 0x39 5).CountsTo t)) ∧
    (s.tdm.applyRunning = true →
      ∃ t, exec .profileApplyDone s = .next t ∧ t.tdm.applyRunning = false ∧ t.banks.lpm = Banked.initial LpmImage.empty ∧
        t.exm = { ExmSt.initial with seedDraw := s.fresh } ∧ t.rd Reg.LPM_STAT_PROFILE = s.tdm.applySel % 4))

/-- R179, R181, R182, R201: the engine serves the oldest request: a new key takes a free slot, an entry that says the same
stays, a removal of no entry counts; a post of a proper type is queued, another counts; a sweep empties every aged entry and
forgets the hits. -/
def Obligations.LearningServesPostsAndAges : Prop :=
  ∀ s : State,
    (∀ (bad : List BadCell) (r : LearnReq) (rest : List LearnReq), s.learn.queue = r :: rest → s.learnRuns = true → r.post = false →
      (r.remove = false → bits r.slot 127 124 = 1 ∨ bits r.slot 127 124 = 2 → s.findKey bad (slotKey r.slot) = none →
        ∀ p, s.freeIn bad 0 (s.hash0 (slotKey r.slot)) = some p →
        ∃ t, exec (.learnRequest bad) s = .next t ∧ t.learn.queue = rest ∧ t.entryAt p = r.slot) ∧
      (∀ p, r.remove = false → s.findKey bad (slotKey r.slot) = some p → slotRes (s.entryAt p) = slotRes r.slot →
        exec (.learnRequest bad) s = .next { s with learn := { s.learn with queue := rest } }) ∧
      (r.remove = true → s.findKey bad (slotKey r.slot) = none →
        ∃ t, exec (.learnRequest bad) s = .next t ∧
          (State.trouble { s with learn := { s.learn with queue := rest } } 0x35 5).CountsTo t)) ∧
    (∀ (m : Master) (remove : Bool), s.access m 0x35 0x120 4 true = .ok →
      ((bits s.postSlot 127 124 = 1 ∨ bits s.postSlot 127 124 = 2) → s.learn.queue.length < 65536 →
        ∃ t, exec (if remove then .lrnPostRemove m else .lrnPostGo m) s = .next t ∧
          t.learn.queue = s.learn.queue ++ [{ slot := s.postSlot, post := true, remove := remove }]) ∧
      (bits s.postSlot 127 124 ≠ 1 → bits s.postSlot 127 124 ≠ 2 →
        ∃ t, exec (if remove then .lrnPostRemove m else .lrnPostGo m) s = .next t ∧ (s.trouble 0x35 3).CountsTo t)) ∧
    (s.rd Reg.LRN_AGE_PERIOD ≠ 0 → s.learnRuns = true → s.exm.stash = [] →
      ∃ t, exec .learnAgeSweep s = .next t ∧ t.exm.hits = [] ∧
        ∀ p ∈ s.occupied, t.entryAt p = if s.aged s.exm.hits p then 0 else s.entryAt p)

/-- R207, R208: the compare of an LPM node that differs from the host's shadow holds a finding, one that agrees holds none, and
the position moves on; a finding read again that still differs is counted and, where correction is on, the active bank takes the
shadow's node; one that has vanished counts and changes no bank. -/
def Obligations.ShadowComparesAndCorrects : Prop :=
  ∀ s : State, s.shdRuns = true →
    (∀ (b : Bytes) (exm : List HostRead), s.shdLpm = true → s.rd Reg.SHD_EXM_COUNT_N = 0 → s.shd.finds.length < 16 → b.length = 32 →
      ∃ t, exec (.shadowCompare [.ok b] exm []) s = .next t ∧
        t.shd.finds = s.shd.finds ++ (if le b = s.banks.lpm.active.body.hbmNodes.getD (s.rd Reg.SHD_LPM_POS_K) 0 then []
          else [{ kind := 1, exm := false, idx := s.rd Reg.SHD_LPM_POS_K, epoch := s.epoch }]) ∧ t.banks = s.banks) ∧
    (∀ (x : Finding) (rest : List Finding) (b : Bytes), s.shd.finds = x :: rest → x.exm = false → x.kind = 1 → b.length = 32 →
      x.epoch + s.rd Reg.SHD_CONFIRM_EPOCHS ≤ s.epoch →
      (le b = s.banks.lpm.active.body.hbmNodes.getD x.idx 0 →
        ∃ t, exec (.shadowConfirm (.ok b) .clean) s = .next t ∧
          (State.trouble { s with shd := { s.shd with finds := rest } } 0x3A 5).CountsTo t) ∧
      (le b ≠ s.banks.lpm.active.body.hbmNodes.getD x.idx 0 → x.idx < s.banks.lpm.active.body.hbmNodes.length →
        ∃ t, exec (.shadowConfirm (.ok b) .clean) s = .next t ∧ t.shd.finds = rest ∧
          t.banks.lpm.active.body.hbmNodes.getD x.idx 0 =
            (if s.rdb Reg.SHD_CTL_CORRECT then le b else s.banks.lpm.active.body.hbmNodes.getD x.idx 0)))

/-! ## The host interface -/

/-- R341, R357: a host access that no window takes is answered as unsupported; one to a window whose swap is pending is held; a
read of local HBM answers the bytes as they stand, and a write of local HBM, where no structure of the device stands, is read
back byte by byte; one to another device's window is outstanding until it is answered. -/
def Obligations.HostWindowsServeAccesses : Prop :=
  ∀ (s : State) (addr len : Nat),
    (s.contained = true ∨ 2 ^ 27 ≤ addr → ∀ w, ∃ t, exec (.bar2WindowAccess addr len w) s = .next t ∧ t.host = s.host ∧ t.hbm = s.hbm ∧
      Emit.unsupported .host ∈ t.outbox) ∧
    (s.contained = false → addr < 2 ^ 27 →
      (∀ w, s.winPending (addr / 2 ^ 24) = true →
        exec (.bar2WindowAccess addr len w) s = .next { s with host := { s.host with
          nextTid := s.host.nextTid + 1
          winHeld := s.host.winHeld ++ [{ tid := s.host.nextTid, win := addr / 2 ^ 24, write := w, off := addr % 2 ^ 24, len := len, peer := none }] } }) ∧
      (s.winPending (addr / 2 ^ 24) = false → s.winFits (addr / 2 ^ 24) (addr % 2 ^ 24) len = true → len ≠ 0 →
        (s.winKind (addr / 2 ^ 24) = 1 → s.rdi Reg.WIN_n_ACT_BASE (addr / 2 ^ 24) + addr % 2 ^ 24 + len ≤ 2 ^ 37 →
          (∃ t, exec (.bar2WindowAccess addr len none) s = .next t ∧ t.hbm.mem = s.hbm.mem ∧
            Emit.readData .host (le (s.hbmRead (s.rdi Reg.WIN_n_ACT_BASE (addr / 2 ^ 24) + addr % 2 ^ 24) len)) ∈ t.outbox) ∧
          (∀ b : Bytes, b.length = len → (∀ i, i < len → s.plainHbm (s.rdi Reg.WIN_n_ACT_BASE (addr / 2 ^ 24) + addr % 2 ^ 24 + i) = true) →
            ∃ t, exec (.bar2WindowAccess addr len (some b)) s = .next t ∧ t.tab = s.tab ∧ t.buf = s.buf ∧ t.exm = s.exm ∧
              (∀ i, i < len → SMap.get t.hbm.mem 0 (s.rdi Reg.WIN_n_ACT_BASE (addr / 2 ^ 24) + addr % 2 ^ 24 + i) = b.getD i 0) ∧
              ∀ a, a < s.rdi Reg.WIN_n_ACT_BASE (addr / 2 ^ 24) + addr % 2 ^ 24 ∨ s.rdi Reg.WIN_n_ACT_BASE (addr / 2 ^ 24) + addr % 2 ^ 24 + len ≤ a →
                SMap.get t.hbm.mem 0 a = SMap.get s.hbm.mem 0 a)) ∧
        (∀ w, 2 ≤ s.winKind (addr / 2 ^ 24) → ∃ t, exec (.bar2WindowAccess addr len w) s = .next t ∧ t.host = { s.host with
          nextTid := s.host.nextTid + 1
          winOld := s.host.winOld ++ [{ tid := s.host.nextTid, win := addr / 2 ^ 24, write := w, off := addr % 2 ^ 24, len := len, peer := none }] })))

/-- R358: a peer's WRITE through a window that lets it in puts its bytes into local HBM; an answer to an outstanding read gives
the host its bytes, an answer to a write ends it, and a transaction that times out ends, a read with Unsupported Request. R359:
a swap that is asked for is pending; once every old transaction of the window has completed its staged copy is the active one
and the swap is no longer pending; a host access held too long fails and the swap stays pending. -/
def Obligations.ManagementTransactionsAndSwapsComplete : Prop :=
  (∀ s : State,
    (∀ (link : Nat) (c : MtCell), c.subtype = 9 → s.winPending c.window = false → c.len ≠ 0 → s.winFits c.window c.offset c.len = true →
      s.winPeer c.window c.linkDirected = true → s.winKind c.window = 1 → s.rdi Reg.WIN_n_ACT_BASE c.window + c.offset + c.len ≤ 2 ^ 37 →
      c.len ≤ c.data.length → (∀ i, i < c.len → s.plainHbm (s.rdi Reg.WIN_n_ACT_BASE c.window + c.offset + i) = true) →
      ∃ t, exec (.mtRequestReceived link c) s = .next t ∧
        ∀ i, i < c.len → SMap.get t.hbm.mem 0 (s.rdi Reg.WIN_n_ACT_BASE c.window + c.offset + i) = c.data.getD i 0) ∧
    (∀ (link : Nat) (c : MtCell) (x : WinTxn), s.mtFind c.tag = some x →
      (c.subtype = 10 → x.write = none → ∃ t, exec (.mtResponseReceived link c) s = .next t ∧ (∀ y ∈ t.host.winOld, y.tid ≠ x.tid) ∧
        Emit.readData .host (le (c.data.take x.len)) ∈ t.outbox) ∧
      (c.subtype = 11 → x.write ≠ none → exec (.mtResponseReceived link c) s = .next { s with host := { s.host with
        winOld := s.host.winOld.filter (fun y => y.tid != x.tid) } }) ∧
      (c.subtype = 12 → x.write = none → ∃ t, exec (.mtResponseReceived link c) s = .next t ∧ (∀ y ∈ t.host.winOld, y.tid ≠ x.tid) ∧
        Emit.unsupported .host ∈ t.outbox)) ∧
    (∀ (tag : Nat) (x : WinTxn), s.mtFind tag = some x → s.rd Reg.HIF_MT_TIMEOUT_US ≠ 0 →
      ∃ t, exec (.mtTimeout tag) s = .next t ∧ (∀ y ∈ t.host.winOld, y.tid ≠ x.tid) ∧
        (x.write = none → Emit.unsupported .host ∈ t.outbox) ∧
        (x.write ≠ none → (State.trouble (s.mtForget x) 0x0E 5).CountsTo t))) ∧
  (∀ s : State,
    (∀ (m : Master) (req : Byte) (n : Nat), s.access m 0x0E 0x200 4 true = .ok → n < 8 → s.winPending n = false →
      ∃ t, exec (.winSwap m req) s = .next t ∧ t.winPending n = (bitN req.toNat n == 1)) ∧
    (∀ n, n < 8 → s.winPending n = true → (∀ x ∈ s.host.winOld, x.win ≠ n) → (∀ x ∈ s.host.winHeld, x.win ≠ n) →
      ∃ t, exec (.winSwapComplete n) s = .next t ∧ t.winPending n = false ∧ t.rdi Reg.WIN_n_ACT_BASE n = s.rdi Reg.WIN_n_STG_BASE n % 2 ^ 64 ∧
        t.rdi Reg.WIN_n_ACT_CFG n = (s.rdi Reg.WIN_n_STG_CFG_SIZE n + s.rdi Reg.WIN_n_STG_CFG_KIND n * 2 ^ 5 + s.rdi Reg.WIN_n_STG_CFG_PEER n * 2 ^ 8) % 2 ^ 32 ∧
        t.rdi Reg.WIN_n_ACT_TGT n = (s.rdi Reg.WIN_n_STG_TGT_DEV n + s.rdi Reg.WIN_n_STG_TGT_RWIN n * 2 ^ 16 + s.rdi Reg.WIN_n_STG_TGT_LINK n * 2 ^ 24) % 2 ^ 32) ∧
    (∀ (n : Nat) (x : WinTxn), n < 8 → s.winPending n = true → s.host.winHeld.find? (fun x => x.win == n) = some x → x.peer = none →
      ∃ t, exec (.winSwapHoldTimeout n) s = .next t ∧ t.winPending n = true ∧ (∀ y ∈ t.host.winHeld, y.tid ≠ x.tid) ∧
        Emit.unsupported .host ∈ t.outbox ∧ t.rd Reg.WIN_SWAP_FAIL = (s.rd Reg.WIN_SWAP_FAIL + 1) % 2 ^ Reg.WIN_SWAP_FAIL.width))

/-- R352 to R354: an event of containment, or HIF_CMD.CONTAIN, shows CONTAINED with its cause, stops DMA and abandons the
descriptor in progress; a release while the link is up ends it, one while it is down counts; once the hold has run out no punted
packet waits; a link that comes up shows its speed and width, and Bus Master Enable is what configuration writes. -/
def Obligations.ContainmentStopsAndReleasesTheHost : Prop :=
  ∀ s : State,
    (∀ cause, 1 ≤ cause → cause ≤ 6 → s.pagePowered 0x0B = true → s.contained = false → s.rd Reg.HIF_HOLD_MS ≠ 0 →
      ∃ t, exec (.containmentEnter cause) s = .next t ∧ t.contained = true ∧ t.rd Reg.HIF_STAT_CAUSE = cause ∧ t.dmaOk = false ∧
        t.tdm.abandoned = s.tdm.cur.isSome ∧ t.host.holdOver = false ∧
        (cause = 1 → t.host.bme = false ∧ t.rd Reg.HIF_STAT_LINK_UP = 0) ∧ (cause ≠ 1 → t.host.bme = s.host.bme)) ∧
    (∀ m : Master, s.access m 0x0B 0x104 4 true = .ok →
      (s.contained = false → s.rd Reg.HIF_HOLD_MS ≠ 0 → ∃ t, exec (.hifContain m) s = .next t ∧ t.contained = true ∧
        t.rd Reg.HIF_STAT_CAUSE = 6 ∧ t.dmaOk = false ∧ t.tdm.abandoned = s.tdm.cur.isSome) ∧
      (s.contained = true → s.rd Reg.HIF_STAT_LINK_UP = 1 → s.tdm.cur = none → ∃ t, exec (.hifRelease m) s = .next t ∧ t.contained = false) ∧
      (s.rd Reg.HIF_STAT_LINK_UP = 0 → ∃ t, exec (.hifRelease m) s = .next t ∧ (s.trouble 0x0B 9).CountsTo t)) ∧
    (s.contained = true → s.host.holdOver = false → s.host.holdFrom + s.rd Reg.HIF_HOLD_MS * 1000000 ≤ s.ns →
      ∃ t, exec .puntHoldExpire s = .next t ∧ t.host.holdOver = true ∧ ∀ r, r < 16 → t.puntOf r = []) ∧
    (∀ gen width, s.pagePowered 0x0B = true → 1 ≤ gen → gen ≤ 5 → [1, 2, 4, 8].contains width = true →
      ∃ t, exec (.hostLinkUp gen width) s = .next t ∧ t.rd Reg.HIF_STAT_LINK_UP = 1 ∧ t.rd Reg.HIF_STAT_SPEED = gen ∧
        t.rd Reg.HIF_STAT_WIDTH = width ∧
        s.RegsBut [Reg.HIF_STAT_LINK_UP.key 0, Reg.HIF_STAT_SPEED.key 0, Reg.HIF_STAT_WIDTH.key 0] t) ∧
    (∀ on : Bool, s.rd Reg.HIF_STAT_LINK_UP = 1 → ∃ t, exec (.busMasterEnableChange on) s = .next t ∧ t.host.bme = on ∧
      (on = false → t = { s with host := { s.host with bme := false } }))

/-- R355, R356, R360: a read not answered in its time leaves its tag in quarantine and counts; a completion ends its tag, one
for a quarantined tag counts as late, one for no tag at all counts; a quarantine ends after its time; a user counter reads as
its PMU value where it is shown, and as 0 elsewhere. -/
def Obligations.ReadTagsTimeOutAndRecover : Prop :=
  ∀ s : State,
    (∀ tag at_ us, s.host.tags.lookup tag = some (at_, us) → us ≠ 0 → at_ + us * 1000 ≤ s.ns →
      ∃ t, exec (.completionTimeout tag) s = .next t ∧ t.host.tags.lookup tag = none ∧ t.host.quarantine.lookup tag = some (s.ns, us) ∧
        t.rd Reg.HIF_CTO_CNT = (s.rd Reg.HIF_CTO_CNT + 1) % 2 ^ Reg.HIF_CTO_CNT.width) ∧
    (∀ tag, s.pagePowered 0x0B = true →
      ((s.host.quarantine.lookup tag).isSome = true → ∀ last err, ∃ t, exec (.completionReceived tag last err) s = .next t ∧ t.host = s.host ∧
        t.rd Reg.HIF_LATE_CPL = (s.rd Reg.HIF_LATE_CPL + 1) % 2 ^ Reg.HIF_LATE_CPL.width) ∧
      (s.host.quarantine.lookup tag = none → (s.host.tags.lookup tag).isSome = true → ∀ err,
        ∃ t, exec (.completionReceived tag true err) s = .next t ∧ t.host.tags.lookup tag = none) ∧
      (s.host.quarantine.lookup tag = none → s.host.tags.lookup tag = none → ∀ last err,
        ∃ t, exec (.completionReceived tag last err) s = .next t ∧ (s.trouble 0x0B 6).CountsTo t)) ∧
    (∀ tag at_ us, s.host.quarantine.lookup tag = some (at_, us) → at_ + us * 1000 ≤ s.ns →
      ∃ t, exec (.tagQuarantineEnd tag) s = .next t ∧ t.host.quarantine.lookup tag = none ∧ t.host.tags = s.host.tags ∧ t.regs = s.regs) ∧
    (∀ n, s.contained = false → n < 512 →
      exec (.userCounterRead (8 * n) 8) s = .next (s.emit (.readData .host (if s.pagePowered 0x09 ∧ bitN (s.pmuCfg n) 20 = 1
        then s.pmu.val.get 0 n + b01 (s.pmu.wrap.contains n) * 2 ^ 63 else 0))))

/-- R344 to R347, R350, R351: a punted packet of this device goes to the buffer of its ring's next entry, with the entry's
dwords, and leaves its queue; an inject entry's frame waits in its pipeline's input, and the entry is completed; the status
mirror writes its head, body and tail in order under the next sequence number. -/
def Obligations.RingsAndMirrorReachHostMemory : Prop :=
  ∀ s : State,
    (∀ (ring k : Nat) (b : Bytes) (e : QEnt) (rest : List QEnt) (x : Buffer), s.ringEntry ring = some k → ring < 16 →
      s.puntOf ring = e :: rest → s.buffer e.bid = some x → x.pkt.srcDev = s.devId → b.length = 32 → leAt b 0 2 ≠ 0 →
      leAt b 0 2 % 64 = 0 → leAt b 8 8 % 64 = 0 →
      ∃ t, exec (.puntWrite ring (.ok b)) s = .next t ∧ t.puntOf ring = rest ∧
        Emit.hostWrite (leAt b 8 8) ((tcEgress x.pkt.tcOpen x.pkt.trx x.pkt.bytes).take
          (min (leAt b 0 2) (tcEgress x.pkt.tcOpen x.pkt.trx x.pkt.bytes).length)) ∈ t.outbox ∧
        Emit.hostWrite (s.entryAddr ring k + 4) (dwords (puntDwords e x.pkt
          (min (leAt b 0 2) (tcEgress x.pkt.tcOpen x.pkt.trx x.pkt.bytes).length)
          (tcEgress x.pkt.tcOpen x.pkt.trx x.pkt.bytes).length (leAt b 8 8) x.pkt.trx)) ∈ t.outbox) ∧
    (∀ (ring k : Nat) (b f : Bytes), s.ringEntry (16 + ring) = some k → ring < 16 → s.runs (0x20 + ring) = true → s.injectRoom ring = true →
      s.injectStopped ring = false → b.length = 32 → bits (leAt b 0 4) 13 0 = f.length → 60 ≤ f.length → f.length ≤ 16124 → leAt b 8 8 % 64 = 0 →
      bitN (leAt b 0 4) 16 = 0 →
      ∃ t, exec (.injectFetch ring (.ok b) (.ok f)) s = .next t ∧
        (∃ x, (t.port (injectInput ring)).fifo = (s.port (injectInput ring)).fifo ++ [x] ∧ x.bytes = withFcs f ∧
          x.cls = s.rdi Reg.HDM_CTL_i_CLASS (16 + ring) ∧ x.direct = none) ∧
        Emit.hostWrite (s.entryAddr (16 + ring) k + 28) (toLe 4 (0 + 2 ^ 31)) ∈ t.outbox) ∧
    (s.pitch = 0 → s.mirDue s.epoch = true → s.mirOn = true → s.dmaOk = true → s.rd Reg.MIR_BASE % 4096 = 0 →
      ∃ t, exec .mirrorWrite s = .next t ∧ t.outbox = s.outbox ++ s.mirEmits (s.ns / 125000 * 125000 * subPerNs) ∧
        t.rd Reg.MIR_SEQ_SEQ = s.mirNext % 2 ^ 32 ∧ s.RegsBut [Reg.MIR_SEQ_SEQ.key 0, Reg.MIR_LAST_EPOCH.key 0] t)

/-! ## Interrupts, cores, boot and trust -/

/-- R373: a claim of a core with no source in service takes the lowest-numbered source eligible for it into service, clears it
where it is an edge source, and answers it; with none eligible it answers 0xFFFF, changes nothing and counts in ICU trouble
counter 3; with a source in service it answers that source, changes nothing and counts in counter 5. -/
def Obligations.ClaimReturnsTheLowestEligibleSource : Prop :=
  ∀ (s : State) (c : Nat), c < 4 → s.access (coreMaster c) 0x08 (0x110 + 0x10 * c) 4 false = .ok →
    ∃ u, s.CountsTo u ∧
      (∀ src, s.icu.insvc.getD c none = none → src < 128 → u.eligible c src = true → (∀ k, k < src → u.eligible c k = false) →
        exec (.icuClaim c) s = .next (({ u with icu := { u.icu with
          insvc := setIdx s.icu.insvc c (some src)
          edge := if u.edgeSource src then without s.icu.edge src else s.icu.edge } } : State).emit (.readData (coreMaster c) src))) ∧
      (s.icu.insvc.getD c none = none → (∀ k, k < 128 → u.eligible c k = false) →
        ∃ t, exec (.icuClaim c) s = .next (t.emit (.readData (coreMaster c) 0xFFFF)) ∧ (s.trouble 0x08 3).CountsTo t) ∧
      (∀ src, src < 2 ^ 32 → s.icu.insvc.getD c none = some src →
        ∃ t, exec (.icuClaim c) s = .next (t.emit (.readData (coreMaster c) src)) ∧ (s.trouble 0x08 5).CountsTo t)

/-- R370, R373, R374, R376: a claim takes the lowest-numbered eligible source into service and clears its PEND where it is an
edge source; one with nothing eligible reads 0xFFFF and one during a service repeats it, and both count; DONE of the source in
service ends it and begins its group's hold-off, any other DONE counts; a doorbell pends its sources; a hold-off ends; a GPIO
change past the filter is the new level, and pends where the edge makes the level active. -/
def Obligations.InterruptsAreServedAndPend : Prop :=
  ∀ s : State,
    (∀ c, c < 4 →
      (s.access (coreMaster c) 0x08 (0x110 + 0x10 * c) 4 false = .ok → ∃ u, s.CountsTo u ∧
        (s.icu.insvc.getD c none = none → ∀ src, u.bestSource c = some src →
          ∃ t, exec (.icuClaim c) s = .next t ∧ t.icu = { s.icu with
              insvc := setIdx s.icu.insvc c (some src)
              edge := if u.edgeSource src then without s.icu.edge src else s.icu.edge } ∧
            Emit.readData (coreMaster c) (src % 2 ^ 32) ∈ t.outbox ∧ s.RegsBut [] t) ∧
        (s.icu.insvc.getD c none = none → u.bestSource c = none →
          ∃ t, exec (.icuClaim c) s = .next t ∧ t.icu = s.icu ∧ Emit.readData (coreMaster c) 0xFFFF ∈ t.outbox ∧
            s.RegsBut [trbKey 0x08 3] t) ∧
        (∀ src, s.icu.insvc.getD c none = some src →
          ∃ t, exec (.icuClaim c) s = .next t ∧ t.icu = s.icu ∧ Emit.readData (coreMaster c) (src % 2 ^ 32) ∈ t.outbox ∧
            s.RegsBut [trbKey 0x08 5] t)) ∧
      (∀ src, s.access (coreMaster c) 0x08 (0x114 + 0x10 * c) 4 true = .ok →
        (s.icu.insvc.getD c none = some src →
          ∃ u, s.CountsTo u ∧ exec (.icuDone c src) s = .next { u with icu := { s.icu with
            insvc := setIdx s.icu.insvc c none
            held := if u.rdi Reg.ICU_HOLDOFF_g_US (src / 8) = 0 then s.icu.held else withNat s.icu.held (src / 8) } }) ∧
        (s.icu.insvc.getD c none ≠ some src → ∃ t, exec (.icuDone c src) s = .next t ∧ (s.trouble 0x08 4).CountsTo t))) ∧
    (∀ (m : Master) (b : Byte), s.access m 0x08 0x1F0 4 true = .ok → s.mode ≠ 0 → s.pagePowered 0x08 = true →
      ∃ t, exec (.icuDoorbell m b) s = .next t ∧ s.RegsBut [] t ∧ t.icu.insvc = s.icu.insvc ∧
        ∀ x, x ∈ t.icu.edge ↔ x ∈ s.icu.edge ∨ ∃ n, n < 8 ∧ bitN b.toNat n = 1 ∧ x = 120 + n) ∧
    (∀ g, exec (.holdoffExpire g) s = .next { s with icu := { s.icu with held := without s.icu.held g } }) ∧
    (∀ n level, n < 8 → s.mode ≠ 0 → s.pagePowered 0x08 = true → s.rdi Reg.ICU_GPIO_n_FILT n ≠ 0 →
      ∃ t, exec (.gpioFiltered n level) s = .next t ∧ t.regs = s.regs ∧
        (∀ k, k < 8 → t.icu.gpioLevel.getLsbD k = if k = n then level else s.icu.gpioLevel.getLsbD k) ∧
        (s.rdi Reg.ICU_GPIO_n_EDGE n = 1 → level ≠ decide (s.rdi Reg.ICU_GPIO_n_POL n = 1) → s.icu.gpioLevel.getLsbD n ≠ level →
          112 + n ∈ t.icu.edge))

/-- R366, R367, R368, R380: a core runs once its image has verified and stops in FAULT where the image is refused or the core
traps; the host or CORE0 resets a subordinate core, which loads again, and halts and resumes any; a kick restarts the watchdog,
and one that runs out faults its core, which a running CORE0 reloads; what the agent may not reach is recorded. -/
def Obligations.CoresRunUntilTheyFault : Prop :=
  ∀ (s : State) (c : Nat), c < 4 →
    (s.coreState c = 1 →
      (∃ t, exec (.coreLoadDone c true) s = .next t ∧ t.coreState c = 2 ∧ t.mgt.wdogStart = setIdx s.mgt.wdogStart c s.ns ∧
        s.RegsBut [Reg.MGT_CORE_c_STAT_STATE.key c] t) ∧
      (∃ t, exec (.coreLoadDone c false) s = .next t ∧ t.coreState c = 4 ∧ s.RegsBut [Reg.MGT_CORE_c_STAT_STATE.key c] t)) ∧
    (s.coreState c = 2 → ∃ t, exec (.coreFatalTrap c) s = .next t ∧ t.coreState c = 4 ∧
      s.RegsBut [Reg.MGT_CORE_c_STAT_STATE.key c] t) ∧
    (∀ m : Master, m = .host ∨ m = .core0 → s.access m 0x0A (0x100 + 0x10 * c) 4 true = .ok →
      (1 ≤ c → ∃ t, exec (.coreReset m c) s = .next t ∧ t.coreState c = 1 ∧
        t.rdi Reg.MGT_CORE_c_STAT_RESTARTS c = min (s.rdi Reg.MGT_CORE_c_STAT_RESTARTS c + 1) 255 ∧
        s.RegsBut [Reg.MGT_CORE_c_STAT_STATE.key c, Reg.MGT_CORE_c_STAT_RESTARTS.key c] t) ∧
      (s.coreState c = 2 → ∃ t, exec (.coreHalt m c true) s = .next t ∧ t.coreState c = 3 ∧
        s.RegsBut [Reg.MGT_CORE_c_STAT_STATE.key c, Reg.MGT_CORE_c_CTL_HALT.key c] t) ∧
      (s.coreState c = 3 → ∃ t, exec (.coreHalt m c false) s = .next t ∧ t.coreState c = 2 ∧
        s.RegsBut [Reg.MGT_CORE_c_STAT_STATE.key c, Reg.MGT_CORE_c_CTL_HALT.key c] t)) ∧
    (∀ m : Master, s.access m 0x0A (0x10C + 0x10 * c) 4 true = .ok → ∃ t, exec (.watchdogKick m c) s = .next t ∧
      t.mgt.wdogStart = setIdx s.mgt.wdogStart c s.ns ∧ s.RegsBut [] t) ∧
    (1 ≤ c → s.wdogDue c = true → ∃ t, exec (.watchdogExpire c) s = .next t ∧
      t.coreState c = (if s.coreState 0 = 2 then 1 else 4) ∧
      s.RegsBut [Reg.MGT_CORE_c_STAT_STATE.key c, Reg.MGT_CORE_c_STAT_RESTARTS.key c, trbKey 0x0A 3] t) ∧
    (∀ a w, ∃ t, exec (.agentAccessFault a w) s = .next t ∧ t.rd Reg.MGT_AGENT_FAULT_ADDR = a % 2 ^ 32 ∧
      t.rd Reg.MGT_AGENT_FAULT_INFO_WRITE = b01 w ∧ Emit.unsupported .core3 ∈ t.outbox ∧
      s.RegsBut [Reg.MGT_AGENT_FAULT_ADDR.key 0, Reg.MGT_AGENT_FAULT_INFO_WRITE.key 0, trbKey 0x0A 5] t)

/-- R388 to R390, R405: a start runs the first candidate that verifies, of staging where its bundle is pending, A and B: CORE0
executes it and the source, version and security version are shown; a refused candidate is shown with its code, and staging is
no longer pending; where none verifies there is no source. An accepted candidate sets the interface versions and has the other
cores load. A staged descriptor's bytes follow those staged before, and a bundle that is complete and verifies is pending;
UNSTAGE ends that, but not while a copy runs. R391: the copy of a staged bundle that runs first puts A into B, where A passes
its checks, and then staging into A, each half begun by a record in boot flash; once A has been read back the source is A and
nothing is pending; a half that fails is tried again, and the second failure ends the copy and counts. -/
def Obligations.CandidatesAreStagedAndStarted : Prop :=
  (∀ s : State, s.bootRec.seq + 2 < 2 ^ 32 →
    (s.boot.startDue = true → s.domainUp 1 = true → s.rst.warm = false → s.coreState 0 = 0 →
      ∃ t, exec .bootStart s = .next t ∧ t.boot.startDue = false ∧
        (∀ c, (c = 0 ∧ s.bootRec.pending = true ∨ c = 1 ∧ (s.bootRec.pending = true → s.candCode 0 ≠ 0) ∨
            c = 2 ∧ (s.bootRec.pending = true → s.candCode 0 ≠ 0) ∧ s.candCode 1 ≠ 0) → s.candCode c = 0 →
          t.coreState 0 = 2 ∧ t.rd Reg.BOOT_STAT_SOURCE = (if c = 0 then 2 else c - 1) ∧
          t.rd Reg.BOOT_RUN_VER_VERSION = leAt (s.candidate c) 0x10 4 % 2 ^ 32 ∧
          t.rd Reg.BOOT_RUN_SVN_SVN = leAt (s.candidate c) 0x14 1 % 2 ^ 7 ∧ t.rd Reg.BOOT_RUN_SVN_SLOT = leAt (s.candidate c) 0x15 1 % 2 ^ 2 ∧
          t.boot.verified = true ∧ (c ≠ 0 → t.bootRec.pending = false) ∧
          (c = 2 → t.rd Reg.BOOT_STAT_FALLBACK = 1 ∧ t.rd Reg.BOOT_LAST_CODE = s.candCode 1 % 2 ^ 8 ∧
            t.rd Reg.BOOT_LAST_CAND = 1 ∧ t.rd Reg.BOOT_LAST_AT_START = 1)) ∧
        ((s.bootRec.pending = true → s.candCode 0 ≠ 0) → s.candCode 1 ≠ 0 → s.candCode 2 ≠ 0 →
          t.coreState 0 = 0 ∧ t.rd Reg.BOOT_STAT_SOURCE = 3 ∧
          t.rd Reg.BOOT_LAST_CODE = s.candCode 2 % 2 ^ 8 ∧ t.rd Reg.BOOT_LAST_CAND = 2)) ∧
    (s.boot.verified = true → s.coreState 0 = 2 →
      ∃ t, exec .candidateAccepted s = .next t ∧ t.rd Reg.FAB_IFV_IFV = leAt s.boot.runHdr 0x30 2 % 2 ^ 16 ∧
        t.rd Reg.FAB_IFV_MIN = leAt s.boot.runHdr 0x32 1 % 2 ^ 8 ∧ t.coreState 1 = 1 ∧ t.coreState 2 = 1 ∧ t.coreState 3 = 1 ∧
        t.coreState 0 = 2 ∧ t.boot = { s.boot with verified := false }) ∧
    (∀ (d : Desc) (b : Bytes), s.tdm.cur = some d → d.op = 6 → badOp d = false → s.tdm.abandoned = false → s.runs 0x39 = true →
      s.dmaOk = true → ¬ (d.pos = 0 ∧ s.badRange d = true) → d.len ≠ 0 → s.coreState 0 = 2 → s.rdb Reg.BOOT_STAT_COPYING = false →
      d.index = 0 ∨ d.index = s.rd Reg.BOOT_STG_BYTES → d.index + d.len ≤ 2 ^ 24 → d.len ≤ b.length →
      ∃ t, exec (.tdmStageFw (.ok b)) s = .next t ∧ t.boot.staging = s.boot.staging.take d.index ++ b.take d.len ∧
        t.rd Reg.BOOT_STG_BYTES = d.index + d.len ∧
        (16 ≤ d.index + d.len → leAt t.boot.staging 0x0C 4 ≤ d.index + d.len →
          s.verifyBundle (bundleBytes t.boot.staging) (buLen (bundleBytes t.boot.staging) == d.index + d.len) = 0 →
          t.bootRec.pending = true ∧ t.bootRec.stgLen = buLen (bundleBytes t.boot.staging))) ∧
    (∀ m : Master, s.access m 0x07 0x100 4 true = .ok →
      (s.rdb Reg.BOOT_STAT_COPYING = false → ∃ t, exec (.bootUnstage m) s = .next t ∧ t.bootRec.pending = false ∧ s.RegsBut [] t) ∧
      (s.rdb Reg.BOOT_STAT_COPYING = true → ∃ t, exec (.bootUnstage m) s = .next t ∧ (s.trouble 0x07 3).CountsTo t))) ∧
  (∀ s : State, s.bootRec.seq + 2 < 2 ^ 32 → s.rd Reg.BOOT_STAT_SOURCE = 2 → s.rst.headless = false → s.coreState 0 = 2 → s.boot.copyTries < 2 →
    (s.rdb Reg.BOOT_STAT_COPYING = false → ∀ ok : Bool, ∃ t, exec (.flashCopy ok) s = .next t ∧ t.rd Reg.BOOT_STAT_COPYING = 1 ∧
      t.boot.staging = s.boot.staging ∧ t.boot.copyTries = 0 ∧ s.RegsBut [Reg.BOOT_STAT_COPYING.key 0] t ∧
      (s.bootRec.copySA = false → [0, 13].contains (s.verifyBundle (bundleBytes s.boot.partA) true) = true →
        t.boot.partA = s.boot.partA ∧ t.boot.partB = [] ∧ t.bootRec.copyAB = true ∧ t.bootRec.copySA = false) ∧
      (s.bootRec.copySA = true ∨ [0, 13].contains (s.verifyBundle (bundleBytes s.boot.partA) true) = false →
        t.boot.partA = [] ∧ t.boot.partB = s.boot.partB ∧ t.bootRec.copyAB = false ∧ t.bootRec.copySA = true)) ∧
    (s.rdb Reg.BOOT_STAT_COPYING = true →
      (s.bootRec.copyAB = true → ∃ t, exec (.flashCopy true) s = .next t ∧ t.boot.partB = s.boot.partA ∧ t.boot.partA = [] ∧
        t.bootRec.copyAB = false ∧ t.bootRec.copySA = true ∧ s.RegsBut [] t) ∧
      (s.bootRec.copyAB = false → ∃ t, exec (.flashCopy true) s = .next t ∧ t.boot.partA = s.boot.staging.take s.bootRec.stgLen ∧
        t.boot.partB = s.boot.partB ∧ t.bootRec.pending = false ∧ t.bootRec.copySA = false ∧ t.rd Reg.BOOT_STAT_SOURCE = 0 ∧
        t.rd Reg.BOOT_STAT_COPYING = 0) ∧
      (s.boot.copyTries = 0 → exec (.flashCopy false) s = .next { s with boot := { s.boot with copyTries := 1 } }) ∧
      (s.boot.copyTries = 1 → ∃ t, exec (.flashCopy false) s = .next t ∧ t.rd Reg.BOOT_STAT_COPYING = 0 ∧ t.bootRec = s.bootRec ∧
        s.RegsBut [Reg.BOOT_STAT_COPYING.key 0, trbKey 0x07 7, fkey 0x07 Reg.EVT_STAT_EVT 0] t)))

/-- R392 to R395: the host or CORE0, and the watchdog of CORE0, begin a Traverse in the modes READY to DRAIN: the device is
headless from then on, services end, learning is held and a start is due, while the committed banks, the tables and the buffers
stand; elsewhere the request counts, and during a burn it waits. CORE0's LIVE ends the headless interval and shows its length;
two seconds end it too, and show that LIVE was late. -/
def Obligations.TraverseRunsHeadless : Prop :=
  ∀ s : State,
    (∀ i : Instr, (∃ m : Master, (m = .host ∨ m = .core0) ∧ s.access m 0x07 0x100 4 true = .ok ∧ i = .bootTraverse m) ∨
        i = .watchdogExpire 0 ∧ s.wdogDue 0 = true →
      (2 ≤ s.mode → s.mode ≤ 5 → s.rst.headless = false → s.rst.warm = false → s.rdb Reg.SEC_STAT_COMMIT_BUSY = false →
        ∃ t, exec i s = .next t ∧ t.rst.headless = true ∧ t.rd Reg.BOOT_STAT_HEADLESS = 1 ∧ t.boot.headlessAt = some s.ns ∧
          t.boot.startDue = true ∧ t.learn.held = true ∧ t.icu.insvc = [none, none, none, none] ∧ t.icu.held = [] ∧
          t.icu.edge = s.icu.edge ∧ t.banks = s.banks ∧ t.tab = s.tab ∧ t.buf = s.buf ∧ t.q = s.q ∧ t.exm = s.exm ∧ t.fab = s.fab) ∧
      (2 ≤ s.mode → s.mode ≤ 5 → s.rst.headless = false → s.rst.warm = false → s.rdb Reg.SEC_STAT_COMMIT_BUSY = true →
        ∃ t, exec i s = .next t ∧ t.boot = { s.boot with traverseDelayed := true } ∧ s.RegsBut [trbKey 0x0A 4] t)) ∧
    (∀ m : Master, (m = .host ∨ m = .core0) → s.access m 0x07 0x100 4 true = .ok → (s.mode < 2 ∨ 5 < s.mode ∨ s.rst.headless = true) →
      ∃ t, exec (.bootTraverse m) s = .next t ∧ (s.trouble 0x07 5).CountsTo t) ∧
    (∀ h, s.boot.headlessAt = some h →
      (s.access .core0 0x07 0x100 4 true = .ok → ∃ t, exec (.bootLive .core0) s = .next t ∧ t.rst = { s.rst with headless := false } ∧
        t.rd Reg.BOOT_STAT_HEADLESS = 0 ∧ t.rd Reg.BOOT_H_LEN_US = (s.ns - h) / 1000 % 2 ^ 22 ∧ t.boot = { s.boot with headlessAt := none } ∧
        s.RegsBut [Reg.BOOT_STAT_HEADLESS.key 0, Reg.BOOT_H_LEN_US.key 0, fkey 0x07 Reg.EVT_STAT_EVT 0] t) ∧
      (h + 2000000000 ≤ s.ns → ∃ t, exec .headlessTimeout s = .next t ∧ t.rst = { s.rst with headless := false } ∧
        t.rd Reg.BOOT_STAT_HEADLESS = 0 ∧ t.rd Reg.BOOT_STAT_LATE_LIVE = 1 ∧ t.boot = { s.boot with headlessAt := none }))

/-- R397 to R404: ATTEST begins a report; once it is built it goes to host memory at SEC_ATT_ADDR where it fits, and a commit
during the build has it built once more; COMMIT burns only for a bundle that runs from A outside a copy and a headless interval,
and what it burns raises the rollback level and revokes key slots; a read of FUSE_DATA gives the dword of the index, 0 past the
last, and moves the index on. -/
def Obligations.TrustCommandsReportAndBurn : Prop :=
  ∀ s : State,
    (∀ m : Master, s.access m 0x06 0x100 4 true = .ok →
      (s.rdb Reg.SEC_STAT_ATT_BUSY = false → s.rst.headless = false → ∃ t, exec (.secAttest m) s = .next t ∧
        t.rd Reg.SEC_STAT_ATT_BUSY = 1 ∧ s.RegsBut [Reg.SEC_STAT_ATT_BUSY.key 0] t ∧
        t.sec.attRestarted = false ∧ t.sec.attDirty = false) ∧
      (s.rdb Reg.SEC_STAT_COMMIT_BUSY = false → s.rd Reg.BOOT_STAT_SOURCE = 0 → s.rdb Reg.BOOT_STAT_COPYING = false → s.rst.headless = false →
        ∃ t, exec (.secCommit m) s = .next t ∧ t.rd Reg.SEC_STAT_COMMIT_BUSY = 1 ∧ t.sec = s.sec ∧ s.RegsBut [Reg.SEC_STAT_COMMIT_BUSY.key 0] t) ∧
      (s.rdb Reg.SEC_STAT_COMMIT_BUSY = false → (s.rd Reg.BOOT_STAT_SOURCE ≠ 0 ∨ s.rdb Reg.BOOT_STAT_COPYING = true ∨ s.rst.headless = true) →
        ∃ t, exec (.secCommit m) s = .next t ∧ t.rd Reg.SEC_STAT_COMMIT_STATUS = 2 ∧ t.sec = s.sec ∧
          s.RegsBut [Reg.SEC_STAT_COMMIT_STATUS.key 0, trbKey 0x06 4] t)) ∧
    (∀ ok : Bool, s.rdb Reg.SEC_STAT_ATT_BUSY = true → s.sec.attDirty = true → s.sec.attRestarted = false →
      exec (.attestDone ok) s = .next { s with sec := { s.sec with attDirty := false, attRestarted := true } }) ∧
    (s.rdb Reg.SEC_STAT_ATT_BUSY = true → s.sec.attDirty = false ∨ s.sec.attRestarted = true → s.dmaOk = true →
      (s.wr Reg.SEC_STAT_ATT_BUSY 0).report.length ≤ s.rd Reg.SEC_ATT_LEN_BYTES →
      ∃ t, exec (.attestDone true) s = .next t ∧ t.rd Reg.SEC_STAT_ATT_BUSY = 0 ∧ t.rd Reg.SEC_STAT_ATT_STATUS = 0 ∧
        t.outbox = s.outbox ++ [.hostWrite (s.rd Reg.SEC_ATT_ADDR) (s.wr Reg.SEC_STAT_ATT_BUSY 0).report]) ∧
    (s.rdb Reg.SEC_STAT_COMMIT_BUSY = true → s.boot.traverseDelayed = false →
      (∃ t, exec (.commitDone true) s = .next t ∧ t.rd Reg.SEC_STAT_COMMIT_BUSY = 0 ∧ t.rd Reg.SEC_STAT_COMMIT_STATUS = 0 ∧
        t.sec.burned = s.sec.burned + (s.rd Reg.BOOT_RUN_SVN_SVN - s.rollLevel) ∧
        (∀ n, n < 4 → n ≠ s.rd Reg.BOOT_RUN_SVN_SLOT → bitN (leAt s.boot.runHdr 0x16 1) n = 1 → bitN t.revoked n = 1) ∧
        s.RegsBut [Reg.SEC_STAT_COMMIT_BUSY.key 0, Reg.SEC_STAT_COMMIT_STATUS.key 0] t) ∧
      (∃ t, exec (.commitDone false) s = .next t ∧ t.rd Reg.SEC_STAT_COMMIT_BUSY = 0 ∧ t.rd Reg.SEC_STAT_COMMIT_STATUS = 3 ∧
        s.RegsBut [Reg.SEC_STAT_COMMIT_BUSY.key 0, Reg.SEC_STAT_COMMIT_STATUS.key 0, trbKey 0x06 4] t)) ∧
    (∀ m : Master, s.access m 0x06 0x164 4 false = .ok → ∃ t, exec (.secFuseRead m) s = .next t ∧ t.sec = s.sec ∧
      Emit.readData m (s.fuseDword (s.rd Reg.SEC_FUSE_IDX_IDX) % 2 ^ 32) ∈ t.outbox ∧ (83 ≤ s.rd Reg.SEC_FUSE_IDX_IDX → Emit.readData m 0 ∈ t.outbox) ∧
      t.rd Reg.SEC_FUSE_IDX_IDX = (s.rd Reg.SEC_FUSE_IDX_IDX + 1) % 2 ^ 8 ∧ s.RegsBut [Reg.SEC_FUSE_IDX_IDX.key 0] t)

/-! ## Power, resets and the test access port -/

/-- R407, R408, R409: GOTO enters STANDBY from every other mode, READY from BOOT once boot is complete and every wanted domain
is on and from the forwarding modes, SERVICE or LEAN (as the plan says) from READY and DRAIN, and DRAIN from SERVICE and LEAN; a
request that the table does not have counts. -/
def Obligations.ModesFollowTheTable : Prop :=
  ∀ (s : State) (m : Master), s.access m 0x00 0x104 4 true = .ok →
    (s.mode ≠ 0 → ∃ t, exec (.gotoStandby m) s = .next t ∧ t.mode = 0 ∧ t.rd Reg.TOP_STAT_CAUSE = 1 ∧ t.pwr.on = s.pwr.on ∧
      t.pwr.seqOff = ((List.range 33).filter (fun d => d != 0 && s.pwr.on.contains d)).reverse ∧
      t.rd Reg.AON_STBY_COUNT = min (s.rd Reg.AON_STBY_COUNT + 1) 0xFFFF ∧ t.buf.bufs = [] ∧ t.hbm.mem = [] ∧ t.boot.partA = s.boot.partA) ∧
    (s.seqBusy = false → s.mode = 1 → s.bootComplete = true →
      ((∀ d, d < 33 → s.pwr.on.contains d = s.wanted d) → ∃ t, exec (.gotoReady m) s = .next t ∧ t.mode = 2 ∧ t.rd Reg.TOP_STAT_CAUSE = 1) ∧
      ((∃ d, d < 33 ∧ s.pwr.on.contains d ≠ s.wanted d) → ∃ t, exec (.gotoReady m) s = .next t ∧ t.mode = 1 ∧ t.pwr = { s.pwr with
        seqOff := ((List.range 33).filter (fun d => s.pwr.on.contains d && !s.wanted d)).reverse
        seqOn := (List.range 33).filter (fun d => s.wanted d && !s.pwr.on.contains d)
        modeAfter := some 2 } ∧ s.RegsBut [] t)) ∧
    (s.seqBusy = false → s.mode = 1 → s.bootComplete = false → ∃ t, exec (.gotoReady m) s = .next t ∧ (s.trouble 0x00 3).CountsTo t) ∧
    (s.seqBusy = false → s.mode = 3 ∨ s.mode = 4 ∨ s.mode = 5 → ∃ t, exec (.gotoReady m) s = .next t ∧ t.mode = 2 ∧
      t.rd Reg.TOP_STAT_CAUSE = 1 ∧ s.RegsBut [Reg.TOP_STAT_MODE.key 0, Reg.TOP_STAT_CAUSE.key 0, Reg.TOP_STAT_DRAINED.key 0] t) ∧
    (s.seqBusy = false → s.mode = 2 ∨ s.mode = 5 → ∃ t, exec (.gotoService m) s = .next t ∧ t.mode = (if s.fallow = 0 then 3 else 4) ∧
      t.rd Reg.TOP_STAT_CAUSE = 1 ∧ (s.mode = 5 → t.rd Reg.TOP_STAT_DRAINED = 0) ∧
      s.RegsBut [Reg.TOP_STAT_MODE.key 0, Reg.TOP_STAT_CAUSE.key 0, Reg.TOP_STAT_DRAINED.key 0] t) ∧
    (s.seqBusy = false → s.mode = 3 ∨ s.mode = 4 → ∃ t, exec (.gotoDrain m) s = .next t ∧ t.mode = 5 ∧ t.rd Reg.TOP_STAT_CAUSE = 1 ∧
      s.RegsBut [Reg.TOP_STAT_MODE.key 0, Reg.TOP_STAT_CAUSE.key 0] t) ∧
    (s.mode = 1 ∨ s.mode = 2 → ∃ t, exec (.gotoDrain m) s = .next t ∧ (s.trouble 0x00 3).CountsTo t) ∧
    (s.mode = 1 ∨ s.mode = 3 ∨ s.mode = 4 → ∃ t, exec (.gotoService m) s = .next t ∧ (s.trouble 0x00 3).CountsTo t)

/-- R410, R414: the domains of a sequence switch on one by one, each ready before the next; one that is not ready within its
time is switched off and shown as failed; the domains of a power-down switch off one by one, a stack is in its off state and a
domain of the packet buffers loses them. R378, R407, R420: the fall of a required power-good input enters STANDBY, a change of
the inputs pends source 9 outside STANDBY; in STANDBY, where it may be left, an enabled wake source or the wake timer enters
BOOT and is shown, and so does the end of the COLD start. -/
def Obligations.DomainsSwitchInSequenceAndWake : Prop :=
  (∀ (s : State) (d : Nat), d < 33 →
    (∀ rest, s.pwr.seqOn = d :: rest → s.pwr.seqOff = [] → s.pwr.awaitReady = none →
      (∃ t, exec (.domainSwitchOn true) s = .next t ∧ t.domainUp d = true ∧ t.pwr.seqOn = rest ∧ t.pwr.on = withNat s.pwr.on d ∧
        (20 ≤ d → d ≤ 27 → t.stackState (d - 20) = if 2 ≤ s.mode then 2 else 1) ∧ (d = 1 → s.mode = 1 → t.boot.startDue = true)) ∧
      (exec (.domainSwitchOn false) s = .next { s with pwr := { s.pwr with
        seqOn := rest
        on := withNat s.pwr.on d
        awaitReady := some d } })) ∧
    (s.pwr.awaitReady = some d → ∃ t, exec .domainReadyTimeout s = .next t ∧ t.pwr.on = without s.pwr.on d ∧ t.pwr.awaitReady = none ∧
      bitN (t.rdi Reg.PWR_FAIL_k (d / 32)) (d % 32) = 1 ∧ t.pwr.seqOn = s.pwr.seqOn ∧ t.pwr.seqOff = s.pwr.seqOff) ∧
    (∀ rest, s.pwr.seqOff = d :: rest → ∃ t, exec .domainSwitchOff s = .next t ∧ t.pwr.on = without s.pwr.on d ∧
      t.pwr.seqOff = s.pwr.seqOff.filter (fun x => x != d) ∧ t.pwr.seqOn = s.pwr.seqOn ∧
      (20 ≤ d → d ≤ 27 → t.stackState (d - 20) = 0) ∧ (s.mode ≠ 0 → 18 ≤ d → d ≤ 27 → t.buf.bufs = []))) ∧
  (∀ s : State,
    (∀ n, n < 8 → bitN (s.rd Reg.AON_PGIN_REQ) n = 1 → s.mode ≠ 0 → ∃ t, exec (.pgInFall n) s = .next t ∧ t.mode = 0 ∧
      t.rd Reg.TOP_STAT_CAUSE = 5 ∧ (∀ k, k < 8 → t.pins.pgIn.getLsbD k = (s.pins.pgIn.getLsbD k && decide (k ≠ n)))) ∧
    (∀ l : Byte, l ≠ s.pins.pgIn → s.mode ≠ 0 → s.pagePowered 0x08 = true → exec (.pgInChange l) s = .next { s with
      pins := { s.pins with pgIn := l }
      icu := { s.icu with edge := withNat s.icu.edge 9 } }) ∧
    (s.mayWake = true →
      (∀ src k, wakeBit src = some k → bitN (s.rd Reg.AON_WAKE_EN_SET) k = 1 → ∃ t, exec (.wake src) s = .next t ∧ t.mode = 1 ∧
        t.rd Reg.TOP_STAT_CAUSE = 6 ∧ t.rd Reg.AON_WAKE_LAST_SRC = src ∧ t.rd Reg.AON_WAKE_LAST_VALID = 1 ∧ t.pins = { s.pins with sharedOut := true } ∧
        t.pwr = { s.pwr with seqOn := bootDomains.filter (fun d => !s.pwr.on.contains d || s.pwr.seqOff.contains d), modeAfter := none } ∧
        s.RegsBut [Reg.TOP_STAT_MODE.key 0, Reg.TOP_STAT_CAUSE.key 0, Reg.AON_WAKE_LAST_SRC.key 0, Reg.AON_WAKE_LAST_VALID.key 0] t) ∧
      (s.rd Reg.AON_TIMER_S ≠ 0 → bitN (s.rd Reg.AON_WAKE_EN_SET) 5 = 1 → ∃ t, exec .aonWakeTimer s = .next t ∧ t.mode = 1 ∧
        t.rd Reg.AON_WAKE_LAST_SRC = 11)) ∧
    (s.rst.cold = true → ∃ t, exec .endOfCold s = .next t ∧ t.rst = { s.rst with cold := false } ∧
      (({ s with rst := { s.rst with cold := false } } : State).mayWake = true → t.mode = 1 ∧ t.rd Reg.TOP_STAT_CAUSE = 7 ∧
        s.RegsBut [Reg.TOP_STAT_MODE.key 0, Reg.TOP_STAT_CAUSE.key 0] t)))

/-- R411, R416, R417: a governor tick grants each pipeline the least of what the step limit allows the two estimates and what
throttling allows, and shows which pipelines are withheld clocks; the sensors' readings and the highest of them are shown, a
reading at the throttle limit begins throttling, and one at 120 degrees trips: THERM_TRIP_L is asserted and STANDBY entered. -/
def Obligations.LimitsWithholdClocksAndTrip : Prop :=
  ∀ s : State,
    (∀ f g, s.mode ≠ 0 → ∃ t, exec (.governorTick f g) s = .next t ∧
      t.pwr = { s.pwr with govRate := min (min (s.stepGrant f) (s.stepGrant g)) s.dutyGrant } ∧
      ∀ p, p < 16 → s.runs (0x20 + p) = true → t.rdp (0x20 + p) Reg.PIPE_STAT_THROTTLED 0 = b01 (decide (t.pwr.govRate < tickClocks))) ∧
    (∀ l : List (Option (BitVec 16)), l.length = 24 → (∀ n, n < 24 → ∃ v, l[n]? = some (some v)) →
      ((∀ (n : Nat) (v : BitVec 16), l[n]? = some (some v) → v.toInt < 120 * 128) →
        ∃ t, exec (.thermalRead l) s = .next t ∧ t.mode = s.mode ∧
          (∀ (n : Nat) (v : BitVec 16), l[n]? = some (some v) → t.rdi Reg.THM_TEMP_n_TEMP n = v.toNat ∧ t.rdi Reg.THM_TEMP_n_STALE n = 0) ∧
          (∃ (n : Nat) (v : BitVec 16), l[n]? = some (some v) ∧ t.rd Reg.THM_MAX_SENSOR = n ∧ t.rd Reg.THM_MAX_TEMP = v.toNat ∧
            ∀ (k : Nat) (w : BitVec 16), l[k]? = some (some w) → w.toInt ≤ v.toInt) ∧
          (s.rd Reg.THM_THROTTLE_TEMP = 0 → t.rdb Reg.THM_STAT_THROTTLING = false) ∧
          (∀ (n : Nat) (v : BitVec 16), l[n]? = some (some v) → s.rd Reg.THM_THROTTLE_TEMP ≠ 0 →
            (s.rd Reg.THM_THROTTLE_TEMP : Int) * 128 ≤ v.toInt → t.rdb Reg.THM_STAT_THROTTLING = true)) ∧
      (∀ (n : Nat) (v : BitVec 16), l[n]? = some (some v) → 120 * 128 ≤ v.toInt → s.pins.thermTrip = false →
        ∃ t, exec (.thermalRead l) s = .next t ∧ t.pins.thermTrip = true ∧ t.mode = 0 ∧ (s.mode ≠ 0 → t.rd Reg.TOP_STAT_CAUSE = 3)))

/-- R422, R428, R429, R431: a COLD reset leaves every register, buffer, queue and bank as at reset, with the straps and seat of
the pins; boot flash and what has been burned stay. R369, R422, R423, R425, R426, R430, R432, R456: a WARM reset by software or
by HOST_PERST_L and an FLR, by itself or by HOST_PERST_L, show their record and are busy until their clear ends; then the fields
of the classes that they clear read as at reset; a WARM reset leaves the mode BOOT with the cores off and a start due. A pulse
of the pin below a microsecond does nothing, its deassertion and the receiver's exit from idle pend their sources. -/
def Obligations.ColdResetAndOtherResetsClearWhatTheyReach : Prop :=
  (∀ (s : State) (straps : Byte) (seat present : Bool),
    ∃ t, exec (.coldReset straps seat present) s = .next t ∧ t.regs = State.reset.regs ∧ t.banks = State.reset.banks ∧
      t.buf = State.reset.buf ∧ t.q = State.reset.q ∧ t.tab = State.reset.tab ∧ t.hbm = State.reset.hbm ∧ t.fab = State.reset.fab ∧
      t.icu = State.reset.icu ∧ t.pwr = State.reset.pwr ∧ t.time = State.reset.time ∧ t.cairn = State.reset.cairn ∧ t.rst = State.reset.rst ∧
      t.pins.straps = straps ∧ t.pins.seat = seat ∧ t.pins.present = present ∧ t.boot.partA = s.boot.partA ∧ t.boot.partB = s.boot.partB ∧
      t.boot.staging = s.boot.staging ∧ t.sec.burned = s.sec.burned ∧ t.sec.revoked = s.sec.revoked ∧ t.pending = s.pending) ∧
  (∀ s : State,
    (s.mode ≠ 0 → s.rst.warm = false →
      (∀ m : Master, s.access m 0x00 0x104 4 true = .ok → ∃ t, exec (.softWarm m) s = .next t ∧ t.rst = { s.rst with warm := true, flr := false, blocks := [] } ∧
        t.rd Reg.RST_STAT_BUSY = 1 ∧ t.rd Reg.RST_STAT_LAST = 2 ∧ t.rd Reg.RST_STAT_SRC = 2 ∧ (∀ c, c < 4 → t.coreState c = 0) ∧
        t.rd Reg.RST_CNT_WARM = min (s.rd Reg.RST_CNT_WARM + 1) 0xFFFF ∧ t.tdm.cur = none) ∧
      (∃ t, exec .flr s = .next t ∧ t.rst = { s.rst with flr := true } ∧ t.host = { s.host with bme := false } ∧ t.rd Reg.RST_STAT_BUSY = 1 ∧
        t.rd Reg.RST_STAT_LAST = 3 ∧ t.rd Reg.RST_STAT_SRC = 3 ∧ t.rd Reg.RST_CNT_FLR = min (s.rd Reg.RST_CNT_FLR + 1) 0xFFFF) ∧
      (∀ us, 100 ≤ us → ∃ t, exec (.hostPerst us) s = .next t ∧ t.pins.hostPerst = true ∧ t.host.bme = false ∧ t.rd Reg.HIF_STAT_LINK_UP = 0 ∧
        t.rd Reg.RST_STAT_BUSY = 1 ∧ t.rd Reg.RST_STAT_SRC = 1 ∧
        (s.rdb Reg.RST_CFG_PERST_SCOPE = false → t.rst.warm = true ∧ t.rd Reg.RST_STAT_LAST = 2) ∧
        (s.rdb Reg.RST_CFG_PERST_SCOPE = true → t.rst.flr = true ∧ t.rst.warm = false ∧ t.rd Reg.RST_STAT_LAST = 3))) ∧
    (exec (.hostPerst 0) s = .next s) ∧
    (s.rst.warm = true → ∃ t, exec .warmClearDone s = .next t ∧ t.mode = 1 ∧ t.rst.warm = false ∧ t.rst.headless = false ∧
      t.boot.startDue = true ∧ t.rd Reg.RST_STAT_BUSY = 0 ∧ t.buf.bufs = [] ∧ t.cairn.armed = [] ∧ t.banks.parse = State.reset.banks.parse ∧
      ∀ c, c < 4 → t.coreState c = 0) ∧
    (s.rst.flr = true → ∃ t, exec .flrClearDone s = .next t ∧ t.rst = { s.rst with flr := false } ∧ t.rd Reg.RST_STAT_BUSY = 0 ∧
      t.host.tags = [] ∧ t.host.winOld = [] ∧ t.banks = s.banks ∧ t.buf = s.buf ∧
      ∀ p ∈ hostPages, ∀ f ∈ pageFields p, (f.ret = .s ∨ f.ret = .v) → ∀ i ∈ f.instances, liveKeys.contains (fkey p f i) = false →
        isTele (fkey p f i) = false → t.regs.active.lookup (fkey p f i) = none) ∧
    (s.mode ≠ 0 → s.pagePowered 0x08 = true →
      exec .hostPerstDeassert s = .next { s with
        pins := { s.pins with hostPerst := false }
        icu := { s.icu with edge := withNat s.icu.edge 16 } } ∧
      exec .hrxIdleExit s = .next { s with icu := { s.icu with edge := withNat s.icu.edge 17 } }))

/-- R461: a clock of the test access port takes its controller to the next state, and five with TMS high take it to
Test-Logic-Reset from any; in Shift-DR outside CHIP_PORST_L the bypass bit goes out and TDI comes in; no clock changes anything
but the port. -/
def Obligations.TestClocksMoveThePortAlone : Prop :=
  (∀ (s : State) (tms tdi : Bool), ∃ t, exec (.tapClock tms tdi) s = .next t ∧ t.tap.state = tapNext s.tap.state tms ∧
    t = { s with tap := t.tap, outbox := t.outbox, fresh := t.fresh } ∧
    (s.tap.state = 2 → s.pins.porst = false → t.tap.bypass = tdi ∧ t.outbox = s.outbox ++ [.tdo s.tap.bypass] ∧ t.fresh = s.fresh)) ∧
  ∀ st, st < 16 → tapNext (tapNext (tapNext (tapNext (tapNext st true) true) true) true) true = 15
end

