-- ==== Sys2Proof/Laws/SMap.lean ====
section
/-! SUPPORT. Laws of sparse maps: what a lookup gives after a write, and that writes keep the canonical form. -/
namespace Sys2Proof

variable {β : Type}

@[simp] theorem SMap.lookup_insert_same (l : SMap β) (k : Nat) (v : β) : (l.insert k v).lookup k = some v := by
  induction l with
  | nil => simp [SMap.insert, SMap.lookup]
  | cons h t ih =>
    obtain ⟨j, w⟩ := h
    simp only [SMap.insert]
    split
    · simp [SMap.lookup]
    · split
      · simp [SMap.lookup]
      · rename_i h1 h2
        simp [SMap.lookup, Ne.symm h2, ih]

theorem SMap.lookup_insert_ne {l : SMap β} {k j : Nat} {v : β} (h : k ≠ j) : (l.insert k v).lookup j = l.lookup j := by
  induction l with
  | nil => simp [SMap.insert, SMap.lookup, h]
  | cons p t ih =>
    obtain ⟨i, w⟩ := p
    simp only [SMap.insert]
    split
    · simp [SMap.lookup, h]
    · split
      · rename_i h1 h2
        subst h2
        simp [SMap.lookup, h]
      · simp only [SMap.lookup, ih]

@[simp] theorem SMap.lookup_erase_same (l : SMap β) (k : Nat) : (l.erase k).lookup k = none := by
  induction l with
  | nil => rfl
  | cons p t ih =>
    obtain ⟨i, w⟩ := p
    simp only [SMap.erase]
    split
    · exact ih
    · rename_i h
      simp [SMap.lookup, h, ih]

theorem SMap.lookup_erase_ne {l : SMap β} {k j : Nat} (h : k ≠ j) : (l.erase k).lookup j = l.lookup j := by
  induction l with
  | nil => rfl
  | cons p t ih =>
    obtain ⟨i, w⟩ := p
    simp only [SMap.erase]
    split
    · rename_i e
      subst e
      simp [SMap.lookup, h, ih]
    · simp only [SMap.lookup, ih]

theorem SMap.lookup_set_ne [DecidableEq β] {l : SMap β} {d v : β} {k j : Nat} (h : k ≠ j) :
    (l.set d k v).lookup j = l.lookup j := by
  unfold SMap.set
  split
  · exact SMap.lookup_erase_ne h
  · exact SMap.lookup_insert_ne h

/-- A write depends on the map only through its lookups. -/
theorem SMap.lookup_set_congr [DecidableEq β] {l m : SMap β} {d v : β} {k j : Nat} (h : l.lookup j = m.lookup j) :
    (l.set d k v).lookup j = (m.set d k v).lookup j := by
  by_cases e : k = j
  · subst e
    unfold SMap.set
    split <;> simp
  · rw [SMap.lookup_set_ne e, SMap.lookup_set_ne e, h]

@[simp] theorem SMap.get_set_same [DecidableEq β] (l : SMap β) (d v : β) (k : Nat) : (l.set d k v).get d k = v := by
  unfold SMap.set SMap.get
  split
  · rename_i h
    simp [h]
  · simp

theorem SMap.get_set_ne [DecidableEq β] {l : SMap β} {d e v : β} {k j : Nat} (h : k ≠ j) :
    (l.set d k v).get e j = l.get e j := by
  simp [SMap.get, SMap.lookup_set_ne h]

/-! ## The canonical form -/

theorem SMap.risingFrom_mono {l : SMap β} {a b : Nat} (h : a ≤ b) (r : SMap.risingFrom b l = true) :
    SMap.risingFrom a l = true := by
  cases l with
  | nil => rfl
  | cons p t =>
    obtain ⟨k, v⟩ := p
    simp only [SMap.risingFrom, Bool.and_eq_true, decide_eq_true_eq] at r ⊢
    exact ⟨Nat.le_trans h r.1, r.2⟩

theorem SMap.risingFrom_insert {l : SMap β} {a k : Nat} {v : β} (h : a ≤ k) (r : SMap.risingFrom a l = true) :
    SMap.risingFrom a (l.insert k v) = true := by
  induction l generalizing a with
  | nil => simp [SMap.insert, SMap.risingFrom, h]
  | cons p t ih =>
    obtain ⟨j, w⟩ := p
    simp only [SMap.risingFrom, Bool.and_eq_true, decide_eq_true_eq] at r
    simp only [SMap.insert]
    split
    · simp only [SMap.risingFrom, Bool.and_eq_true, decide_eq_true_eq]
      exact ⟨h, by omega, r.2⟩
    · split
      · rename_i h1 h2
        subst h2
        simp only [SMap.risingFrom, Bool.and_eq_true, decide_eq_true_eq]
        exact ⟨h, r.2⟩
      · simp only [SMap.risingFrom, Bool.and_eq_true, decide_eq_true_eq]
        exact ⟨r.1, ih (by omega) r.2⟩

theorem SMap.risingFrom_erase {l : SMap β} {a k : Nat} (r : SMap.risingFrom a l = true) :
    SMap.risingFrom a (l.erase k) = true := by
  induction l generalizing a with
  | nil => rfl
  | cons p t ih =>
    obtain ⟨j, w⟩ := p
    simp only [SMap.risingFrom, Bool.and_eq_true, decide_eq_true_eq] at r
    simp only [SMap.erase]
    split
    · exact SMap.risingFrom_mono (by omega) (ih r.2)
    · simp only [SMap.risingFrom, Bool.and_eq_true, decide_eq_true_eq]
      exact ⟨r.1, ih r.2⟩

theorem SMap.mem_insert {l : SMap β} {k : Nat} {v : β} {p : Nat × β} (h : p ∈ l.insert k v) : p = (k, v) ∨ p ∈ l := by
  induction l with
  | nil => simpa [SMap.insert] using h
  | cons q t ih =>
    obtain ⟨j, w⟩ := q
    simp only [SMap.insert] at h
    split at h
    · simpa using h
    · split at h
      · rcases List.mem_cons.1 h with h | h
        · exact .inl h
        · exact .inr (List.mem_cons_of_mem _ h)
      · rcases List.mem_cons.1 h with h | h
        · exact .inr (h ▸ List.mem_cons_self)
        · rcases ih h with h | h
          · exact .inl h
          · exact .inr (List.mem_cons_of_mem _ h)

theorem SMap.mem_erase {l : SMap β} {k : Nat} {p : Nat × β} (h : p ∈ l.erase k) : p ∈ l := by
  induction l with
  | nil => exact h
  | cons q t ih =>
    obtain ⟨j, w⟩ := q
    simp only [SMap.erase] at h
    split at h
    · exact List.mem_cons_of_mem _ (ih h)
    · rcases List.mem_cons.1 h with h | h
      · exact h ▸ List.mem_cons_self
      · exact List.mem_cons_of_mem _ (ih h)

/-- A write keeps the canonical form. -/
theorem SMap.wf_set [DecidableEq β] {l : SMap β} {d v : β} {k : Nat} (h : SMap.wf d l = true) :
    SMap.wf d (l.set d k v) = true := by
  simp only [SMap.wf, Bool.and_eq_true, List.all_eq_true, decide_eq_true_eq] at h ⊢
  unfold SMap.set
  split
  · exact ⟨SMap.risingFrom_erase h.1, fun p m => h.2 p (SMap.mem_erase m)⟩
  · rename_i hv
    refine ⟨SMap.risingFrom_insert (Nat.zero_le k) h.1, fun p m => ?_⟩
    rcases SMap.mem_insert m with m | m
    · subst m; exact hv
    · exact h.2 p m

theorem SMap.risingFrom_filter {l : SMap β} {a : Nat} {f : Nat × β → Bool} (r : SMap.risingFrom a l = true) :
    SMap.risingFrom a (l.filter f) = true := by
  induction l generalizing a with
  | nil => rfl
  | cons p t ih =>
    obtain ⟨j, w⟩ := p
    simp only [SMap.risingFrom, Bool.and_eq_true, decide_eq_true_eq] at r
    rw [List.filter_cons]
    split
    · simp only [SMap.risingFrom, Bool.and_eq_true, decide_eq_true_eq]
      exact ⟨r.1, ih r.2⟩
    · exact SMap.risingFrom_mono (by omega) (ih r.2)

/-- Leaving entries out keeps the canonical form. -/
theorem SMap.wf_filter [DecidableEq β] {l : SMap β} {d : β} {f : Nat × β → Bool} (h : SMap.wf d l = true) :
    SMap.wf d (l.filter f) = true := by
  simp only [SMap.wf, Bool.and_eq_true, List.all_eq_true, decide_eq_true_eq] at h ⊢
  exact ⟨SMap.risingFrom_filter h.1, fun p m => h.2 p (List.mem_filter.1 m).1⟩

end Sys2Proof
end

