-- ==== Sys2Proof/Laws/State.lean ====
section
/-! SUPPORT. Laws of State: what each update leaves as it was, one lemma per field per update. -/
namespace Sys2Proof.Machine

@[simp] theorem State.wrp_pins (s : State) (p : Nat) (f : Fld) (i v : Nat) : (s.wrp p f i v).pins = s.pins := rfl
@[simp] theorem State.wrp_time (s : State) (p : Nat) (f : Fld) (i v : Nat) : (s.wrp p f i v).time = s.time := rfl
@[simp] theorem State.wrp_spine (s : State) (p : Nat) (f : Fld) (i v : Nat) : (s.wrp p f i v).spine = s.spine := rfl
@[simp] theorem State.wrp_pair (s : State) (p : Nat) (f : Fld) (i v : Nat) : (s.wrp p f i v).pair = s.pair := rfl
@[simp] theorem State.wrp_cairn (s : State) (p : Nat) (f : Fld) (i v : Nat) : (s.wrp p f i v).cairn = s.cairn := rfl
@[simp] theorem State.wrp_banks (s : State) (p : Nat) (f : Fld) (i v : Nat) : (s.wrp p f i v).banks = s.banks := rfl
@[simp] theorem State.wrp_path (s : State) (p : Nat) (f : Fld) (i v : Nat) : (s.wrp p f i v).path = s.path := rfl
@[simp] theorem State.wrp_exm (s : State) (p : Nat) (f : Fld) (i v : Nat) : (s.wrp p f i v).exm = s.exm := rfl
@[simp] theorem State.wrp_learn (s : State) (p : Nat) (f : Fld) (i v : Nat) : (s.wrp p f i v).learn = s.learn := rfl
@[simp] theorem State.wrp_tab (s : State) (p : Nat) (f : Fld) (i v : Nat) : (s.wrp p f i v).tab = s.tab := rfl
@[simp] theorem State.wrp_buf (s : State) (p : Nat) (f : Fld) (i v : Nat) : (s.wrp p f i v).buf = s.buf := rfl
@[simp] theorem State.wrp_q (s : State) (p : Nat) (f : Fld) (i v : Nat) : (s.wrp p f i v).q = s.q := rfl
@[simp] theorem State.wrp_sched (s : State) (p : Nat) (f : Fld) (i v : Nat) : (s.wrp p f i v).sched = s.sched := rfl
@[simp] theorem State.wrp_gates (s : State) (p : Nat) (f : Fld) (i v : Nat) : (s.wrp p f i v).gates = s.gates := rfl
@[simp] theorem State.wrp_lat (s : State) (p : Nat) (f : Fld) (i v : Nat) : (s.wrp p f i v).lat = s.lat := rfl
@[simp] theorem State.wrp_fab (s : State) (p : Nat) (f : Fld) (i v : Nat) : (s.wrp p f i v).fab = s.fab := rfl
@[simp] theorem State.wrp_hbm (s : State) (p : Nat) (f : Fld) (i v : Nat) : (s.wrp p f i v).hbm = s.hbm := rfl
@[simp] theorem State.wrp_host (s : State) (p : Nat) (f : Fld) (i v : Nat) : (s.wrp p f i v).host = s.host := rfl
@[simp] theorem State.wrp_icu (s : State) (p : Nat) (f : Fld) (i v : Nat) : (s.wrp p f i v).icu = s.icu := rfl
@[simp] theorem State.wrp_mgt (s : State) (p : Nat) (f : Fld) (i v : Nat) : (s.wrp p f i v).mgt = s.mgt := rfl
@[simp] theorem State.wrp_boot (s : State) (p : Nat) (f : Fld) (i v : Nat) : (s.wrp p f i v).boot = s.boot := rfl
@[simp] theorem State.wrp_sec (s : State) (p : Nat) (f : Fld) (i v : Nat) : (s.wrp p f i v).sec = s.sec := rfl
@[simp] theorem State.wrp_pwr (s : State) (p : Nat) (f : Fld) (i v : Nat) : (s.wrp p f i v).pwr = s.pwr := rfl
@[simp] theorem State.wrp_pmu (s : State) (p : Nat) (f : Fld) (i v : Nat) : (s.wrp p f i v).pmu = s.pmu := rfl
@[simp] theorem State.wrp_tdm (s : State) (p : Nat) (f : Fld) (i v : Nat) : (s.wrp p f i v).tdm = s.tdm := rfl
@[simp] theorem State.wrp_shd (s : State) (p : Nat) (f : Fld) (i v : Nat) : (s.wrp p f i v).shd = s.shd := rfl
@[simp] theorem State.wrp_rst (s : State) (p : Nat) (f : Fld) (i v : Nat) : (s.wrp p f i v).rst = s.rst := rfl
@[simp] theorem State.wrp_tap (s : State) (p : Nat) (f : Fld) (i v : Nat) : (s.wrp p f i v).tap = s.tap := rfl
@[simp] theorem State.wrp_d2d (s : State) (p : Nat) (f : Fld) (i v : Nat) : (s.wrp p f i v).d2d = s.d2d := rfl
@[simp] theorem State.wrp_fresh (s : State) (p : Nat) (f : Fld) (i v : Nat) : (s.wrp p f i v).fresh = s.fresh := rfl
@[simp] theorem State.wrp_outbox (s : State) (p : Nat) (f : Fld) (i v : Nat) : (s.wrp p f i v).outbox = s.outbox := rfl
@[simp] theorem State.wrp_pending (s : State) (p : Nat) (f : Fld) (i v : Nat) : (s.wrp p f i v).pending = s.pending := rfl

@[simp] theorem State.wri_pins (s : State) (f : Fld) (i v : Nat) : (s.wri f i v).pins = s.pins := rfl
@[simp] theorem State.wri_time (s : State) (f : Fld) (i v : Nat) : (s.wri f i v).time = s.time := rfl
@[simp] theorem State.wri_spine (s : State) (f : Fld) (i v : Nat) : (s.wri f i v).spine = s.spine := rfl
@[simp] theorem State.wri_pair (s : State) (f : Fld) (i v : Nat) : (s.wri f i v).pair = s.pair := rfl
@[simp] theorem State.wri_cairn (s : State) (f : Fld) (i v : Nat) : (s.wri f i v).cairn = s.cairn := rfl
@[simp] theorem State.wri_banks (s : State) (f : Fld) (i v : Nat) : (s.wri f i v).banks = s.banks := rfl
@[simp] theorem State.wri_path (s : State) (f : Fld) (i v : Nat) : (s.wri f i v).path = s.path := rfl
@[simp] theorem State.wri_exm (s : State) (f : Fld) (i v : Nat) : (s.wri f i v).exm = s.exm := rfl
@[simp] theorem State.wri_learn (s : State) (f : Fld) (i v : Nat) : (s.wri f i v).learn = s.learn := rfl
@[simp] theorem State.wri_tab (s : State) (f : Fld) (i v : Nat) : (s.wri f i v).tab = s.tab := rfl
@[simp] theorem State.wri_buf (s : State) (f : Fld) (i v : Nat) : (s.wri f i v).buf = s.buf := rfl
@[simp] theorem State.wri_q (s : State) (f : Fld) (i v : Nat) : (s.wri f i v).q = s.q := rfl
@[simp] theorem State.wri_sched (s : State) (f : Fld) (i v : Nat) : (s.wri f i v).sched = s.sched := rfl
@[simp] theorem State.wri_gates (s : State) (f : Fld) (i v : Nat) : (s.wri f i v).gates = s.gates := rfl
@[simp] theorem State.wri_lat (s : State) (f : Fld) (i v : Nat) : (s.wri f i v).lat = s.lat := rfl
@[simp] theorem State.wri_fab (s : State) (f : Fld) (i v : Nat) : (s.wri f i v).fab = s.fab := rfl
@[simp] theorem State.wri_hbm (s : State) (f : Fld) (i v : Nat) : (s.wri f i v).hbm = s.hbm := rfl
@[simp] theorem State.wri_host (s : State) (f : Fld) (i v : Nat) : (s.wri f i v).host = s.host := rfl
@[simp] theorem State.wri_icu (s : State) (f : Fld) (i v : Nat) : (s.wri f i v).icu = s.icu := rfl
@[simp] theorem State.wri_mgt (s : State) (f : Fld) (i v : Nat) : (s.wri f i v).mgt = s.mgt := rfl
@[simp] theorem State.wri_boot (s : State) (f : Fld) (i v : Nat) : (s.wri f i v).boot = s.boot := rfl
@[simp] theorem State.wri_sec (s : State) (f : Fld) (i v : Nat) : (s.wri f i v).sec = s.sec := rfl
@[simp] theorem State.wri_pwr (s : State) (f : Fld) (i v : Nat) : (s.wri f i v).pwr = s.pwr := rfl
@[simp] theorem State.wri_pmu (s : State) (f : Fld) (i v : Nat) : (s.wri f i v).pmu = s.pmu := rfl
@[simp] theorem State.wri_tdm (s : State) (f : Fld) (i v : Nat) : (s.wri f i v).tdm = s.tdm := rfl
@[simp] theorem State.wri_shd (s : State) (f : Fld) (i v : Nat) : (s.wri f i v).shd = s.shd := rfl
@[simp] theorem State.wri_rst (s : State) (f : Fld) (i v : Nat) : (s.wri f i v).rst = s.rst := rfl
@[simp] theorem State.wri_tap (s : State) (f : Fld) (i v : Nat) : (s.wri f i v).tap = s.tap := rfl
@[simp] theorem State.wri_d2d (s : State) (f : Fld) (i v : Nat) : (s.wri f i v).d2d = s.d2d := rfl
@[simp] theorem State.wri_fresh (s : State) (f : Fld) (i v : Nat) : (s.wri f i v).fresh = s.fresh := rfl
@[simp] theorem State.wri_outbox (s : State) (f : Fld) (i v : Nat) : (s.wri f i v).outbox = s.outbox := rfl
@[simp] theorem State.wri_pending (s : State) (f : Fld) (i v : Nat) : (s.wri f i v).pending = s.pending := rfl

@[simp] theorem State.wr_pins (s : State) (f : Fld) (v : Nat) : (s.wr f v).pins = s.pins := rfl
@[simp] theorem State.wr_time (s : State) (f : Fld) (v : Nat) : (s.wr f v).time = s.time := rfl
@[simp] theorem State.wr_spine (s : State) (f : Fld) (v : Nat) : (s.wr f v).spine = s.spine := rfl
@[simp] theorem State.wr_pair (s : State) (f : Fld) (v : Nat) : (s.wr f v).pair = s.pair := rfl
@[simp] theorem State.wr_cairn (s : State) (f : Fld) (v : Nat) : (s.wr f v).cairn = s.cairn := rfl
@[simp] theorem State.wr_banks (s : State) (f : Fld) (v : Nat) : (s.wr f v).banks = s.banks := rfl
@[simp] theorem State.wr_path (s : State) (f : Fld) (v : Nat) : (s.wr f v).path = s.path := rfl
@[simp] theorem State.wr_exm (s : State) (f : Fld) (v : Nat) : (s.wr f v).exm = s.exm := rfl
@[simp] theorem State.wr_learn (s : State) (f : Fld) (v : Nat) : (s.wr f v).learn = s.learn := rfl
@[simp] theorem State.wr_tab (s : State) (f : Fld) (v : Nat) : (s.wr f v).tab = s.tab := rfl
@[simp] theorem State.wr_buf (s : State) (f : Fld) (v : Nat) : (s.wr f v).buf = s.buf := rfl
@[simp] theorem State.wr_q (s : State) (f : Fld) (v : Nat) : (s.wr f v).q = s.q := rfl
@[simp] theorem State.wr_sched (s : State) (f : Fld) (v : Nat) : (s.wr f v).sched = s.sched := rfl
@[simp] theorem State.wr_gates (s : State) (f : Fld) (v : Nat) : (s.wr f v).gates = s.gates := rfl
@[simp] theorem State.wr_lat (s : State) (f : Fld) (v : Nat) : (s.wr f v).lat = s.lat := rfl
@[simp] theorem State.wr_fab (s : State) (f : Fld) (v : Nat) : (s.wr f v).fab = s.fab := rfl
@[simp] theorem State.wr_hbm (s : State) (f : Fld) (v : Nat) : (s.wr f v).hbm = s.hbm := rfl
@[simp] theorem State.wr_host (s : State) (f : Fld) (v : Nat) : (s.wr f v).host = s.host := rfl
@[simp] theorem State.wr_icu (s : State) (f : Fld) (v : Nat) : (s.wr f v).icu = s.icu := rfl
@[simp] theorem State.wr_mgt (s : State) (f : Fld) (v : Nat) : (s.wr f v).mgt = s.mgt := rfl
@[simp] theorem State.wr_boot (s : State) (f : Fld) (v : Nat) : (s.wr f v).boot = s.boot := rfl
@[simp] theorem State.wr_sec (s : State) (f : Fld) (v : Nat) : (s.wr f v).sec = s.sec := rfl
@[simp] theorem State.wr_pwr (s : State) (f : Fld) (v : Nat) : (s.wr f v).pwr = s.pwr := rfl
@[simp] theorem State.wr_pmu (s : State) (f : Fld) (v : Nat) : (s.wr f v).pmu = s.pmu := rfl
@[simp] theorem State.wr_tdm (s : State) (f : Fld) (v : Nat) : (s.wr f v).tdm = s.tdm := rfl
@[simp] theorem State.wr_shd (s : State) (f : Fld) (v : Nat) : (s.wr f v).shd = s.shd := rfl
@[simp] theorem State.wr_rst (s : State) (f : Fld) (v : Nat) : (s.wr f v).rst = s.rst := rfl
@[simp] theorem State.wr_tap (s : State) (f : Fld) (v : Nat) : (s.wr f v).tap = s.tap := rfl
@[simp] theorem State.wr_d2d (s : State) (f : Fld) (v : Nat) : (s.wr f v).d2d = s.d2d := rfl
@[simp] theorem State.wr_fresh (s : State) (f : Fld) (v : Nat) : (s.wr f v).fresh = s.fresh := rfl
@[simp] theorem State.wr_outbox (s : State) (f : Fld) (v : Nat) : (s.wr f v).outbox = s.outbox := rfl
@[simp] theorem State.wr_pending (s : State) (f : Fld) (v : Nat) : (s.wr f v).pending = s.pending := rfl

@[simp] theorem State.wrb_pins (s : State) (f : Fld) (b : Bool) : (s.wrb f b).pins = s.pins := rfl
@[simp] theorem State.wrb_time (s : State) (f : Fld) (b : Bool) : (s.wrb f b).time = s.time := rfl
@[simp] theorem State.wrb_spine (s : State) (f : Fld) (b : Bool) : (s.wrb f b).spine = s.spine := rfl
@[simp] theorem State.wrb_pair (s : State) (f : Fld) (b : Bool) : (s.wrb f b).pair = s.pair := rfl
@[simp] theorem State.wrb_cairn (s : State) (f : Fld) (b : Bool) : (s.wrb f b).cairn = s.cairn := rfl
@[simp] theorem State.wrb_banks (s : State) (f : Fld) (b : Bool) : (s.wrb f b).banks = s.banks := rfl
@[simp] theorem State.wrb_path (s : State) (f : Fld) (b : Bool) : (s.wrb f b).path = s.path := rfl
@[simp] theorem State.wrb_exm (s : State) (f : Fld) (b : Bool) : (s.wrb f b).exm = s.exm := rfl
@[simp] theorem State.wrb_learn (s : State) (f : Fld) (b : Bool) : (s.wrb f b).learn = s.learn := rfl
@[simp] theorem State.wrb_tab (s : State) (f : Fld) (b : Bool) : (s.wrb f b).tab = s.tab := rfl
@[simp] theorem State.wrb_buf (s : State) (f : Fld) (b : Bool) : (s.wrb f b).buf = s.buf := rfl
@[simp] theorem State.wrb_q (s : State) (f : Fld) (b : Bool) : (s.wrb f b).q = s.q := rfl
@[simp] theorem State.wrb_sched (s : State) (f : Fld) (b : Bool) : (s.wrb f b).sched = s.sched := rfl
@[simp] theorem State.wrb_gates (s : State) (f : Fld) (b : Bool) : (s.wrb f b).gates = s.gates := rfl
@[simp] theorem State.wrb_lat (s : State) (f : Fld) (b : Bool) : (s.wrb f b).lat = s.lat := rfl
@[simp] theorem State.wrb_fab (s : State) (f : Fld) (b : Bool) : (s.wrb f b).fab = s.fab := rfl
@[simp] theorem State.wrb_hbm (s : State) (f : Fld) (b : Bool) : (s.wrb f b).hbm = s.hbm := rfl
@[simp] theorem State.wrb_host (s : State) (f : Fld) (b : Bool) : (s.wrb f b).host = s.host := rfl
@[simp] theorem State.wrb_icu (s : State) (f : Fld) (b : Bool) : (s.wrb f b).icu = s.icu := rfl
@[simp] theorem State.wrb_mgt (s : State) (f : Fld) (b : Bool) : (s.wrb f b).mgt = s.mgt := rfl
@[simp] theorem State.wrb_boot (s : State) (f : Fld) (b : Bool) : (s.wrb f b).boot = s.boot := rfl
@[simp] theorem State.wrb_sec (s : State) (f : Fld) (b : Bool) : (s.wrb f b).sec = s.sec := rfl
@[simp] theorem State.wrb_pwr (s : State) (f : Fld) (b : Bool) : (s.wrb f b).pwr = s.pwr := rfl
@[simp] theorem State.wrb_pmu (s : State) (f : Fld) (b : Bool) : (s.wrb f b).pmu = s.pmu := rfl
@[simp] theorem State.wrb_tdm (s : State) (f : Fld) (b : Bool) : (s.wrb f b).tdm = s.tdm := rfl
@[simp] theorem State.wrb_shd (s : State) (f : Fld) (b : Bool) : (s.wrb f b).shd = s.shd := rfl
@[simp] theorem State.wrb_rst (s : State) (f : Fld) (b : Bool) : (s.wrb f b).rst = s.rst := rfl
@[simp] theorem State.wrb_tap (s : State) (f : Fld) (b : Bool) : (s.wrb f b).tap = s.tap := rfl
@[simp] theorem State.wrb_d2d (s : State) (f : Fld) (b : Bool) : (s.wrb f b).d2d = s.d2d := rfl
@[simp] theorem State.wrb_fresh (s : State) (f : Fld) (b : Bool) : (s.wrb f b).fresh = s.fresh := rfl
@[simp] theorem State.wrb_outbox (s : State) (f : Fld) (b : Bool) : (s.wrb f b).outbox = s.outbox := rfl
@[simp] theorem State.wrb_pending (s : State) (f : Fld) (b : Bool) : (s.wrb f b).pending = s.pending := rfl

@[simp] theorem State.addp_pins (s : State) (p : Nat) (f : Fld) (i v : Nat) : (s.addp p f i v).pins = s.pins := rfl
@[simp] theorem State.addp_time (s : State) (p : Nat) (f : Fld) (i v : Nat) : (s.addp p f i v).time = s.time := rfl
@[simp] theorem State.addp_spine (s : State) (p : Nat) (f : Fld) (i v : Nat) : (s.addp p f i v).spine = s.spine := rfl
@[simp] theorem State.addp_pair (s : State) (p : Nat) (f : Fld) (i v : Nat) : (s.addp p f i v).pair = s.pair := rfl
@[simp] theorem State.addp_cairn (s : State) (p : Nat) (f : Fld) (i v : Nat) : (s.addp p f i v).cairn = s.cairn := rfl
@[simp] theorem State.addp_banks (s : State) (p : Nat) (f : Fld) (i v : Nat) : (s.addp p f i v).banks = s.banks := rfl
@[simp] theorem State.addp_path (s : State) (p : Nat) (f : Fld) (i v : Nat) : (s.addp p f i v).path = s.path := rfl
@[simp] theorem State.addp_exm (s : State) (p : Nat) (f : Fld) (i v : Nat) : (s.addp p f i v).exm = s.exm := rfl
@[simp] theorem State.addp_learn (s : State) (p : Nat) (f : Fld) (i v : Nat) : (s.addp p f i v).learn = s.learn := rfl
@[simp] theorem State.addp_tab (s : State) (p : Nat) (f : Fld) (i v : Nat) : (s.addp p f i v).tab = s.tab := rfl
@[simp] theorem State.addp_buf (s : State) (p : Nat) (f : Fld) (i v : Nat) : (s.addp p f i v).buf = s.buf := rfl
@[simp] theorem State.addp_q (s : State) (p : Nat) (f : Fld) (i v : Nat) : (s.addp p f i v).q = s.q := rfl
@[simp] theorem State.addp_sched (s : State) (p : Nat) (f : Fld) (i v : Nat) : (s.addp p f i v).sched = s.sched := rfl
@[simp] theorem State.addp_gates (s : State) (p : Nat) (f : Fld) (i v : Nat) : (s.addp p f i v).gates = s.gates := rfl
@[simp] theorem State.addp_lat (s : State) (p : Nat) (f : Fld) (i v : Nat) : (s.addp p f i v).lat = s.lat := rfl
@[simp] theorem State.addp_fab (s : State) (p : Nat) (f : Fld) (i v : Nat) : (s.addp p f i v).fab = s.fab := rfl
@[simp] theorem State.addp_hbm (s : State) (p : Nat) (f : Fld) (i v : Nat) : (s.addp p f i v).hbm = s.hbm := rfl
@[simp] theorem State.addp_host (s : State) (p : Nat) (f : Fld) (i v : Nat) : (s.addp p f i v).host = s.host := rfl
@[simp] theorem State.addp_icu (s : State) (p : Nat) (f : Fld) (i v : Nat) : (s.addp p f i v).icu = s.icu := rfl
@[simp] theorem State.addp_mgt (s : State) (p : Nat) (f : Fld) (i v : Nat) : (s.addp p f i v).mgt = s.mgt := rfl
@[simp] theorem State.addp_boot (s : State) (p : Nat) (f : Fld) (i v : Nat) : (s.addp p f i v).boot = s.boot := rfl
@[simp] theorem State.addp_sec (s : State) (p : Nat) (f : Fld) (i v : Nat) : (s.addp p f i v).sec = s.sec := rfl
@[simp] theorem State.addp_pwr (s : State) (p : Nat) (f : Fld) (i v : Nat) : (s.addp p f i v).pwr = s.pwr := rfl
@[simp] theorem State.addp_pmu (s : State) (p : Nat) (f : Fld) (i v : Nat) : (s.addp p f i v).pmu = s.pmu := rfl
@[simp] theorem State.addp_tdm (s : State) (p : Nat) (f : Fld) (i v : Nat) : (s.addp p f i v).tdm = s.tdm := rfl
@[simp] theorem State.addp_shd (s : State) (p : Nat) (f : Fld) (i v : Nat) : (s.addp p f i v).shd = s.shd := rfl
@[simp] theorem State.addp_rst (s : State) (p : Nat) (f : Fld) (i v : Nat) : (s.addp p f i v).rst = s.rst := rfl
@[simp] theorem State.addp_tap (s : State) (p : Nat) (f : Fld) (i v : Nat) : (s.addp p f i v).tap = s.tap := rfl
@[simp] theorem State.addp_d2d (s : State) (p : Nat) (f : Fld) (i v : Nat) : (s.addp p f i v).d2d = s.d2d := rfl
@[simp] theorem State.addp_fresh (s : State) (p : Nat) (f : Fld) (i v : Nat) : (s.addp p f i v).fresh = s.fresh := rfl
@[simp] theorem State.addp_outbox (s : State) (p : Nat) (f : Fld) (i v : Nat) : (s.addp p f i v).outbox = s.outbox := rfl
@[simp] theorem State.addp_pending (s : State) (p : Nat) (f : Fld) (i v : Nat) : (s.addp p f i v).pending = s.pending := rfl

@[simp] theorem State.satp_pins (s : State) (p : Nat) (f : Fld) (i : Nat) : (s.satp p f i).pins = s.pins := rfl
@[simp] theorem State.satp_time (s : State) (p : Nat) (f : Fld) (i : Nat) : (s.satp p f i).time = s.time := rfl
@[simp] theorem State.satp_spine (s : State) (p : Nat) (f : Fld) (i : Nat) : (s.satp p f i).spine = s.spine := rfl
@[simp] theorem State.satp_pair (s : State) (p : Nat) (f : Fld) (i : Nat) : (s.satp p f i).pair = s.pair := rfl
@[simp] theorem State.satp_cairn (s : State) (p : Nat) (f : Fld) (i : Nat) : (s.satp p f i).cairn = s.cairn := rfl
@[simp] theorem State.satp_banks (s : State) (p : Nat) (f : Fld) (i : Nat) : (s.satp p f i).banks = s.banks := rfl
@[simp] theorem State.satp_path (s : State) (p : Nat) (f : Fld) (i : Nat) : (s.satp p f i).path = s.path := rfl
@[simp] theorem State.satp_exm (s : State) (p : Nat) (f : Fld) (i : Nat) : (s.satp p f i).exm = s.exm := rfl
@[simp] theorem State.satp_learn (s : State) (p : Nat) (f : Fld) (i : Nat) : (s.satp p f i).learn = s.learn := rfl
@[simp] theorem State.satp_tab (s : State) (p : Nat) (f : Fld) (i : Nat) : (s.satp p f i).tab = s.tab := rfl
@[simp] theorem State.satp_buf (s : State) (p : Nat) (f : Fld) (i : Nat) : (s.satp p f i).buf = s.buf := rfl
@[simp] theorem State.satp_q (s : State) (p : Nat) (f : Fld) (i : Nat) : (s.satp p f i).q = s.q := rfl
@[simp] theorem State.satp_sched (s : State) (p : Nat) (f : Fld) (i : Nat) : (s.satp p f i).sched = s.sched := rfl
@[simp] theorem State.satp_gates (s : State) (p : Nat) (f : Fld) (i : Nat) : (s.satp p f i).gates = s.gates := rfl
@[simp] theorem State.satp_lat (s : State) (p : Nat) (f : Fld) (i : Nat) : (s.satp p f i).lat = s.lat := rfl
@[simp] theorem State.satp_fab (s : State) (p : Nat) (f : Fld) (i : Nat) : (s.satp p f i).fab = s.fab := rfl
@[simp] theorem State.satp_hbm (s : State) (p : Nat) (f : Fld) (i : Nat) : (s.satp p f i).hbm = s.hbm := rfl
@[simp] theorem State.satp_host (s : State) (p : Nat) (f : Fld) (i : Nat) : (s.satp p f i).host = s.host := rfl
@[simp] theorem State.satp_icu (s : State) (p : Nat) (f : Fld) (i : Nat) : (s.satp p f i).icu = s.icu := rfl
@[simp] theorem State.satp_mgt (s : State) (p : Nat) (f : Fld) (i : Nat) : (s.satp p f i).mgt = s.mgt := rfl
@[simp] theorem State.satp_boot (s : State) (p : Nat) (f : Fld) (i : Nat) : (s.satp p f i).boot = s.boot := rfl
@[simp] theorem State.satp_sec (s : State) (p : Nat) (f : Fld) (i : Nat) : (s.satp p f i).sec = s.sec := rfl
@[simp] theorem State.satp_pwr (s : State) (p : Nat) (f : Fld) (i : Nat) : (s.satp p f i).pwr = s.pwr := rfl
@[simp] theorem State.satp_pmu (s : State) (p : Nat) (f : Fld) (i : Nat) : (s.satp p f i).pmu = s.pmu := rfl
@[simp] theorem State.satp_tdm (s : State) (p : Nat) (f : Fld) (i : Nat) : (s.satp p f i).tdm = s.tdm := rfl
@[simp] theorem State.satp_shd (s : State) (p : Nat) (f : Fld) (i : Nat) : (s.satp p f i).shd = s.shd := rfl
@[simp] theorem State.satp_rst (s : State) (p : Nat) (f : Fld) (i : Nat) : (s.satp p f i).rst = s.rst := rfl
@[simp] theorem State.satp_tap (s : State) (p : Nat) (f : Fld) (i : Nat) : (s.satp p f i).tap = s.tap := rfl
@[simp] theorem State.satp_d2d (s : State) (p : Nat) (f : Fld) (i : Nat) : (s.satp p f i).d2d = s.d2d := rfl
@[simp] theorem State.satp_fresh (s : State) (p : Nat) (f : Fld) (i : Nat) : (s.satp p f i).fresh = s.fresh := rfl
@[simp] theorem State.satp_outbox (s : State) (p : Nat) (f : Fld) (i : Nat) : (s.satp p f i).outbox = s.outbox := rfl
@[simp] theorem State.satp_pending (s : State) (p : Nat) (f : Fld) (i : Nat) : (s.satp p f i).pending = s.pending := rfl

@[simp] theorem State.wrStg_pins (s : State) (p : Nat) (f : Fld) (i v : Nat) : (s.wrStg p f i v).pins = s.pins := rfl
@[simp] theorem State.wrStg_time (s : State) (p : Nat) (f : Fld) (i v : Nat) : (s.wrStg p f i v).time = s.time := rfl
@[simp] theorem State.wrStg_spine (s : State) (p : Nat) (f : Fld) (i v : Nat) : (s.wrStg p f i v).spine = s.spine := rfl
@[simp] theorem State.wrStg_pair (s : State) (p : Nat) (f : Fld) (i v : Nat) : (s.wrStg p f i v).pair = s.pair := rfl
@[simp] theorem State.wrStg_cairn (s : State) (p : Nat) (f : Fld) (i v : Nat) : (s.wrStg p f i v).cairn = s.cairn := rfl
@[simp] theorem State.wrStg_banks (s : State) (p : Nat) (f : Fld) (i v : Nat) : (s.wrStg p f i v).banks = s.banks := rfl
@[simp] theorem State.wrStg_path (s : State) (p : Nat) (f : Fld) (i v : Nat) : (s.wrStg p f i v).path = s.path := rfl
@[simp] theorem State.wrStg_exm (s : State) (p : Nat) (f : Fld) (i v : Nat) : (s.wrStg p f i v).exm = s.exm := rfl
@[simp] theorem State.wrStg_learn (s : State) (p : Nat) (f : Fld) (i v : Nat) : (s.wrStg p f i v).learn = s.learn := rfl
@[simp] theorem State.wrStg_tab (s : State) (p : Nat) (f : Fld) (i v : Nat) : (s.wrStg p f i v).tab = s.tab := rfl
@[simp] theorem State.wrStg_buf (s : State) (p : Nat) (f : Fld) (i v : Nat) : (s.wrStg p f i v).buf = s.buf := rfl
@[simp] theorem State.wrStg_q (s : State) (p : Nat) (f : Fld) (i v : Nat) : (s.wrStg p f i v).q = s.q := rfl
@[simp] theorem State.wrStg_sched (s : State) (p : Nat) (f : Fld) (i v : Nat) : (s.wrStg p f i v).sched = s.sched := rfl
@[simp] theorem State.wrStg_gates (s : State) (p : Nat) (f : Fld) (i v : Nat) : (s.wrStg p f i v).gates = s.gates := rfl
@[simp] theorem State.wrStg_lat (s : State) (p : Nat) (f : Fld) (i v : Nat) : (s.wrStg p f i v).lat = s.lat := rfl
@[simp] theorem State.wrStg_fab (s : State) (p : Nat) (f : Fld) (i v : Nat) : (s.wrStg p f i v).fab = s.fab := rfl
@[simp] theorem State.wrStg_hbm (s : State) (p : Nat) (f : Fld) (i v : Nat) : (s.wrStg p f i v).hbm = s.hbm := rfl
@[simp] theorem State.wrStg_host (s : State) (p : Nat) (f : Fld) (i v : Nat) : (s.wrStg p f i v).host = s.host := rfl
@[simp] theorem State.wrStg_icu (s : State) (p : Nat) (f : Fld) (i v : Nat) : (s.wrStg p f i v).icu = s.icu := rfl
@[simp] theorem State.wrStg_mgt (s : State) (p : Nat) (f : Fld) (i v : Nat) : (s.wrStg p f i v).mgt = s.mgt := rfl
@[simp] theorem State.wrStg_boot (s : State) (p : Nat) (f : Fld) (i v : Nat) : (s.wrStg p f i v).boot = s.boot := rfl
@[simp] theorem State.wrStg_sec (s : State) (p : Nat) (f : Fld) (i v : Nat) : (s.wrStg p f i v).sec = s.sec := rfl
@[simp] theorem State.wrStg_pwr (s : State) (p : Nat) (f : Fld) (i v : Nat) : (s.wrStg p f i v).pwr = s.pwr := rfl
@[simp] theorem State.wrStg_pmu (s : State) (p : Nat) (f : Fld) (i v : Nat) : (s.wrStg p f i v).pmu = s.pmu := rfl
@[simp] theorem State.wrStg_tdm (s : State) (p : Nat) (f : Fld) (i v : Nat) : (s.wrStg p f i v).tdm = s.tdm := rfl
@[simp] theorem State.wrStg_shd (s : State) (p : Nat) (f : Fld) (i v : Nat) : (s.wrStg p f i v).shd = s.shd := rfl
@[simp] theorem State.wrStg_rst (s : State) (p : Nat) (f : Fld) (i v : Nat) : (s.wrStg p f i v).rst = s.rst := rfl
@[simp] theorem State.wrStg_tap (s : State) (p : Nat) (f : Fld) (i v : Nat) : (s.wrStg p f i v).tap = s.tap := rfl
@[simp] theorem State.wrStg_d2d (s : State) (p : Nat) (f : Fld) (i v : Nat) : (s.wrStg p f i v).d2d = s.d2d := rfl
@[simp] theorem State.wrStg_fresh (s : State) (p : Nat) (f : Fld) (i v : Nat) : (s.wrStg p f i v).fresh = s.fresh := rfl
@[simp] theorem State.wrStg_outbox (s : State) (p : Nat) (f : Fld) (i v : Nat) : (s.wrStg p f i v).outbox = s.outbox := rfl
@[simp] theorem State.wrStg_pending (s : State) (p : Nat) (f : Fld) (i v : Nat) : (s.wrStg p f i v).pending = s.pending := rfl

@[simp] theorem State.dropStg_pins (s : State) (p : Nat) (f : Fld) (i : Nat) : (s.dropStg p f i).pins = s.pins := rfl
@[simp] theorem State.dropStg_time (s : State) (p : Nat) (f : Fld) (i : Nat) : (s.dropStg p f i).time = s.time := rfl
@[simp] theorem State.dropStg_spine (s : State) (p : Nat) (f : Fld) (i : Nat) : (s.dropStg p f i).spine = s.spine := rfl
@[simp] theorem State.dropStg_pair (s : State) (p : Nat) (f : Fld) (i : Nat) : (s.dropStg p f i).pair = s.pair := rfl
@[simp] theorem State.dropStg_cairn (s : State) (p : Nat) (f : Fld) (i : Nat) : (s.dropStg p f i).cairn = s.cairn := rfl
@[simp] theorem State.dropStg_banks (s : State) (p : Nat) (f : Fld) (i : Nat) : (s.dropStg p f i).banks = s.banks := rfl
@[simp] theorem State.dropStg_path (s : State) (p : Nat) (f : Fld) (i : Nat) : (s.dropStg p f i).path = s.path := rfl
@[simp] theorem State.dropStg_exm (s : State) (p : Nat) (f : Fld) (i : Nat) : (s.dropStg p f i).exm = s.exm := rfl
@[simp] theorem State.dropStg_learn (s : State) (p : Nat) (f : Fld) (i : Nat) : (s.dropStg p f i).learn = s.learn := rfl
@[simp] theorem State.dropStg_tab (s : State) (p : Nat) (f : Fld) (i : Nat) : (s.dropStg p f i).tab = s.tab := rfl
@[simp] theorem State.dropStg_buf (s : State) (p : Nat) (f : Fld) (i : Nat) : (s.dropStg p f i).buf = s.buf := rfl
@[simp] theorem State.dropStg_q (s : State) (p : Nat) (f : Fld) (i : Nat) : (s.dropStg p f i).q = s.q := rfl
@[simp] theorem State.dropStg_sched (s : State) (p : Nat) (f : Fld) (i : Nat) : (s.dropStg p f i).sched = s.sched := rfl
@[simp] theorem State.dropStg_gates (s : State) (p : Nat) (f : Fld) (i : Nat) : (s.dropStg p f i).gates = s.gates := rfl
@[simp] theorem State.dropStg_lat (s : State) (p : Nat) (f : Fld) (i : Nat) : (s.dropStg p f i).lat = s.lat := rfl
@[simp] theorem State.dropStg_fab (s : State) (p : Nat) (f : Fld) (i : Nat) : (s.dropStg p f i).fab = s.fab := rfl
@[simp] theorem State.dropStg_hbm (s : State) (p : Nat) (f : Fld) (i : Nat) : (s.dropStg p f i).hbm = s.hbm := rfl
@[simp] theorem State.dropStg_host (s : State) (p : Nat) (f : Fld) (i : Nat) : (s.dropStg p f i).host = s.host := rfl
@[simp] theorem State.dropStg_icu (s : State) (p : Nat) (f : Fld) (i : Nat) : (s.dropStg p f i).icu = s.icu := rfl
@[simp] theorem State.dropStg_mgt (s : State) (p : Nat) (f : Fld) (i : Nat) : (s.dropStg p f i).mgt = s.mgt := rfl
@[simp] theorem State.dropStg_boot (s : State) (p : Nat) (f : Fld) (i : Nat) : (s.dropStg p f i).boot = s.boot := rfl
@[simp] theorem State.dropStg_sec (s : State) (p : Nat) (f : Fld) (i : Nat) : (s.dropStg p f i).sec = s.sec := rfl
@[simp] theorem State.dropStg_pwr (s : State) (p : Nat) (f : Fld) (i : Nat) : (s.dropStg p f i).pwr = s.pwr := rfl
@[simp] theorem State.dropStg_pmu (s : State) (p : Nat) (f : Fld) (i : Nat) : (s.dropStg p f i).pmu = s.pmu := rfl
@[simp] theorem State.dropStg_tdm (s : State) (p : Nat) (f : Fld) (i : Nat) : (s.dropStg p f i).tdm = s.tdm := rfl
@[simp] theorem State.dropStg_shd (s : State) (p : Nat) (f : Fld) (i : Nat) : (s.dropStg p f i).shd = s.shd := rfl
@[simp] theorem State.dropStg_rst (s : State) (p : Nat) (f : Fld) (i : Nat) : (s.dropStg p f i).rst = s.rst := rfl
@[simp] theorem State.dropStg_tap (s : State) (p : Nat) (f : Fld) (i : Nat) : (s.dropStg p f i).tap = s.tap := rfl
@[simp] theorem State.dropStg_d2d (s : State) (p : Nat) (f : Fld) (i : Nat) : (s.dropStg p f i).d2d = s.d2d := rfl
@[simp] theorem State.dropStg_fresh (s : State) (p : Nat) (f : Fld) (i : Nat) : (s.dropStg p f i).fresh = s.fresh := rfl
@[simp] theorem State.dropStg_outbox (s : State) (p : Nat) (f : Fld) (i : Nat) : (s.dropStg p f i).outbox = s.outbox := rfl
@[simp] theorem State.dropStg_pending (s : State) (p : Nat) (f : Fld) (i : Nat) : (s.dropStg p f i).pending = s.pending := rfl

@[simp] theorem State.evt_pins (s : State) (p k : Nat) : (s.evt p k).pins = s.pins := rfl
@[simp] theorem State.evt_time (s : State) (p k : Nat) : (s.evt p k).time = s.time := rfl
@[simp] theorem State.evt_spine (s : State) (p k : Nat) : (s.evt p k).spine = s.spine := rfl
@[simp] theorem State.evt_pair (s : State) (p k : Nat) : (s.evt p k).pair = s.pair := rfl
@[simp] theorem State.evt_cairn (s : State) (p k : Nat) : (s.evt p k).cairn = s.cairn := rfl
@[simp] theorem State.evt_banks (s : State) (p k : Nat) : (s.evt p k).banks = s.banks := rfl
@[simp] theorem State.evt_path (s : State) (p k : Nat) : (s.evt p k).path = s.path := rfl
@[simp] theorem State.evt_exm (s : State) (p k : Nat) : (s.evt p k).exm = s.exm := rfl
@[simp] theorem State.evt_learn (s : State) (p k : Nat) : (s.evt p k).learn = s.learn := rfl
@[simp] theorem State.evt_tab (s : State) (p k : Nat) : (s.evt p k).tab = s.tab := rfl
@[simp] theorem State.evt_buf (s : State) (p k : Nat) : (s.evt p k).buf = s.buf := rfl
@[simp] theorem State.evt_q (s : State) (p k : Nat) : (s.evt p k).q = s.q := rfl
@[simp] theorem State.evt_sched (s : State) (p k : Nat) : (s.evt p k).sched = s.sched := rfl
@[simp] theorem State.evt_gates (s : State) (p k : Nat) : (s.evt p k).gates = s.gates := rfl
@[simp] theorem State.evt_lat (s : State) (p k : Nat) : (s.evt p k).lat = s.lat := rfl
@[simp] theorem State.evt_fab (s : State) (p k : Nat) : (s.evt p k).fab = s.fab := rfl
@[simp] theorem State.evt_hbm (s : State) (p k : Nat) : (s.evt p k).hbm = s.hbm := rfl
@[simp] theorem State.evt_host (s : State) (p k : Nat) : (s.evt p k).host = s.host := rfl
@[simp] theorem State.evt_icu (s : State) (p k : Nat) : (s.evt p k).icu = s.icu := rfl
@[simp] theorem State.evt_mgt (s : State) (p k : Nat) : (s.evt p k).mgt = s.mgt := rfl
@[simp] theorem State.evt_boot (s : State) (p k : Nat) : (s.evt p k).boot = s.boot := rfl
@[simp] theorem State.evt_sec (s : State) (p k : Nat) : (s.evt p k).sec = s.sec := rfl
@[simp] theorem State.evt_pwr (s : State) (p k : Nat) : (s.evt p k).pwr = s.pwr := rfl
@[simp] theorem State.evt_pmu (s : State) (p k : Nat) : (s.evt p k).pmu = s.pmu := rfl
@[simp] theorem State.evt_tdm (s : State) (p k : Nat) : (s.evt p k).tdm = s.tdm := rfl
@[simp] theorem State.evt_shd (s : State) (p k : Nat) : (s.evt p k).shd = s.shd := rfl
@[simp] theorem State.evt_rst (s : State) (p k : Nat) : (s.evt p k).rst = s.rst := rfl
@[simp] theorem State.evt_tap (s : State) (p k : Nat) : (s.evt p k).tap = s.tap := rfl
@[simp] theorem State.evt_d2d (s : State) (p k : Nat) : (s.evt p k).d2d = s.d2d := rfl
@[simp] theorem State.evt_fresh (s : State) (p k : Nat) : (s.evt p k).fresh = s.fresh := rfl
@[simp] theorem State.evt_outbox (s : State) (p k : Nat) : (s.evt p k).outbox = s.outbox := rfl
@[simp] theorem State.evt_pending (s : State) (p k : Nat) : (s.evt p k).pending = s.pending := rfl

@[simp] theorem State.latchHigh_pins (s : State) (m : Master) (p v : Nat) : (s.latchHigh m p v).pins = s.pins := rfl
@[simp] theorem State.latchHigh_time (s : State) (m : Master) (p v : Nat) : (s.latchHigh m p v).time = s.time := rfl
@[simp] theorem State.latchHigh_spine (s : State) (m : Master) (p v : Nat) : (s.latchHigh m p v).spine = s.spine := rfl
@[simp] theorem State.latchHigh_pair (s : State) (m : Master) (p v : Nat) : (s.latchHigh m p v).pair = s.pair := rfl
@[simp] theorem State.latchHigh_cairn (s : State) (m : Master) (p v : Nat) : (s.latchHigh m p v).cairn = s.cairn := rfl
@[simp] theorem State.latchHigh_banks (s : State) (m : Master) (p v : Nat) : (s.latchHigh m p v).banks = s.banks := rfl
@[simp] theorem State.latchHigh_path (s : State) (m : Master) (p v : Nat) : (s.latchHigh m p v).path = s.path := rfl
@[simp] theorem State.latchHigh_exm (s : State) (m : Master) (p v : Nat) : (s.latchHigh m p v).exm = s.exm := rfl
@[simp] theorem State.latchHigh_learn (s : State) (m : Master) (p v : Nat) : (s.latchHigh m p v).learn = s.learn := rfl
@[simp] theorem State.latchHigh_tab (s : State) (m : Master) (p v : Nat) : (s.latchHigh m p v).tab = s.tab := rfl
@[simp] theorem State.latchHigh_buf (s : State) (m : Master) (p v : Nat) : (s.latchHigh m p v).buf = s.buf := rfl
@[simp] theorem State.latchHigh_q (s : State) (m : Master) (p v : Nat) : (s.latchHigh m p v).q = s.q := rfl
@[simp] theorem State.latchHigh_sched (s : State) (m : Master) (p v : Nat) : (s.latchHigh m p v).sched = s.sched := rfl
@[simp] theorem State.latchHigh_gates (s : State) (m : Master) (p v : Nat) : (s.latchHigh m p v).gates = s.gates := rfl
@[simp] theorem State.latchHigh_lat (s : State) (m : Master) (p v : Nat) : (s.latchHigh m p v).lat = s.lat := rfl
@[simp] theorem State.latchHigh_fab (s : State) (m : Master) (p v : Nat) : (s.latchHigh m p v).fab = s.fab := rfl
@[simp] theorem State.latchHigh_hbm (s : State) (m : Master) (p v : Nat) : (s.latchHigh m p v).hbm = s.hbm := rfl
@[simp] theorem State.latchHigh_host (s : State) (m : Master) (p v : Nat) : (s.latchHigh m p v).host = s.host := rfl
@[simp] theorem State.latchHigh_icu (s : State) (m : Master) (p v : Nat) : (s.latchHigh m p v).icu = s.icu := rfl
@[simp] theorem State.latchHigh_mgt (s : State) (m : Master) (p v : Nat) : (s.latchHigh m p v).mgt = s.mgt := rfl
@[simp] theorem State.latchHigh_boot (s : State) (m : Master) (p v : Nat) : (s.latchHigh m p v).boot = s.boot := rfl
@[simp] theorem State.latchHigh_sec (s : State) (m : Master) (p v : Nat) : (s.latchHigh m p v).sec = s.sec := rfl
@[simp] theorem State.latchHigh_pwr (s : State) (m : Master) (p v : Nat) : (s.latchHigh m p v).pwr = s.pwr := rfl
@[simp] theorem State.latchHigh_pmu (s : State) (m : Master) (p v : Nat) : (s.latchHigh m p v).pmu = s.pmu := rfl
@[simp] theorem State.latchHigh_tdm (s : State) (m : Master) (p v : Nat) : (s.latchHigh m p v).tdm = s.tdm := rfl
@[simp] theorem State.latchHigh_shd (s : State) (m : Master) (p v : Nat) : (s.latchHigh m p v).shd = s.shd := rfl
@[simp] theorem State.latchHigh_rst (s : State) (m : Master) (p v : Nat) : (s.latchHigh m p v).rst = s.rst := rfl
@[simp] theorem State.latchHigh_tap (s : State) (m : Master) (p v : Nat) : (s.latchHigh m p v).tap = s.tap := rfl
@[simp] theorem State.latchHigh_d2d (s : State) (m : Master) (p v : Nat) : (s.latchHigh m p v).d2d = s.d2d := rfl
@[simp] theorem State.latchHigh_fresh (s : State) (m : Master) (p v : Nat) : (s.latchHigh m p v).fresh = s.fresh := rfl
@[simp] theorem State.latchHigh_outbox (s : State) (m : Master) (p v : Nat) : (s.latchHigh m p v).outbox = s.outbox := rfl
@[simp] theorem State.latchHigh_pending (s : State) (m : Master) (p v : Nat) : (s.latchHigh m p v).pending = s.pending := rfl

@[simp] theorem State.keepLow_pins (s : State) (m : Master) (a v : Nat) : (s.keepLow m a v).pins = s.pins := rfl
@[simp] theorem State.keepLow_time (s : State) (m : Master) (a v : Nat) : (s.keepLow m a v).time = s.time := rfl
@[simp] theorem State.keepLow_spine (s : State) (m : Master) (a v : Nat) : (s.keepLow m a v).spine = s.spine := rfl
@[simp] theorem State.keepLow_pair (s : State) (m : Master) (a v : Nat) : (s.keepLow m a v).pair = s.pair := rfl
@[simp] theorem State.keepLow_cairn (s : State) (m : Master) (a v : Nat) : (s.keepLow m a v).cairn = s.cairn := rfl
@[simp] theorem State.keepLow_banks (s : State) (m : Master) (a v : Nat) : (s.keepLow m a v).banks = s.banks := rfl
@[simp] theorem State.keepLow_path (s : State) (m : Master) (a v : Nat) : (s.keepLow m a v).path = s.path := rfl
@[simp] theorem State.keepLow_exm (s : State) (m : Master) (a v : Nat) : (s.keepLow m a v).exm = s.exm := rfl
@[simp] theorem State.keepLow_learn (s : State) (m : Master) (a v : Nat) : (s.keepLow m a v).learn = s.learn := rfl
@[simp] theorem State.keepLow_tab (s : State) (m : Master) (a v : Nat) : (s.keepLow m a v).tab = s.tab := rfl
@[simp] theorem State.keepLow_buf (s : State) (m : Master) (a v : Nat) : (s.keepLow m a v).buf = s.buf := rfl
@[simp] theorem State.keepLow_q (s : State) (m : Master) (a v : Nat) : (s.keepLow m a v).q = s.q := rfl
@[simp] theorem State.keepLow_sched (s : State) (m : Master) (a v : Nat) : (s.keepLow m a v).sched = s.sched := rfl
@[simp] theorem State.keepLow_gates (s : State) (m : Master) (a v : Nat) : (s.keepLow m a v).gates = s.gates := rfl
@[simp] theorem State.keepLow_lat (s : State) (m : Master) (a v : Nat) : (s.keepLow m a v).lat = s.lat := rfl
@[simp] theorem State.keepLow_fab (s : State) (m : Master) (a v : Nat) : (s.keepLow m a v).fab = s.fab := rfl
@[simp] theorem State.keepLow_hbm (s : State) (m : Master) (a v : Nat) : (s.keepLow m a v).hbm = s.hbm := rfl
@[simp] theorem State.keepLow_host (s : State) (m : Master) (a v : Nat) : (s.keepLow m a v).host = s.host := rfl
@[simp] theorem State.keepLow_icu (s : State) (m : Master) (a v : Nat) : (s.keepLow m a v).icu = s.icu := rfl
@[simp] theorem State.keepLow_mgt (s : State) (m : Master) (a v : Nat) : (s.keepLow m a v).mgt = s.mgt := rfl
@[simp] theorem State.keepLow_boot (s : State) (m : Master) (a v : Nat) : (s.keepLow m a v).boot = s.boot := rfl
@[simp] theorem State.keepLow_sec (s : State) (m : Master) (a v : Nat) : (s.keepLow m a v).sec = s.sec := rfl
@[simp] theorem State.keepLow_pwr (s : State) (m : Master) (a v : Nat) : (s.keepLow m a v).pwr = s.pwr := rfl
@[simp] theorem State.keepLow_pmu (s : State) (m : Master) (a v : Nat) : (s.keepLow m a v).pmu = s.pmu := rfl
@[simp] theorem State.keepLow_tdm (s : State) (m : Master) (a v : Nat) : (s.keepLow m a v).tdm = s.tdm := rfl
@[simp] theorem State.keepLow_shd (s : State) (m : Master) (a v : Nat) : (s.keepLow m a v).shd = s.shd := rfl
@[simp] theorem State.keepLow_rst (s : State) (m : Master) (a v : Nat) : (s.keepLow m a v).rst = s.rst := rfl
@[simp] theorem State.keepLow_tap (s : State) (m : Master) (a v : Nat) : (s.keepLow m a v).tap = s.tap := rfl
@[simp] theorem State.keepLow_d2d (s : State) (m : Master) (a v : Nat) : (s.keepLow m a v).d2d = s.d2d := rfl
@[simp] theorem State.keepLow_fresh (s : State) (m : Master) (a v : Nat) : (s.keepLow m a v).fresh = s.fresh := rfl
@[simp] theorem State.keepLow_outbox (s : State) (m : Master) (a v : Nat) : (s.keepLow m a v).outbox = s.outbox := rfl
@[simp] theorem State.keepLow_pending (s : State) (m : Master) (a v : Nat) : (s.keepLow m a v).pending = s.pending := rfl

@[simp] theorem State.emit_regs (s : State) (e : Emit) : (s.emit e).regs = s.regs := rfl
@[simp] theorem State.emit_pins (s : State) (e : Emit) : (s.emit e).pins = s.pins := rfl
@[simp] theorem State.emit_time (s : State) (e : Emit) : (s.emit e).time = s.time := rfl
@[simp] theorem State.emit_spine (s : State) (e : Emit) : (s.emit e).spine = s.spine := rfl
@[simp] theorem State.emit_pair (s : State) (e : Emit) : (s.emit e).pair = s.pair := rfl
@[simp] theorem State.emit_cairn (s : State) (e : Emit) : (s.emit e).cairn = s.cairn := rfl
@[simp] theorem State.emit_banks (s : State) (e : Emit) : (s.emit e).banks = s.banks := rfl
@[simp] theorem State.emit_path (s : State) (e : Emit) : (s.emit e).path = s.path := rfl
@[simp] theorem State.emit_exm (s : State) (e : Emit) : (s.emit e).exm = s.exm := rfl
@[simp] theorem State.emit_learn (s : State) (e : Emit) : (s.emit e).learn = s.learn := rfl
@[simp] theorem State.emit_tab (s : State) (e : Emit) : (s.emit e).tab = s.tab := rfl
@[simp] theorem State.emit_buf (s : State) (e : Emit) : (s.emit e).buf = s.buf := rfl
@[simp] theorem State.emit_q (s : State) (e : Emit) : (s.emit e).q = s.q := rfl
@[simp] theorem State.emit_sched (s : State) (e : Emit) : (s.emit e).sched = s.sched := rfl
@[simp] theorem State.emit_gates (s : State) (e : Emit) : (s.emit e).gates = s.gates := rfl
@[simp] theorem State.emit_lat (s : State) (e : Emit) : (s.emit e).lat = s.lat := rfl
@[simp] theorem State.emit_fab (s : State) (e : Emit) : (s.emit e).fab = s.fab := rfl
@[simp] theorem State.emit_hbm (s : State) (e : Emit) : (s.emit e).hbm = s.hbm := rfl
@[simp] theorem State.emit_host (s : State) (e : Emit) : (s.emit e).host = s.host := rfl
@[simp] theorem State.emit_icu (s : State) (e : Emit) : (s.emit e).icu = s.icu := rfl
@[simp] theorem State.emit_mgt (s : State) (e : Emit) : (s.emit e).mgt = s.mgt := rfl
@[simp] theorem State.emit_boot (s : State) (e : Emit) : (s.emit e).boot = s.boot := rfl
@[simp] theorem State.emit_sec (s : State) (e : Emit) : (s.emit e).sec = s.sec := rfl
@[simp] theorem State.emit_pwr (s : State) (e : Emit) : (s.emit e).pwr = s.pwr := rfl
@[simp] theorem State.emit_pmu (s : State) (e : Emit) : (s.emit e).pmu = s.pmu := rfl
@[simp] theorem State.emit_tdm (s : State) (e : Emit) : (s.emit e).tdm = s.tdm := rfl
@[simp] theorem State.emit_shd (s : State) (e : Emit) : (s.emit e).shd = s.shd := rfl
@[simp] theorem State.emit_rst (s : State) (e : Emit) : (s.emit e).rst = s.rst := rfl
@[simp] theorem State.emit_tap (s : State) (e : Emit) : (s.emit e).tap = s.tap := rfl
@[simp] theorem State.emit_d2d (s : State) (e : Emit) : (s.emit e).d2d = s.d2d := rfl
@[simp] theorem State.emit_fresh (s : State) (e : Emit) : (s.emit e).fresh = s.fresh := rfl
@[simp] theorem State.emit_pending (s : State) (e : Emit) : (s.emit e).pending = s.pending := rfl

@[simp] theorem State.draw_regs (s : State) : (s.draw).regs = s.regs := rfl
@[simp] theorem State.draw_pins (s : State) : (s.draw).pins = s.pins := rfl
@[simp] theorem State.draw_time (s : State) : (s.draw).time = s.time := rfl
@[simp] theorem State.draw_spine (s : State) : (s.draw).spine = s.spine := rfl
@[simp] theorem State.draw_pair (s : State) : (s.draw).pair = s.pair := rfl
@[simp] theorem State.draw_cairn (s : State) : (s.draw).cairn = s.cairn := rfl
@[simp] theorem State.draw_banks (s : State) : (s.draw).banks = s.banks := rfl
@[simp] theorem State.draw_path (s : State) : (s.draw).path = s.path := rfl
@[simp] theorem State.draw_exm (s : State) : (s.draw).exm = s.exm := rfl
@[simp] theorem State.draw_learn (s : State) : (s.draw).learn = s.learn := rfl
@[simp] theorem State.draw_tab (s : State) : (s.draw).tab = s.tab := rfl
@[simp] theorem State.draw_buf (s : State) : (s.draw).buf = s.buf := rfl
@[simp] theorem State.draw_q (s : State) : (s.draw).q = s.q := rfl
@[simp] theorem State.draw_sched (s : State) : (s.draw).sched = s.sched := rfl
@[simp] theorem State.draw_gates (s : State) : (s.draw).gates = s.gates := rfl
@[simp] theorem State.draw_lat (s : State) : (s.draw).lat = s.lat := rfl
@[simp] theorem State.draw_fab (s : State) : (s.draw).fab = s.fab := rfl
@[simp] theorem State.draw_hbm (s : State) : (s.draw).hbm = s.hbm := rfl
@[simp] theorem State.draw_host (s : State) : (s.draw).host = s.host := rfl
@[simp] theorem State.draw_icu (s : State) : (s.draw).icu = s.icu := rfl
@[simp] theorem State.draw_mgt (s : State) : (s.draw).mgt = s.mgt := rfl
@[simp] theorem State.draw_boot (s : State) : (s.draw).boot = s.boot := rfl
@[simp] theorem State.draw_sec (s : State) : (s.draw).sec = s.sec := rfl
@[simp] theorem State.draw_pwr (s : State) : (s.draw).pwr = s.pwr := rfl
@[simp] theorem State.draw_pmu (s : State) : (s.draw).pmu = s.pmu := rfl
@[simp] theorem State.draw_tdm (s : State) : (s.draw).tdm = s.tdm := rfl
@[simp] theorem State.draw_shd (s : State) : (s.draw).shd = s.shd := rfl
@[simp] theorem State.draw_rst (s : State) : (s.draw).rst = s.rst := rfl
@[simp] theorem State.draw_tap (s : State) : (s.draw).tap = s.tap := rfl
@[simp] theorem State.draw_d2d (s : State) : (s.draw).d2d = s.d2d := rfl
@[simp] theorem State.draw_outbox (s : State) : (s.draw).outbox = s.outbox := rfl
@[simp] theorem State.draw_pending (s : State) : (s.draw).pending = s.pending := rfl

@[simp] theorem State.pmuAdd_regs (s : State) (n a : Nat) : (s.pmuAdd n a).regs = s.regs := rfl
@[simp] theorem State.pmuAdd_pins (s : State) (n a : Nat) : (s.pmuAdd n a).pins = s.pins := rfl
@[simp] theorem State.pmuAdd_time (s : State) (n a : Nat) : (s.pmuAdd n a).time = s.time := rfl
@[simp] theorem State.pmuAdd_spine (s : State) (n a : Nat) : (s.pmuAdd n a).spine = s.spine := rfl
@[simp] theorem State.pmuAdd_pair (s : State) (n a : Nat) : (s.pmuAdd n a).pair = s.pair := rfl
@[simp] theorem State.pmuAdd_cairn (s : State) (n a : Nat) : (s.pmuAdd n a).cairn = s.cairn := rfl
@[simp] theorem State.pmuAdd_banks (s : State) (n a : Nat) : (s.pmuAdd n a).banks = s.banks := rfl
@[simp] theorem State.pmuAdd_path (s : State) (n a : Nat) : (s.pmuAdd n a).path = s.path := rfl
@[simp] theorem State.pmuAdd_exm (s : State) (n a : Nat) : (s.pmuAdd n a).exm = s.exm := rfl
@[simp] theorem State.pmuAdd_learn (s : State) (n a : Nat) : (s.pmuAdd n a).learn = s.learn := rfl
@[simp] theorem State.pmuAdd_tab (s : State) (n a : Nat) : (s.pmuAdd n a).tab = s.tab := rfl
@[simp] theorem State.pmuAdd_buf (s : State) (n a : Nat) : (s.pmuAdd n a).buf = s.buf := rfl
@[simp] theorem State.pmuAdd_q (s : State) (n a : Nat) : (s.pmuAdd n a).q = s.q := rfl
@[simp] theorem State.pmuAdd_sched (s : State) (n a : Nat) : (s.pmuAdd n a).sched = s.sched := rfl
@[simp] theorem State.pmuAdd_gates (s : State) (n a : Nat) : (s.pmuAdd n a).gates = s.gates := rfl
@[simp] theorem State.pmuAdd_lat (s : State) (n a : Nat) : (s.pmuAdd n a).lat = s.lat := rfl
@[simp] theorem State.pmuAdd_fab (s : State) (n a : Nat) : (s.pmuAdd n a).fab = s.fab := rfl
@[simp] theorem State.pmuAdd_hbm (s : State) (n a : Nat) : (s.pmuAdd n a).hbm = s.hbm := rfl
@[simp] theorem State.pmuAdd_host (s : State) (n a : Nat) : (s.pmuAdd n a).host = s.host := rfl
@[simp] theorem State.pmuAdd_icu (s : State) (n a : Nat) : (s.pmuAdd n a).icu = s.icu := rfl
@[simp] theorem State.pmuAdd_mgt (s : State) (n a : Nat) : (s.pmuAdd n a).mgt = s.mgt := rfl
@[simp] theorem State.pmuAdd_boot (s : State) (n a : Nat) : (s.pmuAdd n a).boot = s.boot := rfl
@[simp] theorem State.pmuAdd_sec (s : State) (n a : Nat) : (s.pmuAdd n a).sec = s.sec := rfl
@[simp] theorem State.pmuAdd_pwr (s : State) (n a : Nat) : (s.pmuAdd n a).pwr = s.pwr := rfl
@[simp] theorem State.pmuAdd_tdm (s : State) (n a : Nat) : (s.pmuAdd n a).tdm = s.tdm := rfl
@[simp] theorem State.pmuAdd_shd (s : State) (n a : Nat) : (s.pmuAdd n a).shd = s.shd := rfl
@[simp] theorem State.pmuAdd_rst (s : State) (n a : Nat) : (s.pmuAdd n a).rst = s.rst := rfl
@[simp] theorem State.pmuAdd_tap (s : State) (n a : Nat) : (s.pmuAdd n a).tap = s.tap := rfl
@[simp] theorem State.pmuAdd_d2d (s : State) (n a : Nat) : (s.pmuAdd n a).d2d = s.d2d := rfl
@[simp] theorem State.pmuAdd_fresh (s : State) (n a : Nat) : (s.pmuAdd n a).fresh = s.fresh := rfl
@[simp] theorem State.pmuAdd_outbox (s : State) (n a : Nat) : (s.pmuAdd n a).outbox = s.outbox := rfl
@[simp] theorem State.pmuAdd_pending (s : State) (n a : Nat) : (s.pmuAdd n a).pending = s.pending := rfl

@[simp] theorem State.emit_outbox (s : State) (e : Emit) : (s.emit e).outbox = s.outbox ++ [e] := rfl
@[simp] theorem State.draw_fresh (s : State) : s.draw.fresh = s.fresh + 1 := rfl

end Sys2Proof.Machine
end

