-- ==== Sys2Proof/Laws/Registers.lean ====
section
/-! SUPPORT. Laws of the register file: what a field reads after a write of it or of another. -/
namespace Sys2Proof.Machine

@[simp] theorem State.rdp_wrp_same (s : State) (p : Nat) (f : Fld) (i v : Nat) :
    (s.wrp p f i v).rdp p f i = v % 2 ^ f.width := by
  simp [State.rdp, State.wrp]

theorem State.rdp_wrp_ne {s : State} {p q : Nat} {f g : Fld} {i j v : Nat} (h : fkey p f i ≠ fkey q g j) :
    (s.wrp p f i v).rdp q g j = s.rdp q g j := by
  simp [State.rdp, State.wrp, SMap.get_set_ne h]

theorem State.rdp_congr {s t : State} {p : Nat} {f : Fld} {i : Nat}
    (h : t.regs.active.lookup (fkey p f i) = s.regs.active.lookup (fkey p f i)) : t.rdp p f i = s.rdp p f i := by
  simp [State.rdp, SMap.get, h]

theorem State.rdp_of_regs {s t : State} (h : t.regs.active = s.regs.active) (p : Nat) (f : Fld) (i : Nat) :
    t.rdp p f i = s.rdp p f i := by
  simp [State.rdp, h]

@[simp] theorem State.rd_wr_same (s : State) (f : Fld) (v : Nat) : (s.wr f v).rd f = v % 2 ^ f.width :=
  State.rdp_wrp_same s f.pg f 0 v

theorem State.rd_wr_ne {s : State} {f g : Fld} {v : Nat} (h : fkey f.pg f 0 ≠ fkey g.pg g 0) :
    (s.wr f v).rd g = s.rd g :=
  State.rdp_wrp_ne h

theorem State.rdp_wr_ne {s : State} {f g : Fld} {q j v : Nat} (h : fkey f.pg f 0 ≠ fkey q g j) :
    (s.wr f v).rdp q g j = s.rdp q g j :=
  State.rdp_wrp_ne h

theorem State.rd_wrp_ne {s : State} {p i : Nat} {f g : Fld} {v : Nat} (h : fkey p f i ≠ fkey g.pg g 0) :
    (s.wrp p f i v).rd g = s.rd g :=
  State.rdp_wrp_ne h

theorem State.rdi_wr_ne {s : State} {f g : Fld} {j v : Nat} (h : fkey f.pg f 0 ≠ fkey g.pg g j) :
    (s.wr f v).rdi g j = s.rdi g j :=
  State.rdp_wrp_ne h

@[simp] theorem State.rdi_wri_same (s : State) (f : Fld) (i v : Nat) : (s.wri f i v).rdi f i = v % 2 ^ f.width :=
  State.rdp_wrp_same s f.pg f i v

theorem State.rd_wri_ne {s : State} {f g : Fld} {i v : Nat} (h : fkey f.pg f i ≠ fkey g.pg g 0) :
    (s.wri f i v).rd g = s.rd g :=
  State.rdp_wrp_ne h

theorem State.rdi_wri_ne {s : State} {f g : Fld} {i j v : Nat} (h : fkey f.pg f i ≠ fkey g.pg g j) :
    (s.wri f i v).rdi g j = s.rdi g j :=
  State.rdp_wrp_ne h

theorem State.wrp_lookup_ne {s : State} {p k : Nat} {f : Fld} {i v : Nat} (h : fkey p f i ≠ k) :
    (s.wrp p f i v).regs.active.lookup k = s.regs.active.lookup k := by
  simp [State.wrp, SMap.lookup_set_ne h]

@[simp] theorem State.wrp_staged (s : State) (p : Nat) (f : Fld) (i v : Nat) :
    (s.wrp p f i v).regs.staged = s.regs.staged := rfl
@[simp] theorem State.wrp_rdLatch (s : State) (p : Nat) (f : Fld) (i v : Nat) :
    (s.wrp p f i v).regs.rdLatch = s.regs.rdLatch := rfl
@[simp] theorem State.wrp_wrLow (s : State) (p : Nat) (f : Fld) (i v : Nat) :
    (s.wrp p f i v).regs.wrLow = s.regs.wrLow := rfl

@[simp] theorem State.stgp_wrStg_same (s : State) (p : Nat) (f : Fld) (i v : Nat) :
    (s.wrStg p f i v).stgp p f i = v % 2 ^ f.width := by
  simp [State.stgp, State.wrStg]

@[simp] theorem State.rdp_wrStg (s : State) (p : Nat) (f : Fld) (i v q : Nat) (g : Fld) (j : Nat) :
    (s.wrStg p f i v).rdp q g j = s.rdp q g j := rfl

/-- The key of a field that lies inside its dword tells its page, offset and low bit. -/
theorem fkey_eq {p : Nat} {f : Fld} {i : Nat} (h : f.lo < 64) : fkey p f i / 64 = p * 4096 + f.off + f.stride * i := by
  unfold fkey; omega

/-- Fields at different low bits have different keys. -/
theorem fkey_ne_lo {p q i j : Nat} {f g : Fld} (h : f.lo % 64 ≠ g.lo % 64) : fkey p f i ≠ fkey q g j := by
  unfold fkey; omega

/-- Fields at different dword offsets of one page have different keys. -/
theorem fkey_ne_off {p i j : Nat} {f g : Fld} (hf : f.lo < 64) (hg : g.lo < 64) (h : f.off + f.stride * i ≠ g.off + g.stride * j) :
    fkey p f i ≠ fkey p g j := by
  unfold fkey; omega

theorem bits_lt (n hi lo : Nat) : bits n hi lo < 2 ^ (hi - lo + 1) := Nat.mod_lt _ (Nat.two_pow_pos _)

end Sys2Proof.Machine
end

