-- ==== Sys2Proof/Laws/Counting.lean ====
section
/-! SUPPORT. Laws of counting: what trouble counters, event records, PMU counters and statistics change, and that the
plain updates respect `State.CountsTo`. -/
namespace Sys2Proof.Machine

variable {s t u : State}

theorem State.CountsTo.refl (s : State) : s.CountsTo s :=
  ⟨fun _ _ => rfl, rfl, rfl, rfl, rfl, rfl, List.Sublist.refl _, Nat.le_refl _, rfl⟩

theorem State.CountsTo.trans (h : s.CountsTo t) (g : t.CountsTo u) : s.CountsTo u := by
  refine ⟨fun k hk => (g.reg k hk).trans (h.reg k hk), g.staged.trans h.staged, g.rdLatch.trans h.rdLatch,
    g.wrLow.trans h.wrLow, ?_, g.direct.trans h.direct, h.out.trans g.out, Nat.le_trans h.fresh g.fresh, ?_⟩
  · rw [g.pmu, h.pmu]
  · rw [g.rest, h.rest]

/-! ## What stays -/

theorem State.CountsTo.pins (h : s.CountsTo t) : t.pins = s.pins := by rw [h.rest]
theorem State.CountsTo.time (h : s.CountsTo t) : t.time = s.time := by rw [h.rest]
theorem State.CountsTo.spine (h : s.CountsTo t) : t.spine = s.spine := by rw [h.rest]
theorem State.CountsTo.pair (h : s.CountsTo t) : t.pair = s.pair := by rw [h.rest]
theorem State.CountsTo.cairn (h : s.CountsTo t) : t.cairn = s.cairn := by rw [h.rest]
theorem State.CountsTo.banks (h : s.CountsTo t) : t.banks = s.banks := by rw [h.rest]
theorem State.CountsTo.path (h : s.CountsTo t) : t.path = s.path := by rw [h.rest]
theorem State.CountsTo.exm (h : s.CountsTo t) : t.exm = s.exm := by rw [h.rest]
theorem State.CountsTo.learn (h : s.CountsTo t) : t.learn = s.learn := by rw [h.rest]
theorem State.CountsTo.tab (h : s.CountsTo t) : t.tab = s.tab := by rw [h.rest]
theorem State.CountsTo.buf (h : s.CountsTo t) : t.buf = s.buf := by rw [h.rest]
theorem State.CountsTo.q (h : s.CountsTo t) : t.q = s.q := by rw [h.rest]
theorem State.CountsTo.sched (h : s.CountsTo t) : t.sched = s.sched := by rw [h.rest]
theorem State.CountsTo.gates (h : s.CountsTo t) : t.gates = s.gates := by rw [h.rest]
theorem State.CountsTo.lat (h : s.CountsTo t) : t.lat = s.lat := by rw [h.rest]
theorem State.CountsTo.fab (h : s.CountsTo t) : t.fab = s.fab := by rw [h.rest]
theorem State.CountsTo.hbm (h : s.CountsTo t) : t.hbm = s.hbm := by rw [h.rest]
theorem State.CountsTo.host (h : s.CountsTo t) : t.host = s.host := by rw [h.rest]
theorem State.CountsTo.icu (h : s.CountsTo t) : t.icu = s.icu := by rw [h.rest]
theorem State.CountsTo.mgt (h : s.CountsTo t) : t.mgt = s.mgt := by rw [h.rest]
theorem State.CountsTo.boot (h : s.CountsTo t) : t.boot = s.boot := by rw [h.rest]
theorem State.CountsTo.sec (h : s.CountsTo t) : t.sec = s.sec := by rw [h.rest]
theorem State.CountsTo.pwr (h : s.CountsTo t) : t.pwr = s.pwr := by rw [h.rest]
theorem State.CountsTo.tdm (h : s.CountsTo t) : t.tdm = s.tdm := by rw [h.rest]
theorem State.CountsTo.shd (h : s.CountsTo t) : t.shd = s.shd := by rw [h.rest]
theorem State.CountsTo.rst (h : s.CountsTo t) : t.rst = s.rst := by rw [h.rest]
theorem State.CountsTo.tap (h : s.CountsTo t) : t.tap = s.tap := by rw [h.rest]
theorem State.CountsTo.d2d (h : s.CountsTo t) : t.d2d = s.d2d := by rw [h.rest]
theorem State.CountsTo.pending (h : s.CountsTo t) : t.pending = s.pending := by rw [h.rest]

theorem State.CountsTo.rdp (h : s.CountsTo t) (p : Nat) (f : Fld) (i : Nat) (hk : isTele (fkey p f i) = false) :
    t.rdp p f i = s.rdp p f i :=
  State.rdp_congr (h.reg _ hk)

theorem State.CountsTo.rd (h : s.CountsTo t) (f : Fld) (hk : isTele (fkey f.pg f 0) = false) : t.rd f = s.rd f :=
  h.rdp f.pg f 0 hk

theorem State.CountsTo.rdi (h : s.CountsTo t) (f : Fld) (i : Nat) (hk : isTele (fkey f.pg f i) = false) :
    t.rdi f i = s.rdi f i :=
  h.rdp f.pg f i hk

theorem State.CountsTo.rdb (h : s.CountsTo t) (f : Fld) (hk : isTele (fkey f.pg f 0) = false) : t.rdb f = s.rdb f := by
  simp [State.rdb, h.rd f hk]

theorem State.CountsTo.stgp (h : s.CountsTo t) (p : Nat) (f : Fld) (i : Nat) (hk : isTele (fkey p f i) = false) :
    t.stgp p f i = s.stgp p f i := by
  simp [State.stgp, h.staged, h.rdp p f i hk]

/-! ## Updates respect it -/

theorem State.CountsTo.set_pins (h : s.CountsTo t) (x : Pins) :
    (show State from { s with pins := x }).CountsTo (show State from { t with pins := x }) := by
  obtain ⟨h1, h2, h3, h4, h5, h6, h7, h8, h9⟩ := h
  exact ⟨h1, h2, h3, h4, h5, h6, h7, h8, by rw [h9]⟩
theorem State.CountsTo.set_time (h : s.CountsTo t) (x : TimeSt) :
    (show State from { s with time := x }).CountsTo (show State from { t with time := x }) := by
  obtain ⟨h1, h2, h3, h4, h5, h6, h7, h8, h9⟩ := h
  exact ⟨h1, h2, h3, h4, h5, h6, h7, h8, by rw [h9]⟩
theorem State.CountsTo.set_spine (h : s.CountsTo t) (x : SpineSt) :
    (show State from { s with spine := x }).CountsTo (show State from { t with spine := x }) := by
  obtain ⟨h1, h2, h3, h4, h5, h6, h7, h8, h9⟩ := h
  exact ⟨h1, h2, h3, h4, h5, h6, h7, h8, by rw [h9]⟩
theorem State.CountsTo.set_pair (h : s.CountsTo t) (x : PairSt) :
    (show State from { s with pair := x }).CountsTo (show State from { t with pair := x }) := by
  obtain ⟨h1, h2, h3, h4, h5, h6, h7, h8, h9⟩ := h
  exact ⟨h1, h2, h3, h4, h5, h6, h7, h8, by rw [h9]⟩
theorem State.CountsTo.set_cairn (h : s.CountsTo t) (x : CairnSt) :
    (show State from { s with cairn := x }).CountsTo (show State from { t with cairn := x }) := by
  obtain ⟨h1, h2, h3, h4, h5, h6, h7, h8, h9⟩ := h
  exact ⟨h1, h2, h3, h4, h5, h6, h7, h8, by rw [h9]⟩
theorem State.CountsTo.set_banks (h : s.CountsTo t) (x : Banks) :
    (show State from { s with banks := x }).CountsTo (show State from { t with banks := x }) := by
  obtain ⟨h1, h2, h3, h4, h5, h6, h7, h8, h9⟩ := h
  exact ⟨h1, h2, h3, h4, h5, h6, h7, h8, by rw [h9]⟩
theorem State.CountsTo.set_path (h : s.CountsTo t) (x : PathSt) :
    (show State from { s with path := x }).CountsTo (show State from { t with path := x }) := by
  obtain ⟨h1, h2, h3, h4, h5, h6, h7, h8, h9⟩ := h
  exact ⟨h1, h2, h3, h4, h5, h6, h7, h8, by rw [h9]⟩
theorem State.CountsTo.set_exm (h : s.CountsTo t) (x : ExmSt) :
    (show State from { s with exm := x }).CountsTo (show State from { t with exm := x }) := by
  obtain ⟨h1, h2, h3, h4, h5, h6, h7, h8, h9⟩ := h
  exact ⟨h1, h2, h3, h4, h5, h6, h7, h8, by rw [h9]⟩
theorem State.CountsTo.set_learn (h : s.CountsTo t) (x : LearnSt) :
    (show State from { s with learn := x }).CountsTo (show State from { t with learn := x }) := by
  obtain ⟨h1, h2, h3, h4, h5, h6, h7, h8, h9⟩ := h
  exact ⟨h1, h2, h3, h4, h5, h6, h7, h8, by rw [h9]⟩
theorem State.CountsTo.set_tab (h : s.CountsTo t) (x : Tables) :
    (show State from { s with tab := x }).CountsTo (show State from { t with tab := x }) := by
  obtain ⟨h1, h2, h3, h4, h5, h6, h7, h8, h9⟩ := h
  exact ⟨h1, h2, h3, h4, h5, h6, h7, h8, by rw [h9]⟩
theorem State.CountsTo.set_buf (h : s.CountsTo t) (x : BufSt) :
    (show State from { s with buf := x }).CountsTo (show State from { t with buf := x }) := by
  obtain ⟨h1, h2, h3, h4, h5, h6, h7, h8, h9⟩ := h
  exact ⟨h1, h2, h3, h4, h5, h6, h7, h8, by rw [h9]⟩
theorem State.CountsTo.set_q (h : s.CountsTo t) (x : QueueSt) :
    (show State from { s with q := x }).CountsTo (show State from { t with q := x }) := by
  obtain ⟨h1, h2, h3, h4, h5, h6, h7, h8, h9⟩ := h
  exact ⟨h1, h2, h3, h4, h5, h6, h7, h8, by rw [h9]⟩
theorem State.CountsTo.set_sched (h : s.CountsTo t) (x : SMap SchedPort) :
    (show State from { s with sched := x }).CountsTo (show State from { t with sched := x }) := by
  obtain ⟨h1, h2, h3, h4, h5, h6, h7, h8, h9⟩ := h
  exact ⟨h1, h2, h3, h4, h5, h6, h7, h8, by rw [h9]⟩
theorem State.CountsTo.set_gates (h : s.CountsTo t) (x : SMap GatePort) :
    (show State from { s with gates := x }).CountsTo (show State from { t with gates := x }) := by
  obtain ⟨h1, h2, h3, h4, h5, h6, h7, h8, h9⟩ := h
  exact ⟨h1, h2, h3, h4, h5, h6, h7, h8, by rw [h9]⟩
theorem State.CountsTo.set_lat (h : s.CountsTo t) (x : LatSt) :
    (show State from { s with lat := x }).CountsTo (show State from { t with lat := x }) := by
  obtain ⟨h1, h2, h3, h4, h5, h6, h7, h8, h9⟩ := h
  exact ⟨h1, h2, h3, h4, h5, h6, h7, h8, by rw [h9]⟩
theorem State.CountsTo.set_fab (h : s.CountsTo t) (x : FabSt) :
    (show State from { s with fab := x }).CountsTo (show State from { t with fab := x }) := by
  obtain ⟨h1, h2, h3, h4, h5, h6, h7, h8, h9⟩ := h
  exact ⟨h1, h2, h3, h4, h5, h6, h7, h8, by rw [h9]⟩
theorem State.CountsTo.set_hbm (h : s.CountsTo t) (x : HbmSt) :
    (show State from { s with hbm := x }).CountsTo (show State from { t with hbm := x }) := by
  obtain ⟨h1, h2, h3, h4, h5, h6, h7, h8, h9⟩ := h
  exact ⟨h1, h2, h3, h4, h5, h6, h7, h8, by rw [h9]⟩
theorem State.CountsTo.set_host (h : s.CountsTo t) (x : HostSt) :
    (show State from { s with host := x }).CountsTo (show State from { t with host := x }) := by
  obtain ⟨h1, h2, h3, h4, h5, h6, h7, h8, h9⟩ := h
  exact ⟨h1, h2, h3, h4, h5, h6, h7, h8, by rw [h9]⟩
theorem State.CountsTo.set_icu (h : s.CountsTo t) (x : IcuSt) :
    (show State from { s with icu := x }).CountsTo (show State from { t with icu := x }) := by
  obtain ⟨h1, h2, h3, h4, h5, h6, h7, h8, h9⟩ := h
  exact ⟨h1, h2, h3, h4, h5, h6, h7, h8, by rw [h9]⟩
theorem State.CountsTo.set_mgt (h : s.CountsTo t) (x : MgtSt) :
    (show State from { s with mgt := x }).CountsTo (show State from { t with mgt := x }) := by
  obtain ⟨h1, h2, h3, h4, h5, h6, h7, h8, h9⟩ := h
  exact ⟨h1, h2, h3, h4, h5, h6, h7, h8, by rw [h9]⟩
theorem State.CountsTo.set_boot (h : s.CountsTo t) (x : BootSt) :
    (show State from { s with boot := x }).CountsTo (show State from { t with boot := x }) := by
  obtain ⟨h1, h2, h3, h4, h5, h6, h7, h8, h9⟩ := h
  exact ⟨h1, h2, h3, h4, h5, h6, h7, h8, by rw [h9]⟩
theorem State.CountsTo.set_sec (h : s.CountsTo t) (x : SecSt) :
    (show State from { s with sec := x }).CountsTo (show State from { t with sec := x }) := by
  obtain ⟨h1, h2, h3, h4, h5, h6, h7, h8, h9⟩ := h
  exact ⟨h1, h2, h3, h4, h5, h6, h7, h8, by rw [h9]⟩
theorem State.CountsTo.set_pwr (h : s.CountsTo t) (x : PwrSt) :
    (show State from { s with pwr := x }).CountsTo (show State from { t with pwr := x }) := by
  obtain ⟨h1, h2, h3, h4, h5, h6, h7, h8, h9⟩ := h
  exact ⟨h1, h2, h3, h4, h5, h6, h7, h8, by rw [h9]⟩
theorem State.CountsTo.set_tdm (h : s.CountsTo t) (x : TdmSt) :
    (show State from { s with tdm := x }).CountsTo (show State from { t with tdm := x }) := by
  obtain ⟨h1, h2, h3, h4, h5, h6, h7, h8, h9⟩ := h
  exact ⟨h1, h2, h3, h4, h5, h6, h7, h8, by rw [h9]⟩
theorem State.CountsTo.set_shd (h : s.CountsTo t) (x : ShdSt) :
    (show State from { s with shd := x }).CountsTo (show State from { t with shd := x }) := by
  obtain ⟨h1, h2, h3, h4, h5, h6, h7, h8, h9⟩ := h
  exact ⟨h1, h2, h3, h4, h5, h6, h7, h8, by rw [h9]⟩
theorem State.CountsTo.set_rst (h : s.CountsTo t) (x : RstSt) :
    (show State from { s with rst := x }).CountsTo (show State from { t with rst := x }) := by
  obtain ⟨h1, h2, h3, h4, h5, h6, h7, h8, h9⟩ := h
  exact ⟨h1, h2, h3, h4, h5, h6, h7, h8, by rw [h9]⟩
theorem State.CountsTo.set_tap (h : s.CountsTo t) (x : TapSt) :
    (show State from { s with tap := x }).CountsTo (show State from { t with tap := x }) := by
  obtain ⟨h1, h2, h3, h4, h5, h6, h7, h8, h9⟩ := h
  exact ⟨h1, h2, h3, h4, h5, h6, h7, h8, by rw [h9]⟩
theorem State.CountsTo.set_d2d (h : s.CountsTo t) (x : D2dSt) :
    (show State from { s with d2d := x }).CountsTo (show State from { t with d2d := x }) := by
  obtain ⟨h1, h2, h3, h4, h5, h6, h7, h8, h9⟩ := h
  exact ⟨h1, h2, h3, h4, h5, h6, h7, h8, by rw [h9]⟩
theorem State.CountsTo.set_pending (h : s.CountsTo t) (x : List Instr) :
    (show State from { s with pending := x }).CountsTo (show State from { t with pending := x }) := by
  obtain ⟨h1, h2, h3, h4, h5, h6, h7, h8, h9⟩ := h
  exact ⟨h1, h2, h3, h4, h5, h6, h7, h8, by rw [h9]⟩

theorem State.CountsTo.wrp (h : s.CountsTo t) (p : Nat) (f : Fld) (i v : Nat) : (s.wrp p f i v).CountsTo (t.wrp p f i v) := by
  obtain ⟨h1, h2, h3, h4, h5, h6, h7, h8, h9⟩ := h
  refine ⟨fun k hk => ?_, h2, h3, h4, h5, h6, h7, h8, ?_⟩
  · simp only [State.wrp]
    exact SMap.lookup_set_congr (h1 k hk)
  · simp only [State.wrp]
    rw [h9]

theorem State.CountsTo.wr (h : s.CountsTo t) (f : Fld) (v : Nat) : (s.wr f v).CountsTo (t.wr f v) := h.wrp f.pg f 0 v

theorem State.CountsTo.wri (h : s.CountsTo t) (f : Fld) (i v : Nat) : (s.wri f i v).CountsTo (t.wri f i v) := h.wrp f.pg f i v

theorem State.CountsTo.addp (h : s.CountsTo t) (p : Nat) (f : Fld) (i n : Nat) (hk : isTele (fkey p f i) = false) :
    (s.addp p f i n).CountsTo (t.addp p f i n) := by
  simp only [State.addp, h.rdp p f i hk]
  exact h.wrp p f i _

theorem State.CountsTo.wrStg (h : s.CountsTo t) (p : Nat) (f : Fld) (i v : Nat) :
    (s.wrStg p f i v).CountsTo (t.wrStg p f i v) := by
  obtain ⟨h1, h2, h3, h4, h5, h6, h7, h8, h9⟩ := h
  refine ⟨h1, by simp [State.wrStg, h2], h3, h4, h5, h6, h7, h8, ?_⟩
  simp only [State.wrStg]
  rw [h9]

theorem State.CountsTo.keepLow (h : s.CountsTo t) (m : Master) (a v : Nat) :
    (s.keepLow m a v).CountsTo (t.keepLow m a v) := by
  obtain ⟨h1, h2, h3, h4, h5, h6, h7, h8, h9⟩ := h
  refine ⟨h1, h2, h3, by simp [State.keepLow, h4], h5, h6, h7, h8, ?_⟩
  simp only [State.keepLow]
  rw [h9]

theorem State.CountsTo.latchHigh (h : s.CountsTo t) (m : Master) (p v : Nat) :
    (s.latchHigh m p v).CountsTo (t.latchHigh m p v) := by
  obtain ⟨h1, h2, h3, h4, h5, h6, h7, h8, h9⟩ := h
  refine ⟨h1, h2, by simp [State.latchHigh, h3], h4, h5, h6, h7, h8, ?_⟩
  simp only [State.latchHigh]
  rw [h9]

theorem State.CountsTo.emit (h : s.CountsTo t) (e : Emit) : (s.emit e).CountsTo (t.emit e) := by
  obtain ⟨h1, h2, h3, h4, h5, h6, h7, h8, h9⟩ := h
  refine ⟨h1, h2, h3, h4, h5, ?_, ?_, h8, ?_⟩
  · simp [h6]
  · simpa using h7
  · simp only [State.emit]
    rw [h9]

/-- A write of a field that counting owns. -/
theorem State.CountsTo.tele (s : State) (p : Nat) (f : Fld) (i v : Nat) (hk : isTele (fkey p f i) = true) :
    s.CountsTo (s.wrp p f i v) := by
  refine ⟨fun k h => State.wrp_lookup_ne ?_, rfl, rfl, rfl, rfl, rfl, List.Sublist.refl _, Nat.le_refl _, rfl⟩
  rintro rfl
  rw [hk] at h
  cases h

theorem State.CountsTo.draw (s : State) : s.CountsTo s.draw :=
  ⟨fun _ _ => rfl, rfl, rfl, rfl, rfl, rfl, List.Sublist.refl _, Nat.le_succ _, rfl⟩

theorem State.CountsTo.hostWrite (s : State) (a : Nat) (b : Bytes) : s.CountsTo (s.emit (.hostWrite a b)) := by
  refine ⟨fun _ _ => rfl, rfl, rfl, rfl, rfl, ?_, ?_, Nat.le_refl _, rfl⟩
  · simp [Emit.isDirect]
  · simp

/-! ## Which fields counting owns -/

theorem isTele_cur (p n : Nat) (h : n < 4) : isTele (fkey p Reg.FWIN_n_STAT_CUR n) = true := by
  have e : fkey p Reg.FWIN_n_STAT_CUR n / 64 = p * 4096 + 68 + 8 * n := fkey_eq (by decide)
  have l : fkey p Reg.FWIN_n_STAT_CUR n % 64 = 16 := by simp [fkey, Reg.FWIN_n_STAT_CUR]
  have o : (p * 4096 + 68 + 8 * n) % 4096 = 68 + 8 * n := by omega
  simp only [isTele, e, l, o]
  have : (68 + 8 * n) % 8 = 4 := by omega
  simp [this]
  omega

theorem isTele_declared (p n : Nat) (h : n < 4) : isTele (fkey p Reg.FWIN_n_STAT_DECLARED n) = true := by
  have e : fkey p Reg.FWIN_n_STAT_DECLARED n / 64 = p * 4096 + 68 + 8 * n := fkey_eq (by decide)
  have l : fkey p Reg.FWIN_n_STAT_DECLARED n % 64 = 31 := by simp [fkey, Reg.FWIN_n_STAT_DECLARED]
  have o : (p * 4096 + 68 + 8 * n) % 4096 = 68 + 8 * n := by omega
  simp only [isTele, e, l, o]
  have : (68 + 8 * n) % 8 = 4 := by omega
  simp [this]
  omega

theorem isTele_lasting (p : Nat) : isTele (fkey p Reg.PG_STAT_FAULT_LASTING 0) = true := by
  have e : fkey p Reg.PG_STAT_FAULT_LASTING 0 / 64 = p * 4096 + 12 := by simp [fkey, Reg.PG_STAT_FAULT_LASTING]; omega
  have l : fkey p Reg.PG_STAT_FAULT_LASTING 0 % 64 = 1 := by simp [fkey, Reg.PG_STAT_FAULT_LASTING]
  have o : (p * 4096 + 12) % 4096 = 12 := by omega
  simp [isTele, e, l, o]

theorem isTele_hdmDev (i : Nat) (h : i < 36) : isTele (fkey 0x0C Reg.HDM_DEV_i_IDX i) = true := by
  have e : fkey 0x0C Reg.HDM_DEV_i_IDX i / 64 = 0x0C * 4096 + 0x110 + 32 * i := fkey_eq (by decide)
  have o : (0x0C * 4096 + 0x110 + 32 * i) % 4096 = 0x110 + 32 * i := by omega
  have q : (0x0C * 4096 + 0x110 + 32 * i) / 4096 = 12 := by omega
  have r : (0x110 + 32 * i) % 32 = 16 := by omega
  simp only [isTele, e, o, q, r]
  simp
  omega

theorem isTele_hdmErr (i : Nat) (h : i < 36) : isTele (fkey 0x0C Reg.HDM_ERR_i_CNT i) = true := by
  have e : fkey 0x0C Reg.HDM_ERR_i_CNT i / 64 = 0x0C * 4096 + 0x118 + 32 * i := fkey_eq (by decide)
  have o : (0x0C * 4096 + 0x118 + 32 * i) % 4096 = 0x118 + 32 * i := by omega
  have q : (0x0C * 4096 + 0x118 + 32 * i) / 4096 = 12 := by omega
  have r : (0x118 + 32 * i) % 32 = 24 := by omega
  simp only [isTele, e, o, q, r]
  simp
  omega

theorem isTele_blkEn (p : Nat) : isTele (fkey p Reg.PG_CTRL_BLK_EN 0) = false := by
  have e : fkey p Reg.PG_CTRL_BLK_EN 0 / 64 = p * 4096 + 8 := by simp [fkey, Reg.PG_CTRL_BLK_EN]
  have o : (p * 4096 + 8) % 4096 = 8 := by omega
  simp [isTele, e, o]

theorem isTele_trbLo (p k : Nat) (h : k < 8) (ne : p ≠ 9 ∨ k ≠ 2) : isTele (fkey p Reg.TRB_k_CNT_LO k) = false := by
  have e : fkey p Reg.TRB_k_CNT_LO k / 64 = p * 4096 + 0x20 + 4 * k := fkey_eq (by decide)
  have o : (p * 4096 + 0x20 + 4 * k) % 4096 = 0x20 + 4 * k := by omega
  have q : (p * 4096 + 0x20 + 4 * k) / 4096 = p := by omega
  simp only [isTele, e, o, q]
  simp
  omega

theorem isTele_trbHi (p k : Nat) (h : k < 8) : isTele (fkey p Reg.TRB_k_CNT_HI k) = false := by
  have e : fkey p Reg.TRB_k_CNT_HI k / 64 = p * 4096 + 0x20 + 4 * k := fkey_eq (by decide)
  have l : fkey p Reg.TRB_k_CNT_HI k % 64 = 16 := by simp [fkey, Reg.TRB_k_CNT_HI]
  have o : (p * 4096 + 0x20 + 4 * k) % 4096 = 0x20 + 4 * k := by omega
  have q : (p * 4096 + 0x20 + 4 * k) / 4096 = p := by omega
  simp only [isTele, e, o, q, l]
  simp
  omega

/-! ## Counting itself -/

theorem State.eventRecord_counts (s : State) (ring : Nat) (rec : Bytes) (h : ring < 36) :
    s.CountsTo (s.eventRecord ring rec) := by
  unfold State.eventRecord
  dsimp only
  split
  · exact (State.CountsTo.hostWrite s _ _).trans (State.CountsTo.tele _ _ _ _ _ (isTele_hdmDev ring h))
  · exact State.CountsTo.tele _ _ _ _ _ (isTele_hdmErr ring h)

theorem State.troubleRecord_counts (s : State) (kind p k w v loc : Nat) : s.CountsTo (s.troubleRecord kind p k w v loc) := by
  unfold State.troubleRecord
  split
  · exact State.eventRecord_counts s 35 _ (by decide)
  · exact State.CountsTo.refl s

theorem State.windowCount_counts (s : State) (p k n : Nat) (h : n < 4) : s.CountsTo (s.windowCount p k n) := by
  unfold State.windowCount
  dsimp only
  split
  · split
    · refine ((State.CountsTo.tele s p _ n _ (isTele_cur p n h)).trans
        ((State.CountsTo.tele _ p _ n _ (isTele_declared p n h)).trans (State.CountsTo.tele _ p _ 0 _ (isTele_lasting p)))).trans
        (State.troubleRecord_counts _ _ _ _ _ _ _)
    · exact State.CountsTo.tele s p _ n _ (isTele_cur p n h)
  · exact State.CountsTo.refl s

/-- A trouble increment is its counter's step, and counting. -/
theorem State.trbCore_counts (s : State) (p k : Nat) : (s.trouble p k).CountsTo (s.trbCore p k) := by
  unfold State.trbCore State.trouble
  split
  · dsimp only
    have w : ∀ u : State, u.CountsTo ((((u.windowCount p k 0).windowCount p k 1).windowCount p k 2).windowCount p k 3) :=
      fun u => ((State.windowCount_counts u p k 0 (by decide)).trans (State.windowCount_counts _ p k 1 (by decide))).trans
        ((State.windowCount_counts _ p k 2 (by decide)).trans (State.windowCount_counts _ p k 3 (by decide)))
    split
    · exact (State.troubleRecord_counts _ _ _ _ _ _ _).trans (w _)
    · exact w _
  · exact State.CountsTo.refl s

theorem State.pmuAdd_counts (s : State) (n a : Nat) : s.CountsTo (s.pmuAdd n a) :=
  ⟨fun _ _ => rfl, rfl, rfl, rfl, rfl, rfl, List.Sublist.refl _, Nat.le_refl _, rfl⟩

/-- A fold of steps that only count only counts. -/
theorem State.CountsTo.foldl {α : Type} {f : State → α → State} (h : ∀ (t : State) x, t.CountsTo (f t x)) (l : List α) (s : State) :
    s.CountsTo (l.foldl f s) := by
  induction l generalizing s with
  | nil => exact State.CountsTo.refl s
  | cons x l ih => exact (h s x).trans (ih (f s x))

theorem State.pmuApply_counts (s : State) (e : PmuEv) : s.CountsTo (s.pmuApply e).1 := by
  unfold State.pmuApply
  split
  · exact State.CountsTo.foldl (fun (t : State) n => State.pmuAdd_counts t n _) _ s
  · exact State.CountsTo.refl s

theorem State.trouble_own (s : State) : s.CountsTo (s.trouble 0x09 4) := by
  unfold State.trouble
  split
  · exact State.CountsTo.tele _ _ _ _ _ (by decide)
  · exact State.CountsTo.refl s

/-- A PMU event only counts. -/
theorem State.pmuEvent_counts (n : Nat) (s : State) (e : PmuEv) : s.CountsTo (s.pmuEvent n e) := by
  induction n generalizing s e with
  | zero => exact State.CountsTo.refl s
  | succ k ih =>
    unfold State.pmuEvent
    split
    · exact State.pmuApply_counts s e
    · refine ((State.pmuApply_counts s e).trans (State.CountsTo.tele _ 0x09 Reg.EVT_STAT_EVT 0 _ (by decide))).trans
        (State.CountsTo.foldl ?_ _ _)
      intro t _
      exact ((State.trouble_own t).trans (State.trbCore_counts t 0x09 4)).trans (ih _ _)

theorem State.accessEvent_counts (s : State) (m : Master) (p off loc : Nat) : s.CountsTo (s.accessEvent m p off loc) := by
  unfold State.accessEvent
  dsimp only
  split
  · exact (State.pmuEvent_counts _ s _).trans (State.CountsTo.draw _)
  · exact State.pmuEvent_counts _ s _

/-- A trouble increment with its PMU event: the counter's step, and counting (R31, R434). -/
theorem State.trb_counts (s : State) (p k : Nat) : (s.trouble p k).CountsTo (s.trb p k) := by
  unfold State.trb
  split
  · exact (State.trbCore_counts s p k).trans (State.pmuEvent_counts _ _ _)
  · rename_i h
    simp only [State.trouble, h]
    exact State.CountsTo.refl s

/-- A statistics counter's step, and counting (R37, R434). -/
theorem State.stat_counts (s : State) (p : Nat) (f : Fld) (i n : Nat) : (s.addp p f i n).CountsTo (s.stat p f i n) := by
  unfold State.stat State.statEvent
  dsimp only
  split
  · exact State.pmuEvent_counts _ _ _
  · exact State.CountsTo.refl _

theorem State.CountsTo.trbCounts (h : s.CountsTo t) (p k : Nat) : t.trbCounts p k = s.trbCounts p k := by
  simp [State.trbCounts, State.blkEn, h.rdp p _ 0 (isTele_blkEn p)]

theorem trbUsed_le (p : Nat) : trbUsed p ≤ 16 := by
  unfold trbUsed
  split <;> decide

theorem State.CountsTo.trouble (h : s.CountsTo t) (p k : Nat) : (s.trouble p k).CountsTo (t.trouble p k) := by
  unfold State.trouble
  rw [h.trbCounts]
  split
  · rename_i hc
    have hk : k < 16 := by
      have := trbUsed_le p
      simp [State.trbCounts] at hc
      omega
    by_cases e : p = 9 ∧ k = 4
    · obtain ⟨rfl, rfl⟩ := e
      have w : ∀ a b : Nat, (s.wrp 9 Reg.TRB_k_CNT_LO 2 a).CountsTo (t.wrp 9 Reg.TRB_k_CNT_LO 2 b) := by
        intro a b
        obtain ⟨h1, h2, h3, h4, h5, h6, h7, h8, h9⟩ := h
        refine ⟨fun k hk => ?_, h2, h3, h4, h5, h6, h7, h8, ?_⟩
        · have ne : fkey 9 Reg.TRB_k_CNT_LO 2 ≠ k := by
            rintro rfl
            exact absurd hk (by decide)
          rw [State.wrp_lookup_ne ne, State.wrp_lookup_ne ne]
          exact h1 k hk
        · simp only [State.wrp]
          rw [h9]
      exact w _ _
    · have v : t.trbVal p k = s.trbVal p k := by
        unfold State.trbVal
        split
        · exact h.rdp _ _ _ (isTele_trbLo p (k / 2) (by omega) (by omega))
        · exact h.rdp _ _ _ (isTele_trbHi p (k / 2) (by omega))
      rw [v]
      unfold State.trbSet
      split
      · exact h.wrp _ _ _ _
      · exact h.wrp _ _ _ _
  · exact h

/-! ## Only registers -/

theorem State.OnlyRegs.trans (h : s.OnlyRegs t) (g : t.OnlyRegs u) : s.OnlyRegs u := by
  unfold State.OnlyRegs at h g ⊢
  rw [h] at g
  exact g

theorem State.OnlyRegs.refl (s : State) : s.OnlyRegs s := rfl

theorem State.OnlyRegs.of_regs {r : Regs} (h : t = { s with regs := r }) : s.OnlyRegs t := by
  subst h
  rfl

theorem State.CountsTo.onlyRegs (h : s.CountsTo t) : s.OnlyRegs t := h.rest

theorem State.onlyRegs_wrp (s : State) (p : Nat) (f : Fld) (i v : Nat) : s.OnlyRegs (s.wrp p f i v) := rfl

theorem State.onlyRegs_emit (s : State) (e : Emit) : s.OnlyRegs (s.emit e) := rfl

/-! ## Derived views -/

theorem State.CountsTo.sub (h : s.CountsTo t) : t.sub = s.sub := by
  unfold State.sub State.governor State.chan
  rw [h.rd Reg.SPN_STAT_ACTIVE (by decide), h.time]

theorem State.CountsTo.ns (h : s.CountsTo t) : t.ns = s.ns := by
  unfold State.ns
  rw [h.sub]

theorem State.CountsTo.epoch (h : s.CountsTo t) : t.epoch = s.epoch := by
  unfold State.epoch
  rw [h.ns]

theorem State.CountsTo.pitch (h : s.CountsTo t) : t.pitch = s.pitch := by
  unfold State.pitch
  rw [h.ns]

theorem State.CountsTo.mode (h : s.CountsTo t) : t.mode = s.mode := h.rd Reg.TOP_STAT_MODE (by decide)

theorem State.CountsTo.pagePowered (h : s.CountsTo t) (p : Nat) : t.pagePowered p = s.pagePowered p := by
  unfold State.pagePowered State.domainUp
  rw [h.pwr]

theorem State.CountsTo.pageInClear (h : s.CountsTo t) (p : Nat) : t.pageInClear p = s.pageInClear p := by
  unfold State.pageInClear
  rw [h.rst]

theorem State.CountsTo.blkEn (h : s.CountsTo t) (p : Nat) : t.blkEn p = s.blkEn p := by
  unfold State.blkEn
  rw [h.rdp p _ 0 (isTele_blkEn p)]

theorem State.CountsTo.runs (h : s.CountsTo t) (p : Nat) : t.runs p = s.runs p := by
  unfold State.runs
  rw [h.pagePowered, h.pageInClear, h.blkEn]

theorem State.CountsTo.frozen (h : s.CountsTo t) (p : Nat) : t.frozen p = s.frozen p := by
  unfold State.frozen State.armedFor
  rw [h.cairn, h.epoch]

theorem State.CountsTo.lowOf (h : s.CountsTo t) (m : Master) (a : Nat) : t.lowOf m a = s.lowOf m a := by
  unfold State.lowOf
  rw [h.wrLow]

theorem State.CountsTo.latched (h : s.CountsTo t) (m : Master) (p : Nat) : t.latched m p = s.latched m p := by
  unfold State.latched
  rw [h.rdLatch]

/-- Equal outputs beside records are members of both. -/
theorem State.CountsTo.mem_out (h : s.CountsTo t) {e : Emit} (m : e ∈ s.outbox) : e ∈ t.outbox := h.out.subset m

/-- The value that a trouble increment leaves, seen through what counting changes. -/
theorem State.trouble_lookup_ne {p k x : Nat} (h : x ≠ fkey p Reg.TRB_k_CNT_LO (k / 2)) (h' : x ≠ fkey p Reg.TRB_k_CNT_HI (k / 2)) :
    (s.trouble p k).regs.active.lookup x = s.regs.active.lookup x := by
  unfold State.trouble State.trbSet
  split
  · split
    · exact State.wrp_lookup_ne (Ne.symm h)
    · exact State.wrp_lookup_ne (Ne.symm h')
  · rfl

end Sys2Proof.Machine
end

