-- ==== Sys2Proof/Laws/Access.lean ====
section
/-! SUPPORT. Laws of register accesses: a dword write or read that reaches its page is its register's own effect on a state
that counting alone has changed. -/
namespace Sys2Proof.Machine

variable {s : State}

/-- A write that reaches its page (R26). -/
theorem State.onWrite_ok {m : Master} {p off : Nat} (h : s.access m p off 4 true = .ok) (k : State → State) :
    ∃ u, s.CountsTo u ∧ s.onWrite m p off k = k u :=
  ⟨s.accessEvent m p off 0x41, s.accessEvent_counts m p off 0x41, by simp [State.onWrite, h]⟩

/-- A read that reaches its page (R26): its value is the last output. -/
theorem State.onRead_ok {m : Master} {p off : Nat} (h : s.access m p off 4 false = .ok) (k : State → Nat × State) :
    ∃ u, s.CountsTo u ∧ s.onRead m p off k = (k u).2.emit (.readData m ((k u).1 % 2 ^ 32)) :=
  ⟨s.accessEvent m p off 0x40, s.accessEvent_counts m p off 0x40, by simp [State.onRead, h]⟩

/-- A write to a page whose domain is off is discarded and counts on PWR (R33). -/
theorem State.onWrite_off {m : Master} {p off : Nat} (h : s.access m p off 4 true = .off) (k : State → State) :
    (s.trouble 0x01 3).CountsTo (s.onWrite m p off k) := by
  simp only [State.onWrite, h]
  exact ((s.accessEvent_counts m p off 0x41).trouble 0x01 3).trans (State.trb_counts _ _ _)

/-- A read from a page whose domain is off gives 0 (R33). -/
theorem State.onRead_off {m : Master} {p off : Nat} (h : s.access m p off 4 false = .off) (k : State → Nat × State) :
    (s.emit (.readData m 0)).CountsTo (s.onRead m p off k) := by
  simp only [State.onRead, h]
  exact (s.accessEvent_counts m p off 0x40).emit _

theorem writeReg_plain {m : Master} {p off v : Nat} (h : actsWhenWritten p off = false) :
    s.writeReg m p off v = s.writeFields m p off v := by
  unfold actsWhenWritten at h
  unfold State.writeReg
  by_cases h0 : off < 0x100
  · rw [if_pos h0] at h ⊢
    simp at h
    unfold State.writeHdr
    rw [if_neg h.1, if_neg (by omega), if_neg (by omega)]
  rw [if_neg h0] at h ⊢
  by_cases h1 : p < 0x10
  · rw [if_pos h1]
    unfold State.writeSystem
    have hp : p = 0 ∨ p = 1 ∨ p = 2 ∨ p = 3 ∨ p = 4 ∨ p = 5 ∨ p = 6 ∨ p = 7 ∨ p = 8 ∨ p = 9 ∨ p = 10 ∨ p = 11 ∨ p = 12 ∨ p = 13 ∨
      p = 14 ∨ p = 15 := by omega
    rcases hp with rfl | rfl | rfl | rfl | rfl | rfl | rfl | rfl | rfl | rfl | rfl | rfl | rfl | rfl | rfl | rfl <;>
      simp at h <;> simp [h, State.writeTrust, State.writeMgmt, State.writePmu, State.writeWin]
    · intros; omega
    · rw [if_neg (by omega), if_neg (by omega), if_neg (by omega), if_neg (by omega), if_neg (by omega)]
    · rw [if_neg (by omega), if_neg (by omega), if_neg (by omega)]
    · rw [if_neg (by omega), if_neg (by omega)]
  rw [if_neg h1]
  by_cases h2 : p < 0x20
  · rw [if_pos h2]
    unfold State.writeClocks
    have hp : p = 16 ∨ p = 17 ∨ p = 18 ∨ p = 19 ∨ p = 20 ∨ p = 21 ∨ p = 22 ∨ p = 23 ∨ p = 24 ∨ p = 25 ∨ p = 26 ∨ p = 27 ∨ p = 28 ∨ p = 29 ∨
      p = 30 ∨ p = 31 := by omega
    rcases hp with rfl | rfl | rfl | rfl | rfl | rfl | rfl | rfl | rfl | rfl | rfl | rfl | rfl | rfl | rfl | rfl <;>
      simp at h <;> simp [h, State.writePtp, State.writeCrn]
    rw [if_neg (by omega), if_neg (by omega)]
  rw [if_neg h2]
  by_cases h3 : p < 0x60
  · rw [if_pos h3]
    unfold State.writeTables
    by_cases e : p = 0x31
    · subst e; simp at h; simp [h]
    by_cases e1 : p = 0x35
    · subst e1; simp at h; simp [h]
    by_cases e2 : p = 0x38
    · subst e2; simp at h; rw [if_neg (by omega), if_neg (by omega), if_neg (by omega), if_neg (by omega), if_neg (by omega),
        if_neg (by omega), if_neg (by omega)]
    by_cases e3 : p = 0x39
    · subst e3; simp at h; simp [h]
    by_cases e4 : p = 0x50
    · subst e4; simp at h; simp [h]
    by_cases e5 : p = 0x56
    · subst e5; simp at h; simp [h]
    by_cases e6 : p = 0x57
    · subst e6; simp at h; simp [h]
    rw [if_neg (by omega), if_neg (by omega), if_neg (by omega), if_neg (by omega), if_neg (by omega),
        if_neg (by omega), if_neg (by omega)]
  rw [if_neg h3]
  unfold State.writeFabric
  by_cases e : 0x60 ≤ p ∧ p ≤ 0x67
  · have f : p = 0x60 ∨ p = 0x61 ∨ p = 0x62 ∨ p = 0x63 ∨ p = 0x64 ∨ p = 0x65 ∨ p = 0x66 ∨ p = 0x67 := by omega
    rcases f with rfl | rfl | rfl | rfl | rfl | rfl | rfl | rfl <;> simp at h <;> simp [h]
  by_cases e1 : p = 0x70
  · subst e1; simp at h
    rw [if_neg (by omega), if_neg (by omega), if_neg (by omega), if_neg (by omega), if_neg (by omega)]
  by_cases e2 : 0x72 ≤ p ∧ p ≤ 0x79
  · have f : p = 0x72 ∨ p = 0x73 ∨ p = 0x74 ∨ p = 0x75 ∨ p = 0x76 ∨ p = 0x77 ∨ p = 0x78 ∨ p = 0x79 := by omega
    rcases f with rfl | rfl | rfl | rfl | rfl | rfl | rfl | rfl <;> simp at h <;>
      rw [if_neg (by omega), if_neg (by omega), if_neg (by omega), if_neg (by omega), if_neg (by omega)]
  rw [if_neg (by omega), if_neg (by omega), if_neg (by omega), if_neg (by omega), if_neg (by omega)]

theorem State.store_lookup_ne {p i v k : Nat} {f : Fld} (h : k ≠ fkey p f i) :
    (s.store p f i v).regs.active.lookup k = s.regs.active.lookup k ∧
    (s.store p f i v).regs.staged.lookup k = s.regs.staged.lookup k := by
  unfold State.store
  split
  · exact ⟨State.wrp_lookup_ne (Ne.symm h), rfl⟩
  · exact ⟨rfl, SMap.lookup_insert_ne (Ne.symm h)⟩
  · exact ⟨State.wrp_lookup_ne (Ne.symm h), rfl⟩
  · exact ⟨rfl, rfl⟩

theorem State.store_rest (p i v : Nat) (f : Fld) : s.store p f i v = { s with regs := (s.store p f i v).regs } := by
  unfold State.store
  split <;> rfl

theorem State.writeFld_narrow {m : Master} {p v : Nat} {h : Fld × Nat × Nat} (w : h.1.wide = false) :
    s.writeFld m p v h = s.store p h.1 h.2.1 (bits v h.1.hi h.1.lo) := by
  unfold State.writeFld
  rw [if_pos (by simp [w])]

theorem State.writeFolds_ne {m : Master} {p v k : Nat} {l : List (Fld × Nat × Nat)} (w : ∀ h ∈ l, h.1.wide = false)
    (n : k ∉ l.map (keyOf p)) :
    (l.foldl (fun t h => t.writeFld m p v h) s).regs.active.lookup k = s.regs.active.lookup k ∧
    (l.foldl (fun t h => t.writeFld m p v h) s).regs.staged.lookup k = s.regs.staged.lookup k := by
  induction l generalizing s with
  | nil => exact ⟨rfl, rfl⟩
  | cons x l ih =>
    rw [List.map_cons, List.mem_cons, not_or] at n
    rw [List.foldl_cons]
    obtain ⟨a, b⟩ := ih (s := s.writeFld m p v x) (fun h hm => w h (List.mem_cons_of_mem _ hm)) n.2
    rw [State.writeFld_narrow (w x List.mem_cons_self)] at a b ⊢
    obtain ⟨c, d⟩ := State.store_lookup_ne (s := s) (v := bits v x.1.hi x.1.lo) n.1
    exact ⟨a.trans c, b.trans d⟩

theorem State.writeFolds_rest {m : Master} {p v : Nat} {l : List (Fld × Nat × Nat)} (w : ∀ h ∈ l, h.1.wide = false) :
    l.foldl (fun t h => t.writeFld m p v h) s = { s with regs := (l.foldl (fun t h => t.writeFld m p v h) s).regs } := by
  induction l generalizing s with
  | nil => rfl
  | cons x l ih =>
    rw [List.foldl_cons]
    have a := ih (s := s.writeFld m p v x) (fun h hm => w h (List.mem_cons_of_mem _ hm))
    rw [State.writeFld_narrow (w x List.mem_cons_self)] at a ⊢
    generalize l.foldl (fun t h => t.writeFld m p v h) (s.store p x.1 x.2.1 (bits v x.1.hi x.1.lo)) = y at a ⊢
    rw [a, State.store_rest]

/-- A field of the list, after the whole list is written: as if it alone had been written. -/
theorem State.writeFolds_at {m : Master} {p v : Nat} {l : List (Fld × Nat × Nat)} (w : ∀ h ∈ l, h.1.wide = false)
    (n : (l.map (keyOf p)).Nodup) {h : Fld × Nat × Nat} (hm : h ∈ l) :
    (l.foldl (fun t h => t.writeFld m p v h) s).regs.active.lookup (keyOf p h) =
      (s.store p h.1 h.2.1 (bits v h.1.hi h.1.lo)).regs.active.lookup (keyOf p h) ∧
    (l.foldl (fun t h => t.writeFld m p v h) s).regs.staged.lookup (keyOf p h) =
      (s.store p h.1 h.2.1 (bits v h.1.hi h.1.lo)).regs.staged.lookup (keyOf p h) := by
  have cg : ∀ {u : State}, u.regs.active.lookup (keyOf p h) = s.regs.active.lookup (keyOf p h) →
      u.regs.staged.lookup (keyOf p h) = s.regs.staged.lookup (keyOf p h) →
      (u.store p h.1 h.2.1 (bits v h.1.hi h.1.lo)).regs.active.lookup (keyOf p h) =
        (s.store p h.1 h.2.1 (bits v h.1.hi h.1.lo)).regs.active.lookup (keyOf p h) ∧
      (u.store p h.1 h.2.1 (bits v h.1.hi h.1.lo)).regs.staged.lookup (keyOf p h) =
        (s.store p h.1 h.2.1 (bits v h.1.hi h.1.lo)).regs.staged.lookup (keyOf p h) := by
    intro u a b
    have r : u.rdp p h.1 h.2.1 = s.rdp p h.1 h.2.1 := State.rdp_congr a
    unfold State.store
    split
    · exact ⟨SMap.lookup_set_congr a, b⟩
    · exact ⟨a, by simp [State.wrStg, keyOf]⟩
    · rw [r]
      exact ⟨SMap.lookup_set_congr a, b⟩
    · exact ⟨a, b⟩
  obtain ⟨l1, l2, rfl⟩ := List.append_of_mem hm
  rw [List.map_append, List.map_cons, List.nodup_append, List.nodup_cons] at n
  have k1 : keyOf p h ∉ l1.map (keyOf p) := fun hk => n.2.2 _ hk _ List.mem_cons_self rfl
  obtain ⟨a1, b1⟩ := State.writeFolds_ne (s := s) (m := m) (v := v) (fun x hx => w x (List.mem_append_left _ hx)) k1
  rw [List.foldl_append, List.foldl_cons]
  obtain ⟨a2, b2⟩ := State.writeFolds_ne (s := (l1.foldl (fun t h => t.writeFld m p v h) s).writeFld m p v h) (m := m) (v := v)
    (fun x hx => w x (List.mem_append_right _ (List.mem_cons_of_mem _ hx))) n.2.1.1
  rw [State.writeFld_narrow (w h hm)] at a2 b2 ⊢
  obtain ⟨a3, b3⟩ := cg a1 b1
  exact ⟨a2.trans a3, b2.trans b3⟩


theorem bits_mod (n hi lo : Nat) : bits n hi lo % 2 ^ (hi - lo + 1) = bits n hi lo := by
  unfold bits
  exact Nat.mod_mod _ _

theorem bits_width (f : Fld) (n : Nat) : bits n f.hi f.lo % 2 ^ f.width = bits n f.hi f.lo := bits_mod n f.hi f.lo

theorem plain_not_tim {p off : Nat} (h : actsWhenWritten p off = false) : ¬ ((p = 0x11 ∨ p = 0x12) ∧ 0x100 ≤ off) := by
  rintro ⟨rfl | rfl, h2⟩ <;> simp [actsWhenWritten, show ¬ off < 256 by omega] at h

theorem readReg_plain {s : State} {m : Master} {p off : Nat} (h : actsWhenRead p off = false) :
    s.readReg m p off = s.readFields m p off := by
  simp [actsWhenRead] at h
  unfold State.readReg
  rw [if_neg (by omega), if_neg (by omega), if_neg (by omega), if_neg (by omega), if_neg (by omega), if_neg (by omega),
    if_neg (by omega)]

theorem foldl_rc_rest {p : Nat} (l : List (Fld × Nat × Nat)) (s : State) :
    (l.foldl (fun t h => t.wrp p h.1 h.2.1 0) s).outbox = s.outbox ∧
    (l.foldl (fun t h => t.wrp p h.1 h.2.1 0) s).regs.rdLatch = s.regs.rdLatch ∧
    s.OnlyRegs (l.foldl (fun t h => t.wrp p h.1 h.2.1 0) s) := by
  induction l generalizing s with
  | nil => exact ⟨rfl, rfl, rfl⟩
  | cons x l ih =>
    obtain ⟨a, b, c⟩ := ih (s.wrp p x.1 x.2.1 0)
    exact ⟨a, b, (State.onlyRegs_wrp s p x.1 x.2.1 0).trans c⟩

theorem latched_latchHigh (s : State) (m : Master) (p v : Nat) : (s.latchHigh m p v).latched m p = v := by
  unfold State.latched State.latchHigh assoc assocSet
  split
  · rename_i q hq
    by_cases hv : v = 0
    · rw [if_pos hv] at hq
      have := List.find?_some hq
      have hm := List.mem_of_find?_eq_some hq
      rw [List.mem_filter] at hm
      simp at this hm
      exact absurd this hm.2
    · rw [if_neg hv] at hq
      simp at hq
      rw [← hq]
  · rename_i hq
    by_cases hv : v = 0
    · exact hv.symm
    · rw [if_neg hv] at hq
      simp at hq


end Sys2Proof.Machine
end

