-- ==== Sys2Proof/Laws/Bits.lean ====
section
/-! SUPPORT. Laws of bit fields held in numbers. -/
namespace Sys2Proof.Machine

theorem setBit_form (x k : Nat) (b : Bool) : setBit x k b = x / (2 * 2 ^ k) * (2 * 2 ^ k) + b01 b * 2 ^ k + x % 2 ^ k := by
  unfold setBit bitN
  have p : 0 < 2 ^ k := Nat.two_pow_pos k
  generalize 2 ^ k = m at p
  have h1 : x = m * (x / m) + x % m := (Nat.div_add_mod x m).symm
  have h2 : x / (2 * m) = x / m / 2 := by rw [Nat.mul_comm, Nat.div_div_eq_div_mul]
  have h3 : x / m = 2 * (x / m / 2) + x / m % 2 := (Nat.div_add_mod (x / m) 2).symm
  rw [h2]
  generalize x % m = r at *
  generalize x / m = q at *
  generalize q / 2 = d at *
  have e : x = d * (2 * m) + q % 2 * m + r := by
    rw [h1]
    conv => lhs; rw [h3]
    rw [Nat.mul_add, Nat.mul_comm m (2 * d), Nat.mul_comm m (q % 2), Nat.mul_assoc, Nat.mul_left_comm]
  rw [e]
  cases b <;> simp [b01] <;> omega

theorem bitN_setBit_same (x k w : Nat) (b : Bool) (hk : k < w) : bitN (setBit x k b % 2 ^ w) k = b01 b := by
  unfold setBit bitN
  have e : 2 ^ w = 2 ^ k * (2 * 2 ^ (w - k - 1)) := by
    rw [← Nat.pow_succ', ← Nat.pow_add]
    congr 1
    omega
  rw [e, Nat.mod_mul_right_div_self, Nat.mod_mul_right_mod]
  have p : 0 < 2 ^ k := Nat.two_pow_pos k
  generalize 2 ^ k = m at p
  have h1 : (x - x / m % 2 * m) / m = x / m - x / m % 2 := by
    rw [Nat.mul_comm, Nat.sub_mul_div]
  cases b
  · simp only [Bool.false_eq_true, if_false, Nat.add_zero, h1, b01]
    omega
  · simp only [if_true, b01]
    rw [Nat.add_div_right _ p, h1]
    omega

theorem bitN_mod (x j w : Nat) (hj : j < w) : bitN (x % 2 ^ w) j = bitN x j := by
  unfold bitN
  have e : 2 ^ w = 2 ^ j * (2 * 2 ^ (w - j - 1)) := by
    rw [← Nat.pow_succ', ← Nat.pow_add]
    congr 1
    omega
  rw [e, Nat.mod_mul_right_div_self, Nat.mod_mul_right_mod]

theorem bitN_setBit_other (x k j w : Nat) (b : Bool) (hj : j < w) (h : j ≠ k) : bitN (setBit x k b % 2 ^ w) j = bitN x j := by
  rw [bitN_mod _ _ _ hj, setBit_form]
  by_cases c : j < k
  · rw [← bitN_mod _ _ _ c, ← bitN_mod x _ _ c]
    congr 1
    have : x / (2 * 2 ^ k) * (2 * 2 ^ k) + b01 b * 2 ^ k + x % 2 ^ k = x % 2 ^ k + 2 ^ k * (x / (2 * 2 ^ k) * 2 + b01 b) := by
      rw [Nat.mul_add, Nat.mul_comm (2 ^ k) (b01 b), ← Nat.mul_assoc, Nat.mul_comm (2 ^ k) _, Nat.mul_assoc]
      simp only [Nat.mul_assoc, Nat.mul_comm]
      omega
    rw [this, Nat.add_mul_mod_self_left, Nat.mod_mod]
  · have hk : k + 1 ≤ j := by omega
    unfold bitN
    have e : 2 ^ j = (2 * 2 ^ k) * 2 ^ (j - k - 1) := by
      rw [← Nat.pow_succ', ← Nat.pow_add]
      congr 1
      omega
    have p : 0 < 2 ^ k := Nat.two_pow_pos k
    have l : b01 b * 2 ^ k + x % 2 ^ k < 2 * 2 ^ k := by
      have a := Nat.mod_lt x p
      have c : b01 b ≤ 1 := by cases b <;> decide
      have d := Nat.mul_le_mul_right (2 ^ k) c
      omega
    have g : (x / (2 * 2 ^ k) * (2 * 2 ^ k) + b01 b * 2 ^ k + x % 2 ^ k) / (2 * 2 ^ k) = x / (2 * 2 ^ k) := by
      rw [Nat.add_assoc, Nat.add_comm, Nat.add_mul_div_right _ _ (by omega), Nat.div_eq_of_lt l, Nat.zero_add]
    rw [e, ← Nat.div_div_eq_div_mul _ (2 * 2 ^ k), ← Nat.div_div_eq_div_mul x (2 * 2 ^ k), g]
end Sys2Proof.Machine
end

