-- ==== Sys2Proof/Laws/Crc.lean ====
section
/-! SUPPORT. Laws: the CRC of a fabric cell (R282): the check passes exactly on the cell that carries the CRC of its bytes, and a
cell built with its CRC passes. -/
namespace Sys2Proof.Machine

theorem crc32Bit_lt (p c : Nat) (hp : p < 2 ^ 32) (hc : c < 2 ^ 32) : crc32Bit p c < 2 ^ 32 := by
  unfold crc32Bit
  have h2 : c / 2 < 2 ^ 32 := by omega
  split
  · exact Nat.xor_lt_two_pow h2 hp
  · exact h2

theorem crc32Byte_lt (p c : Nat) (x : Byte) (hp : p < 2 ^ 32) (hc : c < 2 ^ 32) : crc32Byte p c x < 2 ^ 32 := by
  unfold crc32Byte
  have hx : x.toNat < 2 ^ 32 := by have := x.isLt; omega
  iterate 8 refine crc32Bit_lt _ _ hp ?_
  exact Nat.xor_lt_two_pow hc hx

theorem fcs_lt (b : Bytes) : fcs b < 2 ^ 32 := by
  unfold fcs
  refine Nat.xor_lt_two_pow ?_ (by decide)
  have : ∀ (l : Bytes) (a : Nat), a < 2 ^ 32 → l.foldl (crc32Byte 0xEDB88320) a < 2 ^ 32 := by
    intro l
    induction l with
    | nil => intro a h; simpa using h
    | cons x l ih => intro a h; exact ih _ (crc32Byte_lt _ _ _ (by decide) h)
  exact this _ _ (by decide)

theorem be_toBe4 (v : Nat) (h : v < 2 ^ 32) : be (toBe 4 v) = v := by
  simp [be, toBe, toLe, -Nat.reducePow]
  omega

theorem toBe4_length (v : Nat) : (toBe 4 v).length = 4 := by simp [toBe, toLe]

theorem padTo_length (n : Nat) (b : Bytes) : (padTo n b).length = n := by simp [padTo, zeros]; omega

theorem crcGood_eq (x y : Bytes) (v : Nat) (hx : x.length = 12) (hy : y.length = 240) (hv : v < 2 ^ 32) :
    crcGood (x ++ toBe 4 v ++ y) = (v == fcs (x ++ zeros 4 ++ y)) := by
  have e4 := toBe4_length v
  have h1 : (x ++ toBe 4 v ++ y).take 12 = x := by
    rw [List.append_assoc, List.take_append_of_le_length (by omega), List.take_of_length_le (by omega)]
  have h2 : (x ++ toBe 4 v ++ y).drop 16 = y := by
    rw [List.drop_append, List.drop_of_length_le (by simp [hx, e4])]; simp [hx, e4]
  have h3 : sl (x ++ toBe 4 v ++ y) 12 4 = toBe 4 v := by
    unfold sl
    rw [List.append_assoc, List.drop_append, List.drop_of_length_le (by omega)]; simp [hx, e4]
  have h4 : (x ++ toBe 4 v ++ y).length = 256 := by simp [hx, hy, e4]
  unfold crcGood beAt
  rw [h1, h2, h3, be_toBe4 v hv, h4]
  simp

theorem withCrc_good (h p : Bytes) : crcGood (withCrc h p) = true := by
  have l1 := padTo_length 12 h
  have l2 := padTo_length 240 p
  have t1 : (padTo 12 h ++ zeros 4 ++ padTo 240 p).take 12 = padTo 12 h := by
    rw [List.append_assoc, List.take_append_of_le_length (by omega), List.take_of_length_le (by omega)]
  have t2 : (padTo 12 h ++ zeros 4 ++ padTo 240 p).drop 16 = padTo 240 p := by
    rw [List.drop_append, List.drop_of_length_le (by simp [l1, zeros])]; simp [l1, zeros]
  unfold withCrc
  simp only [t1, t2]
  rw [crcGood_eq _ _ _ l1 l2 (fcs_lt _)]
  simp

theorem zeros_length (n : Nat) : (zeros n).length = n := List.length_replicate

/-- Some 256 bytes do not carry their CRC. -/
theorem bad_crc_exists : ∃ b : Bytes, b.length = 256 ∧ crcGood b = false := by
  by_cases h : fcs (zeros 12 ++ zeros 4 ++ zeros 240) = 0
  · refine ⟨zeros 12 ++ toBe 4 1 ++ zeros 240, by simp [zeros_length, toBe4_length], ?_⟩
    rw [crcGood_eq _ _ _ (zeros_length _) (zeros_length _) (by decide), h]; rfl
  · refine ⟨zeros 12 ++ toBe 4 0 ++ zeros 240, by simp [zeros_length, toBe4_length], ?_⟩
    rw [crcGood_eq _ _ _ (zeros_length _) (zeros_length _) (by decide)]
    simpa using fun e => h e.symm

end Sys2Proof.Machine
end

