-- ==== Sys2Proof/Laws/Frame.lean ====
section
/-! SUPPORT. The parts of the state that an operation can change: one lemma per operation of the model, with the parts
as a mask over the fields of `State` (`State.but`). -/
namespace Sys2Proof.Machine

theorem State.but_part {α : Type} {u : Nat} (i k : Nat) {x y d : α} (e : 2 ^ i = k) (h : u / k % 2 = 1 ∨ x = y) :
    (if u.testBit i then d else x) = if u.testBit i then d else y := by
  rcases h with h | h
  · have t : u.testBit i = true := by simp [Nat.testBit_eq_decide_div_mod_eq, e, h]
    rw [if_pos t, if_pos t]
  · rw [h]

@[simp] theorem State.but_mk {u : Nat} (s : State) (x0 : Regs) (x1 : Pins) (x2 : TimeSt) (x3 : SpineSt) (x4 : PairSt) (x5 : CairnSt) (x6 : Banks) (x7 : PathSt) (x8 : ExmSt) (x9 : LearnSt) (x10 : Tables) (x11 : BufSt) (x12 : QueueSt) (x13 : SMap SchedPort) (x14 : SMap GatePort) (x15 : LatSt) (x16 : FabSt) (x17 : HbmSt) (x18 : HostSt) (x19 : IcuSt) (x20 : MgtSt) (x21 : BootSt) (x22 : SecSt) (x23 : PwrSt) (x24 : PmuSt) (x25 : TdmSt) (x26 : ShdSt) (x27 : RstSt) (x28 : TapSt) (x29 : D2dSt) (x30 : Nat) (x31 : List Emit)
    (h0 : u / 1 % 2 = 1 ∨ x0 = s.regs)
    (h1 : u / 2 % 2 = 1 ∨ x1 = s.pins)
    (h2 : u / 4 % 2 = 1 ∨ x2 = s.time)
    (h3 : u / 8 % 2 = 1 ∨ x3 = s.spine)
    (h4 : u / 16 % 2 = 1 ∨ x4 = s.pair)
    (h5 : u / 32 % 2 = 1 ∨ x5 = s.cairn)
    (h6 : u / 64 % 2 = 1 ∨ x6 = s.banks)
    (h7 : u / 128 % 2 = 1 ∨ x7 = s.path)
    (h8 : u / 256 % 2 = 1 ∨ x8 = s.exm)
    (h9 : u / 512 % 2 = 1 ∨ x9 = s.learn)
    (h10 : u / 1024 % 2 = 1 ∨ x10 = s.tab)
    (h11 : u / 2048 % 2 = 1 ∨ x11 = s.buf)
    (h12 : u / 4096 % 2 = 1 ∨ x12 = s.q)
    (h13 : u / 8192 % 2 = 1 ∨ x13 = s.sched)
    (h14 : u / 16384 % 2 = 1 ∨ x14 = s.gates)
    (h15 : u / 32768 % 2 = 1 ∨ x15 = s.lat)
    (h16 : u / 65536 % 2 = 1 ∨ x16 = s.fab)
    (h17 : u / 131072 % 2 = 1 ∨ x17 = s.hbm)
    (h18 : u / 262144 % 2 = 1 ∨ x18 = s.host)
    (h19 : u / 524288 % 2 = 1 ∨ x19 = s.icu)
    (h20 : u / 1048576 % 2 = 1 ∨ x20 = s.mgt)
    (h21 : u / 2097152 % 2 = 1 ∨ x21 = s.boot)
    (h22 : u / 4194304 % 2 = 1 ∨ x22 = s.sec)
    (h23 : u / 8388608 % 2 = 1 ∨ x23 = s.pwr)
    (h24 : u / 16777216 % 2 = 1 ∨ x24 = s.pmu)
    (h25 : u / 33554432 % 2 = 1 ∨ x25 = s.tdm)
    (h26 : u / 67108864 % 2 = 1 ∨ x26 = s.shd)
    (h27 : u / 134217728 % 2 = 1 ∨ x27 = s.rst)
    (h28 : u / 268435456 % 2 = 1 ∨ x28 = s.tap)
    (h29 : u / 536870912 % 2 = 1 ∨ x29 = s.d2d)
    (h30 : u / 1073741824 % 2 = 1 ∨ x30 = s.fresh)
    (h31 : u / 2147483648 % 2 = 1 ∨ x31 = s.outbox) :
    (State.mk x0 x1 x2 x3 x4 x5 x6 x7 x8 x9 x10 x11 x12 x13 x14 x15 x16 x17 x18 x19 x20 x21 x22 x23 x24 x25 x26 x27 x28 x29 x30 x31 s.pending).but u = s.but u := by
  unfold State.but
  congr 1
  · exact State.but_part 0 1 rfl h0
  · exact State.but_part 1 2 rfl h1
  · exact State.but_part 2 4 rfl h2
  · exact State.but_part 3 8 rfl h3
  · exact State.but_part 4 16 rfl h4
  · exact State.but_part 5 32 rfl h5
  · exact State.but_part 6 64 rfl h6
  · exact State.but_part 7 128 rfl h7
  · exact State.but_part 8 256 rfl h8
  · exact State.but_part 9 512 rfl h9
  · exact State.but_part 10 1024 rfl h10
  · exact State.but_part 11 2048 rfl h11
  · exact State.but_part 12 4096 rfl h12
  · exact State.but_part 13 8192 rfl h13
  · exact State.but_part 14 16384 rfl h14
  · exact State.but_part 15 32768 rfl h15
  · exact State.but_part 16 65536 rfl h16
  · exact State.but_part 17 131072 rfl h17
  · exact State.but_part 18 262144 rfl h18
  · exact State.but_part 19 524288 rfl h19
  · exact State.but_part 20 1048576 rfl h20
  · exact State.but_part 21 2097152 rfl h21
  · exact State.but_part 22 4194304 rfl h22
  · exact State.but_part 23 8388608 rfl h23
  · exact State.but_part 24 16777216 rfl h24
  · exact State.but_part 25 33554432 rfl h25
  · exact State.but_part 26 67108864 rfl h26
  · exact State.but_part 27 134217728 rfl h27
  · exact State.but_part 28 268435456 rfl h28
  · exact State.but_part 29 536870912 rfl h29
  · exact State.but_part 30 1073741824 rfl h30
  · exact State.but_part 31 2147483648 rfl h31

theorem State.mask_sub {u m k : Nat} (hu : u &&& m = m) (h : m &&& k = k) : u &&& k = k := by
  rw [← h, ← Nat.and_assoc, hu]

theorem State.but_mono {a b : State} {m u : Nat} (hu : u &&& m = m) (h : a.but m = b.but m) : a.but u = b.but u := by
  have g : ∀ i, m.testBit i = true → u.testBit i = true := by
    intro i hi
    rw [← hu, Nat.testBit_and] at hi
    simp at hi
    exact hi.1
  have p : ∀ c : State, (c.but m).but u = c.but u := by
    intro c
    have q : ∀ {α : Type} (i : Nat) (d x : α), (if u.testBit i then d else if m.testBit i then d else x) = if u.testBit i then d else x := by
      intro α i d x
      cases hi : u.testBit i
      · have hm : m.testBit i = false := by
          cases hm : m.testBit i
          · rfl
          · rw [g i hm] at hi
            cases hi
        simp [hm]
      · rfl
    unfold State.but
    congr 1 <;> first | exact q _ _ _ | rfl
  rw [← p a, ← p b, h]

@[simp] theorem State.but_if {u : Nat} (c : Prop) [Decidable c] (a b : State) :
    (if c then a else b).but u = if c then a.but u else b.but u := by
  split <;> rfl

theorem State.but_fst {α : Type} (u : Nat) {x : State × α} {t : State} {a : α} (h : x = (t, a)) : t.but u = x.1.but u := by rw [h]

theorem State.but_snd {α : Type} (u : Nat) {x : α × State} {t : State} {a : α} (h : x = (a, t)) : t.but u = x.2.but u := by rw [h]

@[simp] theorem State.but_foldl {u : Nat} {α : Type} {f : State → α → State} (h : ∀ (t : State) (x : α), (f t x).but u = t.but u)
    (l : List α) (s : State) : (l.foldl f s).but u = s.but u := by
  induction l generalizing s with
  | nil => rfl
  | cons x l ih => rw [List.foldl_cons, ih, h]

@[simp] theorem State.but_foldl_fst {u : Nat} {α β : Type} {f : State × β → α → State × β}
    (h : ∀ (t : State × β) (x : α), (f t x).1.but u = t.1.but u)
    (l : List α) (s : State × β) : (l.foldl f s).1.but u = s.1.but u := by
  induction l generalizing s with
  | nil => rfl
  | cons x l ih => rw [List.foldl_cons, ih, h]

theorem State.of_but_regs {u : Nat} {s t : State} (h : t.but u = s.but u) (b : u / 1 % 2 = 0) : t.regs = s.regs := by
  have e := congrArg State.regs h
  have g : u.testBit 0 = false := by rw [Nat.testBit_eq_decide_div_mod_eq]; exact decide_eq_false (fun c => absurd (b.symm.trans c) (by decide))
  simpa only [State.but, g, Bool.false_eq_true, if_false] using e

theorem State.of_but_pins {u : Nat} {s t : State} (h : t.but u = s.but u) (b : u / 2 % 2 = 0) : t.pins = s.pins := by
  have e := congrArg State.pins h
  have g : u.testBit 1 = false := by rw [Nat.testBit_eq_decide_div_mod_eq]; exact decide_eq_false (fun c => absurd (b.symm.trans c) (by decide))
  simpa only [State.but, g, Bool.false_eq_true, if_false] using e

theorem State.of_but_time {u : Nat} {s t : State} (h : t.but u = s.but u) (b : u / 4 % 2 = 0) : t.time = s.time := by
  have e := congrArg State.time h
  have g : u.testBit 2 = false := by rw [Nat.testBit_eq_decide_div_mod_eq]; exact decide_eq_false (fun c => absurd (b.symm.trans c) (by decide))
  simpa only [State.but, g, Bool.false_eq_true, if_false] using e

theorem State.of_but_spine {u : Nat} {s t : State} (h : t.but u = s.but u) (b : u / 8 % 2 = 0) : t.spine = s.spine := by
  have e := congrArg State.spine h
  have g : u.testBit 3 = false := by rw [Nat.testBit_eq_decide_div_mod_eq]; exact decide_eq_false (fun c => absurd (b.symm.trans c) (by decide))
  simpa only [State.but, g, Bool.false_eq_true, if_false] using e

theorem State.of_but_pair {u : Nat} {s t : State} (h : t.but u = s.but u) (b : u / 16 % 2 = 0) : t.pair = s.pair := by
  have e := congrArg State.pair h
  have g : u.testBit 4 = false := by rw [Nat.testBit_eq_decide_div_mod_eq]; exact decide_eq_false (fun c => absurd (b.symm.trans c) (by decide))
  simpa only [State.but, g, Bool.false_eq_true, if_false] using e

theorem State.of_but_cairn {u : Nat} {s t : State} (h : t.but u = s.but u) (b : u / 32 % 2 = 0) : t.cairn = s.cairn := by
  have e := congrArg State.cairn h
  have g : u.testBit 5 = false := by rw [Nat.testBit_eq_decide_div_mod_eq]; exact decide_eq_false (fun c => absurd (b.symm.trans c) (by decide))
  simpa only [State.but, g, Bool.false_eq_true, if_false] using e

theorem State.of_but_banks {u : Nat} {s t : State} (h : t.but u = s.but u) (b : u / 64 % 2 = 0) : t.banks = s.banks := by
  have e := congrArg State.banks h
  have g : u.testBit 6 = false := by rw [Nat.testBit_eq_decide_div_mod_eq]; exact decide_eq_false (fun c => absurd (b.symm.trans c) (by decide))
  simpa only [State.but, g, Bool.false_eq_true, if_false] using e

theorem State.of_but_path {u : Nat} {s t : State} (h : t.but u = s.but u) (b : u / 128 % 2 = 0) : t.path = s.path := by
  have e := congrArg State.path h
  have g : u.testBit 7 = false := by rw [Nat.testBit_eq_decide_div_mod_eq]; exact decide_eq_false (fun c => absurd (b.symm.trans c) (by decide))
  simpa only [State.but, g, Bool.false_eq_true, if_false] using e

theorem State.of_but_exm {u : Nat} {s t : State} (h : t.but u = s.but u) (b : u / 256 % 2 = 0) : t.exm = s.exm := by
  have e := congrArg State.exm h
  have g : u.testBit 8 = false := by rw [Nat.testBit_eq_decide_div_mod_eq]; exact decide_eq_false (fun c => absurd (b.symm.trans c) (by decide))
  simpa only [State.but, g, Bool.false_eq_true, if_false] using e

theorem State.of_but_learn {u : Nat} {s t : State} (h : t.but u = s.but u) (b : u / 512 % 2 = 0) : t.learn = s.learn := by
  have e := congrArg State.learn h
  have g : u.testBit 9 = false := by rw [Nat.testBit_eq_decide_div_mod_eq]; exact decide_eq_false (fun c => absurd (b.symm.trans c) (by decide))
  simpa only [State.but, g, Bool.false_eq_true, if_false] using e

theorem State.of_but_tab {u : Nat} {s t : State} (h : t.but u = s.but u) (b : u / 1024 % 2 = 0) : t.tab = s.tab := by
  have e := congrArg State.tab h
  have g : u.testBit 10 = false := by rw [Nat.testBit_eq_decide_div_mod_eq]; exact decide_eq_false (fun c => absurd (b.symm.trans c) (by decide))
  simpa only [State.but, g, Bool.false_eq_true, if_false] using e

theorem State.of_but_buf {u : Nat} {s t : State} (h : t.but u = s.but u) (b : u / 2048 % 2 = 0) : t.buf = s.buf := by
  have e := congrArg State.buf h
  have g : u.testBit 11 = false := by rw [Nat.testBit_eq_decide_div_mod_eq]; exact decide_eq_false (fun c => absurd (b.symm.trans c) (by decide))
  simpa only [State.but, g, Bool.false_eq_true, if_false] using e

theorem State.of_but_q {u : Nat} {s t : State} (h : t.but u = s.but u) (b : u / 4096 % 2 = 0) : t.q = s.q := by
  have e := congrArg State.q h
  have g : u.testBit 12 = false := by rw [Nat.testBit_eq_decide_div_mod_eq]; exact decide_eq_false (fun c => absurd (b.symm.trans c) (by decide))
  simpa only [State.but, g, Bool.false_eq_true, if_false] using e

theorem State.of_but_sched {u : Nat} {s t : State} (h : t.but u = s.but u) (b : u / 8192 % 2 = 0) : t.sched = s.sched := by
  have e := congrArg State.sched h
  have g : u.testBit 13 = false := by rw [Nat.testBit_eq_decide_div_mod_eq]; exact decide_eq_false (fun c => absurd (b.symm.trans c) (by decide))
  simpa only [State.but, g, Bool.false_eq_true, if_false] using e

theorem State.of_but_gates {u : Nat} {s t : State} (h : t.but u = s.but u) (b : u / 16384 % 2 = 0) : t.gates = s.gates := by
  have e := congrArg State.gates h
  have g : u.testBit 14 = false := by rw [Nat.testBit_eq_decide_div_mod_eq]; exact decide_eq_false (fun c => absurd (b.symm.trans c) (by decide))
  simpa only [State.but, g, Bool.false_eq_true, if_false] using e

theorem State.of_but_lat {u : Nat} {s t : State} (h : t.but u = s.but u) (b : u / 32768 % 2 = 0) : t.lat = s.lat := by
  have e := congrArg State.lat h
  have g : u.testBit 15 = false := by rw [Nat.testBit_eq_decide_div_mod_eq]; exact decide_eq_false (fun c => absurd (b.symm.trans c) (by decide))
  simpa only [State.but, g, Bool.false_eq_true, if_false] using e

theorem State.of_but_fab {u : Nat} {s t : State} (h : t.but u = s.but u) (b : u / 65536 % 2 = 0) : t.fab = s.fab := by
  have e := congrArg State.fab h
  have g : u.testBit 16 = false := by rw [Nat.testBit_eq_decide_div_mod_eq]; exact decide_eq_false (fun c => absurd (b.symm.trans c) (by decide))
  simpa only [State.but, g, Bool.false_eq_true, if_false] using e

theorem State.of_but_hbm {u : Nat} {s t : State} (h : t.but u = s.but u) (b : u / 131072 % 2 = 0) : t.hbm = s.hbm := by
  have e := congrArg State.hbm h
  have g : u.testBit 17 = false := by rw [Nat.testBit_eq_decide_div_mod_eq]; exact decide_eq_false (fun c => absurd (b.symm.trans c) (by decide))
  simpa only [State.but, g, Bool.false_eq_true, if_false] using e

theorem State.of_but_host {u : Nat} {s t : State} (h : t.but u = s.but u) (b : u / 262144 % 2 = 0) : t.host = s.host := by
  have e := congrArg State.host h
  have g : u.testBit 18 = false := by rw [Nat.testBit_eq_decide_div_mod_eq]; exact decide_eq_false (fun c => absurd (b.symm.trans c) (by decide))
  simpa only [State.but, g, Bool.false_eq_true, if_false] using e

theorem State.of_but_icu {u : Nat} {s t : State} (h : t.but u = s.but u) (b : u / 524288 % 2 = 0) : t.icu = s.icu := by
  have e := congrArg State.icu h
  have g : u.testBit 19 = false := by rw [Nat.testBit_eq_decide_div_mod_eq]; exact decide_eq_false (fun c => absurd (b.symm.trans c) (by decide))
  simpa only [State.but, g, Bool.false_eq_true, if_false] using e

theorem State.of_but_mgt {u : Nat} {s t : State} (h : t.but u = s.but u) (b : u / 1048576 % 2 = 0) : t.mgt = s.mgt := by
  have e := congrArg State.mgt h
  have g : u.testBit 20 = false := by rw [Nat.testBit_eq_decide_div_mod_eq]; exact decide_eq_false (fun c => absurd (b.symm.trans c) (by decide))
  simpa only [State.but, g, Bool.false_eq_true, if_false] using e

theorem State.of_but_boot {u : Nat} {s t : State} (h : t.but u = s.but u) (b : u / 2097152 % 2 = 0) : t.boot = s.boot := by
  have e := congrArg State.boot h
  have g : u.testBit 21 = false := by rw [Nat.testBit_eq_decide_div_mod_eq]; exact decide_eq_false (fun c => absurd (b.symm.trans c) (by decide))
  simpa only [State.but, g, Bool.false_eq_true, if_false] using e

theorem State.of_but_sec {u : Nat} {s t : State} (h : t.but u = s.but u) (b : u / 4194304 % 2 = 0) : t.sec = s.sec := by
  have e := congrArg State.sec h
  have g : u.testBit 22 = false := by rw [Nat.testBit_eq_decide_div_mod_eq]; exact decide_eq_false (fun c => absurd (b.symm.trans c) (by decide))
  simpa only [State.but, g, Bool.false_eq_true, if_false] using e

theorem State.of_but_pwr {u : Nat} {s t : State} (h : t.but u = s.but u) (b : u / 8388608 % 2 = 0) : t.pwr = s.pwr := by
  have e := congrArg State.pwr h
  have g : u.testBit 23 = false := by rw [Nat.testBit_eq_decide_div_mod_eq]; exact decide_eq_false (fun c => absurd (b.symm.trans c) (by decide))
  simpa only [State.but, g, Bool.false_eq_true, if_false] using e

theorem State.of_but_pmu {u : Nat} {s t : State} (h : t.but u = s.but u) (b : u / 16777216 % 2 = 0) : t.pmu = s.pmu := by
  have e := congrArg State.pmu h
  have g : u.testBit 24 = false := by rw [Nat.testBit_eq_decide_div_mod_eq]; exact decide_eq_false (fun c => absurd (b.symm.trans c) (by decide))
  simpa only [State.but, g, Bool.false_eq_true, if_false] using e

theorem State.of_but_tdm {u : Nat} {s t : State} (h : t.but u = s.but u) (b : u / 33554432 % 2 = 0) : t.tdm = s.tdm := by
  have e := congrArg State.tdm h
  have g : u.testBit 25 = false := by rw [Nat.testBit_eq_decide_div_mod_eq]; exact decide_eq_false (fun c => absurd (b.symm.trans c) (by decide))
  simpa only [State.but, g, Bool.false_eq_true, if_false] using e

theorem State.of_but_shd {u : Nat} {s t : State} (h : t.but u = s.but u) (b : u / 67108864 % 2 = 0) : t.shd = s.shd := by
  have e := congrArg State.shd h
  have g : u.testBit 26 = false := by rw [Nat.testBit_eq_decide_div_mod_eq]; exact decide_eq_false (fun c => absurd (b.symm.trans c) (by decide))
  simpa only [State.but, g, Bool.false_eq_true, if_false] using e

theorem State.of_but_rst {u : Nat} {s t : State} (h : t.but u = s.but u) (b : u / 134217728 % 2 = 0) : t.rst = s.rst := by
  have e := congrArg State.rst h
  have g : u.testBit 27 = false := by rw [Nat.testBit_eq_decide_div_mod_eq]; exact decide_eq_false (fun c => absurd (b.symm.trans c) (by decide))
  simpa only [State.but, g, Bool.false_eq_true, if_false] using e

theorem State.of_but_tap {u : Nat} {s t : State} (h : t.but u = s.but u) (b : u / 268435456 % 2 = 0) : t.tap = s.tap := by
  have e := congrArg State.tap h
  have g : u.testBit 28 = false := by rw [Nat.testBit_eq_decide_div_mod_eq]; exact decide_eq_false (fun c => absurd (b.symm.trans c) (by decide))
  simpa only [State.but, g, Bool.false_eq_true, if_false] using e

theorem State.of_but_d2d {u : Nat} {s t : State} (h : t.but u = s.but u) (b : u / 536870912 % 2 = 0) : t.d2d = s.d2d := by
  have e := congrArg State.d2d h
  have g : u.testBit 29 = false := by rw [Nat.testBit_eq_decide_div_mod_eq]; exact decide_eq_false (fun c => absurd (b.symm.trans c) (by decide))
  simpa only [State.but, g, Bool.false_eq_true, if_false] using e

theorem State.of_but_fresh {u : Nat} {s t : State} (h : t.but u = s.but u) (b : u / 1073741824 % 2 = 0) : t.fresh = s.fresh := by
  have e := congrArg State.fresh h
  have g : u.testBit 30 = false := by rw [Nat.testBit_eq_decide_div_mod_eq]; exact decide_eq_false (fun c => absurd (b.symm.trans c) (by decide))
  simpa only [State.but, g, Bool.false_eq_true, if_false] using e

theorem State.of_but_outbox {u : Nat} {s t : State} (h : t.but u = s.but u) (b : u / 2147483648 % 2 = 0) : t.outbox = s.outbox := by
  have e := congrArg State.outbox h
  have g : u.testBit 31 = false := by rw [Nat.testBit_eq_decide_div_mod_eq]; exact decide_eq_false (fun c => absurd (b.symm.trans c) (by decide))
  simpa only [State.but, g, Bool.false_eq_true, if_false] using e


/-! ## Ops -/

@[simp] theorem State.wrp_but {u : Nat} (hu : u &&& 1 = 1) (s : State) (pg : Nat) (f : Sys2Proof.Machine.Fld) (i : Nat) (v : Nat) :
    (State.wrp s pg f i v).but u = s.but u := by
  refine State.but_mono hu ?_
  unfold State.wrp
  first
  | (simp; done)
  | ((try dsimp only); (repeat' split) <;> first
    | (simp; done)
    | (simp [*]; done)
    | (have e := State.but_fst 1 ‹_ = (_, _)›; simp at e; simp [e]; done)
    | (have e := State.but_snd 1 ‹_ = (_, _)›; simp at e; simp [e]; done))

@[simp] theorem State.wri_but {u : Nat} (hu : u &&& 1 = 1) (s : State) (f : Sys2Proof.Machine.Fld) (i : Nat) (v : Nat) :
    (State.wri s f i v).but u = s.but u := by
  refine State.but_mono hu ?_
  unfold State.wri
  first
  | (simp; done)
  | ((try dsimp only); (repeat' split) <;> first
    | (simp; done)
    | (simp [*]; done)
    | (have e := State.but_fst 1 ‹_ = (_, _)›; simp at e; simp [e]; done)
    | (have e := State.but_snd 1 ‹_ = (_, _)›; simp at e; simp [e]; done))

@[simp] theorem State.wr_but {u : Nat} (hu : u &&& 1 = 1) (s : State) (f : Sys2Proof.Machine.Fld) (v : Nat) :
    (State.wr s f v).but u = s.but u := by
  refine State.but_mono hu ?_
  unfold State.wr
  first
  | (simp; done)
  | ((try dsimp only); (repeat' split) <;> first
    | (simp; done)
    | (simp [*]; done)
    | (have e := State.but_fst 1 ‹_ = (_, _)›; simp at e; simp [e]; done)
    | (have e := State.but_snd 1 ‹_ = (_, _)›; simp at e; simp [e]; done))

@[simp] theorem State.wrb_but {u : Nat} (hu : u &&& 1 = 1) (s : State) (f : Sys2Proof.Machine.Fld) (b : Bool) :
    (State.wrb s f b).but u = s.but u := by
  refine State.but_mono hu ?_
  unfold State.wrb
  first
  | (simp; done)
  | ((try dsimp only); (repeat' split) <;> first
    | (simp; done)
    | (simp [*]; done)
    | (have e := State.but_fst 1 ‹_ = (_, _)›; simp at e; simp [e]; done)
    | (have e := State.but_snd 1 ‹_ = (_, _)›; simp at e; simp [e]; done))

@[simp] theorem State.wrStg_but {u : Nat} (hu : u &&& 1 = 1) (s : State) (pg : Nat) (f : Sys2Proof.Machine.Fld) (i : Nat) (v : Nat) :
    (State.wrStg s pg f i v).but u = s.but u := by
  refine State.but_mono hu ?_
  unfold State.wrStg
  first
  | (simp; done)
  | ((try dsimp only); (repeat' split) <;> first
    | (simp; done)
    | (simp [*]; done)
    | (have e := State.but_fst 1 ‹_ = (_, _)›; simp at e; simp [e]; done)
    | (have e := State.but_snd 1 ‹_ = (_, _)›; simp at e; simp [e]; done))

@[simp] theorem State.dropStg_but {u : Nat} (hu : u &&& 1 = 1) (s : State) (pg : Nat) (f : Sys2Proof.Machine.Fld) (i : Nat) :
    (State.dropStg s pg f i).but u = s.but u := by
  refine State.but_mono hu ?_
  unfold State.dropStg
  first
  | (simp; done)
  | ((try dsimp only); (repeat' split) <;> first
    | (simp; done)
    | (simp [*]; done)
    | (have e := State.but_fst 1 ‹_ = (_, _)›; simp at e; simp [e]; done)
    | (have e := State.but_snd 1 ‹_ = (_, _)›; simp at e; simp [e]; done))

@[simp] theorem State.addp_but {u : Nat} (hu : u &&& 1 = 1) (s : State) (pg : Nat) (f : Sys2Proof.Machine.Fld) (i : Nat) (n : Nat) :
    (State.addp s pg f i n).but u = s.but u := by
  refine State.but_mono hu ?_
  unfold State.addp
  first
  | (simp; done)
  | ((try dsimp only); (repeat' split) <;> first
    | (simp; done)
    | (simp [*]; done)
    | (have e := State.but_fst 1 ‹_ = (_, _)›; simp at e; simp [e]; done)
    | (have e := State.but_snd 1 ‹_ = (_, _)›; simp at e; simp [e]; done))

@[simp] theorem State.satp_but {u : Nat} (hu : u &&& 1 = 1) (s : State) (pg : Nat) (f : Sys2Proof.Machine.Fld) (i : Nat) :
    (State.satp s pg f i).but u = s.but u := by
  refine State.but_mono hu ?_
  unfold State.satp
  first
  | (simp; done)
  | ((try dsimp only); (repeat' split) <;> first
    | (simp; done)
    | (simp [*]; done)
    | (have e := State.but_fst 1 ‹_ = (_, _)›; simp at e; simp [e]; done)
    | (have e := State.but_snd 1 ‹_ = (_, _)›; simp at e; simp [e]; done))

@[simp] theorem State.setChan_but {u : Nat} (hu : u &&& 4 = 4) (s : State) (n : Nat) (c : Sys2Proof.Machine.Channel) :
    (State.setChan s n c).but u = s.but u := by
  refine State.but_mono hu ?_
  unfold State.setChan
  first
  | (simp; done)
  | ((try dsimp only); (repeat' split) <;> first
    | (simp; done)
    | (simp [*]; done)
    | (have e := State.but_fst 4 ‹_ = (_, _)›; simp at e; simp [e]; done)
    | (have e := State.but_snd 4 ‹_ = (_, _)›; simp at e; simp [e]; done))

@[simp] theorem State.emit_but {u : Nat} (hu : u &&& 2147483648 = 2147483648) (s : State) (e : Sys2Proof.Machine.Emit) :
    (State.emit s e).but u = s.but u := by
  refine State.but_mono hu ?_
  unfold State.emit
  first
  | (simp; done)
  | ((try dsimp only); (repeat' split) <;> first
    | (simp; done)
    | (simp [*]; done)
    | (have e := State.but_fst 2147483648 ‹_ = (_, _)›; simp at e; simp [e]; done)
    | (have e := State.but_snd 2147483648 ‹_ = (_, _)›; simp at e; simp [e]; done))

@[simp] theorem State.draw_but {u : Nat} (hu : u &&& 1073741824 = 1073741824) (s : State) :
    (State.draw s).but u = s.but u := by
  refine State.but_mono hu ?_
  unfold State.draw
  first
  | (simp; done)
  | ((try dsimp only); (repeat' split) <;> first
    | (simp; done)
    | (simp [*]; done)
    | (have e := State.but_fst 1073741824 ‹_ = (_, _)›; simp at e; simp [e]; done)
    | (have e := State.but_snd 1073741824 ‹_ = (_, _)›; simp at e; simp [e]; done))

/-! ## Flags -/

@[simp] theorem State.evt_but {u : Nat} (hu : u &&& 1 = 1) (s : State) (pg : Nat) (k : Nat) :
    (State.evt s pg k).but u = s.but u := by
  refine State.but_mono hu ?_
  unfold State.evt
  first
  | (simp; done)
  | ((try dsimp only); (repeat' split) <;> first
    | (simp; done)
    | (simp [*]; done)
    | (have e := State.but_fst 1 ‹_ = (_, _)›; simp at e; simp [e]; done)
    | (have e := State.but_snd 1 ‹_ = (_, _)›; simp at e; simp [e]; done))

@[simp] theorem State.eventRecord_but {u : Nat} (hu : u &&& 2147483649 = 2147483649) (s : State) (ring : Nat) (rec : Sys2Proof.Bytes) :
    (State.eventRecord s ring rec).but u = s.but u := by
  refine State.but_mono hu ?_
  unfold State.eventRecord
  first
  | (simp; done)
  | ((try dsimp only); (repeat' split) <;> first
    | (simp; done)
    | (simp [*]; done)
    | (have e := State.but_fst 2147483649 ‹_ = (_, _)›; simp at e; simp [e]; done)
    | (have e := State.but_snd 2147483649 ‹_ = (_, _)›; simp at e; simp [e]; done))

@[simp] theorem State.troubleRecord_but {u : Nat} (hu : u &&& 2147483649 = 2147483649) (s : State) (kind : Nat) (pg : Nat) (k : Nat) (window : Nat) (value : Nat) (loc : Nat) :
    (State.troubleRecord s kind pg k window value loc).but u = s.but u := by
  refine State.but_mono hu ?_
  unfold State.troubleRecord
  first
  | (simp; done)
  | ((try dsimp only); (repeat' split) <;> first
    | (simp; done)
    | (simp [*]; done)
    | (have e := State.but_fst 2147483649 ‹_ = (_, _)›; simp at e; simp [e]; done)
    | (have e := State.but_snd 2147483649 ‹_ = (_, _)›; simp at e; simp [e]; done))

@[simp] theorem State.pmuAdd_but {u : Nat} (hu : u &&& 16777216 = 16777216) (s : State) (n : Nat) (amt : Nat) :
    (State.pmuAdd s n amt).but u = s.but u := by
  refine State.but_mono hu ?_
  unfold State.pmuAdd
  first
  | (simp; done)
  | ((try dsimp only); (repeat' split) <;> first
    | (simp; done)
    | (simp [*]; done)
    | (have e := State.but_fst 16777216 ‹_ = (_, _)›; simp at e; simp [e]; done)
    | (have e := State.but_snd 16777216 ‹_ = (_, _)›; simp at e; simp [e]; done))

@[simp] theorem State.pmuApply_but {u : Nat} (hu : u &&& 16777216 = 16777216) (s : State) (e : Sys2Proof.Machine.PmuEv) :
    (State.pmuApply s e).1.but u = s.but u := by
  refine State.but_mono hu ?_
  unfold State.pmuApply
  first
  | (simp; done)
  | ((try dsimp only); (repeat' split) <;> first
    | (simp; done)
    | (simp [*]; done)
    | (have e := State.but_fst 16777216 ‹_ = (_, _)›; simp at e; simp [e]; done)
    | (have e := State.but_snd 16777216 ‹_ = (_, _)›; simp at e; simp [e]; done))

@[simp] theorem State.windowCount_but {u : Nat} (hu : u &&& 2147483649 = 2147483649) (s : State) (pg : Nat) (k : Nat) (n : Nat) :
    (State.windowCount s pg k n).but u = s.but u := by
  refine State.but_mono hu ?_
  unfold State.windowCount
  first
  | (simp; done)
  | ((try dsimp only); (repeat' split) <;> first
    | (simp; done)
    | (simp [*]; done)
    | (have e := State.but_fst 2147483649 ‹_ = (_, _)›; simp at e; simp [e]; done)
    | (have e := State.but_snd 2147483649 ‹_ = (_, _)›; simp at e; simp [e]; done))

@[simp] theorem State.trbSet_but {u : Nat} (hu : u &&& 1 = 1) (s : State) (pg : Nat) (k : Nat) (v : Nat) :
    (State.trbSet s pg k v).but u = s.but u := by
  refine State.but_mono hu ?_
  unfold State.trbSet
  first
  | (simp; done)
  | ((try dsimp only); (repeat' split) <;> first
    | (simp; done)
    | (simp [*]; done)
    | (have e := State.but_fst 1 ‹_ = (_, _)›; simp at e; simp [e]; done)
    | (have e := State.but_snd 1 ‹_ = (_, _)›; simp at e; simp [e]; done))

@[simp] theorem State.trbCore_but {u : Nat} (hu : u &&& 2147483649 = 2147483649) (s : State) (pg : Nat) (k : Nat) :
    (State.trbCore s pg k).but u = s.but u := by
  refine State.but_mono hu ?_
  unfold State.trbCore
  first
  | (simp; done)
  | ((try dsimp only); (repeat' split) <;> first
    | (simp; done)
    | (simp [*]; done)
    | (have e := State.but_fst 2147483649 ‹_ = (_, _)›; simp at e; simp [e]; done)
    | (have e := State.but_snd 2147483649 ‹_ = (_, _)›; simp at e; simp [e]; done))

@[simp] theorem State.pmuEvent_but {u : Nat} (hu : u &&& 2164260865 = 2164260865) (fuel : Nat) (s : State) (e : PmuEv) :
    (State.pmuEvent fuel s e).but u = s.but u := by
  refine State.but_mono hu ?_
  induction fuel generalizing s e with
  | zero => rfl
  | succ k ih =>
    unfold State.pmuEvent
    split
    · simp
    · rw [State.but_foldl (fun t x => by rw [ih]; simp)]
      simp

theorem State.CountsTo.but {s t : State} (h : s.CountsTo t) {u : Nat} (hu : u &&& 3238002689 = 3238002689) : t.but u = s.but u := by
  refine State.but_mono hu ?_
  rw [h.rest]
  simp

@[simp] theorem State.pmu'_but {u : Nat} (hu : u &&& 2164260865 = 2164260865) (s : State) (pg : Nat) (loc : Nat) (amt : Nat) (master : Option Nat) (cls : Option Nat) (addr : Option Nat) :
    (State.pmu' s pg loc amt master cls addr).but u = s.but u := by
  refine State.but_mono hu ?_
  unfold State.pmu'
  first
  | (simp; done)
  | ((try dsimp only); (repeat' split) <;> first
    | (simp; done)
    | (simp [*]; done)
    | (have e := State.but_fst 2164260865 ‹_ = (_, _)›; simp at e; simp [e]; done)
    | (have e := State.but_snd 2164260865 ‹_ = (_, _)›; simp at e; simp [e]; done))

@[simp] theorem State.trb_but {u : Nat} (hu : u &&& 2164260865 = 2164260865) (s : State) (pg : Nat) (k : Nat) :
    (State.trb s pg k).but u = s.but u := by
  refine State.but_mono hu ?_
  unfold State.trb
  first
  | (simp; done)
  | ((try dsimp only); (repeat' split) <;> first
    | (simp; done)
    | (simp [*]; done)
    | (have e := State.but_fst 2164260865 ‹_ = (_, _)›; simp at e; simp [e]; done)
    | (have e := State.but_snd 2164260865 ‹_ = (_, _)›; simp at e; simp [e]; done))

@[simp] theorem State.trbN_but {u : Nat} (hu : u &&& 2164260865 = 2164260865) (s : State) (pg : Nat) (k : Nat) (n : Nat) :
    (State.trbN s pg k n).but u = s.but u := by
  refine State.but_mono hu ?_
  unfold State.trbN
  first
  | (simp; done)
  | ((try dsimp only); (repeat' split) <;> first
    | (simp; done)
    | (simp [*]; done)
    | (have e := State.but_fst 2164260865 ‹_ = (_, _)›; simp at e; simp [e]; done)
    | (have e := State.but_snd 2164260865 ‹_ = (_, _)›; simp at e; simp [e]; done))

@[simp] theorem State.statEvent_but {u : Nat} (hu : u &&& 2164260865 = 2164260865) (s : State) (pg : Nat) (f : Sys2Proof.Machine.Fld) (i : Nat) (n : Nat) :
    (State.statEvent s pg f i n).but u = s.but u := by
  refine State.but_mono hu ?_
  unfold State.statEvent
  first
  | (simp; done)
  | ((try dsimp only); (repeat' split) <;> first
    | (simp; done)
    | (simp [*]; done)
    | (have e := State.but_fst 2164260865 ‹_ = (_, _)›; simp at e; simp [e]; done)
    | (have e := State.but_snd 2164260865 ‹_ = (_, _)›; simp at e; simp [e]; done))

@[simp] theorem State.stat_but {u : Nat} (hu : u &&& 2164260865 = 2164260865) (s : State) (pg : Nat) (f : Sys2Proof.Machine.Fld) (i : Nat) (n : Nat) :
    (State.stat s pg f i n).but u = s.but u := by
  refine State.but_mono hu ?_
  unfold State.stat
  first
  | (simp; done)
  | ((try dsimp only); (repeat' split) <;> first
    | (simp; done)
    | (simp [*]; done)
    | (have e := State.but_fst 2164260865 ‹_ = (_, _)›; simp at e; simp [e]; done)
    | (have e := State.but_snd 2164260865 ‹_ = (_, _)›; simp at e; simp [e]; done))

@[simp] theorem State.windowEnd_but {u : Nat} (hu : u &&& 1 = 1) (s : State) (pg : Nat) (n : Nat) :
    (State.windowEnd s pg n).but u = s.but u := by
  refine State.but_mono hu ?_
  unfold State.windowEnd
  first
  | (simp; done)
  | ((try dsimp only); (repeat' split) <;> first
    | (simp; done)
    | (simp [*]; done)
    | (have e := State.but_fst 1 ‹_ = (_, _)›; simp at e; simp [e]; done)
    | (have e := State.but_snd 1 ‹_ = (_, _)›; simp at e; simp [e]; done))

@[simp] theorem State.memCorrected_but {u : Nat} (hu : u &&& 2164260865 = 2164260865) (s : State) (pg : Nat) (k : Nat) (loc : Sys2Proof.Machine.Locator) :
    (State.memCorrected s pg k loc).but u = s.but u := by
  refine State.but_mono hu ?_
  unfold State.memCorrected
  first
  | (simp; done)
  | ((try dsimp only); (repeat' split) <;> first
    | (simp; done)
    | (simp [*]; done)
    | (have e := State.but_fst 2164260865 ‹_ = (_, _)›; simp at e; simp [e]; done)
    | (have e := State.but_snd 2164260865 ‹_ = (_, _)›; simp at e; simp [e]; done))

@[simp] theorem State.memUncorrectable_but {u : Nat} (hu : u &&& 2164260865 = 2164260865) (s : State) (pg : Nat) (k : Nat) (loc : Sys2Proof.Machine.Locator) :
    (State.memUncorrectable s pg k loc).but u = s.but u := by
  refine State.but_mono hu ?_
  unfold State.memUncorrectable
  first
  | (simp; done)
  | ((try dsimp only); (repeat' split) <;> first
    | (simp; done)
    | (simp [*]; done)
    | (have e := State.but_fst 2164260865 ‹_ = (_, _)›; simp at e; simp [e]; done)
    | (have e := State.but_snd 2164260865 ‹_ = (_, _)›; simp at e; simp [e]; done))

@[simp] theorem State.enterBoot_but {u : Nat} (hu : u &&& 8388611 = 8388611) (s : State) (cause : Nat) :
    (State.enterBoot s cause).but u = s.but u := by
  refine State.but_mono hu ?_
  unfold State.enterBoot
  first
  | (simp; done)
  | ((try dsimp only); (repeat' split) <;> first
    | (simp; done)
    | (simp [*]; done)
    | (have e := State.but_fst 8388611 ‹_ = (_, _)›; simp at e; simp [e]; done)
    | (have e := State.but_snd 8388611 ‹_ = (_, _)›; simp at e; simp [e]; done))

@[simp] theorem State.wake_but {u : Nat} (hu : u &&& 8388611 = 8388611) (s : State) (src : Nat) :
    (State.wake s src).but u = s.but u := by
  refine State.but_mono hu ?_
  unfold State.wake
  first
  | (simp; done)
  | ((try dsimp only); (repeat' split) <;> first
    | (simp; done)
    | (simp [*]; done)
    | (have e := State.but_fst 8388611 ‹_ = (_, _)›; simp at e; simp [e]; done)
    | (have e := State.but_snd 8388611 ‹_ = (_, _)›; simp at e; simp [e]; done))

@[simp] theorem State.setPend_but {u : Nat} (hu : u &&& 8912899 = 8912899) (s : State) (src : Nat) :
    (State.setPend s src).but u = s.but u := by
  refine State.but_mono hu ?_
  unfold State.setPend
  first
  | (simp; done)
  | ((try dsimp only); (repeat' split) <;> first
    | (simp; done)
    | (simp [*]; done)
    | (have e := State.but_fst 8912899 ‹_ = (_, _)›; simp at e; simp [e]; done)
    | (have e := State.but_snd 8912899 ‹_ = (_, _)›; simp at e; simp [e]; done))

/-! ## Drq -/

@[simp] theorem State.drqTake_but {u : Nat} (hu : u &&& 2164391937 = 2164391937) (s : State) (r : Sys2Proof.Machine.HbmReq) :
    (State.drqTake s r).but u = s.but u := by
  refine State.but_mono hu ?_
  unfold State.drqTake
  first
  | (simp; done)
  | ((try dsimp only); (repeat' split) <;> first
    | (simp; done)
    | (simp [*]; done)
    | (have e := State.but_fst 2164391937 ‹_ = (_, _)›; simp at e; simp [e]; done)
    | (have e := State.but_snd 2164391937 ‹_ = (_, _)›; simp at e; simp [e]; done))

@[simp] theorem drqAdmit_but {u : Nat} (hu : u &&& 2164391937 = 2164391937) (l : List HbmReq) (s : State) (blocked : List Nat) (kept : List HbmReq) :
    (drqAdmit l s blocked kept).1.but u = s.but u := by
  refine State.but_mono hu ?_
  induction l generalizing s blocked kept with
  | nil => rfl
  | cons r t ih =>
    unfold drqAdmit
    split
    · exact ih _ _ _
    · rw [ih]; simp

@[simp] theorem State.drqSettle_but {u : Nat} (hu : u &&& 2164391937 = 2164391937) (s : State) :
    (State.drqSettle s).but u = s.but u := by
  refine State.but_mono hu ?_
  unfold State.drqSettle
  first
  | (simp; done)
  | ((try dsimp only); (repeat' split) <;> first
    | (simp; done)
    | (simp [*]; done)
    | (have e := State.but_fst 2164391937 ‹_ = (_, _)›; simp at e; simp [e]; done)
    | (have e := State.but_snd 2164391937 ‹_ = (_, _)›; simp at e; simp [e]; done))

@[simp] theorem State.drqAsk_but {u : Nat} (hu : u &&& 2164391937 = 2164391937) (s : State) (port : Nat) (addr : Nat) (write : Bool) (part : Bool) :
    (State.drqAsk s port addr write part).but u = s.but u := by
  refine State.but_mono hu ?_
  unfold State.drqAsk
  first
  | (simp; done)
  | ((try dsimp only); (repeat' split) <;> first
    | (simp; done)
    | (simp [*]; done)
    | (have e := State.but_fst 2164391937 ‹_ = (_, _)›; simp at e; simp [e]; done)
    | (have e := State.but_snd 2164391937 ‹_ = (_, _)›; simp at e; simp [e]; done))

@[simp] theorem State.drqWords_but {u : Nat} (hu : u &&& 2164391937 = 2164391937) (n : Nat) (s : State) (port lo hi w : Nat) (write : Bool) :
    (State.drqWords n s port lo hi w write).but u = s.but u := by
  refine State.but_mono hu ?_
  induction n generalizing s w with
  | zero => rfl
  | succ k ih =>
    unfold State.drqWords
    rw [ih]; simp

@[simp] theorem State.drqAccess_but {u : Nat} (hu : u &&& 2164391937 = 2164391937) (s : State) (port : Nat) (addr : Nat) (len : Nat) (write : Bool) :
    (State.drqAccess s port addr len write).but u = s.but u := by
  refine State.but_mono hu ?_
  unfold State.drqAccess
  first
  | (simp; done)
  | ((try dsimp only); (repeat' split) <;> first
    | (simp; done)
    | (simp [*]; done)
    | (have e := State.but_fst 2164391937 ‹_ = (_, _)›; simp at e; simp [e]; done)
    | (have e := State.but_snd 2164391937 ‹_ = (_, _)›; simp at e; simp [e]; done))

@[simp] theorem State.drqSomewhere_but {u : Nat} (hu : u &&& 3238133761 = 3238133761) (s : State) (port : Nat) (base : Nat) (size : Nat) (len : Nat) (write : Bool) :
    (State.drqSomewhere s port base size len write).but u = s.but u := by
  refine State.but_mono hu ?_
  unfold State.drqSomewhere
  first
  | (simp; done)
  | ((try dsimp only); (repeat' split) <;> first
    | (simp; done)
    | (simp [*]; done)
    | (have e := State.but_fst 3238133761 ‹_ = (_, _)›; simp at e; simp [e]; done)
    | (have e := State.but_snd 3238133761 ‹_ = (_, _)›; simp at e; simp [e]; done))

@[simp] theorem State.drqDesc_but {u : Nat} (hu : u &&& 3238133761 = 3238133761) (s : State) (write : Bool) :
    (State.drqDesc s write).but u = s.but u := by
  refine State.but_mono hu ?_
  unfold State.drqDesc
  first
  | (simp; done)
  | ((try dsimp only); (repeat' split) <;> first
    | (simp; done)
    | (simp [*]; done)
    | (have e := State.but_fst 3238133761 ‹_ = (_, _)›; simp at e; simp [e]; done)
    | (have e := State.but_snd 3238133761 ‹_ = (_, _)›; simp at e; simp [e]; done))

/-! ## Access -/

@[simp] theorem State.accessEvent_but {u : Nat} (hu : u &&& 3238002689 = 3238002689) (s : State) (m : Sys2Proof.Master) (pg : Nat) (off : Nat) (loc : Nat) :
    (State.accessEvent s m pg off loc).but u = s.but u := by
  refine State.but_mono hu ?_
  unfold State.accessEvent
  first
  | (simp; done)
  | ((try dsimp only); (repeat' split) <;> first
    | (simp; done)
    | (simp [*]; done)
    | (have e := State.but_fst 3238002689 ‹_ = (_, _)›; simp at e; simp [e]; done)
    | (have e := State.but_snd 3238002689 ‹_ = (_, _)›; simp at e; simp [e]; done))

@[simp] theorem State.ur_but {u : Nat} (hu : u &&& 3238002689 = 3238002689) (s : State) (m : Sys2Proof.Master) (pg : Nat) (off : Nat) :
    (State.ur s m pg off).but u = s.but u := by
  refine State.but_mono hu ?_
  unfold State.ur
  first
  | (simp; done)
  | ((try dsimp only); (repeat' split) <;> first
    | (simp; done)
    | (simp [*]; done)
    | (have e := State.but_fst 3238002689 ‹_ = (_, _)›; simp at e; simp [e]; done)
    | (have e := State.but_snd 3238002689 ‹_ = (_, _)›; simp at e; simp [e]; done))

@[simp] theorem State.writeInClear_but {u : Nat} (hu : u &&& 2164260865 = 2164260865) (s : State) (m : Sys2Proof.Master) (pg : Nat) :
    (State.writeInClear s m pg).but u = s.but u := by
  refine State.but_mono hu ?_
  unfold State.writeInClear
  first
  | (simp; done)
  | ((try dsimp only); (repeat' split) <;> first
    | (simp; done)
    | (simp [*]; done)
    | (have e := State.but_fst 2164260865 ‹_ = (_, _)›; simp at e; simp [e]; done)
    | (have e := State.but_snd 2164260865 ‹_ = (_, _)›; simp at e; simp [e]; done))

@[simp] theorem State.onWrite_but {u : Nat} (hu : u &&& 3238002689 = 3238002689) (s : State) (m : Master) (pg off : Nat) (k : State → State)
    (h : ∀ t, (k t).but u = t.but u) : (s.onWrite m pg off k).but u = s.but u := by
  unfold State.onWrite
  have e : ∀ e, (s.accessEvent m pg off e).but u = s.but u :=
    fun e => State.but_mono hu (by simp)
  split
  · exact State.but_mono hu (by simp)
  · exact State.but_mono hu (by simp)
  · exact State.but_mono hu (by simp)
  · rw [h, e]

@[simp] theorem State.onRead_but {u : Nat} (hu : u &&& 3238002689 = 3238002689) (s : State) (m : Master) (pg off : Nat) (k : State → Nat × State)
    (h : ∀ t, (k t).2.but u = t.but u) : (s.onRead m pg off k).but u = s.but u := by
  unfold State.onRead
  have e : ∀ e, (s.accessEvent m pg off e).but u = s.but u :=
    fun e => State.but_mono hu (by simp)
  have em : ∀ (t : State) x, (t.emit x).but u = t.but u := fun t x => State.but_mono hu (by simp)
  split
  · exact State.but_mono hu (by simp)
  · exact State.but_mono hu (by simp)
  · exact State.but_mono hu (by simp)
  · dsimp only
    rw [em, h, e]

@[simp] theorem State.stageWrite_but {u : Nat} (hu : u &&& 2164260865 = 2164260865) (s : State) (pg : Nat) (f : Sys2Proof.Machine.Fld) (i : Nat) (v : Nat) :
    (State.stageWrite s pg f i v).but u = s.but u := by
  refine State.but_mono hu ?_
  unfold State.stageWrite
  first
  | (simp; done)
  | ((try dsimp only); (repeat' split) <;> first
    | (simp; done)
    | (simp [*]; done)
    | (have e := State.but_fst 2164260865 ‹_ = (_, _)›; simp at e; simp [e]; done)
    | (have e := State.but_snd 2164260865 ‹_ = (_, _)›; simp at e; simp [e]; done))

@[simp] theorem State.readFailed_but {u : Nat} (hu : u &&& 262144 = 262144) (s : State) :
    (State.readFailed s).but u = s.but u := by
  refine State.but_mono hu ?_
  unfold State.readFailed
  first
  | (simp; done)
  | ((try dsimp only); (repeat' split) <;> first
    | (simp; done)
    | (simp [*]; done)
    | (have e := State.but_fst 262144 ‹_ = (_, _)›; simp at e; simp [e]; done)
    | (have e := State.but_snd 262144 ‹_ = (_, _)›; simp at e; simp [e]; done))

@[simp] theorem State.latchHigh_but {u : Nat} (hu : u &&& 1 = 1) (s : State) (m : Sys2Proof.Master) (pg : Nat) (v : Nat) :
    (State.latchHigh s m pg v).but u = s.but u := by
  refine State.but_mono hu ?_
  unfold State.latchHigh
  first
  | (simp; done)
  | ((try dsimp only); (repeat' split) <;> first
    | (simp; done)
    | (simp [*]; done)
    | (have e := State.but_fst 1 ‹_ = (_, _)›; simp at e; simp [e]; done)
    | (have e := State.but_snd 1 ‹_ = (_, _)›; simp at e; simp [e]; done))

@[simp] theorem State.keepLow_but {u : Nat} (hu : u &&& 1 = 1) (s : State) (m : Sys2Proof.Master) (addr : Nat) (v : Nat) :
    (State.keepLow s m addr v).but u = s.but u := by
  refine State.but_mono hu ?_
  unfold State.keepLow
  first
  | (simp; done)
  | ((try dsimp only); (repeat' split) <;> first
    | (simp; done)
    | (simp [*]; done)
    | (have e := State.but_fst 1 ‹_ = (_, _)›; simp at e; simp [e]; done)
    | (have e := State.but_snd 1 ‹_ = (_, _)›; simp at e; simp [e]; done))

/-! ## Time -/

@[simp] theorem State.tReject_but {u : Nat} (hu : u &&& 2164260865 = 2164260865) (s : State) :
    (State.tReject s).but u = s.but u := by
  refine State.but_mono hu ?_
  unfold State.tReject
  first
  | (simp; done)
  | ((try dsimp only); (repeat' split) <;> first
    | (simp; done)
    | (simp [*]; done)
    | (have e := State.but_fst 2164260865 ‹_ = (_, _)›; simp at e; simp [e]; done)
    | (have e := State.but_snd 2164260865 ‹_ = (_, _)›; simp at e; simp [e]; done))

@[simp] theorem State.loadAdj_but {u : Nat} (hu : u &&& 4 = 4) (s : State) (k : Int) :
    (State.loadAdj s k).but u = s.but u := by
  refine State.but_mono hu ?_
  unfold State.loadAdj
  first
  | (simp; done)
  | ((try dsimp only); (repeat' split) <;> first
    | (simp; done)
    | (simp [*]; done)
    | (have e := State.but_fst 4 ‹_ = (_, _)›; simp at e; simp [e]; done)
    | (have e := State.but_snd 4 ‹_ = (_, _)›; simp at e; simp [e]; done))

@[simp] theorem State.servoCountNow_but {u : Nat} (hu : u &&& 4 = 4) (s : State) :
    (State.servoCountNow s).but u = s.but u := by
  refine State.but_mono hu ?_
  unfold State.servoCountNow
  first
  | (simp; done)
  | ((try dsimp only); (repeat' split) <;> first
    | (simp; done)
    | (simp [*]; done)
    | (have e := State.but_fst 4 ‹_ = (_, _)›; simp at e; simp [e]; done)
    | (have e := State.but_snd 4 ‹_ = (_, _)›; simp at e; simp [e]; done))

@[simp] theorem State.enterHoldover_but {u : Nat} (hu : u &&& 5 = 5) (s : State) :
    (State.enterHoldover s).but u = s.but u := by
  refine State.but_mono hu ?_
  unfold State.enterHoldover
  first
  | (simp; done)
  | ((try dsimp only); (repeat' split) <;> first
    | (simp; done)
    | (simp [*]; done)
    | (have e := State.but_fst 5 ‹_ = (_, _)›; simp at e; simp [e]; done)
    | (have e := State.but_snd 5 ‹_ = (_, _)›; simp at e; simp [e]; done))

@[simp] theorem State.holdOrFree_but {u : Nat} (hu : u &&& 5 = 5) (s : State) :
    (State.holdOrFree s).but u = s.but u := by
  refine State.but_mono hu ?_
  unfold State.holdOrFree
  first
  | (simp; done)
  | ((try dsimp only); (repeat' split) <;> first
    | (simp; done)
    | (simp [*]; done)
    | (have e := State.but_fst 5 ‹_ = (_, _)›; simp at e; simp [e]; done)
    | (have e := State.but_snd 5 ‹_ = (_, _)›; simp at e; simp [e]; done))

@[simp] theorem State.timeFree_but {u : Nat} (hu : u &&& 5 = 5) (s : State) :
    (State.timeFree s).but u = s.but u := by
  refine State.but_mono hu ?_
  unfold State.timeFree
  first
  | (simp; done)
  | ((try dsimp only); (repeat' split) <;> first
    | (simp; done)
    | (simp [*]; done)
    | (have e := State.but_fst 5 ‹_ = (_, _)›; simp at e; simp [e]; done)
    | (have e := State.but_snd 5 ‹_ = (_, _)›; simp at e; simp [e]; done))

@[simp] theorem State.timeAcquire_but {u : Nat} (hu : u &&& 2164260869 = 2164260869) (s : State) (ref : Nat) :
    (State.timeAcquire s ref).but u = s.but u := by
  refine State.but_mono hu ?_
  unfold State.timeAcquire
  first
  | (simp; done)
  | ((try dsimp only); (repeat' split) <;> first
    | (simp; done)
    | (simp [*]; done)
    | (have e := State.but_fst 2164260869 ‹_ = (_, _)›; simp at e; simp [e]; done)
    | (have e := State.but_snd 2164260869 ‹_ = (_, _)›; simp at e; simp [e]; done))

@[simp] theorem State.enterLocked_but {u : Nat} (hu : u &&& 5 = 5) (s : State) :
    (State.enterLocked s).but u = s.but u := by
  refine State.but_mono hu ?_
  unfold State.enterLocked
  first
  | (simp; done)
  | ((try dsimp only); (repeat' split) <;> first
    | (simp; done)
    | (simp [*]; done)
    | (have e := State.but_fst 5 ‹_ = (_, _)›; simp at e; simp [e]; done)
    | (have e := State.but_snd 5 ‹_ = (_, _)›; simp at e; simp [e]; done))

@[simp] theorem State.timeLock_but {u : Nat} (hu : u &&& 2164260869 = 2164260869) (s : State) :
    (State.timeLock s).but u = s.but u := by
  refine State.but_mono hu ?_
  unfold State.timeLock
  first
  | (simp; done)
  | ((try dsimp only); (repeat' split) <;> first
    | (simp; done)
    | (simp [*]; done)
    | (have e := State.but_fst 2164260869 ‹_ = (_, _)›; simp at e; simp [e]; done)
    | (have e := State.but_snd 2164260869 ‹_ = (_, _)›; simp at e; simp [e]; done))

@[simp] theorem State.timeHold_but {u : Nat} (hu : u &&& 2164260869 = 2164260869) (s : State) :
    (State.timeHold s).but u = s.but u := by
  refine State.but_mono hu ?_
  unfold State.timeHold
  first
  | (simp; done)
  | ((try dsimp only); (repeat' split) <;> first
    | (simp; done)
    | (simp [*]; done)
    | (have e := State.but_fst 2164260869 ‹_ = (_, _)›; simp at e; simp [e]; done)
    | (have e := State.but_snd 2164260869 ‹_ = (_, _)›; simp at e; simp [e]; done))

@[simp] theorem State.timeResume_but {u : Nat} (hu : u &&& 2164260869 = 2164260869) (s : State) :
    (State.timeResume s).but u = s.but u := by
  refine State.but_mono hu ?_
  unfold State.timeResume
  first
  | (simp; done)
  | ((try dsimp only); (repeat' split) <;> first
    | (simp; done)
    | (simp [*]; done)
    | (have e := State.but_fst 2164260869 ‹_ = (_, _)›; simp at e; simp [e]; done)
    | (have e := State.but_snd 2164260869 ‹_ = (_, _)›; simp at e; simp [e]; done))

@[simp] theorem State.timeCommand_but {u : Nat} (hu : u &&& 2164260869 = 2164260869) (s : State) (cmd : Nat) (ref : Nat) :
    (State.timeCommand s cmd ref).but u = s.but u := by
  refine State.but_mono hu ?_
  unfold State.timeCommand
  first
  | (simp; done)
  | ((try dsimp only); (repeat' split) <;> first
    | (simp; done)
    | (simp [*]; done)
    | (have e := State.but_fst 2164260869 ‹_ = (_, _)›; simp at e; simp [e]; done)
    | (have e := State.but_snd 2164260869 ‹_ = (_, _)›; simp at e; simp [e]; done))

@[simp] theorem State.timeFreqWrite_but {u : Nat} (hu : u &&& 2164260869 = 2164260869) (s : State) (v : Nat) :
    (State.timeFreqWrite s v).but u = s.but u := by
  refine State.but_mono hu ?_
  unfold State.timeFreqWrite
  first
  | (simp; done)
  | ((try dsimp only); (repeat' split) <;> first
    | (simp; done)
    | (simp [*]; done)
    | (have e := State.but_fst 2164260869 ‹_ = (_, _)›; simp at e; simp [e]; done)
    | (have e := State.but_snd 2164260869 ‹_ = (_, _)›; simp at e; simp [e]; done))

@[simp] theorem State.phaseWrite_but {u : Nat} (hu : u &&& 2164260869 = 2164260869) (s : State) (v : Nat) :
    (State.phaseWrite s v).but u = s.but u := by
  refine State.but_mono hu ?_
  unfold State.phaseWrite
  first
  | (simp; done)
  | ((try dsimp only); (repeat' split) <;> first
    | (simp; done)
    | (simp [*]; done)
    | (have e := State.but_fst 2164260869 ‹_ = (_, _)›; simp at e; simp [e]; done)
    | (have e := State.but_snd 2164260869 ‹_ = (_, _)›; simp at e; simp [e]; done))

@[simp] theorem State.pitchTerms_but {u : Nat} (hu : u &&& 4 = 4) (s : State) :
    (State.pitchTerms s).but u = s.but u := by
  refine State.but_mono hu ?_
  unfold State.pitchTerms
  first
  | (simp; done)
  | ((try dsimp only); (repeat' split) <;> first
    | (simp; done)
    | (simp [*]; done)
    | (have e := State.but_fst 4 ‹_ = (_, _)›; simp at e; simp [e]; done)
    | (have e := State.but_snd 4 ‹_ = (_, _)›; simp at e; simp [e]; done))

@[simp] theorem State.channelLoad_but {u : Nat} (hu : u &&& 5 = 5) (s : State) (n : Nat) :
    (State.channelLoad s n).but u = s.but u := by
  refine State.but_mono hu ?_
  unfold State.channelLoad
  first
  | (simp; done)
  | ((try dsimp only); (repeat' split) <;> first
    | (simp; done)
    | (simp [*]; done)
    | (have e := State.but_fst 5 ‹_ = (_, _)›; simp at e; simp [e]; done)
    | (have e := State.but_snd 5 ‹_ = (_, _)›; simp at e; simp [e]; done))

@[simp] theorem State.timePitch_but {u : Nat} (hu : u &&& 5 = 5) (s : State) :
    (State.timePitch s).but u = s.but u := by
  refine State.but_mono hu ?_
  unfold State.timePitch
  first
  | (simp; done)
  | ((try dsimp only); (repeat' split) <;> first
    | (simp; done)
    | (simp [*]; done)
    | (have e := State.but_fst 5 ‹_ = (_, _)›; simp at e; simp [e]; done)
    | (have e := State.but_snd 5 ‹_ = (_, _)›; simp at e; simp [e]; done))

@[simp] theorem State.advanceTo_but {u : Nat} (hu : u &&& 4 = 4) (s : State) (ns : Nat) : (State.advanceTo s ns).but u = s.but u := by
  have g : ∀ (x : TimeSt), ({ s with time := x } : State).but u = s.but u := fun x => State.but_mono hu (by simp)
  unfold State.advanceTo
  split
  · exact g _
  · rfl

@[simp] theorem State.latchTemp_but {u : Nat} (hu : u &&& 1 = 1) (s : State) :
    (State.latchTemp s).but u = s.but u := by
  refine State.but_mono hu ?_
  unfold State.latchTemp
  first
  | (simp; done)
  | ((try dsimp only); (repeat' split) <;> first
    | (simp; done)
    | (simp [*]; done)
    | (have e := State.but_fst 1 ‹_ = (_, _)›; simp at e; simp [e]; done)
    | (have e := State.but_snd 1 ‹_ = (_, _)›; simp at e; simp [e]; done))

@[simp] theorem State.holdoverEpoch_but {u : Nat} (hu : u &&& 4 = 4) (s : State) :
    (State.holdoverEpoch s).but u = s.but u := by
  refine State.but_mono hu ?_
  unfold State.holdoverEpoch
  first
  | (simp; done)
  | ((try dsimp only); (repeat' split) <;> first
    | (simp; done)
    | (simp [*]; done)
    | (have e := State.but_fst 4 ‹_ = (_, _)›; simp at e; simp [e]; done)
    | (have e := State.but_snd 4 ‹_ = (_, _)›; simp at e; simp [e]; done))

@[simp] theorem State.fabricEpoch_but {u : Nat} (hu : u &&& 2164260869 = 2164260869) (s : State) :
    (State.fabricEpoch s).but u = s.but u := by
  refine State.but_mono hu ?_
  unfold State.fabricEpoch
  first
  | (simp; done)
  | ((try dsimp only); (repeat' split) <;> first
    | (simp; done)
    | (simp [*]; done)
    | (have e := State.but_fst 2164260869 ‹_ = (_, _)›; simp at e; simp [e]; done)
    | (have e := State.but_snd 2164260869 ‹_ = (_, _)›; simp at e; simp [e]; done))

@[simp] theorem State.timeEpoch_but {u : Nat} (hu : u &&& 2164260869 = 2164260869) (s : State) :
    (State.timeEpoch s).but u = s.but u := by
  refine State.but_mono hu ?_
  unfold State.timeEpoch
  first
  | (simp; done)
  | ((try dsimp only); (repeat' split) <;> first
    | (simp; done)
    | (simp [*]; done)
    | (have e := State.but_fst 2164260869 ‹_ = (_, _)›; simp at e; simp [e]; done)
    | (have e := State.but_snd 2164260869 ‹_ = (_, _)›; simp at e; simp [e]; done))

@[simp] theorem State.todTick_but {u : Nat} (hu : u &&& 2147483652 = 2147483652) (s : State) :
    (State.todTick s).but u = s.but u := by
  refine State.but_mono hu ?_
  unfold State.todTick
  first
  | (simp; done)
  | ((try dsimp only); (repeat' split) <;> first
    | (simp; done)
    | (simp [*]; done)
    | (have e := State.but_fst 2147483652 ‹_ = (_, _)›; simp at e; simp [e]; done)
    | (have e := State.but_snd 2147483652 ‹_ = (_, _)›; simp at e; simp [e]; done))

@[simp] theorem State.tickChannels_but {u : Nat} (hu : u &&& 4 = 4) (s : State) :
    (State.tickChannels s).but u = s.but u := by
  refine State.but_mono hu ?_
  unfold State.tickChannels
  first
  | (simp; done)
  | ((try dsimp only); (repeat' split) <;> first
    | (simp; done)
    | (simp [*]; done)
    | (have e := State.but_fst 4 ‹_ = (_, _)›; simp at e; simp [e]; done)
    | (have e := State.but_snd 4 ‹_ = (_, _)›; simp at e; simp [e]; done))

@[simp] theorem State.tsqPush_but {u : Nat} (hu : u &&& 2164260869 = 2164260869) (s : State) (e : Nat) :
    (State.tsqPush s e).but u = s.but u := by
  refine State.but_mono hu ?_
  unfold State.tsqPush
  first
  | (simp; done)
  | ((try dsimp only); (repeat' split) <;> first
    | (simp; done)
    | (simp [*]; done)
    | (have e := State.but_fst 2164260869 ‹_ = (_, _)›; simp at e; simp [e]; done)
    | (have e := State.but_snd 2164260869 ‹_ = (_, _)›; simp at e; simp [e]; done))

@[simp] theorem State.todRxTake_but {u : Nat} (hu : u &&& 4 = 4) (s : State) :
    (State.todRxTake s).2.but u = s.but u := by
  refine State.but_mono hu ?_
  unfold State.todRxTake
  first
  | (simp; done)
  | ((try dsimp only); (repeat' split) <;> first
    | (simp; done)
    | (simp [*]; done)
    | (have e := State.but_fst 4 ‹_ = (_, _)›; simp at e; simp [e]; done)
    | (have e := State.but_snd 4 ‹_ = (_, _)›; simp at e; simp [e]; done))

@[simp] theorem State.todTxPut_but {u : Nat} (hu : u &&& 4 = 4) (s : State) (b : Sys2Proof.Byte) :
    (State.todTxPut s b).but u = s.but u := by
  refine State.but_mono hu ?_
  unfold State.todTxPut
  first
  | (simp; done)
  | ((try dsimp only); (repeat' split) <;> first
    | (simp; done)
    | (simp [*]; done)
    | (have e := State.but_fst 4 ‹_ = (_, _)›; simp at e; simp [e]; done)
    | (have e := State.but_snd 4 ‹_ = (_, _)›; simp at e; simp [e]; done))

@[simp] theorem State.tsqTake_but {u : Nat} (hu : u &&& 4 = 4) (s : State) (k : Nat) :
    (State.tsqTake s k).2.but u = s.but u := by
  refine State.but_mono hu ?_
  unfold State.tsqTake
  first
  | (simp; done)
  | ((try dsimp only); (repeat' split) <;> first
    | (simp; done)
    | (simp [*]; done)
    | (have e := State.but_fst 4 ‹_ = (_, _)›; simp at e; simp [e]; done)
    | (have e := State.but_snd 4 ‹_ = (_, _)›; simp at e; simp [e]; done))

theorem execTimCmdAcquire_but {u : Nat} (hu : u &&& 3238002693 = 3238002693) (m : Sys2Proof.Master) (ref : BitVec 2) (s : State) {z : State} (h : execTimCmdAcquire m ref s = .next z) :
    z.but u = s.but u := by
  refine State.but_mono hu ?_
  revert h
  unfold execTimCmdAcquire
  (try dsimp only)
  intro h
  obtain rfl := Host.Outcome.next.inj h
  clear h
  first
  | (simp; done)
  | ((repeat' split) <;> first
    | (simp; done)
    | (simp [*]; done)
    | (have e := State.but_fst 3238002693 ‹_ = (_, _)›; simp at e; simp [e]; done)
    | (have e := State.but_snd 3238002693 ‹_ = (_, _)›; simp at e; simp [e]; done))

theorem execTimCmdLock_but {u : Nat} (hu : u &&& 3238002693 = 3238002693) (m : Sys2Proof.Master) (s : State) {z : State} (h : execTimCmdLock m s = .next z) :
    z.but u = s.but u := by
  refine State.but_mono hu ?_
  revert h
  unfold execTimCmdLock
  (try dsimp only)
  intro h
  obtain rfl := Host.Outcome.next.inj h
  clear h
  first
  | (simp; done)
  | ((repeat' split) <;> first
    | (simp; done)
    | (simp [*]; done)
    | (have e := State.but_fst 3238002693 ‹_ = (_, _)›; simp at e; simp [e]; done)
    | (have e := State.but_snd 3238002693 ‹_ = (_, _)›; simp at e; simp [e]; done))

theorem execTimCmdHold_but {u : Nat} (hu : u &&& 3238002693 = 3238002693) (m : Sys2Proof.Master) (s : State) {z : State} (h : execTimCmdHold m s = .next z) :
    z.but u = s.but u := by
  refine State.but_mono hu ?_
  revert h
  unfold execTimCmdHold
  (try dsimp only)
  intro h
  obtain rfl := Host.Outcome.next.inj h
  clear h
  first
  | (simp; done)
  | ((repeat' split) <;> first
    | (simp; done)
    | (simp [*]; done)
    | (have e := State.but_fst 3238002693 ‹_ = (_, _)›; simp at e; simp [e]; done)
    | (have e := State.but_snd 3238002693 ‹_ = (_, _)›; simp at e; simp [e]; done))

theorem execTimCmdResume_but {u : Nat} (hu : u &&& 3238002693 = 3238002693) (m : Sys2Proof.Master) (s : State) {z : State} (h : execTimCmdResume m s = .next z) :
    z.but u = s.but u := by
  refine State.but_mono hu ?_
  revert h
  unfold execTimCmdResume
  (try dsimp only)
  intro h
  obtain rfl := Host.Outcome.next.inj h
  clear h
  first
  | (simp; done)
  | ((repeat' split) <;> first
    | (simp; done)
    | (simp [*]; done)
    | (have e := State.but_fst 3238002693 ‹_ = (_, _)›; simp at e; simp [e]; done)
    | (have e := State.but_snd 3238002693 ‹_ = (_, _)›; simp at e; simp [e]; done))

theorem execTimCmdFree_but {u : Nat} (hu : u &&& 3238002693 = 3238002693) (m : Sys2Proof.Master) (s : State) {z : State} (h : execTimCmdFree m s = .next z) :
    z.but u = s.but u := by
  refine State.but_mono hu ?_
  revert h
  unfold execTimCmdFree
  (try dsimp only)
  intro h
  obtain rfl := Host.Outcome.next.inj h
  clear h
  first
  | (simp; done)
  | ((repeat' split) <;> first
    | (simp; done)
    | (simp [*]; done)
    | (have e := State.but_fst 3238002693 ‹_ = (_, _)›; simp at e; simp [e]; done)
    | (have e := State.but_snd 3238002693 ‹_ = (_, _)›; simp at e; simp [e]; done))

theorem execTimFreqWrite_but {u : Nat} (hu : u &&& 3238002693 = 3238002693) (m : Sys2Proof.Master) (v : Sys2Proof.Word) (s : State) {z : State} (h : execTimFreqWrite m v s = .next z) :
    z.but u = s.but u := by
  refine State.but_mono hu ?_
  revert h
  unfold execTimFreqWrite
  (try dsimp only)
  intro h
  obtain rfl := Host.Outcome.next.inj h
  clear h
  first
  | (simp; done)
  | ((repeat' split) <;> first
    | (simp; done)
    | (simp [*]; done)
    | (have e := State.but_fst 3238002693 ‹_ = (_, _)›; simp at e; simp [e]; done)
    | (have e := State.but_snd 3238002693 ‹_ = (_, _)›; simp at e; simp [e]; done))

theorem execTimPhaseAdj_but {u : Nat} (hu : u &&& 3238002693 = 3238002693) (m : Sys2Proof.Master) (d : Sys2Proof.Word) (s : State) {z : State} (h : execTimPhaseAdj m d s = .next z) :
    z.but u = s.but u := by
  refine State.but_mono hu ?_
  revert h
  unfold execTimPhaseAdj
  (try dsimp only)
  intro h
  obtain rfl := Host.Outcome.next.inj h
  clear h
  first
  | (simp; done)
  | ((repeat' split) <;> first
    | (simp; done)
    | (simp [*]; done)
    | (have e := State.but_fst 3238002693 ‹_ = (_, _)›; simp at e; simp [e]; done)
    | (have e := State.but_snd 3238002693 ‹_ = (_, _)›; simp at e; simp [e]; done))

theorem execHoldTimeout_but {u : Nat} (hu : u &&& 2164260869 = 2164260869) (s : State) {z : State} (h : execHoldTimeout s = .next z) :
    z.but u = s.but u := by
  refine State.but_mono hu ?_
  revert h
  unfold execHoldTimeout
  (try dsimp only)
  intro h
  obtain rfl := Host.Outcome.next.inj h
  clear h
  first
  | (simp; done)
  | ((repeat' split) <;> first
    | (simp; done)
    | (simp [*]; done)
    | (have e := State.but_fst 2164260869 ‹_ = (_, _)›; simp at e; simp [e]; done)
    | (have e := State.but_snd 2164260869 ‹_ = (_, _)›; simp at e; simp [e]; done))

theorem execTraverseHoldTimeout_but {u : Nat} (hu : u &&& 2164260869 = 2164260869) (s : State) {z : State} (h : execTraverseHoldTimeout s = .next z) :
    z.but u = s.but u := by
  refine State.but_mono hu ?_
  revert h
  unfold execTraverseHoldTimeout
  (try dsimp only)
  intro h
  obtain rfl := Host.Outcome.next.inj h
  clear h
  first
  | (simp; done)
  | ((repeat' split) <;> first
    | (simp; done)
    | (simp [*]; done)
    | (have e := State.but_fst 2164260869 ‹_ = (_, _)›; simp at e; simp [e]; done)
    | (have e := State.but_snd 2164260869 ‹_ = (_, _)›; simp at e; simp [e]; done))

theorem execSmbusTempRead_but {u : Nat} (hu : u &&& 2147483653 = 2147483653) (t : Option (BitVec 16)) (s : State) {z : State} (h : execSmbusTempRead t s = .next z) :
    z.but u = s.but u := by
  refine State.but_mono hu ?_
  revert h
  unfold execSmbusTempRead
  (try dsimp only)
  intro h
  obtain rfl := Host.Outcome.next.inj h
  clear h
  first
  | (simp; done)
  | ((repeat' split) <;> first
    | (simp; done)
    | (simp [*]; done)
    | (have e := State.but_fst 2147483653 ‹_ = (_, _)›; simp at e; simp [e]; done)
    | (have e := State.but_snd 2147483653 ‹_ = (_, _)›; simp at e; simp [e]; done))

@[simp] theorem State.ppsCapture_but {u : Nat} (hu : u &&& 1 = 1) (s : State) (n : Nat) :
    (State.ppsCapture s n).but u = s.but u := by
  refine State.but_mono hu ?_
  unfold State.ppsCapture
  first
  | (simp; done)
  | ((try dsimp only); (repeat' split) <;> first
    | (simp; done)
    | (simp [*]; done)
    | (have e := State.but_fst 1 ‹_ = (_, _)›; simp at e; simp [e]; done)
    | (have e := State.but_snd 1 ‹_ = (_, _)›; simp at e; simp [e]; done))

theorem execPpsInEdge_but {u : Nat} (hu : u &&& 8912899 = 8912899) (s : State) {z : State} (h : execPpsInEdge s = .next z) :
    z.but u = s.but u := by
  refine State.but_mono hu ?_
  revert h
  unfold execPpsInEdge
  (try dsimp only)
  intro h
  obtain rfl := Host.Outcome.next.inj h
  clear h
  first
  | (simp; done)
  | ((repeat' split) <;> first
    | (simp; done)
    | (simp [*]; done)
    | (have e := State.but_fst 8912899 ‹_ = (_, _)›; simp at e; simp [e]; done)
    | (have e := State.but_snd 8912899 ‹_ = (_, _)›; simp at e; simp [e]; done))

@[simp] theorem State.ppsPulse_but {u : Nat} (hu : u &&& 2147483648 = 2147483648) (s : State) :
    (State.ppsPulse s).but u = s.but u := by
  refine State.but_mono hu ?_
  unfold State.ppsPulse
  first
  | (simp; done)
  | ((try dsimp only); (repeat' split) <;> first
    | (simp; done)
    | (simp [*]; done)
    | (have e := State.but_fst 2147483648 ‹_ = (_, _)›; simp at e; simp [e]; done)
    | (have e := State.but_snd 2147483648 ‹_ = (_, _)›; simp at e; simp [e]; done))

theorem execPpsOutPulse_but {u : Nat} (hu : u &&& 2147483648 = 2147483648) (s : State) {z : State} (h : execPpsOutPulse s = .next z) :
    z.but u = s.but u := by
  refine State.but_mono hu ?_
  revert h
  unfold execPpsOutPulse
  (try dsimp only)
  intro h
  obtain rfl := Host.Outcome.next.inj h
  clear h
  first
  | (simp; done)
  | ((repeat' split) <;> first
    | (simp; done)
    | (simp [*]; done)
    | (have e := State.but_fst 2147483648 ‹_ = (_, _)›; simp at e; simp [e]; done)
    | (have e := State.but_snd 2147483648 ‹_ = (_, _)›; simp at e; simp [e]; done))

theorem execTodRxByte_but {u : Nat} (hu : u &&& 8912903 = 8912903) (b : Sys2Proof.Byte) (s : State) {z : State} (h : execTodRxByte b s = .next z) :
    z.but u = s.but u := by
  refine State.but_mono hu ?_
  revert h
  unfold execTodRxByte
  (try dsimp only)
  intro h
  obtain rfl := Host.Outcome.next.inj h
  clear h
  first
  | (simp; done)
  | ((repeat' split) <;> first
    | (simp; done)
    | (simp [*]; done)
    | (have e := State.but_fst 8912903 ‹_ = (_, _)›; simp at e; simp [e]; done)
    | (have e := State.but_snd 8912903 ‹_ = (_, _)›; simp at e; simp [e]; done))

theorem execTodRxRead_but {u : Nat} (hu : u &&& 3238002693 = 3238002693) (m : Sys2Proof.Master) (s : State) {z : State} (h : execTodRxRead m s = .next z) :
    z.but u = s.but u := by
  refine State.but_mono hu ?_
  revert h
  unfold execTodRxRead
  (try dsimp only)
  intro h
  obtain rfl := Host.Outcome.next.inj h
  clear h
  first
  | (simp; done)
  | ((repeat' split) <;> first
    | (simp; done)
    | (simp [*]; done)
    | (have e := State.but_fst 3238002693 ‹_ = (_, _)›; simp at e; simp [e]; done)
    | (have e := State.but_snd 3238002693 ‹_ = (_, _)›; simp at e; simp [e]; done))

theorem execTodTxWrite_but {u : Nat} (hu : u &&& 3238002693 = 3238002693) (m : Sys2Proof.Master) (b : Sys2Proof.Byte) (s : State) {z : State} (h : execTodTxWrite m b s = .next z) :
    z.but u = s.but u := by
  refine State.but_mono hu ?_
  revert h
  unfold execTodTxWrite
  (try dsimp only)
  intro h
  obtain rfl := Host.Outcome.next.inj h
  clear h
  first
  | (simp; done)
  | ((repeat' split) <;> first
    | (simp; done)
    | (simp [*]; done)
    | (have e := State.but_fst 3238002693 ‹_ = (_, _)›; simp at e; simp [e]; done)
    | (have e := State.but_snd 3238002693 ‹_ = (_, _)›; simp at e; simp [e]; done))

theorem execPtpTsqRead_but {u : Nat} (hu : u &&& 3238002693 = 3238002693) (m : Sys2Proof.Master) (k : Nat) (s : State) {z : State} (h : execPtpTsqRead m k s = .next z) :
    z.but u = s.but u := by
  refine State.but_mono hu ?_
  revert h
  unfold execPtpTsqRead
  (try dsimp only)
  intro h
  obtain rfl := Host.Outcome.next.inj h
  clear h
  first
  | (simp; done)
  | ((repeat' split) <;> first
    | (simp; done)
    | (simp [*]; done)
    | (have e := State.but_fst 3238002693 ‹_ = (_, _)›; simp at e; simp [e]; done)
    | (have e := State.but_snd 3238002693 ‹_ = (_, _)›; simp at e; simp [e]; done))

theorem execServoConverged_but {u : Nat} (hu : u &&& 5 = 5) (s : State) {z : State} (h : execServoConverged s = .next z) :
    z.but u = s.but u := by
  refine State.but_mono hu ?_
  revert h
  unfold execServoConverged
  (try dsimp only)
  intro h
  obtain rfl := Host.Outcome.next.inj h
  clear h
  first
  | (simp; done)
  | ((repeat' split) <;> first
    | (simp; done)
    | (simp [*]; done)
    | (have e := State.but_fst 5 ‹_ = (_, _)›; simp at e; simp [e]; done)
    | (have e := State.but_snd 5 ‹_ = (_, _)›; simp at e; simp [e]; done))

/-! ## Spine -/

@[simp] theorem State.setRunning_but {u : Nat} (hu : u &&& 1 = 1) (s : State) (n : Nat) (b : Bool) :
    (State.setRunning s n b).but u = s.but u := by
  refine State.but_mono hu ?_
  unfold State.setRunning
  first
  | (simp; done)
  | ((try dsimp only); (repeat' split) <;> first
    | (simp; done)
    | (simp [*]; done)
    | (have e := State.but_fst 1 ‹_ = (_, _)›; simp at e; simp [e]; done)
    | (have e := State.but_snd 1 ‹_ = (_, _)›; simp at e; simp [e]; done))

@[simp] theorem State.setFailed_but {u : Nat} (hu : u &&& 1 = 1) (s : State) (n : Nat) (b : Bool) :
    (State.setFailed s n b).but u = s.but u := by
  refine State.but_mono hu ?_
  unfold State.setFailed
  first
  | (simp; done)
  | ((try dsimp only); (repeat' split) <;> first
    | (simp; done)
    | (simp [*]; done)
    | (have e := State.but_fst 1 ‹_ = (_, _)›; simp at e; simp [e]; done)
    | (have e := State.but_snd 1 ‹_ = (_, _)›; simp at e; simp [e]; done))

@[simp] theorem State.spnMismatch_but {u : Nat} (hu : u &&& 1 = 1) (s : State) :
    (State.spnMismatch s).but u = s.but u := by
  refine State.but_mono hu ?_
  unfold State.spnMismatch
  first
  | (simp; done)
  | ((try dsimp only); (repeat' split) <;> first
    | (simp; done)
    | (simp [*]; done)
    | (have e := State.but_fst 1 ‹_ = (_, _)›; simp at e; simp [e]; done)
    | (have e := State.but_snd 1 ‹_ = (_, _)›; simp at e; simp [e]; done))

@[simp] theorem State.restartChan_but {u : Nat} (hu : u &&& 2164260869 = 2164260869) (s : State) (n : Nat) :
    (State.restartChan s n).but u = s.but u := by
  refine State.but_mono hu ?_
  unfold State.restartChan
  first
  | (simp; done)
  | ((try dsimp only); (repeat' split) <;> first
    | (simp; done)
    | (simp [*]; done)
    | (have e := State.but_fst 2164260869 ‹_ = (_, _)›; simp at e; simp [e]; done)
    | (have e := State.but_snd 2164260869 ‹_ = (_, _)›; simp at e; simp [e]; done))

@[simp] theorem State.restartCmd_but {u : Nat} (hu : u &&& 2164260869 = 2164260869) (s : State) (n : Nat) :
    (State.restartCmd s n).but u = s.but u := by
  refine State.but_mono hu ?_
  unfold State.restartCmd
  first
  | (simp; done)
  | ((try dsimp only); (repeat' split) <;> first
    | (simp; done)
    | (simp [*]; done)
    | (have e := State.but_fst 2164260869 ‹_ = (_, _)›; simp at e; simp [e]; done)
    | (have e := State.but_snd 2164260869 ‹_ = (_, _)›; simp at e; simp [e]; done))

@[simp] theorem State.katStart_but {u : Nat} (hu : u &&& 9 = 9) (s : State) (two : Bool) (noMaj : Bool) (self : Bool) :
    (State.katStart s two noMaj self).but u = s.but u := by
  refine State.but_mono hu ?_
  unfold State.katStart
  first
  | (simp; done)
  | ((try dsimp only); (repeat' split) <;> first
    | (simp; done)
    | (simp [*]; done)
    | (have e := State.but_fst 9 ‹_ = (_, _)›; simp at e; simp [e]; done)
    | (have e := State.but_snd 9 ‹_ = (_, _)›; simp at e; simp [e]; done))

@[simp] theorem State.dissent_but {u : Nat} (hu : u &&& 2164260869 = 2164260869) (s : State) (d : Nat) (winner : Nat) :
    (State.dissent s d winner).but u = s.but u := by
  refine State.but_mono hu ?_
  unfold State.dissent
  first
  | (simp; done)
  | ((try dsimp only); (repeat' split) <;> first
    | (simp; done)
    | (simp [*]; done)
    | (have e := State.but_fst 2164260869 ‹_ = (_, _)›; simp at e; simp [e]; done)
    | (have e := State.but_snd 2164260869 ‹_ = (_, _)›; simp at e; simp [e]; done))

@[simp] theorem State.vote_but {u : Nat} (hu : u &&& 2164260877 = 2164260877) (s : State) :
    (State.vote s).but u = s.but u := by
  refine State.but_mono hu ?_
  unfold State.vote
  first
  | (simp; done)
  | ((try dsimp only); (repeat' split) <;> first
    | (simp; done)
    | (simp [*]; done)
    | (have e := State.but_fst 2164260877 ‹_ = (_, _)›; simp at e; simp [e]; done)
    | (have e := State.but_snd 2164260877 ‹_ = (_, _)›; simp at e; simp [e]; done))

@[simp] theorem State.compareTwo_but {u : Nat} (hu : u &&& 2164260873 = 2164260873) (s : State) (x : Nat) (y : Nat) :
    (State.compareTwo s x y).but u = s.but u := by
  refine State.but_mono hu ?_
  unfold State.compareTwo
  first
  | (simp; done)
  | ((try dsimp only); (repeat' split) <;> first
    | (simp; done)
    | (simp [*]; done)
    | (have e := State.but_fst 2164260873 ‹_ = (_, _)›; simp at e; simp [e]; done)
    | (have e := State.but_snd 2164260873 ‹_ = (_, _)›; simp at e; simp [e]; done))

@[simp] theorem State.compareChans_but {u : Nat} (hu : u &&& 2164260877 = 2164260877) (s : State) :
    (State.compareChans s).but u = s.but u := by
  refine State.but_mono hu ?_
  unfold State.compareChans
  first
  | (simp; done)
  | ((try dsimp only); (repeat' split) <;> first
    | (simp; done)
    | (simp [*]; done)
    | (have e := State.but_fst 2164260877 ‹_ = (_, _)›; simp at e; simp [e]; done)
    | (have e := State.but_snd 2164260877 ‹_ = (_, _)›; simp at e; simp [e]; done))

@[simp] theorem State.katResult_but {u : Nat} (hu : u &&& 2164260865 = 2164260865) (s : State) (n : Nat) (pass : Bool) :
    (State.katResult s n pass).but u = s.but u := by
  refine State.but_mono hu ?_
  unfold State.katResult
  first
  | (simp; done)
  | ((try dsimp only); (repeat' split) <;> first
    | (simp; done)
    | (simp [*]; done)
    | (have e := State.but_fst 2164260865 ‹_ = (_, _)›; simp at e; simp [e]; done)
    | (have e := State.but_snd 2164260865 ‹_ = (_, _)›; simp at e; simp [e]; done))

@[simp] theorem State.katNoMajority_but {u : Nat} (hu : u &&& 1 = 1) (s : State) (p : Nat → Bool) :
    (State.katNoMajority s p).but u = s.but u := by
  refine State.but_mono hu ?_
  unfold State.katNoMajority
  first
  | (simp; done)
  | ((try dsimp only); (repeat' split) <;> first
    | (simp; done)
    | (simp [*]; done)
    | (have e := State.but_fst 1 ‹_ = (_, _)›; simp at e; simp [e]; done)
    | (have e := State.but_snd 1 ‹_ = (_, _)›; simp at e; simp [e]; done))

@[simp] theorem State.katTwo_but {u : Nat} (hu : u &&& 2164260865 = 2164260865) (s : State) (p : Nat → Bool) (a : Nat) (b : Nat) :
    (State.katTwo s p a b).but u = s.but u := by
  refine State.but_mono hu ?_
  unfold State.katTwo
  first
  | (simp; done)
  | ((try dsimp only); (repeat' split) <;> first
    | (simp; done)
    | (simp [*]; done)
    | (have e := State.but_fst 2164260865 ‹_ = (_, _)›; simp at e; simp [e]; done)
    | (have e := State.but_snd 2164260865 ‹_ = (_, _)›; simp at e; simp [e]; done))

@[simp] theorem State.katEnd_but {u : Nat} (hu : u &&& 2164260873 = 2164260873) (s : State) (p : Nat → Bool) :
    (State.katEnd s p).but u = s.but u := by
  refine State.but_mono hu ?_
  unfold State.katEnd
  first
  | (simp; done)
  | ((try dsimp only); (repeat' split) <;> first
    | (simp; done)
    | (simp [*]; done)
    | (have e := State.but_fst 2164260873 ‹_ = (_, _)›; simp at e; simp [e]; done)
    | (have e := State.but_snd 2164260873 ‹_ = (_, _)›; simp at e; simp [e]; done))

@[simp] theorem State.spnModeCommit_but {u : Nat} (hu : u &&& 2172649477 = 2172649477) (s : State) (old : Nat) (new : Nat) :
    (State.spnModeCommit s old new).but u = s.but u := by
  refine State.but_mono hu ?_
  unfold State.spnModeCommit
  first
  | (simp; done)
  | ((try dsimp only); (repeat' split) <;> first
    | (simp; done)
    | (simp [*]; done)
    | (have e := State.but_fst 2172649477 ‹_ = (_, _)›; simp at e; simp [e]; done)
    | (have e := State.but_snd 2172649477 ‹_ = (_, _)›; simp at e; simp [e]; done))

@[simp] theorem State.rejoin_but {u : Nat} (hu : u &&& 5 = 5) (s : State) (n : Nat) :
    (State.rejoin s n).but u = s.but u := by
  refine State.but_mono hu ?_
  unfold State.rejoin
  first
  | (simp; done)
  | ((try dsimp only); (repeat' split) <;> first
    | (simp; done)
    | (simp [*]; done)
    | (have e := State.but_fst 5 ‹_ = (_, _)›; simp at e; simp [e]; done)
    | (have e := State.but_snd 5 ‹_ = (_, _)›; simp at e; simp [e]; done))

theorem execTimeTick_but {u : Nat} (hu : u &&& 2164260877 = 2164260877) (s : State) {z : State} (h : execTimeTick s = .next z) :
    z.but u = s.but u := by
  refine State.but_mono hu ?_
  revert h
  unfold execTimeTick
  (try dsimp only)
  intro h
  obtain rfl := Host.Outcome.next.inj h
  clear h
  first
  | (simp; done)
  | ((repeat' split) <;> first
    | (simp; done)
    | (simp [*]; done)
    | (have e := State.but_fst 2164260877 ‹_ = (_, _)›; simp at e; simp [e]; done)
    | (have e := State.but_snd 2164260877 ‹_ = (_, _)›; simp at e; simp [e]; done))

theorem execKatComplete_but {u : Nat} (hu : u &&& 2164260873 = 2164260873) (passA : Bool) (passB : Bool) (passC : Bool) (s : State) {z : State} (h : execKatComplete passA passB passC s = .next z) :
    z.but u = s.but u := by
  refine State.but_mono hu ?_
  revert h
  unfold execKatComplete
  (try dsimp only)
  intro h
  obtain rfl := Host.Outcome.next.inj h
  clear h
  first
  | (simp; done)
  | ((repeat' split) <;> first
    | (simp; done)
    | (simp [*]; done)
    | (have e := State.but_fst 2164260873 ‹_ = (_, _)›; simp at e; simp [e]; done)
    | (have e := State.but_snd 2164260873 ‹_ = (_, _)›; simp at e; simp [e]; done))

theorem execSpnSelftest_but {u : Nat} (hu : u &&& 3238002697 = 3238002697) (m : Sys2Proof.Master) (s : State) {z : State} (h : execSpnSelftest m s = .next z) :
    z.but u = s.but u := by
  refine State.but_mono hu ?_
  revert h
  unfold execSpnSelftest
  (try dsimp only)
  intro h
  obtain rfl := Host.Outcome.next.inj h
  clear h
  first
  | (simp; done)
  | ((repeat' split) <;> first
    | (simp; done)
    | (simp [*]; done)
    | (have e := State.but_fst 3238002697 ‹_ = (_, _)›; simp at e; simp [e]; done)
    | (have e := State.but_snd 3238002697 ‹_ = (_, _)›; simp at e; simp [e]; done))

@[simp] theorem State.restartMask_but {u : Nat} (hu : u &&& 2164260869 = 2164260869) (s : State) (v : Nat) :
    (State.restartMask s v).but u = s.but u := by
  refine State.but_mono hu ?_
  unfold State.restartMask
  first
  | (simp; done)
  | ((try dsimp only); (repeat' split) <;> first
    | (simp; done)
    | (simp [*]; done)
    | (have e := State.but_fst 2164260869 ‹_ = (_, _)›; simp at e; simp [e]; done)
    | (have e := State.but_snd 2164260869 ‹_ = (_, _)›; simp at e; simp [e]; done))

theorem execSpnRestart_but {u : Nat} (hu : u &&& 3238002693 = 3238002693) (m : Sys2Proof.Master) (chans : BitVec 3) (s : State) {z : State} (h : execSpnRestart m chans s = .next z) :
    z.but u = s.but u := by
  refine State.but_mono hu ?_
  revert h
  unfold execSpnRestart
  (try dsimp only)
  intro h
  obtain rfl := Host.Outcome.next.inj h
  clear h
  first
  | (simp; done)
  | ((repeat' split) <;> first
    | (simp; done)
    | (simp [*]; done)
    | (have e := State.but_fst 3238002693 ‹_ = (_, _)›; simp at e; simp [e]; done)
    | (have e := State.but_snd 3238002693 ‹_ = (_, _)›; simp at e; simp [e]; done))

theorem execChannelRejoin_but {u : Nat} (hu : u &&& 5 = 5) (ch : Nat) (s : State) {z : State} (h : execChannelRejoin ch s = .next z) :
    z.but u = s.but u := by
  refine State.but_mono hu ?_
  revert h
  unfold execChannelRejoin
  (try dsimp only)
  intro h
  obtain rfl := Host.Outcome.next.inj h
  clear h
  first
  | (simp; done)
  | ((repeat' split) <;> first
    | (simp; done)
    | (simp [*]; done)
    | (have e := State.but_fst 5 ‹_ = (_, _)›; simp at e; simp [e]; done)
    | (have e := State.but_snd 5 ‹_ = (_, _)›; simp at e; simp [e]; done))

/-! ## Pair -/

@[simp] theorem State.ownGpio_but {u : Nat} (hu : u &&& 2 = 2) (s : State) (b : Bool) :
    (State.ownGpio s b).but u = s.but u := by
  refine State.but_mono hu ?_
  unfold State.ownGpio
  first
  | (simp; done)
  | ((try dsimp only); (repeat' split) <;> first
    | (simp; done)
    | (simp [*]; done)
    | (have e := State.but_fst 2 ‹_ = (_, _)›; simp at e; simp [e]; done)
    | (have e := State.but_snd 2 ‹_ = (_, _)›; simp at e; simp [e]; done))

@[simp] theorem State.becomeOwner_but {u : Nat} (hu : u &&& 2164260867 = 2164260867) (s : State) :
    (State.becomeOwner s).but u = s.but u := by
  refine State.but_mono hu ?_
  unfold State.becomeOwner
  first
  | (simp; done)
  | ((try dsimp only); (repeat' split) <;> first
    | (simp; done)
    | (simp [*]; done)
    | (have e := State.but_fst 2164260867 ‹_ = (_, _)›; simp at e; simp [e]; done)
    | (have e := State.but_snd 2164260867 ‹_ = (_, _)›; simp at e; simp [e]; done))

@[simp] theorem State.stopOwning_but {u : Nat} (hu : u &&& 3 = 3) (s : State) :
    (State.stopOwning s).but u = s.but u := by
  refine State.but_mono hu ?_
  unfold State.stopOwning
  first
  | (simp; done)
  | ((try dsimp only); (repeat' split) <;> first
    | (simp; done)
    | (simp [*]; done)
    | (have e := State.but_fst 3 ‹_ = (_, _)›; simp at e; simp [e]; done)
    | (have e := State.but_snd 3 ‹_ = (_, _)›; simp at e; simp [e]; done))

@[simp] theorem State.pairSettle_but {u : Nat} (hu : u &&& 2164260867 = 2164260867) (s : State) :
    (State.pairSettle s).but u = s.but u := by
  refine State.but_mono hu ?_
  unfold State.pairSettle
  first
  | (simp; done)
  | ((try dsimp only); (repeat' split) <;> first
    | (simp; done)
    | (simp [*]; done)
    | (have e := State.but_fst 2164260867 ‹_ = (_, _)›; simp at e; simp [e]; done)
    | (have e := State.but_snd 2164260867 ‹_ = (_, _)›; simp at e; simp [e]; done))

@[simp] theorem State.pairRelease_but {u : Nat} (hu : u &&& 2164260867 = 2164260867) (s : State) :
    (State.pairRelease s).but u = s.but u := by
  refine State.but_mono hu ?_
  unfold State.pairRelease
  first
  | (simp; done)
  | ((try dsimp only); (repeat' split) <;> first
    | (simp; done)
    | (simp [*]; done)
    | (have e := State.but_fst 2164260867 ‹_ = (_, _)›; simp at e; simp [e]; done)
    | (have e := State.but_snd 2164260867 ‹_ = (_, _)›; simp at e; simp [e]; done))

@[simp] theorem State.pairClaim_but {u : Nat} (hu : u &&& 2164260867 = 2164260867) (s : State) :
    (State.pairClaim s).but u = s.but u := by
  refine State.but_mono hu ?_
  unfold State.pairClaim
  first
  | (simp; done)
  | ((try dsimp only); (repeat' split) <;> first
    | (simp; done)
    | (simp [*]; done)
    | (have e := State.but_fst 2164260867 ‹_ = (_, _)›; simp at e; simp [e]; done)
    | (have e := State.but_snd 2164260867 ‹_ = (_, _)›; simp at e; simp [e]; done))

@[simp] theorem State.pairCommand_but {u : Nat} (hu : u &&& 2164260867 = 2164260867) (s : State) (v : Nat) :
    (State.pairCommand s v).but u = s.but u := by
  refine State.but_mono hu ?_
  unfold State.pairCommand
  first
  | (simp; done)
  | ((try dsimp only); (repeat' split) <;> first
    | (simp; done)
    | (simp [*]; done)
    | (have e := State.but_fst 2164260867 ‹_ = (_, _)›; simp at e; simp [e]; done)
    | (have e := State.but_snd 2164260867 ‹_ = (_, _)›; simp at e; simp [e]; done))

@[simp] theorem State.decisionRecord_but {u : Nat} (hu : u &&& 16 = 16) (s : State) (port : Nat) (dest : Nat) (queue : Nat) (cls : Nat) (color : Nat) :
    (State.decisionRecord s port dest queue cls color).but u = s.but u := by
  refine State.but_mono hu ?_
  unfold State.decisionRecord
  first
  | (simp; done)
  | ((try dsimp only); (repeat' split) <;> first
    | (simp; done)
    | (simp [*]; done)
    | (have e := State.but_fst 16 ‹_ = (_, _)›; simp at e; simp [e]; done)
    | (have e := State.but_snd 16 ‹_ = (_, _)›; simp at e; simp [e]; done))

@[simp] theorem State.pairEpoch_but {u : Nat} (hu : u &&& 16 = 16) (s : State) :
    (State.pairEpoch s).but u = s.but u := by
  refine State.but_mono hu ?_
  unfold State.pairEpoch
  first
  | (simp; done)
  | ((try dsimp only); (repeat' split) <;> first
    | (simp; done)
    | (simp [*]; done)
    | (have e := State.but_fst 16 ‹_ = (_, _)›; simp at e; simp [e]; done)
    | (have e := State.but_snd 16 ‹_ = (_, _)›; simp at e; simp [e]; done))

@[simp] theorem State.pairCheckStart_but {u : Nat} (hu : u &&& 25 = 25) (s : State) :
    (State.pairCheckStart s).but u = s.but u := by
  refine State.but_mono hu ?_
  unfold State.pairCheckStart
  first
  | (simp; done)
  | ((try dsimp only); (repeat' split) <;> first
    | (simp; done)
    | (simp [*]; done)
    | (have e := State.but_fst 25 ‹_ = (_, _)›; simp at e; simp [e]; done)
    | (have e := State.but_snd 25 ‹_ = (_, _)›; simp at e; simp [e]; done))

@[simp] theorem State.pairMismatch_but {u : Nat} (hu : u &&& 2164260889 = 2164260889) (s : State) (epoch : Nat) (kind : Nat) :
    (State.pairMismatch s epoch kind).but u = s.but u := by
  refine State.but_mono hu ?_
  unfold State.pairMismatch
  first
  | (simp; done)
  | ((try dsimp only); (repeat' split) <;> first
    | (simp; done)
    | (simp [*]; done)
    | (have e := State.but_fst 2164260889 ‹_ = (_, _)›; simp at e; simp [e]; done)
    | (have e := State.but_snd 2164260889 ‹_ = (_, _)›; simp at e; simp [e]; done))

@[simp] theorem State.digestIn_but {u : Nat} (hu : u &&& 2164260889 = 2164260889) (s : State) (d : Sys2Proof.Digest) (rx : Nat) :
    (State.digestIn s d rx).but u = s.but u := by
  refine State.but_mono hu ?_
  unfold State.digestIn
  first
  | (simp; done)
  | ((try dsimp only); (repeat' split) <;> first
    | (simp; done)
    | (simp [*]; done)
    | (have e := State.but_fst 2164260889 ‹_ = (_, _)›; simp at e; simp [e]; done)
    | (have e := State.but_snd 2164260889 ‹_ = (_, _)›; simp at e; simp [e]; done))

theorem execPairClaim_but {u : Nat} (hu : u &&& 3238002691 = 3238002691) (m : Sys2Proof.Master) (s : State) {z : State} (h : execPairClaim m s = .next z) :
    z.but u = s.but u := by
  refine State.but_mono hu ?_
  revert h
  unfold execPairClaim
  (try dsimp only)
  intro h
  obtain rfl := Host.Outcome.next.inj h
  clear h
  first
  | (simp; done)
  | ((repeat' split) <;> first
    | (simp; done)
    | (simp [*]; done)
    | (have e := State.but_fst 3238002691 ‹_ = (_, _)›; simp at e; simp [e]; done)
    | (have e := State.but_snd 3238002691 ‹_ = (_, _)›; simp at e; simp [e]; done))

theorem execPairRelease_but {u : Nat} (hu : u &&& 3238002691 = 3238002691) (m : Sys2Proof.Master) (s : State) {z : State} (h : execPairRelease m s = .next z) :
    z.but u = s.but u := by
  refine State.but_mono hu ?_
  revert h
  unfold execPairRelease
  (try dsimp only)
  intro h
  obtain rfl := Host.Outcome.next.inj h
  clear h
  first
  | (simp; done)
  | ((repeat' split) <;> first
    | (simp; done)
    | (simp [*]; done)
    | (have e := State.but_fst 3238002691 ‹_ = (_, _)›; simp at e; simp [e]; done)
    | (have e := State.but_snd 3238002691 ‹_ = (_, _)›; simp at e; simp [e]; done))

theorem execBelayInQualified_but {u : Nat} (hu : u &&& 2164260867 = 2164260867) (s : State) {z : State} (h : execBelayInQualified s = .next z) :
    z.but u = s.but u := by
  refine State.but_mono hu ?_
  revert h
  unfold execBelayInQualified
  (try dsimp only)
  intro h
  obtain rfl := Host.Outcome.next.inj h
  clear h
  first
  | (simp; done)
  | ((repeat' split) <;> first
    | (simp; done)
    | (simp [*]; done)
    | (have e := State.but_fst 2164260867 ‹_ = (_, _)›; simp at e; simp [e]; done)
    | (have e := State.but_snd 2164260867 ‹_ = (_, _)›; simp at e; simp [e]; done))

theorem execBelayContention_but {u : Nat} (hu : u &&& 2164260867 = 2164260867) (s : State) {z : State} (h : execBelayContention s = .next z) :
    z.but u = s.but u := by
  refine State.but_mono hu ?_
  revert h
  unfold execBelayContention
  (try dsimp only)
  intro h
  obtain rfl := Host.Outcome.next.inj h
  clear h
  first
  | (simp; done)
  | ((repeat' split) <;> first
    | (simp; done)
    | (simp [*]; done)
    | (have e := State.but_fst 2164260867 ‹_ = (_, _)›; simp at e; simp [e]; done)
    | (have e := State.but_snd 2164260867 ‹_ = (_, _)›; simp at e; simp [e]; done))

theorem execDigestSend_but {u : Nat} (hu : u &&& 2147483664 = 2147483664) (s : State) {z : State} (h : execDigestSend s = .next z) :
    z.but u = s.but u := by
  refine State.but_mono hu ?_
  revert h
  unfold execDigestSend
  (try dsimp only)
  intro h
  obtain rfl := Host.Outcome.next.inj h
  clear h
  first
  | (simp; done)
  | ((repeat' split) <;> first
    | (simp; done)
    | (simp [*]; done)
    | (have e := State.but_fst 2147483664 ‹_ = (_, _)›; simp at e; simp [e]; done)
    | (have e := State.but_snd 2147483664 ‹_ = (_, _)›; simp at e; simp [e]; done))

theorem execDigestReceived_but {u : Nat} (hu : u &&& 2164260889 = 2164260889) (d : Sys2Proof.Digest) (rxTime : Nat) (s : State) {z : State} (h : execDigestReceived d rxTime s = .next z) :
    z.but u = s.but u := by
  refine State.but_mono hu ?_
  revert h
  unfold execDigestReceived
  (try dsimp only)
  intro h
  obtain rfl := Host.Outcome.next.inj h
  clear h
  first
  | (simp; done)
  | ((repeat' split) <;> first
    | (simp; done)
    | (simp [*]; done)
    | (have e := State.but_fst 2164260889 ‹_ = (_, _)›; simp at e; simp [e]; done)
    | (have e := State.but_snd 2164260889 ‹_ = (_, _)›; simp at e; simp [e]; done))

theorem execDigestMissing_but {u : Nat} (hu : u &&& 2164260881 = 2164260881) (s : State) {z : State} (h : execDigestMissing s = .next z) :
    z.but u = s.but u := by
  refine State.but_mono hu ?_
  revert h
  unfold execDigestMissing
  (try dsimp only)
  intro h
  obtain rfl := Host.Outcome.next.inj h
  clear h
  first
  | (simp; done)
  | ((repeat' split) <;> first
    | (simp; done)
    | (simp [*]; done)
    | (have e := State.but_fst 2164260881 ‹_ = (_, _)›; simp at e; simp [e]; done)
    | (have e := State.but_snd 2164260881 ‹_ = (_, _)›; simp at e; simp [e]; done))

theorem execPairSelfcheckDone_but {u : Nat} (hu : u &&& 2164260867 = 2164260867) (pass : Bool) (s : State) {z : State} (h : execPairSelfcheckDone pass s = .next z) :
    z.but u = s.but u := by
  refine State.but_mono hu ?_
  revert h
  unfold execPairSelfcheckDone
  (try dsimp only)
  intro h
  obtain rfl := Host.Outcome.next.inj h
  clear h
  first
  | (simp; done)
  | ((repeat' split) <;> first
    | (simp; done)
    | (simp [*]; done)
    | (have e := State.but_fst 2164260867 ‹_ = (_, _)›; simp at e; simp [e]; done)
    | (have e := State.but_snd 2164260867 ‹_ = (_, _)›; simp at e; simp [e]; done))

theorem execPairPresentChange_but {u : Nat} (hu : u &&& 2164260867 = 2164260867) (high : Bool) (s : State) {z : State} (h : execPairPresentChange high s = .next z) :
    z.but u = s.but u := by
  refine State.but_mono hu ?_
  revert h
  unfold execPairPresentChange
  (try dsimp only)
  intro h
  obtain rfl := Host.Outcome.next.inj h
  clear h
  first
  | (simp; done)
  | ((repeat' split) <;> first
    | (simp; done)
    | (simp [*]; done)
    | (have e := State.but_fst 2164260867 ‹_ = (_, _)›; simp at e; simp [e]; done)
    | (have e := State.but_snd 2164260867 ‹_ = (_, _)›; simp at e; simp [e]; done))

/-! ## Icu -/

@[simp] theorem State.icuClaim_but {u : Nat} (hu : u &&& 2164785153 = 2164785153) (s : State) (c : Nat) :
    (State.icuClaim s c).2.but u = s.but u := by
  refine State.but_mono hu ?_
  unfold State.icuClaim
  first
  | (simp; done)
  | ((try dsimp only); (repeat' split) <;> first
    | (simp; done)
    | (simp [*]; done)
    | (have e := State.but_fst 2164785153 ‹_ = (_, _)›; simp at e; simp [e]; done)
    | (have e := State.but_snd 2164785153 ‹_ = (_, _)›; simp at e; simp [e]; done))

@[simp] theorem State.icuDone_but {u : Nat} (hu : u &&& 2164785153 = 2164785153) (s : State) (c : Nat) (src : Nat) :
    (State.icuDone s c src).but u = s.but u := by
  refine State.but_mono hu ?_
  unfold State.icuDone
  first
  | (simp; done)
  | ((try dsimp only); (repeat' split) <;> first
    | (simp; done)
    | (simp [*]; done)
    | (have e := State.but_fst 2164785153 ‹_ = (_, _)›; simp at e; simp [e]; done)
    | (have e := State.but_snd 2164785153 ‹_ = (_, _)›; simp at e; simp [e]; done))

@[simp] theorem State.doorbell_but {u : Nat} (hu : u &&& 8912899 = 8912899) (s : State) (v : Nat) :
    (State.doorbell s v).but u = s.but u := by
  refine State.but_mono hu ?_
  unfold State.doorbell
  first
  | (simp; done)
  | ((try dsimp only); (repeat' split) <;> first
    | (simp; done)
    | (simp [*]; done)
    | (have e := State.but_fst 8912899 ‹_ = (_, _)›; simp at e; simp [e]; done)
    | (have e := State.but_snd 8912899 ‹_ = (_, _)›; simp at e; simp [e]; done))

@[simp] theorem State.icuTraverse_but {u : Nat} (hu : u &&& 524288 = 524288) (s : State) :
    (State.icuTraverse s).but u = s.but u := by
  refine State.but_mono hu ?_
  unfold State.icuTraverse
  first
  | (simp; done)
  | ((try dsimp only); (repeat' split) <;> first
    | (simp; done)
    | (simp [*]; done)
    | (have e := State.but_fst 524288 ‹_ = (_, _)›; simp at e; simp [e]; done)
    | (have e := State.but_snd 524288 ‹_ = (_, _)›; simp at e; simp [e]; done))

@[simp] theorem State.coreRun_but {u : Nat} (hu : u &&& 1049089 = 1049089) (s : State) (c : Nat) :
    (State.coreRun s c).but u = s.but u := by
  refine State.but_mono hu ?_
  unfold State.coreRun
  first
  | (simp; done)
  | ((try dsimp only); (repeat' split) <;> first
    | (simp; done)
    | (simp [*]; done)
    | (have e := State.but_fst 1049089 ‹_ = (_, _)›; simp at e; simp [e]; done)
    | (have e := State.but_snd 1049089 ‹_ = (_, _)›; simp at e; simp [e]; done))

@[simp] theorem State.coreReload_but {u : Nat} (hu : u &&& 1 = 1) (s : State) (c : Nat) :
    (State.coreReload s c).but u = s.but u := by
  refine State.but_mono hu ?_
  unfold State.coreReload
  first
  | (simp; done)
  | ((try dsimp only); (repeat' split) <;> first
    | (simp; done)
    | (simp [*]; done)
    | (have e := State.but_fst 1 ‹_ = (_, _)›; simp at e; simp [e]; done)
    | (have e := State.but_snd 1 ‹_ = (_, _)›; simp at e; simp [e]; done))

@[simp] theorem State.coreResetCmd_but {u : Nat} (hu : u &&& 1 = 1) (s : State) (m : Sys2Proof.Master) (c : Nat) :
    (State.coreResetCmd s m c).but u = s.but u := by
  refine State.but_mono hu ?_
  unfold State.coreResetCmd
  first
  | (simp; done)
  | ((try dsimp only); (repeat' split) <;> first
    | (simp; done)
    | (simp [*]; done)
    | (have e := State.but_fst 1 ‹_ = (_, _)›; simp at e; simp [e]; done)
    | (have e := State.but_snd 1 ‹_ = (_, _)›; simp at e; simp [e]; done))

@[simp] theorem State.coreHaltCmd_but {u : Nat} (hu : u &&& 1049089 = 1049089) (s : State) (m : Sys2Proof.Master) (c : Nat) (h : Bool) :
    (State.coreHaltCmd s m c h).but u = s.but u := by
  refine State.but_mono hu ?_
  unfold State.coreHaltCmd
  first
  | (simp; done)
  | ((try dsimp only); (repeat' split) <;> first
    | (simp; done)
    | (simp [*]; done)
    | (have e := State.but_fst 1049089 ‹_ = (_, _)›; simp at e; simp [e]; done)
    | (have e := State.but_snd 1049089 ‹_ = (_, _)›; simp at e; simp [e]; done))

@[simp] theorem State.kick_but {u : Nat} (hu : u &&& 1048576 = 1048576) (s : State) (c : Nat) :
    (State.kick s c).but u = s.but u := by
  refine State.but_mono hu ?_
  unfold State.kick
  first
  | (simp; done)
  | ((try dsimp only); (repeat' split) <;> first
    | (simp; done)
    | (simp [*]; done)
    | (have e := State.but_fst 1048576 ‹_ = (_, _)›; simp at e; simp [e]; done)
    | (have e := State.but_snd 1048576 ‹_ = (_, _)›; simp at e; simp [e]; done))

theorem execIcuClaim_but {u : Nat} (hu : u &&& 3238526977 = 3238526977) (core : Nat) (s : State) {z : State} (h : execIcuClaim core s = .next z) :
    z.but u = s.but u := by
  refine State.but_mono hu ?_
  revert h
  unfold execIcuClaim
  (try dsimp only)
  intro h
  obtain rfl := Host.Outcome.next.inj h
  clear h
  first
  | (simp; done)
  | ((repeat' split) <;> first
    | (simp; done)
    | (simp [*]; done)
    | (have e := State.but_fst 3238526977 ‹_ = (_, _)›; simp at e; simp [e]; done)
    | (have e := State.but_snd 3238526977 ‹_ = (_, _)›; simp at e; simp [e]; done))

theorem execIcuDone_but {u : Nat} (hu : u &&& 3238526977 = 3238526977) (core : Nat) (src : Nat) (s : State) {z : State} (h : execIcuDone core src s = .next z) :
    z.but u = s.but u := by
  refine State.but_mono hu ?_
  revert h
  unfold execIcuDone
  (try dsimp only)
  intro h
  obtain rfl := Host.Outcome.next.inj h
  clear h
  first
  | (simp; done)
  | ((repeat' split) <;> first
    | (simp; done)
    | (simp [*]; done)
    | (have e := State.but_fst 3238526977 ‹_ = (_, _)›; simp at e; simp [e]; done)
    | (have e := State.but_snd 3238526977 ‹_ = (_, _)›; simp at e; simp [e]; done))

theorem execIcuDoorbell_but {u : Nat} (hu : u &&& 3246915587 = 3246915587) (m : Sys2Proof.Master) (bits : Sys2Proof.Byte) (s : State) {z : State} (h : execIcuDoorbell m bits s = .next z) :
    z.but u = s.but u := by
  refine State.but_mono hu ?_
  revert h
  unfold execIcuDoorbell
  (try dsimp only)
  intro h
  obtain rfl := Host.Outcome.next.inj h
  clear h
  first
  | (simp; done)
  | ((repeat' split) <;> first
    | (simp; done)
    | (simp [*]; done)
    | (have e := State.but_fst 3246915587 ‹_ = (_, _)›; simp at e; simp [e]; done)
    | (have e := State.but_snd 3246915587 ‹_ = (_, _)›; simp at e; simp [e]; done))

theorem execHoldoffExpire_but {u : Nat} (hu : u &&& 524288 = 524288) (g : Nat) (s : State) {z : State} (h : execHoldoffExpire g s = .next z) :
    z.but u = s.but u := by
  refine State.but_mono hu ?_
  revert h
  unfold execHoldoffExpire
  (try dsimp only)
  intro h
  obtain rfl := Host.Outcome.next.inj h
  clear h
  first
  | (simp; done)
  | ((repeat' split) <;> first
    | (simp; done)
    | (simp [*]; done)
    | (have e := State.but_fst 524288 ‹_ = (_, _)›; simp at e; simp [e]; done)
    | (have e := State.but_snd 524288 ‹_ = (_, _)›; simp at e; simp [e]; done))

theorem execGpioFiltered_but {u : Nat} (hu : u &&& 8912899 = 8912899) (n : Nat) (level : Bool) (s : State) {z : State} (h : execGpioFiltered n level s = .next z) :
    z.but u = s.but u := by
  refine State.but_mono hu ?_
  revert h
  unfold execGpioFiltered
  (try dsimp only)
  intro h
  obtain rfl := Host.Outcome.next.inj h
  clear h
  first
  | (simp; done)
  | ((repeat' split) <;> first
    | (simp; done)
    | (simp [*]; done)
    | (have e := State.but_fst 8912899 ‹_ = (_, _)›; simp at e; simp [e]; done)
    | (have e := State.but_snd 8912899 ‹_ = (_, _)›; simp at e; simp [e]; done))

theorem execCoreReset_but {u : Nat} (hu : u &&& 3238002689 = 3238002689) (m : Sys2Proof.Master) (core : Nat) (s : State) {z : State} (h : execCoreReset m core s = .next z) :
    z.but u = s.but u := by
  refine State.but_mono hu ?_
  revert h
  unfold execCoreReset
  (try dsimp only)
  intro h
  obtain rfl := Host.Outcome.next.inj h
  clear h
  first
  | (simp; done)
  | ((repeat' split) <;> first
    | (simp; done)
    | (simp [*]; done)
    | (have e := State.but_fst 3238002689 ‹_ = (_, _)›; simp at e; simp [e]; done)
    | (have e := State.but_snd 3238002689 ‹_ = (_, _)›; simp at e; simp [e]; done))

theorem execCoreHalt_but {u : Nat} (hu : u &&& 3239051777 = 3239051777) (m : Sys2Proof.Master) (core : Nat) (halt : Bool) (s : State) {z : State} (h : execCoreHalt m core halt s = .next z) :
    z.but u = s.but u := by
  refine State.but_mono hu ?_
  revert h
  unfold execCoreHalt
  (try dsimp only)
  intro h
  obtain rfl := Host.Outcome.next.inj h
  clear h
  first
  | (simp; done)
  | ((repeat' split) <;> first
    | (simp; done)
    | (simp [*]; done)
    | (have e := State.but_fst 3239051777 ‹_ = (_, _)›; simp at e; simp [e]; done)
    | (have e := State.but_snd 3239051777 ‹_ = (_, _)›; simp at e; simp [e]; done))

theorem execCoreLoadDone_but {u : Nat} (hu : u &&& 1049089 = 1049089) (core : Nat) (ok : Bool) (s : State) {z : State} (h : execCoreLoadDone core ok s = .next z) :
    z.but u = s.but u := by
  refine State.but_mono hu ?_
  revert h
  unfold execCoreLoadDone
  (try dsimp only)
  intro h
  obtain rfl := Host.Outcome.next.inj h
  clear h
  first
  | (simp; done)
  | ((repeat' split) <;> first
    | (simp; done)
    | (simp [*]; done)
    | (have e := State.but_fst 1049089 ‹_ = (_, _)›; simp at e; simp [e]; done)
    | (have e := State.but_snd 1049089 ‹_ = (_, _)›; simp at e; simp [e]; done))

theorem execWatchdogKick_but {u : Nat} (hu : u &&& 3239051265 = 3239051265) (m : Sys2Proof.Master) (core : Nat) (s : State) {z : State} (h : execWatchdogKick m core s = .next z) :
    z.but u = s.but u := by
  refine State.but_mono hu ?_
  revert h
  unfold execWatchdogKick
  (try dsimp only)
  intro h
  obtain rfl := Host.Outcome.next.inj h
  clear h
  first
  | (simp; done)
  | ((repeat' split) <;> first
    | (simp; done)
    | (simp [*]; done)
    | (have e := State.but_fst 3239051265 ‹_ = (_, _)›; simp at e; simp [e]; done)
    | (have e := State.but_snd 3239051265 ‹_ = (_, _)›; simp at e; simp [e]; done))

theorem execAgentAccessFault_but {u : Nat} (hu : u &&& 2164260865 = 2164260865) (addr : Nat) (write : Bool) (s : State) {z : State} (h : execAgentAccessFault addr write s = .next z) :
    z.but u = s.but u := by
  refine State.but_mono hu ?_
  revert h
  unfold execAgentAccessFault
  (try dsimp only)
  intro h
  obtain rfl := Host.Outcome.next.inj h
  clear h
  first
  | (simp; done)
  | ((repeat' split) <;> first
    | (simp; done)
    | (simp [*]; done)
    | (have e := State.but_fst 2164260865 ‹_ = (_, _)›; simp at e; simp [e]; done)
    | (have e := State.but_snd 2164260865 ‹_ = (_, _)›; simp at e; simp [e]; done))

theorem execCoreFatalTrap_but {u : Nat} (hu : u &&& 1 = 1) (core : Nat) (s : State) {z : State} (h : execCoreFatalTrap core s = .next z) :
    z.but u = s.but u := by
  refine State.but_mono hu ?_
  revert h
  unfold execCoreFatalTrap
  (try dsimp only)
  intro h
  obtain rfl := Host.Outcome.next.inj h
  clear h
  first
  | (simp; done)
  | ((repeat' split) <;> first
    | (simp; done)
    | (simp [*]; done)
    | (have e := State.but_fst 1 ‹_ = (_, _)›; simp at e; simp [e]; done)
    | (have e := State.but_snd 1 ‹_ = (_, _)›; simp at e; simp [e]; done))

/-! ## Pmu -/

@[simp] theorem State.fwinCfg_but {u : Nat} (hu : u &&& 16777217 = 16777217) (s : State) (pg : Nat) (n : Nat) (v : Nat) :
    (State.fwinCfg s pg n v).but u = s.but u := by
  refine State.but_mono hu ?_
  unfold State.fwinCfg
  first
  | (simp; done)
  | ((try dsimp only); (repeat' split) <;> first
    | (simp; done)
    | (simp [*]; done)
    | (have e := State.but_fst 16777217 ‹_ = (_, _)›; simp at e; simp [e]; done)
    | (have e := State.but_snd 16777217 ‹_ = (_, _)›; simp at e; simp [e]; done))

@[simp] theorem State.fwinStatTake_but {u : Nat} (hu : u &&& 1 = 1) (s : State) (pg : Nat) (n : Nat) :
    (State.fwinStatTake s pg n).2.but u = s.but u := by
  refine State.but_mono hu ?_
  unfold State.fwinStatTake
  first
  | (simp; done)
  | ((try dsimp only); (repeat' split) <;> first
    | (simp; done)
    | (simp [*]; done)
    | (have e := State.but_fst 1 ‹_ = (_, _)›; simp at e; simp [e]; done)
    | (have e := State.but_snd 1 ‹_ = (_, _)›; simp at e; simp [e]; done))

@[simp] theorem State.windowsSkipped_but {u : Nat} (hu : u &&& 1 = 1) (s : State) (e0 e1 : Nat) :
    (State.windowsSkipped s e0 e1).but u = s.but u := by
  refine State.but_mono hu ?_
  unfold State.windowsSkipped
  refine State.but_foldl (fun t pg => State.but_foldl (fun t n => ?_) _ _) _ _
  dsimp only
  (repeat' split) <;> first | rfl | simp

@[simp] theorem State.pmuClear_but {u : Nat} (hu : u &&& 16777216 = 16777216) (s : State) :
    (State.pmuClear s).but u = s.but u := by
  refine State.but_mono hu ?_
  unfold State.pmuClear
  first
  | (simp; done)
  | ((try dsimp only); (repeat' split) <;> first
    | (simp; done)
    | (simp [*]; done)
    | (have e := State.but_fst 16777216 ‹_ = (_, _)›; simp at e; simp [e]; done)
    | (have e := State.but_snd 16777216 ‹_ = (_, _)›; simp at e; simp [e]; done))

@[simp] theorem State.pmuValue_but {u : Nat} (hu : u &&& 16777217 = 16777217) (s : State) (m : Master) (hi : Bool) (v : Nat) :
    (State.pmuValue s m hi v).but u = s.but u := by
  have g : ∀ (x : PmuSt), ({ s with pmu := x } : State).but u = s.but u := fun x => State.but_mono hu (by simp)
  unfold State.pmuValue
  split
  · exact g _
  · exact State.but_mono hu (by simp)

theorem execFaultWindowEnd_but {u : Nat} (hu : u &&& 1 = 1) (page : Nat) (n : Nat) (s : State) {z : State} (h : execFaultWindowEnd page n s = .next z) :
    z.but u = s.but u := by
  refine State.but_mono hu ?_
  revert h
  unfold execFaultWindowEnd
  (try dsimp only)
  intro h
  obtain rfl := Host.Outcome.next.inj h
  clear h
  first
  | (simp; done)
  | ((repeat' split) <;> first
    | (simp; done)
    | (simp [*]; done)
    | (have e := State.but_fst 1 ‹_ = (_, _)›; simp at e; simp [e]; done)
    | (have e := State.but_snd 1 ‹_ = (_, _)›; simp at e; simp [e]; done))

theorem execFwinCfgWrite_but {u : Nat} (hu : u &&& 3238002689 = 3238002689) (m : Sys2Proof.Master) (page : Nat) (n : Nat) (v : Sys2Proof.Word) (s : State) {z : State} (h : execFwinCfgWrite m page n v s = .next z) :
    z.but u = s.but u := by
  refine State.but_mono hu ?_
  revert h
  unfold execFwinCfgWrite
  (try dsimp only)
  intro h
  obtain rfl := Host.Outcome.next.inj h
  clear h
  first
  | (simp; done)
  | ((repeat' split) <;> first
    | (simp; done)
    | (simp [*]; done)
    | (have e := State.but_fst 3238002689 ‹_ = (_, _)›; simp at e; simp [e]; done)
    | (have e := State.but_snd 3238002689 ‹_ = (_, _)›; simp at e; simp [e]; done))

theorem execFwinStatRead_but {u : Nat} (hu : u &&& 3238002689 = 3238002689) (m : Sys2Proof.Master) (page : Nat) (n : Nat) (s : State) {z : State} (h : execFwinStatRead m page n s = .next z) :
    z.but u = s.but u := by
  refine State.but_mono hu ?_
  revert h
  unfold execFwinStatRead
  (try dsimp only)
  intro h
  obtain rfl := Host.Outcome.next.inj h
  clear h
  first
  | (simp; done)
  | ((repeat' split) <;> first
    | (simp; done)
    | (simp [*]; done)
    | (have e := State.but_fst 3238002689 ‹_ = (_, _)›; simp at e; simp [e]; done)
    | (have e := State.but_snd 3238002689 ‹_ = (_, _)›; simp at e; simp [e]; done))

theorem execPmuClearAll_but {u : Nat} (hu : u &&& 3238002689 = 3238002689) (m : Sys2Proof.Master) (s : State) {z : State} (h : execPmuClearAll m s = .next z) :
    z.but u = s.but u := by
  refine State.but_mono hu ?_
  revert h
  unfold execPmuClearAll
  (try dsimp only)
  intro h
  obtain rfl := Host.Outcome.next.inj h
  clear h
  first
  | (simp; done)
  | ((repeat' split) <;> first
    | (simp; done)
    | (simp [*]; done)
    | (have e := State.but_fst 3238002689 ‹_ = (_, _)›; simp at e; simp [e]; done)
    | (have e := State.but_snd 3238002689 ‹_ = (_, _)›; simp at e; simp [e]; done))

theorem execPmuValueWrite_but {u : Nat} (hu : u &&& 3238002689 = 3238002689) (m : Sys2Proof.Master) (hi : Bool) (v : Sys2Proof.Word) (s : State) {z : State} (h : execPmuValueWrite m hi v s = .next z) :
    z.but u = s.but u := by
  refine State.but_mono hu ?_
  revert h
  unfold execPmuValueWrite
  (try dsimp only)
  intro h
  obtain rfl := Host.Outcome.next.inj h
  clear h
  first
  | (simp; done)
  | ((repeat' split) <;> first
    | (simp; done)
    | (simp [*]; done)
    | (have e := State.but_fst 3238002689 ‹_ = (_, _)›; simp at e; simp [e]; done)
    | (have e := State.but_snd 3238002689 ‹_ = (_, _)›; simp at e; simp [e]; done))

@[simp] theorem State.trbWrite_but {u : Nat} (hu : u &&& 1 = 1) (s : State) (pg : Nat) (k : Nat) (v : Nat) :
    (State.trbWrite s pg k v).but u = s.but u := by
  refine State.but_mono hu ?_
  unfold State.trbWrite
  first
  | (simp; done)
  | ((try dsimp only); (repeat' split) <;> first
    | (simp; done)
    | (simp [*]; done)
    | (have e := State.but_fst 1 ‹_ = (_, _)›; simp at e; simp [e]; done)
    | (have e := State.but_snd 1 ‹_ = (_, _)›; simp at e; simp [e]; done))

theorem execTrbWrite_but {u : Nat} (hu : u &&& 3238002689 = 3238002689) (m : Sys2Proof.Master) (page : Nat) (k : Nat) (v : Sys2Proof.Word) (s : State) {z : State} (h : execTrbWrite m page k v s = .next z) :
    z.but u = s.but u := by
  refine State.but_mono hu ?_
  revert h
  unfold execTrbWrite
  (try dsimp only)
  intro h
  obtain rfl := Host.Outcome.next.inj h
  clear h
  first
  | (simp; done)
  | ((repeat' split) <;> first
    | (simp; done)
    | (simp [*]; done)
    | (have e := State.but_fst 3238002689 ‹_ = (_, _)›; simp at e; simp [e]; done)
    | (have e := State.but_snd 3238002689 ‹_ = (_, _)›; simp at e; simp [e]; done))

/-! ## Ports -/

@[simp] theorem State.wpf_but {u : Nat} (hu : u &&& 1 = 1) (s : State) (f : Sys2Proof.Machine.Fld) (p : Nat) (v : Nat) :
    (State.wpf s f p v).but u = s.but u := by
  refine State.but_mono hu ?_
  unfold State.wpf
  first
  | (simp; done)
  | ((try dsimp only); (repeat' split) <;> first
    | (simp; done)
    | (simp [*]; done)
    | (have e := State.but_fst 1 ‹_ = (_, _)›; simp at e; simp [e]; done)
    | (have e := State.but_snd 1 ‹_ = (_, _)›; simp at e; simp [e]; done))

@[simp] theorem State.ptrb_but {u : Nat} (hu : u &&& 2164260865 = 2164260865) (s : State) (p : Nat) (k : Nat) :
    (State.ptrb s p k).but u = s.but u := by
  refine State.but_mono hu ?_
  unfold State.ptrb
  first
  | (simp; done)
  | ((try dsimp only); (repeat' split) <;> first
    | (simp; done)
    | (simp [*]; done)
    | (have e := State.but_fst 2164260865 ‹_ = (_, _)›; simp at e; simp [e]; done)
    | (have e := State.but_snd 2164260865 ‹_ = (_, _)›; simp at e; simp [e]; done))

@[simp] theorem State.syeAfter_but {u : Nat} (hu : u &&& 2164260865 = 2164260865) (s : State) (before : State) :
    (State.syeAfter s before).but u = s.but u := by
  refine State.but_mono hu ?_
  unfold State.syeAfter
  first
  | (simp; done)
  | ((try dsimp only); (repeat' split) <;> first
    | (simp; done)
    | (simp [*]; done)
    | (have e := State.but_fst 2164260865 ‹_ = (_, _)›; simp at e; simp [e]; done)
    | (have e := State.but_snd 2164260865 ‹_ = (_, _)›; simp at e; simp [e]; done))

@[simp] theorem State.setPort_but {u : Nat} (hu : u &&& 128 = 128) (s : State) (p : Nat) (x : Sys2Proof.Machine.PortSt) :
    (State.setPort s p x).but u = s.but u := by
  refine State.but_mono hu ?_
  unfold State.setPort
  first
  | (simp; done)
  | ((try dsimp only); (repeat' split) <;> first
    | (simp; done)
    | (simp [*]; done)
    | (have e := State.but_fst 128 ‹_ = (_, _)›; simp at e; simp [e]; done)
    | (have e := State.but_snd 128 ‹_ = (_, _)›; simp at e; simp [e]; done))

@[simp] theorem State.portDown_but {u : Nat} (hu : u &&& 2164260865 = 2164260865) (s : State) (p : Nat) :
    (State.portDown s p).but u = s.but u := by
  refine State.but_mono hu ?_
  unfold State.portDown
  first
  | (simp; done)
  | ((try dsimp only); (repeat' split) <;> first
    | (simp; done)
    | (simp [*]; done)
    | (have e := State.but_fst 2164260865 ‹_ = (_, _)›; simp at e; simp [e]; done)
    | (have e := State.but_snd 2164260865 ‹_ = (_, _)›; simp at e; simp [e]; done))

@[simp] theorem State.fcUpdate_but {u : Nat} (hu : u &&& 2147483777 = 2147483777) (s : State) (p : Nat) :
    (State.fcUpdate s p).but u = s.but u := by
  refine State.but_mono hu ?_
  unfold State.fcUpdate
  first
  | (simp; done)
  | ((try dsimp only); (repeat' split) <;> first
    | (simp; done)
    | (simp [*]; done)
    | (have e := State.but_fst 2147483777 ‹_ = (_, _)›; simp at e; simp [e]; done)
    | (have e := State.but_snd 2147483777 ‹_ = (_, _)›; simp at e; simp [e]; done))

@[simp] theorem State.fifoLevel_but {u : Nat} (hu : u &&& 2147483777 = 2147483777) (s : State) (p : Nat) :
    (State.fifoLevel s p).but u = s.but u := by
  refine State.but_mono hu ?_
  unfold State.fifoLevel
  first
  | (simp; done)
  | ((try dsimp only); (repeat' split) <;> first
    | (simp; done)
    | (simp [*]; done)
    | (have e := State.but_fst 2147483777 ‹_ = (_, _)›; simp at e; simp [e]; done)
    | (have e := State.but_snd 2147483777 ‹_ = (_, _)›; simp at e; simp [e]; done))

@[simp] theorem State.fifoPut_but {u : Nat} (hu : u &&& 2164260993 = 2164260993) (s : State) (p : Nat) (f : Sys2Proof.Machine.InFrame) :
    (State.fifoPut s p f).but u = s.but u := by
  refine State.but_mono hu ?_
  unfold State.fifoPut
  first
  | (simp; done)
  | ((try dsimp only); (repeat' split) <;> first
    | (simp; done)
    | (simp [*]; done)
    | (have e := State.but_fst 2164260993 ‹_ = (_, _)›; simp at e; simp [e]; done)
    | (have e := State.but_snd 2164260993 ‹_ = (_, _)›; simp at e; simp [e]; done))

@[simp] theorem State.pauseClass_but {u : Nat} (hu : u &&& 129 = 129) (s : State) (p : Nat) (c : Nat) (quanta : Nat) :
    (State.pauseClass s p c quanta).but u = s.but u := by
  refine State.but_mono hu ?_
  unfold State.pauseClass
  first
  | (simp; done)
  | ((try dsimp only); (repeat' split) <;> first
    | (simp; done)
    | (simp [*]; done)
    | (have e := State.but_fst 129 ‹_ = (_, _)›; simp at e; simp [e]; done)
    | (have e := State.but_snd 129 ‹_ = (_, _)›; simp at e; simp [e]; done))

@[simp] theorem State.macControl_but {u : Nat} (hu : u &&& 2164260993 = 2164260993) (s : State) (p : Nat) (b : Sys2Proof.Bytes) :
    (State.macControl s p b).but u = s.but u := by
  refine State.but_mono hu ?_
  unfold State.macControl
  first
  | (simp; done)
  | ((try dsimp only); (repeat' split) <;> first
    | (simp; done)
    | (simp [*]; done)
    | (have e := State.but_fst 2164260993 ‹_ = (_, _)›; simp at e; simp [e]; done)
    | (have e := State.but_snd 2164260993 ‹_ = (_, _)›; simp at e; simp [e]; done))

@[simp] theorem State.frameAccept_but {u : Nat} (hu : u &&& 2164260997 = 2164260997) (s : State) (p : Nat) (b : Sys2Proof.Bytes) (whole : Bool) (bad : Bool) :
    (State.frameAccept s p b whole bad).but u = s.but u := by
  refine State.but_mono hu ?_
  unfold State.frameAccept
  first
  | (simp; done)
  | ((try dsimp only); (repeat' split) <;> first
    | (simp; done)
    | (simp [*]; done)
    | (have e := State.but_fst 2164260997 ‹_ = (_, _)›; simp at e; simp [e]; done)
    | (have e := State.but_snd 2164260997 ‹_ = (_, _)›; simp at e; simp [e]; done))

@[simp] theorem State.macCheck_but {u : Nat} (hu : u &&& 2164260997 = 2164260997) (s : State) (p : Nat) (b : Sys2Proof.Bytes) (whole : Bool) :
    (State.macCheck s p b whole).but u = s.but u := by
  refine State.but_mono hu ?_
  unfold State.macCheck
  first
  | (simp; done)
  | ((try dsimp only); (repeat' split) <;> first
    | (simp; done)
    | (simp [*]; done)
    | (have e := State.but_fst 2164260997 ‹_ = (_, _)›; simp at e; simp [e]; done)
    | (have e := State.but_snd 2164260997 ‹_ = (_, _)›; simp at e; simp [e]; done))

@[simp] theorem State.frameIn_but {u : Nat} (hu : u &&& 2164260997 = 2164260997) (s : State) (p : Nat) (b : Sys2Proof.Bytes) (whole : Bool) :
    (State.frameIn s p b whole).but u = s.but u := by
  refine State.but_mono hu ?_
  unfold State.frameIn
  first
  | (simp; done)
  | ((try dsimp only); (repeat' split) <;> first
    | (simp; done)
    | (simp [*]; done)
    | (have e := State.but_fst 2164260997 ‹_ = (_, _)›; simp at e; simp [e]; done)
    | (have e := State.but_snd 2164260997 ‹_ = (_, _)›; simp at e; simp [e]; done))

@[simp] theorem State.commitField_but {u : Nat} (hu : u &&& 1 = 1) (s : State) (pg : Nat) (f : Sys2Proof.Machine.Fld) (i : Nat) :
    (State.commitField s pg f i).but u = s.but u := by
  refine State.but_mono hu ?_
  unfold State.commitField
  first
  | (simp; done)
  | ((try dsimp only); (repeat' split) <;> first
    | (simp; done)
    | (simp [*]; done)
    | (have e := State.but_fst 1 ‹_ = (_, _)›; simp at e; simp [e]; done)
    | (have e := State.but_snd 1 ‹_ = (_, _)›; simp at e; simp [e]; done))

@[simp] theorem State.commitMap_but {u : Nat} (hu : u &&& 2164260865 = 2164260865) (s : State) (g : Nat) (h : Nat) (f : Sys2Proof.Machine.Fld) :
    (State.commitMap s g h f).but u = s.but u := by
  refine State.but_mono hu ?_
  unfold State.commitMap
  first
  | (simp; done)
  | ((try dsimp only); (repeat' split) <;> first
    | (simp; done)
    | (simp [*]; done)
    | (have e := State.but_fst 2164260865 ‹_ = (_, _)›; simp at e; simp [e]; done)
    | (have e := State.but_snd 2164260865 ‹_ = (_, _)›; simp at e; simp [e]; done))

theorem State.commitLane_but {u : Nat} (hu : u &&& 2164260865 = 2164260865) (g : Nat) (okHalf : Nat → Bool) (a : State × List Nat) (j : Nat) :
    (State.commitLane g okHalf a j).1.but u = a.1.but u := by
  refine State.but_mono hu ?_
  unfold State.commitLane
  dsimp only
  split <;> simp

@[simp] theorem State.netpgCommit_but {u : Nat} (hu : u &&& 2164260865 = 2164260865) (s : State) (g : Nat) : (State.netpgCommit s g).but u = s.but u := by
  refine State.but_mono hu ?_
  unfold State.netpgCommit
  dsimp only
  rw [State.but_foldl_fst (fun t x => State.commitLane_but (by simp) g _ t x)]
  simp

theorem execFrameReceived_but {u : Nat} (hu : u &&& 2164260997 = 2164260997) (port : Nat) (b : Sys2Proof.Bytes) (whole : Bool) (s : State) {z : State} (h : execFrameReceived port b whole s = .next z) :
    z.but u = s.but u := by
  refine State.but_mono hu ?_
  revert h
  unfold execFrameReceived
  (try dsimp only)
  intro h
  obtain rfl := Host.Outcome.next.inj h
  clear h
  first
  | (simp; done)
  | ((repeat' split) <;> first
    | (simp; done)
    | (simp [*]; done)
    | (have e := State.but_fst 2164260997 ‹_ = (_, _)›; simp at e; simp [e]; done)
    | (have e := State.but_snd 2164260997 ‹_ = (_, _)›; simp at e; simp [e]; done))

theorem execMacControlFrame_but {u : Nat} (hu : u &&& 2164260993 = 2164260993) (port : Nat) (b : Sys2Proof.Bytes) (s : State) {z : State} (h : execMacControlFrame port b s = .next z) :
    z.but u = s.but u := by
  refine State.but_mono hu ?_
  revert h
  unfold execMacControlFrame
  (try dsimp only)
  intro h
  obtain rfl := Host.Outcome.next.inj h
  clear h
  first
  | (simp; done)
  | ((repeat' split) <;> first
    | (simp; done)
    | (simp [*]; done)
    | (have e := State.but_fst 2164260993 ‹_ = (_, _)›; simp at e; simp [e]; done)
    | (have e := State.but_snd 2164260993 ‹_ = (_, _)›; simp at e; simp [e]; done))

theorem execPauseTimerExpire_but {u : Nat} (hu : u &&& 129 = 129) (port : Nat) (cls : Nat) (s : State) {z : State} (h : execPauseTimerExpire port cls s = .next z) :
    z.but u = s.but u := by
  refine State.but_mono hu ?_
  revert h
  unfold execPauseTimerExpire
  (try dsimp only)
  intro h
  obtain rfl := Host.Outcome.next.inj h
  clear h
  first
  | (simp; done)
  | ((repeat' split) <;> first
    | (simp; done)
    | (simp [*]; done)
    | (have e := State.but_fst 129 ‹_ = (_, _)›; simp at e; simp [e]; done)
    | (have e := State.but_snd 129 ‹_ = (_, _)›; simp at e; simp [e]; done))

theorem execFcRefresh_but {u : Nat} (hu : u &&& 2147483648 = 2147483648) (port : Nat) (s : State) {z : State} (h : execFcRefresh port s = .next z) :
    z.but u = s.but u := by
  refine State.but_mono hu ?_
  revert h
  unfold execFcRefresh
  (try dsimp only)
  intro h
  obtain rfl := Host.Outcome.next.inj h
  clear h
  first
  | (simp; done)
  | ((repeat' split) <;> first
    | (simp; done)
    | (simp [*]; done)
    | (have e := State.but_fst 2147483648 ‹_ = (_, _)›; simp at e; simp [e]; done)
    | (have e := State.but_snd 2147483648 ‹_ = (_, _)›; simp at e; simp [e]; done))

@[simp] theorem State.linkChange_but {u : Nat} (hu : u &&& 2164260865 = 2164260865) (s : State) (p : Nat) (aligned : Bool) (fecLock : Bool) (lf : Bool) (rf : Bool) :
    (State.linkChange s p aligned fecLock lf rf).but u = s.but u := by
  refine State.but_mono hu ?_
  unfold State.linkChange
  first
  | (simp; done)
  | ((try dsimp only); (repeat' split) <;> first
    | (simp; done)
    | (simp [*]; done)
    | (have e := State.but_fst 2164260865 ‹_ = (_, _)›; simp at e; simp [e]; done)
    | (have e := State.but_snd 2164260865 ‹_ = (_, _)›; simp at e; simp [e]; done))

theorem execLinkStateChange_but {u : Nat} (hu : u &&& 2164260865 = 2164260865) (port : Nat) (aligned : Bool) (fecLock : Bool) (localFault : Bool) (remoteFault : Bool) (s : State) {z : State} (h : execLinkStateChange port aligned fecLock localFault remoteFault s = .next z) :
    z.but u = s.but u := by
  refine State.but_mono hu ?_
  revert h
  unfold execLinkStateChange
  (try dsimp only)
  intro h
  obtain rfl := Host.Outcome.next.inj h
  clear h
  first
  | (simp; done)
  | ((repeat' split) <;> first
    | (simp; done)
    | (simp [*]; done)
    | (have e := State.but_fst 2164260865 ‹_ = (_, _)›; simp at e; simp [e]; done)
    | (have e := State.but_snd 2164260865 ‹_ = (_, _)›; simp at e; simp [e]; done))

@[simp] theorem State.prbsTake_but {u : Nat} (hu : u &&& 1 = 1) (s : State) (pg : Nat) (lane : Nat) :
    (State.prbsTake s pg lane).2.but u = s.but u := by
  refine State.but_mono hu ?_
  unfold State.prbsTake
  first
  | (simp; done)
  | ((try dsimp only); (repeat' split) <;> first
    | (simp; done)
    | (simp [*]; done)
    | (have e := State.but_fst 1 ‹_ = (_, _)›; simp at e; simp [e]; done)
    | (have e := State.but_snd 1 ‹_ = (_, _)›; simp at e; simp [e]; done))

theorem execPrbsErrRead_but {u : Nat} (hu : u &&& 3238002689 = 3238002689) (m : Sys2Proof.Master) (page : Nat) (lane : Nat) (s : State) {z : State} (h : execPrbsErrRead m page lane s = .next z) :
    z.but u = s.but u := by
  refine State.but_mono hu ?_
  revert h
  unfold execPrbsErrRead
  (try dsimp only)
  intro h
  obtain rfl := Host.Outcome.next.inj h
  clear h
  first
  | (simp; done)
  | ((repeat' split) <;> first
    | (simp; done)
    | (simp [*]; done)
    | (have e := State.but_fst 3238002689 ‹_ = (_, _)›; simp at e; simp [e]; done)
    | (have e := State.but_snd 3238002689 ‹_ = (_, _)›; simp at e; simp [e]; done))

@[simp] theorem State.refLost_but {u : Nat} (hu : u &&& 2164260865 = 2164260865) (s : State) (k : Nat) :
    (State.refLost s k).but u = s.but u := by
  refine State.but_mono hu ?_
  unfold State.refLost
  first
  | (simp; done)
  | ((try dsimp only); (repeat' split) <;> first
    | (simp; done)
    | (simp [*]; done)
    | (have e := State.but_fst 2164260865 ‹_ = (_, _)›; simp at e; simp [e]; done)
    | (have e := State.but_snd 2164260865 ‹_ = (_, _)›; simp at e; simp [e]; done))

/-! ## Resets -/

@[simp] theorem State.clearRegs_but {u : Nat} (hu : u &&& 1 = 1) (s : State) (keepLive : Bool) (cls : List Sys2Proof.Machine.Ret) (p : Nat) :
    (State.clearRegs s keepLive cls p).but u = s.but u := by
  refine State.but_mono hu ?_
  unfold State.clearRegs
  first
  | (simp; done)
  | ((try dsimp only); (repeat' split) <;> first
    | (simp; done)
    | (simp [*]; done)
    | (have e := State.but_fst 1 ‹_ = (_, _)›; simp at e; simp [e]; done)
    | (have e := State.but_snd 1 ‹_ = (_, _)›; simp at e; simp [e]; done))

@[simp] theorem State.discardBuffers_but {u : Nat} (hu : u &&& 6144 = 6144) (s : State) :
    (State.discardBuffers s).but u = s.but u := by
  refine State.but_mono hu ?_
  unfold State.discardBuffers
  first
  | (simp; done)
  | ((try dsimp only); (repeat' split) <;> first
    | (simp; done)
    | (simp [*]; done)
    | (have e := State.but_fst 6144 ‹_ = (_, _)›; simp at e; simp [e]; done)
    | (have e := State.but_snd 6144 ‹_ = (_, _)›; simp at e; simp [e]; done))

@[simp] theorem State.emptyExm_but {u : Nat} (hu : u &&& 1073742080 = 1073742080) (s : State) :
    (State.emptyExm s).but u = s.but u := by
  refine State.but_mono hu ?_
  unfold State.emptyExm
  first
  | (simp; done)
  | ((try dsimp only); (repeat' split) <;> first
    | (simp; done)
    | (simp [*]; done)
    | (have e := State.but_fst 1073742080 ‹_ = (_, _)›; simp at e; simp [e]; done)
    | (have e := State.but_snd 1073742080 ‹_ = (_, _)›; simp at e; simp [e]; done))

@[simp] theorem State.emptyFrag_but {u : Nat} (hu : u &&& 128 = 128) (s : State) :
    (State.emptyFrag s).but u = s.but u := by
  refine State.but_mono hu ?_
  unfold State.emptyFrag
  first
  | (simp; done)
  | ((try dsimp only); (repeat' split) <;> first
    | (simp; done)
    | (simp [*]; done)
    | (have e := State.but_fst 128 ‹_ = (_, _)›; simp at e; simp [e]; done)
    | (have e := State.but_snd 128 ‹_ = (_, _)›; simp at e; simp [e]; done))

@[simp] theorem State.seedFrag_but {u : Nat} (hu : u &&& 1073741952 = 1073741952) (s : State) :
    (State.seedFrag s).but u = s.but u := by
  refine State.but_mono hu ?_
  unfold State.seedFrag
  first
  | (simp; done)
  | ((try dsimp only); (repeat' split) <;> first
    | (simp; done)
    | (simp [*]; done)
    | (have e := State.but_fst 1073741952 ‹_ = (_, _)›; simp at e; simp [e]; done)
    | (have e := State.but_snd 1073741952 ‹_ = (_, _)›; simp at e; simp [e]; done))

@[simp] theorem State.clearCredits_but {u : Nat} (hu : u &&& 65536 = 65536) (s : State) :
    (State.clearCredits s).but u = s.but u := by
  refine State.but_mono hu ?_
  unfold State.clearCredits
  first
  | (simp; done)
  | ((try dsimp only); (repeat' split) <;> first
    | (simp; done)
    | (simp [*]; done)
    | (have e := State.but_fst 65536 ‹_ = (_, _)›; simp at e; simp [e]; done)
    | (have e := State.but_snd 65536 ‹_ = (_, _)›; simp at e; simp [e]; done))

@[simp] theorem State.hbmLoss_but {u : Nat} (hu : u &&& 131072 = 131072) (s : State) (n : Nat) :
    (State.hbmLoss s n).but u = s.but u := by
  refine State.but_mono hu ?_
  unfold State.hbmLoss
  first
  | (simp; done)
  | ((try dsimp only); (repeat' split) <;> first
    | (simp; done)
    | (simp [*]; done)
    | (have e := State.but_fst 131072 ‹_ = (_, _)›; simp at e; simp [e]; done)
    | (have e := State.but_snd 131072 ‹_ = (_, _)›; simp at e; simp [e]; done))

@[simp] theorem State.hbmTablesLost_but {u : Nat} (hu : u &&& 1073759552 = 1073759552) (s : State) :
    (State.hbmTablesLost s).but u = s.but u := by
  refine State.but_mono hu ?_
  unfold State.hbmTablesLost
  first
  | (simp; done)
  | ((try dsimp only); (repeat' split) <;> first
    | (simp; done)
    | (simp [*]; done)
    | (have e := State.but_fst 1073759552 ‹_ = (_, _)›; simp at e; simp [e]; done)
    | (have e := State.but_snd 1073759552 ‹_ = (_, _)›; simp at e; simp [e]; done))

@[simp] theorem State.clearVolatile_but {u : Nat} (hu : u &&& 2232258716 = 2232258716) (s : State) (p : Nat) :
    (State.clearVolatile s p).but u = s.but u := by
  refine State.but_mono hu ?_
  unfold State.clearVolatile
  first
  | (simp; done)
  | ((try dsimp only); (repeat' split) <;> first
    | (simp; done)
    | (simp [*]; done)
    | (have e := State.but_fst 2232258716 ‹_ = (_, _)›; simp at e; simp [e]; done)
    | (have e := State.but_snd 2232258716 ‹_ = (_, _)›; simp at e; simp [e]; done))

@[simp] theorem State.discardCairns_but {u : Nat} (hu : u &&& 2164260897 = 2164260897) (s : State) :
    (State.discardCairns s).but u = s.but u := by
  refine State.but_mono hu ?_
  unfold State.discardCairns
  first
  | (simp; done)
  | ((try dsimp only); (repeat' split) <;> first
    | (simp; done)
    | (simp [*]; done)
    | (have e := State.but_fst 2164260897 ‹_ = (_, _)›; simp at e; simp [e]; done)
    | (have e := State.but_snd 2164260897 ‹_ = (_, _)›; simp at e; simp [e]; done))

@[simp] theorem State.clearCommitted_but {u : Nat} (hu : u &&& 2198600417 = 2198600417) (s : State) (p : Nat) :
    (State.clearCommitted s p).but u = s.but u := by
  refine State.but_mono hu ?_
  unfold State.clearCommitted
  first
  | (simp; done)
  | ((try dsimp only); (repeat' split) <;> first
    | (simp; done)
    | (simp [*]; done)
    | (have e := State.but_fst 2198600417 ‹_ = (_, _)›; simp at e; simp [e]; done)
    | (have e := State.but_snd 2198600417 ‹_ = (_, _)›; simp at e; simp [e]; done))

@[simp] theorem State.clearPage_but {u : Nat} (hu : u &&& 2265971453 = 2265971453) (s : State) (p : Nat) :
    (State.clearPage s p).but u = s.but u := by
  refine State.but_mono hu ?_
  unfold State.clearPage
  first
  | (simp; done)
  | ((try dsimp only); (repeat' split) <;> first
    | (simp; done)
    | (simp [*]; done)
    | (have e := State.but_fst 2265971453 ‹_ = (_, _)›; simp at e; simp [e]; done)
    | (have e := State.but_snd 2265971453 ‹_ = (_, _)›; simp at e; simp [e]; done))

@[simp] theorem State.domainLoss_but {u : Nat} (hu : u &&& 3306159581 = 3306159581) (s : State) (d : Nat) :
    (State.domainLoss s d).but u = s.but u := by
  refine State.but_mono hu ?_
  unfold State.domainLoss
  first
  | (simp; done)
  | ((try dsimp only); (repeat' split) <;> first
    | (simp; done)
    | (simp [*]; done)
    | (have e := State.but_fst 3306159581 ‹_ = (_, _)›; simp at e; simp [e]; done)
    | (have e := State.but_snd 3306159581 ‹_ = (_, _)›; simp at e; simp [e]; done))

@[simp] theorem State.standbyLoss_but {u : Nat} (hu : u &&& 1870659582 = 1870659582) (s : State) :
    (State.standbyLoss s).but u = s.but u := by
  refine State.but_mono hu ?_
  unfold State.standbyLoss
  first
  | (simp; done)
  | ((try dsimp only); (repeat' split) <;> first
    | (simp; done)
    | (simp [*]; done)
    | (have e := State.but_fst 1870659582 ‹_ = (_, _)›; simp at e; simp [e]; done)
    | (have e := State.but_snd 1870659582 ‹_ = (_, _)›; simp at e; simp [e]; done))

@[simp] theorem State.timeWarm_but {u : Nat} (hu : u &&& 5 = 5) (s : State) :
    (State.timeWarm s).but u = s.but u := by
  refine State.but_mono hu ?_
  unfold State.timeWarm
  first
  | (simp; done)
  | ((try dsimp only); (repeat' split) <;> first
    | (simp; done)
    | (simp [*]; done)
    | (have e := State.but_fst 5 ‹_ = (_, _)›; simp at e; simp [e]; done)
    | (have e := State.but_snd 5 ‹_ = (_, _)›; simp at e; simp [e]; done))

@[simp] theorem State.recordReset_but {u : Nat} (hu : u &&& 1 = 1) (s : State) (last : Nat) (src : Nat) :
    (State.recordReset s last src).but u = s.but u := by
  refine State.but_mono hu ?_
  unfold State.recordReset
  first
  | (simp; done)
  | ((try dsimp only); (repeat' split) <;> first
    | (simp; done)
    | (simp [*]; done)
    | (have e := State.but_fst 1 ‹_ = (_, _)›; simp at e; simp [e]; done)
    | (have e := State.but_snd 1 ‹_ = (_, _)›; simp at e; simp [e]; done))

@[simp] theorem State.belayRelease_but {u : Nat} (hu : u &&& 2164260867 = 2164260867) (s : State) :
    (State.belayRelease s).but u = s.but u := by
  refine State.but_mono hu ?_
  unfold State.belayRelease
  first
  | (simp; done)
  | ((try dsimp only); (repeat' split) <;> first
    | (simp; done)
    | (simp [*]; done)
    | (have e := State.but_fst 2164260867 ‹_ = (_, _)›; simp at e; simp [e]; done)
    | (have e := State.but_snd 2164260867 ‹_ = (_, _)›; simp at e; simp [e]; done))

@[simp] theorem State.warmBegin_but {u : Nat} (hu : u &&& 2332818147 = 2332818147) (s : State) (src : Nat) :
    (State.warmBegin s src).but u = s.but u := by
  refine State.but_mono hu ?_
  unfold State.warmBegin
  first
  | (simp; done)
  | ((try dsimp only); (repeat' split) <;> first
    | (simp; done)
    | (simp [*]; done)
    | (have e := State.but_fst 2332818147 ‹_ = (_, _)›; simp at e; simp [e]; done)
    | (have e := State.but_snd 2332818147 ‹_ = (_, _)›; simp at e; simp [e]; done))

@[simp] theorem State.warmEnd_but {u : Nat} (hu : u &&& 2410674943 = 2410674943) (s : State) :
    (State.warmEnd s).but u = s.but u := by
  refine State.but_mono hu ?_
  unfold State.warmEnd
  first
  | (simp; done)
  | ((try dsimp only); (repeat' split) <;> first
    | (simp; done)
    | (simp [*]; done)
    | (have e := State.but_fst 2410674943 ‹_ = (_, _)›; simp at e; simp [e]; done)
    | (have e := State.but_snd 2410674943 ‹_ = (_, _)›; simp at e; simp [e]; done))

@[simp] theorem State.flrBegin_but {u : Nat} (hu : u &&& 134479873 = 134479873) (s : State) (src : Nat) :
    (State.flrBegin s src).but u = s.but u := by
  refine State.but_mono hu ?_
  unfold State.flrBegin
  first
  | (simp; done)
  | ((try dsimp only); (repeat' split) <;> first
    | (simp; done)
    | (simp [*]; done)
    | (have e := State.but_fst 134479873 ‹_ = (_, _)›; simp at e; simp [e]; done)
    | (have e := State.but_snd 134479873 ‹_ = (_, _)›; simp at e; simp [e]; done))

@[simp] theorem State.flrEnd_but {u : Nat} (hu : u &&& 2400189181 = 2400189181) (s : State) :
    (State.flrEnd s).but u = s.but u := by
  refine State.but_mono hu ?_
  unfold State.flrEnd
  first
  | (simp; done)
  | ((try dsimp only); (repeat' split) <;> first
    | (simp; done)
    | (simp [*]; done)
    | (have e := State.but_fst 2400189181 ‹_ = (_, _)›; simp at e; simp [e]; done)
    | (have e := State.but_snd 2400189181 ‹_ = (_, _)›; simp at e; simp [e]; done))

@[simp] theorem State.blockBegin_but {u : Nat} (hu : u &&& 2400189183 = 2400189183) (s : State) (p : Nat) :
    (State.blockBegin s p).but u = s.but u := by
  refine State.but_mono hu ?_
  unfold State.blockBegin
  first
  | (simp; done)
  | ((try dsimp only); (repeat' split) <;> first
    | (simp; done)
    | (simp [*]; done)
    | (have e := State.but_fst 2400189183 ‹_ = (_, _)›; simp at e; simp [e]; done)
    | (have e := State.but_snd 2400189183 ‹_ = (_, _)›; simp at e; simp [e]; done))

@[simp] theorem State.blockEnd_but {u : Nat} (hu : u &&& 134217729 = 134217729) (s : State) (p : Nat) :
    (State.blockEnd s p).but u = s.but u := by
  refine State.but_mono hu ?_
  unfold State.blockEnd
  first
  | (simp; done)
  | ((try dsimp only); (repeat' split) <;> first
    | (simp; done)
    | (simp [*]; done)
    | (have e := State.but_fst 134217729 ‹_ = (_, _)›; simp at e; simp [e]; done)
    | (have e := State.but_snd 134217729 ‹_ = (_, _)›; simp at e; simp [e]; done))

@[simp] theorem State.coldStart_but {u : Nat} (hu : u &&& 4294967295 = 4294967295) (s : State) (straps : Sys2Proof.Byte) (seat : Bool) (present : Bool) :
    (State.coldStart s straps seat present).but u = s.but u := by
  refine State.but_mono hu ?_
  unfold State.coldStart
  first
  | (simp; done)
  | ((try dsimp only); (repeat' split) <;> first
    | (simp; done)
    | (simp [*]; done)
    | (have e := State.but_fst 4294967295 ‹_ = (_, _)›; simp at e; simp [e]; done)
    | (have e := State.but_snd 4294967295 ‹_ = (_, _)›; simp at e; simp [e]; done))

theorem execColdReset_but {u : Nat} (hu : u &&& 4294967295 = 4294967295) (straps : Sys2Proof.Byte) (seat : Bool) (present : Bool) (s : State) {z : State} (h : execColdReset straps seat present s = .next z) :
    z.but u = s.but u := by
  refine State.but_mono hu ?_
  revert h
  unfold execColdReset
  (try dsimp only)
  intro h
  obtain rfl := Host.Outcome.next.inj h
  clear h
  first
  | (simp; done)
  | ((repeat' split) <;> first
    | (simp; done)
    | (simp [*]; done)
    | (have e := State.but_fst 4294967295 ‹_ = (_, _)›; simp at e; simp [e]; done)
    | (have e := State.but_snd 4294967295 ‹_ = (_, _)›; simp at e; simp [e]; done))

@[simp] theorem State.endpointReset_but {u : Nat} (hu : u &&& 262147 = 262147) (s : State) :
    (State.endpointReset s).but u = s.but u := by
  refine State.but_mono hu ?_
  unfold State.endpointReset
  first
  | (simp; done)
  | ((try dsimp only); (repeat' split) <;> first
    | (simp; done)
    | (simp [*]; done)
    | (have e := State.but_fst 262147 ‹_ = (_, _)›; simp at e; simp [e]; done)
    | (have e := State.but_snd 262147 ‹_ = (_, _)›; simp at e; simp [e]; done))

theorem execHostPerst_but {u : Nat} (hu : u &&& 3406822115 = 3406822115) (us : Nat) (s : State) {z : State} (h : execHostPerst us s = .next z) :
    z.but u = s.but u := by
  refine State.but_mono hu ?_
  revert h
  unfold execHostPerst
  (try dsimp only)
  intro h
  obtain rfl := Host.Outcome.next.inj h
  clear h
  first
  | (simp; done)
  | ((repeat' split) <;> first
    | (simp; done)
    | (simp [*]; done)
    | (have e := State.but_fst 3406822115 ‹_ = (_, _)›; simp at e; simp [e]; done)
    | (have e := State.but_snd 3406822115 ‹_ = (_, _)›; simp at e; simp [e]; done))

theorem execSoftWarm_but {u : Nat} (hu : u &&& 3406559971 = 3406559971) (m : Sys2Proof.Master) (s : State) {z : State} (h : execSoftWarm m s = .next z) :
    z.but u = s.but u := by
  refine State.but_mono hu ?_
  revert h
  unfold execSoftWarm
  (try dsimp only)
  intro h
  obtain rfl := Host.Outcome.next.inj h
  clear h
  first
  | (simp; done)
  | ((repeat' split) <;> first
    | (simp; done)
    | (simp [*]; done)
    | (have e := State.but_fst 3406559971 ‹_ = (_, _)›; simp at e; simp [e]; done)
    | (have e := State.but_snd 3406559971 ‹_ = (_, _)›; simp at e; simp [e]; done))

theorem execFlr_but {u : Nat} (hu : u &&& 134479873 = 134479873) (s : State) {z : State} (h : execFlr s = .next z) :
    z.but u = s.but u := by
  refine State.but_mono hu ?_
  revert h
  unfold execFlr
  (try dsimp only)
  intro h
  obtain rfl := Host.Outcome.next.inj h
  clear h
  first
  | (simp; done)
  | ((repeat' split) <;> first
    | (simp; done)
    | (simp [*]; done)
    | (have e := State.but_fst 134479873 ‹_ = (_, _)›; simp at e; simp [e]; done)
    | (have e := State.but_snd 134479873 ‹_ = (_, _)›; simp at e; simp [e]; done))

theorem execFlrClearDone_but {u : Nat} (hu : u &&& 2400189181 = 2400189181) (s : State) {z : State} (h : execFlrClearDone s = .next z) :
    z.but u = s.but u := by
  refine State.but_mono hu ?_
  revert h
  unfold execFlrClearDone
  (try dsimp only)
  intro h
  obtain rfl := Host.Outcome.next.inj h
  clear h
  first
  | (simp; done)
  | ((repeat' split) <;> first
    | (simp; done)
    | (simp [*]; done)
    | (have e := State.but_fst 2400189181 ‹_ = (_, _)›; simp at e; simp [e]; done)
    | (have e := State.but_snd 2400189181 ‹_ = (_, _)›; simp at e; simp [e]; done))

theorem execBlkSrst_but {u : Nat} (hu : u &&& 3473931007 = 3473931007) (m : Sys2Proof.Master) (page : Nat) (s : State) {z : State} (h : execBlkSrst m page s = .next z) :
    z.but u = s.but u := by
  refine State.but_mono hu ?_
  revert h
  unfold execBlkSrst
  (try dsimp only)
  intro h
  obtain rfl := Host.Outcome.next.inj h
  clear h
  first
  | (simp; done)
  | ((repeat' split) <;> first
    | (simp; done)
    | (simp [*]; done)
    | (have e := State.but_fst 3473931007 ‹_ = (_, _)›; simp at e; simp [e]; done)
    | (have e := State.but_snd 3473931007 ‹_ = (_, _)›; simp at e; simp [e]; done))

theorem execHostPerstDeassert_but {u : Nat} (hu : u &&& 8912899 = 8912899) (s : State) {z : State} (h : execHostPerstDeassert s = .next z) :
    z.but u = s.but u := by
  refine State.but_mono hu ?_
  revert h
  unfold execHostPerstDeassert
  (try dsimp only)
  intro h
  obtain rfl := Host.Outcome.next.inj h
  clear h
  first
  | (simp; done)
  | ((repeat' split) <;> first
    | (simp; done)
    | (simp [*]; done)
    | (have e := State.but_fst 8912899 ‹_ = (_, _)›; simp at e; simp [e]; done)
    | (have e := State.but_snd 8912899 ‹_ = (_, _)›; simp at e; simp [e]; done))

theorem execHrxIdleExit_but {u : Nat} (hu : u &&& 8912899 = 8912899) (s : State) {z : State} (h : execHrxIdleExit s = .next z) :
    z.but u = s.but u := by
  refine State.but_mono hu ?_
  revert h
  unfold execHrxIdleExit
  (try dsimp only)
  intro h
  obtain rfl := Host.Outcome.next.inj h
  clear h
  first
  | (simp; done)
  | ((repeat' split) <;> first
    | (simp; done)
    | (simp [*]; done)
    | (have e := State.but_fst 8912899 ‹_ = (_, _)›; simp at e; simp [e]; done)
    | (have e := State.but_snd 8912899 ‹_ = (_, _)›; simp at e; simp [e]; done))

/-! ## Parser -/

@[simp] theorem State.parityError_but {u : Nat} (hu : u &&& 3238002689 = 3238002689) (s : State) (pg : Nat) (k : Nat) (die : Nat) :
    (State.parityError s pg k die).but u = s.but u := by
  refine State.but_mono hu ?_
  unfold State.parityError
  first
  | (simp; done)
  | ((try dsimp only); (repeat' split) <;> first
    | (simp; done)
    | (simp [*]; done)
    | (have e := State.but_fst 3238002689 ‹_ = (_, _)›; simp at e; simp [e]; done)
    | (have e := State.but_snd 3238002689 ‹_ = (_, _)›; simp at e; simp [e]; done))

@[simp] theorem State.parseReport_but {u : Nat} (hu : u &&& 3238002689 = 3238002689) (s : State) (port : Nat) (r : Sys2Proof.Machine.ParseRes) :
    (State.parseReport s port r).but u = s.but u := by
  refine State.but_mono hu ?_
  unfold State.parseReport
  first
  | (simp; done)
  | ((try dsimp only); (repeat' split) <;> first
    | (simp; done)
    | (simp [*]; done)
    | (have e := State.but_fst 3238002689 ‹_ = (_, _)›; simp at e; simp [e]; done)
    | (have e := State.but_snd 3238002689 ‹_ = (_, _)›; simp at e; simp [e]; done))

@[simp] theorem State.tailReport_but {u : Nat} (hu : u &&& 2164260865 = 2164260865) (s : State) (port : Nat) (kept : Option (Nat × Nat × Nat)) (code : Nat) :
    (State.tailReport s port kept code).but u = s.but u := by
  refine State.but_mono hu ?_
  unfold State.tailReport
  first
  | (simp; done)
  | ((try dsimp only); (repeat' split) <;> first
    | (simp; done)
    | (simp [*]; done)
    | (have e := State.but_fst 2164260865 ‹_ = (_, _)›; simp at e; simp [e]; done)
    | (have e := State.but_snd 2164260865 ‹_ = (_, _)›; simp at e; simp [e]; done))

/-! ## Lookup -/

@[simp] theorem State.routeReads_but {u : Nat} (hu : u &&& 3238133761 = 3238133761) (s : State) (img : Sys2Proof.Machine.LpmImage) (v6 : Bool) (vrf : Nat) (addr : Nat) :
    (State.routeReads s img v6 vrf addr).but u = s.but u := by
  refine State.but_mono hu ?_
  unfold State.routeReads
  first
  | (simp; done)
  | ((try dsimp only); (repeat' split) <;> first
    | (simp; done)
    | (simp [*]; done)
    | (have e := State.but_fst 3238133761 ‹_ = (_, _)›; simp at e; simp [e]; done)
    | (have e := State.but_snd 3238133761 ‹_ = (_, _)›; simp at e; simp [e]; done))

@[simp] theorem State.route_but {u : Nat} (hu : u &&& 3238133761 = 3238133761) (s : State) (img : Sys2Proof.Machine.LpmImage) (bad : List Sys2Proof.BadCell) (v6 : Bool) (vrf : Nat) (addr : Nat) :
    (State.route s img bad v6 vrf addr).1.but u = s.but u := by
  refine State.but_mono hu ?_
  unfold State.route
  first
  | (simp; done)
  | ((try dsimp only); (repeat' split) <;> first
    | (simp; done)
    | (simp [*]; done)
    | (have e := State.but_fst 3238133761 ‹_ = (_, _)›; simp at e; simp [e]; done)
    | (have e := State.but_snd 3238133761 ‹_ = (_, _)›; simp at e; simp [e]; done))

@[simp] theorem State.setSlot_but {u : Nat} (hu : u &&& 256 = 256) (s : State) (t : Nat) (b : Nat) (i : Nat) (e : Nat) :
    (State.setSlot s t b i e).but u = s.but u := by
  refine State.but_mono hu ?_
  unfold State.setSlot
  first
  | (simp; done)
  | ((try dsimp only); (repeat' split) <;> first
    | (simp; done)
    | (simp [*]; done)
    | (have e := State.but_fst 256 ‹_ = (_, _)›; simp at e; simp [e]; done)
    | (have e := State.but_snd 256 ‹_ = (_, _)›; simp at e; simp [e]; done))

@[simp] theorem State.setEntry_but {u : Nat} (hu : u &&& 256 = 256) (s : State) (p : Sys2Proof.Machine.Place) (e : Nat) :
    (State.setEntry s p e).but u = s.but u := by
  refine State.but_mono hu ?_
  unfold State.setEntry
  first
  | (simp; done)
  | ((try dsimp only); (repeat' split) <;> first
    | (simp; done)
    | (simp [*]; done)
    | (have e := State.but_fst 256 ‹_ = (_, _)›; simp at e; simp [e]; done)
    | (have e := State.but_snd 256 ‹_ = (_, _)›; simp at e; simp [e]; done))

@[simp] theorem State.exmReads_but {u : Nat} (hu : u &&& 2164391937 = 2164391937) (s : State) (port : Nat) (k : Nat) :
    (State.exmReads s port k).but u = s.but u := by
  refine State.but_mono hu ?_
  unfold State.exmReads
  first
  | (simp; done)
  | ((try dsimp only); (repeat' split) <;> first
    | (simp; done)
    | (simp [*]; done)
    | (have e := State.but_fst 2164391937 ‹_ = (_, _)›; simp at e; simp [e]; done)
    | (have e := State.but_snd 2164391937 ‹_ = (_, _)›; simp at e; simp [e]; done))

@[simp] theorem State.exmLookup_but {u : Nat} (hu : u &&& 3238133761 = 3238133761) (s : State) (bad : List Sys2Proof.BadCell) (k : Nat) :
    (State.exmLookup s bad k).1.but u = s.but u := by
  refine State.but_mono hu ?_
  unfold State.exmLookup
  first
  | (simp; done)
  | ((try dsimp only); (repeat' split) <;> first
    | (simp; done)
    | (simp [*]; done)
    | (have e := State.but_fst 3238133761 ‹_ = (_, _)›; simp at e; simp [e]; done)
    | (have e := State.but_snd 3238133761 ‹_ = (_, _)›; simp at e; simp [e]; done))

@[simp] theorem State.nextHop_but {u : Nat} (hu : u &&& 3238002689 = 3238002689) (s : State) (bad : List Sys2Proof.BadCell) (d : Sys2Proof.Machine.Decision) (i : Nat) :
    (State.nextHop s bad d i).1.but u = s.but u := by
  refine State.but_mono hu ?_
  unfold State.nextHop
  first
  | (simp; done)
  | ((try dsimp only); (repeat' split) <;> first
    | (simp; done)
    | (simp [*]; done)
    | (have e := State.but_fst 3238002689 ‹_ = (_, _)›; simp at e; simp [e]; done)
    | (have e := State.but_snd 3238002689 ‹_ = (_, _)›; simp at e; simp [e]; done))

@[simp] theorem State.ecmpResolve_but {u : Nat} (hu : u &&& 3238002689 = 3238002689) (s : State) (bad : List Sys2Proof.BadCell) (d : Sys2Proof.Machine.Decision) (hash : Nat) :
    (State.ecmpResolve s bad d hash).1.but u = s.but u := by
  refine State.but_mono hu ?_
  unfold State.ecmpResolve
  first
  | (simp; done)
  | ((try dsimp only); (repeat' split) <;> first
    | (simp; done)
    | (simp [*]; done)
    | (have e := State.but_fst 3238002689 ‹_ = (_, _)›; simp at e; simp [e]; done)
    | (have e := State.but_snd 3238002689 ‹_ = (_, _)›; simp at e; simp [e]; done))

@[simp] theorem State.applyResult_but {u : Nat} (hu : u &&& 3238002689 = 3238002689) (s : State) (bad : List Sys2Proof.BadCell) (d : Sys2Proof.Machine.Decision) (kind : Nat) (idx : Nat) :
    (State.applyResult s bad d kind idx).1.but u = s.but u := by
  refine State.but_mono hu ?_
  unfold State.applyResult
  first
  | (simp; done)
  | ((try dsimp only); (repeat' split) <;> first
    | (simp; done)
    | (simp [*]; done)
    | (have e := State.but_fst 3238002689 ‹_ = (_, _)›; simp at e; simp [e]; done)
    | (have e := State.but_snd 3238002689 ‹_ = (_, _)›; simp at e; simp [e]; done))

@[simp] theorem State.learnPush_but {u : Nat} (hu : u &&& 2164261377 = 2164261377) (s : State) (r : Sys2Proof.Machine.LearnReq) :
    (State.learnPush s r).but u = s.but u := by
  refine State.but_mono hu ?_
  unfold State.learnPush
  first
  | (simp; done)
  | ((try dsimp only); (repeat' split) <;> first
    | (simp; done)
    | (simp [*]; done)
    | (have e := State.but_fst 2164261377 ‹_ = (_, _)›; simp at e; simp [e]; done)
    | (have e := State.but_snd 2164261377 ‹_ = (_, _)›; simp at e; simp [e]; done))

@[simp] theorem State.learnQueue_but {u : Nat} (hu : u &&& 2164261377 = 2164261377) (s : State) (e : Nat) :
    (State.learnQueue s e).but u = s.but u := by
  refine State.but_mono hu ?_
  unfold State.learnQueue
  first
  | (simp; done)
  | ((try dsimp only); (repeat' split) <;> first
    | (simp; done)
    | (simp [*]; done)
    | (have e := State.but_fst 2164261377 ‹_ = (_, _)›; simp at e; simp [e]; done)
    | (have e := State.but_snd 2164261377 ‹_ = (_, _)›; simp at e; simp [e]; done))

@[simp] theorem State.learnSource_but {u : Nat} (hu : u &&& 3238134529 = 3238134529) (s : State) (bad : List Sys2Proof.BadCell) (port : Nat) (bd : Nat) (mac : Nat) :
    (State.learnSource s bad port bd mac).but u = s.but u := by
  refine State.but_mono hu ?_
  unfold State.learnSource
  first
  | (simp; done)
  | ((try dsimp only); (repeat' split) <;> first
    | (simp; done)
    | (simp [*]; done)
    | (have e := State.but_fst 3238134529 ‹_ = (_, _)›; simp at e; simp [e]; done)
    | (have e := State.but_snd 3238134529 ‹_ = (_, _)›; simp at e; simp [e]; done))

@[simp] theorem State.l2Lookup_but {u : Nat} (hu : u &&& 3238134529 = 3238134529) (s : State) (bad : List Sys2Proof.BadCell) (d : Sys2Proof.Machine.Decision) (port : Nat) (bd : Nat) (dst : Nat) (src : Nat) :
    (State.l2Lookup s bad d port bd dst src).1.but u = s.but u := by
  refine State.but_mono hu ?_
  unfold State.l2Lookup
  first
  | (simp; done)
  | ((try dsimp only); (repeat' split) <;> first
    | (simp; done)
    | (simp [*]; done)
    | (have e := State.but_fst 3238134529 ‹_ = (_, _)›; simp at e; simp [e]; done)
    | (have e := State.but_snd 3238134529 ‹_ = (_, _)›; simp at e; simp [e]; done))

@[simp] theorem State.routeAction_but {u : Nat} (hu : u &&& 3238133761 = 3238133761) (s : State) (bad : List BadCell) (img : LpmImage) (b : Bytes) (lim : Nat)
    (insts : List HdrInst) (port level : Nat) (d : Decision) :
    (State.routeAction s bad img b lim insts port level d).1.but u = s.but u := by
  refine State.but_mono hu ?_
  have h0 : ∀ (c : Prop) [Decidable c] (k : Nat),
      (if c then s.exmLookup bad k else (s, none)).1.but 3238133761 = s.but 3238133761 := by
    intro c _ k
    split
    · simp
    · rfl
  unfold State.routeAction
  split
  · rfl
  · dsimp only
    split
    · rfl
    · split <;>
        (have e := congrArg (fun r => State.but 3238133761 r.1) ‹State.route _ _ _ _ _ _ = (_, _)›
         simp [h0] at e
         simp [← e])

@[simp] theorem State.l2Action_but {u : Nat} (hu : u &&& 3238134529 = 3238134529) (s : State) (bad : List Sys2Proof.BadCell) (b : Sys2Proof.Bytes) (lim : Nat) (insts : List Sys2Proof.Machine.HdrInst) (port : Nat) (level : Nat) (d : Sys2Proof.Machine.Decision) :
    (State.l2Action s bad b lim insts port level d).1.but u = s.but u := by
  refine State.but_mono hu ?_
  unfold State.l2Action
  first
  | (simp; done)
  | ((try dsimp only); (repeat' split) <;> first
    | (simp; done)
    | (simp [*]; done)
    | (have e := State.but_fst 3238134529 ‹_ = (_, _)›; simp at e; simp [e]; done)
    | (have e := State.but_snd 3238134529 ‹_ = (_, _)›; simp at e; simp [e]; done))

/-! ## Classify -/

@[simp] theorem State.clsErr_but {u : Nat} (hu : u &&& 1 = 1) (s : State) (kind : Nat) (set : Nat) (i : Nat) :
    (State.clsErr s kind set i).but u = s.but u := by
  refine State.but_mono hu ?_
  unfold State.clsErr
  first
  | (simp; done)
  | ((try dsimp only); (repeat' split) <;> first
    | (simp; done)
    | (simp [*]; done)
    | (have e := State.but_fst 1 ‹_ = (_, _)›; simp at e; simp [e]; done)
    | (have e := State.but_snd 1 ‹_ = (_, _)›; simp at e; simp [e]; done))

@[simp] theorem State.setReport_but {u : Nat} (hu : u &&& 3238002689 = 3238002689) (s : State) (set : Nat) (e : Sys2Proof.Machine.SetEnd) :
    (State.setReport s set e).1.but u = s.but u := by
  refine State.but_mono hu ?_
  unfold State.setReport
  first
  | (simp; done)
  | ((try dsimp only); (repeat' split) <;> first
    | (simp; done)
    | (simp [*]; done)
    | (have e := State.but_fst 3238002689 ‹_ = (_, _)›; simp at e; simp [e]; done)
    | (have e := State.but_snd 3238002689 ‹_ = (_, _)›; simp at e; simp [e]; done))

@[simp] theorem State.applyDest_but {u : Nat} (hu : u &&& 3238134529 = 3238134529) (s : State) (bad : List Sys2Proof.BadCell) (img : Sys2Proof.Machine.LpmImage) (c : Sys2Proof.Machine.KeyCtx) (ingress : Nat) (d : Sys2Proof.Machine.Decision) (r : Nat) :
    (State.applyDest s bad img c ingress d r).1.but u = s.but u := by
  refine State.but_mono hu ?_
  unfold State.applyDest
  first
  | (simp; done)
  | ((try dsimp only); (repeat' split) <;> first
    | (simp; done)
    | (simp [*]; done)
    | (have e := State.but_fst 3238134529 ‹_ = (_, _)›; simp at e; simp [e]; done)
    | (have e := State.but_snd 3238134529 ‹_ = (_, _)›; simp at e; simp [e]; done))

@[simp] theorem State.ingressSet_but {u : Nat} (hu : u &&& 3238134529 = 3238134529) (s : State) (bad : List Sys2Proof.BadCell) (img : Sys2Proof.Machine.LpmImage) (c : Sys2Proof.Machine.KeyCtx) (ingress : Nat) (set : Nat) (rs : Sys2Proof.Machine.RuleSet) (d : Sys2Proof.Machine.Decision) :
    (State.ingressSet s bad img c ingress set rs d).1.but u = s.but u := by
  refine State.but_mono hu ?_
  unfold State.ingressSet
  first
  | (simp; done)
  | ((try dsimp only); (repeat' split) <;> first
    | (simp; done)
    | (simp [*]; done)
    | (have e := State.but_fst 3238134529 ‹_ = (_, _)›; simp at e; simp [e]; done)
    | (have e := State.but_snd 3238134529 ‹_ = (_, _)›; simp at e; simp [e]; done))

@[simp] theorem State.ingressSets_but {u : Nat} (hu : u &&& 3238134529 = 3238134529) (s : State) (bad : List Sys2Proof.BadCell) (g : Sys2Proof.Machine.Gens) (c : Sys2Proof.Machine.KeyCtx) (ingress : Nat) (d : Sys2Proof.Machine.Decision) :
    (State.ingressSets s bad g c ingress d).1.but u = s.but u := by
  refine State.but_mono hu ?_
  unfold State.ingressSets
  first
  | (simp; done)
  | ((try dsimp only); (repeat' split) <;> first
    | (simp; done)
    | (simp [*]; done)
    | (have e := State.but_fst 3238134529 ‹_ = (_, _)›; simp at e; simp [e]; done)
    | (have e := State.but_snd 3238134529 ‹_ = (_, _)›; simp at e; simp [e]; done))

@[simp] theorem State.egressSet_but {u : Nat} (hu : u &&& 3238002689 = 3238002689) (s : State) (bad : List Sys2Proof.BadCell) (c : Sys2Proof.Machine.KeyCtx) (set : Nat) (rs : Sys2Proof.Machine.RuleSet) (a : Sys2Proof.Machine.Decision × Option Nat) :
    (State.egressSet s bad c set rs a).1.but u = s.but u := by
  refine State.but_mono hu ?_
  unfold State.egressSet
  first
  | (simp; done)
  | ((try dsimp only); (repeat' split) <;> first
    | (simp; done)
    | (simp [*]; done)
    | (have e := State.but_fst 3238002689 ‹_ = (_, _)›; simp at e; simp [e]; done)
    | (have e := State.but_snd 3238002689 ‹_ = (_, _)›; simp at e; simp [e]; done))

@[simp] theorem State.egressSets_but {u : Nat} (hu : u &&& 3238002689 = 3238002689) (s : State) (bad : List Sys2Proof.BadCell) (g : Sys2Proof.Machine.Gens) (c : Sys2Proof.Machine.KeyCtx) (d : Sys2Proof.Machine.Decision) :
    (State.egressSets s bad g c d).1.but u = s.but u := by
  refine State.but_mono hu ?_
  unfold State.egressSets
  first
  | (simp; done)
  | ((try dsimp only); (repeat' split) <;> first
    | (simp; done)
    | (simp [*]; done)
    | (have e := State.but_fst 3238002689 ‹_ = (_, _)›; simp at e; simp [e]; done)
    | (have e := State.but_snd 3238002689 ‹_ = (_, _)›; simp at e; simp [e]; done))

/-! ## Rewrite -/

@[simp] theorem State.actFail_but {u : Nat} (hu : u &&& 2164260865 = 2164260865) (s : State) (t : Nat) (reason : Nat) (k : Nat) :
    (State.actFail s t reason k).but u = s.but u := by
  refine State.but_mono hu ?_
  unfold State.actFail
  first
  | (simp; done)
  | ((try dsimp only); (repeat' split) <;> first
    | (simp; done)
    | (simp [*]; done)
    | (have e := State.but_fst 2164260865 ‹_ = (_, _)›; simp at e; simp [e]; done)
    | (have e := State.but_snd 2164260865 ‹_ = (_, _)›; simp at e; simp [e]; done))

@[simp] theorem State.egressTemplate_but {u : Nat} (hu : u &&& 3238002689 = 3238002689) (s : State) (bad : List Sys2Proof.BadCell) (gen : Nat) (d : Sys2Proof.Machine.Decision) (l3 : Nat) (hash : Nat) (b : Sys2Proof.Bytes) :
    (State.egressTemplate s bad gen d l3 hash b).1.but u = s.but u := by
  refine State.but_mono hu ?_
  unfold State.egressTemplate
  first
  | (simp; done)
  | ((try dsimp only); (repeat' split) <;> first
    | (simp; done)
    | (simp [*]; done)
    | (have e := State.but_fst 3238002689 ‹_ = (_, _)›; simp at e; simp [e]; done)
    | (have e := State.but_snd 3238002689 ‹_ = (_, _)›; simp at e; simp [e]; done))

@[simp] theorem State.adjDrop_but {u : Nat} (hu : u &&& 2164260865 = 2164260865) (s : State) :
    (State.adjDrop s).but u = s.but u := by
  refine State.but_mono hu ?_
  unfold State.adjDrop
  first
  | (simp; done)
  | ((try dsimp only); (repeat' split) <;> first
    | (simp; done)
    | (simp [*]; done)
    | (have e := State.but_fst 2164260865 ‹_ = (_, _)›; simp at e; simp [e]; done)
    | (have e := State.but_snd 2164260865 ‹_ = (_, _)›; simp at e; simp [e]; done))

@[simp] theorem State.egressAdj_but {u : Nat} (hu : u &&& 3238002689 = 3238002689) (s : State) (bad : List Sys2Proof.BadCell) (d : Sys2Proof.Machine.Decision) (l3 : Nat) (b : Sys2Proof.Bytes) :
    (State.egressAdj s bad d l3 b).1.but u = s.but u := by
  refine State.but_mono hu ?_
  unfold State.egressAdj
  first
  | (simp; done)
  | ((try dsimp only); (repeat' split) <;> first
    | (simp; done)
    | (simp [*]; done)
    | (have e := State.but_fst 3238002689 ‹_ = (_, _)›; simp at e; simp [e]; done)
    | (have e := State.but_snd 3238002689 ‹_ = (_, _)›; simp at e; simp [e]; done))

@[simp] theorem State.tcIngress_but {u : Nat} (hu : u &&& 2164260865 = 2164260865) (s : State) (port : Nat) (trx : Nat) (b : Sys2Proof.Bytes) :
    (State.tcIngress s port trx b).1.but u = s.but u := by
  refine State.but_mono hu ?_
  unfold State.tcIngress
  first
  | (simp; done)
  | ((try dsimp only); (repeat' split) <;> first
    | (simp; done)
    | (simp [*]; done)
    | (have e := State.but_fst 2164260865 ‹_ = (_, _)›; simp at e; simp [e]; done)
    | (have e := State.but_snd 2164260865 ‹_ = (_, _)›; simp at e; simp [e]; done))

@[simp] theorem State.oneStep_but {u : Nat} (hu : u &&& 2164260865 = 2164260865) (s : State) (port : Nat) (ttx : Nat) (b : Sys2Proof.Bytes) :
    (State.oneStep s port ttx b).1.but u = s.but u := by
  refine State.but_mono hu ?_
  unfold State.oneStep
  first
  | (simp; done)
  | ((try dsimp only); (repeat' split) <;> first
    | (simp; done)
    | (simp [*]; done)
    | (have e := State.but_fst 2164260865 ‹_ = (_, _)›; simp at e; simp [e]; done)
    | (have e := State.but_snd 2164260865 ‹_ = (_, _)›; simp at e; simp [e]; done))

/-! ## Nodes -/

@[simp] theorem State.setShaperTok_but {u : Nat} (hu : u &&& 1024 = 1024) (s : State) (i : Nat) (c : Int) (p : Int) :
    (State.setShaperTok s i c p).but u = s.but u := by
  refine State.but_mono hu ?_
  unfold State.setShaperTok
  first
  | (simp; done)
  | ((try dsimp only); (repeat' split) <;> first
    | (simp; done)
    | (simp [*]; done)
    | (have e := State.but_fst 1024 ‹_ = (_, _)›; simp at e; simp [e]; done)
    | (have e := State.but_snd 1024 ‹_ = (_, _)›; simp at e; simp [e]; done))

@[simp] theorem State.shapersSettle_but {u : Nat} (hu : u &&& 1024 = 1024) (s : State) :
    (State.shapersSettle s).but u = s.but u := by
  refine State.but_mono hu ?_
  unfold State.shapersSettle
  first
  | (simp; done)
  | ((try dsimp only); (repeat' split) <;> first
    | (simp; done)
    | (simp [*]; done)
    | (have e := State.but_fst 1024 ‹_ = (_, _)›; simp at e; simp [e]; done)
    | (have e := State.but_snd 1024 ‹_ = (_, _)›; simp at e; simp [e]; done))

@[simp] theorem State.chargeNodes_but {u : Nat} (hu : u &&& 1024 = 1024) (s : State) (l : List Nat) (w : Nat) :
    (State.chargeNodes s l w).but u = s.but u := by
  refine State.but_mono hu ?_
  unfold State.chargeNodes
  first
  | (simp; done)
  | ((try dsimp only); (repeat' split) <;> first
    | (simp; done)
    | (simp [*]; done)
    | (have e := State.but_fst 1024 ‹_ = (_, _)›; simp at e; simp [e]; done)
    | (have e := State.but_snd 1024 ‹_ = (_, _)›; simp at e; simp [e]; done))

@[simp] theorem State.police_but {u : Nat} (hu : u &&& 3238134785 = 3238134785) (s : State) (i : Nat) (color : Nat) (b : Nat) :
    (State.police s i color b).1.but u = s.but u := by
  refine State.but_mono hu ?_
  unfold State.police
  first
  | (simp; done)
  | ((try dsimp only); (repeat' split) <;> first
    | (simp; done)
    | (simp [*]; done)
    | (have e := State.but_fst 3238134785 ‹_ = (_, _)›; simp at e; simp [e]; done)
    | (have e := State.but_snd 3238134785 ‹_ = (_, _)›; simp at e; simp [e]; done))

@[simp] theorem State.policeError_but {u : Nat} (hu : u &&& 3238003713 = 3238003713) (s : State) (i : Nat) :
    (State.policeError s i).but u = s.but u := by
  refine State.but_mono hu ?_
  unfold State.policeError
  first
  | (simp; done)
  | ((try dsimp only); (repeat' split) <;> first
    | (simp; done)
    | (simp [*]; done)
    | (have e := State.but_fst 3238003713 ‹_ = (_, _)›; simp at e; simp [e]; done)
    | (have e := State.but_snd 3238003713 ‹_ = (_, _)›; simp at e; simp [e]; done))

/-! ## Ingress -/

@[simp] theorem State.cross_but {u : Nat} (hu : u &&& 128 = 128) (s : State) (p : Sys2Proof.Machine.Packet) :
    (State.cross s p).but u = s.but u := by
  refine State.but_mono hu ?_
  unfold State.cross
  first
  | (simp; done)
  | ((try dsimp only); (repeat' split) <;> first
    | (simp; done)
    | (simp [*]; done)
    | (have e := State.but_fst 128 ‹_ = (_, _)›; simp at e; simp [e]; done)
    | (have e := State.but_snd 128 ‹_ = (_, _)›; simp at e; simp [e]; done))

@[simp] theorem State.mcrPush_but {u : Nat} (hu : u &&& 2164260993 = 2164260993) (s : State) (counter : Nat) (n : Nat) :
    (State.mcrPush s counter n).but u = s.but u := by
  refine State.but_mono hu ?_
  unfold State.mcrPush
  first
  | (simp; done)
  | ((try dsimp only); (repeat' split) <;> first
    | (simp; done)
    | (simp [*]; done)
    | (have e := State.but_fst 2164260993 ‹_ = (_, _)›; simp at e; simp [e]; done)
    | (have e := State.but_snd 2164260993 ‹_ = (_, _)›; simp at e; simp [e]; done))

@[simp] theorem State.dropPkt_but {u : Nat} (hu : u &&& 2164260993 = 2164260993) (s : State) (p : Sys2Proof.Machine.Packet) :
    (State.dropPkt s p).but u = s.but u := by
  refine State.but_mono hu ?_
  unfold State.dropPkt
  first
  | (simp; done)
  | ((try dsimp only); (repeat' split) <;> first
    | (simp; done)
    | (simp [*]; done)
    | (have e := State.but_fst 2164260993 ‹_ = (_, _)›; simp at e; simp [e]; done)
    | (have e := State.but_snd 2164260993 ‹_ = (_, _)›; simp at e; simp [e]; done))

@[simp] theorem State.rccSet_but {u : Nat} (hu : u &&& 128 = 128) (s : State) (r : Nat) (tok : Nat) :
    (State.rccSet s r tok).but u = s.but u := by
  refine State.but_mono hu ?_
  unfold State.rccSet
  first
  | (simp; done)
  | ((try dsimp only); (repeat' split) <;> first
    | (simp; done)
    | (simp [*]; done)
    | (have e := State.but_fst 128 ‹_ = (_, _)›; simp at e; simp [e]; done)
    | (have e := State.but_snd 128 ‹_ = (_, _)›; simp at e; simp [e]; done))

@[simp] theorem State.rccTake_but {u : Nat} (hu : u &&& 2164260993 = 2164260993) (s : State) (r : Nat) :
    (State.rccTake s r).1.but u = s.but u := by
  refine State.but_mono hu ?_
  unfold State.rccTake
  first
  | (simp; done)
  | ((try dsimp only); (repeat' split) <;> first
    | (simp; done)
    | (simp [*]; done)
    | (have e := State.but_fst 2164260993 ‹_ = (_, _)›; simp at e; simp [e]; done)
    | (have e := State.but_snd 2164260993 ‹_ = (_, _)›; simp at e; simp [e]; done))

@[simp] theorem State.decap_but {u : Nat} (hu : u &&& 2164260865 = 2164260865) (s : State) (bad : List Sys2Proof.BadCell) (p : Sys2Proof.Machine.Packet) :
    (State.decap s bad p).1.but u = s.but u := by
  refine State.but_mono hu ?_
  unfold State.decap
  first
  | (simp; done)
  | ((try dsimp only); (repeat' split) <;> first
    | (simp; done)
    | (simp [*]; done)
    | (have e := State.but_fst 2164260865 ‹_ = (_, _)›; simp at e; simp [e]; done)
    | (have e := State.but_snd 2164260865 ‹_ = (_, _)›; simp at e; simp [e]; done))

@[simp] theorem State.dfltCount_but {u : Nat} (hu : u &&& 2164260865 = 2164260865) (s : State) (w : Sys2Proof.Machine.Dflt) :
    (State.dfltCount s w).but u = s.but u := by
  refine State.but_mono hu ?_
  unfold State.dfltCount
  first
  | (simp; done)
  | ((try dsimp only); (repeat' split) <;> first
    | (simp; done)
    | (simp [*]; done)
    | (have e := State.but_fst 2164260865 ‹_ = (_, _)›; simp at e; simp [e]; done)
    | (have e := State.but_snd 2164260865 ‹_ = (_, _)›; simp at e; simp [e]; done))

@[simp] theorem State.dfltRoute_but {u : Nat} (hu : u &&& 3238133761 = 3238133761) (s : State) (bad : List Sys2Proof.BadCell) (p : Sys2Proof.Machine.Packet) (d : Sys2Proof.Machine.Decision) :
    (State.dfltRoute s bad p d).1.but u = s.but u := by
  refine State.but_mono hu ?_
  unfold State.dfltRoute
  first
  | (simp; done)
  | ((try dsimp only); (repeat' split) <;> first
    | (simp; done)
    | (simp [*]; done)
    | (have e := State.but_fst 3238133761 ‹_ = (_, _)›; simp at e; simp [e]; done)
    | (have e := State.but_snd 3238133761 ‹_ = (_, _)›; simp at e; simp [e]; done))

@[simp] theorem State.dfltDecide_but {u : Nat} (hu : u &&& 3238134529 = 3238134529) (s : State) (bad : List Sys2Proof.BadCell) (p : Sys2Proof.Machine.Packet) (code : Nat) :
    (State.dfltDecide s bad p code).1.but u = s.but u := by
  refine State.but_mono hu ?_
  unfold State.dfltDecide
  first
  | (simp; done)
  | ((try dsimp only); (repeat' split) <;> first
    | (simp; done)
    | (simp [*]; done)
    | (have e := State.but_fst 3238134529 ‹_ = (_, _)›; simp at e; simp [e]; done)
    | (have e := State.but_snd 3238134529 ‹_ = (_, _)›; simp at e; simp [e]; done))

@[simp] theorem State.default_but {u : Nat} (hu : u &&& 3238134529 = 3238134529) (s : State) (bad : List Sys2Proof.BadCell) (p : Sys2Proof.Machine.Packet) (w : Sys2Proof.Machine.Dflt) :
    (State.default s bad p w).1.but u = s.but u := by
  refine State.but_mono hu ?_
  unfold State.default
  first
  | (simp; done)
  | ((try dsimp only); (repeat' split) <;> first
    | (simp; done)
    | (simp [*]; done)
    | (have e := State.but_fst 3238134529 ‹_ = (_, _)›; simp at e; simp [e]; done)
    | (have e := State.but_snd 3238134529 ‹_ = (_, _)›; simp at e; simp [e]; done))

@[simp] theorem State.fragPut_but {u : Nat} (hu : u &&& 128 = 128) (s : State) (e : Sys2Proof.Machine.FragEnt) :
    (State.fragPut s e).but u = s.but u := by
  refine State.but_mono hu ?_
  unfold State.fragPut
  first
  | (simp; done)
  | ((try dsimp only); (repeat' split) <;> first
    | (simp; done)
    | (simp [*]; done)
    | (have e := State.but_fst 128 ‹_ = (_, _)›; simp at e; simp [e]; done)
    | (have e := State.but_snd 128 ‹_ = (_, _)›; simp at e; simp [e]; done))

@[simp] theorem State.fragInsert_but {u : Nat} (hu : u &&& 2164260993 = 2164260993) (s : State) (p : Sys2Proof.Machine.Packet) (moved : Bool) :
    (State.fragInsert s p moved).but u = s.but u := by
  refine State.but_mono hu ?_
  unfold State.fragInsert
  first
  | (simp; done)
  | ((try dsimp only); (repeat' split) <;> first
    | (simp; done)
    | (simp [*]; done)
    | (have e := State.but_fst 2164260993 ‹_ = (_, _)›; simp at e; simp [e]; done)
    | (have e := State.but_snd 2164260993 ‹_ = (_, _)›; simp at e; simp [e]; done))

@[simp] theorem State.fragLookup_but {u : Nat} (hu : u &&& 3238002689 = 3238002689) (s : State) (bad : List Sys2Proof.BadCell) (p : Sys2Proof.Machine.Packet) :
    (State.fragLookup s bad p).1.but u = s.but u := by
  refine State.but_mono hu ?_
  unfold State.fragLookup
  first
  | (simp; done)
  | ((try dsimp only); (repeat' split) <;> first
    | (simp; done)
    | (simp [*]; done)
    | (have e := State.but_fst 3238002689 ‹_ = (_, _)›; simp at e; simp [e]; done)
    | (have e := State.but_snd 3238002689 ‹_ = (_, _)›; simp at e; simp [e]; done))

@[simp] theorem State.defaultEnd_but {u : Nat} (hu : u &&& 3238134529 = 3238134529) (s : State) (bad : List Sys2Proof.BadCell) (p : Sys2Proof.Machine.Packet) (w : Sys2Proof.Machine.Dflt) :
    (State.defaultEnd s bad p w).1.but u = s.but u := by
  refine State.but_mono hu ?_
  unfold State.defaultEnd
  first
  | (simp; done)
  | ((try dsimp only); (repeat' split) <;> first
    | (simp; done)
    | (simp [*]; done)
    | (have e := State.but_fst 3238134529 ‹_ = (_, _)›; simp at e; simp [e]; done)
    | (have e := State.but_snd 3238134529 ‹_ = (_, _)›; simp at e; simp [e]; done))

@[simp] theorem State.resolvePass_but {u : Nat} (hu : u &&& 3238134657 = 3238134657) (s : State) (bad : List BadCell) (p : Packet) :
    (State.resolvePass s bad p).1.but u = s.but u := by
  refine State.but_mono hu ?_
  unfold State.resolvePass
  split
  · simp
  · split
    · rfl
    · dsimp only
      split
      · simp
      · split
        · have e := State.but_fst 3238134657 ‹_ = (_, _)›
          simpa using e
        · have e := State.but_fst 3238134657 ‹_ = (_, _)›
          simp at e
          split <;> (have g := State.but_fst 3238134657 ‹_ = (_, _)›; simp at g; simp [g, e])
    · split
      · simp
      · split <;> (have g := State.but_fst 3238134657 ‹_ = (_, _)›; simp at g; simp [g])

@[simp] theorem State.treat_but {u : Nat} (hu : u &&& 3238134657 = 3238134657) (s : State) (bad : List Sys2Proof.BadCell) (c : Sys2Proof.Machine.KeyCtx) (p : Sys2Proof.Machine.Packet) :
    (State.treat s bad c p).1.but u = s.but u := by
  refine State.but_mono hu ?_
  unfold State.treat
  first
  | (simp; done)
  | ((try dsimp only); (repeat' split) <;> first
    | (simp; done)
    | (simp [*]; done)
    | (have e := State.but_fst 3238134657 ‹_ = (_, _)›; simp at e; simp [e]; done)
    | (have e := State.but_snd 3238134657 ‹_ = (_, _)›; simp at e; simp [e]; done))

@[simp] theorem State.recordDecision_but {u : Nat} (hu : u &&& 16 = 16) (s : State) (p : Sys2Proof.Machine.Packet) (dropped : Bool) :
    (State.recordDecision s p dropped).but u = s.but u := by
  refine State.but_mono hu ?_
  unfold State.recordDecision
  first
  | (simp; done)
  | ((try dsimp only); (repeat' split) <;> first
    | (simp; done)
    | (simp [*]; done)
    | (have e := State.but_fst 16 ‹_ = (_, _)›; simp at e; simp [e]; done)
    | (have e := State.but_snd 16 ‹_ = (_, _)›; simp at e; simp [e]; done))

@[simp] theorem State.crossOwned_but {u : Nat} (hu : u &&& 2164260993 = 2164260993) (s : State) (p : Sys2Proof.Machine.Packet) :
    (State.crossOwned s p).but u = s.but u := by
  refine State.but_mono hu ?_
  unfold State.crossOwned
  first
  | (simp; done)
  | ((try dsimp only); (repeat' split) <;> first
    | (simp; done)
    | (simp [*]; done)
    | (have e := State.but_fst 2164260993 ‹_ = (_, _)›; simp at e; simp [e]; done)
    | (have e := State.but_snd 2164260993 ‹_ = (_, _)›; simp at e; simp [e]; done))

@[simp] theorem State.passGo_but {u : Nat} (hu : u &&& 2164261009 = 2164261009) (s : State) (before : Nat) (e : Sys2Proof.Machine.PassEnd) :
    (State.passGo s before e).but u = s.but u := by
  refine State.but_mono hu ?_
  unfold State.passGo
  first
  | (simp; done)
  | ((try dsimp only); (repeat' split) <;> first
    | (simp; done)
    | (simp [*]; done)
    | (have e := State.but_fst 2164261009 ‹_ = (_, _)›; simp at e; simp [e]; done)
    | (have e := State.but_snd 2164261009 ‹_ = (_, _)›; simp at e; simp [e]; done))

@[simp] theorem State.tcStep_but {u : Nat} (hu : u &&& 2164260865 = 2164260865) (s : State) (p : Sys2Proof.Machine.Packet) :
    (State.tcStep s p).1.but u = s.but u := by
  refine State.but_mono hu ?_
  unfold State.tcStep
  first
  | (simp; done)
  | ((try dsimp only); (repeat' split) <;> first
    | (simp; done)
    | (simp [*]; done)
    | (have e := State.but_fst 2164260865 ‹_ = (_, _)›; simp at e; simp [e]; done)
    | (have e := State.but_snd 2164260865 ‹_ = (_, _)›; simp at e; simp [e]; done))

@[simp] theorem State.pass_but {u : Nat} (hu : u &&& 3238134673 = 3238134673) (s : State) (bad : List Sys2Proof.BadCell) (p : Sys2Proof.Machine.Packet) (start : Nat) (ecpri : Bool) :
    (State.pass s bad p start ecpri).but u = s.but u := by
  refine State.but_mono hu ?_
  unfold State.pass
  first
  | (simp; done)
  | ((try dsimp only); (repeat' split) <;> first
    | (simp; done)
    | (simp [*]; done)
    | (have e := State.but_fst 3238134673 ‹_ = (_, _)›; simp at e; simp [e]; done)
    | (have e := State.but_snd 3238134673 ‹_ = (_, _)›; simp at e; simp [e]; done))

@[simp] theorem State.settleTail_but {u : Nat} (hu : u &&& 2164260865 = 2164260865) (s : State) (p : Sys2Proof.Machine.Packet) (len : Nat) (fcsOk : Bool) :
    (State.settleTail s p len fcsOk).1.but u = s.but u := by
  refine State.but_mono hu ?_
  unfold State.settleTail
  first
  | (simp; done)
  | ((try dsimp only); (repeat' split) <;> first
    | (simp; done)
    | (simp [*]; done)
    | (have e := State.but_fst 2164260865 ‹_ = (_, _)›; simp at e; simp [e]; done)
    | (have e := State.but_snd 2164260865 ‹_ = (_, _)›; simp at e; simp [e]; done))

@[simp] theorem State.appendTail_but {u : Nat} (hu : u &&& 2164260865 = 2164260865) (s : State) (p : Sys2Proof.Machine.Packet) (rest : Sys2Proof.Bytes) :
    (State.appendTail s p rest).1.but u = s.but u := by
  refine State.but_mono hu ?_
  unfold State.appendTail
  first
  | (simp; done)
  | ((try dsimp only); (repeat' split) <;> first
    | (simp; done)
    | (simp [*]; done)
    | (have e := State.but_fst 2164260865 ‹_ = (_, _)›; simp at e; simp [e]; done)
    | (have e := State.but_snd 2164260865 ‹_ = (_, _)›; simp at e; simp [e]; done))

@[simp] theorem State.directPass_but {u : Nat} (hu : u &&& 3238002833 = 3238002833) (s : State) (bad : List Sys2Proof.BadCell) (p : Sys2Proof.Machine.Packet) (start : Nat) (dest : Nat) :
    (State.directPass s bad p start dest).but u = s.but u := by
  refine State.but_mono hu ?_
  unfold State.directPass
  first
  | (simp; done)
  | ((try dsimp only); (repeat' split) <;> first
    | (simp; done)
    | (simp [*]; done)
    | (have e := State.but_fst 3238002833 ‹_ = (_, _)›; simp at e; simp [e]; done)
    | (have e := State.but_snd 3238002833 ‹_ = (_, _)›; simp at e; simp [e]; done))

@[simp] theorem State.firstPass_but {u : Nat} (hu : u &&& 3238134673 = 3238134673) (s : State) (bad : List Sys2Proof.BadCell) (port : Nat) (f : Sys2Proof.Machine.InFrame) :
    (State.firstPass s bad port f).but u = s.but u := by
  refine State.but_mono hu ?_
  unfold State.firstPass
  first
  | (simp; done)
  | ((try dsimp only); (repeat' split) <;> first
    | (simp; done)
    | (simp [*]; done)
    | (have e := State.but_fst 3238134673 ‹_ = (_, _)›; simp at e; simp [e]; done)
    | (have e := State.but_snd 3238134673 ‹_ = (_, _)›; simp at e; simp [e]; done))

theorem State.settleGo_but {u : Nat} (hu : u &&& 2164260993 = 2164260993) (pid : Nat) (a : State × List Packet) (p : Packet) :
    (if p.pid = pid ∧ p.tailDone ∧ p.parse.kept.isSome then
      ((a.1.settleTail p p.rxLen true).1, a.2 ++ [{ (a.1.settleTail p p.rxLen true).2 with
        bad := p.bad || (a.1.settleTail p p.rxLen true).2.bad }])
    else (a.1, a.2 ++ [p])).1.but u = a.1.but u := by
  refine State.but_mono hu ?_
  split
  · simp
  · rfl

@[simp] theorem State.settleWhole_but {u : Nat} (hu : u &&& 2164260993 = 2164260993) (s : State) (pid : Nat) : (State.settleWhole s pid).but u = s.but u := by
  have g : ∀ (t : State) (x : PathSt), ({ t with path := x } : State).but u = t.but u := fun t x => State.but_mono hu (by simp)
  unfold State.settleWhole
  dsimp only
  rw [State.but_foldl (by intro t x; exact State.but_mono hu (by simp)), g, State.but_foldl_fst (State.settleGo_but hu pid)]
  dsimp only
  rw [State.but_foldl_fst (State.settleGo_but hu pid)]

theorem execParseStart_but {u : Nat} (hu : u &&& 3238134673 = 3238134673) (port : Nat) (bad : List Sys2Proof.BadCell) (s : State) {z : State} (h : execParseStart port bad s = .next z) :
    z.but u = s.but u := by
  refine State.but_mono hu ?_
  revert h
  unfold execParseStart
  (try dsimp only)
  intro h
  obtain rfl := Host.Outcome.next.inj h
  clear h
  first
  | (simp; done)
  | ((repeat' split) <;> first
    | (simp; done)
    | (simp [*]; done)
    | (have e := State.but_fst 3238134673 ‹_ = (_, _)›; simp at e; simp [e]; done)
    | (have e := State.but_snd 3238134673 ‹_ = (_, _)›; simp at e; simp [e]; done))

theorem execSecondPassStart_but {u : Nat} (hu : u &&& 3238134673 = 3238134673) (pipe : Nat) (bad : List Sys2Proof.BadCell) (s : State) {z : State} (h : execSecondPassStart pipe bad s = .next z) :
    z.but u = s.but u := by
  refine State.but_mono hu ?_
  revert h
  unfold execSecondPassStart
  (try dsimp only)
  intro h
  obtain rfl := Host.Outcome.next.inj h
  clear h
  first
  | (simp; done)
  | ((repeat' split) <;> first
    | (simp; done)
    | (simp [*]; done)
    | (have e := State.but_fst 3238134673 ‹_ = (_, _)›; simp at e; simp [e]; done)
    | (have e := State.but_snd 3238134673 ‹_ = (_, _)›; simp at e; simp [e]; done))

theorem execFragEntryExpire_but {u : Nat} (hu : u &&& 128 = 128) (bucket : Nat) (slot : Nat) (s : State) {z : State} (h : execFragEntryExpire bucket slot s = .next z) :
    z.but u = s.but u := by
  refine State.but_mono hu ?_
  revert h
  unfold execFragEntryExpire
  (try dsimp only)
  intro h
  obtain rfl := Host.Outcome.next.inj h
  clear h
  first
  | (simp; done)
  | ((repeat' split) <;> first
    | (simp; done)
    | (simp [*]; done)
    | (have e := State.but_fst 128 ‹_ = (_, _)›; simp at e; simp [e]; done)
    | (have e := State.but_snd 128 ‹_ = (_, _)›; simp at e; simp [e]; done))

theorem execFragFlush_but {u : Nat} (hu : u &&& 3238002817 = 3238002817) (m : Sys2Proof.Master) (s : State) {z : State} (h : execFragFlush m s = .next z) :
    z.but u = s.but u := by
  refine State.but_mono hu ?_
  revert h
  unfold execFragFlush
  (try dsimp only)
  intro h
  obtain rfl := Host.Outcome.next.inj h
  clear h
  first
  | (simp; done)
  | ((repeat' split) <;> first
    | (simp; done)
    | (simp [*]; done)
    | (have e := State.but_fst 3238002817 ‹_ = (_, _)›; simp at e; simp [e]; done)
    | (have e := State.but_snd 3238002817 ‹_ = (_, _)›; simp at e; simp [e]; done))

/-! ## Gates -/

@[simp] theorem State.setGate_but {u : Nat} (hu : u &&& 16384 = 16384) (s : State) (p : Nat) (g : Sys2Proof.Machine.GatePort) :
    (State.setGate s p g).but u = s.but u := by
  refine State.but_mono hu ?_
  unfold State.setGate
  first
  | (simp; done)
  | ((try dsimp only); (repeat' split) <;> first
    | (simp; done)
    | (simp [*]; done)
    | (have e := State.but_fst 16384 ‹_ = (_, _)›; simp at e; simp [e]; done)
    | (have e := State.but_snd 16384 ‹_ = (_, _)›; simp at e; simp [e]; done))

@[simp] theorem State.gateRefresh_but {u : Nat} (hu : u &&& 16384 = 16384) (s : State) (p : Nat) :
    (State.gateRefresh s p).but u = s.but u := by
  refine State.but_mono hu ?_
  unfold State.gateRefresh
  first
  | (simp; done)
  | ((try dsimp only); (repeat' split) <;> first
    | (simp; done)
    | (simp [*]; done)
    | (have e := State.but_fst 16384 ‹_ = (_, _)›; simp at e; simp [e]; done)
    | (have e := State.but_snd 16384 ‹_ = (_, _)›; simp at e; simp [e]; done))

@[simp] theorem State.gateCommit_but {u : Nat} (hu : u &&& 2164277249 = 2164277249) (s : State) (p : Nat) (newList : Bool) (cfgWritten : Bool) :
    (State.gateCommit s p newList cfgWritten).but u = s.but u := by
  refine State.but_mono hu ?_
  unfold State.gateCommit
  first
  | (simp; done)
  | ((try dsimp only); (repeat' split) <;> first
    | (simp; done)
    | (simp [*]; done)
    | (have e := State.but_fst 2164277249 ‹_ = (_, _)›; simp at e; simp [e]; done)
    | (have e := State.but_snd 2164277249 ‹_ = (_, _)›; simp at e; simp [e]; done))

@[simp] theorem State.ttTake_but {u : Nat} (hu : u &&& 16384 = 16384) (s : State) (p : Nat) :
    (State.ttTake s p).but u = s.but u := by
  refine State.but_mono hu ?_
  unfold State.ttTake
  first
  | (simp; done)
  | ((try dsimp only); (repeat' split) <;> first
    | (simp; done)
    | (simp [*]; done)
    | (have e := State.but_fst 16384 ‹_ = (_, _)›; simp at e; simp [e]; done)
    | (have e := State.but_snd 16384 ‹_ = (_, _)›; simp at e; simp [e]; done))

@[simp] theorem State.ttStep_but {u : Nat} (hu : u &&& 16384 = 16384) (s : State) (p : Nat) (ok : Bool) :
    (State.ttStep s p ok).but u = s.but u := by
  refine State.but_mono hu ?_
  unfold State.ttStep
  first
  | (simp; done)
  | ((try dsimp only); (repeat' split) <;> first
    | (simp; done)
    | (simp [*]; done)
    | (have e := State.but_fst 16384 ‹_ = (_, _)›; simp at e; simp [e]; done)
    | (have e := State.but_snd 16384 ‹_ = (_, _)›; simp at e; simp [e]; done))

@[simp] theorem State.ttCatchUp_but {u : Nat} (hu : u &&& 16384 = 16384) (s : State) (p : Nat) :
    (State.ttCatchUp s p).but u = s.but u := by
  refine State.but_mono hu ?_
  unfold State.ttCatchUp
  first
  | (simp; done)
  | ((try dsimp only); (repeat' split) <;> first
    | (simp; done)
    | (simp [*]; done)
    | (have e := State.but_fst 16384 ‹_ = (_, _)›; simp at e; simp [e]; done)
    | (have e := State.but_snd 16384 ‹_ = (_, _)›; simp at e; simp [e]; done))

@[simp] theorem State.gateSkip_but {u : Nat} (hu : u &&& 2164277249 = 2164277249) (s : State) (old : Nat) (p : Nat) :
    (State.gateSkip s old p).but u = s.but u := by
  refine State.but_mono hu ?_
  unfold State.gateSkip
  first
  | (simp; done)
  | ((try dsimp only); (repeat' split) <;> first
    | (simp; done)
    | (simp [*]; done)
    | (have e := State.but_fst 2164277249 ‹_ = (_, _)›; simp at e; simp [e]; done)
    | (have e := State.but_snd 2164277249 ‹_ = (_, _)›; simp at e; simp [e]; done))

theorem execGateEntryChange_but {u : Nat} (hu : u &&& 3238019073 = 3238019073) (port : Nat) (f : Sys2Proof.MemFinding) (s : State) {z : State} (h : execGateEntryChange port f s = .next z) :
    z.but u = s.but u := by
  refine State.but_mono hu ?_
  revert h
  unfold execGateEntryChange
  (try dsimp only)
  intro h
  obtain rfl := Host.Outcome.next.inj h
  clear h
  first
  | (simp; done)
  | ((repeat' split) <;> first
    | (simp; done)
    | (simp [*]; done)
    | (have e := State.but_fst 3238019073 ‹_ = (_, _)›; simp at e; simp [e]; done)
    | (have e := State.but_snd 3238019073 ‹_ = (_, _)›; simp at e; simp [e]; done))

theorem execCyclicListStart_but {u : Nat} (hu : u &&& 16384 = 16384) (port : Nat) (s : State) {z : State} (h : execCyclicListStart port s = .next z) :
    z.but u = s.but u := by
  refine State.but_mono hu ?_
  revert h
  unfold execCyclicListStart
  (try dsimp only)
  intro h
  obtain rfl := Host.Outcome.next.inj h
  clear h
  first
  | (simp; done)
  | ((repeat' split) <;> first
    | (simp; done)
    | (simp [*]; done)
    | (have e := State.but_fst 16384 ‹_ = (_, _)›; simp at e; simp [e]; done)
    | (have e := State.but_snd 16384 ‹_ = (_, _)›; simp at e; simp [e]; done))

theorem execTimetableTakeover_but {u : Nat} (hu : u &&& 16384 = 16384) (port : Nat) (s : State) {z : State} (h : execTimetableTakeover port s = .next z) :
    z.but u = s.but u := by
  refine State.but_mono hu ?_
  revert h
  unfold execTimetableTakeover
  (try dsimp only)
  intro h
  obtain rfl := Host.Outcome.next.inj h
  clear h
  first
  | (simp; done)
  | ((repeat' split) <;> first
    | (simp; done)
    | (simp [*]; done)
    | (have e := State.but_fst 16384 ‹_ = (_, _)›; simp at e; simp [e]; done)
    | (have e := State.but_snd 16384 ‹_ = (_, _)›; simp at e; simp [e]; done))

theorem execTimetableEntry_but {u : Nat} (hu : u &&& 3238019073 = 3238019073) (port : Nat) (f : Sys2Proof.MemFinding) (s : State) {z : State} (h : execTimetableEntry port f s = .next z) :
    z.but u = s.but u := by
  refine State.but_mono hu ?_
  revert h
  unfold execTimetableEntry
  (try dsimp only)
  intro h
  obtain rfl := Host.Outcome.next.inj h
  clear h
  first
  | (simp; done)
  | ((repeat' split) <;> first
    | (simp; done)
    | (simp [*]; done)
    | (have e := State.but_fst 3238019073 ‹_ = (_, _)›; simp at e; simp [e]; done)
    | (have e := State.but_snd 3238019073 ‹_ = (_, _)›; simp at e; simp [e]; done))

theorem execTimetableFetch_but {u : Nat} (hu : u &&& 2164408321 = 2164408321) (port : Nat) (s : State) {z : State} (h : execTimetableFetch port s = .next z) :
    z.but u = s.but u := by
  refine State.but_mono hu ?_
  revert h
  unfold execTimetableFetch
  (try dsimp only)
  intro h
  obtain rfl := Host.Outcome.next.inj h
  clear h
  first
  | (simp; done)
  | ((repeat' split) <;> first
    | (simp; done)
    | (simp [*]; done)
    | (have e := State.but_fst 2164408321 ‹_ = (_, _)›; simp at e; simp [e]; done)
    | (have e := State.but_snd 2164408321 ‹_ = (_, _)›; simp at e; simp [e]; done))

@[simp] theorem State.ttCancel_but {u : Nat} (hu : u &&& 16385 = 16385) (s : State) (port : Nat) :
    (State.ttCancel s port).but u = s.but u := by
  refine State.but_mono hu ?_
  unfold State.ttCancel
  first
  | (simp; done)
  | ((try dsimp only); (repeat' split) <;> first
    | (simp; done)
    | (simp [*]; done)
    | (have e := State.but_fst 16385 ‹_ = (_, _)›; simp at e; simp [e]; done)
    | (have e := State.but_snd 16385 ‹_ = (_, _)›; simp at e; simp [e]; done))

theorem execGateTtCancel_but {u : Nat} (hu : u &&& 3238019073 = 3238019073) (m : Sys2Proof.Master) (port : Nat) (s : State) {z : State} (h : execGateTtCancel m port s = .next z) :
    z.but u = s.but u := by
  refine State.but_mono hu ?_
  revert h
  unfold execGateTtCancel
  (try dsimp only)
  intro h
  obtain rfl := Host.Outcome.next.inj h
  clear h
  first
  | (simp; done)
  | ((repeat' split) <;> first
    | (simp; done)
    | (simp [*]; done)
    | (have e := State.but_fst 3238019073 ‹_ = (_, _)›; simp at e; simp [e]; done)
    | (have e := State.but_snd 3238019073 ‹_ = (_, _)›; simp at e; simp [e]; done))

/-! ## Buffers -/

@[simp] theorem State.setPool_but {u : Nat} (hu : u &&& 2048 = 2048) (s : State) (n : Nat) (p : Sys2Proof.Machine.Pool) :
    (State.setPool s n p).but u = s.but u := by
  refine State.but_mono hu ?_
  unfold State.setPool
  first
  | (simp; done)
  | ((try dsimp only); (repeat' split) <;> first
    | (simp; done)
    | (simp [*]; done)
    | (have e := State.but_fst 2048 ‹_ = (_, _)›; simp at e; simp [e]; done)
    | (have e := State.but_snd 2048 ‹_ = (_, _)›; simp at e; simp [e]; done))

theorem State.takeFrom_but {u : Nat} (hu : u &&& 2048 = 2048) {s t : State} {n i : Nat} (h : s.takeFrom n = some (i, t)) : t.but u = s.but u := by
  refine State.but_mono hu ?_
  unfold State.takeFrom at h
  rw [Option.map_eq_some_iff] at h
  obtain ⟨r, -, h⟩ := h
  rw [Prod.mk.injEq] at h
  rw [← h.2]
  simp

@[simp] theorem State.allocFail_but {u : Nat} (hu : u &&& 2164260865 = 2164260865) (s : State) (n : Option Nat) :
    (State.allocFail s n).but u = s.but u := by
  refine State.but_mono hu ?_
  unfold State.allocFail
  first
  | (simp; done)
  | ((try dsimp only); (repeat' split) <;> first
    | (simp; done)
    | (simp [*]; done)
    | (have e := State.but_fst 2164260865 ‹_ = (_, _)›; simp at e; simp [e]; done)
    | (have e := State.but_snd 2164260865 ‹_ = (_, _)›; simp at e; simp [e]; done))

@[simp] theorem State.allocate_but {u : Nat} (hu : u &&& 2164262913 = 2164262913) (s : State) (len : Nat) : (State.allocate s len).1.but u = s.but u := by
  refine State.but_mono hu ?_
  unfold State.allocate
  (repeat' split) <;> first
    | (simp; done)
    | (have e := State.takeFrom_but (u := 2164262913) (by simp) ‹_ = some (_, _)›; simp [e]; done)

@[simp] theorem State.giveBack_but {u : Nat} (hu : u &&& 2048 = 2048) (s : State) (n : Nat) (i : Nat) :
    (State.giveBack s n i).but u = s.but u := by
  refine State.but_mono hu ?_
  unfold State.giveBack
  first
  | (simp; done)
  | ((try dsimp only); (repeat' split) <;> first
    | (simp; done)
    | (simp [*]; done)
    | (have e := State.but_fst 2048 ‹_ = (_, _)›; simp at e; simp [e]; done)
    | (have e := State.but_snd 2048 ‹_ = (_, _)›; simp at e; simp [e]; done))

@[simp] theorem State.takeDesc_but {u : Nat} (hu : u &&& 3238135809 = 3238135809) (s : State) :
    (State.takeDesc s).1.but u = s.but u := by
  refine State.but_mono hu ?_
  unfold State.takeDesc
  first
  | (simp; done)
  | ((try dsimp only); (repeat' split) <;> first
    | (simp; done)
    | (simp [*]; done)
    | (have e := State.but_fst 3238135809 ‹_ = (_, _)›; simp at e; simp [e]; done)
    | (have e := State.but_snd 3238135809 ‹_ = (_, _)›; simp at e; simp [e]; done))

@[simp] theorem State.giveDesc_but {u : Nat} (hu : u &&& 2048 = 2048) (s : State) (n : Nat) :
    (State.giveDesc s n).but u = s.but u := by
  refine State.but_mono hu ?_
  unfold State.giveDesc
  first
  | (simp; done)
  | ((try dsimp only); (repeat' split) <;> first
    | (simp; done)
    | (simp [*]; done)
    | (have e := State.but_fst 2048 ‹_ = (_, _)›; simp at e; simp [e]; done)
    | (have e := State.but_snd 2048 ‹_ = (_, _)›; simp at e; simp [e]; done))

@[simp] theorem State.evalBp_but {u : Nat} (hu : u &&& 2147483777 = 2147483777) (s : State) (p : Nat) (c : Nat) :
    (State.evalBp s p c).but u = s.but u := by
  refine State.but_mono hu ?_
  unfold State.evalBp
  first
  | (simp; done)
  | ((try dsimp only); (repeat' split) <;> first
    | (simp; done)
    | (simp [*]; done)
    | (have e := State.but_fst 2147483777 ‹_ = (_, _)›; simp at e; simp [e]; done)
    | (have e := State.but_snd 2147483777 ‹_ = (_, _)›; simp at e; simp [e]; done))

@[simp] theorem State.occAdd_but {u : Nat} (hu : u &&& 2147485825 = 2147485825) (s : State) (fabric : Bool) (p : Nat) (c : Nat) (n : Nat) :
    (State.occAdd s fabric p c n).but u = s.but u := by
  refine State.but_mono hu ?_
  unfold State.occAdd
  first
  | (simp; done)
  | ((try dsimp only); (repeat' split) <;> first
    | (simp; done)
    | (simp [*]; done)
    | (have e := State.but_fst 2147485825 ‹_ = (_, _)›; simp at e; simp [e]; done)
    | (have e := State.but_snd 2147485825 ‹_ = (_, _)›; simp at e; simp [e]; done))

@[simp] theorem State.occSub_but {u : Nat} (hu : u &&& 2147485825 = 2147485825) (s : State) (fabric : Bool) (p : Nat) (c : Nat) (n : Nat) :
    (State.occSub s fabric p c n).but u = s.but u := by
  refine State.but_mono hu ?_
  unfold State.occSub
  first
  | (simp; done)
  | ((try dsimp only); (repeat' split) <;> first
    | (simp; done)
    | (simp [*]; done)
    | (have e := State.but_fst 2147485825 ‹_ = (_, _)›; simp at e; simp [e]; done)
    | (have e := State.but_snd 2147485825 ‹_ = (_, _)›; simp at e; simp [e]; done))

@[simp] theorem State.setBuffer_but {u : Nat} (hu : u &&& 2048 = 2048) (s : State) (b : Sys2Proof.Machine.Buffer) :
    (State.setBuffer s b).but u = s.but u := by
  refine State.but_mono hu ?_
  unfold State.setBuffer
  first
  | (simp; done)
  | ((try dsimp only); (repeat' split) <;> first
    | (simp; done)
    | (simp [*]; done)
    | (have e := State.but_fst 2048 ‹_ = (_, _)›; simp at e; simp [e]; done)
    | (have e := State.but_snd 2048 ‹_ = (_, _)›; simp at e; simp [e]; done))

@[simp] theorem State.bufWrite_but {u : Nat} (hu : u &&& 2164391937 = 2164391937) (s : State) (b : Sys2Proof.Machine.Buffer) (from_ : Nat) :
    (State.bufWrite s b from_).but u = s.but u := by
  refine State.but_mono hu ?_
  unfold State.bufWrite
  first
  | (simp; done)
  | ((try dsimp only); (repeat' split) <;> first
    | (simp; done)
    | (simp [*]; done)
    | (have e := State.but_fst 2164391937 ‹_ = (_, _)›; simp at e; simp [e]; done)
    | (have e := State.but_snd 2164391937 ‹_ = (_, _)›; simp at e; simp [e]; done))

@[simp] theorem State.bufRead_but {u : Nat} (hu : u &&& 2164391937 = 2164391937) (s : State) (bid : Nat) :
    (State.bufRead s bid).but u = s.but u := by
  refine State.but_mono hu ?_
  unfold State.bufRead
  first
  | (simp; done)
  | ((try dsimp only); (repeat' split) <;> first
    | (simp; done)
    | (simp [*]; done)
    | (have e := State.but_fst 2164391937 ‹_ = (_, _)›; simp at e; simp [e]; done)
    | (have e := State.but_snd 2164391937 ‹_ = (_, _)›; simp at e; simp [e]; done))

@[simp] theorem State.newBuffer_but {u : Nat} (hu : u &&& 2164394113 = 2164394113) (s : State) (k : Nat × Nat) (p : Sys2Proof.Machine.Packet) (fabric : Bool) (port : Nat) (cls : Nat) (charge : Nat) :
    (State.newBuffer s k p fabric port cls charge).1.but u = s.but u := by
  refine State.but_mono hu ?_
  unfold State.newBuffer
  first
  | (simp; done)
  | ((try dsimp only); (repeat' split) <;> first
    | (simp; done)
    | (simp [*]; done)
    | (have e := State.but_fst 2164394113 ‹_ = (_, _)›; simp at e; simp [e]; done)
    | (have e := State.but_snd 2164394113 ‹_ = (_, _)›; simp at e; simp [e]; done))

@[simp] theorem State.freeBuffer_but {u : Nat} (hu : u &&& 2147485825 = 2147485825) (s : State) (b : Sys2Proof.Machine.Buffer) :
    (State.freeBuffer s b).but u = s.but u := by
  refine State.but_mono hu ?_
  unfold State.freeBuffer
  first
  | (simp; done)
  | ((try dsimp only); (repeat' split) <;> first
    | (simp; done)
    | (simp [*]; done)
    | (have e := State.but_fst 2147485825 ‹_ = (_, _)›; simp at e; simp [e]; done)
    | (have e := State.but_snd 2147485825 ‹_ = (_, _)›; simp at e; simp [e]; done))

@[simp] theorem State.unref_but {u : Nat} (hu : u &&& 2164263041 = 2164263041) (s : State) (bid : Nat) :
    (State.unref s bid).but u = s.but u := by
  refine State.but_mono hu ?_
  unfold State.unref
  first
  | (simp; done)
  | ((try dsimp only); (repeat' split) <;> first
    | (simp; done)
    | (simp [*]; done)
    | (have e := State.but_fst 2164263041 ‹_ = (_, _)›; simp at e; simp [e]; done)
    | (have e := State.but_snd 2164263041 ‹_ = (_, _)›; simp at e; simp [e]; done))

@[simp] theorem State.decRef_but {u : Nat} (hu : u &&& 3238135937 = 3238135937) (s : State) (bid : Nat) :
    (State.decRef s bid).but u = s.but u := by
  refine State.but_mono hu ?_
  unfold State.decRef
  first
  | (simp; done)
  | ((try dsimp only); (repeat' split) <;> first
    | (simp; done)
    | (simp [*]; done)
    | (have e := State.but_fst 3238135937 ‹_ = (_, _)›; simp at e; simp [e]; done)
    | (have e := State.but_snd 3238135937 ‹_ = (_, _)›; simp at e; simp [e]; done))

@[simp] theorem State.setPacket_but {u : Nat} (hu : u &&& 2164393985 = 2164393985) (s : State) (bid : Nat) (p : Sys2Proof.Machine.Packet) :
    (State.setPacket s bid p).but u = s.but u := by
  refine State.but_mono hu ?_
  unfold State.setPacket
  first
  | (simp; done)
  | ((try dsimp only); (repeat' split) <;> first
    | (simp; done)
    | (simp [*]; done)
    | (have e := State.but_fst 2164393985 ‹_ = (_, _)›; simp at e; simp [e]; done)
    | (have e := State.but_snd 2164393985 ‹_ = (_, _)›; simp at e; simp [e]; done))

@[simp] theorem State.poolApply_but {u : Nat} (hu : u &&& 2164267009 = 2164267009) (s : State) :
    (State.poolApply s).but u = s.but u := by
  refine State.but_mono hu ?_
  unfold State.poolApply
  first
  | (simp; done)
  | ((try dsimp only); (repeat' split) <;> first
    | (simp; done)
    | (simp [*]; done)
    | (have e := State.but_fst 2164267009 ‹_ = (_, _)›; simp at e; simp [e]; done)
    | (have e := State.but_snd 2164267009 ‹_ = (_, _)›; simp at e; simp [e]; done))

@[simp] theorem State.mcrApply_but {u : Nat} (hu : u &&& 3238134913 = 3238134913) (s : State) (f : Sys2Proof.MemFinding) :
    (State.mcrApply s f).but u = s.but u := by
  refine State.but_mono hu ?_
  unfold State.mcrApply
  first
  | (simp; done)
  | ((try dsimp only); (repeat' split) <;> first
    | (simp; done)
    | (simp [*]; done)
    | (have e := State.but_fst 3238134913 ‹_ = (_, _)›; simp at e; simp [e]; done)
    | (have e := State.but_snd 3238134913 ‹_ = (_, _)›; simp at e; simp [e]; done))

theorem execMcrRecordApply_but {u : Nat} (hu : u &&& 3238134913 = 3238134913) (f : Sys2Proof.MemFinding) (s : State) {z : State} (h : execMcrRecordApply f s = .next z) :
    z.but u = s.but u := by
  refine State.but_mono hu ?_
  revert h
  unfold execMcrRecordApply
  (try dsimp only)
  intro h
  obtain rfl := Host.Outcome.next.inj h
  clear h
  first
  | (simp; done)
  | ((repeat' split) <;> first
    | (simp; done)
    | (simp [*]; done)
    | (have e := State.but_fst 3238134913 ‹_ = (_, _)›; simp at e; simp [e]; done)
    | (have e := State.but_snd 3238134913 ‹_ = (_, _)›; simp at e; simp [e]; done))

theorem execFreeCacheRefill_but {u : Nat} (hu : u &&& 3238135809 = 3238135809) (pool : Nat) (f : Sys2Proof.MemFinding) (s : State) {z : State} (h : execFreeCacheRefill pool f s = .next z) :
    z.but u = s.but u := by
  refine State.but_mono hu ?_
  revert h
  unfold execFreeCacheRefill
  (try dsimp only)
  intro h
  obtain rfl := Host.Outcome.next.inj h
  clear h
  first
  | (simp; done)
  | ((repeat' split) <;> first
    | (simp; done)
    | (simp [*]; done)
    | (have e := State.but_fst 3238135809 ‹_ = (_, _)›; simp at e; simp [e]; done)
    | (have e := State.but_snd 3238135809 ‹_ = (_, _)›; simp at e; simp [e]; done))

theorem execFreeCacheSpill_but {u : Nat} (hu : u &&& 3238135809 = 3238135809) (pool : Nat) (s : State) {z : State} (h : execFreeCacheSpill pool s = .next z) :
    z.but u = s.but u := by
  refine State.but_mono hu ?_
  revert h
  unfold execFreeCacheSpill
  (try dsimp only)
  intro h
  obtain rfl := Host.Outcome.next.inj h
  clear h
  first
  | (simp; done)
  | ((repeat' split) <;> first
    | (simp; done)
    | (simp [*]; done)
    | (have e := State.but_fst 3238135809 ‹_ = (_, _)›; simp at e; simp [e]; done)
    | (have e := State.but_snd 3238135809 ‹_ = (_, _)›; simp at e; simp [e]; done))

theorem execBpmApply_but {u : Nat} (hu : u &&& 3238008833 = 3238008833) (m : Sys2Proof.Master) (s : State) {z : State} (h : execBpmApply m s = .next z) :
    z.but u = s.but u := by
  refine State.but_mono hu ?_
  revert h
  unfold execBpmApply
  (try dsimp only)
  intro h
  obtain rfl := Host.Outcome.next.inj h
  clear h
  first
  | (simp; done)
  | ((repeat' split) <;> first
    | (simp; done)
    | (simp [*]; done)
    | (have e := State.but_fst 3238008833 ‹_ = (_, _)›; simp at e; simp [e]; done)
    | (have e := State.but_snd 3238008833 ‹_ = (_, _)›; simp at e; simp [e]; done))

theorem execFreeStoreRebuildDone_but {u : Nat} (hu : u &&& 2049 = 2049) (s : State) {z : State} (h : execFreeStoreRebuildDone s = .next z) :
    z.but u = s.but u := by
  refine State.but_mono hu ?_
  revert h
  unfold execFreeStoreRebuildDone
  (try dsimp only)
  intro h
  obtain rfl := Host.Outcome.next.inj h
  clear h
  first
  | (simp; done)
  | ((repeat' split) <;> first
    | (simp; done)
    | (simp [*]; done)
    | (have e := State.but_fst 2049 ‹_ = (_, _)›; simp at e; simp [e]; done)
    | (have e := State.but_snd 2049 ‹_ = (_, _)›; simp at e; simp [e]; done))

/-! ## Queues -/

@[simp] theorem State.setEq_but {u : Nat} (hu : u &&& 4096 = 4096) (s : State) (q : Nat) (l : List Sys2Proof.Machine.QEnt) :
    (State.setEq s q l).but u = s.but u := by
  refine State.but_mono hu ?_
  unfold State.setEq
  first
  | (simp; done)
  | ((try dsimp only); (repeat' split) <;> first
    | (simp; done)
    | (simp [*]; done)
    | (have e := State.but_fst 4096 ‹_ = (_, _)›; simp at e; simp [e]; done)
    | (have e := State.but_snd 4096 ‹_ = (_, _)›; simp at e; simp [e]; done))

@[simp] theorem State.setVoq_but {u : Nat} (hu : u &&& 4096 = 4096) (s : State) (v : Nat) (l : List Sys2Proof.Machine.QEnt) :
    (State.setVoq s v l).but u = s.but u := by
  refine State.but_mono hu ?_
  unfold State.setVoq
  first
  | (simp; done)
  | ((try dsimp only); (repeat' split) <;> first
    | (simp; done)
    | (simp [*]; done)
    | (have e := State.but_fst 4096 ‹_ = (_, _)›; simp at e; simp [e]; done)
    | (have e := State.but_snd 4096 ‹_ = (_, _)›; simp at e; simp [e]; done))

@[simp] theorem State.setFmc_but {u : Nat} (hu : u &&& 4096 = 4096) (s : State) (c : Nat) (l : List Sys2Proof.Machine.QEnt) :
    (State.setFmc s c l).but u = s.but u := by
  refine State.but_mono hu ?_
  unfold State.setFmc
  first
  | (simp; done)
  | ((try dsimp only); (repeat' split) <;> first
    | (simp; done)
    | (simp [*]; done)
    | (have e := State.but_fst 4096 ‹_ = (_, _)›; simp at e; simp [e]; done)
    | (have e := State.but_snd 4096 ‹_ = (_, _)›; simp at e; simp [e]; done))

@[simp] theorem State.setPunt_but {u : Nat} (hu : u &&& 4096 = 4096) (s : State) (r : Nat) (l : List Sys2Proof.Machine.QEnt) :
    (State.setPunt s r l).but u = s.but u := by
  refine State.but_mono hu ?_
  unfold State.setPunt
  first
  | (simp; done)
  | ((try dsimp only); (repeat' split) <;> first
    | (simp; done)
    | (simp [*]; done)
    | (have e := State.but_fst 4096 ‹_ = (_, _)›; simp at e; simp [e]; done)
    | (have e := State.but_snd 4096 ‹_ = (_, _)›; simp at e; simp [e]; done))

@[simp] theorem State.fmcCount_but {u : Nat} (hu : u &&& 2164260865 = 2164260865) (s : State) (k : Nat) (g : Nat) :
    (State.fmcCount s k g).but u = s.but u := by
  refine State.but_mono hu ?_
  unfold State.fmcCount
  first
  | (simp; done)
  | ((try dsimp only); (repeat' split) <;> first
    | (simp; done)
    | (simp [*]; done)
    | (have e := State.but_fst 2164260865 ‹_ = (_, _)›; simp at e; simp [e]; done)
    | (have e := State.but_snd 2164260865 ‹_ = (_, _)›; simp at e; simp [e]; done))

@[simp] theorem State.treeIn_but {u : Nat} (hu : u &&& 3238002689 = 3238002689) (s : State) (bad : List Sys2Proof.BadCell) (body : List Nat) (g : Nat) :
    (State.treeIn s bad body g).1.but u = s.but u := by
  refine State.but_mono hu ?_
  unfold State.treeIn
  first
  | (simp; done)
  | ((try dsimp only); (repeat' split) <;> first
    | (simp; done)
    | (simp [*]; done)
    | (have e := State.but_fst 3238002689 ‹_ = (_, _)›; simp at e; simp [e]; done)
    | (have e := State.but_snd 3238002689 ‹_ = (_, _)›; simp at e; simp [e]; done))

@[simp] theorem State.groupLegs_but {u : Nat} (hu : u &&& 3238002689 = 3238002689) (s : State) (bad : List Sys2Proof.BadCell) (g : Nat) (cls : Nat) (ingress : Option Nat) (mirror : Option Nat) :
    (State.groupLegs s bad g cls ingress mirror).1.but u = s.but u := by
  refine State.but_mono hu ?_
  unfold State.groupLegs
  first
  | (simp; done)
  | ((try dsimp only); (repeat' split) <;> first
    | (simp; done)
    | (simp [*]; done)
    | (have e := State.but_fst 3238002689 ‹_ = (_, _)›; simp at e; simp [e]; done)
    | (have e := State.but_snd 3238002689 ‹_ = (_, _)›; simp at e; simp [e]; done))

@[simp] theorem State.copyLost_but {u : Nat} (hu : u &&& 2164260865 = 2164260865) (s : State) :
    (State.copyLost s).but u = s.but u := by
  refine State.but_mono hu ?_
  unfold State.copyLost
  first
  | (simp; done)
  | ((try dsimp only); (repeat' split) <;> first
    | (simp; done)
    | (simp [*]; done)
    | (have e := State.but_fst 2164260865 ‹_ = (_, _)›; simp at e; simp [e]; done)
    | (have e := State.but_snd 2164260865 ‹_ = (_, _)›; simp at e; simp [e]; done))

@[simp] theorem State.puntDiscard_but {u : Nat} (hu : u &&& 2164260865 = 2164260865) (s : State) (r : Nat) :
    (State.puntDiscard s r).but u = s.but u := by
  refine State.but_mono hu ?_
  unfold State.puntDiscard
  first
  | (simp; done)
  | ((try dsimp only); (repeat' split) <;> first
    | (simp; done)
    | (simp [*]; done)
    | (have e := State.but_fst 2164260865 ‹_ = (_, _)›; simp at e; simp [e]; done)
    | (have e := State.but_snd 2164260865 ‹_ = (_, _)›; simp at e; simp [e]; done))

@[simp] theorem State.mirrorLegs_but {u : Nat} (hu : u &&& 2164260865 = 2164260865) (s : State) (d : Sys2Proof.Machine.Decision) :
    (State.mirrorLegs s d).1.but u = s.but u := by
  refine State.but_mono hu ?_
  unfold State.mirrorLegs
  first
  | (simp; done)
  | ((try dsimp only); (repeat' split) <;> first
    | (simp; done)
    | (simp [*]; done)
    | (have e := State.but_fst 2164260865 ‹_ = (_, _)›; simp at e; simp [e]; done)
    | (have e := State.but_snd 2164260865 ‹_ = (_, _)›; simp at e; simp [e]; done))

@[simp] theorem State.legs_but {u : Nat} (hu : u &&& 3238002689 = 3238002689) (s : State) (bad : List Sys2Proof.BadCell) (p : Sys2Proof.Machine.Packet) :
    (State.legs s bad p).1.but u = s.but u := by
  refine State.but_mono hu ?_
  unfold State.legs
  first
  | (simp; done)
  | ((try dsimp only); (repeat' split) <;> first
    | (simp; done)
    | (simp [*]; done)
    | (have e := State.but_fst 3238002689 ‹_ = (_, _)›; simp at e; simp [e]; done)
    | (have e := State.but_snd 3238002689 ‹_ = (_, _)›; simp at e; simp [e]; done))

@[simp] theorem State.legAllowed_but {u : Nat} (hu : u &&& 2164260865 = 2164260865) (s : State) (a : State × List Leg) (l : Leg) :
    (State.legAllowed s a l).1.but u = a.1.but u := by
  refine State.but_mono hu ?_
  unfold State.legAllowed
  split
  · simp
  · split
    · dsimp only
      split
      · simp
      · split <;> simp
    · rfl

@[simp] theorem State.holdCount_but {u : Nat} (hu : u &&& 2048 = 2048) (s : State) (mirror : Option Nat) (ring : Option Nat) (up : Bool) :
    (State.holdCount s mirror ring up).but u = s.but u := by
  refine State.but_mono hu ?_
  unfold State.holdCount
  first
  | (simp; done)
  | ((try dsimp only); (repeat' split) <;> first
    | (simp; done)
    | (simp [*]; done)
    | (have e := State.but_fst 2048 ‹_ = (_, _)›; simp at e; simp [e]; done)
    | (have e := State.but_snd 2048 ‹_ = (_, _)›; simp at e; simp [e]; done))

@[simp] theorem State.dropEnt_but {u : Nat} (hu : u &&& 3238135937 = 3238135937) (s : State) (e : Sys2Proof.Machine.QEnt) (ring : Option Nat) :
    (State.dropEnt s e ring).but u = s.but u := by
  refine State.but_mono hu ?_
  unfold State.dropEnt
  first
  | (simp; done)
  | ((try dsimp only); (repeat' split) <;> first
    | (simp; done)
    | (simp [*]; done)
    | (have e := State.but_fst 3238135937 ‹_ = (_, _)›; simp at e; simp [e]; done)
    | (have e := State.but_snd 3238135937 ‹_ = (_, _)›; simp at e; simp [e]; done))

@[simp] theorem State.egressEnqueue_but {u : Nat} (hu : u &&& 3238140033 = 3238140033) (s : State) (bid : Nat) (p : Sys2Proof.Machine.Packet) (port : Nat) (cls : Nat) (mirror : Option Nat) (cut : Bool) :
    (State.egressEnqueue s bid p port cls mirror cut).but u = s.but u := by
  refine State.but_mono hu ?_
  unfold State.egressEnqueue
  first
  | (simp; done)
  | ((try dsimp only); (repeat' split) <;> first
    | (simp; done)
    | (simp [*]; done)
    | (have e := State.but_fst 3238140033 ‹_ = (_, _)›; simp at e; simp [e]; done)
    | (have e := State.but_snd 3238140033 ‹_ = (_, _)›; simp at e; simp [e]; done))

@[simp] theorem State.sendLeg_but {u : Nat} (hu : u &&& 3238140033 = 3238140033) (s : State) (bid : Nat) (p : Sys2Proof.Machine.Packet) (cut : Bool) (l : Sys2Proof.Machine.Leg) :
    (State.sendLeg s bid p cut l).but u = s.but u := by
  refine State.but_mono hu ?_
  unfold State.sendLeg
  first
  | (simp; done)
  | ((try dsimp only); (repeat' split) <;> first
    | (simp; done)
    | (simp [*]; done)
    | (have e := State.but_fst 3238140033 ‹_ = (_, _)›; simp at e; simp [e]; done)
    | (have e := State.but_snd 3238140033 ‹_ = (_, _)›; simp at e; simp [e]; done))

@[simp] theorem State.sendCopy_but {u : Nat} (hu : u &&& 3238140033 = 3238140033) (bid : Nat) (p : Sys2Proof.Machine.Packet) (s : State) (l : Sys2Proof.Machine.Leg) :
    (State.sendCopy bid p s l).but u = s.but u := by
  refine State.but_mono hu ?_
  unfold State.sendCopy
  first
  | (simp; done)
  | ((try dsimp only); (repeat' split) <;> first
    | (simp; done)
    | (simp [*]; done)
    | (have e := State.but_fst 3238140033 ‹_ = (_, _)›; simp at e; simp [e]; done)
    | (have e := State.but_snd 3238140033 ‹_ = (_, _)›; simp at e; simp [e]; done))

@[simp] theorem State.dispatchLegs_but {u : Nat} (hu : u &&& 3238140033 = 3238140033) (s : State) (bid : Nat) (p : Sys2Proof.Machine.Packet) (l : List Sys2Proof.Machine.Leg) (cut : Bool) :
    (State.dispatchLegs s bid p l cut).but u = s.but u := by
  refine State.but_mono hu ?_
  unfold State.dispatchLegs
  first
  | (simp; done)
  | ((try dsimp only); (repeat' split) <;> first
    | (simp; done)
    | (simp [*]; done)
    | (have e := State.but_fst 3238140033 ‹_ = (_, _)›; simp at e; simp [e]; done)
    | (have e := State.but_snd 3238140033 ‹_ = (_, _)›; simp at e; simp [e]; done))

@[simp] theorem State.keptLegs_but {u : Nat} (hu : u &&& 3238002689 = 3238002689) (s : State) (bad : List BadCell) (p : Packet) :
    (State.keptLegs s bad p).1.but u = s.but u := by
  refine State.but_mono hu ?_
  unfold State.keptLegs
  dsimp only
  rw [State.but_foldl_fst (fun a l => State.legAllowed_but (by simp) _ a l)]
  simp

@[simp] theorem State.dispatch_but {u : Nat} (hu : u &&& 3238140033 = 3238140033) (s : State) (bad : List Sys2Proof.BadCell) (bid : Nat) (p : Sys2Proof.Machine.Packet) :
    (State.dispatch s bad bid p).but u = s.but u := by
  refine State.but_mono hu ?_
  unfold State.dispatch
  first
  | (simp; done)
  | ((try dsimp only); (repeat' split) <;> first
    | (simp; done)
    | (simp [*]; done)
    | (have e := State.but_fst 3238140033 ‹_ = (_, _)›; simp at e; simp [e]; done)
    | (have e := State.but_snd 3238140033 ‹_ = (_, _)›; simp at e; simp [e]; done))

@[simp] theorem State.dropOld_but {u : Nat} (hu : u &&& 3238135937 = 3238135937) (s : State) (k : Nat) (f : Fld) (l : List QEnt) :
    (State.dropOld s k f l).1.but u = s.but u := by
  refine State.but_mono hu ?_
  induction l generalizing s with
  | nil => rfl
  | cons e t ih =>
    unfold State.dropOld
    split
    · rw [ih]; simp
    · rfl

@[simp] theorem State.settleEq_but {u : Nat} (hu : u &&& 3238140033 = 3238140033) (s : State) (q : Nat) :
    (State.settleEq s q).but u = s.but u := by
  refine State.but_mono hu ?_
  unfold State.settleEq
  first
  | (simp; done)
  | ((try dsimp only); (repeat' split) <;> first
    | (simp; done)
    | (simp [*]; done)
    | (have e := State.but_fst 3238140033 ‹_ = (_, _)›; simp at e; simp [e]; done)
    | (have e := State.but_snd 3238140033 ‹_ = (_, _)›; simp at e; simp [e]; done))

@[simp] theorem State.settleVoq_but {u : Nat} (hu : u &&& 3238140033 = 3238140033) (s : State) (v : Nat) :
    (State.settleVoq s v).but u = s.but u := by
  refine State.but_mono hu ?_
  unfold State.settleVoq
  first
  | (simp; done)
  | ((try dsimp only); (repeat' split) <;> first
    | (simp; done)
    | (simp [*]; done)
    | (have e := State.but_fst 3238140033 ‹_ = (_, _)›; simp at e; simp [e]; done)
    | (have e := State.but_snd 3238140033 ‹_ = (_, _)›; simp at e; simp [e]; done))

@[simp] theorem State.tailDrop_but {u : Nat} (hu : u &&& 2164260865 = 2164260865) (s : State) :
    (State.tailDrop s).but u = s.but u := by
  refine State.but_mono hu ?_
  unfold State.tailDrop
  first
  | (simp; done)
  | ((try dsimp only); (repeat' split) <;> first
    | (simp; done)
    | (simp [*]; done)
    | (have e := State.but_fst 2164260865 ‹_ = (_, _)›; simp at e; simp [e]; done)
    | (have e := State.but_snd 2164260865 ‹_ = (_, _)›; simp at e; simp [e]; done))

@[simp] theorem State.stompCount_but {u : Nat} (hu : u &&& 2164260865 = 2164260865) (s : State) :
    (State.stompCount s).but u = s.but u := by
  refine State.but_mono hu ?_
  unfold State.stompCount
  first
  | (simp; done)
  | ((try dsimp only); (repeat' split) <;> first
    | (simp; done)
    | (simp [*]; done)
    | (have e := State.but_fst 2164260865 ‹_ = (_, _)›; simp at e; simp [e]; done)
    | (have e := State.but_snd 2164260865 ‹_ = (_, _)›; simp at e; simp [e]; done))

@[simp] theorem State.unqueue_but {u : Nat} (hu : u &&& 3238140033 = 3238140033) (s : State) (bid : Nat) :
    (State.unqueue s bid).but u = s.but u := by
  refine State.but_mono hu ?_
  unfold State.unqueue
  first
  | (simp; done)
  | ((try dsimp only); (repeat' split) <;> first
    | (simp; done)
    | (simp [*]; done)
    | (have e := State.but_fst 3238140033 ‹_ = (_, _)›; simp at e; simp [e]; done)
    | (have e := State.but_snd 3238140033 ‹_ = (_, _)›; simp at e; simp [e]; done))

/-! ## Admission -/

@[simp] theorem State.policePacket_but {u : Nat} (hu : u &&& 3238134785 = 3238134785) (s : State) (bad : List Sys2Proof.BadCell) (p : Sys2Proof.Machine.Packet) :
    (State.policePacket s bad p).1.but u = s.but u := by
  refine State.but_mono hu ?_
  unfold State.policePacket
  first
  | (simp; done)
  | ((try dsimp only); (repeat' split) <;> first
    | (simp; done)
    | (simp [*]; done)
    | (have e := State.but_fst 3238134785 ‹_ = (_, _)›; simp at e; simp [e]; done)
    | (have e := State.but_snd 3238134785 ‹_ = (_, _)›; simp at e; simp [e]; done))

@[simp] theorem State.countPkt_but {u : Nat} (hu : u &&& 2164260993 = 2164260993) (s : State) (p : Sys2Proof.Machine.Packet) :
    (State.countPkt s p).but u = s.but u := by
  refine State.but_mono hu ?_
  unfold State.countPkt
  first
  | (simp; done)
  | ((try dsimp only); (repeat' split) <;> first
    | (simp; done)
    | (simp [*]; done)
    | (have e := State.but_fst 2164260993 ‹_ = (_, _)›; simp at e; simp [e]; done)
    | (have e := State.but_snd 2164260993 ‹_ = (_, _)›; simp at e; simp [e]; done))

@[simp] theorem State.limitDrop_but {u : Nat} (hu : u &&& 2164260865 = 2164260865) (s : State) :
    (State.limitDrop s).but u = s.but u := by
  refine State.but_mono hu ?_
  unfold State.limitDrop
  first
  | (simp; done)
  | ((try dsimp only); (repeat' split) <;> first
    | (simp; done)
    | (simp [*]; done)
    | (have e := State.but_fst 2164260865 ‹_ = (_, _)›; simp at e; simp [e]; done)
    | (have e := State.but_snd 2164260865 ‹_ = (_, _)›; simp at e; simp [e]; done))

@[simp] theorem State.place_but {u : Nat} (hu : u &&& 3238140033 = 3238140033) (s : State) (bad : List Sys2Proof.BadCell) (k : Nat × Nat) (p : Sys2Proof.Machine.Packet) :
    (State.place s bad k p).but u = s.but u := by
  refine State.but_mono hu ?_
  unfold State.place
  first
  | (simp; done)
  | ((try dsimp only); (repeat' split) <;> first
    | (simp; done)
    | (simp [*]; done)
    | (have e := State.but_fst 3238140033 ‹_ = (_, _)›; simp at e; simp [e]; done)
    | (have e := State.but_snd 3238140033 ‹_ = (_, _)›; simp at e; simp [e]; done))

@[simp] theorem State.admitSized_but {u : Nat} (hu : u &&& 3238140033 = 3238140033) (s : State) (bad : List Sys2Proof.BadCell) (p : Sys2Proof.Machine.Packet) :
    (State.admitSized s bad p).but u = s.but u := by
  refine State.but_mono hu ?_
  unfold State.admitSized
  first
  | (simp; done)
  | ((try dsimp only); (repeat' split) <;> first
    | (simp; done)
    | (simp [*]; done)
    | (have e := State.but_fst 3238140033 ‹_ = (_, _)›; simp at e; simp [e]; done)
    | (have e := State.but_snd 3238140033 ‹_ = (_, _)›; simp at e; simp [e]; done))

@[simp] theorem State.intake_but {u : Nat} (hu : u &&& 3238141057 = 3238141057) (s : State) (bad : List Sys2Proof.BadCell) (p : Sys2Proof.Machine.Packet) :
    (State.intake s bad p).but u = s.but u := by
  refine State.but_mono hu ?_
  unfold State.intake
  first
  | (simp; done)
  | ((try dsimp only); (repeat' split) <;> first
    | (simp; done)
    | (simp [*]; done)
    | (have e := State.but_fst 3238141057 ‹_ = (_, _)›; simp at e; simp [e]; done)
    | (have e := State.but_snd 3238141057 ‹_ = (_, _)›; simp at e; simp [e]; done))

@[simp] theorem State.fifoTail_but {u : Nat} (hu : u &&& 2164260993 = 2164260993) (s : State) (port : Nat) (f : Sys2Proof.Machine.InFrame) (rest : Sys2Proof.Bytes) :
    (State.fifoTail s port f rest).but u = s.but u := by
  refine State.but_mono hu ?_
  unfold State.fifoTail
  first
  | (simp; done)
  | ((try dsimp only); (repeat' split) <;> first
    | (simp; done)
    | (simp [*]; done)
    | (have e := State.but_fst 2164260993 ‹_ = (_, _)›; simp at e; simp [e]; done)
    | (have e := State.but_snd 2164260993 ‹_ = (_, _)›; simp at e; simp [e]; done))

@[simp] theorem State.tailSettled_but {u : Nat} (hu : u &&& 3238140033 = 3238140033) (s : State) (b : Sys2Proof.Machine.Buffer) (p : Sys2Proof.Machine.Packet) :
    (State.tailSettled s b p).but u = s.but u := by
  refine State.but_mono hu ?_
  unfold State.tailSettled
  first
  | (simp; done)
  | ((try dsimp only); (repeat' split) <;> first
    | (simp; done)
    | (simp [*]; done)
    | (have e := State.but_fst 3238140033 ‹_ = (_, _)›; simp at e; simp [e]; done)
    | (have e := State.but_snd 3238140033 ‹_ = (_, _)›; simp at e; simp [e]; done))

@[simp] theorem State.tailIn_but {u : Nat} (hu : u &&& 3238140033 = 3238140033) (s : State) (pid : Nat) (rest : Sys2Proof.Bytes) :
    (State.tailIn s pid rest).but u = s.but u := by
  refine State.but_mono hu ?_
  unfold State.tailIn
  first
  | (simp; done)
  | ((try dsimp only); (repeat' split) <;> first
    | (simp; done)
    | (simp [*]; done)
    | (have e := State.but_fst 3238140033 ‹_ = (_, _)›; simp at e; simp [e]; done)
    | (have e := State.but_snd 3238140033 ‹_ = (_, _)›; simp at e; simp [e]; done))

theorem execAdmission_but {u : Nat} (hu : u &&& 3238141057 = 3238141057) (bad : List Sys2Proof.BadCell) (s : State) {z : State} (h : execAdmission bad s = .next z) :
    z.but u = s.but u := by
  refine State.but_mono hu ?_
  revert h
  unfold execAdmission
  (try dsimp only)
  intro h
  obtain rfl := Host.Outcome.next.inj h
  clear h
  first
  | (simp; done)
  | ((repeat' split) <;> first
    | (simp; done)
    | (simp [*]; done)
    | (have e := State.but_fst 3238141057 ‹_ = (_, _)›; simp at e; simp [e]; done)
    | (have e := State.but_snd 3238141057 ‹_ = (_, _)›; simp at e; simp [e]; done))

/-! ## Sched -/

@[simp] theorem State.setSch_but {u : Nat} (hu : u &&& 8192 = 8192) (s : State) (p : Nat) (x : Sys2Proof.Machine.SchedPort) :
    (State.setSch s p x).but u = s.but u := by
  refine State.but_mono hu ?_
  unfold State.setSch
  first
  | (simp; done)
  | ((try dsimp only); (repeat' split) <;> first
    | (simp; done)
    | (simp [*]; done)
    | (have e := State.but_fst 8192 ‹_ = (_, _)›; simp at e; simp [e]; done)
    | (have e := State.but_snd 8192 ‹_ = (_, _)›; simp at e; simp [e]; done))

@[simp] theorem State.schCount_but {u : Nat} (hu : u &&& 2164269057 = 2164269057) (s : State) (p : Nat) (k : Nat) (n : Nat) :
    (State.schCount s p k n).but u = s.but u := by
  refine State.but_mono hu ?_
  unfold State.schCount
  first
  | (simp; done)
  | ((try dsimp only); (repeat' split) <;> first
    | (simp; done)
    | (simp [*]; done)
    | (have e := State.but_fst 2164269057 ‹_ = (_, _)›; simp at e; simp [e]; done)
    | (have e := State.but_snd 2164269057 ‹_ = (_, _)›; simp at e; simp [e]; done))

@[simp] theorem State.schedPitch_but {u : Nat} (hu : u &&& 2164269057 = 2164269057) (s : State) (p : Nat) :
    (State.schedPitch s p).but u = s.but u := by
  refine State.but_mono hu ?_
  unfold State.schedPitch
  first
  | (simp; done)
  | ((try dsimp only); (repeat' split) <;> first
    | (simp; done)
    | (simp [*]; done)
    | (have e := State.but_fst 2164269057 ‹_ = (_, _)›; simp at e; simp [e]; done)
    | (have e := State.but_snd 2164269057 ‹_ = (_, _)›; simp at e; simp [e]; done))

@[simp] theorem State.dropHeads_but {u : Nat} (hu : u &&& 3238135937 = 3238135937) (s : State) (port : Nat) (l : List QEnt) :
    (State.dropHeads s port l).1.but u = s.but u := by
  refine State.but_mono hu ?_
  induction l generalizing s with
  | nil => rfl
  | cons e t ih =>
    unfold State.dropHeads
    split
    · rw [ih]; simp
    · split
      · rw [ih]; simp
      · rfl

@[simp] theorem State.settleHead_but {u : Nat} (hu : u &&& 3238140033 = 3238140033) (port : Nat) (s : State) (q : Nat) :
    (State.settleHead port s q).but u = s.but u := by
  refine State.but_mono hu ?_
  unfold State.settleHead
  first
  | (simp; done)
  | ((try dsimp only); (repeat' split) <;> first
    | (simp; done)
    | (simp [*]; done)
    | (have e := State.but_fst 3238140033 ‹_ = (_, _)›; simp at e; simp [e]; done)
    | (have e := State.but_snd 3238140033 ‹_ = (_, _)›; simp at e; simp [e]; done))

@[simp] theorem State.shaperErrors_but {u : Nat} (hu : u &&& 3238002689 = 3238002689) (s : State) (bad : List Sys2Proof.BadCell) (l : List Nat) :
    (State.shaperErrors s bad l).but u = s.but u := by
  refine State.but_mono hu ?_
  unfold State.shaperErrors
  first
  | (simp; done)
  | ((try dsimp only); (repeat' split) <;> first
    | (simp; done)
    | (simp [*]; done)
    | (have e := State.but_fst 3238002689 ‹_ = (_, _)›; simp at e; simp [e]; done)
    | (have e := State.but_snd 3238002689 ‹_ = (_, _)›; simp at e; simp [e]; done))

@[simp] theorem State.tryEntry_but {u : Nat} (hu : u &&& 3238140033 = 3238140033) (s : State) (bad : List Sys2Proof.BadCell) (port : Nat) (e : Nat) (rope : Bool) :
    (State.tryEntry s bad port e rope).1.but u = s.but u := by
  refine State.but_mono hu ?_
  unfold State.tryEntry
  first
  | (simp; done)
  | ((try dsimp only); (repeat' split) <;> first
    | (simp; done)
    | (simp [*]; done)
    | (have e := State.but_fst 3238140033 ‹_ = (_, _)›; simp at e; simp [e]; done)
    | (have e := State.but_snd 3238140033 ‹_ = (_, _)›; simp at e; simp [e]; done))

@[simp] theorem State.skipCount_but {u : Nat} (hu : u &&& 2164269057 = 2164269057) (s : State) (port : Nat) (b : Sys2Proof.Machine.Block) :
    (State.skipCount s port b).but u = s.but u := by
  refine State.but_mono hu ?_
  unfold State.skipCount
  first
  | (simp; done)
  | ((try dsimp only); (repeat' split) <;> first
    | (simp; done)
    | (simp [*]; done)
    | (have e := State.but_fst 2164269057 ‹_ = (_, _)›; simp at e; simp [e]; done)
    | (have e := State.but_snd 2164269057 ‹_ = (_, _)›; simp at e; simp [e]; done))

@[simp] theorem State.walkList_but {u : Nat} (hu : u &&& 3238148225 = 3238148225) (s : State) (bad : List BadCell) (port : Nat) (l : List Nat) :
    (State.walkList s bad port l).1.but u = s.but u := by
  refine State.but_mono hu ?_
  induction l generalizing s with
  | nil => simp [State.walkList]
  | cons e t ih =>
    unfold State.walkList
    split
    · exact ih s
    · split <;> (have e := State.but_fst 3238148225 ‹_ = (_, _)›; simp at e; simp [ih, e])

@[simp] theorem State.walkRank_but {u : Nat} (hu : u &&& 3238148225 = 3238148225) (s : State) (bad : List BadCell) (port r : Nat) (l : List (Nat × Nat)) (n : Nat) :
    (State.walkRank s bad port r l n).1.but u = s.but u := by
  refine State.but_mono hu ?_
  induction l generalizing s with
  | nil => rfl
  | cons e t ih =>
    unfold State.walkRank
    split
    · exact ih s
    · split <;> (have e := State.but_fst 3238148225 ‹_ = (_, _)›; simp at e; simp [ih, e])

@[simp] theorem State.walkRope_but {u : Nat} (hu : u &&& 3238148225 = 3238148225) (s : State) (bad : List BadCell) (port : Nat) (ranks : List Nat) :
    (State.walkRope s bad port ranks).1.but u = s.but u := by
  refine State.but_mono hu ?_
  induction ranks generalizing s with
  | nil => rfl
  | cons e t ih =>
    unfold State.walkRope
    dsimp only
    split <;> (have e := State.but_fst 3238148225 ‹_ = (_, _)›; simp at e; simp [ih, e])

theorem State.nextGo_but {u : Nat} (hu : u &&& 3238148225 = 3238148225) (s : State) (bad : List BadCell) (port : Nat) (l : List Nat) :
    (match s.walkList bad port l with
      | (s, some q) => (s, some q)
      | (s, none) => s.walkRope bad port Sys2Proof.Machine.ranks).1.but u = s.but u := by
  refine State.but_mono hu ?_
  split <;> (have e := State.but_fst 3238148225 ‹_ = (_, _)›; simp at e; simp [e])

@[simp] theorem State.nextQueue_but {u : Nat} (hu : u &&& 3238148225 = 3238148225) (s : State) (bad : List BadCell) (port : Nat) :
    (State.nextQueue s bad port).1.but u = s.but u := by
  refine State.but_mono hu ?_
  unfold State.nextQueue
  dsimp only
  split
  · split
    · split
      · have e := State.but_fst 3238148225 ‹_ = (_, _)›
        simpa using e
      · have e := State.but_fst 3238148225 ‹_ = (_, _)›
        exact (State.nextGo_but (by simp) _ _ _ _).trans (by simpa using e)
    · exact (State.nextGo_but (by simp) _ _ _ _).trans (by simp)
  · exact (State.nextGo_but (by simp) _ _ _ _).trans (by simp)

@[simp] theorem State.chargeSent_but {u : Nat} (hu : u &&& 9216 = 9216) (s : State) (port : Nat) (q : Nat) (p : Nat) :
    (State.chargeSent s port q p).but u = s.but u := by
  refine State.but_mono hu ?_
  unfold State.chargeSent
  first
  | (simp; done)
  | ((try dsimp only); (repeat' split) <;> first
    | (simp; done)
    | (simp [*]; done)
    | (have e := State.but_fst 9216 ‹_ = (_, _)›; simp at e; simp [e]; done)
    | (have e := State.but_snd 9216 ‹_ = (_, _)›; simp at e; simp [e]; done))

@[simp] theorem State.rewrite_but {u : Nat} (hu : u &&& 3238002689 = 3238002689) (s : State) (bad : List Sys2Proof.BadCell) (port : Nat) (ttx : Nat) (e : Sys2Proof.Machine.QEnt) (p : Sys2Proof.Machine.Packet) :
    (State.rewrite s bad port ttx e p).1.but u = s.but u := by
  refine State.but_mono hu ?_
  unfold State.rewrite
  first
  | (simp; done)
  | ((try dsimp only); (repeat' split) <;> first
    | (simp; done)
    | (simp [*]; done)
    | (have e := State.but_fst 3238002689 ‹_ = (_, _)›; simp at e; simp [e]; done)
    | (have e := State.but_snd 3238002689 ‹_ = (_, _)›; simp at e; simp [e]; done))

@[simp] theorem State.countCopy_but {u : Nat} (hu : u &&& 2164260993 = 2164260993) (s : State) (c : Option Nat) (p : Sys2Proof.Machine.Packet) :
    (State.countCopy s c p).but u = s.but u := by
  refine State.but_mono hu ?_
  unfold State.countCopy
  first
  | (simp; done)
  | ((try dsimp only); (repeat' split) <;> first
    | (simp; done)
    | (simp [*]; done)
    | (have e := State.but_fst 2164260993 ‹_ = (_, _)›; simp at e; simp [e]; done)
    | (have e := State.but_snd 2164260993 ‹_ = (_, _)›; simp at e; simp [e]; done))

@[simp] theorem State.sendFrame_but {u : Nat} (hu : u &&& 2164260869 = 2164260869) (s : State) (port : Nat) (ttx : Nat) (b : Sys2Proof.Bytes) :
    (State.sendFrame s port ttx b).but u = s.but u := by
  refine State.but_mono hu ?_
  unfold State.sendFrame
  first
  | (simp; done)
  | ((try dsimp only); (repeat' split) <;> first
    | (simp; done)
    | (simp [*]; done)
    | (have e := State.but_fst 2164260869 ‹_ = (_, _)›; simp at e; simp [e]; done)
    | (have e := State.but_snd 2164260869 ‹_ = (_, _)›; simp at e; simp [e]; done))

@[simp] theorem State.sendStomped_but {u : Nat} (hu : u &&& 3238002689 = 3238002689) (s : State) (port : Nat) (b : Sys2Proof.Bytes) (poison : Bool) :
    (State.sendStomped s port b poison).but u = s.but u := by
  refine State.but_mono hu ?_
  unfold State.sendStomped
  first
  | (simp; done)
  | ((try dsimp only); (repeat' split) <;> first
    | (simp; done)
    | (simp [*]; done)
    | (have e := State.but_fst 3238002689 ‹_ = (_, _)›; simp at e; simp [e]; done)
    | (have e := State.but_snd 3238002689 ‹_ = (_, _)›; simp at e; simp [e]; done))

@[simp] theorem State.sendHead_but {u : Nat} (hu : u &&& 3238149253 = 3238149253) (s : State) (bad : List Sys2Proof.BadCell) (port : Nat) (q : Nat) :
    (State.sendHead s bad port q).but u = s.but u := by
  refine State.but_mono hu ?_
  unfold State.sendHead
  first
  | (simp; done)
  | ((try dsimp only); (repeat' split) <;> first
    | (simp; done)
    | (simp [*]; done)
    | (have e := State.but_fst 3238149253 ‹_ = (_, _)›; simp at e; simp [e]; done)
    | (have e := State.but_snd 3238149253 ‹_ = (_, _)›; simp at e; simp [e]; done))

@[simp] theorem State.finishCut_but {u : Nat} (hu : u &&& 3238145157 = 3238145157) (s : State) (port : Nat) (poison : Bool) :
    (State.finishCut s port poison).but u = s.but u := by
  refine State.but_mono hu ?_
  unfold State.finishCut
  first
  | (simp; done)
  | ((try dsimp only); (repeat' split) <;> first
    | (simp; done)
    | (simp [*]; done)
    | (have e := State.but_fst 3238145157 ‹_ = (_, _)›; simp at e; simp [e]; done)
    | (have e := State.but_snd 3238145157 ‹_ = (_, _)›; simp at e; simp [e]; done))

@[simp] theorem State.downDrop_but {u : Nat} (hu : u &&& 3238140033 = 3238140033) (s : State) (port : Nat) :
    (State.downDrop s port).but u = s.but u := by
  refine State.but_mono hu ?_
  unfold State.downDrop
  first
  | (simp; done)
  | ((try dsimp only); (repeat' split) <;> first
    | (simp; done)
    | (simp [*]; done)
    | (have e := State.but_fst 3238140033 ‹_ = (_, _)›; simp at e; simp [e]; done)
    | (have e := State.but_snd 3238140033 ‹_ = (_, _)›; simp at e; simp [e]; done))

@[simp] theorem State.txGo_but {u : Nat} (hu : u &&& 3238149253 = 3238149253) (s : State) (bad : List Sys2Proof.BadCell) (port : Nat) :
    (State.txGo s bad port).but u = s.but u := by
  refine State.but_mono hu ?_
  unfold State.txGo
  first
  | (simp; done)
  | ((try dsimp only); (repeat' split) <;> first
    | (simp; done)
    | (simp [*]; done)
    | (have e := State.but_fst 3238149253 ‹_ = (_, _)›; simp at e; simp [e]; done)
    | (have e := State.but_snd 3238149253 ‹_ = (_, _)›; simp at e; simp [e]; done))

theorem execPortTxReady_but {u : Nat} (hu : u &&& 3238149253 = 3238149253) (port : Nat) (bad : List Sys2Proof.BadCell) (s : State) {z : State} (h : execPortTxReady port bad s = .next z) :
    z.but u = s.but u := by
  refine State.but_mono hu ?_
  revert h
  unfold execPortTxReady
  (try dsimp only)
  intro h
  obtain rfl := Host.Outcome.next.inj h
  clear h
  first
  | (simp; done)
  | ((repeat' split) <;> first
    | (simp; done)
    | (simp [*]; done)
    | (have e := State.but_fst 3238149253 ‹_ = (_, _)›; simp at e; simp [e]; done)
    | (have e := State.but_snd 3238149253 ‹_ = (_, _)›; simp at e; simp [e]; done))

theorem execRopeWake_but {u : Nat} (hu : u &&& 3238149253 = 3238149253) (port : Nat) (s : State) {z : State} (h : execRopeWake port s = .next z) :
    z.but u = s.but u := by
  refine State.but_mono hu ?_
  revert h
  unfold execRopeWake
  (try dsimp only)
  intro h
  obtain rfl := Host.Outcome.next.inj h
  clear h
  first
  | (simp; done)
  | ((repeat' split) <;> first
    | (simp; done)
    | (simp [*]; done)
    | (have e := State.but_fst 3238149253 ‹_ = (_, _)›; simp at e; simp [e]; done)
    | (have e := State.but_snd 3238149253 ‹_ = (_, _)›; simp at e; simp [e]; done))

@[simp] theorem State.scanOne_but {u : Nat} (hu : u &&& 3238140033 = 3238140033) (s : State) (n : Nat) :
    (State.scanOne s n).but u = s.but u := by
  refine State.but_mono hu ?_
  unfold State.scanOne
  first
  | (simp; done)
  | ((try dsimp only); (repeat' split) <;> first
    | (simp; done)
    | (simp [*]; done)
    | (have e := State.but_fst 3238140033 ‹_ = (_, _)›; simp at e; simp [e]; done)
    | (have e := State.but_snd 3238140033 ‹_ = (_, _)›; simp at e; simp [e]; done))

theorem execResidenceScan_but {u : Nat} (hu : u &&& 3238140033 = 3238140033) (s : State) {z : State} (h : execResidenceScan s = .next z) :
    z.but u = s.but u := by
  refine State.but_mono hu ?_
  revert h
  unfold execResidenceScan
  (try dsimp only)
  intro h
  obtain rfl := Host.Outcome.next.inj h
  clear h
  first
  | (simp; done)
  | ((repeat' split) <;> first
    | (simp; done)
    | (simp [*]; done)
    | (have e := State.but_fst 3238140033 ‹_ = (_, _)›; simp at e; simp [e]; done)
    | (have e := State.but_snd 3238140033 ‹_ = (_, _)›; simp at e; simp [e]; done))

theorem execCalendarPrefetch_but {u : Nat} (hu : u &&& 3238141953 = 3238141953) (port : Nat) (onTime : Bool) (bad : List Nat) (s : State) {z : State} (h : execCalendarPrefetch port onTime bad s = .next z) :
    z.but u = s.but u := by
  refine State.but_mono hu ?_
  revert h
  unfold execCalendarPrefetch
  (try dsimp only)
  intro h
  obtain rfl := Host.Outcome.next.inj h
  clear h
  first
  | (simp; done)
  | ((repeat' split) <;> first
    | (simp; done)
    | (simp [*]; done)
    | (have e := State.but_fst 3238141953 ‹_ = (_, _)›; simp at e; simp [e]; done)
    | (have e := State.but_snd 3238141953 ‹_ = (_, _)›; simp at e; simp [e]; done))

/-! ## Latency -/

@[simp] theorem State.takeSample_but {u : Nat} (hu : u &&& 2164293633 = 2164293633) (s : State) (x : Sys2Proof.Machine.LatSample) :
    (State.takeSample s x).but u = s.but u := by
  refine State.but_mono hu ?_
  unfold State.takeSample
  first
  | (simp; done)
  | ((try dsimp only); (repeat' split) <;> first
    | (simp; done)
    | (simp [*]; done)
    | (have e := State.but_fst 2164293633 ‹_ = (_, _)›; simp at e; simp [e]; done)
    | (have e := State.but_snd 2164293633 ‹_ = (_, _)›; simp at e; simp [e]; done))

@[simp] theorem State.rotationEnd_but {u : Nat} (hu : u &&& 32769 = 32769) (s : State) :
    (State.rotationEnd s).but u = s.but u := by
  refine State.but_mono hu ?_
  unfold State.rotationEnd
  first
  | (simp; done)
  | ((try dsimp only); (repeat' split) <;> first
    | (simp; done)
    | (simp [*]; done)
    | (have e := State.but_fst 32769 ‹_ = (_, _)›; simp at e; simp [e]; done)
    | (have e := State.but_snd 32769 ‹_ = (_, _)›; simp at e; simp [e]; done))

@[simp] theorem State.samplePitch_but {u : Nat} (hu : u &&& 2164293633 = 2164293633) (s : State) (epoch : Nat) (k : Nat) :
    (State.samplePitch s epoch k).but u = s.but u := by
  refine State.but_mono hu ?_
  unfold State.samplePitch
  first
  | (simp; done)
  | ((try dsimp only); (repeat' split) <;> first
    | (simp; done)
    | (simp [*]; done)
    | (have e := State.but_fst 2164293633 ‹_ = (_, _)›; simp at e; simp [e]; done)
    | (have e := State.but_snd 2164293633 ‹_ = (_, _)›; simp at e; simp [e]; done))

@[simp] theorem State.latSkip_but {u : Nat} (hu : u &&& 2164293633 = 2164293633) (s : State) (old : Nat) :
    (State.latSkip s old).but u = s.but u := by
  refine State.but_mono hu ?_
  unfold State.latSkip
  first
  | (simp; done)
  | ((try dsimp only); (repeat' split) <;> first
    | (simp; done)
    | (simp [*]; done)
    | (have e := State.but_fst 2164293633 ‹_ = (_, _)›; simp at e; simp [e]; done)
    | (have e := State.but_snd 2164293633 ‹_ = (_, _)›; simp at e; simp [e]; done))

@[simp] theorem State.latWrite_but {u : Nat} (hu : u &&& 2164293633 = 2164293633) (s : State) :
    (State.latWrite s).but u = s.but u := by
  refine State.but_mono hu ?_
  unfold State.latWrite
  first
  | (simp; done)
  | ((try dsimp only); (repeat' split) <;> first
    | (simp; done)
    | (simp [*]; done)
    | (have e := State.but_fst 2164293633 ‹_ = (_, _)›; simp at e; simp [e]; done)
    | (have e := State.but_snd 2164293633 ‹_ = (_, _)›; simp at e; simp [e]; done))

@[simp] theorem State.widxNext_but {u : Nat} (hu : u &&& 1 = 1) (s : State) :
    (State.widxNext s).but u = s.but u := by
  refine State.but_mono hu ?_
  unfold State.widxNext
  first
  | (simp; done)
  | ((try dsimp only); (repeat' split) <;> first
    | (simp; done)
    | (simp [*]; done)
    | (have e := State.but_fst 1 ‹_ = (_, _)›; simp at e; simp [e]; done)
    | (have e := State.but_snd 1 ‹_ = (_, _)›; simp at e; simp [e]; done))

@[simp] theorem State.watchWrite_but {u : Nat} (hu : u &&& 2164293633 = 2164293633) (s : State) (v : Nat) :
    (State.watchWrite s v).but u = s.but u := by
  refine State.but_mono hu ?_
  unfold State.watchWrite
  first
  | (simp; done)
  | ((try dsimp only); (repeat' split) <;> first
    | (simp; done)
    | (simp [*]; done)
    | (have e := State.but_fst 2164293633 ‹_ = (_, _)›; simp at e; simp [e]; done)
    | (have e := State.but_snd 2164293633 ‹_ = (_, _)›; simp at e; simp [e]; done))

@[simp] theorem State.watchRead_but {u : Nat} (hu : u &&& 1 = 1) (s : State) :
    (State.watchRead s).2.but u = s.but u := by
  refine State.but_mono hu ?_
  unfold State.watchRead
  first
  | (simp; done)
  | ((try dsimp only); (repeat' split) <;> first
    | (simp; done)
    | (simp [*]; done)
    | (have e := State.but_fst 1 ‹_ = (_, _)›; simp at e; simp [e]; done)
    | (have e := State.but_snd 1 ‹_ = (_, _)›; simp at e; simp [e]; done))

@[simp] theorem State.watchCommit_but {u : Nat} (hu : u &&& 32768 = 32768) (s : State) :
    (State.watchCommit s).but u = s.but u := by
  refine State.but_mono hu ?_
  unfold State.watchCommit
  first
  | (simp; done)
  | ((try dsimp only); (repeat' split) <;> first
    | (simp; done)
    | (simp [*]; done)
    | (have e := State.but_fst 32768 ‹_ = (_, _)›; simp at e; simp [e]; done)
    | (have e := State.but_snd 32768 ‹_ = (_, _)›; simp at e; simp [e]; done))

theorem execLatencySample_but {u : Nat} (hu : u &&& 2164293633 = 2164293633) (s : State) {z : State} (h : execLatencySample s = .next z) :
    z.but u = s.but u := by
  refine State.but_mono hu ?_
  revert h
  unfold execLatencySample
  (try dsimp only)
  intro h
  obtain rfl := Host.Outcome.next.inj h
  clear h
  first
  | (simp; done)
  | ((repeat' split) <;> first
    | (simp; done)
    | (simp [*]; done)
    | (have e := State.but_fst 2164293633 ‹_ = (_, _)›; simp at e; simp [e]; done)
    | (have e := State.but_snd 2164293633 ‹_ = (_, _)›; simp at e; simp [e]; done))

theorem execLatencyWrite_but {u : Nat} (hu : u &&& 2164293633 = 2164293633) (s : State) {z : State} (h : execLatencyWrite s = .next z) :
    z.but u = s.but u := by
  refine State.but_mono hu ?_
  revert h
  unfold execLatencyWrite
  (try dsimp only)
  intro h
  obtain rfl := Host.Outcome.next.inj h
  clear h
  first
  | (simp; done)
  | ((repeat' split) <;> first
    | (simp; done)
    | (simp [*]; done)
    | (have e := State.but_fst 2164293633 ‹_ = (_, _)›; simp at e; simp [e]; done)
    | (have e := State.but_snd 2164293633 ‹_ = (_, _)›; simp at e; simp [e]; done))

theorem execLatWdataAccess_but {u : Nat} (hu : u &&& 3238035457 = 3238035457) (m : Sys2Proof.Master) (w : Option Sys2Proof.Word) (s : State) {z : State} (h : execLatWdataAccess m w s = .next z) :
    z.but u = s.but u := by
  refine State.but_mono hu ?_
  revert h
  unfold execLatWdataAccess
  (try dsimp only)
  intro h
  obtain rfl := Host.Outcome.next.inj h
  clear h
  first
  | (simp; done)
  | ((repeat' split) <;> first
    | (simp; done)
    | (simp [*]; done)
    | (have e := State.but_fst 3238035457 ‹_ = (_, _)›; simp at e; simp [e]; done)
    | (have e := State.but_snd 3238035457 ‹_ = (_, _)›; simp at e; simp [e]; done))

/-! ## Links -/

@[simp] theorem State.wlf_but {u : Nat} (hu : u &&& 1 = 1) (s : State) (f : Sys2Proof.Machine.Fld) (n : Nat) (v : Nat) :
    (State.wlf s f n v).but u = s.but u := by
  refine State.but_mono hu ?_
  unfold State.wlf
  first
  | (simp; done)
  | ((try dsimp only); (repeat' split) <;> first
    | (simp; done)
    | (simp [*]; done)
    | (have e := State.but_fst 1 ‹_ = (_, _)›; simp at e; simp [e]; done)
    | (have e := State.but_snd 1 ‹_ = (_, _)›; simp at e; simp [e]; done))

@[simp] theorem State.setLink_but {u : Nat} (hu : u &&& 65536 = 65536) (s : State) (n : Nat) (x : Sys2Proof.Machine.LinkSt) :
    (State.setLink s n x).but u = s.but u := by
  refine State.but_mono hu ?_
  unfold State.setLink
  first
  | (simp; done)
  | ((try dsimp only); (repeat' split) <;> first
    | (simp; done)
    | (simp [*]; done)
    | (have e := State.but_fst 65536 ‹_ = (_, _)›; simp at e; simp [e]; done)
    | (have e := State.but_snd 65536 ‹_ = (_, _)›; simp at e; simp [e]; done))

@[simp] theorem State.cellOut_but {u : Nat} (hu : u &&& 2164260865 = 2164260865) (s : State) (n : Nat) (b : Sys2Proof.Bytes) :
    (State.cellOut s n b).but u = s.but u := by
  refine State.but_mono hu ?_
  unfold State.cellOut
  first
  | (simp; done)
  | ((try dsimp only); (repeat' split) <;> first
    | (simp; done)
    | (simp [*]; done)
    | (have e := State.but_fst 2164260865 ‹_ = (_, _)›; simp at e; simp [e]; done)
    | (have e := State.but_snd 2164260865 ‹_ = (_, _)›; simp at e; simp [e]; done))

@[simp] theorem State.linkTo_but {u : Nat} (hu : u &&& 65537 = 65537) (s : State) (n : Nat) (st : Nat) :
    (State.linkTo s n st).but u = s.but u := by
  refine State.but_mono hu ?_
  unfold State.linkTo
  first
  | (simp; done)
  | ((try dsimp only); (repeat' split) <;> first
    | (simp; done)
    | (simp [*]; done)
    | (have e := State.but_fst 65537 ‹_ = (_, _)›; simp at e; simp [e]; done)
    | (have e := State.but_snd 65537 ‹_ = (_, _)›; simp at e; simp [e]; done))

@[simp] theorem State.linkLoss_but {u : Nat} (hu : u &&& 2164260865 = 2164260865) (s : State) (n : Nat) :
    (State.linkLoss s n).but u = s.but u := by
  refine State.but_mono hu ?_
  unfold State.linkLoss
  first
  | (simp; done)
  | ((try dsimp only); (repeat' split) <;> first
    | (simp; done)
    | (simp [*]; done)
    | (have e := State.but_fst 2164260865 ‹_ = (_, _)›; simp at e; simp [e]; done)
    | (have e := State.but_snd 2164260865 ‹_ = (_, _)›; simp at e; simp [e]; done))

@[simp] theorem State.linkSettle_but {u : Nat} (hu : u &&& 65537 = 65537) (s : State) (n : Nat) :
    (State.linkSettle s n).but u = s.but u := by
  refine State.but_mono hu ?_
  unfold State.linkSettle
  first
  | (simp; done)
  | ((try dsimp only); (repeat' split) <;> first
    | (simp; done)
    | (simp [*]; done)
    | (have e := State.but_fst 65537 ‹_ = (_, _)›; simp at e; simp [e]; done)
    | (have e := State.but_snd 65537 ‹_ = (_, _)›; simp at e; simp [e]; done))

@[simp] theorem State.linksSettle_but {u : Nat} (hu : u &&& 65537 = 65537) (s : State) :
    (State.linksSettle s).but u = s.but u := by
  refine State.but_mono hu ?_
  unfold State.linksSettle
  first
  | (simp; done)
  | ((try dsimp only); (repeat' split) <;> first
    | (simp; done)
    | (simp [*]; done)
    | (have e := State.but_fst 65537 ‹_ = (_, _)›; simp at e; simp [e]; done)
    | (have e := State.but_snd 65537 ‹_ = (_, _)›; simp at e; simp [e]; done))

@[simp] theorem State.helloFail_but {u : Nat} (hu : u &&& 2164326401 = 2164326401) (s : State) (n : Nat) (cause : Nat) :
    (State.helloFail s n cause).but u = s.but u := by
  refine State.but_mono hu ?_
  unfold State.helloFail
  first
  | (simp; done)
  | ((try dsimp only); (repeat' split) <;> first
    | (simp; done)
    | (simp [*]; done)
    | (have e := State.but_fst 2164326401 ‹_ = (_, _)›; simp at e; simp [e]; done)
    | (have e := State.but_snd 2164326401 ‹_ = (_, _)›; simp at e; simp [e]; done))

@[simp] theorem State.showPeer_but {u : Nat} (hu : u &&& 1 = 1) (s : State) (n : Nat) (h : Sys2Proof.Hello) :
    (State.showPeer s n h).but u = s.but u := by
  refine State.but_mono hu ?_
  unfold State.showPeer
  first
  | (simp; done)
  | ((try dsimp only); (repeat' split) <;> first
    | (simp; done)
    | (simp [*]; done)
    | (have e := State.but_fst 1 ‹_ = (_, _)›; simp at e; simp [e]; done)
    | (have e := State.but_snd 1 ‹_ = (_, _)›; simp at e; simp [e]; done))

@[simp] theorem State.lostCells_but {u : Nat} (hu : u &&& 2164326401 = 2164326401) (s : State) (n : Nat) (h : Sys2Proof.Hello) :
    (State.lostCells s n h).but u = s.but u := by
  refine State.but_mono hu ?_
  unfold State.lostCells
  first
  | (simp; done)
  | ((try dsimp only); (repeat' split) <;> first
    | (simp; done)
    | (simp [*]; done)
    | (have e := State.but_fst 2164326401 ‹_ = (_, _)›; simp at e; simp [e]; done)
    | (have e := State.but_snd 2164326401 ‹_ = (_, _)›; simp at e; simp [e]; done))

@[simp] theorem State.helloInHello_but {u : Nat} (hu : u &&& 2164326401 = 2164326401) (s : State) (n : Nat) (h : Sys2Proof.Hello) :
    (State.helloInHello s n h).but u = s.but u := by
  refine State.but_mono hu ?_
  unfold State.helloInHello
  first
  | (simp; done)
  | ((try dsimp only); (repeat' split) <;> first
    | (simp; done)
    | (simp [*]; done)
    | (have e := State.but_fst 2164326401 ‹_ = (_, _)›; simp at e; simp [e]; done)
    | (have e := State.but_snd 2164326401 ‹_ = (_, _)›; simp at e; simp [e]; done))

@[simp] theorem State.helloIn_but {u : Nat} (hu : u &&& 2164326401 = 2164326401) (s : State) (n : Nat) (h : Sys2Proof.Hello) :
    (State.helloIn s n h).but u = s.but u := by
  refine State.but_mono hu ?_
  unfold State.helloIn
  first
  | (simp; done)
  | ((try dsimp only); (repeat' split) <;> first
    | (simp; done)
    | (simp [*]; done)
    | (have e := State.but_fst 2164326401 ‹_ = (_, _)›; simp at e; simp [e]; done)
    | (have e := State.but_snd 2164326401 ‹_ = (_, _)›; simp at e; simp [e]; done))

@[simp] theorem State.fabChanged_but {u : Nat} (hu : u &&& 65537 = 65537) (s : State) :
    (State.fabChanged s).but u = s.but u := by
  refine State.but_mono hu ?_
  unfold State.fabChanged
  first
  | (simp; done)
  | ((try dsimp only); (repeat' split) <;> first
    | (simp; done)
    | (simp [*]; done)
    | (have e := State.but_fst 65537 ‹_ = (_, _)›; simp at e; simp [e]; done)
    | (have e := State.but_snd 65537 ‹_ = (_, _)›; simp at e; simp [e]; done))

@[simp] theorem State.fabIdWrite_but {u : Nat} (hu : u &&& 2164326401 = 2164326401) (s : State) (v : Nat) :
    (State.fabIdWrite s v).but u = s.but u := by
  refine State.but_mono hu ?_
  unfold State.fabIdWrite
  first
  | (simp; done)
  | ((try dsimp only); (repeat' split) <;> first
    | (simp; done)
    | (simp [*]; done)
    | (have e := State.but_fst 2164326401 ‹_ = (_, _)›; simp at e; simp [e]; done)
    | (have e := State.but_snd 2164326401 ‹_ = (_, _)›; simp at e; simp [e]; done))

@[simp] theorem State.sendOn_but {u : Nat} (hu : u &&& 2164326401 = 2164326401) (s : State) (n : Nat) (v : Nat) (b : Sys2Proof.Bytes) :
    (State.sendOn s n v b).but u = s.but u := by
  refine State.but_mono hu ?_
  unfold State.sendOn
  first
  | (simp; done)
  | ((try dsimp only); (repeat' split) <;> first
    | (simp; done)
    | (simp [*]; done)
    | (have e := State.but_fst 2164326401 ‹_ = (_, _)›; simp at e; simp [e]; done)
    | (have e := State.but_snd 2164326401 ‹_ = (_, _)›; simp at e; simp [e]; done))

@[simp] theorem State.sendOwn_but {u : Nat} (hu : u &&& 2164326401 = 2164326401) (s : State) (n : Nat) (b : Sys2Proof.Bytes) :
    (State.sendOwn s n b).but u = s.but u := by
  refine State.but_mono hu ?_
  unfold State.sendOwn
  first
  | (simp; done)
  | ((try dsimp only); (repeat' split) <;> first
    | (simp; done)
    | (simp [*]; done)
    | (have e := State.but_fst 2164326401 ‹_ = (_, _)›; simp at e; simp [e]; done)
    | (have e := State.but_snd 2164326401 ‹_ = (_, _)›; simp at e; simp [e]; done))

@[simp] theorem State.freeSlot_but {u : Nat} (hu : u &&& 65536 = 65536) (s : State) (n : Nat) (v : Nat) :
    (State.freeSlot s n v).but u = s.but u := by
  refine State.but_mono hu ?_
  unfold State.freeSlot
  first
  | (simp; done)
  | ((try dsimp only); (repeat' split) <;> first
    | (simp; done)
    | (simp [*]; done)
    | (have e := State.but_fst 65536 ‹_ = (_, _)›; simp at e; simp [e]; done)
    | (have e := State.but_snd 65536 ‹_ = (_, _)›; simp at e; simp [e]; done))

@[simp] theorem State.servo_but {u : Nat} (hu : u &&& 5 = 5) (s : State) (off : Int) :
    (State.servo s off).but u = s.but u := by
  refine State.but_mono hu ?_
  unfold State.servo
  first
  | (simp; done)
  | ((try dsimp only); (repeat' split) <;> first
    | (simp; done)
    | (simp [*]; done)
    | (have e := State.but_fst 5 ‹_ = (_, _)›; simp at e; simp [e]; done)
    | (have e := State.but_snd 5 ‹_ = (_, _)›; simp at e; simp [e]; done))

@[simp] theorem State.follow_but {u : Nat} (hu : u &&& 5 = 5) (s : State) (n : Nat) (w : Sys2Proof.TimeWord) (off : Int) :
    (State.follow s n w off).but u = s.but u := by
  refine State.but_mono hu ?_
  unfold State.follow
  first
  | (simp; done)
  | ((try dsimp only); (repeat' split) <;> first
    | (simp; done)
    | (simp [*]; done)
    | (have e := State.but_fst 5 ‹_ = (_, _)›; simp at e; simp [e]; done)
    | (have e := State.but_snd 5 ‹_ = (_, _)›; simp at e; simp [e]; done))

@[simp] theorem State.timeIn_but {u : Nat} (hu : u &&& 65541 = 65541) (s : State) (n : Nat) (w : Sys2Proof.TimeWord) (rx : Nat) :
    (State.timeIn s n w rx).but u = s.but u := by
  refine State.but_mono hu ?_
  unfold State.timeIn
  first
  | (simp; done)
  | ((try dsimp only); (repeat' split) <;> first
    | (simp; done)
    | (simp [*]; done)
    | (have e := State.but_fst 65541 ‹_ = (_, _)›; simp at e; simp [e]; done)
    | (have e := State.but_snd 65541 ‹_ = (_, _)›; simp at e; simp [e]; done))

@[simp] theorem State.timeOut_but {u : Nat} (hu : u &&& 2164326401 = 2164326401) (s : State) (n : Nat) :
    (State.timeOut s n).but u = s.but u := by
  refine State.but_mono hu ?_
  unfold State.timeOut
  first
  | (simp; done)
  | ((try dsimp only); (repeat' split) <;> first
    | (simp; done)
    | (simp [*]; done)
    | (have e := State.but_fst 2164326401 ‹_ = (_, _)›; simp at e; simp [e]; done)
    | (have e := State.but_snd 2164326401 ‹_ = (_, _)›; simp at e; simp [e]; done))

theorem execLinkEnable_but {u : Nat} (hu : u &&& 3238068225 = 3238068225) (m : Sys2Proof.Master) (link : Nat) (en : Bool) (s : State) {z : State} (h : execLinkEnable m link en s = .next z) :
    z.but u = s.but u := by
  refine State.but_mono hu ?_
  revert h
  unfold execLinkEnable
  (try dsimp only)
  intro h
  obtain rfl := Host.Outcome.next.inj h
  clear h
  first
  | (simp; done)
  | ((repeat' split) <;> first
    | (simp; done)
    | (simp [*]; done)
    | (have e := State.but_fst 3238068225 ‹_ = (_, _)›; simp at e; simp [e]; done)
    | (have e := State.but_snd 3238068225 ‹_ = (_, _)›; simp at e; simp [e]; done))

@[simp] theorem State.linkRestart_but {u : Nat} (hu : u &&& 65537 = 65537) (s : State) (n : Nat) :
    (State.linkRestart s n).but u = s.but u := by
  refine State.but_mono hu ?_
  unfold State.linkRestart
  first
  | (simp; done)
  | ((try dsimp only); (repeat' split) <;> first
    | (simp; done)
    | (simp [*]; done)
    | (have e := State.but_fst 65537 ‹_ = (_, _)›; simp at e; simp [e]; done)
    | (have e := State.but_snd 65537 ‹_ = (_, _)›; simp at e; simp [e]; done))

theorem execLinkRestart_but {u : Nat} (hu : u &&& 3238068225 = 3238068225) (m : Sys2Proof.Master) (link : Nat) (s : State) {z : State} (h : execLinkRestart m link s = .next z) :
    z.but u = s.but u := by
  refine State.but_mono hu ?_
  revert h
  unfold execLinkRestart
  (try dsimp only)
  intro h
  obtain rfl := Host.Outcome.next.inj h
  clear h
  first
  | (simp; done)
  | ((repeat' split) <;> first
    | (simp; done)
    | (simp [*]; done)
    | (have e := State.but_fst 3238068225 ‹_ = (_, _)›; simp at e; simp [e]; done)
    | (have e := State.but_snd 3238068225 ‹_ = (_, _)›; simp at e; simp [e]; done))

theorem execLinkAligned_but {u : Nat} (hu : u &&& 65537 = 65537) (link : Nat) (s : State) {z : State} (h : execLinkAligned link s = .next z) :
    z.but u = s.but u := by
  refine State.but_mono hu ?_
  revert h
  unfold execLinkAligned
  (try dsimp only)
  intro h
  obtain rfl := Host.Outcome.next.inj h
  clear h
  first
  | (simp; done)
  | ((repeat' split) <;> first
    | (simp; done)
    | (simp [*]; done)
    | (have e := State.but_fst 65537 ‹_ = (_, _)›; simp at e; simp [e]; done)
    | (have e := State.but_snd 65537 ‹_ = (_, _)›; simp at e; simp [e]; done))

theorem execLinkTrainTimeout_but {u : Nat} (hu : u &&& 2164260865 = 2164260865) (link : Nat) (s : State) {z : State} (h : execLinkTrainTimeout link s = .next z) :
    z.but u = s.but u := by
  refine State.but_mono hu ?_
  revert h
  unfold execLinkTrainTimeout
  (try dsimp only)
  intro h
  obtain rfl := Host.Outcome.next.inj h
  clear h
  first
  | (simp; done)
  | ((repeat' split) <;> first
    | (simp; done)
    | (simp [*]; done)
    | (have e := State.but_fst 2164260865 ‹_ = (_, _)›; simp at e; simp [e]; done)
    | (have e := State.but_snd 2164260865 ‹_ = (_, _)›; simp at e; simp [e]; done))

@[simp] theorem State.alignLoss_but {u : Nat} (hu : u &&& 2164326401 = 2164326401) (s : State) (n : Nat) :
    (State.alignLoss s n).but u = s.but u := by
  refine State.but_mono hu ?_
  unfold State.alignLoss
  first
  | (simp; done)
  | ((try dsimp only); (repeat' split) <;> first
    | (simp; done)
    | (simp [*]; done)
    | (have e := State.but_fst 2164326401 ‹_ = (_, _)›; simp at e; simp [e]; done)
    | (have e := State.but_snd 2164326401 ‹_ = (_, _)›; simp at e; simp [e]; done))

theorem execLinkAlignLoss_but {u : Nat} (hu : u &&& 2164326401 = 2164326401) (link : Nat) (s : State) {z : State} (h : execLinkAlignLoss link s = .next z) :
    z.but u = s.but u := by
  refine State.but_mono hu ?_
  revert h
  unfold execLinkAlignLoss
  (try dsimp only)
  intro h
  obtain rfl := Host.Outcome.next.inj h
  clear h
  first
  | (simp; done)
  | ((repeat' split) <;> first
    | (simp; done)
    | (simp [*]; done)
    | (have e := State.but_fst 2164326401 ‹_ = (_, _)›; simp at e; simp [e]; done)
    | (have e := State.but_snd 2164326401 ‹_ = (_, _)›; simp at e; simp [e]; done))

theorem execHelloSend_but {u : Nat} (hu : u &&& 2164260865 = 2164260865) (link : Nat) (s : State) {z : State} (h : execHelloSend link s = .next z) :
    z.but u = s.but u := by
  refine State.but_mono hu ?_
  revert h
  unfold execHelloSend
  (try dsimp only)
  intro h
  obtain rfl := Host.Outcome.next.inj h
  clear h
  first
  | (simp; done)
  | ((repeat' split) <;> first
    | (simp; done)
    | (simp [*]; done)
    | (have e := State.but_fst 2164260865 ‹_ = (_, _)›; simp at e; simp [e]; done)
    | (have e := State.but_snd 2164260865 ‹_ = (_, _)›; simp at e; simp [e]; done))

theorem execHelloReceived_but {u : Nat} (hu : u &&& 2164326401 = 2164326401) (link : Nat) (h : Sys2Proof.Hello) (s : State) {z : State} (h : execHelloReceived link h s = .next z) :
    z.but u = s.but u := by
  refine State.but_mono hu ?_
  revert h
  unfold execHelloReceived
  (try dsimp only)
  intro h
  obtain rfl := Host.Outcome.next.inj h
  clear h
  first
  | (simp; done)
  | ((repeat' split) <;> first
    | (simp; done)
    | (simp [*]; done)
    | (have e := State.but_fst 2164326401 ‹_ = (_, _)›; simp at e; simp [e]; done)
    | (have e := State.but_snd 2164326401 ‹_ = (_, _)›; simp at e; simp [e]; done))

theorem execHelloTimeout_but {u : Nat} (hu : u &&& 2164326401 = 2164326401) (link : Nat) (s : State) {z : State} (h : execHelloTimeout link s = .next z) :
    z.but u = s.but u := by
  refine State.but_mono hu ?_
  revert h
  unfold execHelloTimeout
  (try dsimp only)
  intro h
  obtain rfl := Host.Outcome.next.inj h
  clear h
  first
  | (simp; done)
  | ((repeat' split) <;> first
    | (simp; done)
    | (simp [*]; done)
    | (have e := State.but_fst 2164326401 ‹_ = (_, _)›; simp at e; simp [e]; done)
    | (have e := State.but_snd 2164326401 ‹_ = (_, _)›; simp at e; simp [e]; done))

theorem execFabIdWrite_but {u : Nat} (hu : u &&& 3238068225 = 3238068225) (m : Sys2Proof.Master) (v : Sys2Proof.Word) (s : State) {z : State} (h : execFabIdWrite m v s = .next z) :
    z.but u = s.but u := by
  refine State.but_mono hu ?_
  revert h
  unfold execFabIdWrite
  (try dsimp only)
  intro h
  obtain rfl := Host.Outcome.next.inj h
  clear h
  first
  | (simp; done)
  | ((repeat' split) <;> first
    | (simp; done)
    | (simp [*]; done)
    | (have e := State.but_fst 3238068225 ‹_ = (_, _)›; simp at e; simp [e]; done)
    | (have e := State.but_snd 3238068225 ‹_ = (_, _)›; simp at e; simp [e]; done))

theorem execCreditSend_but {u : Nat} (hu : u &&& 2164326401 = 2164326401) (link : Nat) (s : State) {z : State} (h : execCreditSend link s = .next z) :
    z.but u = s.but u := by
  refine State.but_mono hu ?_
  revert h
  unfold execCreditSend
  (try dsimp only)
  intro h
  obtain rfl := Host.Outcome.next.inj h
  clear h
  first
  | (simp; done)
  | ((repeat' split) <;> first
    | (simp; done)
    | (simp [*]; done)
    | (have e := State.but_fst 2164326401 ‹_ = (_, _)›; simp at e; simp [e]; done)
    | (have e := State.but_snd 2164326401 ‹_ = (_, _)›; simp at e; simp [e]; done))

@[simp] theorem State.creditIn_but {u : Nat} (hu : u &&& 65536 = 65536) (s : State) (n : Nat) (freed : List Nat) :
    (State.creditIn s n freed).but u = s.but u := by
  refine State.but_mono hu ?_
  unfold State.creditIn
  first
  | (simp; done)
  | ((try dsimp only); (repeat' split) <;> first
    | (simp; done)
    | (simp [*]; done)
    | (have e := State.but_fst 65536 ‹_ = (_, _)›; simp at e; simp [e]; done)
    | (have e := State.but_snd 65536 ‹_ = (_, _)›; simp at e; simp [e]; done))

theorem execCreditReceived_but {u : Nat} (hu : u &&& 65536 = 65536) (link : Nat) (freed : List Nat) (s : State) {z : State} (h : execCreditReceived link freed s = .next z) :
    z.but u = s.but u := by
  refine State.but_mono hu ?_
  revert h
  unfold execCreditReceived
  (try dsimp only)
  intro h
  obtain rfl := Host.Outcome.next.inj h
  clear h
  first
  | (simp; done)
  | ((repeat' split) <;> first
    | (simp; done)
    | (simp [*]; done)
    | (have e := State.but_fst 65536 ‹_ = (_, _)›; simp at e; simp [e]; done)
    | (have e := State.but_snd 65536 ‹_ = (_, _)›; simp at e; simp [e]; done))

theorem execTimeWordReceived_but {u : Nat} (hu : u &&& 65541 = 65541) (link : Nat) (w : Sys2Proof.TimeWord) (rxTime : Nat) (s : State) {z : State} (h : execTimeWordReceived link w rxTime s = .next z) :
    z.but u = s.but u := by
  refine State.but_mono hu ?_
  revert h
  unfold execTimeWordReceived
  (try dsimp only)
  intro h
  obtain rfl := Host.Outcome.next.inj h
  clear h
  first
  | (simp; done)
  | ((repeat' split) <;> first
    | (simp; done)
    | (simp [*]; done)
    | (have e := State.but_fst 65541 ‹_ = (_, _)›; simp at e; simp [e]; done)
    | (have e := State.but_snd 65541 ‹_ = (_, _)›; simp at e; simp [e]; done))

theorem execTimeCellSend_but {u : Nat} (hu : u &&& 2164326401 = 2164326401) (s : State) {z : State} (h : execTimeCellSend s = .next z) :
    z.but u = s.but u := by
  refine State.but_mono hu ?_
  revert h
  unfold execTimeCellSend
  (try dsimp only)
  intro h
  obtain rfl := Host.Outcome.next.inj h
  clear h
  first
  | (simp; done)
  | ((repeat' split) <;> first
    | (simp; done)
    | (simp [*]; done)
    | (have e := State.but_fst 2164326401 ‹_ = (_, _)›; simp at e; simp [e]; done)
    | (have e := State.but_snd 2164326401 ‹_ = (_, _)›; simp at e; simp [e]; done))

theorem execD2dTrain_but {u : Nat} (hu : u &&& 1 = 1) (ok : Bool) (spares : Sys2Proof.Word) (s : State) {z : State} (h : execD2dTrain ok spares s = .next z) :
    z.but u = s.but u := by
  refine State.but_mono hu ?_
  revert h
  unfold execD2dTrain
  (try dsimp only)
  intro h
  obtain rfl := Host.Outcome.next.inj h
  clear h
  first
  | (simp; done)
  | ((repeat' split) <;> first
    | (simp; done)
    | (simp [*]; done)
    | (have e := State.but_fst 1 ‹_ = (_, _)›; simp at e; simp [e]; done)
    | (have e := State.but_snd 1 ‹_ = (_, _)›; simp at e; simp [e]; done))

theorem execD2dReplay_but {u : Nat} (hu : u &&& 2164260865 = 2164260865) (s : State) {z : State} (h : execD2dReplay s = .next z) :
    z.but u = s.but u := by
  refine State.but_mono hu ?_
  revert h
  unfold execD2dReplay
  (try dsimp only)
  intro h
  obtain rfl := Host.Outcome.next.inj h
  clear h
  first
  | (simp; done)
  | ((repeat' split) <;> first
    | (simp; done)
    | (simp [*]; done)
    | (have e := State.but_fst 2164260865 ‹_ = (_, _)›; simp at e; simp [e]; done)
    | (have e := State.but_snd 2164260865 ‹_ = (_, _)›; simp at e; simp [e]; done))

theorem execD2dChannelFail_but {u : Nat} (hu : u &&& 2701131777 = 2701131777) (ch : Nat) (s : State) {z : State} (h : execD2dChannelFail ch s = .next z) :
    z.but u = s.but u := by
  refine State.but_mono hu ?_
  revert h
  unfold execD2dChannelFail
  (try dsimp only)
  intro h
  obtain rfl := Host.Outcome.next.inj h
  clear h
  first
  | (simp; done)
  | ((repeat' split) <;> first
    | (simp; done)
    | (simp [*]; done)
    | (have e := State.but_fst 2701131777 ‹_ = (_, _)›; simp at e; simp [e]; done)
    | (have e := State.but_snd 2701131777 ‹_ = (_, _)›; simp at e; simp [e]; done))

theorem execWarmClearDone_but {u : Nat} (hu : u &&& 2410674943 = 2410674943) (s : State) {z : State} (h : execWarmClearDone s = .next z) :
    z.but u = s.but u := by
  refine State.but_mono hu ?_
  revert h
  unfold execWarmClearDone
  (try dsimp only)
  intro h
  obtain rfl := Host.Outcome.next.inj h
  clear h
  first
  | (simp; done)
  | ((repeat' split) <;> first
    | (simp; done)
    | (simp [*]; done)
    | (have e := State.but_fst 2410674943 ‹_ = (_, _)›; simp at e; simp [e]; done)
    | (have e := State.but_snd 2410674943 ‹_ = (_, _)›; simp at e; simp [e]; done))

theorem execBlockResetDone_but {u : Nat} (hu : u &&& 134283265 = 134283265) (page : Nat) (s : State) {z : State} (h : execBlockResetDone page s = .next z) :
    z.but u = s.but u := by
  refine State.but_mono hu ?_
  revert h
  unfold execBlockResetDone
  (try dsimp only)
  intro h
  obtain rfl := Host.Outcome.next.inj h
  clear h
  first
  | (simp; done)
  | ((repeat' split) <;> first
    | (simp; done)
    | (simp [*]; done)
    | (have e := State.but_fst 134283265 ‹_ = (_, _)›; simp at e; simp [e]; done)
    | (have e := State.but_snd 134283265 ‹_ = (_, _)›; simp at e; simp [e]; done))

theorem execSeatedAsserted_but {u : Nat} (hu : u &&& 8978435 = 8978435) (s : State) {z : State} (h : execSeatedAsserted s = .next z) :
    z.but u = s.but u := by
  refine State.but_mono hu ?_
  revert h
  unfold execSeatedAsserted
  (try dsimp only)
  intro h
  obtain rfl := Host.Outcome.next.inj h
  clear h
  first
  | (simp; done)
  | ((repeat' split) <;> first
    | (simp; done)
    | (simp [*]; done)
    | (have e := State.but_fst 8978435 ‹_ = (_, _)›; simp at e; simp [e]; done)
    | (have e := State.but_snd 8978435 ‹_ = (_, _)›; simp at e; simp [e]; done))

theorem execSeatedQualified_but {u : Nat} (hu : u &&& 65539 = 65539) (s : State) {z : State} (h : execSeatedQualified s = .next z) :
    z.but u = s.but u := by
  refine State.but_mono hu ?_
  revert h
  unfold execSeatedQualified
  (try dsimp only)
  intro h
  obtain rfl := Host.Outcome.next.inj h
  clear h
  first
  | (simp; done)
  | ((repeat' split) <;> first
    | (simp; done)
    | (simp [*]; done)
    | (have e := State.but_fst 65539 ‹_ = (_, _)›; simp at e; simp [e]; done)
    | (have e := State.but_snd 65539 ‹_ = (_, _)›; simp at e; simp [e]; done))

@[simp] theorem State.fabRefLost_but {u : Nat} (hu : u &&& 2164326401 = 2164326401) (s : State) (d : Nat) :
    (State.fabRefLost s d).but u = s.but u := by
  refine State.but_mono hu ?_
  unfold State.fabRefLost
  first
  | (simp; done)
  | ((try dsimp only); (repeat' split) <;> first
    | (simp; done)
    | (simp [*]; done)
    | (have e := State.but_fst 2164326401 ‹_ = (_, _)›; simp at e; simp [e]; done)
    | (have e := State.but_snd 2164326401 ‹_ = (_, _)›; simp at e; simp [e]; done))

theorem execSdrefOkChange_but {u : Nat} (hu : u &&& 2164326403 = 2164326403) (k : Nat) (ok : Bool) (s : State) {z : State} (h : execSdrefOkChange k ok s = .next z) :
    z.but u = s.but u := by
  refine State.but_mono hu ?_
  revert h
  unfold execSdrefOkChange
  (try dsimp only)
  intro h
  obtain rfl := Host.Outcome.next.inj h
  clear h
  first
  | (simp; done)
  | ((repeat' split) <;> first
    | (simp; done)
    | (simp [*]; done)
    | (have e := State.but_fst 2164326403 ‹_ = (_, _)›; simp at e; simp [e]; done)
    | (have e := State.but_snd 2164326403 ‹_ = (_, _)›; simp at e; simp [e]; done))

/-! ## Fabric -/

@[simp] theorem State.routeDrop_but {u : Nat} (hu : u &&& 2164260865 = 2164260865) (s : State) (kind : Nat) (k : Nat) (dest : Nat) :
    (State.routeDrop s kind k dest).but u = s.but u := by
  refine State.but_mono hu ?_
  unfold State.routeDrop
  first
  | (simp; done)
  | ((try dsimp only); (repeat' split) <;> first
    | (simp; done)
    | (simp [*]; done)
    | (have e := State.but_fst 2164260865 ‹_ = (_, _)›; simp at e; simp [e]; done)
    | (have e := State.but_snd 2164260865 ‹_ = (_, _)›; simp at e; simp [e]; done))

@[simp] theorem State.route'_but {u : Nat} (hu : u &&& 3238002689 = 3238002689) (s : State) (bad : List Sys2Proof.BadCell) (own : Bool) (b : Sys2Proof.Bytes) :
    (State.route' s bad own b).1.but u = s.but u := by
  refine State.but_mono hu ?_
  unfold State.route'
  first
  | (simp; done)
  | ((try dsimp only); (repeat' split) <;> first
    | (simp; done)
    | (simp [*]; done)
    | (have e := State.but_fst 3238002689 ‹_ = (_, _)›; simp at e; simp [e]; done)
    | (have e := State.but_snd 3238002689 ‹_ = (_, _)›; simp at e; simp [e]; done))

@[simp] theorem State.originate_but {u : Nat} (hu : u &&& 3238068225 = 3238068225) (s : State) (bad : List Sys2Proof.BadCell) (b : Sys2Proof.Bytes) :
    (State.originate s bad b).but u = s.but u := by
  refine State.but_mono hu ?_
  unfold State.originate
  first
  | (simp; done)
  | ((try dsimp only); (repeat' split) <;> first
    | (simp; done)
    | (simp [*]; done)
    | (have e := State.but_fst 3238068225 ‹_ = (_, _)›; simp at e; simp [e]; done)
    | (have e := State.but_snd 3238068225 ‹_ = (_, _)›; simp at e; simp [e]; done))

@[simp] theorem State.sendControl_but {u : Nat} (hu : u &&& 3238068225 = 3238068225) (s : State) (subtype : Nat) (dest : Nat) (payload : Sys2Proof.Bytes) :
    (State.sendControl s subtype dest payload).but u = s.but u := by
  refine State.but_mono hu ?_
  unfold State.sendControl
  first
  | (simp; done)
  | ((try dsimp only); (repeat' split) <;> first
    | (simp; done)
    | (simp [*]; done)
    | (have e := State.but_fst 3238068225 ‹_ = (_, _)›; simp at e; simp [e]; done)
    | (have e := State.but_snd 3238068225 ‹_ = (_, _)›; simp at e; simp [e]; done))

@[simp] theorem State.arrivalPacket_but {u : Nat} (hu : u &&& 1073741952 = 1073741952) (s : State) (src : Nat) (pin : Nat) (group : Option Nat) (m : Sys2Proof.Bytes) (data : Sys2Proof.Bytes) (tail : Bool) (bad : Bool) :
    (State.arrivalPacket s src pin group m data tail bad).1.but u = s.but u := by
  refine State.but_mono hu ?_
  unfold State.arrivalPacket
  first
  | (simp; done)
  | ((try dsimp only); (repeat' split) <;> first
    | (simp; done)
    | (simp [*]; done)
    | (have e := State.but_fst 1073741952 ‹_ = (_, _)›; simp at e; simp [e]; done)
    | (have e := State.but_snd 1073741952 ‹_ = (_, _)›; simp at e; simp [e]; done))

@[simp] theorem State.poisonCount_but {u : Nat} (hu : u &&& 2164260865 = 2164260865) (s : State) :
    (State.poisonCount s).but u = s.but u := by
  refine State.but_mono hu ?_
  unfold State.poisonCount
  first
  | (simp; done)
  | ((try dsimp only); (repeat' split) <;> first
    | (simp; done)
    | (simp [*]; done)
    | (have e := State.but_fst 2164260865 ‹_ = (_, _)›; simp at e; simp [e]; done)
    | (have e := State.but_snd 2164260865 ‹_ = (_, _)›; simp at e; simp [e]; done))

@[simp] theorem State.arrivalLegs_but {u : Nat} (hu : u &&& 3238002689 = 3238002689) (s : State) (p : Sys2Proof.Machine.Packet) (tree : Option Sys2Proof.Machine.Tree) :
    (State.arrivalLegs s p tree).1.but u = s.but u := by
  refine State.but_mono hu ?_
  unfold State.arrivalLegs
  first
  | (simp; done)
  | ((try dsimp only); (repeat' split) <;> first
    | (simp; done)
    | (simp [*]; done)
    | (have e := State.but_fst 3238002689 ‹_ = (_, _)›; simp at e; simp [e]; done)
    | (have e := State.but_snd 3238002689 ‹_ = (_, _)›; simp at e; simp [e]; done))

@[simp] theorem State.admitArrival_but {u : Nat} (hu : u &&& 3238140033 = 3238140033) (s : State) (p : Packet) (charge : Nat) (tree : Option Tree) :
    (State.admitArrival s p charge tree).1.but u = s.but u := by
  refine State.but_mono hu ?_
  unfold State.admitArrival
  dsimp only
  split
  · simp
  · split
    · simp
    · generalize ((s.buf.focc.get 0 p.d.cls : Int) + (if tree.isSome = true then s.outSum p.d.cls * 256 else (0 : Int)) +
        ((chargeUnits charge * 256 : Nat) : Int)) = sum
      split
      · simp
      · split
        · have e := State.but_fst 3238140033 ‹_ = (_, _)›
          simpa using e
        · have e := State.but_fst 3238140033 ‹_ = (_, _)›
          simp at e
          split
          · have g := State.but_fst 3238140033 ‹_ = (_, _)›
            simp at g
            simp [e, g]
          · have g := State.but_fst 3238140033 ‹_ = (_, _)›
            simp at g
            (repeat' split) <;> simp [e, g]

@[simp] theorem State.recordCharge_but {u : Nat} (hu : u &&& 65536 = 65536) (s : State) (k : Nat) (units : Nat) :
    (State.recordCharge s k units).but u = s.but u := by
  refine State.but_mono hu ?_
  unfold State.recordCharge
  first
  | (simp; done)
  | ((try dsimp only); (repeat' split) <;> first
    | (simp; done)
    | (simp [*]; done)
    | (have e := State.but_fst 65536 ‹_ = (_, _)›; simp at e; simp [e]; done)
    | (have e := State.but_snd 65536 ‹_ = (_, _)›; simp at e; simp [e]; done))

@[simp] theorem State.arriveWhole_but {u : Nat} (hu : u &&& 3238205569 = 3238205569) (s : State) (src : Nat) (cls : Nat) (pin : Nat) (bad : Bool) (m : Sys2Proof.Bytes) (data : Sys2Proof.Bytes) :
    (State.arriveWhole s src cls pin bad m data).but u = s.but u := by
  refine State.but_mono hu ?_
  unfold State.arriveWhole
  first
  | (simp; done)
  | ((try dsimp only); (repeat' split) <;> first
    | (simp; done)
    | (simp [*]; done)
    | (have e := State.but_fst 3238205569 ‹_ = (_, _)›; simp at e; simp [e]; done)
    | (have e := State.but_snd 3238205569 ‹_ = (_, _)›; simp at e; simp [e]; done))

@[simp] theorem State.ctHead_but {u : Nat} (hu : u &&& 3238205569 = 3238205569) (s : State) (src : Nat) (cls : Nat) (pin : Nat) (m : Sys2Proof.Bytes) (data : Sys2Proof.Bytes) :
    (State.ctHead s src cls pin m data).1.but u = s.but u := by
  refine State.but_mono hu ?_
  unfold State.ctHead
  first
  | (simp; done)
  | ((try dsimp only); (repeat' split) <;> first
    | (simp; done)
    | (simp [*]; done)
    | (have e := State.but_fst 3238205569 ‹_ = (_, _)›; simp at e; simp [e]; done)
    | (have e := State.but_snd 3238205569 ‹_ = (_, _)›; simp at e; simp [e]; done))

@[simp] theorem State.ctTail_but {u : Nat} (hu : u &&& 3238149253 = 3238149253) (s : State) (bid : Nat) (data : Sys2Proof.Bytes) (e : Sys2Proof.Machine.CtEnd) :
    (State.ctTail s bid data e).but u = s.but u := by
  refine State.but_mono hu ?_
  unfold State.ctTail
  first
  | (simp; done)
  | ((try dsimp only); (repeat' split) <;> first
    | (simp; done)
    | (simp [*]; done)
    | (have e := State.but_fst 3238149253 ‹_ = (_, _)›; simp at e; simp [e]; done)
    | (have e := State.but_snd 3238149253 ‹_ = (_, _)›; simp at e; simp [e]; done))

@[simp] theorem State.setCtx_but {u : Nat} (hu : u &&& 65536 = 65536) (s : State) (k : Nat) (r : Sys2Proof.Machine.Reasm) :
    (State.setCtx s k r).but u = s.but u := by
  refine State.but_mono hu ?_
  unfold State.setCtx
  first
  | (simp; done)
  | ((try dsimp only); (repeat' split) <;> first
    | (simp; done)
    | (simp [*]; done)
    | (have e := State.but_fst 65536 ‹_ = (_, _)›; simp at e; simp [e]; done)
    | (have e := State.but_snd 65536 ‹_ = (_, _)›; simp at e; simp [e]; done))

@[simp] theorem State.reasmDrop_but {u : Nat} (hu : u &&& 2164260865 = 2164260865) (s : State) :
    (State.reasmDrop s).but u = s.but u := by
  refine State.but_mono hu ?_
  unfold State.reasmDrop
  first
  | (simp; done)
  | ((try dsimp only); (repeat' split) <;> first
    | (simp; done)
    | (simp [*]; done)
    | (have e := State.but_fst 2164260865 ‹_ = (_, _)›; simp at e; simp [e]; done)
    | (have e := State.but_snd 2164260865 ‹_ = (_, _)›; simp at e; simp [e]; done))

@[simp] theorem State.ctCell_but {u : Nat} (hu : u &&& 3238149253 = 3238149253) (s : State) (b : Sys2Proof.Bytes) (r : Sys2Proof.Machine.Reasm) (bid : Option Nat) :
    (State.ctCell s b r bid).1.but u = s.but u := by
  refine State.but_mono hu ?_
  unfold State.ctCell
  first
  | (simp; done)
  | ((try dsimp only); (repeat' split) <;> first
    | (simp; done)
    | (simp [*]; done)
    | (have e := State.but_fst 3238149253 ‹_ = (_, _)›; simp at e; simp [e]; done)
    | (have e := State.but_snd 3238149253 ‹_ = (_, _)›; simp at e; simp [e]; done))

@[simp] theorem State.ctStart_but {u : Nat} (hu : u &&& 3238214789 = 3238214789) (s : State) (src : Nat) (cls : Nat) (b : Sys2Proof.Bytes) (r : Sys2Proof.Machine.Reasm) :
    (State.ctStart s src cls b r).1.but u = s.but u := by
  refine State.but_mono hu ?_
  unfold State.ctStart
  first
  | (simp; done)
  | ((try dsimp only); (repeat' split) <;> first
    | (simp; done)
    | (simp [*]; done)
    | (have e := State.but_fst 3238214789 ‹_ = (_, _)›; simp at e; simp [e]; done)
    | (have e := State.but_snd 3238214789 ‹_ = (_, _)›; simp at e; simp [e]; done))

@[simp] theorem State.consume_but {u : Nat} (hu : u &&& 3238214789 = 3238214789) (s : State) (src : Nat) (cls : Nat) (b : Sys2Proof.Bytes) (r : Sys2Proof.Machine.Reasm) :
    (State.consume s src cls b r).1.but u = s.but u := by
  refine State.but_mono hu ?_
  unfold State.consume
  first
  | (simp; done)
  | ((try dsimp only); (repeat' split) <;> first
    | (simp; done)
    | (simp [*]; done)
    | (have e := State.but_fst 3238214789 ‹_ = (_, _)›; simp at e; simp [e]; done)
    | (have e := State.but_snd 3238214789 ‹_ = (_, _)›; simp at e; simp [e]; done))

@[simp] theorem State.runHeld_but {u : Nat} (hu : u &&& 3238214789 = 3238214789) (fuel : Nat) (s : State) (src cls : Nat) (r : Reasm) :
    (State.runHeld fuel s src cls r).1.but u = s.but u := by
  refine State.but_mono hu ?_
  induction fuel generalizing s r with
  | zero => rfl
  | succ k ih =>
    unfold State.runHeld
    split
    · rfl
    · rw [ih]; simp

@[simp] theorem State.loseGap_but {u : Nat} (hu : u &&& 3238214789 = 3238214789) (s : State) (src : Nat) (cls : Nat) (r : Sys2Proof.Machine.Reasm) :
    (State.loseGap s src cls r).1.but u = s.but u := by
  refine State.but_mono hu ?_
  unfold State.loseGap
  first
  | (simp; done)
  | ((try dsimp only); (repeat' split) <;> first
    | (simp; done)
    | (simp [*]; done)
    | (have e := State.but_fst 3238214789 ‹_ = (_, _)›; simp at e; simp [e]; done)
    | (have e := State.but_snd 3238214789 ‹_ = (_, _)›; simp at e; simp [e]; done))

@[simp] theorem State.unicastIn_but {u : Nat} (hu : u &&& 3238214789 = 3238214789) (s : State) (b : Sys2Proof.Bytes) :
    (State.unicastIn s b).but u = s.but u := by
  refine State.but_mono hu ?_
  unfold State.unicastIn
  first
  | (simp; done)
  | ((try dsimp only); (repeat' split) <;> first
    | (simp; done)
    | (simp [*]; done)
    | (have e := State.but_fst 3238214789 ‹_ = (_, _)›; simp at e; simp [e]; done)
    | (have e := State.but_snd 3238214789 ‹_ = (_, _)›; simp at e; simp [e]; done))

theorem execReorderTimeout_but {u : Nat} (hu : u &&& 3238214789 = 3238214789) (src : Nat) (cls : Nat) (s : State) {z : State} (h : execReorderTimeout src cls s = .next z) :
    z.but u = s.but u := by
  refine State.but_mono hu ?_
  revert h
  unfold execReorderTimeout
  (try dsimp only)
  intro h
  obtain rfl := Host.Outcome.next.inj h
  clear h
  first
  | (simp; done)
  | ((repeat' split) <;> first
    | (simp; done)
    | (simp [*]; done)
    | (have e := State.but_fst 3238214789 ‹_ = (_, _)›; simp at e; simp [e]; done)
    | (have e := State.but_snd 3238214789 ‹_ = (_, _)›; simp at e; simp [e]; done))

@[simp] theorem State.multicastLocal_but {u : Nat} (hu : u &&& 3238205569 = 3238205569) (s : State) (n : Nat) (b : Sys2Proof.Bytes) (t : Sys2Proof.Machine.Tree) :
    (State.multicastLocal s n b t).but u = s.but u := by
  refine State.but_mono hu ?_
  unfold State.multicastLocal
  first
  | (simp; done)
  | ((try dsimp only); (repeat' split) <;> first
    | (simp; done)
    | (simp [*]; done)
    | (have e := State.but_fst 3238205569 ‹_ = (_, _)›; simp at e; simp [e]; done)
    | (have e := State.but_snd 3238205569 ‹_ = (_, _)›; simp at e; simp [e]; done))

@[simp] theorem State.relayPut_but {u : Nat} (hu : u &&& 65536 = 65536) (s : State) (n : Nat) (b : Sys2Proof.Bytes) (outs : List Nat) :
    (State.relayPut s n b outs).but u = s.but u := by
  refine State.but_mono hu ?_
  unfold State.relayPut
  first
  | (simp; done)
  | ((try dsimp only); (repeat' split) <;> first
    | (simp; done)
    | (simp [*]; done)
    | (have e := State.but_fst 65536 ‹_ = (_, _)›; simp at e; simp [e]; done)
    | (have e := State.but_snd 65536 ‹_ = (_, _)›; simp at e; simp [e]; done))

@[simp] theorem State.multicastIn_but {u : Nat} (hu : u &&& 3238205569 = 3238205569) (s : State) (bad : List Sys2Proof.BadCell) (n : Nat) (b : Sys2Proof.Bytes) :
    (State.multicastIn s bad n b).but u = s.but u := by
  refine State.but_mono hu ?_
  unfold State.multicastIn
  first
  | (simp; done)
  | ((try dsimp only); (repeat' split) <;> first
    | (simp; done)
    | (simp [*]; done)
    | (have e := State.but_fst 3238205569 ‹_ = (_, _)›; simp at e; simp [e]; done)
    | (have e := State.but_snd 3238205569 ‹_ = (_, _)›; simp at e; simp [e]; done))

@[simp] theorem State.sendRequest_but {u : Nat} (hu : u &&& 3238068225 = 3238068225) (s : State) (v : Nat) (backlog : Nat) :
    (State.sendRequest s v backlog).but u = s.but u := by
  refine State.but_mono hu ?_
  unfold State.sendRequest
  first
  | (simp; done)
  | ((try dsimp only); (repeat' split) <;> first
    | (simp; done)
    | (simp [*]; done)
    | (have e := State.but_fst 3238068225 ‹_ = (_, _)›; simp at e; simp [e]; done)
    | (have e := State.but_snd 3238068225 ‹_ = (_, _)›; simp at e; simp [e]; done))

@[simp] theorem State.firstRequest_but {u : Nat} (hu : u &&& 3238068225 = 3238068225) (s : State) (v : Nat) :
    (State.firstRequest s v).but u = s.but u := by
  refine State.but_mono hu ?_
  unfold State.firstRequest
  first
  | (simp; done)
  | ((try dsimp only); (repeat' split) <;> first
    | (simp; done)
    | (simp [*]; done)
    | (have e := State.but_fst 3238068225 ‹_ = (_, _)›; simp at e; simp [e]; done)
    | (have e := State.but_snd 3238068225 ‹_ = (_, _)›; simp at e; simp [e]; done))

@[simp] theorem State.sendGrant_but {u : Nat} (hu : u &&& 3238068225 = 3238068225) (s : State) (src : Nat) (c : Nat) :
    (State.sendGrant s src c).but u = s.but u := by
  refine State.but_mono hu ?_
  unfold State.sendGrant
  first
  | (simp; done)
  | ((try dsimp only); (repeat' split) <;> first
    | (simp; done)
    | (simp [*]; done)
    | (have e := State.but_fst 3238068225 ‹_ = (_, _)›; simp at e; simp [e]; done)
    | (have e := State.but_snd 3238068225 ‹_ = (_, _)›; simp at e; simp [e]; done))

@[simp] theorem State.requestIn_but {u : Nat} (hu : u &&& 3238068225 = 3238068225) (s : State) (r : ReqCell) : (State.requestIn s r).but u = s.but u := by
  have h : ∀ (c : Prop) [Decidable c] (t : State), t.but u = s.but u →
      (if c then (t.sendGrant r.src r.cls).trb 0x7B 7 else t).but u = s.but u := by
    intro c _ t ht
    split
    · rw [← ht]
      exact State.but_mono hu (by simp)
    · exact ht
  have g : ∀ (x : FabSt), ({ s with fab := x } : State).but u = s.but u := fun x => State.but_mono hu (by simp)
  exact h _ _ (g _)

@[simp] theorem State.grantIn_but {u : Nat} (hu : u &&& 65536 = 65536) (s : State) (src : Nat) (c : Nat) (g : Nat) :
    (State.grantIn s src c g).but u = s.but u := by
  refine State.but_mono hu ?_
  unfold State.grantIn
  first
  | (simp; done)
  | ((try dsimp only); (repeat' split) <;> first
    | (simp; done)
    | (simp [*]; done)
    | (have e := State.but_fst 65536 ‹_ = (_, _)›; simp at e; simp [e]; done)
    | (have e := State.but_snd 65536 ‹_ = (_, _)›; simp at e; simp [e]; done))

@[simp] theorem State.grantOne_but {u : Nat} (hu : u &&& 3238068225 = 3238068225) (c : Nat) (s : State) (src : Nat) :
    (State.grantOne c s src).but u = s.but u := by
  refine State.but_mono hu ?_
  unfold State.grantOne
  first
  | (simp; done)
  | ((try dsimp only); (repeat' split) <;> first
    | (simp; done)
    | (simp [*]; done)
    | (have e := State.but_fst 3238068225 ‹_ = (_, _)›; simp at e; simp [e]; done)
    | (have e := State.but_snd 3238068225 ‹_ = (_, _)›; simp at e; simp [e]; done))

@[simp] theorem State.grantClass_but {u : Nat} (hu : u &&& 3238068225 = 3238068225) (s : State) (c : Nat) :
    (State.grantClass s c).but u = s.but u := by
  refine State.but_mono hu ?_
  unfold State.grantClass
  first
  | (simp; done)
  | ((try dsimp only); (repeat' split) <;> first
    | (simp; done)
    | (simp [*]; done)
    | (have e := State.but_fst 3238068225 ‹_ = (_, _)›; simp at e; simp [e]; done)
    | (have e := State.but_snd 3238068225 ‹_ = (_, _)›; simp at e; simp [e]; done))

@[simp] theorem State.sendVoqCell_but {u : Nat} (hu : u &&& 3238068225 = 3238068225) (s : State) (bad : List Sys2Proof.BadCell) (v : Nat) (c : Sys2Proof.Machine.VoqCell) (end_ : Bool) (poison : Bool) :
    (State.sendVoqCell s bad v c end_ poison).but u = s.but u := by
  refine State.but_mono hu ?_
  unfold State.sendVoqCell
  first
  | (simp; done)
  | ((try dsimp only); (repeat' split) <;> first
    | (simp; done)
    | (simp [*]; done)
    | (have e := State.but_fst 3238068225 ‹_ = (_, _)›; simp at e; simp [e]; done)
    | (have e := State.but_snd 3238068225 ‹_ = (_, _)›; simp at e; simp [e]; done))

@[simp] theorem State.flushCell_but {u : Nat} (hu : u &&& 3238068225 = 3238068225) (s : State) (bad : List Sys2Proof.BadCell) (v : Nat) :
    (State.flushCell s bad v).but u = s.but u := by
  refine State.but_mono hu ?_
  unfold State.flushCell
  first
  | (simp; done)
  | ((try dsimp only); (repeat' split) <;> first
    | (simp; done)
    | (simp [*]; done)
    | (have e := State.but_fst 3238068225 ‹_ = (_, _)›; simp at e; simp [e]; done)
    | (have e := State.but_snd 3238068225 ‹_ = (_, _)›; simp at e; simp [e]; done))

@[simp] theorem State.stream_but {u : Nat} (hu : u &&& 3238068225 = 3238068225) (fuel : Nat) (s : State) (bad : List BadCell) (v pin : Nat) (head : Bool) (b : Bytes) :
    (State.stream fuel s bad v pin head b).but u = s.but u := by
  refine State.but_mono hu ?_
  induction fuel generalizing s head b with
  | zero => rfl
  | succ k ih =>
    unfold State.stream
    split
    · rfl
    · dsimp only
      rw [ih]
      simp

@[simp] theorem State.chargeVoq_but {u : Nat} (hu : u &&& 65536 = 65536) (s : State) (v : Nat) (units : Nat) :
    (State.chargeVoq s v units).but u = s.but u := by
  refine State.but_mono hu ?_
  unfold State.chargeVoq
  first
  | (simp; done)
  | ((try dsimp only); (repeat' split) <;> first
    | (simp; done)
    | (simp [*]; done)
    | (have e := State.but_fst 65536 ‹_ = (_, _)›; simp at e; simp [e]; done)
    | (have e := State.but_snd 65536 ‹_ = (_, _)›; simp at e; simp [e]; done))

@[simp] theorem State.markSeq_but {u : Nat} (hu : u &&& 65536 = 65536) (s : State) (v : Nat) :
    (State.markSeq s v).but u = s.but u := by
  refine State.but_mono hu ?_
  unfold State.markSeq
  first
  | (simp; done)
  | ((try dsimp only); (repeat' split) <;> first
    | (simp; done)
    | (simp [*]; done)
    | (have e := State.but_fst 65536 ‹_ = (_, _)›; simp at e; simp [e]; done)
    | (have e := State.but_snd 65536 ‹_ = (_, _)›; simp at e; simp [e]; done))

@[simp] theorem State.poisonCell_but {u : Nat} (hu : u &&& 3238068225 = 3238068225) (s : State) (bad : List Sys2Proof.BadCell) (v : Nat) (pin : Nat) (end_ : Bool) (plen : Nat) :
    (State.poisonCell s bad v pin end_ plen).but u = s.but u := by
  refine State.but_mono hu ?_
  unfold State.poisonCell
  first
  | (simp; done)
  | ((try dsimp only); (repeat' split) <;> first
    | (simp; done)
    | (simp [*]; done)
    | (have e := State.but_fst 3238068225 ‹_ = (_, _)›; simp at e; simp [e]; done)
    | (have e := State.but_snd 3238068225 ‹_ = (_, _)›; simp at e; simp [e]; done))

@[simp] theorem State.endCell_but {u : Nat} (hu : u &&& 3238068225 = 3238068225) (s : State) (bad : List Sys2Proof.BadCell) (v : Nat) (pin : Nat) (plen : Nat) :
    (State.endCell s bad v pin plen).but u = s.but u := by
  refine State.but_mono hu ?_
  unfold State.endCell
  first
  | (simp; done)
  | ((try dsimp only); (repeat' split) <;> first
    | (simp; done)
    | (simp [*]; done)
    | (have e := State.but_fst 3238068225 ‹_ = (_, _)›; simp at e; simp [e]; done)
    | (have e := State.but_snd 3238068225 ‹_ = (_, _)›; simp at e; simp [e]; done))

@[simp] theorem State.sendWhole_but {u : Nat} (hu : u &&& 3238201473 = 3238201473) (s : State) (bad : List Sys2Proof.BadCell) (v : Nat) (e : Sys2Proof.Machine.QEnt) (b : Sys2Proof.Machine.Buffer) :
    (State.sendWhole s bad v e b).but u = s.but u := by
  refine State.but_mono hu ?_
  unfold State.sendWhole
  first
  | (simp; done)
  | ((try dsimp only); (repeat' split) <;> first
    | (simp; done)
    | (simp [*]; done)
    | (have e := State.but_fst 3238201473 ‹_ = (_, _)›; simp at e; simp [e]; done)
    | (have e := State.but_snd 3238201473 ‹_ = (_, _)›; simp at e; simp [e]; done))

@[simp] theorem State.sendCutHead_but {u : Nat} (hu : u &&& 3238072321 = 3238072321) (s : State) (bad : List Sys2Proof.BadCell) (v : Nat) (e : Sys2Proof.Machine.QEnt) (t : List Sys2Proof.Machine.QEnt) (b : Sys2Proof.Machine.Buffer) :
    (State.sendCutHead s bad v e t b).but u = s.but u := by
  refine State.but_mono hu ?_
  unfold State.sendCutHead
  first
  | (simp; done)
  | ((try dsimp only); (repeat' split) <;> first
    | (simp; done)
    | (simp [*]; done)
    | (have e := State.but_fst 3238072321 ‹_ = (_, _)›; simp at e; simp [e]; done)
    | (have e := State.but_snd 3238072321 ‹_ = (_, _)›; simp at e; simp [e]; done))

@[simp] theorem State.sendCutTail_but {u : Nat} (hu : u &&& 3238205569 = 3238205569) (s : State) (bad : List Sys2Proof.BadCell) (v : Nat) (e : Sys2Proof.Machine.QEnt) (n : Nat) (b : Sys2Proof.Machine.Buffer) :
    (State.sendCutTail s bad v e n b).but u = s.but u := by
  refine State.but_mono hu ?_
  unfold State.sendCutTail
  first
  | (simp; done)
  | ((try dsimp only); (repeat' split) <;> first
    | (simp; done)
    | (simp [*]; done)
    | (have e := State.but_fst 3238205569 ‹_ = (_, _)›; simp at e; simp [e]; done)
    | (have e := State.but_snd 3238205569 ‹_ = (_, _)›; simp at e; simp [e]; done))

@[simp] theorem State.finishVoq_but {u : Nat} (hu : u &&& 3238205569 = 3238205569) (s : State) (bid : Nat) :
    (State.finishVoq s bid).but u = s.but u := by
  refine State.but_mono hu ?_
  unfold State.finishVoq
  first
  | (simp; done)
  | ((try dsimp only); (repeat' split) <;> first
    | (simp; done)
    | (simp [*]; done)
    | (have e := State.but_fst 3238205569 ‹_ = (_, _)›; simp at e; simp [e]; done)
    | (have e := State.but_snd 3238205569 ‹_ = (_, _)›; simp at e; simp [e]; done))

@[simp] theorem State.voqServe_but {u : Nat} (hu : u &&& 3238205569 = 3238205569) (s : State) (bad : List Sys2Proof.BadCell) (v : Nat) :
    (State.voqServe s bad v).but u = s.but u := by
  refine State.but_mono hu ?_
  unfold State.voqServe
  first
  | (simp; done)
  | ((try dsimp only); (repeat' split) <;> first
    | (simp; done)
    | (simp [*]; done)
    | (have e := State.but_fst 3238205569 ‹_ = (_, _)›; simp at e; simp [e]; done)
    | (have e := State.but_snd 3238205569 ‹_ = (_, _)›; simp at e; simp [e]; done))

@[simp] theorem State.mcastCell_but {u : Nat} (hu : u &&& 2164326401 = 2164326401) (s : State) (links : List Nat) (b : Sys2Proof.Bytes) :
    (State.mcastCell s links b).but u = s.but u := by
  refine State.but_mono hu ?_
  unfold State.mcastCell
  first
  | (simp; done)
  | ((try dsimp only); (repeat' split) <;> first
    | (simp; done)
    | (simp [*]; done)
    | (have e := State.but_fst 2164326401 ‹_ = (_, _)›; simp at e; simp [e]; done)
    | (have e := State.but_snd 2164326401 ‹_ = (_, _)›; simp at e; simp [e]; done))

@[simp] theorem State.fmcSend_but {u : Nat} (hu : u &&& 3238068225 = 3238068225) (s : State) (bad : List Sys2Proof.BadCell) (c : Nat) (e : Sys2Proof.Machine.QEnt) (b : Sys2Proof.Machine.Buffer) :
    (State.fmcSend s bad c e b).but u = s.but u := by
  refine State.but_mono hu ?_
  unfold State.fmcSend
  first
  | (simp; done)
  | ((try dsimp only); (repeat' split) <;> first
    | (simp; done)
    | (simp [*]; done)
    | (have e := State.but_fst 3238068225 ‹_ = (_, _)›; simp at e; simp [e]; done)
    | (have e := State.but_snd 3238068225 ‹_ = (_, _)›; simp at e; simp [e]; done))

@[simp] theorem State.fmcServe_but {u : Nat} (hu : u &&& 3238205569 = 3238205569) (s : State) (bad : List Sys2Proof.BadCell) (c : Nat) :
    (State.fmcServe s bad c).but u = s.but u := by
  refine State.but_mono hu ?_
  unfold State.fmcServe
  first
  | (simp; done)
  | ((try dsimp only); (repeat' split) <;> first
    | (simp; done)
    | (simp [*]; done)
    | (have e := State.but_fst 3238205569 ‹_ = (_, _)›; simp at e; simp [e]; done)
    | (have e := State.but_snd 3238205569 ‹_ = (_, _)›; simp at e; simp [e]; done))

@[simp] theorem State.relayed_but {u : Nat} (hu : u &&& 65536 = 65536) (s : State) (n : Nat) (out : Nat) (b : Sys2Proof.Bytes) :
    (State.relayed s n out b).but u = s.but u := by
  refine State.but_mono hu ?_
  unfold State.relayed
  first
  | (simp; done)
  | ((try dsimp only); (repeat' split) <;> first
    | (simp; done)
    | (simp [*]; done)
    | (have e := State.but_fst 65536 ‹_ = (_, _)›; simp at e; simp [e]; done)
    | (have e := State.but_snd 65536 ‹_ = (_, _)›; simp at e; simp [e]; done))

@[simp] theorem State.relayOne_but {u : Nat} (hu : u &&& 2164326401 = 2164326401) (s : State) (out : Nat) :
    (State.relayOne s out).but u = s.but u := by
  refine State.but_mono hu ?_
  unfold State.relayOne
  first
  | (simp; done)
  | ((try dsimp only); (repeat' split) <;> first
    | (simp; done)
    | (simp [*]; done)
    | (have e := State.but_fst 2164326401 ‹_ = (_, _)›; simp at e; simp [e]; done)
    | (have e := State.but_snd 2164326401 ‹_ = (_, _)›; simp at e; simp [e]; done))

@[simp] theorem State.transit_but {u : Nat} (hu : u &&& 3238068225 = 3238068225) (s : State) (bad : List Sys2Proof.BadCell) (n : Nat) (b : Sys2Proof.Bytes) :
    (State.transit s bad n b).but u = s.but u := by
  refine State.but_mono hu ?_
  unfold State.transit
  first
  | (simp; done)
  | ((try dsimp only); (repeat' split) <;> first
    | (simp; done)
    | (simp [*]; done)
    | (have e := State.but_fst 3238068225 ‹_ = (_, _)›; simp at e; simp [e]; done)
    | (have e := State.but_snd 3238068225 ‹_ = (_, _)›; simp at e; simp [e]; done))

@[simp] theorem State.controlIn_but {u : Nat} (hu : u &&& 3238068225 = 3238068225) (s : State) (mgmt : State → Nat → Bytes → State) (n : Nat) (b : Bytes)
    (h : ∀ t n b, (mgmt t n b).but u = t.but u) : (State.controlIn s mgmt n b).but u = s.but u := by
  unfold State.controlIn
  dsimp only
  (repeat' split) <;> first | exact h _ _ _ | exact State.but_mono hu (by simp)

@[simp] theorem State.fabricIn_but {u : Nat} (hu : u &&& 3238214789 = 3238214789) (s : State) (bad : List BadCell) (mgmt : State → Nat → Bytes → State) (n : Nat)
    (b : Bytes) (h : ∀ t n b, (mgmt t n b).but u = t.but u) : (State.fabricIn s bad mgmt n b).but u = s.but u := by
  have l : ∀ (t : State) x, (t.setLink n x).but u = t.but u := fun t x => State.but_mono hu (by simp)
  have f : ∀ (t : State) v, (t.freeSlot n v).but u = t.but u := fun t v => State.but_mono hu (by simp)
  have d : ∀ (t : State), (t.stat 0x71 Reg.FRT_DELIVER 0 1).but u = t.but u := fun t => State.but_mono hu (by simp)
  have un : ∀ (t : State), (t.unicastIn b).but u = t.but u := fun t => State.but_mono hu (by simp)
  have c : ∀ (t : State), (t.controlIn mgmt n b).but u = t.but u :=
    fun t => State.controlIn_but (State.mask_sub hu (by simp)) t mgmt n b h
  have m1 : ∀ (t : State), (t.multicastIn bad n b).but u = t.but u := fun t => State.but_mono hu (by simp)
  have m2 : ∀ (t : State), (t.transit bad n b).but u = t.but u := fun t => State.but_mono hu (by simp)
  unfold State.fabricIn
  dsimp only
  (repeat' split) <;> simp only [f, m1, m2, h, l, c, d, un]

@[simp] theorem State.linkControlIn_but {u : Nat} (hu : u &&& 2164326405 = 2164326405) (s : State) (cairn : State → Nat → CairnCell → State) (n : Nat) (b : Bytes)
    (h : ∀ t n b, (cairn t n b).but u = t.but u) : (State.linkControlIn s cairn n b).but u = s.but u := by
  unfold State.linkControlIn
  dsimp only
  (repeat' split) <;> first | exact h _ _ _ | exact State.but_mono hu (by simp)

@[simp] theorem State.cellIn_but {u : Nat} (hu : u &&& 3238214789 = 3238214789) (s : State) (bad : List BadCell) (mgmt : State → Nat → Bytes → State)
    (cairn : State → Nat → CairnCell → State) (n : Nat) (b : Bytes) (h : ∀ t n b, (mgmt t n b).but u = t.but u)
    (g : ∀ t n b, (cairn t n b).but u = t.but u) : (State.cellIn s bad mgmt cairn n b).but u = s.but u := by
  have d : ∀ (t : State) k, (t.stat (linkPage n) Reg.FLK_CELLS_RX k 1).but u = t.but u := fun t k => State.but_mono hu (by simp)
  have d2 : ∀ (t : State) k, (t.trb (linkPage n) k).but u = t.but u := fun t k => State.but_mono hu (by simp)
  unfold State.cellIn
  dsimp only
  (repeat' split) <;> first
    | rfl
    | exact d2 _ _
    | exact (State.linkControlIn_but (State.mask_sub hu (by simp)) _ cairn n b g).trans (d _ _)
    | exact (State.fabricIn_but (State.mask_sub hu (by simp)) _ bad mgmt n b h).trans (d _ _)
    | exact (h _ _ _).trans (d _ _)
    | exact d _ _

theorem execCellRelay_but {u : Nat} (hu : u &&& 2164326401 = 2164326401) (link : Nat) (s : State) {z : State} (h : execCellRelay link s = .next z) :
    z.but u = s.but u := by
  refine State.but_mono hu ?_
  revert h
  unfold execCellRelay
  (try dsimp only)
  intro h
  obtain rfl := Host.Outcome.next.inj h
  clear h
  first
  | (simp; done)
  | ((repeat' split) <;> first
    | (simp; done)
    | (simp [*]; done)
    | (have e := State.but_fst 2164326401 ‹_ = (_, _)›; simp at e; simp [e]; done)
    | (have e := State.but_snd 2164326401 ‹_ = (_, _)›; simp at e; simp [e]; done))

theorem execVoqDequeue_but {u : Nat} (hu : u &&& 3238205569 = 3238205569) (voq : Nat) (bad : List Sys2Proof.BadCell) (s : State) {z : State} (h : execVoqDequeue voq bad s = .next z) :
    z.but u = s.but u := by
  refine State.but_mono hu ?_
  revert h
  unfold execVoqDequeue
  (try dsimp only)
  intro h
  obtain rfl := Host.Outcome.next.inj h
  clear h
  first
  | (simp; done)
  | ((repeat' split) <;> first
    | (simp; done)
    | (simp [*]; done)
    | (have e := State.but_fst 3238205569 ‹_ = (_, _)›; simp at e; simp [e]; done)
    | (have e := State.but_snd 3238205569 ‹_ = (_, _)›; simp at e; simp [e]; done))

theorem execFmcQueueSend_but {u : Nat} (hu : u &&& 3238205569 = 3238205569) (cls : Nat) (bad : List Sys2Proof.BadCell) (s : State) {z : State} (h : execFmcQueueSend cls bad s = .next z) :
    z.but u = s.but u := by
  refine State.but_mono hu ?_
  revert h
  unfold execFmcQueueSend
  (try dsimp only)
  intro h
  obtain rfl := Host.Outcome.next.inj h
  clear h
  first
  | (simp; done)
  | ((repeat' split) <;> first
    | (simp; done)
    | (simp [*]; done)
    | (have e := State.but_fst 3238205569 ‹_ = (_, _)›; simp at e; simp [e]; done)
    | (have e := State.but_snd 3238205569 ‹_ = (_, _)›; simp at e; simp [e]; done))

theorem execRequestRetry_but {u : Nat} (hu : u &&& 3238068225 = 3238068225) (voq : Nat) (s : State) {z : State} (h : execRequestRetry voq s = .next z) :
    z.but u = s.but u := by
  refine State.but_mono hu ?_
  revert h
  unfold execRequestRetry
  (try dsimp only)
  intro h
  obtain rfl := Host.Outcome.next.inj h
  clear h
  first
  | (simp; done)
  | ((repeat' split) <;> first
    | (simp; done)
    | (simp [*]; done)
    | (have e := State.but_fst 3238068225 ‹_ = (_, _)›; simp at e; simp [e]; done)
    | (have e := State.but_snd 3238068225 ‹_ = (_, _)›; simp at e; simp [e]; done))

theorem execCreditReturn_but {u : Nat} (hu : u &&& 3238068225 = 3238068225) (voq : Nat) (s : State) {z : State} (h : execCreditReturn voq s = .next z) :
    z.but u = s.but u := by
  refine State.but_mono hu ?_
  revert h
  unfold execCreditReturn
  (try dsimp only)
  intro h
  obtain rfl := Host.Outcome.next.inj h
  clear h
  first
  | (simp; done)
  | ((repeat' split) <;> first
    | (simp; done)
    | (simp [*]; done)
    | (have e := State.but_fst 3238068225 ‹_ = (_, _)›; simp at e; simp [e]; done)
    | (have e := State.but_snd 3238068225 ‹_ = (_, _)›; simp at e; simp [e]; done))

@[simp] theorem State.voqEpoch_but {u : Nat} (hu : u &&& 65536 = 65536) (s : State) :
    (State.voqEpoch s).but u = s.but u := by
  refine State.but_mono hu ?_
  unfold State.voqEpoch
  first
  | (simp; done)
  | ((try dsimp only); (repeat' split) <;> first
    | (simp; done)
    | (simp [*]; done)
    | (have e := State.but_fst 65536 ‹_ = (_, _)›; simp at e; simp [e]; done)
    | (have e := State.but_snd 65536 ‹_ = (_, _)›; simp at e; simp [e]; done))

theorem execRequestReceived_but {u : Nat} (hu : u &&& 3238068225 = 3238068225) (r : Sys2Proof.ReqCell) (s : State) {z : State} (h : execRequestReceived r s = .next z) :
    z.but u = s.but u := by
  refine State.but_mono hu ?_
  revert h
  unfold execRequestReceived
  (try dsimp only)
  intro h
  obtain rfl := Host.Outcome.next.inj h
  clear h
  first
  | (simp; done)
  | ((repeat' split) <;> first
    | (simp; done)
    | (simp [*]; done)
    | (have e := State.but_fst 3238068225 ‹_ = (_, _)›; simp at e; simp [e]; done)
    | (have e := State.but_snd 3238068225 ‹_ = (_, _)›; simp at e; simp [e]; done))

theorem execGrantEngine_but {u : Nat} (hu : u &&& 3238068225 = 3238068225) (s : State) {z : State} (h : execGrantEngine s = .next z) :
    z.but u = s.but u := by
  refine State.but_mono hu ?_
  revert h
  unfold execGrantEngine
  (try dsimp only)
  intro h
  obtain rfl := Host.Outcome.next.inj h
  clear h
  first
  | (simp; done)
  | ((repeat' split) <;> first
    | (simp; done)
    | (simp [*]; done)
    | (have e := State.but_fst 3238068225 ‹_ = (_, _)›; simp at e; simp [e]; done)
    | (have e := State.but_snd 3238068225 ‹_ = (_, _)›; simp at e; simp [e]; done))

theorem execGrantReceived_but {u : Nat} (hu : u &&& 65536 = 65536) (src : Nat) (cls : Nat) (g : Nat) (s : State) {z : State} (h : execGrantReceived src cls g s = .next z) :
    z.but u = s.but u := by
  refine State.but_mono hu ?_
  revert h
  unfold execGrantReceived
  (try dsimp only)
  intro h
  obtain rfl := Host.Outcome.next.inj h
  clear h
  first
  | (simp; done)
  | ((repeat' split) <;> first
    | (simp; done)
    | (simp [*]; done)
    | (have e := State.but_fst 65536 ‹_ = (_, _)›; simp at e; simp [e]; done)
    | (have e := State.but_snd 65536 ‹_ = (_, _)›; simp at e; simp [e]; done))

theorem execFrameTailArrived_but {u : Nat} (hu : u &&& 3238214789 = 3238214789) (pkt : Nat) (rest : Sys2Proof.Bytes) (s : State) {z : State} (h : execFrameTailArrived pkt rest s = .next z) :
    z.but u = s.but u := by
  refine State.but_mono hu ?_
  revert h
  unfold execFrameTailArrived
  (try dsimp only)
  intro h
  obtain rfl := Host.Outcome.next.inj h
  clear h
  first
  | (simp; done)
  | ((repeat' split) <;> first
    | (simp; done)
    | (simp [*]; done)
    | (have e := State.but_fst 3238214789 ‹_ = (_, _)›; simp at e; simp [e]; done)
    | (have e := State.but_snd 3238214789 ‹_ = (_, _)›; simp at e; simp [e]; done))

/-! ## Hbm -/

@[simp] theorem State.setStack_but {u : Nat} (hu : u &&& 131072 = 131072) (s : State) (n : Nat) (x : Sys2Proof.Machine.StackSt) :
    (State.setStack s n x).but u = s.but u := by
  refine State.but_mono hu ?_
  unfold State.setStack
  first
  | (simp; done)
  | ((try dsimp only); (repeat' split) <;> first
    | (simp; done)
    | (simp [*]; done)
    | (have e := State.but_fst 131072 ‹_ = (_, _)›; simp at e; simp [e]; done)
    | (have e := State.but_snd 131072 ‹_ = (_, _)›; simp at e; simp [e]; done))

@[simp] theorem State.setStackState_but {u : Nat} (hu : u &&& 1 = 1) (s : State) (n : Nat) (v : Nat) :
    (State.setStackState s n v).but u = s.but u := by
  refine State.but_mono hu ?_
  unfold State.setStackState
  first
  | (simp; done)
  | ((try dsimp only); (repeat' split) <;> first
    | (simp; done)
    | (simp [*]; done)
    | (have e := State.but_fst 1 ‹_ = (_, _)›; simp at e; simp [e]; done)
    | (have e := State.but_snd 1 ‹_ = (_, _)›; simp at e; simp [e]; done))

@[simp] theorem State.openWindow_but {u : Nat} (hu : u &&& 131072 = 131072) (s : State) (n : Nat) :
    (State.openWindow s n).but u = s.but u := by
  refine State.but_mono hu ?_
  unfold State.openWindow
  first
  | (simp; done)
  | ((try dsimp only); (repeat' split) <;> first
    | (simp; done)
    | (simp [*]; done)
    | (have e := State.but_fst 131072 ‹_ = (_, _)›; simp at e; simp [e]; done)
    | (have e := State.but_snd 131072 ‹_ = (_, _)›; simp at e; simp [e]; done))

@[simp] theorem State.openWindows_but {u : Nat} (hu : u &&& 131072 = 131072) (s : State) :
    (State.openWindows s).but u = s.but u := by
  refine State.but_mono hu ?_
  unfold State.openWindows
  first
  | (simp; done)
  | ((try dsimp only); (repeat' split) <;> first
    | (simp; done)
    | (simp [*]; done)
    | (have e := State.but_fst 131072 ‹_ = (_, _)›; simp at e; simp [e]; done)
    | (have e := State.but_snd 131072 ‹_ = (_, _)›; simp at e; simp [e]; done))

@[simp] theorem State.closeWindow_but {u : Nat} (hu : u &&& 2164391937 = 2164391937) (s : State) (n : Nat) :
    (State.closeWindow s n).but u = s.but u := by
  refine State.but_mono hu ?_
  unfold State.closeWindow
  first
  | (simp; done)
  | ((try dsimp only); (repeat' split) <;> first
    | (simp; done)
    | (simp [*]; done)
    | (have e := State.but_fst 2164391937 ‹_ = (_, _)›; simp at e; simp [e]; done)
    | (have e := State.but_snd 2164391937 ‹_ = (_, _)›; simp at e; simp [e]; done))

@[simp] theorem State.readStackTemp_but {u : Nat} (hu : u &&& 2164391937 = 2164391937) (s : State) (n : Nat) (t : Option (BitVec 16)) :
    (State.readStackTemp s n t).but u = s.but u := by
  refine State.but_mono hu ?_
  unfold State.readStackTemp
  first
  | (simp; done)
  | ((try dsimp only); (repeat' split) <;> first
    | (simp; done)
    | (simp [*]; done)
    | (have e := State.but_fst 2164391937 ‹_ = (_, _)›; simp at e; simp [e]; done)
    | (have e := State.but_snd 2164391937 ‹_ = (_, _)›; simp at e; simp [e]; done))

@[simp] theorem State.dlyAdvance_but {u : Nat} (hu : u &&& 1 = 1) (s : State) (pg : Nat) :
    (State.dlyAdvance s pg).but u = s.but u := by
  refine State.but_mono hu ?_
  unfold State.dlyAdvance
  first
  | (simp; done)
  | ((try dsimp only); (repeat' split) <;> first
    | (simp; done)
    | (simp [*]; done)
    | (have e := State.but_fst 1 ‹_ = (_, _)›; simp at e; simp [e]; done)
    | (have e := State.but_snd 1 ‹_ = (_, _)›; simp at e; simp [e]; done))

@[simp] theorem State.dlyRead_but {u : Nat} (hu : u &&& 1 = 1) (s : State) (n : Nat) :
    (State.dlyRead s n).2.but u = s.but u := by
  refine State.but_mono hu ?_
  unfold State.dlyRead
  first
  | (simp; done)
  | ((try dsimp only); (repeat' split) <;> first
    | (simp; done)
    | (simp [*]; done)
    | (have e := State.but_fst 1 ‹_ = (_, _)›; simp at e; simp [e]; done)
    | (have e := State.but_snd 1 ‹_ = (_, _)›; simp at e; simp [e]; done))

@[simp] theorem State.dlyWrite_but {u : Nat} (hu : u &&& 2164391937 = 2164391937) (s : State) (n : Nat) (v : Nat) :
    (State.dlyWrite s n v).but u = s.but u := by
  refine State.but_mono hu ?_
  unfold State.dlyWrite
  first
  | (simp; done)
  | ((try dsimp only); (repeat' split) <;> first
    | (simp; done)
    | (simp [*]; done)
    | (have e := State.but_fst 2164391937 ‹_ = (_, _)›; simp at e; simp [e]; done)
    | (have e := State.but_snd 2164391937 ‹_ = (_, _)›; simp at e; simp [e]; done))

@[simp] theorem State.overdueCheck_but {u : Nat} (hu : u &&& 2164391937 = 2164391937) (s : State) (r : Sys2Proof.Machine.HbmReq) :
    (State.overdueCheck s r).but u = s.but u := by
  refine State.but_mono hu ?_
  unfold State.overdueCheck
  first
  | (simp; done)
  | ((try dsimp only); (repeat' split) <;> first
    | (simp; done)
    | (simp [*]; done)
    | (have e := State.but_fst 2164391937 ‹_ = (_, _)›; simp at e; simp [e]; done)
    | (have e := State.but_snd 2164391937 ‹_ = (_, _)›; simp at e; simp [e]; done))

@[simp] theorem State.issue_but {u : Nat} (hu : u &&& 131072 = 131072) (s : State) (n : Nat) (q : Nat) :
    (State.issue s n q).but u = s.but u := by
  refine State.but_mono hu ?_
  unfold State.issue
  first
  | (simp; done)
  | ((try dsimp only); (repeat' split) <;> first
    | (simp; done)
    | (simp [*]; done)
    | (have e := State.but_fst 131072 ‹_ = (_, _)›; simp at e; simp [e]; done)
    | (have e := State.but_snd 131072 ‹_ = (_, _)›; simp at e; simp [e]; done))

@[simp] theorem State.complete_but {u : Nat} (hu : u &&& 2164391937 = 2164391937) (s : State) (r : Sys2Proof.Machine.HbmReq) :
    (State.complete s r).but u = s.but u := by
  refine State.but_mono hu ?_
  unfold State.complete
  first
  | (simp; done)
  | ((try dsimp only); (repeat' split) <;> first
    | (simp; done)
    | (simp [*]; done)
    | (have e := State.but_fst 2164391937 ‹_ = (_, _)›; simp at e; simp [e]; done)
    | (have e := State.but_snd 2164391937 ‹_ = (_, _)›; simp at e; simp [e]; done))

@[simp] theorem State.finding_but {u : Nat} (hu : u &&& 2164391937 = 2164391937) (s : State) (a : Nat) (f : Sys2Proof.MemFinding) :
    (State.finding s a f).but u = s.but u := by
  refine State.but_mono hu ?_
  unfold State.finding
  first
  | (simp; done)
  | ((try dsimp only); (repeat' split) <;> first
    | (simp; done)
    | (simp [*]; done)
    | (have e := State.but_fst 2164391937 ‹_ = (_, _)›; simp at e; simp [e]; done)
    | (have e := State.but_snd 2164391937 ‹_ = (_, _)›; simp at e; simp [e]; done))

@[simp] theorem State.stompRead_but {u : Nat} (hu : u &&& 3238144129 = 3238144129) (s : State) (r : Sys2Proof.Machine.HbmReq) :
    (State.stompRead s r).but u = s.but u := by
  refine State.but_mono hu ?_
  unfold State.stompRead
  first
  | (simp; done)
  | ((try dsimp only); (repeat' split) <;> first
    | (simp; done)
    | (simp [*]; done)
    | (have e := State.but_fst 3238144129 ‹_ = (_, _)›; simp at e; simp [e]; done)
    | (have e := State.but_snd 3238144129 ‹_ = (_, _)›; simp at e; simp [e]; done))

theorem execHbmInit_but {u : Nat} (hu : u &&& 3238002689 = 3238002689) (m : Sys2Proof.Master) (stack : Nat) (s : State) {z : State} (h : execHbmInit m stack s = .next z) :
    z.but u = s.but u := by
  refine State.but_mono hu ?_
  revert h
  unfold execHbmInit
  (try dsimp only)
  intro h
  obtain rfl := Host.Outcome.next.inj h
  clear h
  first
  | (simp; done)
  | ((repeat' split) <;> first
    | (simp; done)
    | (simp [*]; done)
    | (have e := State.but_fst 3238002689 ‹_ = (_, _)›; simp at e; simp [e]; done)
    | (have e := State.but_snd 3238002689 ‹_ = (_, _)›; simp at e; simp [e]; done))

theorem execHbmInitDone_but {u : Nat} (hu : u &&& 2164391937 = 2164391937) (stack : Nat) (failPc : Option Nat) (s : State) {z : State} (h : execHbmInitDone stack failPc s = .next z) :
    z.but u = s.but u := by
  refine State.but_mono hu ?_
  revert h
  unfold execHbmInitDone
  (try dsimp only)
  intro h
  obtain rfl := Host.Outcome.next.inj h
  clear h
  first
  | (simp; done)
  | ((repeat' split) <;> first
    | (simp; done)
    | (simp [*]; done)
    | (have e := State.but_fst 2164391937 ‹_ = (_, _)›; simp at e; simp [e]; done)
    | (have e := State.but_snd 2164391937 ‹_ = (_, _)›; simp at e; simp [e]; done))

theorem execHbmDlyDataAccess_but {u : Nat} (hu : u &&& 3238133761 = 3238133761) (m : Sys2Proof.Master) (stack : Nat) (w : Option Sys2Proof.Word) (s : State) {z : State} (h : execHbmDlyDataAccess m stack w s = .next z) :
    z.but u = s.but u := by
  refine State.but_mono hu ?_
  revert h
  unfold execHbmDlyDataAccess
  (try dsimp only)
  intro h
  obtain rfl := Host.Outcome.next.inj h
  clear h
  first
  | (simp; done)
  | ((repeat' split) <;> first
    | (simp; done)
    | (simp [*]; done)
    | (have e := State.but_fst 3238133761 ‹_ = (_, _)›; simp at e; simp [e]; done)
    | (have e := State.but_snd 3238133761 ‹_ = (_, _)›; simp at e; simp [e]; done))

theorem execHbmTempRead_but {u : Nat} (hu : u &&& 2164391937 = 2164391937) (stack : Nat) (t : Option (BitVec 16)) (s : State) {z : State} (h : execHbmTempRead stack t s = .next z) :
    z.but u = s.but u := by
  refine State.but_mono hu ?_
  revert h
  unfold execHbmTempRead
  (try dsimp only)
  intro h
  obtain rfl := Host.Outcome.next.inj h
  clear h
  first
  | (simp; done)
  | ((repeat' split) <;> first
    | (simp; done)
    | (simp [*]; done)
    | (have e := State.but_fst 2164391937 ‹_ = (_, _)›; simp at e; simp [e]; done)
    | (have e := State.but_snd 2164391937 ‹_ = (_, _)›; simp at e; simp [e]; done))

theorem execRefreshWindowOpen_but {u : Nat} (hu : u &&& 131072 = 131072) (s : State) {z : State} (h : execRefreshWindowOpen s = .next z) :
    z.but u = s.but u := by
  refine State.but_mono hu ?_
  revert h
  unfold execRefreshWindowOpen
  (try dsimp only)
  intro h
  obtain rfl := Host.Outcome.next.inj h
  clear h
  first
  | (simp; done)
  | ((repeat' split) <;> first
    | (simp; done)
    | (simp [*]; done)
    | (have e := State.but_fst 131072 ‹_ = (_, _)›; simp at e; simp [e]; done)
    | (have e := State.but_snd 131072 ‹_ = (_, _)›; simp at e; simp [e]; done))

theorem execRefreshWindowClose_but {u : Nat} (hu : u &&& 2164391937 = 2164391937) (stack : Nat) (s : State) {z : State} (h : execRefreshWindowClose stack s = .next z) :
    z.but u = s.but u := by
  refine State.but_mono hu ?_
  revert h
  unfold execRefreshWindowClose
  (try dsimp only)
  intro h
  obtain rfl := Host.Outcome.next.inj h
  clear h
  first
  | (simp; done)
  | ((repeat' split) <;> first
    | (simp; done)
    | (simp [*]; done)
    | (have e := State.but_fst 2164391937 ‹_ = (_, _)›; simp at e; simp [e]; done)
    | (have e := State.but_snd 2164391937 ‹_ = (_, _)›; simp at e; simp [e]; done))

theorem execHbmCommandIssue_but {u : Nat} (hu : u &&& 131072 = 131072) (stack : Nat) (q : Nat) (s : State) {z : State} (h : execHbmCommandIssue stack q s = .next z) :
    z.but u = s.but u := by
  refine State.but_mono hu ?_
  revert h
  unfold execHbmCommandIssue
  (try dsimp only)
  intro h
  obtain rfl := Host.Outcome.next.inj h
  clear h
  first
  | (simp; done)
  | ((repeat' split) <;> first
    | (simp; done)
    | (simp [*]; done)
    | (have e := State.but_fst 131072 ‹_ = (_, _)›; simp at e; simp [e]; done)
    | (have e := State.but_snd 131072 ‹_ = (_, _)›; simp at e; simp [e]; done))

theorem execHbmReadComplete_but {u : Nat} (hu : u &&& 3238144129 = 3238144129) (req : Nat) (f : Sys2Proof.MemFinding) (s : State) {z : State} (h : execHbmReadComplete req f s = .next z) :
    z.but u = s.but u := by
  refine State.but_mono hu ?_
  revert h
  unfold execHbmReadComplete
  (try dsimp only)
  intro h
  obtain rfl := Host.Outcome.next.inj h
  clear h
  first
  | (simp; done)
  | ((repeat' split) <;> first
    | (simp; done)
    | (simp [*]; done)
    | (have e := State.but_fst 3238144129 ‹_ = (_, _)›; simp at e; simp [e]; done)
    | (have e := State.but_snd 3238144129 ‹_ = (_, _)›; simp at e; simp [e]; done))

theorem execHbmWriteRetire_but {u : Nat} (hu : u &&& 2164391937 = 2164391937) (req : Nat) (rmwUncorrectable : Bool) (s : State) {z : State} (h : execHbmWriteRetire req rmwUncorrectable s = .next z) :
    z.but u = s.but u := by
  refine State.but_mono hu ?_
  revert h
  unfold execHbmWriteRetire
  (try dsimp only)
  intro h
  obtain rfl := Host.Outcome.next.inj h
  clear h
  first
  | (simp; done)
  | ((repeat' split) <;> first
    | (simp; done)
    | (simp [*]; done)
    | (have e := State.but_fst 2164391937 ‹_ = (_, _)›; simp at e; simp [e]; done)
    | (have e := State.but_snd 2164391937 ‹_ = (_, _)›; simp at e; simp [e]; done))

theorem execRequestOverdue_but {u : Nat} (hu : u &&& 2164391937 = 2164391937) (req : Nat) (s : State) {z : State} (h : execRequestOverdue req s = .next z) :
    z.but u = s.but u := by
  refine State.but_mono hu ?_
  revert h
  unfold execRequestOverdue
  (try dsimp only)
  intro h
  obtain rfl := Host.Outcome.next.inj h
  clear h
  first
  | (simp; done)
  | ((repeat' split) <;> first
    | (simp; done)
    | (simp [*]; done)
    | (have e := State.but_fst 2164391937 ‹_ = (_, _)›; simp at e; simp [e]; done)
    | (have e := State.but_snd 2164391937 ‹_ = (_, _)›; simp at e; simp [e]; done))

theorem execScrubRead_but {u : Nat} (hu : u &&& 2164391937 = 2164391937) (stack : Nat) (word : Nat) (f : Sys2Proof.MemFinding) (s : State) {z : State} (h : execScrubRead stack word f s = .next z) :
    z.but u = s.but u := by
  refine State.but_mono hu ?_
  revert h
  unfold execScrubRead
  (try dsimp only)
  intro h
  obtain rfl := Host.Outcome.next.inj h
  clear h
  first
  | (simp; done)
  | ((repeat' split) <;> first
    | (simp; done)
    | (simp [*]; done)
    | (have e := State.but_fst 2164391937 ‹_ = (_, _)›; simp at e; simp [e]; done)
    | (have e := State.but_snd 2164391937 ‹_ = (_, _)›; simp at e; simp [e]; done))

theorem execDrqLatMaxRead_but {u : Nat} (hu : u &&& 3238133761 = 3238133761) (m : Sys2Proof.Master) (s : State) {z : State} (h : execDrqLatMaxRead m s = .next z) :
    z.but u = s.but u := by
  refine State.but_mono hu ?_
  revert h
  unfold execDrqLatMaxRead
  (try dsimp only)
  intro h
  obtain rfl := Host.Outcome.next.inj h
  clear h
  first
  | (simp; done)
  | ((repeat' split) <;> first
    | (simp; done)
    | (simp [*]; done)
    | (have e := State.but_fst 3238133761 ‹_ = (_, _)›; simp at e; simp [e]; done)
    | (have e := State.but_snd 3238133761 ‹_ = (_, _)›; simp at e; simp [e]; done))

/-! ## Artifacts -/

@[simp] theorem State.stageBank_but {u : Nat} (hu : u &&& 16448 = 16448) (s : State) (b : Sys2Proof.Bytes) (ok : Bool) :
    (State.stageBank s b ok).but u = s.but u := by
  refine State.but_mono hu ?_
  unfold State.stageBank
  first
  | (simp; done)
  | ((try dsimp only); (repeat' split) <;> first
    | (simp; done)
    | (simp [*]; done)
    | (have e := State.but_fst 16448 ‹_ = (_, _)›; simp at e; simp [e]; done)
    | (have e := State.but_snd 16448 ‹_ = (_, _)›; simp at e; simp [e]; done))

@[simp] theorem State.loadArtifact_but {u : Nat} (hu : u &&& 2164277313 = 2164277313) (s : State) (b : Sys2Proof.Bytes) :
    (State.loadArtifact s b).1.but u = s.but u := by
  refine State.but_mono hu ?_
  unfold State.loadArtifact
  first
  | (simp; done)
  | ((try dsimp only); (repeat' split) <;> first
    | (simp; done)
    | (simp [*]; done)
    | (have e := State.but_fst 2164277313 ‹_ = (_, _)›; simp at e; simp [e]; done)
    | (have e := State.but_snd 2164277313 ‹_ = (_, _)›; simp at e; simp [e]; done))

/-! ## Tdm -/

@[simp] theorem State.lineWritten_but {u : Nat} (hu : u &&& 2164260865 = 2164260865) (s : State) :
    (State.lineWritten s).but u = s.but u := by
  refine State.but_mono hu ?_
  unfold State.lineWritten
  first
  | (simp; done)
  | ((try dsimp only); (repeat' split) <;> first
    | (simp; done)
    | (simp [*]; done)
    | (have e := State.but_fst 2164260865 ‹_ = (_, _)›; simp at e; simp [e]; done)
    | (have e := State.but_snd 2164260865 ‹_ = (_, _)›; simp at e; simp [e]; done))

@[simp] theorem State.enginePut_but {u : Nat} (hu : u &&& 2164392193 = 2164392193) (s : State) (p : Sys2Proof.Machine.Place) (e : Nat) :
    (State.enginePut s p e).but u = s.but u := by
  refine State.but_mono hu ?_
  unfold State.enginePut
  first
  | (simp; done)
  | ((try dsimp only); (repeat' split) <;> first
    | (simp; done)
    | (simp [*]; done)
    | (have e := State.but_fst 2164392193 ‹_ = (_, _)›; simp at e; simp [e]; done)
    | (have e := State.but_snd 2164392193 ‹_ = (_, _)›; simp at e; simp [e]; done))

@[simp] theorem State.movePath_but {u : Nat} (hu : u &&& 2164392193 = 2164392193) (s : State) (path : List Place) (dst : Place) (e : Nat) :
    (State.movePath s path dst e).but u = s.but u := by
  refine State.but_mono hu ?_
  induction path generalizing dst e with
  | nil => simp [State.movePath]
  | cons p t ih => unfold State.movePath; simp [ih]

theorem State.placeEntry_but {u : Nat} (hu : u &&& 2164392193 = 2164392193) {s t : State} {bad : List BadCell} {e : Nat} (h : s.placeEntry bad e = some t) :
    t.but u = s.but u := by
  refine State.but_mono hu ?_
  unfold State.placeEntry at h
  dsimp only at h
  split at h
  · rw [← Option.some.inj h]; simp
  · rw [← Option.some.inj h]; simp
  · split at h
    · rw [← Option.some.inj h]; simp
    · cases h

@[simp] theorem State.insertSlot_but {u : Nat} (hu : u &&& 2164392193 = 2164392193) (s : State) (bad : List BadCell) (e : Nat) :
    (State.insertSlot s bad e).1.but u = s.but u := by
  refine State.but_mono hu ?_
  unfold State.insertSlot
  dsimp only
  (repeat' split) <;> first
    | (simp; done)
    | (have e := State.placeEntry_but (u := 2164392193) (by simp) ‹_ = some _›; simp at e; simp [e]; done)

@[simp] theorem State.retryStash_but {u : Nat} (hu : u &&& 2164392193 = 2164392193) (s : State) (bad : List BadCell) : (State.retryStash s bad).but u = s.but u := by
  refine State.but_mono hu ?_
  unfold State.retryStash
  (repeat' split) <;> first
    | (simp; done)
    | (have e := State.placeEntry_but (u := 2164392193) (by simp) ‹_ = some _›; simp [e]; done)

@[simp] theorem State.removeSlot_but {u : Nat} (hu : u &&& 2164392193 = 2164392193) (s : State) (bad : List Sys2Proof.BadCell) (e : Nat) :
    (State.removeSlot s bad e).1.but u = s.but u := by
  refine State.but_mono hu ?_
  unfold State.removeSlot
  first
  | (simp; done)
  | ((try dsimp only); (repeat' split) <;> first
    | (simp; done)
    | (simp [*]; done)
    | (have e := State.but_fst 2164392193 ‹_ = (_, _)›; simp at e; simp [e]; done)
    | (have e := State.but_snd 2164392193 ‹_ = (_, _)›; simp at e; simp [e]; done))

@[simp] theorem State.applyNext_but {u : Nat} (hu : u &&& 33554432 = 33554432) (s : State) :
    (State.applyNext s).but u = s.but u := by
  refine State.but_mono hu ?_
  unfold State.applyNext
  first
  | (simp; done)
  | ((try dsimp only); (repeat' split) <;> first
    | (simp; done)
    | (simp [*]; done)
    | (have e := State.but_fst 33554432 ‹_ = (_, _)›; simp at e; simp [e]; done)
    | (have e := State.but_snd 33554432 ‹_ = (_, _)›; simp at e; simp [e]; done))

@[simp] theorem State.tdmComplete_but {u : Nat} (hu : u &&& 2197815297 = 2197815297) (s : State) (d : Sys2Proof.Machine.Desc) (status : Nat) (art : Nat) (detail : Nat) :
    (State.tdmComplete s d status art detail).but u = s.but u := by
  refine State.but_mono hu ?_
  unfold State.tdmComplete
  first
  | (simp; done)
  | ((try dsimp only); (repeat' split) <;> first
    | (simp; done)
    | (simp [*]; done)
    | (have e := State.but_fst 2197815297 ‹_ = (_, _)›; simp at e; simp [e]; done)
    | (have e := State.but_snd 2197815297 ‹_ = (_, _)›; simp at e; simp [e]; done))

@[simp] theorem State.tdmTake_but {u : Nat} (hu : u &&& 2198077441 = 2198077441) (s : State) (r : Sys2Proof.HostRead) :
    (State.tdmTake s r).but u = s.but u := by
  refine State.but_mono hu ?_
  unfold State.tdmTake
  first
  | (simp; done)
  | ((try dsimp only); (repeat' split) <;> first
    | (simp; done)
    | (simp [*]; done)
    | (have e := State.but_fst 2198077441 ‹_ = (_, _)›; simp at e; simp [e]; done)
    | (have e := State.but_snd 2198077441 ‹_ = (_, _)›; simp at e; simp [e]; done))

@[simp] theorem State.tablePut_but {u : Nat} (hu : u &&& 3238134785 = 3238134785) (s : State) (t : Nat) (i : Nat) (v : Nat) :
    (State.tablePut s t i v).but u = s.but u := by
  refine State.but_mono hu ?_
  unfold State.tablePut
  first
  | (simp; done)
  | ((try dsimp only); (repeat' split) <;> first
    | (simp; done)
    | (simp [*]; done)
    | (have e := State.but_fst 3238134785 ‹_ = (_, _)›; simp at e; simp [e]; done)
    | (have e := State.but_snd 3238134785 ‹_ = (_, _)›; simp at e; simp [e]; done))

@[simp] theorem State.tdmWith_but {u : Nat} (hu : u &&& 2197815297 = 2197815297) (s : State) (op : Nat) (f : State → Desc → State)
    (h : ∀ t d, (f t d).but u = t.but u) : (State.tdmWith s op f).but u = s.but u := by
  unfold State.tdmWith
  (repeat' split) <;> first | rfl | exact h _ _ | exact State.but_mono hu (by simp)

@[simp] theorem State.tdmKeep_but {u : Nat} (hu : u &&& 33554432 = 33554432) (s : State) (d : Sys2Proof.Machine.Desc) :
    (State.tdmKeep s d).but u = s.but u := by
  refine State.but_mono hu ?_
  unfold State.tdmKeep
  first
  | (simp; done)
  | ((try dsimp only); (repeat' split) <;> first
    | (simp; done)
    | (simp [*]; done)
    | (have e := State.but_fst 33554432 ‹_ = (_, _)›; simp at e; simp [e]; done)
    | (have e := State.but_snd 33554432 ‹_ = (_, _)›; simp at e; simp [e]; done))

@[simp] theorem State.tdmMoved_but {u : Nat} (hu : u &&& 2164260865 = 2164260865) (s : State) (n : Nat) :
    (State.tdmMoved s n).but u = s.but u := by
  refine State.but_mono hu ?_
  unfold State.tdmMoved
  first
  | (simp; done)
  | ((try dsimp only); (repeat' split) <;> first
    | (simp; done)
    | (simp [*]; done)
    | (have e := State.but_fst 2164260865 ‹_ = (_, _)›; simp at e; simp [e]; done)
    | (have e := State.but_snd 2164260865 ‹_ = (_, _)›; simp at e; simp [e]; done))

@[simp] theorem State.tdmLoadOp_but {u : Nat} (hu : u &&& 2198093889 = 2198093889) (s : State) (r : Sys2Proof.HostRead) (d : Sys2Proof.Machine.Desc) :
    (State.tdmLoadOp s r d).but u = s.but u := by
  refine State.but_mono hu ?_
  unfold State.tdmLoadOp
  first
  | (simp; done)
  | ((try dsimp only); (repeat' split) <;> first
    | (simp; done)
    | (simp [*]; done)
    | (have e := State.but_fst 2198093889 ‹_ = (_, _)›; simp at e; simp [e]; done)
    | (have e := State.but_snd 2198093889 ‹_ = (_, _)›; simp at e; simp [e]; done))

@[simp] theorem State.tdmWriteOp_but {u : Nat} (hu : u &&& 3271951361 = 3271951361) (s : State) (r : Sys2Proof.HostRead) (d : Sys2Proof.Machine.Desc) :
    (State.tdmWriteOp s r d).but u = s.but u := by
  refine State.but_mono hu ?_
  unfold State.tdmWriteOp
  first
  | (simp; done)
  | ((try dsimp only); (repeat' split) <;> first
    | (simp; done)
    | (simp [*]; done)
    | (have e := State.but_fst 3271951361 ‹_ = (_, _)›; simp at e; simp [e]; done)
    | (have e := State.but_snd 3271951361 ‹_ = (_, _)›; simp at e; simp [e]; done))

@[simp] theorem State.tdmReadOp_but {u : Nat} (hu : u &&& 2197815297 = 2197815297) (s : State) (writeOk : Bool) (d : Sys2Proof.Machine.Desc) :
    (State.tdmReadOp s writeOk d).but u = s.but u := by
  refine State.but_mono hu ?_
  unfold State.tdmReadOp
  first
  | (simp; done)
  | ((try dsimp only); (repeat' split) <;> first
    | (simp; done)
    | (simp [*]; done)
    | (have e := State.but_fst 2197815297 ‹_ = (_, _)›; simp at e; simp [e]; done)
    | (have e := State.but_snd 2197815297 ‹_ = (_, _)›; simp at e; simp [e]; done))

@[simp] theorem State.tdmSlotOp_but {u : Nat} (hu : u &&& 2198208769 = 2198208769) (s : State) (r : Sys2Proof.HostRead) (bad : List Sys2Proof.BadCell) (d : Sys2Proof.Machine.Desc) :
    (State.tdmSlotOp s r bad d).but u = s.but u := by
  refine State.but_mono hu ?_
  unfold State.tdmSlotOp
  first
  | (simp; done)
  | ((try dsimp only); (repeat' split) <;> first
    | (simp; done)
    | (simp [*]; done)
    | (have e := State.but_fst 2198208769 ‹_ = (_, _)›; simp at e; simp [e]; done)
    | (have e := State.but_snd 2198208769 ‹_ = (_, _)›; simp at e; simp [e]; done))

@[simp] theorem State.tdmContain_but {u : Nat} (hu : u &&& 33554432 = 33554432) (s : State) :
    (State.tdmContain s).but u = s.but u := by
  refine State.but_mono hu ?_
  unfold State.tdmContain
  first
  | (simp; done)
  | ((try dsimp only); (repeat' split) <;> first
    | (simp; done)
    | (simp [*]; done)
    | (have e := State.but_fst 33554432 ‹_ = (_, _)›; simp at e; simp [e]; done)
    | (have e := State.but_snd 33554432 ‹_ = (_, _)›; simp at e; simp [e]; done))

@[simp] theorem State.tdmRelease_but {u : Nat} (hu : u &&& 2197815297 = 2197815297) (s : State) :
    (State.tdmRelease s).but u = s.but u := by
  refine State.but_mono hu ?_
  unfold State.tdmRelease
  first
  | (simp; done)
  | ((try dsimp only); (repeat' split) <;> first
    | (simp; done)
    | (simp [*]; done)
    | (have e := State.but_fst 2197815297 ‹_ = (_, _)›; simp at e; simp [e]; done)
    | (have e := State.but_snd 2197815297 ‹_ = (_, _)›; simp at e; simp [e]; done))

@[simp] theorem State.profileApply_but {u : Nat} (hu : u &&& 2197815297 = 2197815297) (s : State) :
    (State.profileApply s).but u = s.but u := by
  refine State.but_mono hu ?_
  unfold State.profileApply
  first
  | (simp; done)
  | ((try dsimp only); (repeat' split) <;> first
    | (simp; done)
    | (simp [*]; done)
    | (have e := State.but_fst 2197815297 ‹_ = (_, _)›; simp at e; simp [e]; done)
    | (have e := State.but_snd 2197815297 ‹_ = (_, _)›; simp at e; simp [e]; done))

@[simp] theorem State.profileDone_but {u : Nat} (hu : u &&& 1107296577 = 1107296577) (s : State) :
    (State.profileDone s).but u = s.but u := by
  refine State.but_mono hu ?_
  unfold State.profileDone
  first
  | (simp; done)
  | ((try dsimp only); (repeat' split) <;> first
    | (simp; done)
    | (simp [*]; done)
    | (have e := State.but_fst 1107296577 ‹_ = (_, _)›; simp at e; simp [e]; done)
    | (have e := State.but_snd 1107296577 ‹_ = (_, _)›; simp at e; simp [e]; done))

theorem execTdmDescriptorTakeup_but {u : Nat} (hu : u &&& 2198077441 = 2198077441) (r : Sys2Proof.HostRead) (s : State) {z : State} (h : execTdmDescriptorTakeup r s = .next z) :
    z.but u = s.but u := by
  refine State.but_mono hu ?_
  revert h
  unfold execTdmDescriptorTakeup
  (try dsimp only)
  intro h
  obtain rfl := Host.Outcome.next.inj h
  clear h
  first
  | (simp; done)
  | ((repeat' split) <;> first
    | (simp; done)
    | (simp [*]; done)
    | (have e := State.but_fst 2198077441 ‹_ = (_, _)›; simp at e; simp [e]; done)
    | (have e := State.but_snd 2198077441 ‹_ = (_, _)›; simp at e; simp [e]; done))

theorem execTdmDescriptorReadRetry_but {u : Nat} (hu : u &&& 2198077441 = 2198077441) (r : Sys2Proof.HostRead) (s : State) {z : State} (h : execTdmDescriptorReadRetry r s = .next z) :
    z.but u = s.but u := by
  refine State.but_mono hu ?_
  revert h
  unfold execTdmDescriptorReadRetry
  (try dsimp only)
  intro h
  obtain rfl := Host.Outcome.next.inj h
  clear h
  first
  | (simp; done)
  | ((repeat' split) <;> first
    | (simp; done)
    | (simp [*]; done)
    | (have e := State.but_fst 2198077441 ‹_ = (_, _)›; simp at e; simp [e]; done)
    | (have e := State.but_snd 2198077441 ‹_ = (_, _)›; simp at e; simp [e]; done))

theorem execTdmLoad_but {u : Nat} (hu : u &&& 2198093889 = 2198093889) (r : Sys2Proof.HostRead) (s : State) {z : State} (h : execTdmLoad r s = .next z) :
    z.but u = s.but u := by
  refine State.but_mono hu ?_
  revert h
  unfold execTdmLoad
  (try dsimp only)
  intro h
  obtain rfl := Host.Outcome.next.inj h
  clear h
  first
  | (simp; done)
  | ((repeat' split) <;> first
    | (simp; done)
    | (simp [*]; done)
    | (have e := State.but_fst 2198093889 ‹_ = (_, _)›; simp at e; simp [e]; done)
    | (have e := State.but_snd 2198093889 ‹_ = (_, _)›; simp at e; simp [e]; done))

theorem execTdmWrite_but {u : Nat} (hu : u &&& 3271951361 = 3271951361) (r : Sys2Proof.HostRead) (s : State) {z : State} (h : execTdmWrite r s = .next z) :
    z.but u = s.but u := by
  refine State.but_mono hu ?_
  revert h
  unfold execTdmWrite
  (try dsimp only)
  intro h
  obtain rfl := Host.Outcome.next.inj h
  clear h
  first
  | (simp; done)
  | ((repeat' split) <;> first
    | (simp; done)
    | (simp [*]; done)
    | (have e := State.but_fst 3271951361 ‹_ = (_, _)›; simp at e; simp [e]; done)
    | (have e := State.but_snd 3271951361 ‹_ = (_, _)›; simp at e; simp [e]; done))

theorem execTdmRead_but {u : Nat} (hu : u &&& 2197815297 = 2197815297) (writeOk : Bool) (s : State) {z : State} (h : execTdmRead writeOk s = .next z) :
    z.but u = s.but u := by
  refine State.but_mono hu ?_
  revert h
  unfold execTdmRead
  (try dsimp only)
  intro h
  obtain rfl := Host.Outcome.next.inj h
  clear h
  first
  | (simp; done)
  | ((repeat' split) <;> first
    | (simp; done)
    | (simp [*]; done)
    | (have e := State.but_fst 2197815297 ‹_ = (_, _)›; simp at e; simp [e]; done)
    | (have e := State.but_snd 2197815297 ‹_ = (_, _)›; simp at e; simp [e]; done))

theorem execTdmInsert_but {u : Nat} (hu : u &&& 2198208769 = 2198208769) (r : Sys2Proof.HostRead) (bad : List Sys2Proof.BadCell) (s : State) {z : State} (h : execTdmInsert r bad s = .next z) :
    z.but u = s.but u := by
  refine State.but_mono hu ?_
  revert h
  unfold execTdmInsert
  (try dsimp only)
  intro h
  obtain rfl := Host.Outcome.next.inj h
  clear h
  first
  | (simp; done)
  | ((repeat' split) <;> first
    | (simp; done)
    | (simp [*]; done)
    | (have e := State.but_fst 2198208769 ‹_ = (_, _)›; simp at e; simp [e]; done)
    | (have e := State.but_snd 2198208769 ‹_ = (_, _)›; simp at e; simp [e]; done))

theorem execTdmRemove_but {u : Nat} (hu : u &&& 2198208769 = 2198208769) (r : Sys2Proof.HostRead) (bad : List Sys2Proof.BadCell) (s : State) {z : State} (h : execTdmRemove r bad s = .next z) :
    z.but u = s.but u := by
  refine State.but_mono hu ?_
  revert h
  unfold execTdmRemove
  (try dsimp only)
  intro h
  obtain rfl := Host.Outcome.next.inj h
  clear h
  first
  | (simp; done)
  | ((repeat' split) <;> first
    | (simp; done)
    | (simp [*]; done)
    | (have e := State.but_fst 2198208769 ‹_ = (_, _)›; simp at e; simp [e]; done)
    | (have e := State.but_snd 2198208769 ‹_ = (_, _)›; simp at e; simp [e]; done))

theorem execTdmBadOp_but {u : Nat} (hu : u &&& 2197815297 = 2197815297) (s : State) {z : State} (h : execTdmBadOp s = .next z) :
    z.but u = s.but u := by
  refine State.but_mono hu ?_
  revert h
  unfold execTdmBadOp
  (try dsimp only)
  intro h
  obtain rfl := Host.Outcome.next.inj h
  clear h
  first
  | (simp; done)
  | ((repeat' split) <;> first
    | (simp; done)
    | (simp [*]; done)
    | (have e := State.but_fst 2197815297 ‹_ = (_, _)›; simp at e; simp [e]; done)
    | (have e := State.but_snd 2197815297 ‹_ = (_, _)›; simp at e; simp [e]; done))

theorem execTdmProfileApply_but {u : Nat} (hu : u &&& 3271557121 = 3271557121) (m : Sys2Proof.Master) (s : State) {z : State} (h : execTdmProfileApply m s = .next z) :
    z.but u = s.but u := by
  refine State.but_mono hu ?_
  revert h
  unfold execTdmProfileApply
  (try dsimp only)
  intro h
  obtain rfl := Host.Outcome.next.inj h
  clear h
  first
  | (simp; done)
  | ((repeat' split) <;> first
    | (simp; done)
    | (simp [*]; done)
    | (have e := State.but_fst 3271557121 ‹_ = (_, _)›; simp at e; simp [e]; done)
    | (have e := State.but_snd 3271557121 ‹_ = (_, _)›; simp at e; simp [e]; done))

theorem execProfileApplyDone_but {u : Nat} (hu : u &&& 1107296577 = 1107296577) (s : State) {z : State} (h : execProfileApplyDone s = .next z) :
    z.but u = s.but u := by
  refine State.but_mono hu ?_
  revert h
  unfold execProfileApplyDone
  (try dsimp only)
  intro h
  obtain rfl := Host.Outcome.next.inj h
  clear h
  first
  | (simp; done)
  | ((repeat' split) <;> first
    | (simp; done)
    | (simp [*]; done)
    | (have e := State.but_fst 1107296577 ‹_ = (_, _)›; simp at e; simp [e]; done)
    | (have e := State.but_snd 1107296577 ‹_ = (_, _)›; simp at e; simp [e]; done))

/-! ## Learn -/

@[simp] theorem State.learnNotice_but {u : Nat} (hu : u &&& 2147483649 = 2147483649) (s : State) (e : Nat) (kind : Nat) :
    (State.learnNotice s e kind).but u = s.but u := by
  refine State.but_mono hu ?_
  unfold State.learnNotice
  first
  | (simp; done)
  | ((try dsimp only); (repeat' split) <;> first
    | (simp; done)
    | (simp [*]; done)
    | (have e := State.but_fst 2147483649 ‹_ = (_, _)›; simp at e; simp [e]; done)
    | (have e := State.but_snd 2147483649 ‹_ = (_, _)›; simp at e; simp [e]; done))

@[simp] theorem State.learnFailure_but {u : Nat} (hu : u &&& 2164260865 = 2164260865) (s : State) (e : Nat) (reason : Nat) :
    (State.learnFailure s e reason).but u = s.but u := by
  refine State.but_mono hu ?_
  unfold State.learnFailure
  first
  | (simp; done)
  | ((try dsimp only); (repeat' split) <;> first
    | (simp; done)
    | (simp [*]; done)
    | (have e := State.but_fst 2164260865 ‹_ = (_, _)›; simp at e; simp [e]; done)
    | (have e := State.but_snd 2164260865 ‹_ = (_, _)›; simp at e; simp [e]; done))

@[simp] theorem State.learnInstall_but {u : Nat} (hu : u &&& 2164392193 = 2164392193) (s : State) (bad : List Sys2Proof.BadCell) (e : Nat) :
    (State.learnInstall s bad e).but u = s.but u := by
  refine State.but_mono hu ?_
  unfold State.learnInstall
  first
  | (simp; done)
  | ((try dsimp only); (repeat' split) <;> first
    | (simp; done)
    | (simp [*]; done)
    | (have e := State.but_fst 2164392193 ‹_ = (_, _)›; simp at e; simp [e]; done)
    | (have e := State.but_snd 2164392193 ‹_ = (_, _)›; simp at e; simp [e]; done))

@[simp] theorem State.learnServe_but {u : Nat} (hu : u &&& 2164392193 = 2164392193) (s : State) (bad : List Sys2Proof.BadCell) (r : Sys2Proof.Machine.LearnReq) :
    (State.learnServe s bad r).but u = s.but u := by
  refine State.but_mono hu ?_
  unfold State.learnServe
  first
  | (simp; done)
  | ((try dsimp only); (repeat' split) <;> first
    | (simp; done)
    | (simp [*]; done)
    | (have e := State.but_fst 2164392193 ‹_ = (_, _)›; simp at e; simp [e]; done)
    | (have e := State.but_snd 2164392193 ‹_ = (_, _)›; simp at e; simp [e]; done))

@[simp] theorem State.learnPost_but {u : Nat} (hu : u &&& 2164261377 = 2164261377) (s : State) (remove : Bool) :
    (State.learnPost s remove).but u = s.but u := by
  refine State.but_mono hu ?_
  unfold State.learnPost
  first
  | (simp; done)
  | ((try dsimp only); (repeat' split) <;> first
    | (simp; done)
    | (simp [*]; done)
    | (have e := State.but_fst 2164261377 ‹_ = (_, _)›; simp at e; simp [e]; done)
    | (have e := State.but_snd 2164261377 ‹_ = (_, _)›; simp at e; simp [e]; done))

@[simp] theorem State.ageOut_but {u : Nat} (hu : u &&& 2164392193 = 2164392193) (s : State) (p : Sys2Proof.Machine.Place) :
    (State.ageOut s p).but u = s.but u := by
  refine State.but_mono hu ?_
  unfold State.ageOut
  first
  | (simp; done)
  | ((try dsimp only); (repeat' split) <;> first
    | (simp; done)
    | (simp [*]; done)
    | (have e := State.but_fst 2164392193 ‹_ = (_, _)›; simp at e; simp [e]; done)
    | (have e := State.but_snd 2164392193 ‹_ = (_, _)›; simp at e; simp [e]; done))

theorem execLearnRequest_but {u : Nat} (hu : u &&& 2164392705 = 2164392705) (bad : List Sys2Proof.BadCell) (s : State) {z : State} (h : execLearnRequest bad s = .next z) :
    z.but u = s.but u := by
  refine State.but_mono hu ?_
  revert h
  unfold execLearnRequest
  (try dsimp only)
  intro h
  obtain rfl := Host.Outcome.next.inj h
  clear h
  first
  | (simp; done)
  | ((repeat' split) <;> first
    | (simp; done)
    | (simp [*]; done)
    | (have e := State.but_fst 2164392705 ‹_ = (_, _)›; simp at e; simp [e]; done)
    | (have e := State.but_snd 2164392705 ‹_ = (_, _)›; simp at e; simp [e]; done))

theorem execLrnPostGo_but {u : Nat} (hu : u &&& 3238003201 = 3238003201) (m : Sys2Proof.Master) (s : State) {z : State} (h : execLrnPostGo m s = .next z) :
    z.but u = s.but u := by
  refine State.but_mono hu ?_
  revert h
  unfold execLrnPostGo
  (try dsimp only)
  intro h
  obtain rfl := Host.Outcome.next.inj h
  clear h
  first
  | (simp; done)
  | ((repeat' split) <;> first
    | (simp; done)
    | (simp [*]; done)
    | (have e := State.but_fst 3238003201 ‹_ = (_, _)›; simp at e; simp [e]; done)
    | (have e := State.but_snd 3238003201 ‹_ = (_, _)›; simp at e; simp [e]; done))

theorem execLrnPostRemove_but {u : Nat} (hu : u &&& 3238003201 = 3238003201) (m : Sys2Proof.Master) (s : State) {z : State} (h : execLrnPostRemove m s = .next z) :
    z.but u = s.but u := by
  refine State.but_mono hu ?_
  revert h
  unfold execLrnPostRemove
  (try dsimp only)
  intro h
  obtain rfl := Host.Outcome.next.inj h
  clear h
  first
  | (simp; done)
  | ((repeat' split) <;> first
    | (simp; done)
    | (simp [*]; done)
    | (have e := State.but_fst 3238003201 ‹_ = (_, _)›; simp at e; simp [e]; done)
    | (have e := State.but_snd 3238003201 ‹_ = (_, _)›; simp at e; simp [e]; done))

theorem execLearnAgeSweep_but {u : Nat} (hu : u &&& 2164392193 = 2164392193) (s : State) {z : State} (h : execLearnAgeSweep s = .next z) :
    z.but u = s.but u := by
  refine State.but_mono hu ?_
  revert h
  unfold execLearnAgeSweep
  (try dsimp only)
  intro h
  obtain rfl := Host.Outcome.next.inj h
  clear h
  first
  | (simp; done)
  | ((repeat' split) <;> first
    | (simp; done)
    | (simp [*]; done)
    | (have e := State.but_fst 2164392193 ‹_ = (_, _)›; simp at e; simp [e]; done)
    | (have e := State.but_snd 2164392193 ‹_ = (_, _)›; simp at e; simp [e]; done))

/-! ## Shadow -/

@[simp] theorem State.shdFind_but {u : Nat} (hu : u &&& 67108864 = 67108864) (s : State) (kind : Nat) (exm : Bool) (k : Nat) :
    (State.shdFind s kind exm k).but u = s.but u := by
  refine State.but_mono hu ?_
  unfold State.shdFind
  first
  | (simp; done)
  | ((try dsimp only); (repeat' split) <;> first
    | (simp; done)
    | (simp [*]; done)
    | (have e := State.but_fst 67108864 ‹_ = (_, _)›; simp at e; simp [e]; done)
    | (have e := State.but_snd 67108864 ‹_ = (_, _)›; simp at e; simp [e]; done))

@[simp] theorem State.shdAdvance_but {u : Nat} (hu : u &&& 1 = 1) (s : State) (exm : Bool) :
    (State.shdAdvance s exm).but u = s.but u := by
  refine State.but_mono hu ?_
  unfold State.shdAdvance
  first
  | (simp; done)
  | ((try dsimp only); (repeat' split) <;> first
    | (simp; done)
    | (simp [*]; done)
    | (have e := State.but_fst 1 ‹_ = (_, _)›; simp at e; simp [e]; done)
    | (have e := State.but_snd 1 ‹_ = (_, _)›; simp at e; simp [e]; done))

@[simp] theorem State.shdOne_but {u : Nat} (hu : u &&& 3305504769 = 3305504769) (exm : Bool) (bad : List Sys2Proof.BadCell) (s : State) (r : Sys2Proof.HostRead) :
    (State.shdOne exm bad s r).but u = s.but u := by
  refine State.but_mono hu ?_
  unfold State.shdOne
  first
  | (simp; done)
  | ((try dsimp only); (repeat' split) <;> first
    | (simp; done)
    | (simp [*]; done)
    | (have e := State.but_fst 3305504769 ‹_ = (_, _)›; simp at e; simp [e]; done)
    | (have e := State.but_snd 3305504769 ‹_ = (_, _)›; simp at e; simp [e]; done))

@[simp] theorem State.shdLocator_but {u : Nat} (hu : u &&& 1073741824 = 1073741824) (s : State) (f : Sys2Proof.Machine.Finding) (v : Nat) :
    (State.shdLocator s f v).1.but u = s.but u := by
  refine State.but_mono hu ?_
  unfold State.shdLocator
  first
  | (simp; done)
  | ((try dsimp only); (repeat' split) <;> first
    | (simp; done)
    | (simp [*]; done)
    | (have e := State.but_fst 1073741824 ‹_ = (_, _)›; simp at e; simp [e]; done)
    | (have e := State.but_snd 1073741824 ‹_ = (_, _)›; simp at e; simp [e]; done))

theorem State.insertEnd_but {u : Nat} (hu : u &&& 2164392257 = 2164392257) (t : State) (o : Nat) :
    (if o = 4 ∨ o = 7 then (t.trb 0x3A 7, false) else (t.stat 0x3A Reg.SHD_CORRECTED 0 1, true)).1.but u = t.but u := by
  refine State.but_mono hu ?_
  split <;> simp

@[simp] theorem State.shdCorrect_but {u : Nat} (hu : u &&& 2164392257 = 2164392257) (s : State) (f : Finding) (v : Nat) :
    (State.shdCorrect s f v).1.but u = s.but u := by
  have g : ∀ (x : Banks), ({ s with banks := x } : State).but u = s.but u := fun x => State.but_mono hu (by simp)
  unfold State.shdCorrect
  split
  · rfl
  · split
    · have e : (s.insertSlot [] (v / 2 ^ 34 * 2 ^ 34)).1.but u = s.but u := State.but_mono hu (by simp)
      revert e
      generalize s.insertSlot [] (v / 2 ^ 34 * 2 ^ 34) = x
      obtain ⟨t, o⟩ := x
      exact fun e => (State.insertEnd_but hu t o).trans e
    · have a : ∀ t : State, (t.lineWritten.stat 0x3A Reg.SHD_CORRECTED 0 1).but u = t.but u := fun t => State.but_mono hu (by simp)
      exact (a _).trans (g _)

@[simp] theorem State.shdConfirmed_but {u : Nat} (hu : u &&& 3238134081 = 3238134081) (s : State) (f : Sys2Proof.Machine.Finding) (v : Nat) :
    (State.shdConfirmed s f v).but u = s.but u := by
  refine State.but_mono hu ?_
  unfold State.shdConfirmed
  first
  | (simp; done)
  | ((try dsimp only); (repeat' split) <;> first
    | (simp; done)
    | (simp [*]; done)
    | (have e := State.but_fst 3238134081 ‹_ = (_, _)›; simp at e; simp [e]; done)
    | (have e := State.but_snd 3238134081 ‹_ = (_, _)›; simp at e; simp [e]; done))

theorem execShadowCompare_but {u : Nat} (hu : u &&& 3305504769 = 3305504769) (lpm : List Sys2Proof.HostRead) (exm : List Sys2Proof.HostRead) (bad : List Sys2Proof.BadCell) (s : State) {z : State} (h : execShadowCompare lpm exm bad s = .next z) :
    z.but u = s.but u := by
  refine State.but_mono hu ?_
  revert h
  unfold execShadowCompare
  (try dsimp only)
  intro h
  obtain rfl := Host.Outcome.next.inj h
  clear h
  first
  | (simp; done)
  | ((repeat' split) <;> first
    | (simp; done)
    | (simp [*]; done)
    | (have e := State.but_fst 3305504769 ‹_ = (_, _)›; simp at e; simp [e]; done)
    | (have e := State.but_snd 3305504769 ‹_ = (_, _)›; simp at e; simp [e]; done))

theorem execShadowConfirm_but {u : Nat} (hu : u &&& 3305505089 = 3305505089) (r : Sys2Proof.HostRead) (f : Sys2Proof.MemFinding) (s : State) {z : State} (h : execShadowConfirm r f s = .next z) :
    z.but u = s.but u := by
  refine State.but_mono hu ?_
  revert h
  unfold execShadowConfirm
  (try dsimp only)
  intro h
  obtain rfl := Host.Outcome.next.inj h
  clear h
  first
  | (simp; done)
  | ((repeat' split) <;> first
    | (simp; done)
    | (simp [*]; done)
    | (have e := State.but_fst 3305505089 ‹_ = (_, _)›; simp at e; simp [e]; done)
    | (have e := State.but_snd 3305505089 ‹_ = (_, _)›; simp at e; simp [e]; done))

/-! ## HostIf -/

@[simp] theorem State.discardRing_but {u : Nat} (hu : u &&& 3238140033 = 3238140033) (s : State) (r : Nat) :
    (State.discardRing s r).but u = s.but u := by
  refine State.but_mono hu ?_
  unfold State.discardRing
  first
  | (simp; done)
  | ((try dsimp only); (repeat' split) <;> first
    | (simp; done)
    | (simp [*]; done)
    | (have e := State.but_fst 3238140033 ‹_ = (_, _)›; simp at e; simp [e]; done)
    | (have e := State.but_snd 3238140033 ‹_ = (_, _)›; simp at e; simp [e]; done))

@[simp] theorem State.holdExpired_but {u : Nat} (hu : u &&& 3238402177 = 3238402177) (s : State) :
    (State.holdExpired s).but u = s.but u := by
  refine State.but_mono hu ?_
  unfold State.holdExpired
  first
  | (simp; done)
  | ((try dsimp only); (repeat' split) <;> first
    | (simp; done)
    | (simp [*]; done)
    | (have e := State.but_fst 3238402177 ‹_ = (_, _)›; simp at e; simp [e]; done)
    | (have e := State.but_snd 3238402177 ‹_ = (_, _)›; simp at e; simp [e]; done))

@[simp] theorem State.hostLinkDown_but {u : Nat} (hu : u &&& 262145 = 262145) (s : State) :
    (State.hostLinkDown s).but u = s.but u := by
  refine State.but_mono hu ?_
  unfold State.hostLinkDown
  first
  | (simp; done)
  | ((try dsimp only); (repeat' split) <;> first
    | (simp; done)
    | (simp [*]; done)
    | (have e := State.but_fst 262145 ‹_ = (_, _)›; simp at e; simp [e]; done)
    | (have e := State.but_snd 262145 ‹_ = (_, _)›; simp at e; simp [e]; done))

@[simp] theorem State.containEnter_but {u : Nat} (hu : u &&& 3271956609 = 3271956609) (s : State) (cause : Nat) :
    (State.containEnter s cause).but u = s.but u := by
  refine State.but_mono hu ?_
  unfold State.containEnter
  first
  | (simp; done)
  | ((try dsimp only); (repeat' split) <;> first
    | (simp; done)
    | (simp [*]; done)
    | (have e := State.but_fst 3271956609 ‹_ = (_, _)›; simp at e; simp [e]; done)
    | (have e := State.but_snd 3271956609 ‹_ = (_, _)›; simp at e; simp [e]; done))

@[simp] theorem State.containRelease_but {u : Nat} (hu : u &&& 2198077441 = 2198077441) (s : State) :
    (State.containRelease s).but u = s.but u := by
  refine State.but_mono hu ?_
  unfold State.containRelease
  first
  | (simp; done)
  | ((try dsimp only); (repeat' split) <;> first
    | (simp; done)
    | (simp [*]; done)
    | (have e := State.but_fst 2198077441 ‹_ = (_, _)›; simp at e; simp [e]; done)
    | (have e := State.but_snd 2198077441 ‹_ = (_, _)›; simp at e; simp [e]; done))

@[simp] theorem State.tagTimeout_but {u : Nat} (hu : u &&& 2164523009 = 2164523009) (s : State) (tag : Nat) :
    (State.tagTimeout s tag).but u = s.but u := by
  refine State.but_mono hu ?_
  unfold State.tagTimeout
  first
  | (simp; done)
  | ((try dsimp only); (repeat' split) <;> first
    | (simp; done)
    | (simp [*]; done)
    | (have e := State.but_fst 2164523009 ‹_ = (_, _)›; simp at e; simp [e]; done)
    | (have e := State.but_snd 2164523009 ‹_ = (_, _)›; simp at e; simp [e]; done))

@[simp] theorem State.tagCompletion_but {u : Nat} (hu : u &&& 2164523009 = 2164523009) (s : State) (tag : Nat) (last : Bool) (err : Bool) :
    (State.tagCompletion s tag last err).but u = s.but u := by
  refine State.but_mono hu ?_
  unfold State.tagCompletion
  first
  | (simp; done)
  | ((try dsimp only); (repeat' split) <;> first
    | (simp; done)
    | (simp [*]; done)
    | (have e := State.but_fst 2164523009 ‹_ = (_, _)›; simp at e; simp [e]; done)
    | (have e := State.but_snd 2164523009 ‹_ = (_, _)›; simp at e; simp [e]; done))

@[simp] theorem State.devNext_but {u : Nat} (hu : u &&& 1 = 1) (s : State) (i : Nat) (k : Nat) :
    (State.devNext s i k).but u = s.but u := by
  refine State.but_mono hu ?_
  unfold State.devNext
  first
  | (simp; done)
  | ((try dsimp only); (repeat' split) <;> first
    | (simp; done)
    | (simp [*]; done)
    | (have e := State.but_fst 1 ‹_ = (_, _)›; simp at e; simp [e]; done)
    | (have e := State.but_snd 1 ‹_ = (_, _)›; simp at e; simp [e]; done))

@[simp] theorem State.entryDone_but {u : Nat} (hu : u &&& 2147483649 = 2147483649) (s : State) (i : Nat) (k : Nat) (status : Nat) :
    (State.entryDone s i k status).but u = s.but u := by
  refine State.but_mono hu ?_
  unfold State.entryDone
  first
  | (simp; done)
  | ((try dsimp only); (repeat' split) <;> first
    | (simp; done)
    | (simp [*]; done)
    | (have e := State.but_fst 2147483649 ‹_ = (_, _)›; simp at e; simp [e]; done)
    | (have e := State.but_snd 2147483649 ‹_ = (_, _)›; simp at e; simp [e]; done))

@[simp] theorem State.puntInto_but {u : Nat} (hu : u &&& 3238140033 = 3238140033) (s : State) (r : Nat) (k : Nat) (len : Nat) (addr : Nat) (e : Sys2Proof.Machine.QEnt) (t : List Sys2Proof.Machine.QEnt) (b : Sys2Proof.Machine.Buffer) :
    (State.puntInto s r k len addr e t b).but u = s.but u := by
  refine State.but_mono hu ?_
  unfold State.puntInto
  first
  | (simp; done)
  | ((try dsimp only); (repeat' split) <;> first
    | (simp; done)
    | (simp [*]; done)
    | (have e := State.but_fst 3238140033 ‹_ = (_, _)›; simp at e; simp [e]; done)
    | (have e := State.but_snd 3238140033 ‹_ = (_, _)›; simp at e; simp [e]; done))

@[simp] theorem State.puntServe_but {u : Nat} (hu : u &&& 3238402177 = 3238402177) (s : State) (r : Nat) (k : Nat) (entry : Sys2Proof.HostRead) :
    (State.puntServe s r k entry).but u = s.but u := by
  refine State.but_mono hu ?_
  unfold State.puntServe
  first
  | (simp; done)
  | ((try dsimp only); (repeat' split) <;> first
    | (simp; done)
    | (simp [*]; done)
    | (have e := State.but_fst 3238402177 ‹_ = (_, _)›; simp at e; simp [e]; done)
    | (have e := State.but_snd 3238402177 ‹_ = (_, _)›; simp at e; simp [e]; done))

@[simp] theorem State.injectFrame_but {u : Nat} (hu : u &&& 2164260993 = 2164260993) (s : State) (r : Nat) (b : Sys2Proof.Bytes) (cls : Nat) (meta16 : Nat) (direct : Option Nat) :
    (State.injectFrame s r b cls meta16 direct).but u = s.but u := by
  refine State.but_mono hu ?_
  unfold State.injectFrame
  first
  | (simp; done)
  | ((try dsimp only); (repeat' split) <;> first
    | (simp; done)
    | (simp [*]; done)
    | (have e := State.but_fst 2164260993 ‹_ = (_, _)›; simp at e; simp [e]; done)
    | (have e := State.but_snd 2164260993 ‹_ = (_, _)›; simp at e; simp [e]; done))

@[simp] theorem State.injectServe_but {u : Nat} (hu : u &&& 2164523137 = 2164523137) (s : State) (r : Nat) (k : Nat) (entry : Sys2Proof.HostRead) (frame : Sys2Proof.HostRead) :
    (State.injectServe s r k entry frame).but u = s.but u := by
  refine State.but_mono hu ?_
  unfold State.injectServe
  first
  | (simp; done)
  | ((try dsimp only); (repeat' split) <;> first
    | (simp; done)
    | (simp [*]; done)
    | (have e := State.but_fst 2164523137 ‹_ = (_, _)›; simp at e; simp [e]; done)
    | (have e := State.but_snd 2164523137 ‹_ = (_, _)›; simp at e; simp [e]; done))

theorem execPuntWrite_but {u : Nat} (hu : u &&& 3238402177 = 3238402177) (ring : Nat) (entry : Sys2Proof.HostRead) (s : State) {z : State} (h : execPuntWrite ring entry s = .next z) :
    z.but u = s.but u := by
  refine State.but_mono hu ?_
  revert h
  unfold execPuntWrite
  (try dsimp only)
  intro h
  obtain rfl := Host.Outcome.next.inj h
  clear h
  first
  | (simp; done)
  | ((repeat' split) <;> first
    | (simp; done)
    | (simp [*]; done)
    | (have e := State.but_fst 3238402177 ‹_ = (_, _)›; simp at e; simp [e]; done)
    | (have e := State.but_snd 3238402177 ‹_ = (_, _)›; simp at e; simp [e]; done))

theorem execInjectFetch_but {u : Nat} (hu : u &&& 2164523137 = 2164523137) (ring : Nat) (entry : Sys2Proof.HostRead) (frame : Sys2Proof.HostRead) (s : State) {z : State} (h : execInjectFetch ring entry frame s = .next z) :
    z.but u = s.but u := by
  refine State.but_mono hu ?_
  revert h
  unfold execInjectFetch
  (try dsimp only)
  intro h
  obtain rfl := Host.Outcome.next.inj h
  clear h
  first
  | (simp; done)
  | ((repeat' split) <;> first
    | (simp; done)
    | (simp [*]; done)
    | (have e := State.but_fst 2164523137 ‹_ = (_, _)›; simp at e; simp [e]; done)
    | (have e := State.but_snd 2164523137 ‹_ = (_, _)›; simp at e; simp [e]; done))

theorem execHdmErrRead_but {u : Nat} (hu : u &&& 3238002689 = 3238002689) (m : Sys2Proof.Master) (ring : Nat) (s : State) {z : State} (h : execHdmErrRead m ring s = .next z) :
    z.but u = s.but u := by
  refine State.but_mono hu ?_
  revert h
  unfold execHdmErrRead
  (try dsimp only)
  intro h
  obtain rfl := Host.Outcome.next.inj h
  clear h
  first
  | (simp; done)
  | ((repeat' split) <;> first
    | (simp; done)
    | (simp [*]; done)
    | (have e := State.but_fst 3238002689 ‹_ = (_, _)›; simp at e; simp [e]; done)
    | (have e := State.but_snd 3238002689 ‹_ = (_, _)›; simp at e; simp [e]; done))

theorem execContainmentEnter_but {u : Nat} (hu : u &&& 3271956609 = 3271956609) (cause : Nat) (s : State) {z : State} (h : execContainmentEnter cause s = .next z) :
    z.but u = s.but u := by
  refine State.but_mono hu ?_
  revert h
  unfold execContainmentEnter
  (try dsimp only)
  intro h
  obtain rfl := Host.Outcome.next.inj h
  clear h
  first
  | (simp; done)
  | ((repeat' split) <;> first
    | (simp; done)
    | (simp [*]; done)
    | (have e := State.but_fst 3271956609 ‹_ = (_, _)›; simp at e; simp [e]; done)
    | (have e := State.but_snd 3271956609 ‹_ = (_, _)›; simp at e; simp [e]; done))

theorem execHifContain_but {u : Nat} (hu : u &&& 3271956609 = 3271956609) (m : Sys2Proof.Master) (s : State) {z : State} (h : execHifContain m s = .next z) :
    z.but u = s.but u := by
  refine State.but_mono hu ?_
  revert h
  unfold execHifContain
  (try dsimp only)
  intro h
  obtain rfl := Host.Outcome.next.inj h
  clear h
  first
  | (simp; done)
  | ((repeat' split) <;> first
    | (simp; done)
    | (simp [*]; done)
    | (have e := State.but_fst 3271956609 ‹_ = (_, _)›; simp at e; simp [e]; done)
    | (have e := State.but_snd 3271956609 ‹_ = (_, _)›; simp at e; simp [e]; done))

theorem execHifRelease_but {u : Nat} (hu : u &&& 3271819265 = 3271819265) (m : Sys2Proof.Master) (s : State) {z : State} (h : execHifRelease m s = .next z) :
    z.but u = s.but u := by
  refine State.but_mono hu ?_
  revert h
  unfold execHifRelease
  (try dsimp only)
  intro h
  obtain rfl := Host.Outcome.next.inj h
  clear h
  first
  | (simp; done)
  | ((repeat' split) <;> first
    | (simp; done)
    | (simp [*]; done)
    | (have e := State.but_fst 3271819265 ‹_ = (_, _)›; simp at e; simp [e]; done)
    | (have e := State.but_snd 3271819265 ‹_ = (_, _)›; simp at e; simp [e]; done))

theorem execPuntHoldExpire_but {u : Nat} (hu : u &&& 3238402177 = 3238402177) (s : State) {z : State} (h : execPuntHoldExpire s = .next z) :
    z.but u = s.but u := by
  refine State.but_mono hu ?_
  revert h
  unfold execPuntHoldExpire
  (try dsimp only)
  intro h
  obtain rfl := Host.Outcome.next.inj h
  clear h
  first
  | (simp; done)
  | ((repeat' split) <;> first
    | (simp; done)
    | (simp [*]; done)
    | (have e := State.but_fst 3238402177 ‹_ = (_, _)›; simp at e; simp [e]; done)
    | (have e := State.but_snd 3238402177 ‹_ = (_, _)›; simp at e; simp [e]; done))

theorem execHostLinkUp_but {u : Nat} (hu : u &&& 1 = 1) (gen : Nat) (width : Nat) (s : State) {z : State} (h : execHostLinkUp gen width s = .next z) :
    z.but u = s.but u := by
  refine State.but_mono hu ?_
  revert h
  unfold execHostLinkUp
  (try dsimp only)
  intro h
  obtain rfl := Host.Outcome.next.inj h
  clear h
  first
  | (simp; done)
  | ((repeat' split) <;> first
    | (simp; done)
    | (simp [*]; done)
    | (have e := State.but_fst 1 ‹_ = (_, _)›; simp at e; simp [e]; done)
    | (have e := State.but_snd 1 ‹_ = (_, _)›; simp at e; simp [e]; done))

theorem execCompletionReceived_but {u : Nat} (hu : u &&& 2164523009 = 2164523009) (tag : Nat) (last : Bool) (err : Bool) (s : State) {z : State} (h : execCompletionReceived tag last err s = .next z) :
    z.but u = s.but u := by
  refine State.but_mono hu ?_
  revert h
  unfold execCompletionReceived
  (try dsimp only)
  intro h
  obtain rfl := Host.Outcome.next.inj h
  clear h
  first
  | (simp; done)
  | ((repeat' split) <;> first
    | (simp; done)
    | (simp [*]; done)
    | (have e := State.but_fst 2164523009 ‹_ = (_, _)›; simp at e; simp [e]; done)
    | (have e := State.but_snd 2164523009 ‹_ = (_, _)›; simp at e; simp [e]; done))

theorem execCompletionTimeout_but {u : Nat} (hu : u &&& 2164523009 = 2164523009) (tag : Nat) (s : State) {z : State} (h : execCompletionTimeout tag s = .next z) :
    z.but u = s.but u := by
  refine State.but_mono hu ?_
  revert h
  unfold execCompletionTimeout
  (try dsimp only)
  intro h
  obtain rfl := Host.Outcome.next.inj h
  clear h
  first
  | (simp; done)
  | ((repeat' split) <;> first
    | (simp; done)
    | (simp [*]; done)
    | (have e := State.but_fst 2164523009 ‹_ = (_, _)›; simp at e; simp [e]; done)
    | (have e := State.but_snd 2164523009 ‹_ = (_, _)›; simp at e; simp [e]; done))

theorem execTagQuarantineEnd_but {u : Nat} (hu : u &&& 262144 = 262144) (tag : Nat) (s : State) {z : State} (h : execTagQuarantineEnd tag s = .next z) :
    z.but u = s.but u := by
  refine State.but_mono hu ?_
  revert h
  unfold execTagQuarantineEnd
  (try dsimp only)
  intro h
  obtain rfl := Host.Outcome.next.inj h
  clear h
  first
  | (simp; done)
  | ((repeat' split) <;> first
    | (simp; done)
    | (simp [*]; done)
    | (have e := State.but_fst 262144 ‹_ = (_, _)›; simp at e; simp [e]; done)
    | (have e := State.but_snd 262144 ‹_ = (_, _)›; simp at e; simp [e]; done))

theorem execBusMasterEnableChange_but {u : Nat} (hu : u &&& 2198077441 = 2198077441) (on : Bool) (s : State) {z : State} (h : execBusMasterEnableChange on s = .next z) :
    z.but u = s.but u := by
  refine State.but_mono hu ?_
  revert h
  unfold execBusMasterEnableChange
  (try dsimp only)
  intro h
  obtain rfl := Host.Outcome.next.inj h
  clear h
  first
  | (simp; done)
  | ((repeat' split) <;> first
    | (simp; done)
    | (simp [*]; done)
    | (have e := State.but_fst 2198077441 ‹_ = (_, _)›; simp at e; simp [e]; done)
    | (have e := State.but_snd 2198077441 ‹_ = (_, _)›; simp at e; simp [e]; done))

@[simp] theorem State.userRead_but {u : Nat} (hu : u &&& 2147483649 = 2147483649) (s : State) (off : Nat) (len : Nat) :
    (State.userRead s off len).but u = s.but u := by
  refine State.but_mono hu ?_
  unfold State.userRead
  first
  | (simp; done)
  | ((try dsimp only); (repeat' split) <;> first
    | (simp; done)
    | (simp [*]; done)
    | (have e := State.but_fst 2147483649 ‹_ = (_, _)›; simp at e; simp [e]; done)
    | (have e := State.but_snd 2147483649 ‹_ = (_, _)›; simp at e; simp [e]; done))

theorem execUserCounterRead_but {u : Nat} (hu : u &&& 2164260865 = 2164260865) (off : Nat) (len : Nat) (s : State) {z : State} (h : execUserCounterRead off len s = .next z) :
    z.but u = s.but u := by
  refine State.but_mono hu ?_
  revert h
  unfold execUserCounterRead
  (try dsimp only)
  intro h
  obtain rfl := Host.Outcome.next.inj h
  clear h
  first
  | (simp; done)
  | ((repeat' split) <;> first
    | (simp; done)
    | (simp [*]; done)
    | (have e := State.but_fst 2164260865 ‹_ = (_, _)›; simp at e; simp [e]; done)
    | (have e := State.but_snd 2164260865 ‹_ = (_, _)›; simp at e; simp [e]; done))

@[simp] theorem State.pairFrameIn_but {u : Nat} (hu : u &&& 2164260993 = 2164260993) (s : State) (b : Sys2Proof.Bytes) :
    (State.pairFrameIn s b).but u = s.but u := by
  refine State.but_mono hu ?_
  unfold State.pairFrameIn
  first
  | (simp; done)
  | ((try dsimp only); (repeat' split) <;> first
    | (simp; done)
    | (simp [*]; done)
    | (have e := State.but_fst 2164260993 ‹_ = (_, _)›; simp at e; simp [e]; done)
    | (have e := State.but_snd 2164260993 ‹_ = (_, _)›; simp at e; simp [e]; done))

theorem execPairLinkFrame_but {u : Nat} (hu : u &&& 2164261017 = 2164261017) (b : Sys2Proof.Bytes) (s : State) {z : State} (h : execPairLinkFrame b s = .next z) :
    z.but u = s.but u := by
  refine State.but_mono hu ?_
  revert h
  unfold execPairLinkFrame
  (try dsimp only)
  intro h
  obtain rfl := Host.Outcome.next.inj h
  clear h
  first
  | (simp; done)
  | ((repeat' split) <;> first
    | (simp; done)
    | (simp [*]; done)
    | (have e := State.but_fst 2164261017 ‹_ = (_, _)›; simp at e; simp [e]; done)
    | (have e := State.but_snd 2164261017 ‹_ = (_, _)›; simp at e; simp [e]; done))

/-! ## Power -/

@[simp] theorem State.setMode_but {u : Nat} (hu : u &&& 8388609 = 8388609) (s : State) (m : Nat) (cause : Nat) :
    (State.setMode s m cause).but u = s.but u := by
  refine State.but_mono hu ?_
  unfold State.setMode
  first
  | (simp; done)
  | ((try dsimp only); (repeat' split) <;> first
    | (simp; done)
    | (simp [*]; done)
    | (have e := State.but_fst 8388609 ‹_ = (_, _)›; simp at e; simp [e]; done)
    | (have e := State.but_snd 8388609 ‹_ = (_, _)›; simp at e; simp [e]; done))

@[simp] theorem State.planSequence_but {u : Nat} (hu : u &&& 8388608 = 8388608) (s : State) :
    (State.planSequence s).but u = s.but u := by
  refine State.but_mono hu ?_
  unfold State.planSequence
  first
  | (simp; done)
  | ((try dsimp only); (repeat' split) <;> first
    | (simp; done)
    | (simp [*]; done)
    | (have e := State.but_fst 8388608 ‹_ = (_, _)›; simp at e; simp [e]; done)
    | (have e := State.but_snd 8388608 ‹_ = (_, _)›; simp at e; simp [e]; done))

@[simp] theorem State.modeRefused_but {u : Nat} (hu : u &&& 2164260865 = 2164260865) (s : State) :
    (State.modeRefused s).but u = s.but u := by
  refine State.but_mono hu ?_
  unfold State.modeRefused
  first
  | (simp; done)
  | ((try dsimp only); (repeat' split) <;> first
    | (simp; done)
    | (simp [*]; done)
    | (have e := State.but_fst 2164260865 ‹_ = (_, _)›; simp at e; simp [e]; done)
    | (have e := State.but_snd 2164260865 ‹_ = (_, _)›; simp at e; simp [e]; done))

@[simp] theorem State.seqEnd_but {u : Nat} (hu : u &&& 2172649473 = 2172649473) (s : State) :
    (State.seqEnd s).but u = s.but u := by
  refine State.but_mono hu ?_
  unfold State.seqEnd
  first
  | (simp; done)
  | ((try dsimp only); (repeat' split) <;> first
    | (simp; done)
    | (simp [*]; done)
    | (have e := State.but_fst 2172649473 ‹_ = (_, _)›; simp at e; simp [e]; done)
    | (have e := State.but_snd 2172649473 ‹_ = (_, _)›; simp at e; simp [e]; done))

@[simp] theorem State.enterStandby_but {u : Nat} (hu : u &&& 4026531839 = 4026531839) (s : State) (cause : Nat) :
    (State.enterStandby s cause).but u = s.but u := by
  refine State.but_mono hu ?_
  unfold State.enterStandby
  first
  | (simp; done)
  | ((try dsimp only); (repeat' split) <;> first
    | (simp; done)
    | (simp [*]; done)
    | (have e := State.but_fst 4026531839 ‹_ = (_, _)›; simp at e; simp [e]; done)
    | (have e := State.but_snd 4026531839 ‹_ = (_, _)›; simp at e; simp [e]; done))

@[simp] theorem State.bootToReady_but {u : Nat} (hu : u &&& 2172649473 = 2172649473) (s : State) :
    (State.bootToReady s).but u = s.but u := by
  refine State.but_mono hu ?_
  unfold State.bootToReady
  first
  | (simp; done)
  | ((try dsimp only); (repeat' split) <;> first
    | (simp; done)
    | (simp [*]; done)
    | (have e := State.but_fst 2172649473 ‹_ = (_, _)›; simp at e; simp [e]; done)
    | (have e := State.but_snd 2172649473 ‹_ = (_, _)›; simp at e; simp [e]; done))

@[simp] theorem State.modeRequest_but {u : Nat} (hu : u &&& 2172649473 = 2172649473) (s : State) (n : Nat) (cause : Nat) :
    (State.modeRequest s n cause).but u = s.but u := by
  refine State.but_mono hu ?_
  unfold State.modeRequest
  first
  | (simp; done)
  | ((try dsimp only); (repeat' split) <;> first
    | (simp; done)
    | (simp [*]; done)
    | (have e := State.but_fst 2172649473 ‹_ = (_, _)›; simp at e; simp [e]; done)
    | (have e := State.but_snd 2172649473 ‹_ = (_, _)›; simp at e; simp [e]; done))

@[simp] theorem State.goto_but {u : Nat} (hu : u &&& 4026531839 = 4026531839) (s : State) (n : Nat) :
    (State.goto s n).but u = s.but u := by
  refine State.but_mono hu ?_
  unfold State.goto
  first
  | (simp; done)
  | ((try dsimp only); (repeat' split) <;> first
    | (simp; done)
    | (simp [*]; done)
    | (have e := State.but_fst 4026531839 ‹_ = (_, _)›; simp at e; simp [e]; done)
    | (have e := State.but_snd 4026531839 ‹_ = (_, _)›; simp at e; simp [e]; done))

@[simp] theorem State.modeReq_but {u : Nat} (hu : u &&& 2172649473 = 2172649473) (s : State) (n : Nat) :
    (State.modeReq s n).but u = s.but u := by
  refine State.but_mono hu ?_
  unfold State.modeReq
  first
  | (simp; done)
  | ((try dsimp only); (repeat' split) <;> first
    | (simp; done)
    | (simp [*]; done)
    | (have e := State.but_fst 2172649473 ‹_ = (_, _)›; simp at e; simp [e]; done)
    | (have e := State.but_snd 2172649473 ‹_ = (_, _)›; simp at e; simp [e]; done))

@[simp] theorem State.planApply_but {u : Nat} (hu : u &&& 8388609 = 8388609) (s : State) :
    (State.planApply s).but u = s.but u := by
  refine State.but_mono hu ?_
  unfold State.planApply
  first
  | (simp; done)
  | ((try dsimp only); (repeat' split) <;> first
    | (simp; done)
    | (simp [*]; done)
    | (have e := State.but_fst 8388609 ‹_ = (_, _)›; simp at e; simp [e]; done)
    | (have e := State.but_snd 8388609 ‹_ = (_, _)›; simp at e; simp [e]; done))

@[simp] theorem State.packetsGone_but {u : Nat} (hu : u &&& 6272 = 6272) (s : State) (d : Nat) :
    (State.packetsGone s d).but u = s.but u := by
  refine State.but_mono hu ?_
  unfold State.packetsGone
  first
  | (simp; done)
  | ((try dsimp only); (repeat' split) <;> first
    | (simp; done)
    | (simp [*]; done)
    | (have e := State.but_fst 6272 ‹_ = (_, _)›; simp at e; simp [e]; done)
    | (have e := State.but_snd 6272 ‹_ = (_, _)›; simp at e; simp [e]; done))

@[simp] theorem State.domainOff_but {u : Nat} (hu : u &&& 3314548189 = 3314548189) (s : State) (d : Nat) :
    (State.domainOff s d).but u = s.but u := by
  refine State.but_mono hu ?_
  unfold State.domainOff
  first
  | (simp; done)
  | ((try dsimp only); (repeat' split) <;> first
    | (simp; done)
    | (simp [*]; done)
    | (have e := State.but_fst 3314548189 ‹_ = (_, _)›; simp at e; simp [e]; done)
    | (have e := State.but_snd 3314548189 ‹_ = (_, _)›; simp at e; simp [e]; done))

@[simp] theorem State.mgmtReady_but {u : Nat} (hu : u &&& 11010051 = 11010051) (s : State) :
    (State.mgmtReady s).but u = s.but u := by
  refine State.but_mono hu ?_
  unfold State.mgmtReady
  first
  | (simp; done)
  | ((try dsimp only); (repeat' split) <;> first
    | (simp; done)
    | (simp [*]; done)
    | (have e := State.but_fst 11010051 ‹_ = (_, _)›; simp at e; simp [e]; done)
    | (have e := State.but_snd 11010051 ‹_ = (_, _)›; simp at e; simp [e]; done))

@[simp] theorem State.ropeStart_but {u : Nat} (hu : u &&& 4 = 4) (s : State) :
    (State.ropeStart s).but u = s.but u := by
  refine State.but_mono hu ?_
  unfold State.ropeStart
  first
  | (simp; done)
  | ((try dsimp only); (repeat' split) <;> first
    | (simp; done)
    | (simp [*]; done)
    | (have e := State.but_fst 4 ‹_ = (_, _)›; simp at e; simp [e]; done)
    | (have e := State.but_snd 4 ‹_ = (_, _)›; simp at e; simp [e]; done))

@[simp] theorem State.domainReady_but {u : Nat} (hu : u &&& 2175336583 = 2175336583) (s : State) (d : Nat) :
    (State.domainReady s d).but u = s.but u := by
  refine State.but_mono hu ?_
  unfold State.domainReady
  first
  | (simp; done)
  | ((try dsimp only); (repeat' split) <;> first
    | (simp; done)
    | (simp [*]; done)
    | (have e := State.but_fst 2175336583 ‹_ = (_, _)›; simp at e; simp [e]; done)
    | (have e := State.but_snd 2175336583 ‹_ = (_, _)›; simp at e; simp [e]; done))

@[simp] theorem State.withhold_but {u : Nat} (hu : u &&& 2164260865 = 2164260865) (n : Nat) (s : State) (pipe : Nat) :
    (State.withhold n s pipe).but u = s.but u := by
  refine State.but_mono hu ?_
  unfold State.withhold
  first
  | (simp; done)
  | ((try dsimp only); (repeat' split) <;> first
    | (simp; done)
    | (simp [*]; done)
    | (have e := State.but_fst 2164260865 ‹_ = (_, _)›; simp at e; simp [e]; done)
    | (have e := State.but_snd 2164260865 ‹_ = (_, _)›; simp at e; simp [e]; done))

@[simp] theorem State.sensorRead_but {u : Nat} (hu : u &&& 2172649473 = 2172649473) (s : State) (n : Nat) (t : Option (BitVec 16)) :
    (State.sensorRead s n t).but u = s.but u := by
  refine State.but_mono hu ?_
  unfold State.sensorRead
  first
  | (simp; done)
  | ((try dsimp only); (repeat' split) <;> first
    | (simp; done)
    | (simp [*]; done)
    | (have e := State.but_fst 2172649473 ‹_ = (_, _)›; simp at e; simp [e]; done)
    | (have e := State.but_snd 2172649473 ‹_ = (_, _)›; simp at e; simp [e]; done))

@[simp] theorem State.thermalLimits_but {u : Nat} (hu : u &&& 1 = 1) (s : State) (t : Int) :
    (State.thermalLimits s t).but u = s.but u := by
  refine State.but_mono hu ?_
  unfold State.thermalLimits
  first
  | (simp; done)
  | ((try dsimp only); (repeat' split) <;> first
    | (simp; done)
    | (simp [*]; done)
    | (have e := State.but_fst 1 ‹_ = (_, _)›; simp at e; simp [e]; done)
    | (have e := State.but_snd 1 ‹_ = (_, _)›; simp at e; simp [e]; done))

@[simp] theorem State.thermalTrip_but {u : Nat} (hu : u &&& 4026531839 = 4026531839) (s : State) (l : List (Nat × Int)) :
    (State.thermalTrip s l).but u = s.but u := by
  refine State.but_mono hu ?_
  unfold State.thermalTrip
  first
  | (simp; done)
  | ((try dsimp only); (repeat' split) <;> first
    | (simp; done)
    | (simp [*]; done)
    | (have e := State.but_fst 4026531839 ‹_ = (_, _)›; simp at e; simp [e]; done)
    | (have e := State.but_snd 4026531839 ‹_ = (_, _)›; simp at e; simp [e]; done))

theorem execGotoStandby_but {u : Nat} (hu : u &&& 4026531839 = 4026531839) (m : Sys2Proof.Master) (s : State) {z : State} (h : execGotoStandby m s = .next z) :
    z.but u = s.but u := by
  refine State.but_mono hu ?_
  revert h
  unfold execGotoStandby
  (try dsimp only)
  intro h
  obtain rfl := Host.Outcome.next.inj h
  clear h
  first
  | (simp; done)
  | ((repeat' split) <;> first
    | (simp; done)
    | (simp [*]; done)
    | (have e := State.but_fst 4026531839 ‹_ = (_, _)›; simp at e; simp [e]; done)
    | (have e := State.but_snd 4026531839 ‹_ = (_, _)›; simp at e; simp [e]; done))

theorem execGotoReady_but {u : Nat} (hu : u &&& 4026531839 = 4026531839) (m : Sys2Proof.Master) (s : State) {z : State} (h : execGotoReady m s = .next z) :
    z.but u = s.but u := by
  refine State.but_mono hu ?_
  revert h
  unfold execGotoReady
  (try dsimp only)
  intro h
  obtain rfl := Host.Outcome.next.inj h
  clear h
  first
  | (simp; done)
  | ((repeat' split) <;> first
    | (simp; done)
    | (simp [*]; done)
    | (have e := State.but_fst 4026531839 ‹_ = (_, _)›; simp at e; simp [e]; done)
    | (have e := State.but_snd 4026531839 ‹_ = (_, _)›; simp at e; simp [e]; done))

theorem execGotoService_but {u : Nat} (hu : u &&& 4026531839 = 4026531839) (m : Sys2Proof.Master) (s : State) {z : State} (h : execGotoService m s = .next z) :
    z.but u = s.but u := by
  refine State.but_mono hu ?_
  revert h
  unfold execGotoService
  (try dsimp only)
  intro h
  obtain rfl := Host.Outcome.next.inj h
  clear h
  first
  | (simp; done)
  | ((repeat' split) <;> first
    | (simp; done)
    | (simp [*]; done)
    | (have e := State.but_fst 4026531839 ‹_ = (_, _)›; simp at e; simp [e]; done)
    | (have e := State.but_snd 4026531839 ‹_ = (_, _)›; simp at e; simp [e]; done))

theorem execGotoDrain_but {u : Nat} (hu : u &&& 4026531839 = 4026531839) (m : Sys2Proof.Master) (s : State) {z : State} (h : execGotoDrain m s = .next z) :
    z.but u = s.but u := by
  refine State.but_mono hu ?_
  revert h
  unfold execGotoDrain
  (try dsimp only)
  intro h
  obtain rfl := Host.Outcome.next.inj h
  clear h
  first
  | (simp; done)
  | ((repeat' split) <;> first
    | (simp; done)
    | (simp [*]; done)
    | (have e := State.but_fst 4026531839 ‹_ = (_, _)›; simp at e; simp [e]; done)
    | (have e := State.but_snd 4026531839 ‹_ = (_, _)›; simp at e; simp [e]; done))

theorem execDomainSwitchOn_but {u : Nat} (hu : u &&& 2175336583 = 2175336583) (ready : Bool) (s : State) {z : State} (h : execDomainSwitchOn ready s = .next z) :
    z.but u = s.but u := by
  refine State.but_mono hu ?_
  revert h
  unfold execDomainSwitchOn
  (try dsimp only)
  intro h
  obtain rfl := Host.Outcome.next.inj h
  clear h
  first
  | (simp; done)
  | ((repeat' split) <;> first
    | (simp; done)
    | (simp [*]; done)
    | (have e := State.but_fst 2175336583 ‹_ = (_, _)›; simp at e; simp [e]; done)
    | (have e := State.but_snd 2175336583 ‹_ = (_, _)›; simp at e; simp [e]; done))

theorem execDomainReadyTimeout_but {u : Nat} (hu : u &&& 2172649473 = 2172649473) (s : State) {z : State} (h : execDomainReadyTimeout s = .next z) :
    z.but u = s.but u := by
  refine State.but_mono hu ?_
  revert h
  unfold execDomainReadyTimeout
  (try dsimp only)
  intro h
  obtain rfl := Host.Outcome.next.inj h
  clear h
  first
  | (simp; done)
  | ((repeat' split) <;> first
    | (simp; done)
    | (simp [*]; done)
    | (have e := State.but_fst 2172649473 ‹_ = (_, _)›; simp at e; simp [e]; done)
    | (have e := State.but_snd 2172649473 ‹_ = (_, _)›; simp at e; simp [e]; done))

theorem execDomainSwitchOff_but {u : Nat} (hu : u &&& 3314548189 = 3314548189) (s : State) {z : State} (h : execDomainSwitchOff s = .next z) :
    z.but u = s.but u := by
  refine State.but_mono hu ?_
  revert h
  unfold execDomainSwitchOff
  (try dsimp only)
  intro h
  obtain rfl := Host.Outcome.next.inj h
  clear h
  first
  | (simp; done)
  | ((repeat' split) <;> first
    | (simp; done)
    | (simp [*]; done)
    | (have e := State.but_fst 3314548189 ‹_ = (_, _)›; simp at e; simp [e]; done)
    | (have e := State.but_snd 3314548189 ‹_ = (_, _)›; simp at e; simp [e]; done))

theorem execGovernorTick_but {u : Nat} (hu : u &&& 2172649473 = 2172649473) (riseF : Nat) (riseT : Nat) (s : State) {z : State} (h : execGovernorTick riseF riseT s = .next z) :
    z.but u = s.but u := by
  refine State.but_mono hu ?_
  revert h
  unfold execGovernorTick
  (try dsimp only)
  intro h
  obtain rfl := Host.Outcome.next.inj h
  clear h
  first
  | (simp; done)
  | ((repeat' split) <;> first
    | (simp; done)
    | (simp [*]; done)
    | (have e := State.but_fst 2172649473 ‹_ = (_, _)›; simp at e; simp [e]; done)
    | (have e := State.but_snd 2172649473 ‹_ = (_, _)›; simp at e; simp [e]; done))

theorem execThermalRead_but {u : Nat} (hu : u &&& 4026531839 = 4026531839) (t : List (Option (BitVec 16))) (s : State) {z : State} (h : execThermalRead t s = .next z) :
    z.but u = s.but u := by
  refine State.but_mono hu ?_
  revert h
  unfold execThermalRead
  (try dsimp only)
  intro h
  obtain rfl := Host.Outcome.next.inj h
  clear h
  first
  | (simp; done)
  | ((repeat' split) <;> first
    | (simp; done)
    | (simp [*]; done)
    | (have e := State.but_fst 4026531839 ‹_ = (_, _)›; simp at e; simp [e]; done)
    | (have e := State.but_snd 4026531839 ‹_ = (_, _)›; simp at e; simp [e]; done))

theorem execSeatedDeasserted_but {u : Nat} (hu : u &&& 4026531839 = 4026531839) (s : State) {z : State} (h : execSeatedDeasserted s = .next z) :
    z.but u = s.but u := by
  refine State.but_mono hu ?_
  revert h
  unfold execSeatedDeasserted
  (try dsimp only)
  intro h
  obtain rfl := Host.Outcome.next.inj h
  clear h
  first
  | (simp; done)
  | ((repeat' split) <;> first
    | (simp; done)
    | (simp [*]; done)
    | (have e := State.but_fst 4026531839 ‹_ = (_, _)›; simp at e; simp [e]; done)
    | (have e := State.but_snd 4026531839 ‹_ = (_, _)›; simp at e; simp [e]; done))

theorem execPgInFall_but {u : Nat} (hu : u &&& 4026531839 = 4026531839) (n : Nat) (s : State) {z : State} (h : execPgInFall n s = .next z) :
    z.but u = s.but u := by
  refine State.but_mono hu ?_
  revert h
  unfold execPgInFall
  (try dsimp only)
  intro h
  obtain rfl := Host.Outcome.next.inj h
  clear h
  first
  | (simp; done)
  | ((repeat' split) <;> first
    | (simp; done)
    | (simp [*]; done)
    | (have e := State.but_fst 4026531839 ‹_ = (_, _)›; simp at e; simp [e]; done)
    | (have e := State.but_snd 4026531839 ‹_ = (_, _)›; simp at e; simp [e]; done))

theorem execPgInChange_but {u : Nat} (hu : u &&& 8912899 = 8912899) (levels : Sys2Proof.Byte) (s : State) {z : State} (h : execPgInChange levels s = .next z) :
    z.but u = s.but u := by
  refine State.but_mono hu ?_
  revert h
  unfold execPgInChange
  (try dsimp only)
  intro h
  obtain rfl := Host.Outcome.next.inj h
  clear h
  first
  | (simp; done)
  | ((repeat' split) <;> first
    | (simp; done)
    | (simp [*]; done)
    | (have e := State.but_fst 8912899 ‹_ = (_, _)›; simp at e; simp [e]; done)
    | (have e := State.but_snd 8912899 ‹_ = (_, _)›; simp at e; simp [e]; done))

theorem execWake_but {u : Nat} (hu : u &&& 8388611 = 8388611) (src : Nat) (s : State) {z : State} (h : execWake src s = .next z) :
    z.but u = s.but u := by
  refine State.but_mono hu ?_
  revert h
  unfold execWake
  (try dsimp only)
  intro h
  obtain rfl := Host.Outcome.next.inj h
  clear h
  first
  | (simp; done)
  | ((repeat' split) <;> first
    | (simp; done)
    | (simp [*]; done)
    | (have e := State.but_fst 8388611 ‹_ = (_, _)›; simp at e; simp [e]; done)
    | (have e := State.but_snd 8388611 ‹_ = (_, _)›; simp at e; simp [e]; done))

theorem execAonWakeTimer_but {u : Nat} (hu : u &&& 8912899 = 8912899) (s : State) {z : State} (h : execAonWakeTimer s = .next z) :
    z.but u = s.but u := by
  refine State.but_mono hu ?_
  revert h
  unfold execAonWakeTimer
  (try dsimp only)
  intro h
  obtain rfl := Host.Outcome.next.inj h
  clear h
  first
  | (simp; done)
  | ((repeat' split) <;> first
    | (simp; done)
    | (simp [*]; done)
    | (have e := State.but_fst 8912899 ‹_ = (_, _)›; simp at e; simp [e]; done)
    | (have e := State.but_snd 8912899 ‹_ = (_, _)›; simp at e; simp [e]; done))

theorem execEndOfCold_but {u : Nat} (hu : u &&& 142606339 = 142606339) (s : State) {z : State} (h : execEndOfCold s = .next z) :
    z.but u = s.but u := by
  refine State.but_mono hu ?_
  revert h
  unfold execEndOfCold
  (try dsimp only)
  intro h
  obtain rfl := Host.Outcome.next.inj h
  clear h
  first
  | (simp; done)
  | ((repeat' split) <;> first
    | (simp; done)
    | (simp [*]; done)
    | (have e := State.but_fst 142606339 ‹_ = (_, _)›; simp at e; simp [e]; done)
    | (have e := State.but_snd 142606339 ‹_ = (_, _)›; simp at e; simp [e]; done))

/-! ## Boot -/

@[simp] theorem State.writeRec_but {u : Nat} (hu : u &&& 2097152 = 2097152) (s : State) (r : Sys2Proof.Machine.BootRec) :
    (State.writeRec s r).but u = s.but u := by
  refine State.but_mono hu ?_
  unfold State.writeRec
  first
  | (simp; done)
  | ((try dsimp only); (repeat' split) <;> first
    | (simp; done)
    | (simp [*]; done)
    | (have e := State.but_fst 2097152 ‹_ = (_, _)›; simp at e; simp [e]; done)
    | (have e := State.but_snd 2097152 ‹_ = (_, _)›; simp at e; simp [e]; done))

@[simp] theorem State.bootLast_but {u : Nat} (hu : u &&& 1 = 1) (s : State) (code : Nat) (cand : Nat) (atStart : Bool) :
    (State.bootLast s code cand atStart).but u = s.but u := by
  refine State.but_mono hu ?_
  unfold State.bootLast
  first
  | (simp; done)
  | ((try dsimp only); (repeat' split) <;> first
    | (simp; done)
    | (simp [*]; done)
    | (have e := State.but_fst 1 ‹_ = (_, _)›; simp at e; simp [e]; done)
    | (have e := State.but_snd 1 ‹_ = (_, _)›; simp at e; simp [e]; done))

@[simp] theorem State.stageRefuse_but {u : Nat} (hu : u &&& 2197815297 = 2197815297) (s : State) (d : Sys2Proof.Machine.Desc) (code : Nat) :
    (State.stageRefuse s d code).but u = s.but u := by
  refine State.but_mono hu ?_
  unfold State.stageRefuse
  first
  | (simp; done)
  | ((try dsimp only); (repeat' split) <;> first
    | (simp; done)
    | (simp [*]; done)
    | (have e := State.but_fst 2197815297 ‹_ = (_, _)›; simp at e; simp [e]; done)
    | (have e := State.but_snd 2197815297 ‹_ = (_, _)›; simp at e; simp [e]; done))

@[simp] theorem State.stageVerify_but {u : Nat} (hu : u &&& 2199912449 = 2199912449) (s : State) (d : Sys2Proof.Machine.Desc) :
    (State.stageVerify s d).but u = s.but u := by
  refine State.but_mono hu ?_
  unfold State.stageVerify
  first
  | (simp; done)
  | ((try dsimp only); (repeat' split) <;> first
    | (simp; done)
    | (simp [*]; done)
    | (have e := State.but_fst 2199912449 ‹_ = (_, _)›; simp at e; simp [e]; done)
    | (have e := State.but_snd 2199912449 ‹_ = (_, _)›; simp at e; simp [e]; done))

@[simp] theorem State.stageBytes_but {u : Nat} (hu : u &&& 2199912449 = 2199912449) (s : State) (d : Sys2Proof.Machine.Desc) (b : Sys2Proof.Bytes) :
    (State.stageBytes s d b).but u = s.but u := by
  refine State.but_mono hu ?_
  unfold State.stageBytes
  first
  | (simp; done)
  | ((try dsimp only); (repeat' split) <;> first
    | (simp; done)
    | (simp [*]; done)
    | (have e := State.but_fst 2199912449 ‹_ = (_, _)›; simp at e; simp [e]; done)
    | (have e := State.but_snd 2199912449 ‹_ = (_, _)›; simp at e; simp [e]; done))

@[simp] theorem State.tdmStageOp_but {u : Nat} (hu : u &&& 2200174593 = 2200174593) (s : State) (r : Sys2Proof.HostRead) (d : Sys2Proof.Machine.Desc) :
    (State.tdmStageOp s r d).but u = s.but u := by
  refine State.but_mono hu ?_
  unfold State.tdmStageOp
  first
  | (simp; done)
  | ((try dsimp only); (repeat' split) <;> first
    | (simp; done)
    | (simp [*]; done)
    | (have e := State.but_fst 2200174593 ‹_ = (_, _)›; simp at e; simp [e]; done)
    | (have e := State.but_snd 2200174593 ‹_ = (_, _)›; simp at e; simp [e]; done))

@[simp] theorem State.timeTraverse_but {u : Nat} (hu : u &&& 5 = 5) (s : State) :
    (State.timeTraverse s).but u = s.but u := by
  refine State.but_mono hu ?_
  unfold State.timeTraverse
  first
  | (simp; done)
  | ((try dsimp only); (repeat' split) <;> first
    | (simp; done)
    | (simp [*]; done)
    | (have e := State.but_fst 5 ‹_ = (_, _)›; simp at e; simp [e]; done)
    | (have e := State.but_snd 5 ‹_ = (_, _)›; simp at e; simp [e]; done))

@[simp] theorem State.traverseStart_but {u : Nat} (hu : u &&& 2368574109 = 2368574109) (s : State) :
    (State.traverseStart s).but u = s.but u := by
  refine State.but_mono hu ?_
  unfold State.traverseStart
  first
  | (simp; done)
  | ((try dsimp only); (repeat' split) <;> first
    | (simp; done)
    | (simp [*]; done)
    | (have e := State.but_fst 2368574109 ‹_ = (_, _)›; simp at e; simp [e]; done)
    | (have e := State.but_snd 2368574109 ‹_ = (_, _)›; simp at e; simp [e]; done))

@[simp] theorem State.traverseBegin_but {u : Nat} (hu : u &&& 2368574109 = 2368574109) (s : State) :
    (State.traverseBegin s).but u = s.but u := by
  refine State.but_mono hu ?_
  unfold State.traverseBegin
  first
  | (simp; done)
  | ((try dsimp only); (repeat' split) <;> first
    | (simp; done)
    | (simp [*]; done)
    | (have e := State.but_fst 2368574109 ‹_ = (_, _)›; simp at e; simp [e]; done)
    | (have e := State.but_snd 2368574109 ‹_ = (_, _)›; simp at e; simp [e]; done))

@[simp] theorem State.headlessEnd_but {u : Nat} (hu : u &&& 136314881 = 136314881) (s : State) :
    (State.headlessEnd s).but u = s.but u := by
  refine State.but_mono hu ?_
  unfold State.headlessEnd
  first
  | (simp; done)
  | ((try dsimp only); (repeat' split) <;> first
    | (simp; done)
    | (simp [*]; done)
    | (have e := State.but_fst 136314881 ‹_ = (_, _)›; simp at e; simp [e]; done)
    | (have e := State.but_snd 136314881 ‹_ = (_, _)›; simp at e; simp [e]; done))

@[simp] theorem State.armCommit_but {u : Nat} (hu : u &&& 2368574109 = 2368574109) (s : State) :
    (State.armCommit s).but u = s.but u := by
  refine State.but_mono hu ?_
  unfold State.armCommit
  first
  | (simp; done)
  | ((try dsimp only); (repeat' split) <;> first
    | (simp; done)
    | (simp [*]; done)
    | (have e := State.but_fst 2368574109 ‹_ = (_, _)›; simp at e; simp [e]; done)
    | (have e := State.but_snd 2368574109 ‹_ = (_, _)›; simp at e; simp [e]; done))

@[simp] theorem State.candRefused_but {u : Nat} (hu : u &&& 2166358017 = 2166358017) (s : State) (c : Nat) :
    (State.candRefused s c).but u = s.but u := by
  refine State.but_mono hu ?_
  unfold State.candRefused
  first
  | (simp; done)
  | ((try dsimp only); (repeat' split) <;> first
    | (simp; done)
    | (simp [*]; done)
    | (have e := State.but_fst 2166358017 ‹_ = (_, _)›; simp at e; simp [e]; done)
    | (have e := State.but_snd 2166358017 ‹_ = (_, _)›; simp at e; simp [e]; done))

@[simp] theorem State.candRun_but {u : Nat} (hu : u &&& 3146241 = 3146241) (s : State) (c : Nat) (fallback : Bool) :
    (State.candRun s c fallback).but u = s.but u := by
  refine State.but_mono hu ?_
  unfold State.candRun
  first
  | (simp; done)
  | ((try dsimp only); (repeat' split) <;> first
    | (simp; done)
    | (simp [*]; done)
    | (have e := State.but_fst 3146241 ‹_ = (_, _)›; simp at e; simp [e]; done)
    | (have e := State.but_snd 3146241 ‹_ = (_, _)›; simp at e; simp [e]; done))

@[simp] theorem State.tryCands_but {u : Nat} (hu : u &&& 2167407105 = 2167407105) (l : List Nat) (s : State) (fallback : Bool) :
    (State.tryCands l s fallback).but u = s.but u := by
  refine State.but_mono hu ?_
  induction l generalizing s fallback with
  | nil => simp [State.tryCands]
  | cons c t ih =>
    unfold State.tryCands
    split
    · simp
    · rw [ih]; simp

@[simp] theorem State.bootTry_but {u : Nat} (hu : u &&& 2167407105 = 2167407105) (s : State) :
    (State.bootTry s).but u = s.but u := by
  refine State.but_mono hu ?_
  unfold State.bootTry
  first
  | (simp; done)
  | ((try dsimp only); (repeat' split) <;> first
    | (simp; done)
    | (simp [*]; done)
    | (have e := State.but_fst 2167407105 ‹_ = (_, _)›; simp at e; simp [e]; done)
    | (have e := State.but_snd 2167407105 ‹_ = (_, _)›; simp at e; simp [e]; done))

@[simp] theorem State.accepted_but {u : Nat} (hu : u &&& 2162689 = 2162689) (s : State) :
    (State.accepted s).but u = s.but u := by
  refine State.but_mono hu ?_
  unfold State.accepted
  first
  | (simp; done)
  | ((try dsimp only); (repeat' split) <;> first
    | (simp; done)
    | (simp [*]; done)
    | (have e := State.but_fst 2162689 ‹_ = (_, _)›; simp at e; simp [e]; done)
    | (have e := State.but_snd 2162689 ‹_ = (_, _)›; simp at e; simp [e]; done))

@[simp] theorem State.copySaStart_but {u : Nat} (hu : u &&& 2097152 = 2097152) (s : State) :
    (State.copySaStart s).but u = s.but u := by
  refine State.but_mono hu ?_
  unfold State.copySaStart
  first
  | (simp; done)
  | ((try dsimp only); (repeat' split) <;> first
    | (simp; done)
    | (simp [*]; done)
    | (have e := State.but_fst 2097152 ‹_ = (_, _)›; simp at e; simp [e]; done)
    | (have e := State.but_snd 2097152 ‹_ = (_, _)›; simp at e; simp [e]; done))

@[simp] theorem State.copyStart_but {u : Nat} (hu : u &&& 2097153 = 2097153) (s : State) :
    (State.copyStart s).but u = s.but u := by
  refine State.but_mono hu ?_
  unfold State.copyStart
  first
  | (simp; done)
  | ((try dsimp only); (repeat' split) <;> first
    | (simp; done)
    | (simp [*]; done)
    | (have e := State.but_fst 2097153 ‹_ = (_, _)›; simp at e; simp [e]; done)
    | (have e := State.but_snd 2097153 ‹_ = (_, _)›; simp at e; simp [e]; done))

@[simp] theorem State.copyStep_but {u : Nat} (hu : u &&& 2166358017 = 2166358017) (s : State) (ok : Bool) :
    (State.copyStep s ok).but u = s.but u := by
  refine State.but_mono hu ?_
  unfold State.copyStep
  first
  | (simp; done)
  | ((try dsimp only); (repeat' split) <;> first
    | (simp; done)
    | (simp [*]; done)
    | (have e := State.but_fst 2166358017 ‹_ = (_, _)›; simp at e; simp [e]; done)
    | (have e := State.but_snd 2166358017 ‹_ = (_, _)›; simp at e; simp [e]; done))

@[simp] theorem State.attest_but {u : Nat} (hu : u &&& 2168455169 = 2168455169) (s : State) :
    (State.attest s).but u = s.but u := by
  refine State.but_mono hu ?_
  unfold State.attest
  first
  | (simp; done)
  | ((try dsimp only); (repeat' split) <;> first
    | (simp; done)
    | (simp [*]; done)
    | (have e := State.but_fst 2168455169 ‹_ = (_, _)›; simp at e; simp [e]; done)
    | (have e := State.but_snd 2168455169 ‹_ = (_, _)›; simp at e; simp [e]; done))

@[simp] theorem State.attestEnd_but {u : Nat} (hu : u &&& 2168455169 = 2168455169) (s : State) (dmaOk : Bool) :
    (State.attestEnd s dmaOk).but u = s.but u := by
  refine State.but_mono hu ?_
  unfold State.attestEnd
  first
  | (simp; done)
  | ((try dsimp only); (repeat' split) <;> first
    | (simp; done)
    | (simp [*]; done)
    | (have e := State.but_fst 2168455169 ‹_ = (_, _)›; simp at e; simp [e]; done)
    | (have e := State.but_snd 2168455169 ‹_ = (_, _)›; simp at e; simp [e]; done))

@[simp] theorem State.fuseCommit_but {u : Nat} (hu : u &&& 2164260865 = 2164260865) (s : State) :
    (State.fuseCommit s).but u = s.but u := by
  refine State.but_mono hu ?_
  unfold State.fuseCommit
  first
  | (simp; done)
  | ((try dsimp only); (repeat' split) <;> first
    | (simp; done)
    | (simp [*]; done)
    | (have e := State.but_fst 2164260865 ‹_ = (_, _)›; simp at e; simp [e]; done)
    | (have e := State.but_snd 2164260865 ‹_ = (_, _)›; simp at e; simp [e]; done))

@[simp] theorem State.fuseBurned_but {u : Nat} (hu : u &&& 3446510237 = 3446510237) (s : State) (ok : Bool) :
    (State.fuseBurned s ok).but u = s.but u := by
  refine State.but_mono hu ?_
  unfold State.fuseBurned
  first
  | (simp; done)
  | ((try dsimp only); (repeat' split) <;> first
    | (simp; done)
    | (simp [*]; done)
    | (have e := State.but_fst 3446510237 ‹_ = (_, _)›; simp at e; simp [e]; done)
    | (have e := State.but_snd 3446510237 ‹_ = (_, _)›; simp at e; simp [e]; done))

@[simp] theorem State.fuseTake_but {u : Nat} (hu : u &&& 1 = 1) (s : State) :
    (State.fuseTake s).2.but u = s.but u := by
  refine State.but_mono hu ?_
  unfold State.fuseTake
  first
  | (simp; done)
  | ((try dsimp only); (repeat' split) <;> first
    | (simp; done)
    | (simp [*]; done)
    | (have e := State.but_fst 1 ‹_ = (_, _)›; simp at e; simp [e]; done)
    | (have e := State.but_snd 1 ‹_ = (_, _)›; simp at e; simp [e]; done))

theorem execTdmStageFw_but {u : Nat} (hu : u &&& 2200174593 = 2200174593) (r : Sys2Proof.HostRead) (s : State) {z : State} (h : execTdmStageFw r s = .next z) :
    z.but u = s.but u := by
  refine State.but_mono hu ?_
  revert h
  unfold execTdmStageFw
  (try dsimp only)
  intro h
  obtain rfl := Host.Outcome.next.inj h
  clear h
  first
  | (simp; done)
  | ((repeat' split) <;> first
    | (simp; done)
    | (simp [*]; done)
    | (have e := State.but_fst 2200174593 ‹_ = (_, _)›; simp at e; simp [e]; done)
    | (have e := State.but_snd 2200174593 ‹_ = (_, _)›; simp at e; simp [e]; done))

theorem execBootStart_but {u : Nat} (hu : u &&& 2167407105 = 2167407105) (s : State) {z : State} (h : execBootStart s = .next z) :
    z.but u = s.but u := by
  refine State.but_mono hu ?_
  revert h
  unfold execBootStart
  (try dsimp only)
  intro h
  obtain rfl := Host.Outcome.next.inj h
  clear h
  first
  | (simp; done)
  | ((repeat' split) <;> first
    | (simp; done)
    | (simp [*]; done)
    | (have e := State.but_fst 2167407105 ‹_ = (_, _)›; simp at e; simp [e]; done)
    | (have e := State.but_snd 2167407105 ‹_ = (_, _)›; simp at e; simp [e]; done))

theorem execCandidateAccepted_but {u : Nat} (hu : u &&& 2162689 = 2162689) (s : State) {z : State} (h : execCandidateAccepted s = .next z) :
    z.but u = s.but u := by
  refine State.but_mono hu ?_
  revert h
  unfold execCandidateAccepted
  (try dsimp only)
  intro h
  obtain rfl := Host.Outcome.next.inj h
  clear h
  first
  | (simp; done)
  | ((repeat' split) <;> first
    | (simp; done)
    | (simp [*]; done)
    | (have e := State.but_fst 2162689 ‹_ = (_, _)›; simp at e; simp [e]; done)
    | (have e := State.but_snd 2162689 ‹_ = (_, _)›; simp at e; simp [e]; done))

theorem execFlashCopy_but {u : Nat} (hu : u &&& 2166358017 = 2166358017) (verifyOk : Bool) (s : State) {z : State} (h : execFlashCopy verifyOk s = .next z) :
    z.but u = s.but u := by
  refine State.but_mono hu ?_
  revert h
  unfold execFlashCopy
  (try dsimp only)
  intro h
  obtain rfl := Host.Outcome.next.inj h
  clear h
  first
  | (simp; done)
  | ((repeat' split) <;> first
    | (simp; done)
    | (simp [*]; done)
    | (have e := State.but_fst 2166358017 ‹_ = (_, _)›; simp at e; simp [e]; done)
    | (have e := State.but_snd 2166358017 ‹_ = (_, _)›; simp at e; simp [e]; done))

theorem execBootTraverse_but {u : Nat} (hu : u &&& 3442315933 = 3442315933) (m : Sys2Proof.Master) (s : State) {z : State} (h : execBootTraverse m s = .next z) :
    z.but u = s.but u := by
  refine State.but_mono hu ?_
  revert h
  unfold execBootTraverse
  (try dsimp only)
  intro h
  obtain rfl := Host.Outcome.next.inj h
  clear h
  first
  | (simp; done)
  | ((repeat' split) <;> first
    | (simp; done)
    | (simp [*]; done)
    | (have e := State.but_fst 3442315933 ‹_ = (_, _)›; simp at e; simp [e]; done)
    | (have e := State.but_snd 3442315933 ‹_ = (_, _)›; simp at e; simp [e]; done))

theorem execBootLive_but {u : Nat} (hu : u &&& 3374317569 = 3374317569) (m : Sys2Proof.Master) (s : State) {z : State} (h : execBootLive m s = .next z) :
    z.but u = s.but u := by
  refine State.but_mono hu ?_
  revert h
  unfold execBootLive
  (try dsimp only)
  intro h
  obtain rfl := Host.Outcome.next.inj h
  clear h
  first
  | (simp; done)
  | ((repeat' split) <;> first
    | (simp; done)
    | (simp [*]; done)
    | (have e := State.but_fst 3374317569 ‹_ = (_, _)›; simp at e; simp [e]; done)
    | (have e := State.but_snd 3374317569 ‹_ = (_, _)›; simp at e; simp [e]; done))

theorem execHeadlessTimeout_but {u : Nat} (hu : u &&& 2300575745 = 2300575745) (s : State) {z : State} (h : execHeadlessTimeout s = .next z) :
    z.but u = s.but u := by
  refine State.but_mono hu ?_
  revert h
  unfold execHeadlessTimeout
  (try dsimp only)
  intro h
  obtain rfl := Host.Outcome.next.inj h
  clear h
  first
  | (simp; done)
  | ((repeat' split) <;> first
    | (simp; done)
    | (simp [*]; done)
    | (have e := State.but_fst 2300575745 ‹_ = (_, _)›; simp at e; simp [e]; done)
    | (have e := State.but_snd 2300575745 ‹_ = (_, _)›; simp at e; simp [e]; done))

@[simp] theorem State.unstage_but {u : Nat} (hu : u &&& 2166358017 = 2166358017) (s : State) :
    (State.unstage s).but u = s.but u := by
  refine State.but_mono hu ?_
  unfold State.unstage
  first
  | (simp; done)
  | ((try dsimp only); (repeat' split) <;> first
    | (simp; done)
    | (simp [*]; done)
    | (have e := State.but_fst 2166358017 ‹_ = (_, _)›; simp at e; simp [e]; done)
    | (have e := State.but_snd 2166358017 ‹_ = (_, _)›; simp at e; simp [e]; done))

theorem execBootUnstage_but {u : Nat} (hu : u &&& 3240099841 = 3240099841) (m : Sys2Proof.Master) (s : State) {z : State} (h : execBootUnstage m s = .next z) :
    z.but u = s.but u := by
  refine State.but_mono hu ?_
  revert h
  unfold execBootUnstage
  (try dsimp only)
  intro h
  obtain rfl := Host.Outcome.next.inj h
  clear h
  first
  | (simp; done)
  | ((repeat' split) <;> first
    | (simp; done)
    | (simp [*]; done)
    | (have e := State.but_fst 3240099841 ‹_ = (_, _)›; simp at e; simp [e]; done)
    | (have e := State.but_snd 3240099841 ‹_ = (_, _)›; simp at e; simp [e]; done))

theorem execSecAttest_but {u : Nat} (hu : u &&& 3242196993 = 3242196993) (m : Sys2Proof.Master) (s : State) {z : State} (h : execSecAttest m s = .next z) :
    z.but u = s.but u := by
  refine State.but_mono hu ?_
  revert h
  unfold execSecAttest
  (try dsimp only)
  intro h
  obtain rfl := Host.Outcome.next.inj h
  clear h
  first
  | (simp; done)
  | ((repeat' split) <;> first
    | (simp; done)
    | (simp [*]; done)
    | (have e := State.but_fst 3242196993 ‹_ = (_, _)›; simp at e; simp [e]; done)
    | (have e := State.but_snd 3242196993 ‹_ = (_, _)›; simp at e; simp [e]; done))

theorem execAttestDone_but {u : Nat} (hu : u &&& 2168455169 = 2168455169) (dmaOk : Bool) (s : State) {z : State} (h : execAttestDone dmaOk s = .next z) :
    z.but u = s.but u := by
  refine State.but_mono hu ?_
  revert h
  unfold execAttestDone
  (try dsimp only)
  intro h
  obtain rfl := Host.Outcome.next.inj h
  clear h
  first
  | (simp; done)
  | ((repeat' split) <;> first
    | (simp; done)
    | (simp [*]; done)
    | (have e := State.but_fst 2168455169 ‹_ = (_, _)›; simp at e; simp [e]; done)
    | (have e := State.but_snd 2168455169 ‹_ = (_, _)›; simp at e; simp [e]; done))

theorem execSecCommit_but {u : Nat} (hu : u &&& 3238002689 = 3238002689) (m : Sys2Proof.Master) (s : State) {z : State} (h : execSecCommit m s = .next z) :
    z.but u = s.but u := by
  refine State.but_mono hu ?_
  revert h
  unfold execSecCommit
  (try dsimp only)
  intro h
  obtain rfl := Host.Outcome.next.inj h
  clear h
  first
  | (simp; done)
  | ((repeat' split) <;> first
    | (simp; done)
    | (simp [*]; done)
    | (have e := State.but_fst 3238002689 ‹_ = (_, _)›; simp at e; simp [e]; done)
    | (have e := State.but_snd 3238002689 ‹_ = (_, _)›; simp at e; simp [e]; done))

theorem execCommitDone_but {u : Nat} (hu : u &&& 3446510237 = 3446510237) (ok : Bool) (s : State) {z : State} (h : execCommitDone ok s = .next z) :
    z.but u = s.but u := by
  refine State.but_mono hu ?_
  revert h
  unfold execCommitDone
  (try dsimp only)
  intro h
  obtain rfl := Host.Outcome.next.inj h
  clear h
  first
  | (simp; done)
  | ((repeat' split) <;> first
    | (simp; done)
    | (simp [*]; done)
    | (have e := State.but_fst 3446510237 ‹_ = (_, _)›; simp at e; simp [e]; done)
    | (have e := State.but_snd 3446510237 ‹_ = (_, _)›; simp at e; simp [e]; done))

theorem execSecFuseRead_but {u : Nat} (hu : u &&& 3238002689 = 3238002689) (m : Sys2Proof.Master) (s : State) {z : State} (h : execSecFuseRead m s = .next z) :
    z.but u = s.but u := by
  refine State.but_mono hu ?_
  revert h
  unfold execSecFuseRead
  (try dsimp only)
  intro h
  obtain rfl := Host.Outcome.next.inj h
  clear h
  first
  | (simp; done)
  | ((repeat' split) <;> first
    | (simp; done)
    | (simp [*]; done)
    | (have e := State.but_fst 3238002689 ‹_ = (_, _)›; simp at e; simp [e]; done)
    | (have e := State.but_snd 3238002689 ‹_ = (_, _)›; simp at e; simp [e]; done))

theorem execWatchdogExpire_but {u : Nat} (hu : u &&& 2368574109 = 2368574109) (core : Nat) (s : State) {z : State} (h : execWatchdogExpire core s = .next z) :
    z.but u = s.but u := by
  refine State.but_mono hu ?_
  revert h
  unfold execWatchdogExpire
  (try dsimp only)
  intro h
  obtain rfl := Host.Outcome.next.inj h
  clear h
  first
  | (simp; done)
  | ((repeat' split) <;> first
    | (simp; done)
    | (simp [*]; done)
    | (have e := State.but_fst 2368574109 ‹_ = (_, _)›; simp at e; simp [e]; done)
    | (have e := State.but_snd 2368574109 ‹_ = (_, _)›; simp at e; simp [e]; done))

/-! ## Mirror -/

@[simp] theorem State.mirrorAt_but {u : Nat} (hu : u &&& 2164260865 = 2164260865) (s : State) (time : Nat) :
    (State.mirrorAt s time).but u = s.but u := by
  refine State.but_mono hu ?_
  unfold State.mirrorAt
  first
  | (simp; done)
  | ((try dsimp only); (repeat' split) <;> first
    | (simp; done)
    | (simp [*]; done)
    | (have e := State.but_fst 2164260865 ‹_ = (_, _)›; simp at e; simp [e]; done)
    | (have e := State.but_snd 2164260865 ‹_ = (_, _)›; simp at e; simp [e]; done))

theorem execMirrorWrite_but {u : Nat} (hu : u &&& 2164260865 = 2164260865) (s : State) {z : State} (h : execMirrorWrite s = .next z) :
    z.but u = s.but u := by
  refine State.but_mono hu ?_
  revert h
  unfold execMirrorWrite
  (try dsimp only)
  intro h
  obtain rfl := Host.Outcome.next.inj h
  clear h
  first
  | (simp; done)
  | ((repeat' split) <;> first
    | (simp; done)
    | (simp [*]; done)
    | (have e := State.but_fst 2164260865 ‹_ = (_, _)›; simp at e; simp [e]; done)
    | (have e := State.but_snd 2164260865 ‹_ = (_, _)›; simp at e; simp [e]; done))

/-! ## Boundaries -/

@[simp] theorem State.pitchDuties_but {u : Nat} (hu : u &&& 2164269061 = 2164269061) (s : State) :
    (State.pitchDuties s).but u = s.but u := by
  refine State.but_mono hu ?_
  unfold State.pitchDuties
  first
  | (simp; done)
  | ((try dsimp only); (repeat' split) <;> first
    | (simp; done)
    | (simp [*]; done)
    | (have e := State.but_fst 2164269061 ‹_ = (_, _)›; simp at e; simp [e]; done)
    | (have e := State.but_snd 2164269061 ‹_ = (_, _)›; simp at e; simp [e]; done))

@[simp] theorem State.drainEpoch_but {u : Nat} (hu : u &&& 8388609 = 8388609) (s : State) :
    (State.drainEpoch s).but u = s.but u := by
  refine State.but_mono hu ?_
  unfold State.drainEpoch
  first
  | (simp; done)
  | ((try dsimp only); (repeat' split) <;> first
    | (simp; done)
    | (simp [*]; done)
    | (have e := State.but_fst 8388609 ‹_ = (_, _)›; simp at e; simp [e]; done)
    | (have e := State.but_snd 8388609 ‹_ = (_, _)›; simp at e; simp [e]; done))

@[simp] theorem State.epochDuties_but {u : Nat} (hu : u &&& 2172715029 = 2172715029) (s : State) :
    (State.epochDuties s).but u = s.but u := by
  refine State.but_mono hu ?_
  unfold State.epochDuties
  first
  | (simp; done)
  | ((try dsimp only); (repeat' split) <;> first
    | (simp; done)
    | (simp [*]; done)
    | (have e := State.but_fst 2172715029 ‹_ = (_, _)›; simp at e; simp [e]; done)
    | (have e := State.but_snd 2172715029 ‹_ = (_, _)›; simp at e; simp [e]; done))

theorem execPitchBoundary_but {u : Nat} (hu : u &&& 2164269061 = 2164269061) (s : State) {z : State} (h : execPitchBoundary s = .next z) :
    z.but u = s.but u := by
  refine State.but_mono hu ?_
  revert h
  unfold execPitchBoundary
  (try dsimp only)
  intro h
  obtain rfl := Host.Outcome.next.inj h
  clear h
  first
  | (simp; done)
  | ((repeat' split) <;> first
    | (simp; done)
    | (simp [*]; done)
    | (have e := State.but_fst 2164269061 ‹_ = (_, _)›; simp at e; simp [e]; done)
    | (have e := State.but_snd 2164269061 ‹_ = (_, _)›; simp at e; simp [e]; done))

theorem execEpochBoundary_but {u : Nat} (hu : u &&& 2172715029 = 2172715029) (s : State) {z : State} (h : execEpochBoundary s = .next z) :
    z.but u = s.but u := by
  refine State.but_mono hu ?_
  revert h
  unfold execEpochBoundary
  (try dsimp only)
  intro h
  obtain rfl := Host.Outcome.next.inj h
  clear h
  first
  | (simp; done)
  | ((repeat' split) <;> first
    | (simp; done)
    | (simp [*]; done)
    | (have e := State.but_fst 2172715029 ‹_ = (_, _)›; simp at e; simp [e]; done)
    | (have e := State.but_snd 2172715029 ‹_ = (_, _)›; simp at e; simp [e]; done))

/-! ## Cairn -/

@[simp] theorem State.crnLog_but {u : Nat} (hu : u &&& 32 = 32) (s : State) (e : Sys2Proof.Machine.CrnLog) :
    (State.crnLog s e).but u = s.but u := by
  refine State.but_mono hu ?_
  unfold State.crnLog
  first
  | (simp; done)
  | ((try dsimp only); (repeat' split) <;> first
    | (simp; done)
    | (simp [*]; done)
    | (have e := State.but_fst 32 ‹_ = (_, _)›; simp at e; simp [e]; done)
    | (have e := State.but_snd 32 ‹_ = (_, _)›; simp at e; simp [e]; done))

@[simp] theorem State.crnResult_but {u : Nat} (hu : u &&& 1 = 1) (s : State) (slot : Nat) (seq : Nat) (status : Nat) :
    (State.crnResult s slot seq status).but u = s.but u := by
  refine State.but_mono hu ?_
  unfold State.crnResult
  first
  | (simp; done)
  | ((try dsimp only); (repeat' split) <;> first
    | (simp; done)
    | (simp [*]; done)
    | (have e := State.but_fst 1 ‹_ = (_, _)›; simp at e; simp [e]; done)
    | (have e := State.but_snd 1 ‹_ = (_, _)›; simp at e; simp [e]; done))

@[simp] theorem State.crnLate_but {u : Nat} (hu : u &&& 2164260865 = 2164260865) (s : State) (mask : Nat) :
    (State.crnLate s mask).but u = s.but u := by
  refine State.but_mono hu ?_
  unfold State.crnLate
  first
  | (simp; done)
  | ((try dsimp only); (repeat' split) <;> first
    | (simp; done)
    | (simp [*]; done)
    | (have e := State.but_fst 2164260865 ‹_ = (_, _)›; simp at e; simp [e]; done)
    | (have e := State.but_snd 2164260865 ‹_ = (_, _)›; simp at e; simp [e]; done))

@[simp] theorem State.crnBusyOut_but {u : Nat} (hu : u &&& 2164260865 = 2164260865) (s : State) (mask : Nat) :
    (State.crnBusyOut s mask).but u = s.but u := by
  refine State.but_mono hu ?_
  unfold State.crnBusyOut
  first
  | (simp; done)
  | ((try dsimp only); (repeat' split) <;> first
    | (simp; done)
    | (simp [*]; done)
    | (have e := State.but_fst 2164260865 ‹_ = (_, _)›; simp at e; simp [e]; done)
    | (have e := State.but_snd 2164260865 ‹_ = (_, _)›; simp at e; simp [e]; done))

@[simp] theorem State.crnFull_but {u : Nat} (hu : u &&& 2164260865 = 2164260865) (s : State) :
    (State.crnFull s).but u = s.but u := by
  refine State.but_mono hu ?_
  unfold State.crnFull
  first
  | (simp; done)
  | ((try dsimp only); (repeat' split) <;> first
    | (simp; done)
    | (simp [*]; done)
    | (have e := State.but_fst 2164260865 ‹_ = (_, _)›; simp at e; simp [e]; done)
    | (have e := State.but_snd 2164260865 ‹_ = (_, _)›; simp at e; simp [e]; done))

@[simp] theorem State.postRefused_but {u : Nat} (hu : u &&& 2164260865 = 2164260865) (s : State) (status : Nat) (mask : Nat) :
    (State.postRefused s status mask).but u = s.but u := by
  refine State.but_mono hu ?_
  unfold State.postRefused
  first
  | (simp; done)
  | ((try dsimp only); (repeat' split) <;> first
    | (simp; done)
    | (simp [*]; done)
    | (have e := State.but_fst 2164260865 ‹_ = (_, _)›; simp at e; simp [e]; done)
    | (have e := State.but_snd 2164260865 ‹_ = (_, _)›; simp at e; simp [e]; done))

@[simp] theorem State.cairnCells_but {u : Nat} (hu : u &&& 2164260865 = 2164260865) (s : State) (a : Sys2Proof.Machine.Armed) (except : Option Nat) :
    (State.cairnCells s a except).but u = s.but u := by
  refine State.but_mono hu ?_
  unfold State.cairnCells
  first
  | (simp; done)
  | ((try dsimp only); (repeat' split) <;> first
    | (simp; done)
    | (simp [*]; done)
    | (have e := State.but_fst 2164260865 ‹_ = (_, _)›; simp at e; simp [e]; done)
    | (have e := State.but_snd 2164260865 ‹_ = (_, _)›; simp at e; simp [e]; done))

@[simp] theorem State.arm_but {u : Nat} (hu : u &&& 32 = 32) (s : State) (a : Sys2Proof.Machine.Armed) :
    (State.arm s a).but u = s.but u := by
  refine State.but_mono hu ?_
  unfold State.arm
  first
  | (simp; done)
  | ((try dsimp only); (repeat' split) <;> first
    | (simp; done)
    | (simp [*]; done)
    | (have e := State.but_fst 32 ‹_ = (_, _)›; simp at e; simp [e]; done)
    | (have e := State.but_snd 32 ‹_ = (_, _)›; simp at e; simp [e]; done))

@[simp] theorem State.seePair_but {u : Nat} (hu : u &&& 32 = 32) (s : State) (origin : Nat) (seq : Nat) :
    (State.seePair s origin seq).but u = s.but u := by
  refine State.but_mono hu ?_
  unfold State.seePair
  first
  | (simp; done)
  | ((try dsimp only); (repeat' split) <;> first
    | (simp; done)
    | (simp [*]; done)
    | (have e := State.but_fst 32 ‹_ = (_, _)›; simp at e; simp [e]; done)
    | (have e := State.but_snd 32 ‹_ = (_, _)›; simp at e; simp [e]; done))

@[simp] theorem State.armOwn_but {u : Nat} (hu : u &&& 2164260897 = 2164260897) (s : State) (a : Sys2Proof.Machine.Armed) :
    (State.armOwn s a).but u = s.but u := by
  refine State.but_mono hu ?_
  unfold State.armOwn
  first
  | (simp; done)
  | ((try dsimp only); (repeat' split) <;> first
    | (simp; done)
    | (simp [*]; done)
    | (have e := State.but_fst 2164260897 ‹_ = (_, _)›; simp at e; simp [e]; done)
    | (have e := State.but_snd 2164260897 ‹_ = (_, _)›; simp at e; simp [e]; done))

@[simp] theorem State.post_but {u : Nat} (hu : u &&& 2164260897 = 2164260897) (s : State) (slot : Nat) :
    (State.post s slot).but u = s.but u := by
  refine State.but_mono hu ?_
  unfold State.post
  first
  | (simp; done)
  | ((try dsimp only); (repeat' split) <;> first
    | (simp; done)
    | (simp [*]; done)
    | (have e := State.but_fst 2164260897 ‹_ = (_, _)›; simp at e; simp [e]; done)
    | (have e := State.but_snd 2164260897 ‹_ = (_, _)›; simp at e; simp [e]; done))

@[simp] theorem State.logStatus_but {u : Nat} (hu : u &&& 32 = 32) (s : State) (a : Sys2Proof.Machine.Armed) (status : Nat) :
    (State.logStatus s a status).but u = s.but u := by
  refine State.but_mono hu ?_
  unfold State.logStatus
  first
  | (simp; done)
  | ((try dsimp only); (repeat' split) <;> first
    | (simp; done)
    | (simp [*]; done)
    | (have e := State.but_fst 32 ‹_ = (_, _)›; simp at e; simp [e]; done)
    | (have e := State.but_snd 32 ‹_ = (_, _)›; simp at e; simp [e]; done))

@[simp] theorem State.disarm_but {u : Nat} (hu : u &&& 32 = 32) (s : State) (a : Sys2Proof.Machine.Armed) :
    (State.disarm s a).but u = s.but u := by
  refine State.but_mono hu ?_
  unfold State.disarm
  first
  | (simp; done)
  | ((try dsimp only); (repeat' split) <;> first
    | (simp; done)
    | (simp [*]; done)
    | (have e := State.but_fst 32 ‹_ = (_, _)›; simp at e; simp [e]; done)
    | (have e := State.but_snd 32 ‹_ = (_, _)›; simp at e; simp [e]; done))

@[simp] theorem State.cancel_but {u : Nat} (hu : u &&& 33 = 33) (s : State) (slot : Nat) (seq : Nat) :
    (State.cancel s slot seq).but u = s.but u := by
  refine State.but_mono hu ?_
  unfold State.cancel
  first
  | (simp; done)
  | ((try dsimp only); (repeat' split) <;> first
    | (simp; done)
    | (simp [*]; done)
    | (have e := State.but_fst 33 ‹_ = (_, _)›; simp at e; simp [e]; done)
    | (have e := State.but_snd 33 ‹_ = (_, _)›; simp at e; simp [e]; done))

@[simp] theorem State.crnGo_but {u : Nat} (hu : u &&& 2164260897 = 2164260897) (s : State) (m : Sys2Proof.Master) (slot : Nat) (v : Nat) :
    (State.crnGo s m slot v).but u = s.but u := by
  refine State.but_mono hu ?_
  unfold State.crnGo
  first
  | (simp; done)
  | ((try dsimp only); (repeat' split) <;> first
    | (simp; done)
    | (simp [*]; done)
    | (have e := State.but_fst 2164260897 ‹_ = (_, _)›; simp at e; simp [e]; done)
    | (have e := State.but_snd 2164260897 ‹_ = (_, _)›; simp at e; simp [e]; done))

@[simp] theorem State.cairnIn_but {u : Nat} (hu : u &&& 2164260897 = 2164260897) (s : State) (link : Nat) (c : Sys2Proof.CairnCell) :
    (State.cairnIn s link c).but u = s.but u := by
  refine State.but_mono hu ?_
  unfold State.cairnIn
  first
  | (simp; done)
  | ((try dsimp only); (repeat' split) <;> first
    | (simp; done)
    | (simp [*]; done)
    | (have e := State.but_fst 2164260897 ‹_ = (_, _)›; simp at e; simp [e]; done)
    | (have e := State.but_snd 2164260897 ‹_ = (_, _)›; simp at e; simp [e]; done))

@[simp] theorem State.setArmed_but {u : Nat} (hu : u &&& 32 = 32) (s : State) (a : Sys2Proof.Machine.Armed) (b : Sys2Proof.Machine.Armed) :
    (State.setArmed s a b).but u = s.but u := by
  refine State.but_mono hu ?_
  unfold State.setArmed
  first
  | (simp; done)
  | ((try dsimp only); (repeat' split) <;> first
    | (simp; done)
    | (simp [*]; done)
    | (have e := State.but_fst 32 ‹_ = (_, _)›; simp at e; simp [e]; done)
    | (have e := State.but_snd 32 ‹_ = (_, _)›; simp at e; simp [e]; done))

@[simp] theorem State.crnRepeat_but {u : Nat} (hu : u &&& 2164260897 = 2164260897) (s : State) (seq : Nat) :
    (State.crnRepeat s seq).but u = s.but u := by
  refine State.but_mono hu ?_
  unfold State.crnRepeat
  first
  | (simp; done)
  | ((try dsimp only); (repeat' split) <;> first
    | (simp; done)
    | (simp [*]; done)
    | (have e := State.but_fst 2164260897 ‹_ = (_, _)›; simp at e; simp [e]; done)
    | (have e := State.but_snd 2164260897 ‹_ = (_, _)›; simp at e; simp [e]; done))

@[simp] theorem State.swapBanks_but {u : Nat} (hu : u &&& 64 = 64) (s : State) (p : Nat) (gen : Nat) (target : Nat) :
    (State.swapBanks s p gen target).but u = s.but u := by
  refine State.but_mono hu ?_
  unfold State.swapBanks
  first
  | (simp; done)
  | ((try dsimp only); (repeat' split) <;> first
    | (simp; done)
    | (simp [*]; done)
    | (have e := State.but_fst 64 ‹_ = (_, _)›; simp at e; simp [e]; done)
    | (have e := State.but_snd 64 ‹_ = (_, _)›; simp at e; simp [e]; done))

@[simp] theorem State.commitBanks_but {u : Nat} (hu : u &&& 65 = 65) (s : State) (p : Nat) (target : Nat) :
    (State.commitBanks s p target).but u = s.but u := by
  refine State.but_mono hu ?_
  unfold State.commitBanks
  first
  | (simp; done)
  | ((try dsimp only); (repeat' split) <;> first
    | (simp; done)
    | (simp [*]; done)
    | (have e := State.but_fst 65 ‹_ = (_, _)›; simp at e; simp [e]; done)
    | (have e := State.but_snd 65 ‹_ = (_, _)›; simp at e; simp [e]; done))

@[simp] theorem State.commitRegs_but {u : Nat} (hu : u &&& 2164260865 = 2164260865) (s : State) (p : Nat) :
    (State.commitRegs s p).but u = s.but u := by
  refine State.but_mono hu ?_
  unfold State.commitRegs
  first
  | (simp; done)
  | ((try dsimp only); (repeat' split) <;> first
    | (simp; done)
    | (simp [*]; done)
    | (have e := State.but_fst 2164260865 ‹_ = (_, _)›; simp at e; simp [e]; done)
    | (have e := State.but_snd 2164260865 ‹_ = (_, _)›; simp at e; simp [e]; done))

@[simp] theorem State.shaperCommit_but {u : Nat} (hu : u &&& 1024 = 1024) (s : State) (e : Nat × Nat) :
    (State.shaperCommit s e).but u = s.but u := by
  refine State.but_mono hu ?_
  unfold State.shaperCommit
  first
  | (simp; done)
  | ((try dsimp only); (repeat' split) <;> first
    | (simp; done)
    | (simp [*]; done)
    | (have e := State.but_fst 1024 ‹_ = (_, _)›; simp at e; simp [e]; done)
    | (have e := State.but_snd 1024 ‹_ = (_, _)›; simp at e; simp [e]; done))

@[simp] theorem State.mapsCommit_but {u : Nat} (hu : u &&& 1024 = 1024) (s : State) :
    (State.mapsCommit s).but u = s.but u := by
  refine State.but_mono hu ?_
  unfold State.mapsCommit
  first
  | (simp; done)
  | ((try dsimp only); (repeat' split) <;> first
    | (simp; done)
    | (simp [*]; done)
    | (have e := State.but_fst 1024 ‹_ = (_, _)›; simp at e; simp [e]; done)
    | (have e := State.but_snd 1024 ‹_ = (_, _)›; simp at e; simp [e]; done))

@[simp] theorem State.calendarCommit_but {u : Nat} (hu : u &&& 2164269057 = 2164269057) (s : State) (p : Nat) :
    (State.calendarCommit s p).but u = s.but u := by
  refine State.but_mono hu ?_
  unfold State.calendarCommit
  first
  | (simp; done)
  | ((try dsimp only); (repeat' split) <;> first
    | (simp; done)
    | (simp [*]; done)
    | (have e := State.but_fst 2164269057 ‹_ = (_, _)›; simp at e; simp [e]; done)
    | (have e := State.but_snd 2164269057 ‹_ = (_, _)›; simp at e; simp [e]; done))

@[simp] theorem State.afterCommit_but {u : Nat} (hu : u &&& 2172838919 = 2172838919) (before s : State) (p : Nat) : (State.afterCommit before s p).but u = s.but u := by
  refine State.but_mono hu ?_
  unfold State.afterCommit
  (repeat' split) <;> simp

@[simp] theorem State.commitGroup_but {u : Nat} (hu : u &&& 2172838983 = 2172838983) (target : Nat) (s : State) (p : Nat) :
    (State.commitGroup target s p).but u = s.but u := by
  refine State.but_mono hu ?_
  unfold State.commitGroup
  first
  | (simp; done)
  | ((try dsimp only); (repeat' split) <;> first
    | (simp; done)
    | (simp [*]; done)
    | (have e := State.but_fst 2172838983 ‹_ = (_, _)›; simp at e; simp [e]; done)
    | (have e := State.but_snd 2172838983 ‹_ = (_, _)›; simp at e; simp [e]; done))

@[simp] theorem State.commitModes_but {u : Nat} (hu : u &&& 2376962717 = 2376962717) (before s : State) (mask : Nat) :
    (State.commitModes before s mask).but u = s.but u := by
  refine State.but_mono hu ?_
  unfold State.commitModes
  dsimp only
  (repeat' split) <;> simp

@[simp] theorem State.settleStep_but {u : Nat} (hu : u &&& 2164441089 = 2164441089) (s : State) (old : Nat) :
    (State.settleStep s old).but u = s.but u := by
  refine State.but_mono hu ?_
  unfold State.settleStep
  first
  | (simp; done)
  | ((try dsimp only); (repeat' split) <;> first
    | (simp; done)
    | (simp [*]; done)
    | (have e := State.but_fst 2164441089 ‹_ = (_, _)›; simp at e; simp [e]; done)
    | (have e := State.but_snd 2164441089 ‹_ = (_, _)›; simp at e; simp [e]; done))

@[simp] theorem State.applyStep_but {u : Nat} (hu : u &&& 2164441093 = 2164441093) (s : State) (target : Nat) :
    (State.applyStep s target).but u = s.but u := by
  refine State.but_mono hu ?_
  unfold State.applyStep
  first
  | (simp; done)
  | ((try dsimp only); (repeat' split) <;> first
    | (simp; done)
    | (simp [*]; done)
    | (have e := State.but_fst 2164441093 ‹_ = (_, _)›; simp at e; simp [e]; done)
    | (have e := State.but_snd 2164441093 ‹_ = (_, _)›; simp at e; simp [e]; done))

@[simp] theorem State.commitOne_but {u : Nat} (hu : u &&& 2381313791 = 2381313791) (s : State) (a : Sys2Proof.Machine.Armed) :
    (State.commitOne s a).but u = s.but u := by
  refine State.but_mono hu ?_
  unfold State.commitOne
  first
  | (simp; done)
  | ((try dsimp only); (repeat' split) <;> first
    | (simp; done)
    | (simp [*]; done)
    | (have e := State.but_fst 2381313791 ‹_ = (_, _)›; simp at e; simp [e]; done)
    | (have e := State.but_snd 2381313791 ‹_ = (_, _)›; simp at e; simp [e]; done))

@[simp] theorem State.commitDue_but {u : Nat} (hu : u &&& 2381313791 = 2381313791) (fuel : Nat) (s : State) :
    (State.commitDue fuel s).but u = s.but u := by
  refine State.but_mono hu ?_
  induction fuel generalizing s with
  | zero => rfl
  | succ k ih =>
    unfold State.commitDue
    split
    · rw [ih]; simp
    · rfl

@[simp] theorem State.afterStep_but {u : Nat} (hu : u &&& 2172723221 = 2172723221) (s : State) (old : Nat) :
    (State.afterStep s old).but u = s.but u := by
  refine State.but_mono hu ?_
  unfold State.afterStep
  first
  | (simp; done)
  | ((try dsimp only); (repeat' split) <;> first
    | (simp; done)
    | (simp [*]; done)
    | (have e := State.but_fst 2172723221 ‹_ = (_, _)›; simp at e; simp [e]; done)
    | (have e := State.but_snd 2172723221 ‹_ = (_, _)›; simp at e; simp [e]; done))

@[simp] theorem State.commitAll_but {u : Nat} (hu : u &&& 2381313791 = 2381313791) (s : State) :
    (State.commitAll s).but u = s.but u := by
  refine State.but_mono hu ?_
  unfold State.commitAll
  first
  | (simp; done)
  | ((try dsimp only); (repeat' split) <;> first
    | (simp; done)
    | (simp [*]; done)
    | (have e := State.but_fst 2381313791 ‹_ = (_, _)›; simp at e; simp [e]; done)
    | (have e := State.but_snd 2381313791 ‹_ = (_, _)›; simp at e; simp [e]; done))

@[simp] theorem State.retire_but {u : Nat} (hu : u &&& 64 = 64) (s : State) (p : Nat) :
    (State.retire s p).but u = s.but u := by
  refine State.but_mono hu ?_
  unfold State.retire
  first
  | (simp; done)
  | ((try dsimp only); (repeat' split) <;> first
    | (simp; done)
    | (simp [*]; done)
    | (have e := State.but_fst 64 ‹_ = (_, _)›; simp at e; simp [e]; done)
    | (have e := State.but_snd 64 ‹_ = (_, _)›; simp at e; simp [e]; done))

theorem execCairnPost_but {u : Nat} (hu : u &&& 3238002721 = 3238002721) (m : Sys2Proof.Master) (slot : Nat) (s : State) {z : State} (h : execCairnPost m slot s = .next z) :
    z.but u = s.but u := by
  refine State.but_mono hu ?_
  revert h
  unfold execCairnPost
  (try dsimp only)
  intro h
  obtain rfl := Host.Outcome.next.inj h
  clear h
  first
  | (simp; done)
  | ((repeat' split) <;> first
    | (simp; done)
    | (simp [*]; done)
    | (have e := State.but_fst 3238002721 ‹_ = (_, _)›; simp at e; simp [e]; done)
    | (have e := State.but_snd 3238002721 ‹_ = (_, _)›; simp at e; simp [e]; done))

theorem execCairnCancel_but {u : Nat} (hu : u &&& 3238002721 = 3238002721) (m : Sys2Proof.Master) (slot : Nat) (seq : Nat) (s : State) {z : State} (h : execCairnCancel m slot seq s = .next z) :
    z.but u = s.but u := by
  refine State.but_mono hu ?_
  revert h
  unfold execCairnCancel
  (try dsimp only)
  intro h
  obtain rfl := Host.Outcome.next.inj h
  clear h
  first
  | (simp; done)
  | ((repeat' split) <;> first
    | (simp; done)
    | (simp [*]; done)
    | (have e := State.but_fst 3238002721 ‹_ = (_, _)›; simp at e; simp [e]; done)
    | (have e := State.but_snd 3238002721 ‹_ = (_, _)›; simp at e; simp [e]; done))

theorem execCairnCommit_but {u : Nat} (hu : u &&& 2381313791 = 2381313791) (s : State) {z : State} (h : execCairnCommit s = .next z) :
    z.but u = s.but u := by
  refine State.but_mono hu ?_
  revert h
  unfold execCairnCommit
  (try dsimp only)
  intro h
  obtain rfl := Host.Outcome.next.inj h
  clear h
  first
  | (simp; done)
  | ((repeat' split) <;> first
    | (simp; done)
    | (simp [*]; done)
    | (have e := State.but_fst 2381313791 ‹_ = (_, _)›; simp at e; simp [e]; done)
    | (have e := State.but_snd 2381313791 ‹_ = (_, _)›; simp at e; simp [e]; done))

theorem execBankRetire_but {u : Nat} (hu : u &&& 64 = 64) (page : Nat) (s : State) {z : State} (h : execBankRetire page s = .next z) :
    z.but u = s.but u := by
  refine State.but_mono hu ?_
  revert h
  unfold execBankRetire
  (try dsimp only)
  intro h
  obtain rfl := Host.Outcome.next.inj h
  clear h
  first
  | (simp; done)
  | ((repeat' split) <;> first
    | (simp; done)
    | (simp [*]; done)
    | (have e := State.but_fst 64 ‹_ = (_, _)›; simp at e; simp [e]; done)
    | (have e := State.but_snd 64 ‹_ = (_, _)›; simp at e; simp [e]; done))

theorem execCairnRepeat_but {u : Nat} (hu : u &&& 2164260897 = 2164260897) (seq : Nat) (s : State) {z : State} (h : execCairnRepeat seq s = .next z) :
    z.but u = s.but u := by
  refine State.but_mono hu ?_
  revert h
  unfold execCairnRepeat
  (try dsimp only)
  intro h
  obtain rfl := Host.Outcome.next.inj h
  clear h
  first
  | (simp; done)
  | ((repeat' split) <;> first
    | (simp; done)
    | (simp [*]; done)
    | (have e := State.but_fst 2164260897 ‹_ = (_, _)›; simp at e; simp [e]; done)
    | (have e := State.but_snd 2164260897 ‹_ = (_, _)›; simp at e; simp [e]; done))

theorem execCairnCellReceived_but {u : Nat} (hu : u &&& 2164260897 = 2164260897) (link : Nat) (c : Sys2Proof.CairnCell) (s : State) {z : State} (h : execCairnCellReceived link c s = .next z) :
    z.but u = s.but u := by
  refine State.but_mono hu ?_
  revert h
  unfold execCairnCellReceived
  (try dsimp only)
  intro h
  obtain rfl := Host.Outcome.next.inj h
  clear h
  first
  | (simp; done)
  | ((repeat' split) <;> first
    | (simp; done)
    | (simp [*]; done)
    | (have e := State.but_fst 2164260897 ‹_ = (_, _)›; simp at e; simp [e]; done)
    | (have e := State.but_snd 2164260897 ‹_ = (_, _)›; simp at e; simp [e]; done))

/-! ## Registers -/

@[simp] theorem State.store_but {u : Nat} (hu : u &&& 1 = 1) (s : State) (p : Nat) (f : Sys2Proof.Machine.Fld) (i : Nat) (v : Nat) :
    (State.store s p f i v).but u = s.but u := by
  refine State.but_mono hu ?_
  unfold State.store
  first
  | (simp; done)
  | ((try dsimp only); (repeat' split) <;> first
    | (simp; done)
    | (simp [*]; done)
    | (have e := State.but_fst 1 ‹_ = (_, _)›; simp at e; simp [e]; done)
    | (have e := State.but_snd 1 ‹_ = (_, _)›; simp at e; simp [e]; done))

@[simp] theorem State.writeFld_but {u : Nat} (hu : u &&& 1 = 1) (s : State) (m : Sys2Proof.Master) (p : Nat) (v : Nat) (h : Sys2Proof.Machine.Fld × Nat × Nat) :
    (State.writeFld s m p v h).but u = s.but u := by
  refine State.but_mono hu ?_
  unfold State.writeFld
  first
  | (simp; done)
  | ((try dsimp only); (repeat' split) <;> first
    | (simp; done)
    | (simp [*]; done)
    | (have e := State.but_fst 1 ‹_ = (_, _)›; simp at e; simp [e]; done)
    | (have e := State.but_snd 1 ‹_ = (_, _)›; simp at e; simp [e]; done))

@[simp] theorem State.writeFields_but {u : Nat} (hu : u &&& 2164260865 = 2164260865) (s : State) (m : Sys2Proof.Master) (p : Nat) (off : Nat) (v : Nat) :
    (State.writeFields s m p off v).but u = s.but u := by
  refine State.but_mono hu ?_
  unfold State.writeFields
  first
  | (simp; done)
  | ((try dsimp only); (repeat' split) <;> first
    | (simp; done)
    | (simp [*]; done)
    | (have e := State.but_fst 2164260865 ‹_ = (_, _)›; simp at e; simp [e]; done)
    | (have e := State.but_snd 2164260865 ‹_ = (_, _)›; simp at e; simp [e]; done))

@[simp] theorem State.blkEnSet_but {u : Nat} (hu : u &&& 2164327425 = 2164327425) (s : State) (p : Nat) (en : Bool) :
    (State.blkEnSet s p en).but u = s.but u := by
  refine State.but_mono hu ?_
  unfold State.blkEnSet
  first
  | (simp; done)
  | ((try dsimp only); (repeat' split) <;> first
    | (simp; done)
    | (simp [*]; done)
    | (have e := State.but_fst 2164327425 ‹_ = (_, _)›; simp at e; simp [e]; done)
    | (have e := State.but_snd 2164327425 ‹_ = (_, _)›; simp at e; simp [e]; done))

@[simp] theorem State.pgCtrl_but {u : Nat} (hu : u &&& 2400190207 = 2400190207) (s : State) (p : Nat) (v : Nat) :
    (State.pgCtrl s p v).but u = s.but u := by
  refine State.but_mono hu ?_
  unfold State.pgCtrl
  first
  | (simp; done)
  | ((try dsimp only); (repeat' split) <;> first
    | (simp; done)
    | (simp [*]; done)
    | (have e := State.but_fst 2400190207 ‹_ = (_, _)›; simp at e; simp [e]; done)
    | (have e := State.but_snd 2400190207 ‹_ = (_, _)›; simp at e; simp [e]; done))

@[simp] theorem State.winSwapReq_but {u : Nat} (hu : u &&& 2164260865 = 2164260865) (s : State) (v : Nat) :
    (State.winSwapReq s v).but u = s.but u := by
  refine State.but_mono hu ?_
  unfold State.winSwapReq
  first
  | (simp; done)
  | ((try dsimp only); (repeat' split) <;> first
    | (simp; done)
    | (simp [*]; done)
    | (have e := State.but_fst 2164260865 ‹_ = (_, _)›; simp at e; simp [e]; done)
    | (have e := State.but_snd 2164260865 ‹_ = (_, _)›; simp at e; simp [e]; done))

@[simp] theorem State.writeWin_but {u : Nat} (hu : u &&& 2164260865 = 2164260865) (s : State) (m : Sys2Proof.Master) (off : Nat) (v : Nat) :
    (State.writeWin s m off v).but u = s.but u := by
  refine State.but_mono hu ?_
  unfold State.writeWin
  first
  | (simp; done)
  | ((try dsimp only); (repeat' split) <;> first
    | (simp; done)
    | (simp [*]; done)
    | (have e := State.but_fst 2164260865 ‹_ = (_, _)›; simp at e; simp [e]; done)
    | (have e := State.but_snd 2164260865 ‹_ = (_, _)›; simp at e; simp [e]; done))

@[simp] theorem State.writeHdr_but {u : Nat} (hu : u &&& 2400190207 = 2400190207) (s : State) (m : Sys2Proof.Master) (p : Nat) (off : Nat) (v : Nat) :
    (State.writeHdr s m p off v).but u = s.but u := by
  refine State.but_mono hu ?_
  unfold State.writeHdr
  first
  | (simp; done)
  | ((try dsimp only); (repeat' split) <;> first
    | (simp; done)
    | (simp [*]; done)
    | (have e := State.but_fst 2400190207 ‹_ = (_, _)›; simp at e; simp [e]; done)
    | (have e := State.but_snd 2400190207 ‹_ = (_, _)›; simp at e; simp [e]; done))

@[simp] theorem State.writeTrust_but {u : Nat} (hu : u &&& 2372768413 = 2372768413) (s : State) (m : Sys2Proof.Master) (p : Nat) (off : Nat) (v : Nat) :
    (State.writeTrust s m p off v).but u = s.but u := by
  refine State.but_mono hu ?_
  unfold State.writeTrust
  first
  | (simp; done)
  | ((try dsimp only); (repeat' split) <;> first
    | (simp; done)
    | (simp [*]; done)
    | (have e := State.but_fst 2372768413 ‹_ = (_, _)›; simp at e; simp [e]; done)
    | (have e := State.but_snd 2372768413 ‹_ = (_, _)›; simp at e; simp [e]; done))

@[simp] theorem State.writeMgmt_but {u : Nat} (hu : u &&& 2174222851 = 2174222851) (s : State) (m : Sys2Proof.Master) (p : Nat) (off : Nat) (v : Nat) :
    (State.writeMgmt s m p off v).but u = s.but u := by
  refine State.but_mono hu ?_
  unfold State.writeMgmt
  first
  | (simp; done)
  | ((try dsimp only); (repeat' split) <;> first
    | (simp; done)
    | (simp [*]; done)
    | (have e := State.but_fst 2174222851 ‹_ = (_, _)›; simp at e; simp [e]; done)
    | (have e := State.but_snd 2174222851 ‹_ = (_, _)›; simp at e; simp [e]; done))

@[simp] theorem State.writePmu_but {u : Nat} (hu : u &&& 2164260865 = 2164260865) (s : State) (m : Sys2Proof.Master) (off : Nat) (v : Nat) :
    (State.writePmu s m off v).but u = s.but u := by
  refine State.but_mono hu ?_
  unfold State.writePmu
  first
  | (simp; done)
  | ((try dsimp only); (repeat' split) <;> first
    | (simp; done)
    | (simp [*]; done)
    | (have e := State.but_fst 2164260865 ‹_ = (_, _)›; simp at e; simp [e]; done)
    | (have e := State.but_snd 2164260865 ‹_ = (_, _)›; simp at e; simp [e]; done))

@[simp] theorem State.writeSystem_but {u : Nat} (hu : u &&& 4026531839 = 4026531839) (s : State) (m : Sys2Proof.Master) (p : Nat) (off : Nat) (v : Nat) :
    (State.writeSystem s m p off v).but u = s.but u := by
  refine State.but_mono hu ?_
  unfold State.writeSystem
  first
  | (simp; done)
  | ((try dsimp only); (repeat' split) <;> first
    | (simp; done)
    | (simp [*]; done)
    | (have e := State.but_fst 4026531839 ‹_ = (_, _)›; simp at e; simp [e]; done)
    | (have e := State.but_snd 4026531839 ‹_ = (_, _)›; simp at e; simp [e]; done))

@[simp] theorem State.writePtp_but {u : Nat} (hu : u &&& 2164260869 = 2164260869) (s : State) (m : Sys2Proof.Master) (off : Nat) (v : Nat) :
    (State.writePtp s m off v).but u = s.but u := by
  refine State.but_mono hu ?_
  unfold State.writePtp
  first
  | (simp; done)
  | ((try dsimp only); (repeat' split) <;> first
    | (simp; done)
    | (simp [*]; done)
    | (have e := State.but_fst 2164260869 ‹_ = (_, _)›; simp at e; simp [e]; done)
    | (have e := State.but_snd 2164260869 ‹_ = (_, _)›; simp at e; simp [e]; done))

@[simp] theorem State.writeCrn_but {u : Nat} (hu : u &&& 2164260897 = 2164260897) (s : State) (m : Sys2Proof.Master) (off : Nat) (v : Nat) :
    (State.writeCrn s m off v).but u = s.but u := by
  refine State.but_mono hu ?_
  unfold State.writeCrn
  first
  | (simp; done)
  | ((try dsimp only); (repeat' split) <;> first
    | (simp; done)
    | (simp [*]; done)
    | (have e := State.but_fst 2164260897 ‹_ = (_, _)›; simp at e; simp [e]; done)
    | (have e := State.but_snd 2164260897 ‹_ = (_, _)›; simp at e; simp [e]; done))

@[simp] theorem State.writeClocks_but {u : Nat} (hu : u &&& 2164260911 = 2164260911) (s : State) (m : Sys2Proof.Master) (p : Nat) (off : Nat) (v : Nat) :
    (State.writeClocks s m p off v).but u = s.but u := by
  refine State.but_mono hu ?_
  unfold State.writeClocks
  first
  | (simp; done)
  | ((try dsimp only); (repeat' split) <;> first
    | (simp; done)
    | (simp [*]; done)
    | (have e := State.but_fst 2164260911 ‹_ = (_, _)›; simp at e; simp [e]; done)
    | (have e := State.but_snd 2164260911 ‹_ = (_, _)›; simp at e; simp [e]; done))

@[simp] theorem State.writeTables_but {u : Nat} (hu : u &&& 2197871233 = 2197871233) (s : State) (m : Sys2Proof.Master) (p : Nat) (off : Nat) (v : Nat) :
    (State.writeTables s m p off v).but u = s.but u := by
  refine State.but_mono hu ?_
  unfold State.writeTables
  first
  | (simp; done)
  | ((try dsimp only); (repeat' split) <;> first
    | (simp; done)
    | (simp [*]; done)
    | (have e := State.but_fst 2197871233 ‹_ = (_, _)›; simp at e; simp [e]; done)
    | (have e := State.but_snd 2197871233 ‹_ = (_, _)›; simp at e; simp [e]; done))

@[simp] theorem State.writeFabric_but {u : Nat} (hu : u &&& 2164457473 = 2164457473) (s : State) (m : Sys2Proof.Master) (p : Nat) (off : Nat) (v : Nat) :
    (State.writeFabric s m p off v).but u = s.but u := by
  refine State.but_mono hu ?_
  unfold State.writeFabric
  first
  | (simp; done)
  | ((try dsimp only); (repeat' split) <;> first
    | (simp; done)
    | (simp [*]; done)
    | (have e := State.but_fst 2164457473 ‹_ = (_, _)›; simp at e; simp [e]; done)
    | (have e := State.but_snd 2164457473 ‹_ = (_, _)›; simp at e; simp [e]; done))

@[simp] theorem State.writeReg_but {u : Nat} (hu : u &&& 4026531839 = 4026531839) (s : State) (m : Sys2Proof.Master) (p : Nat) (off : Nat) (v : Nat) :
    (State.writeReg s m p off v).but u = s.but u := by
  refine State.but_mono hu ?_
  unfold State.writeReg
  first
  | (simp; done)
  | ((try dsimp only); (repeat' split) <;> first
    | (simp; done)
    | (simp [*]; done)
    | (have e := State.but_fst 4026531839 ‹_ = (_, _)›; simp at e; simp [e]; done)
    | (have e := State.but_snd 4026531839 ‹_ = (_, _)›; simp at e; simp [e]; done))

@[simp] theorem State.readClear_but {u : Nat} (hu : u &&& 1 = 1) (s : State) (p : Nat) (off : Nat) :
    (State.readClear s p off).but u = s.but u := by
  refine State.but_mono hu ?_
  unfold State.readClear
  first
  | (simp; done)
  | ((try dsimp only); (repeat' split) <;> first
    | (simp; done)
    | (simp [*]; done)
    | (have e := State.but_fst 1 ‹_ = (_, _)›; simp at e; simp [e]; done)
    | (have e := State.but_snd 1 ‹_ = (_, _)›; simp at e; simp [e]; done))

@[simp] theorem State.readFields_but {u : Nat} (hu : u &&& 1 = 1) (s : State) (m : Sys2Proof.Master) (p : Nat) (off : Nat) :
    (State.readFields s m p off).2.but u = s.but u := by
  refine State.but_mono hu ?_
  unfold State.readFields
  first
  | (simp; done)
  | ((try dsimp only); (repeat' split) <;> first
    | (simp; done)
    | (simp [*]; done)
    | (have e := State.but_fst 1 ‹_ = (_, _)›; simp at e; simp [e]; done)
    | (have e := State.but_snd 1 ‹_ = (_, _)›; simp at e; simp [e]; done))

@[simp] theorem State.readReg_but {u : Nat} (hu : u &&& 2164916229 = 2164916229) (s : State) (m : Sys2Proof.Master) (p : Nat) (off : Nat) :
    (State.readReg s m p off).2.but u = s.but u := by
  refine State.but_mono hu ?_
  unfold State.readReg
  first
  | (simp; done)
  | ((try dsimp only); (repeat' split) <;> first
    | (simp; done)
    | (simp [*]; done)
    | (have e := State.but_fst 2164916229 ‹_ = (_, _)›; simp at e; simp [e]; done)
    | (have e := State.but_snd 2164916229 ‹_ = (_, _)›; simp at e; simp [e]; done))

@[simp] theorem State.readDword_but {u : Nat} (hu : u &&& 3238658053 = 3238658053) (s : State) (m : Sys2Proof.Master) (p : Nat) (off : Nat) :
    (State.readDword s m p off).but u = s.but u := by
  refine State.but_mono hu ?_
  unfold State.readDword
  first
  | (simp; done)
  | ((try dsimp only); (repeat' split) <;> first
    | (simp; done)
    | (simp [*]; done)
    | (have e := State.but_fst 3238658053 ‹_ = (_, _)›; simp at e; simp [e]; done)
    | (have e := State.but_snd 3238658053 ‹_ = (_, _)›; simp at e; simp [e]; done))

@[simp] theorem State.writeDword_but {u : Nat} (hu : u &&& 4026531839 = 4026531839) (s : State) (m : Sys2Proof.Master) (p : Nat) (off : Nat) (v : Nat) :
    (State.writeDword s m p off v).but u = s.but u := by
  refine State.but_mono hu ?_
  unfold State.writeDword
  first
  | (simp; done)
  | ((try dsimp only); (repeat' split) <;> first
    | (simp; done)
    | (simp [*]; done)
    | (have e := State.but_fst 4026531839 ‹_ = (_, _)›; simp at e; simp [e]; done)
    | (have e := State.but_snd 4026531839 ‹_ = (_, _)›; simp at e; simp [e]; done))

theorem execRegisterWrite_but {u : Nat} (hu : u &&& 4026531839 = 4026531839) (m : Sys2Proof.Master) (page : Nat) (off : Nat) (size : Nat) (v : Sys2Proof.Word) (s : State) {z : State} (h : execRegisterWrite m page off size v s = .next z) :
    z.but u = s.but u := by
  refine State.but_mono hu ?_
  revert h
  unfold execRegisterWrite
  (try dsimp only)
  intro h
  obtain rfl := Host.Outcome.next.inj h
  clear h
  first
  | (simp; done)
  | ((repeat' split) <;> first
    | (simp; done)
    | (simp [*]; done)
    | (have e := State.but_fst 4026531839 ‹_ = (_, _)›; simp at e; simp [e]; done)
    | (have e := State.but_snd 4026531839 ‹_ = (_, _)›; simp at e; simp [e]; done))

theorem execLowDwordRead_but {u : Nat} (hu : u &&& 3238658053 = 3238658053) (m : Sys2Proof.Master) (page : Nat) (off : Nat) (s : State) {z : State} (h : execLowDwordRead m page off s = .next z) :
    z.but u = s.but u := by
  refine State.but_mono hu ?_
  revert h
  unfold execLowDwordRead
  (try dsimp only)
  intro h
  obtain rfl := Host.Outcome.next.inj h
  clear h
  first
  | (simp; done)
  | ((repeat' split) <;> first
    | (simp; done)
    | (simp [*]; done)
    | (have e := State.but_fst 3238658053 ‹_ = (_, _)›; simp at e; simp [e]; done)
    | (have e := State.but_snd 3238658053 ‹_ = (_, _)›; simp at e; simp [e]; done))

theorem execHighDwordWrite_but {u : Nat} (hu : u &&& 4026531839 = 4026531839) (m : Sys2Proof.Master) (page : Nat) (off : Nat) (v : Sys2Proof.Word) (s : State) {z : State} (h : execHighDwordWrite m page off v s = .next z) :
    z.but u = s.but u := by
  refine State.but_mono hu ?_
  revert h
  unfold execHighDwordWrite
  (try dsimp only)
  intro h
  obtain rfl := Host.Outcome.next.inj h
  clear h
  first
  | (simp; done)
  | ((repeat' split) <;> first
    | (simp; done)
    | (simp [*]; done)
    | (have e := State.but_fst 4026531839 ‹_ = (_, _)›; simp at e; simp [e]; done)
    | (have e := State.but_snd 4026531839 ‹_ = (_, _)›; simp at e; simp [e]; done))

theorem execBlkEnWrite_but {u : Nat} (hu : u &&& 3238069249 = 3238069249) (m : Sys2Proof.Master) (page : Nat) (en : Bool) (s : State) {z : State} (h : execBlkEnWrite m page en s = .next z) :
    z.but u = s.but u := by
  refine State.but_mono hu ?_
  revert h
  unfold execBlkEnWrite
  (try dsimp only)
  intro h
  obtain rfl := Host.Outcome.next.inj h
  clear h
  first
  | (simp; done)
  | ((repeat' split) <;> first
    | (simp; done)
    | (simp [*]; done)
    | (have e := State.but_fst 3238069249 ‹_ = (_, _)›; simp at e; simp [e]; done)
    | (have e := State.but_snd 3238069249 ‹_ = (_, _)›; simp at e; simp [e]; done))

theorem execWinSwap_but {u : Nat} (hu : u &&& 3238002689 = 3238002689) (m : Sys2Proof.Master) (req : Sys2Proof.Byte) (s : State) {z : State} (h : execWinSwap m req s = .next z) :
    z.but u = s.but u := by
  refine State.but_mono hu ?_
  revert h
  unfold execWinSwap
  (try dsimp only)
  intro h
  obtain rfl := Host.Outcome.next.inj h
  clear h
  first
  | (simp; done)
  | ((repeat' split) <;> first
    | (simp; done)
    | (simp [*]; done)
    | (have e := State.but_fst 3238002689 ‹_ = (_, _)›; simp at e; simp [e]; done)
    | (have e := State.but_snd 3238002689 ‹_ = (_, _)›; simp at e; simp [e]; done))

/-! ## Windows -/

@[simp] theorem State.hbmPut_but {u : Nat} (hu : u &&& 134400 = 134400) (s : State) (a : Nat) (v : Sys2Proof.Byte) :
    (State.hbmPut s a v).but u = s.but u := by
  refine State.but_mono hu ?_
  unfold State.hbmPut
  first
  | (simp; done)
  | ((try dsimp only); (repeat' split) <;> first
    | (simp; done)
    | (simp [*]; done)
    | (have e := State.but_fst 134400 ‹_ = (_, _)›; simp at e; simp [e]; done)
    | (have e := State.but_snd 134400 ‹_ = (_, _)›; simp at e; simp [e]; done))

@[simp] theorem State.hbmWrite_but {u : Nat} (hu : u &&& 2164395265 = 2164395265) (s : State) (a : Nat) (b : Sys2Proof.Bytes) :
    (State.hbmWrite s a b).but u = s.but u := by
  refine State.but_mono hu ?_
  unfold State.hbmWrite
  first
  | (simp; done)
  | ((try dsimp only); (repeat' split) <;> first
    | (simp; done)
    | (simp [*]; done)
    | (have e := State.but_fst 2164395265 ‹_ = (_, _)›; simp at e; simp [e]; done)
    | (have e := State.but_snd 2164395265 ‹_ = (_, _)›; simp at e; simp [e]; done))

@[simp] theorem State.mtOnLink_but {u : Nat} (hu : u &&& 2164326401 = 2164326401) (s : State) (n : Nat) (subtype : Nat) (payload : Sys2Proof.Bytes) :
    (State.mtOnLink s n subtype payload).but u = s.but u := by
  refine State.but_mono hu ?_
  unfold State.mtOnLink
  first
  | (simp; done)
  | ((try dsimp only); (repeat' split) <;> first
    | (simp; done)
    | (simp [*]; done)
    | (have e := State.but_fst 2164326401 ‹_ = (_, _)›; simp at e; simp [e]; done)
    | (have e := State.but_snd 2164326401 ‹_ = (_, _)›; simp at e; simp [e]; done))

@[simp] theorem State.mtAnswer_but {u : Nat} (hu : u &&& 3238068225 = 3238068225) (s : State) (n : Nat) (c : Sys2Proof.MtCell) (subtype : Nat) (reason : Nat) (data : Sys2Proof.Bytes) :
    (State.mtAnswer s n c subtype reason data).but u = s.but u := by
  refine State.but_mono hu ?_
  unfold State.mtAnswer
  first
  | (simp; done)
  | ((try dsimp only); (repeat' split) <;> first
    | (simp; done)
    | (simp [*]; done)
    | (have e := State.but_fst 3238068225 ‹_ = (_, _)›; simp at e; simp [e]; done)
    | (have e := State.but_snd 3238068225 ‹_ = (_, _)›; simp at e; simp [e]; done))

@[simp] theorem State.mtNack_but {u : Nat} (hu : u &&& 3238068225 = 3238068225) (s : State) (n : Nat) (c : Sys2Proof.MtCell) (reason : Nat) :
    (State.mtNack s n c reason).but u = s.but u := by
  refine State.but_mono hu ?_
  unfold State.mtNack
  first
  | (simp; done)
  | ((try dsimp only); (repeat' split) <;> first
    | (simp; done)
    | (simp [*]; done)
    | (have e := State.but_fst 3238068225 ‹_ = (_, _)›; simp at e; simp [e]; done)
    | (have e := State.but_snd 3238068225 ‹_ = (_, _)›; simp at e; simp [e]; done))

@[simp] theorem State.hostUr_but {u : Nat} (hu : u &&& 2164260865 = 2164260865) (s : State) :
    (State.hostUr s).but u = s.but u := by
  refine State.but_mono hu ?_
  unfold State.hostUr
  first
  | (simp; done)
  | ((try dsimp only); (repeat' split) <;> first
    | (simp; done)
    | (simp [*]; done)
    | (have e := State.but_fst 2164260865 ‹_ = (_, _)›; simp at e; simp [e]; done)
    | (have e := State.but_snd 2164260865 ‹_ = (_, _)›; simp at e; simp [e]; done))

@[simp] theorem State.winRemote_but {u : Nat} (hu : u &&& 3238330369 = 3238330369) (s : State) (x : Sys2Proof.Machine.WinTxn) :
    (State.winRemote s x).but u = s.but u := by
  refine State.but_mono hu ?_
  unfold State.winRemote
  first
  | (simp; done)
  | ((try dsimp only); (repeat' split) <;> first
    | (simp; done)
    | (simp [*]; done)
    | (have e := State.but_fst 3238330369 ‹_ = (_, _)›; simp at e; simp [e]; done)
    | (have e := State.but_snd 3238330369 ‹_ = (_, _)›; simp at e; simp [e]; done))

@[simp] theorem State.winRegs_but {u : Nat} (hu : u &&& 4026531839 = 4026531839) (s : State) (x : Sys2Proof.Machine.WinTxn) :
    (State.winRegs s x).but u = s.but u := by
  refine State.but_mono hu ?_
  unfold State.winRegs
  first
  | (simp; done)
  | ((try dsimp only); (repeat' split) <;> first
    | (simp; done)
    | (simp [*]; done)
    | (have e := State.but_fst 4026531839 ‹_ = (_, _)›; simp at e; simp [e]; done)
    | (have e := State.but_snd 4026531839 ‹_ = (_, _)›; simp at e; simp [e]; done))

@[simp] theorem State.winHbm_but {u : Nat} (hu : u &&& 3238137089 = 3238137089) (s : State) (x : Sys2Proof.Machine.WinTxn) :
    (State.winHbm s x).but u = s.but u := by
  refine State.but_mono hu ?_
  unfold State.winHbm
  first
  | (simp; done)
  | ((try dsimp only); (repeat' split) <;> first
    | (simp; done)
    | (simp [*]; done)
    | (have e := State.but_fst 3238137089 ‹_ = (_, _)›; simp at e; simp [e]; done)
    | (have e := State.but_snd 3238137089 ‹_ = (_, _)›; simp at e; simp [e]; done))

@[simp] theorem State.winServe_but {u : Nat} (hu : u &&& 4026531839 = 4026531839) (s : State) (x : Sys2Proof.Machine.WinTxn) :
    (State.winServe s x).but u = s.but u := by
  refine State.but_mono hu ?_
  unfold State.winServe
  first
  | (simp; done)
  | ((try dsimp only); (repeat' split) <;> first
    | (simp; done)
    | (simp [*]; done)
    | (have e := State.but_fst 4026531839 ‹_ = (_, _)›; simp at e; simp [e]; done)
    | (have e := State.but_snd 4026531839 ‹_ = (_, _)›; simp at e; simp [e]; done))

@[simp] theorem State.peerRead_but {u : Nat} (hu : u &&& 3238658053 = 3238658053) (s : State) (pg : Nat) (off : Nat) :
    (State.peerRead s pg off).1.but u = s.but u := by
  refine State.but_mono hu ?_
  unfold State.peerRead
  first
  | (simp; done)
  | ((try dsimp only); (repeat' split) <;> first
    | (simp; done)
    | (simp [*]; done)
    | (have e := State.but_fst 3238658053 ‹_ = (_, _)›; simp at e; simp [e]; done)
    | (have e := State.but_snd 3238658053 ‹_ = (_, _)›; simp at e; simp [e]; done))

@[simp] theorem State.peerWrite_but {u : Nat} (hu : u &&& 4026531839 = 4026531839) (s : State) (pg : Nat) (off : Nat) (v : Nat) :
    (State.peerWrite s pg off v).1.but u = s.but u := by
  refine State.but_mono hu ?_
  unfold State.peerWrite
  first
  | (simp; done)
  | ((try dsimp only); (repeat' split) <;> first
    | (simp; done)
    | (simp [*]; done)
    | (have e := State.but_fst 4026531839 ‹_ = (_, _)›; simp at e; simp [e]; done)
    | (have e := State.but_snd 4026531839 ‹_ = (_, _)›; simp at e; simp [e]; done))

@[simp] theorem State.mtRegs_but {u : Nat} (hu : u &&& 4026531839 = 4026531839) (s : State) (n : Nat) (c : Sys2Proof.MtCell) :
    (State.mtRegs s n c).but u = s.but u := by
  refine State.but_mono hu ?_
  unfold State.mtRegs
  first
  | (simp; done)
  | ((try dsimp only); (repeat' split) <;> first
    | (simp; done)
    | (simp [*]; done)
    | (have e := State.but_fst 4026531839 ‹_ = (_, _)›; simp at e; simp [e]; done)
    | (have e := State.but_snd 4026531839 ‹_ = (_, _)›; simp at e; simp [e]; done))

@[simp] theorem State.mtHbm_but {u : Nat} (hu : u &&& 3238202625 = 3238202625) (s : State) (n : Nat) (c : Sys2Proof.MtCell) :
    (State.mtHbm s n c).but u = s.but u := by
  refine State.but_mono hu ?_
  unfold State.mtHbm
  first
  | (simp; done)
  | ((try dsimp only); (repeat' split) <;> first
    | (simp; done)
    | (simp [*]; done)
    | (have e := State.but_fst 3238202625 ‹_ = (_, _)›; simp at e; simp [e]; done)
    | (have e := State.but_snd 3238202625 ‹_ = (_, _)›; simp at e; simp [e]; done))

@[simp] theorem State.mtServe_but {u : Nat} (hu : u &&& 4026531839 = 4026531839) (s : State) (n : Nat) (c : Sys2Proof.MtCell) :
    (State.mtServe s n c).but u = s.but u := by
  refine State.but_mono hu ?_
  unfold State.mtServe
  first
  | (simp; done)
  | ((try dsimp only); (repeat' split) <;> first
    | (simp; done)
    | (simp [*]; done)
    | (have e := State.but_fst 4026531839 ‹_ = (_, _)›; simp at e; simp [e]; done)
    | (have e := State.but_snd 4026531839 ‹_ = (_, _)›; simp at e; simp [e]; done))

@[simp] theorem State.mtRequest_but {u : Nat} (hu : u &&& 4026531839 = 4026531839) (s : State) (n : Nat) (c : Sys2Proof.MtCell) :
    (State.mtRequest s n c).but u = s.but u := by
  refine State.but_mono hu ?_
  unfold State.mtRequest
  first
  | (simp; done)
  | ((try dsimp only); (repeat' split) <;> first
    | (simp; done)
    | (simp [*]; done)
    | (have e := State.but_fst 4026531839 ‹_ = (_, _)›; simp at e; simp [e]; done)
    | (have e := State.but_snd 4026531839 ‹_ = (_, _)›; simp at e; simp [e]; done))

@[simp] theorem State.mtForget_but {u : Nat} (hu : u &&& 262144 = 262144) (s : State) (x : Sys2Proof.Machine.WinTxn) :
    (State.mtForget s x).but u = s.but u := by
  refine State.but_mono hu ?_
  unfold State.mtForget
  first
  | (simp; done)
  | ((try dsimp only); (repeat' split) <;> first
    | (simp; done)
    | (simp [*]; done)
    | (have e := State.but_fst 262144 ‹_ = (_, _)›; simp at e; simp [e]; done)
    | (have e := State.but_snd 262144 ‹_ = (_, _)›; simp at e; simp [e]; done))

@[simp] theorem State.mtFail_but {u : Nat} (hu : u &&& 2164260865 = 2164260865) (s : State) (x : Sys2Proof.Machine.WinTxn) :
    (State.mtFail s x).but u = s.but u := by
  refine State.but_mono hu ?_
  unfold State.mtFail
  first
  | (simp; done)
  | ((try dsimp only); (repeat' split) <;> first
    | (simp; done)
    | (simp [*]; done)
    | (have e := State.but_fst 2164260865 ‹_ = (_, _)›; simp at e; simp [e]; done)
    | (have e := State.but_snd 2164260865 ‹_ = (_, _)›; simp at e; simp [e]; done))

@[simp] theorem State.mtResponse_but {u : Nat} (hu : u &&& 2164523009 = 2164523009) (s : State) (c : Sys2Proof.MtCell) :
    (State.mtResponse s c).but u = s.but u := by
  refine State.but_mono hu ?_
  unfold State.mtResponse
  first
  | (simp; done)
  | ((try dsimp only); (repeat' split) <;> first
    | (simp; done)
    | (simp [*]; done)
    | (have e := State.but_fst 2164523009 ‹_ = (_, _)›; simp at e; simp [e]; done)
    | (have e := State.but_snd 2164523009 ‹_ = (_, _)›; simp at e; simp [e]; done))

@[simp] theorem State.mgmtIn_but {u : Nat} (hu : u &&& 4026531839 = 4026531839) (s : State) (n : Nat) (b : Sys2Proof.Bytes) :
    (State.mgmtIn s n b).but u = s.but u := by
  refine State.but_mono hu ?_
  unfold State.mgmtIn
  first
  | (simp; done)
  | ((try dsimp only); (repeat' split) <;> first
    | (simp; done)
    | (simp [*]; done)
    | (have e := State.but_fst 4026531839 ‹_ = (_, _)›; simp at e; simp [e]; done)
    | (have e := State.but_snd 4026531839 ‹_ = (_, _)›; simp at e; simp [e]; done))

@[simp] theorem State.winTake_but {u : Nat} (hu : u &&& 1 = 1) (s : State) (n : Nat) :
    (State.winTake s n).but u = s.but u := by
  refine State.but_mono hu ?_
  unfold State.winTake
  first
  | (simp; done)
  | ((try dsimp only); (repeat' split) <;> first
    | (simp; done)
    | (simp [*]; done)
    | (have e := State.but_fst 1 ‹_ = (_, _)›; simp at e; simp [e]; done)
    | (have e := State.but_snd 1 ‹_ = (_, _)›; simp at e; simp [e]; done))

@[simp] theorem State.heldGo_but {u : Nat} (hu : u &&& 4026531839 = 4026531839) (s : State) (x : Sys2Proof.Machine.WinTxn) :
    (State.heldGo s x).but u = s.but u := by
  refine State.but_mono hu ?_
  unfold State.heldGo
  first
  | (simp; done)
  | ((try dsimp only); (repeat' split) <;> first
    | (simp; done)
    | (simp [*]; done)
    | (have e := State.but_fst 4026531839 ‹_ = (_, _)›; simp at e; simp [e]; done)
    | (have e := State.but_snd 4026531839 ‹_ = (_, _)›; simp at e; simp [e]; done))

@[simp] theorem State.winSwapDone_but {u : Nat} (hu : u &&& 4026531839 = 4026531839) (s : State) (n : Nat) :
    (State.winSwapDone s n).but u = s.but u := by
  refine State.but_mono hu ?_
  unfold State.winSwapDone
  first
  | (simp; done)
  | ((try dsimp only); (repeat' split) <;> first
    | (simp; done)
    | (simp [*]; done)
    | (have e := State.but_fst 4026531839 ‹_ = (_, _)›; simp at e; simp [e]; done)
    | (have e := State.but_snd 4026531839 ‹_ = (_, _)›; simp at e; simp [e]; done))

@[simp] theorem State.winHoldFail_but {u : Nat} (hu : u &&& 3238330369 = 3238330369) (s : State) (n : Nat) :
    (State.winHoldFail s n).but u = s.but u := by
  refine State.but_mono hu ?_
  unfold State.winHoldFail
  first
  | (simp; done)
  | ((try dsimp only); (repeat' split) <;> first
    | (simp; done)
    | (simp [*]; done)
    | (have e := State.but_fst 3238330369 ‹_ = (_, _)›; simp at e; simp [e]; done)
    | (have e := State.but_snd 3238330369 ‹_ = (_, _)›; simp at e; simp [e]; done))

theorem execCellReceived_but {u : Nat} (hu : u &&& 4026531839 = 4026531839) (link : Nat) (b : Sys2Proof.Bytes) (bad : List Sys2Proof.BadCell) (s : State) {z : State} (h : execCellReceived link b bad s = .next z) :
    z.but u = s.but u := by
  refine State.but_mono hu ?_
  revert h
  unfold execCellReceived
  (try dsimp only)
  intro h
  obtain rfl := Host.Outcome.next.inj h
  clear h
  first
  | (simp; done)
  | ((repeat' split) <;> first
    | (simp; done)
    | (simp [*]; done)
    | (have e := State.but_fst 4026531839 ‹_ = (_, _)›; simp at e; simp [e]; done)
    | (have e := State.but_snd 4026531839 ‹_ = (_, _)›; simp at e; simp [e]; done))

theorem execBar2WindowAccess_but {u : Nat} (hu : u &&& 4026531839 = 4026531839) (addr : Nat) (len : Nat) (w : Option Sys2Proof.Bytes) (s : State) {z : State} (h : execBar2WindowAccess addr len w s = .next z) :
    z.but u = s.but u := by
  refine State.but_mono hu ?_
  revert h
  unfold execBar2WindowAccess
  (try dsimp only)
  intro h
  obtain rfl := Host.Outcome.next.inj h
  clear h
  first
  | (simp; done)
  | ((repeat' split) <;> first
    | (simp; done)
    | (simp [*]; done)
    | (have e := State.but_fst 4026531839 ‹_ = (_, _)›; simp at e; simp [e]; done)
    | (have e := State.but_snd 4026531839 ‹_ = (_, _)›; simp at e; simp [e]; done))

theorem execMtRequestReceived_but {u : Nat} (hu : u &&& 4026531839 = 4026531839) (link : Nat) (c : Sys2Proof.MtCell) (s : State) {z : State} (h : execMtRequestReceived link c s = .next z) :
    z.but u = s.but u := by
  refine State.but_mono hu ?_
  revert h
  unfold execMtRequestReceived
  (try dsimp only)
  intro h
  obtain rfl := Host.Outcome.next.inj h
  clear h
  first
  | (simp; done)
  | ((repeat' split) <;> first
    | (simp; done)
    | (simp [*]; done)
    | (have e := State.but_fst 4026531839 ‹_ = (_, _)›; simp at e; simp [e]; done)
    | (have e := State.but_snd 4026531839 ‹_ = (_, _)›; simp at e; simp [e]; done))

theorem execMtResponseReceived_but {u : Nat} (hu : u &&& 2164523009 = 2164523009) (link0 : Nat) (c : Sys2Proof.MtCell) (s : State) {z : State} (h : execMtResponseReceived link0 c s = .next z) :
    z.but u = s.but u := by
  refine State.but_mono hu ?_
  revert h
  unfold execMtResponseReceived
  (try dsimp only)
  intro h
  obtain rfl := Host.Outcome.next.inj h
  clear h
  first
  | (simp; done)
  | ((repeat' split) <;> first
    | (simp; done)
    | (simp [*]; done)
    | (have e := State.but_fst 2164523009 ‹_ = (_, _)›; simp at e; simp [e]; done)
    | (have e := State.but_snd 2164523009 ‹_ = (_, _)›; simp at e; simp [e]; done))

theorem execMtTimeout_but {u : Nat} (hu : u &&& 2164523009 = 2164523009) (tag : Nat) (s : State) {z : State} (h : execMtTimeout tag s = .next z) :
    z.but u = s.but u := by
  refine State.but_mono hu ?_
  revert h
  unfold execMtTimeout
  (try dsimp only)
  intro h
  obtain rfl := Host.Outcome.next.inj h
  clear h
  first
  | (simp; done)
  | ((repeat' split) <;> first
    | (simp; done)
    | (simp [*]; done)
    | (have e := State.but_fst 2164523009 ‹_ = (_, _)›; simp at e; simp [e]; done)
    | (have e := State.but_snd 2164523009 ‹_ = (_, _)›; simp at e; simp [e]; done))

theorem execWinSwapComplete_but {u : Nat} (hu : u &&& 4026531839 = 4026531839) (n : Nat) (s : State) {z : State} (h : execWinSwapComplete n s = .next z) :
    z.but u = s.but u := by
  refine State.but_mono hu ?_
  revert h
  unfold execWinSwapComplete
  (try dsimp only)
  intro h
  obtain rfl := Host.Outcome.next.inj h
  clear h
  first
  | (simp; done)
  | ((repeat' split) <;> first
    | (simp; done)
    | (simp [*]; done)
    | (have e := State.but_fst 4026531839 ‹_ = (_, _)›; simp at e; simp [e]; done)
    | (have e := State.but_snd 4026531839 ‹_ = (_, _)›; simp at e; simp [e]; done))

theorem execWinSwapHoldTimeout_but {u : Nat} (hu : u &&& 3238330369 = 3238330369) (n : Nat) (s : State) {z : State} (h : execWinSwapHoldTimeout n s = .next z) :
    z.but u = s.but u := by
  refine State.but_mono hu ?_
  revert h
  unfold execWinSwapHoldTimeout
  (try dsimp only)
  intro h
  obtain rfl := Host.Outcome.next.inj h
  clear h
  first
  | (simp; done)
  | ((repeat' split) <;> first
    | (simp; done)
    | (simp [*]; done)
    | (have e := State.but_fst 3238330369 ‹_ = (_, _)›; simp at e; simp [e]; done)
    | (have e := State.but_snd 3238330369 ‹_ = (_, _)›; simp at e; simp [e]; done))

/-! ## Tap -/

@[simp] theorem State.tapClock_but {u : Nat} (hu : u &&& 3489660928 = 3489660928) (s : State) (tms : Bool) (tdi : Bool) :
    (State.tapClock s tms tdi).but u = s.but u := by
  refine State.but_mono hu ?_
  unfold State.tapClock
  first
  | (simp; done)
  | ((try dsimp only); (repeat' split) <;> first
    | (simp; done)
    | (simp [*]; done)
    | (have e := State.but_fst 3489660928 ‹_ = (_, _)›; simp at e; simp [e]; done)
    | (have e := State.but_snd 3489660928 ‹_ = (_, _)›; simp at e; simp [e]; done))

theorem execTapClock_but {u : Nat} (hu : u &&& 3489660928 = 3489660928) (tms : Bool) (tdi : Bool) (s : State) {z : State} (h : execTapClock tms tdi s = .next z) :
    z.but u = s.but u := by
  refine State.but_mono hu ?_
  revert h
  unfold execTapClock
  (try dsimp only)
  intro h
  obtain rfl := Host.Outcome.next.inj h
  clear h
  first
  | (simp; done)
  | ((repeat' split) <;> first
    | (simp; done)
    | (simp [*]; done)
    | (have e := State.but_fst 3489660928 ‹_ = (_, _)›; simp at e; simp [e]; done)
    | (have e := State.but_snd 3489660928 ‹_ = (_, _)›; simp at e; simp [e]; done))

end Sys2Proof.Machine
end

