-- ==== Sys2Proof/Laws/Still.lean ====
section
/-! SUPPORT. What most commands leave as it is: the command queue, the TAP controller, the HBM bytes that windows write,
the cairn engine's lists and the die-to-die channels out of use. One lemma per operation of the model says that it leaves
these, so that an invariant about them is proved without opening the operations. -/
namespace Sys2Proof.Machine

/-- The parts of the state that the lemmas of this file speak of. -/
def State.still (s : State) : List Instr × TapSt × List Host.Cell × List Armed × List CrnLog × D2dSt :=
  (s.pending, s.tap, s.hbm.mem, s.cairn.armed, s.cairn.log, s.d2d)

@[simp] theorem State.still_foldl {α : Type} {f : State → α → State} (h : ∀ (t : State) (x : α), (f t x).still = t.still)
    (l : List α) (s : State) : (l.foldl f s).still = s.still := by
  induction l generalizing s with
  | nil => rfl
  | cons x l ih => rw [List.foldl_cons, ih, h]

@[simp] theorem State.still_foldl_fst {α β : Type} {f : State × β → α → State × β}
    (h : ∀ (t : State × β) (x : α), (f t x).1.still = t.1.still)
    (l : List α) (s : State × β) : (l.foldl f s).1.still = s.1.still := by
  induction l generalizing s with
  | nil => rfl
  | cons x l ih => rw [List.foldl_cons, ih, h]

theorem State.CountsTo.still {s t : State} (h : s.CountsTo t) : t.still = s.still := by
  simp [State.still, h.pending, h.tap, h.hbm, h.cairn, h.d2d]

@[simp] theorem State.still_mk (x0 : Regs) (x1 : Pins) (x2 : TimeSt) (x3 : SpineSt) (x4 : PairSt) (x5 : CairnSt) (x6 : Banks) (x7 : PathSt) (x8 : ExmSt) (x9 : LearnSt) (x10 : Tables) (x11 : BufSt) (x12 : QueueSt) (x13 : SMap SchedPort) (x14 : SMap GatePort) (x15 : LatSt) (x16 : FabSt) (x17 : HbmSt) (x18 : HostSt) (x19 : IcuSt) (x20 : MgtSt) (x21 : BootSt) (x22 : SecSt) (x23 : PwrSt) (x24 : PmuSt) (x25 : TdmSt) (x26 : ShdSt) (x27 : RstSt) (x28 : TapSt) (x29 : D2dSt) (x30 : Nat) (x31 : List Emit) (x32 : List Instr) :
    (State.mk x0 x1 x2 x3 x4 x5 x6 x7 x8 x9 x10 x11 x12 x13 x14 x15 x16 x17 x18 x19 x20 x21 x22 x23 x24 x25 x26 x27 x28 x29 x30 x31 x32).still = (x32, x28, x17.mem, x5.armed, x5.log, x29) := rfl

@[simp] theorem State.still_eta (s : State) : (s.pending, s.tap, s.hbm.mem, s.cairn.armed, s.cairn.log, s.d2d) = s.still := rfl

@[simp] theorem State.still_if (c : Prop) [Decidable c] (a b : State) :
    (if c then a else b).still = if c then a.still else b.still := by
  split <;> rfl

theorem State.still_fst {α : Type} {x : State × α} {t : State} {a : α} (h : x = (t, a)) : t.still = x.1.still := by rw [h]

theorem State.still_snd {α : Type} {x : α × State} {t : State} {a : α} (h : x = (a, t)) : t.still = x.2.still := by rw [h]

/-- What every operation of the model keeps: the queue, and each part of the invariant. -/
structure State.Kept (s t : State) : Prop where
  pending : t.pending = s.pending
  mem : Memory.wf s.hbm.mem = true → Memory.wf t.hbm.mem = true
  tap : s.tap.state < 16 → t.tap.state < 16
  armed : s.cairn.armed.length ≤ 32 → t.cairn.armed.length ≤ 32
  apart : armedApart s.cairn.armed → armedApart t.cairn.armed
  log : s.cairn.log.length ≤ 16 → t.cairn.log.length ≤ 16
  d2d : (∀ c ∈ s.d2d.failed, c < 16) → ∀ c ∈ t.d2d.failed, c < 16

theorem State.Kept.refl (s : State) : s.Kept s := ⟨rfl, id, id, id, id, id, id⟩

theorem State.Kept.trans {s t u : State} (h : s.Kept t) (g : t.Kept u) : s.Kept u :=
  ⟨g.pending.trans h.pending, g.mem ∘ h.mem, g.tap ∘ h.tap, g.armed ∘ h.armed, g.apart ∘ h.apart, g.log ∘ h.log, g.d2d ∘ h.d2d⟩

theorem State.Kept.of_still {s t : State} (h : t.still = s.still) : s.Kept t := by
  simp only [State.still, Prod.mk.injEq] at h
  obtain ⟨h1, h2, h3, h4, h5, h6⟩ := h
  exact ⟨h1, by rw [h3]; exact id, by rw [h2]; exact id, by rw [h4]; exact id, by rw [h4]; exact id, by rw [h5]; exact id, by rw [h6]; exact id⟩

theorem State.Kept.foldl {α : Type} {f : State → α → State} (h : ∀ (t : State) (x : α), t.Kept (f t x))
    (l : List α) (s : State) : s.Kept (l.foldl f s) := by
  induction l generalizing s with
  | nil => exact State.Kept.refl s
  | cons x l ih => exact (h s x).trans (ih (f s x))


/-! ## Ops -/

@[simp] theorem State.wrp_still (s : State) (pg : Nat) (f : Sys2Proof.Machine.Fld) (i : Nat) (v : Nat) :
    (State.wrp s pg f i v).still = s.still := by
  unfold State.wrp
  first
  | (simp; done)
  | ((try dsimp only); (repeat' split) <;> first
    | (simp; done)
    | (simp [*]; done)
    | (have e := State.still_fst ‹_ = (_, _)›; simp at e; simp [e]; done)
    | (have e := State.still_snd ‹_ = (_, _)›; simp at e; simp [e]; done))

@[simp] theorem State.wri_still (s : State) (f : Sys2Proof.Machine.Fld) (i : Nat) (v : Nat) :
    (State.wri s f i v).still = s.still := by
  unfold State.wri
  first
  | (simp; done)
  | ((try dsimp only); (repeat' split) <;> first
    | (simp; done)
    | (simp [*]; done)
    | (have e := State.still_fst ‹_ = (_, _)›; simp at e; simp [e]; done)
    | (have e := State.still_snd ‹_ = (_, _)›; simp at e; simp [e]; done))

@[simp] theorem State.wr_still (s : State) (f : Sys2Proof.Machine.Fld) (v : Nat) :
    (State.wr s f v).still = s.still := by
  unfold State.wr
  first
  | (simp; done)
  | ((try dsimp only); (repeat' split) <;> first
    | (simp; done)
    | (simp [*]; done)
    | (have e := State.still_fst ‹_ = (_, _)›; simp at e; simp [e]; done)
    | (have e := State.still_snd ‹_ = (_, _)›; simp at e; simp [e]; done))

@[simp] theorem State.wrb_still (s : State) (f : Sys2Proof.Machine.Fld) (b : Bool) :
    (State.wrb s f b).still = s.still := by
  unfold State.wrb
  first
  | (simp; done)
  | ((try dsimp only); (repeat' split) <;> first
    | (simp; done)
    | (simp [*]; done)
    | (have e := State.still_fst ‹_ = (_, _)›; simp at e; simp [e]; done)
    | (have e := State.still_snd ‹_ = (_, _)›; simp at e; simp [e]; done))

@[simp] theorem State.wrStg_still (s : State) (pg : Nat) (f : Sys2Proof.Machine.Fld) (i : Nat) (v : Nat) :
    (State.wrStg s pg f i v).still = s.still := by
  unfold State.wrStg
  first
  | (simp; done)
  | ((try dsimp only); (repeat' split) <;> first
    | (simp; done)
    | (simp [*]; done)
    | (have e := State.still_fst ‹_ = (_, _)›; simp at e; simp [e]; done)
    | (have e := State.still_snd ‹_ = (_, _)›; simp at e; simp [e]; done))

@[simp] theorem State.dropStg_still (s : State) (pg : Nat) (f : Sys2Proof.Machine.Fld) (i : Nat) :
    (State.dropStg s pg f i).still = s.still := by
  unfold State.dropStg
  first
  | (simp; done)
  | ((try dsimp only); (repeat' split) <;> first
    | (simp; done)
    | (simp [*]; done)
    | (have e := State.still_fst ‹_ = (_, _)›; simp at e; simp [e]; done)
    | (have e := State.still_snd ‹_ = (_, _)›; simp at e; simp [e]; done))

@[simp] theorem State.addp_still (s : State) (pg : Nat) (f : Sys2Proof.Machine.Fld) (i : Nat) (n : Nat) :
    (State.addp s pg f i n).still = s.still := by
  unfold State.addp
  first
  | (simp; done)
  | ((try dsimp only); (repeat' split) <;> first
    | (simp; done)
    | (simp [*]; done)
    | (have e := State.still_fst ‹_ = (_, _)›; simp at e; simp [e]; done)
    | (have e := State.still_snd ‹_ = (_, _)›; simp at e; simp [e]; done))

@[simp] theorem State.satp_still (s : State) (pg : Nat) (f : Sys2Proof.Machine.Fld) (i : Nat) :
    (State.satp s pg f i).still = s.still := by
  unfold State.satp
  first
  | (simp; done)
  | ((try dsimp only); (repeat' split) <;> first
    | (simp; done)
    | (simp [*]; done)
    | (have e := State.still_fst ‹_ = (_, _)›; simp at e; simp [e]; done)
    | (have e := State.still_snd ‹_ = (_, _)›; simp at e; simp [e]; done))

@[simp] theorem State.setChan_still (s : State) (n : Nat) (c : Sys2Proof.Machine.Channel) :
    (State.setChan s n c).still = s.still := by
  unfold State.setChan
  first
  | (simp; done)
  | ((try dsimp only); (repeat' split) <;> first
    | (simp; done)
    | (simp [*]; done)
    | (have e := State.still_fst ‹_ = (_, _)›; simp at e; simp [e]; done)
    | (have e := State.still_snd ‹_ = (_, _)›; simp at e; simp [e]; done))

@[simp] theorem State.emit_still (s : State) (e : Sys2Proof.Machine.Emit) :
    (State.emit s e).still = s.still := by
  unfold State.emit
  first
  | (simp; done)
  | ((try dsimp only); (repeat' split) <;> first
    | (simp; done)
    | (simp [*]; done)
    | (have e := State.still_fst ‹_ = (_, _)›; simp at e; simp [e]; done)
    | (have e := State.still_snd ‹_ = (_, _)›; simp at e; simp [e]; done))

@[simp] theorem State.draw_still (s : State) :
    (State.draw s).still = s.still := by
  unfold State.draw
  first
  | (simp; done)
  | ((try dsimp only); (repeat' split) <;> first
    | (simp; done)
    | (simp [*]; done)
    | (have e := State.still_fst ‹_ = (_, _)›; simp at e; simp [e]; done)
    | (have e := State.still_snd ‹_ = (_, _)›; simp at e; simp [e]; done))

/-! ## Flags -/

@[simp] theorem State.evt_still (s : State) (pg : Nat) (k : Nat) :
    (State.evt s pg k).still = s.still := by
  unfold State.evt
  first
  | (simp; done)
  | ((try dsimp only); (repeat' split) <;> first
    | (simp; done)
    | (simp [*]; done)
    | (have e := State.still_fst ‹_ = (_, _)›; simp at e; simp [e]; done)
    | (have e := State.still_snd ‹_ = (_, _)›; simp at e; simp [e]; done))

@[simp] theorem State.eventRecord_still (s : State) (ring : Nat) (rec : Sys2Proof.Bytes) :
    (State.eventRecord s ring rec).still = s.still := by
  unfold State.eventRecord
  first
  | (simp; done)
  | ((try dsimp only); (repeat' split) <;> first
    | (simp; done)
    | (simp [*]; done)
    | (have e := State.still_fst ‹_ = (_, _)›; simp at e; simp [e]; done)
    | (have e := State.still_snd ‹_ = (_, _)›; simp at e; simp [e]; done))

@[simp] theorem State.troubleRecord_still (s : State) (kind : Nat) (pg : Nat) (k : Nat) (window : Nat) (value : Nat) (loc : Nat) :
    (State.troubleRecord s kind pg k window value loc).still = s.still := by
  unfold State.troubleRecord
  first
  | (simp; done)
  | ((try dsimp only); (repeat' split) <;> first
    | (simp; done)
    | (simp [*]; done)
    | (have e := State.still_fst ‹_ = (_, _)›; simp at e; simp [e]; done)
    | (have e := State.still_snd ‹_ = (_, _)›; simp at e; simp [e]; done))

@[simp] theorem State.pmuAdd_still (s : State) (n : Nat) (amt : Nat) :
    (State.pmuAdd s n amt).still = s.still := by
  unfold State.pmuAdd
  first
  | (simp; done)
  | ((try dsimp only); (repeat' split) <;> first
    | (simp; done)
    | (simp [*]; done)
    | (have e := State.still_fst ‹_ = (_, _)›; simp at e; simp [e]; done)
    | (have e := State.still_snd ‹_ = (_, _)›; simp at e; simp [e]; done))

@[simp] theorem State.pmuApply_still (s : State) (e : Sys2Proof.Machine.PmuEv) :
    (State.pmuApply s e).1.still = s.still := by
  unfold State.pmuApply
  first
  | (simp; done)
  | ((try dsimp only); (repeat' split) <;> first
    | (simp; done)
    | (simp [*]; done)
    | (have e := State.still_fst ‹_ = (_, _)›; simp at e; simp [e]; done)
    | (have e := State.still_snd ‹_ = (_, _)›; simp at e; simp [e]; done))

@[simp] theorem State.windowCount_still (s : State) (pg : Nat) (k : Nat) (n : Nat) :
    (State.windowCount s pg k n).still = s.still := by
  unfold State.windowCount
  first
  | (simp; done)
  | ((try dsimp only); (repeat' split) <;> first
    | (simp; done)
    | (simp [*]; done)
    | (have e := State.still_fst ‹_ = (_, _)›; simp at e; simp [e]; done)
    | (have e := State.still_snd ‹_ = (_, _)›; simp at e; simp [e]; done))

@[simp] theorem State.trbSet_still (s : State) (pg : Nat) (k : Nat) (v : Nat) :
    (State.trbSet s pg k v).still = s.still := by
  unfold State.trbSet
  first
  | (simp; done)
  | ((try dsimp only); (repeat' split) <;> first
    | (simp; done)
    | (simp [*]; done)
    | (have e := State.still_fst ‹_ = (_, _)›; simp at e; simp [e]; done)
    | (have e := State.still_snd ‹_ = (_, _)›; simp at e; simp [e]; done))

@[simp] theorem State.trbCore_still (s : State) (pg : Nat) (k : Nat) :
    (State.trbCore s pg k).still = s.still := by
  unfold State.trbCore
  first
  | (simp; done)
  | ((try dsimp only); (repeat' split) <;> first
    | (simp; done)
    | (simp [*]; done)
    | (have e := State.still_fst ‹_ = (_, _)›; simp at e; simp [e]; done)
    | (have e := State.still_snd ‹_ = (_, _)›; simp at e; simp [e]; done))

@[simp] theorem State.pmuEvent_still (fuel : Nat) (s : State) (e : PmuEv) : (State.pmuEvent fuel s e).still = s.still :=
  (State.pmuEvent_counts fuel s e).still

@[simp] theorem State.pmu'_still (s : State) (pg : Nat) (loc : Nat) (amt : Nat) (master : Option Nat) (cls : Option Nat) (addr : Option Nat) :
    (State.pmu' s pg loc amt master cls addr).still = s.still := by
  unfold State.pmu'
  first
  | (simp; done)
  | ((try dsimp only); (repeat' split) <;> first
    | (simp; done)
    | (simp [*]; done)
    | (have e := State.still_fst ‹_ = (_, _)›; simp at e; simp [e]; done)
    | (have e := State.still_snd ‹_ = (_, _)›; simp at e; simp [e]; done))

@[simp] theorem State.trb_still (s : State) (pg : Nat) (k : Nat) :
    (State.trb s pg k).still = s.still := by
  unfold State.trb
  first
  | (simp; done)
  | ((try dsimp only); (repeat' split) <;> first
    | (simp; done)
    | (simp [*]; done)
    | (have e := State.still_fst ‹_ = (_, _)›; simp at e; simp [e]; done)
    | (have e := State.still_snd ‹_ = (_, _)›; simp at e; simp [e]; done))

@[simp] theorem State.trbN_still (s : State) (pg : Nat) (k : Nat) (n : Nat) :
    (State.trbN s pg k n).still = s.still := by
  unfold State.trbN
  first
  | (simp; done)
  | ((try dsimp only); (repeat' split) <;> first
    | (simp; done)
    | (simp [*]; done)
    | (have e := State.still_fst ‹_ = (_, _)›; simp at e; simp [e]; done)
    | (have e := State.still_snd ‹_ = (_, _)›; simp at e; simp [e]; done))

@[simp] theorem State.statEvent_still (s : State) (pg : Nat) (f : Sys2Proof.Machine.Fld) (i : Nat) (n : Nat) :
    (State.statEvent s pg f i n).still = s.still := by
  unfold State.statEvent
  first
  | (simp; done)
  | ((try dsimp only); (repeat' split) <;> first
    | (simp; done)
    | (simp [*]; done)
    | (have e := State.still_fst ‹_ = (_, _)›; simp at e; simp [e]; done)
    | (have e := State.still_snd ‹_ = (_, _)›; simp at e; simp [e]; done))

@[simp] theorem State.stat_still (s : State) (pg : Nat) (f : Sys2Proof.Machine.Fld) (i : Nat) (n : Nat) :
    (State.stat s pg f i n).still = s.still := by
  unfold State.stat
  first
  | (simp; done)
  | ((try dsimp only); (repeat' split) <;> first
    | (simp; done)
    | (simp [*]; done)
    | (have e := State.still_fst ‹_ = (_, _)›; simp at e; simp [e]; done)
    | (have e := State.still_snd ‹_ = (_, _)›; simp at e; simp [e]; done))

@[simp] theorem State.windowEnd_still (s : State) (pg : Nat) (n : Nat) :
    (State.windowEnd s pg n).still = s.still := by
  unfold State.windowEnd
  first
  | (simp; done)
  | ((try dsimp only); (repeat' split) <;> first
    | (simp; done)
    | (simp [*]; done)
    | (have e := State.still_fst ‹_ = (_, _)›; simp at e; simp [e]; done)
    | (have e := State.still_snd ‹_ = (_, _)›; simp at e; simp [e]; done))

@[simp] theorem State.memCorrected_still (s : State) (pg : Nat) (k : Nat) (loc : Sys2Proof.Machine.Locator) :
    (State.memCorrected s pg k loc).still = s.still := by
  unfold State.memCorrected
  first
  | (simp; done)
  | ((try dsimp only); (repeat' split) <;> first
    | (simp; done)
    | (simp [*]; done)
    | (have e := State.still_fst ‹_ = (_, _)›; simp at e; simp [e]; done)
    | (have e := State.still_snd ‹_ = (_, _)›; simp at e; simp [e]; done))

@[simp] theorem State.memUncorrectable_still (s : State) (pg : Nat) (k : Nat) (loc : Sys2Proof.Machine.Locator) :
    (State.memUncorrectable s pg k loc).still = s.still := by
  unfold State.memUncorrectable
  first
  | (simp; done)
  | ((try dsimp only); (repeat' split) <;> first
    | (simp; done)
    | (simp [*]; done)
    | (have e := State.still_fst ‹_ = (_, _)›; simp at e; simp [e]; done)
    | (have e := State.still_snd ‹_ = (_, _)›; simp at e; simp [e]; done))

@[simp] theorem State.enterBoot_still (s : State) (cause : Nat) :
    (State.enterBoot s cause).still = s.still := by
  unfold State.enterBoot
  first
  | (simp; done)
  | ((try dsimp only); (repeat' split) <;> first
    | (simp; done)
    | (simp [*]; done)
    | (have e := State.still_fst ‹_ = (_, _)›; simp at e; simp [e]; done)
    | (have e := State.still_snd ‹_ = (_, _)›; simp at e; simp [e]; done))

@[simp] theorem State.wake_still (s : State) (src : Nat) :
    (State.wake s src).still = s.still := by
  unfold State.wake
  first
  | (simp; done)
  | ((try dsimp only); (repeat' split) <;> first
    | (simp; done)
    | (simp [*]; done)
    | (have e := State.still_fst ‹_ = (_, _)›; simp at e; simp [e]; done)
    | (have e := State.still_snd ‹_ = (_, _)›; simp at e; simp [e]; done))

@[simp] theorem State.setPend_still (s : State) (src : Nat) :
    (State.setPend s src).still = s.still := by
  unfold State.setPend
  first
  | (simp; done)
  | ((try dsimp only); (repeat' split) <;> first
    | (simp; done)
    | (simp [*]; done)
    | (have e := State.still_fst ‹_ = (_, _)›; simp at e; simp [e]; done)
    | (have e := State.still_snd ‹_ = (_, _)›; simp at e; simp [e]; done))

/-! ## Drq -/

@[simp] theorem State.drqTake_still (s : State) (r : Sys2Proof.Machine.HbmReq) :
    (State.drqTake s r).still = s.still := by
  unfold State.drqTake
  first
  | (simp; done)
  | ((try dsimp only); (repeat' split) <;> first
    | (simp; done)
    | (simp [*]; done)
    | (have e := State.still_fst ‹_ = (_, _)›; simp at e; simp [e]; done)
    | (have e := State.still_snd ‹_ = (_, _)›; simp at e; simp [e]; done))

@[simp] theorem drqAdmit_still (l : List HbmReq) (s : State) (blocked : List Nat) (kept : List HbmReq) :
    (drqAdmit l s blocked kept).1.still = s.still := by
  induction l generalizing s blocked kept with
  | nil => rfl
  | cons r t ih =>
    unfold drqAdmit
    split
    · exact ih _ _ _
    · rw [ih]; simp

@[simp] theorem State.drqSettle_still (s : State) :
    (State.drqSettle s).still = s.still := by
  unfold State.drqSettle
  first
  | (simp; done)
  | ((try dsimp only); (repeat' split) <;> first
    | (simp; done)
    | (simp [*]; done)
    | (have e := State.still_fst ‹_ = (_, _)›; simp at e; simp [e]; done)
    | (have e := State.still_snd ‹_ = (_, _)›; simp at e; simp [e]; done))

@[simp] theorem State.drqAsk_still (s : State) (port : Nat) (addr : Nat) (write : Bool) (part : Bool) :
    (State.drqAsk s port addr write part).still = s.still := by
  unfold State.drqAsk
  first
  | (simp; done)
  | ((try dsimp only); (repeat' split) <;> first
    | (simp; done)
    | (simp [*]; done)
    | (have e := State.still_fst ‹_ = (_, _)›; simp at e; simp [e]; done)
    | (have e := State.still_snd ‹_ = (_, _)›; simp at e; simp [e]; done))

@[simp] theorem State.drqWords_still (n : Nat) (s : State) (port lo hi w : Nat) (write : Bool) :
    (State.drqWords n s port lo hi w write).still = s.still := by
  induction n generalizing s w with
  | zero => rfl
  | succ k ih =>
    unfold State.drqWords
    rw [ih]; simp

@[simp] theorem State.drqAccess_still (s : State) (port : Nat) (addr : Nat) (len : Nat) (write : Bool) :
    (State.drqAccess s port addr len write).still = s.still := by
  unfold State.drqAccess
  first
  | (simp; done)
  | ((try dsimp only); (repeat' split) <;> first
    | (simp; done)
    | (simp [*]; done)
    | (have e := State.still_fst ‹_ = (_, _)›; simp at e; simp [e]; done)
    | (have e := State.still_snd ‹_ = (_, _)›; simp at e; simp [e]; done))

@[simp] theorem State.drqSomewhere_still (s : State) (port : Nat) (base : Nat) (size : Nat) (len : Nat) (write : Bool) :
    (State.drqSomewhere s port base size len write).still = s.still := by
  unfold State.drqSomewhere
  first
  | (simp; done)
  | ((try dsimp only); (repeat' split) <;> first
    | (simp; done)
    | (simp [*]; done)
    | (have e := State.still_fst ‹_ = (_, _)›; simp at e; simp [e]; done)
    | (have e := State.still_snd ‹_ = (_, _)›; simp at e; simp [e]; done))

@[simp] theorem State.drqDesc_still (s : State) (write : Bool) :
    (State.drqDesc s write).still = s.still := by
  unfold State.drqDesc
  first
  | (simp; done)
  | ((try dsimp only); (repeat' split) <;> first
    | (simp; done)
    | (simp [*]; done)
    | (have e := State.still_fst ‹_ = (_, _)›; simp at e; simp [e]; done)
    | (have e := State.still_snd ‹_ = (_, _)›; simp at e; simp [e]; done))

/-! ## Access -/

@[simp] theorem State.accessEvent_still (s : State) (m : Sys2Proof.Master) (pg : Nat) (off : Nat) (loc : Nat) :
    (State.accessEvent s m pg off loc).still = s.still := by
  unfold State.accessEvent
  first
  | (simp; done)
  | ((try dsimp only); (repeat' split) <;> first
    | (simp; done)
    | (simp [*]; done)
    | (have e := State.still_fst ‹_ = (_, _)›; simp at e; simp [e]; done)
    | (have e := State.still_snd ‹_ = (_, _)›; simp at e; simp [e]; done))

@[simp] theorem State.ur_still (s : State) (m : Sys2Proof.Master) (pg : Nat) (off : Nat) :
    (State.ur s m pg off).still = s.still := by
  unfold State.ur
  first
  | (simp; done)
  | ((try dsimp only); (repeat' split) <;> first
    | (simp; done)
    | (simp [*]; done)
    | (have e := State.still_fst ‹_ = (_, _)›; simp at e; simp [e]; done)
    | (have e := State.still_snd ‹_ = (_, _)›; simp at e; simp [e]; done))

@[simp] theorem State.writeInClear_still (s : State) (m : Sys2Proof.Master) (pg : Nat) :
    (State.writeInClear s m pg).still = s.still := by
  unfold State.writeInClear
  first
  | (simp; done)
  | ((try dsimp only); (repeat' split) <;> first
    | (simp; done)
    | (simp [*]; done)
    | (have e := State.still_fst ‹_ = (_, _)›; simp at e; simp [e]; done)
    | (have e := State.still_snd ‹_ = (_, _)›; simp at e; simp [e]; done))

@[simp] theorem State.onWrite_still (s : State) (m : Master) (pg off : Nat) (k : State → State) (h : ∀ t, (k t).still = t.still) :
    (s.onWrite m pg off k).still = s.still := by
  unfold State.onWrite
  split <;> simp [h]

@[simp] theorem State.onRead_still (s : State) (m : Master) (pg off : Nat) (k : State → Nat × State)
    (h : ∀ t, (k t).2.still = t.still) : (s.onRead m pg off k).still = s.still := by
  unfold State.onRead
  split <;> simp [h]

@[simp] theorem State.stageWrite_still (s : State) (pg : Nat) (f : Sys2Proof.Machine.Fld) (i : Nat) (v : Nat) :
    (State.stageWrite s pg f i v).still = s.still := by
  unfold State.stageWrite
  first
  | (simp; done)
  | ((try dsimp only); (repeat' split) <;> first
    | (simp; done)
    | (simp [*]; done)
    | (have e := State.still_fst ‹_ = (_, _)›; simp at e; simp [e]; done)
    | (have e := State.still_snd ‹_ = (_, _)›; simp at e; simp [e]; done))

@[simp] theorem State.readFailed_still (s : State) :
    (State.readFailed s).still = s.still := by
  unfold State.readFailed
  first
  | (simp; done)
  | ((try dsimp only); (repeat' split) <;> first
    | (simp; done)
    | (simp [*]; done)
    | (have e := State.still_fst ‹_ = (_, _)›; simp at e; simp [e]; done)
    | (have e := State.still_snd ‹_ = (_, _)›; simp at e; simp [e]; done))

@[simp] theorem State.latchHigh_still (s : State) (m : Sys2Proof.Master) (pg : Nat) (v : Nat) :
    (State.latchHigh s m pg v).still = s.still := by
  unfold State.latchHigh
  first
  | (simp; done)
  | ((try dsimp only); (repeat' split) <;> first
    | (simp; done)
    | (simp [*]; done)
    | (have e := State.still_fst ‹_ = (_, _)›; simp at e; simp [e]; done)
    | (have e := State.still_snd ‹_ = (_, _)›; simp at e; simp [e]; done))

@[simp] theorem State.keepLow_still (s : State) (m : Sys2Proof.Master) (addr : Nat) (v : Nat) :
    (State.keepLow s m addr v).still = s.still := by
  unfold State.keepLow
  first
  | (simp; done)
  | ((try dsimp only); (repeat' split) <;> first
    | (simp; done)
    | (simp [*]; done)
    | (have e := State.still_fst ‹_ = (_, _)›; simp at e; simp [e]; done)
    | (have e := State.still_snd ‹_ = (_, _)›; simp at e; simp [e]; done))

/-! ## Time -/

@[simp] theorem State.tReject_still (s : State) :
    (State.tReject s).still = s.still := by
  unfold State.tReject
  first
  | (simp; done)
  | ((try dsimp only); (repeat' split) <;> first
    | (simp; done)
    | (simp [*]; done)
    | (have e := State.still_fst ‹_ = (_, _)›; simp at e; simp [e]; done)
    | (have e := State.still_snd ‹_ = (_, _)›; simp at e; simp [e]; done))

@[simp] theorem State.loadAdj_still (s : State) (k : Int) :
    (State.loadAdj s k).still = s.still := by
  unfold State.loadAdj
  first
  | (simp; done)
  | ((try dsimp only); (repeat' split) <;> first
    | (simp; done)
    | (simp [*]; done)
    | (have e := State.still_fst ‹_ = (_, _)›; simp at e; simp [e]; done)
    | (have e := State.still_snd ‹_ = (_, _)›; simp at e; simp [e]; done))

@[simp] theorem State.servoCountNow_still (s : State) :
    (State.servoCountNow s).still = s.still := by
  unfold State.servoCountNow
  first
  | (simp; done)
  | ((try dsimp only); (repeat' split) <;> first
    | (simp; done)
    | (simp [*]; done)
    | (have e := State.still_fst ‹_ = (_, _)›; simp at e; simp [e]; done)
    | (have e := State.still_snd ‹_ = (_, _)›; simp at e; simp [e]; done))

@[simp] theorem State.enterHoldover_still (s : State) :
    (State.enterHoldover s).still = s.still := by
  unfold State.enterHoldover
  first
  | (simp; done)
  | ((try dsimp only); (repeat' split) <;> first
    | (simp; done)
    | (simp [*]; done)
    | (have e := State.still_fst ‹_ = (_, _)›; simp at e; simp [e]; done)
    | (have e := State.still_snd ‹_ = (_, _)›; simp at e; simp [e]; done))

@[simp] theorem State.holdOrFree_still (s : State) :
    (State.holdOrFree s).still = s.still := by
  unfold State.holdOrFree
  first
  | (simp; done)
  | ((try dsimp only); (repeat' split) <;> first
    | (simp; done)
    | (simp [*]; done)
    | (have e := State.still_fst ‹_ = (_, _)›; simp at e; simp [e]; done)
    | (have e := State.still_snd ‹_ = (_, _)›; simp at e; simp [e]; done))

@[simp] theorem State.timeFree_still (s : State) :
    (State.timeFree s).still = s.still := by
  unfold State.timeFree
  first
  | (simp; done)
  | ((try dsimp only); (repeat' split) <;> first
    | (simp; done)
    | (simp [*]; done)
    | (have e := State.still_fst ‹_ = (_, _)›; simp at e; simp [e]; done)
    | (have e := State.still_snd ‹_ = (_, _)›; simp at e; simp [e]; done))

@[simp] theorem State.timeAcquire_still (s : State) (ref : Nat) :
    (State.timeAcquire s ref).still = s.still := by
  unfold State.timeAcquire
  first
  | (simp; done)
  | ((try dsimp only); (repeat' split) <;> first
    | (simp; done)
    | (simp [*]; done)
    | (have e := State.still_fst ‹_ = (_, _)›; simp at e; simp [e]; done)
    | (have e := State.still_snd ‹_ = (_, _)›; simp at e; simp [e]; done))

@[simp] theorem State.enterLocked_still (s : State) :
    (State.enterLocked s).still = s.still := by
  unfold State.enterLocked
  first
  | (simp; done)
  | ((try dsimp only); (repeat' split) <;> first
    | (simp; done)
    | (simp [*]; done)
    | (have e := State.still_fst ‹_ = (_, _)›; simp at e; simp [e]; done)
    | (have e := State.still_snd ‹_ = (_, _)›; simp at e; simp [e]; done))

@[simp] theorem State.timeLock_still (s : State) :
    (State.timeLock s).still = s.still := by
  unfold State.timeLock
  first
  | (simp; done)
  | ((try dsimp only); (repeat' split) <;> first
    | (simp; done)
    | (simp [*]; done)
    | (have e := State.still_fst ‹_ = (_, _)›; simp at e; simp [e]; done)
    | (have e := State.still_snd ‹_ = (_, _)›; simp at e; simp [e]; done))

@[simp] theorem State.timeHold_still (s : State) :
    (State.timeHold s).still = s.still := by
  unfold State.timeHold
  first
  | (simp; done)
  | ((try dsimp only); (repeat' split) <;> first
    | (simp; done)
    | (simp [*]; done)
    | (have e := State.still_fst ‹_ = (_, _)›; simp at e; simp [e]; done)
    | (have e := State.still_snd ‹_ = (_, _)›; simp at e; simp [e]; done))

@[simp] theorem State.timeResume_still (s : State) :
    (State.timeResume s).still = s.still := by
  unfold State.timeResume
  first
  | (simp; done)
  | ((try dsimp only); (repeat' split) <;> first
    | (simp; done)
    | (simp [*]; done)
    | (have e := State.still_fst ‹_ = (_, _)›; simp at e; simp [e]; done)
    | (have e := State.still_snd ‹_ = (_, _)›; simp at e; simp [e]; done))

@[simp] theorem State.timeCommand_still (s : State) (cmd : Nat) (ref : Nat) :
    (State.timeCommand s cmd ref).still = s.still := by
  unfold State.timeCommand
  first
  | (simp; done)
  | ((try dsimp only); (repeat' split) <;> first
    | (simp; done)
    | (simp [*]; done)
    | (have e := State.still_fst ‹_ = (_, _)›; simp at e; simp [e]; done)
    | (have e := State.still_snd ‹_ = (_, _)›; simp at e; simp [e]; done))

@[simp] theorem State.timeFreqWrite_still (s : State) (v : Nat) :
    (State.timeFreqWrite s v).still = s.still := by
  unfold State.timeFreqWrite
  first
  | (simp; done)
  | ((try dsimp only); (repeat' split) <;> first
    | (simp; done)
    | (simp [*]; done)
    | (have e := State.still_fst ‹_ = (_, _)›; simp at e; simp [e]; done)
    | (have e := State.still_snd ‹_ = (_, _)›; simp at e; simp [e]; done))

@[simp] theorem State.phaseWrite_still (s : State) (v : Nat) :
    (State.phaseWrite s v).still = s.still := by
  unfold State.phaseWrite
  first
  | (simp; done)
  | ((try dsimp only); (repeat' split) <;> first
    | (simp; done)
    | (simp [*]; done)
    | (have e := State.still_fst ‹_ = (_, _)›; simp at e; simp [e]; done)
    | (have e := State.still_snd ‹_ = (_, _)›; simp at e; simp [e]; done))

@[simp] theorem State.pitchTerms_still (s : State) :
    (State.pitchTerms s).still = s.still := by
  unfold State.pitchTerms
  first
  | (simp; done)
  | ((try dsimp only); (repeat' split) <;> first
    | (simp; done)
    | (simp [*]; done)
    | (have e := State.still_fst ‹_ = (_, _)›; simp at e; simp [e]; done)
    | (have e := State.still_snd ‹_ = (_, _)›; simp at e; simp [e]; done))

@[simp] theorem State.channelLoad_still (s : State) (n : Nat) :
    (State.channelLoad s n).still = s.still := by
  unfold State.channelLoad
  first
  | (simp; done)
  | ((try dsimp only); (repeat' split) <;> first
    | (simp; done)
    | (simp [*]; done)
    | (have e := State.still_fst ‹_ = (_, _)›; simp at e; simp [e]; done)
    | (have e := State.still_snd ‹_ = (_, _)›; simp at e; simp [e]; done))

@[simp] theorem State.timePitch_still (s : State) :
    (State.timePitch s).still = s.still := by
  unfold State.timePitch
  first
  | (simp; done)
  | ((try dsimp only); (repeat' split) <;> first
    | (simp; done)
    | (simp [*]; done)
    | (have e := State.still_fst ‹_ = (_, _)›; simp at e; simp [e]; done)
    | (have e := State.still_snd ‹_ = (_, _)›; simp at e; simp [e]; done))

theorem State.still_chans (s : State) (d : Nat) : ({ s with time := { s.time with
    chA := { s.time.chA with time := s.time.chA.time + d }
    chB := { s.time.chB with time := s.time.chB.time + d }
    chC := { s.time.chC with time := s.time.chC.time + d } } } : State).still = s.still := rfl

@[simp] theorem State.advanceTo_still (s : State) (ns : Nat) : (State.advanceTo s ns).still = s.still := by
  unfold State.advanceTo
  split
  · exact State.still_chans s _
  · rfl

@[simp] theorem State.latchTemp_still (s : State) :
    (State.latchTemp s).still = s.still := by
  unfold State.latchTemp
  first
  | (simp; done)
  | ((try dsimp only); (repeat' split) <;> first
    | (simp; done)
    | (simp [*]; done)
    | (have e := State.still_fst ‹_ = (_, _)›; simp at e; simp [e]; done)
    | (have e := State.still_snd ‹_ = (_, _)›; simp at e; simp [e]; done))

@[simp] theorem State.holdoverEpoch_still (s : State) :
    (State.holdoverEpoch s).still = s.still := by
  unfold State.holdoverEpoch
  first
  | (simp; done)
  | ((try dsimp only); (repeat' split) <;> first
    | (simp; done)
    | (simp [*]; done)
    | (have e := State.still_fst ‹_ = (_, _)›; simp at e; simp [e]; done)
    | (have e := State.still_snd ‹_ = (_, _)›; simp at e; simp [e]; done))

@[simp] theorem State.fabricEpoch_still (s : State) :
    (State.fabricEpoch s).still = s.still := by
  unfold State.fabricEpoch
  first
  | (simp; done)
  | ((try dsimp only); (repeat' split) <;> first
    | (simp; done)
    | (simp [*]; done)
    | (have e := State.still_fst ‹_ = (_, _)›; simp at e; simp [e]; done)
    | (have e := State.still_snd ‹_ = (_, _)›; simp at e; simp [e]; done))

@[simp] theorem State.timeEpoch_still (s : State) :
    (State.timeEpoch s).still = s.still := by
  unfold State.timeEpoch
  first
  | (simp; done)
  | ((try dsimp only); (repeat' split) <;> first
    | (simp; done)
    | (simp [*]; done)
    | (have e := State.still_fst ‹_ = (_, _)›; simp at e; simp [e]; done)
    | (have e := State.still_snd ‹_ = (_, _)›; simp at e; simp [e]; done))

@[simp] theorem State.todTick_still (s : State) :
    (State.todTick s).still = s.still := by
  unfold State.todTick
  first
  | (simp; done)
  | ((try dsimp only); (repeat' split) <;> first
    | (simp; done)
    | (simp [*]; done)
    | (have e := State.still_fst ‹_ = (_, _)›; simp at e; simp [e]; done)
    | (have e := State.still_snd ‹_ = (_, _)›; simp at e; simp [e]; done))

@[simp] theorem State.tickChannels_still (s : State) :
    (State.tickChannels s).still = s.still := by
  unfold State.tickChannels
  first
  | (simp; done)
  | ((try dsimp only); (repeat' split) <;> first
    | (simp; done)
    | (simp [*]; done)
    | (have e := State.still_fst ‹_ = (_, _)›; simp at e; simp [e]; done)
    | (have e := State.still_snd ‹_ = (_, _)›; simp at e; simp [e]; done))

@[simp] theorem State.tsqPush_still (s : State) (e : Nat) :
    (State.tsqPush s e).still = s.still := by
  unfold State.tsqPush
  first
  | (simp; done)
  | ((try dsimp only); (repeat' split) <;> first
    | (simp; done)
    | (simp [*]; done)
    | (have e := State.still_fst ‹_ = (_, _)›; simp at e; simp [e]; done)
    | (have e := State.still_snd ‹_ = (_, _)›; simp at e; simp [e]; done))

@[simp] theorem State.todRxTake_still (s : State) :
    (State.todRxTake s).2.still = s.still := by
  unfold State.todRxTake
  first
  | (simp; done)
  | ((try dsimp only); (repeat' split) <;> first
    | (simp; done)
    | (simp [*]; done)
    | (have e := State.still_fst ‹_ = (_, _)›; simp at e; simp [e]; done)
    | (have e := State.still_snd ‹_ = (_, _)›; simp at e; simp [e]; done))

@[simp] theorem State.todTxPut_still (s : State) (b : Sys2Proof.Byte) :
    (State.todTxPut s b).still = s.still := by
  unfold State.todTxPut
  first
  | (simp; done)
  | ((try dsimp only); (repeat' split) <;> first
    | (simp; done)
    | (simp [*]; done)
    | (have e := State.still_fst ‹_ = (_, _)›; simp at e; simp [e]; done)
    | (have e := State.still_snd ‹_ = (_, _)›; simp at e; simp [e]; done))

@[simp] theorem State.tsqTake_still (s : State) (k : Nat) :
    (State.tsqTake s k).2.still = s.still := by
  unfold State.tsqTake
  first
  | (simp; done)
  | ((try dsimp only); (repeat' split) <;> first
    | (simp; done)
    | (simp [*]; done)
    | (have e := State.still_fst ‹_ = (_, _)›; simp at e; simp [e]; done)
    | (have e := State.still_snd ‹_ = (_, _)›; simp at e; simp [e]; done))

@[simp] theorem State.ppsCapture_still (s : State) (n : Nat) :
    (State.ppsCapture s n).still = s.still := by
  unfold State.ppsCapture
  first
  | (simp; done)
  | ((try dsimp only); (repeat' split) <;> first
    | (simp; done)
    | (simp [*]; done)
    | (have e := State.still_fst ‹_ = (_, _)›; simp at e; simp [e]; done)
    | (have e := State.still_snd ‹_ = (_, _)›; simp at e; simp [e]; done))

@[simp] theorem State.ppsPulse_still (s : State) :
    (State.ppsPulse s).still = s.still := by
  unfold State.ppsPulse
  first
  | (simp; done)
  | ((try dsimp only); (repeat' split) <;> first
    | (simp; done)
    | (simp [*]; done)
    | (have e := State.still_fst ‹_ = (_, _)›; simp at e; simp [e]; done)
    | (have e := State.still_snd ‹_ = (_, _)›; simp at e; simp [e]; done))

/-! ## Spine -/

@[simp] theorem State.setRunning_still (s : State) (n : Nat) (b : Bool) :
    (State.setRunning s n b).still = s.still := by
  unfold State.setRunning
  first
  | (simp; done)
  | ((try dsimp only); (repeat' split) <;> first
    | (simp; done)
    | (simp [*]; done)
    | (have e := State.still_fst ‹_ = (_, _)›; simp at e; simp [e]; done)
    | (have e := State.still_snd ‹_ = (_, _)›; simp at e; simp [e]; done))

@[simp] theorem State.setFailed_still (s : State) (n : Nat) (b : Bool) :
    (State.setFailed s n b).still = s.still := by
  unfold State.setFailed
  first
  | (simp; done)
  | ((try dsimp only); (repeat' split) <;> first
    | (simp; done)
    | (simp [*]; done)
    | (have e := State.still_fst ‹_ = (_, _)›; simp at e; simp [e]; done)
    | (have e := State.still_snd ‹_ = (_, _)›; simp at e; simp [e]; done))

@[simp] theorem State.spnMismatch_still (s : State) :
    (State.spnMismatch s).still = s.still := by
  unfold State.spnMismatch
  first
  | (simp; done)
  | ((try dsimp only); (repeat' split) <;> first
    | (simp; done)
    | (simp [*]; done)
    | (have e := State.still_fst ‹_ = (_, _)›; simp at e; simp [e]; done)
    | (have e := State.still_snd ‹_ = (_, _)›; simp at e; simp [e]; done))

@[simp] theorem State.restartChan_still (s : State) (n : Nat) :
    (State.restartChan s n).still = s.still := by
  unfold State.restartChan
  first
  | (simp; done)
  | ((try dsimp only); (repeat' split) <;> first
    | (simp; done)
    | (simp [*]; done)
    | (have e := State.still_fst ‹_ = (_, _)›; simp at e; simp [e]; done)
    | (have e := State.still_snd ‹_ = (_, _)›; simp at e; simp [e]; done))

@[simp] theorem State.restartCmd_still (s : State) (n : Nat) :
    (State.restartCmd s n).still = s.still := by
  unfold State.restartCmd
  first
  | (simp; done)
  | ((try dsimp only); (repeat' split) <;> first
    | (simp; done)
    | (simp [*]; done)
    | (have e := State.still_fst ‹_ = (_, _)›; simp at e; simp [e]; done)
    | (have e := State.still_snd ‹_ = (_, _)›; simp at e; simp [e]; done))

@[simp] theorem State.katStart_still (s : State) (two : Bool) (noMaj : Bool) (self : Bool) :
    (State.katStart s two noMaj self).still = s.still := by
  unfold State.katStart
  first
  | (simp; done)
  | ((try dsimp only); (repeat' split) <;> first
    | (simp; done)
    | (simp [*]; done)
    | (have e := State.still_fst ‹_ = (_, _)›; simp at e; simp [e]; done)
    | (have e := State.still_snd ‹_ = (_, _)›; simp at e; simp [e]; done))

@[simp] theorem State.dissent_still (s : State) (d : Nat) (winner : Nat) :
    (State.dissent s d winner).still = s.still := by
  unfold State.dissent
  first
  | (simp; done)
  | ((try dsimp only); (repeat' split) <;> first
    | (simp; done)
    | (simp [*]; done)
    | (have e := State.still_fst ‹_ = (_, _)›; simp at e; simp [e]; done)
    | (have e := State.still_snd ‹_ = (_, _)›; simp at e; simp [e]; done))

@[simp] theorem State.vote_still (s : State) :
    (State.vote s).still = s.still := by
  unfold State.vote
  first
  | (simp; done)
  | ((try dsimp only); (repeat' split) <;> first
    | (simp; done)
    | (simp [*]; done)
    | (have e := State.still_fst ‹_ = (_, _)›; simp at e; simp [e]; done)
    | (have e := State.still_snd ‹_ = (_, _)›; simp at e; simp [e]; done))

@[simp] theorem State.compareTwo_still (s : State) (x : Nat) (y : Nat) :
    (State.compareTwo s x y).still = s.still := by
  unfold State.compareTwo
  first
  | (simp; done)
  | ((try dsimp only); (repeat' split) <;> first
    | (simp; done)
    | (simp [*]; done)
    | (have e := State.still_fst ‹_ = (_, _)›; simp at e; simp [e]; done)
    | (have e := State.still_snd ‹_ = (_, _)›; simp at e; simp [e]; done))

@[simp] theorem State.compareChans_still (s : State) :
    (State.compareChans s).still = s.still := by
  unfold State.compareChans
  first
  | (simp; done)
  | ((try dsimp only); (repeat' split) <;> first
    | (simp; done)
    | (simp [*]; done)
    | (have e := State.still_fst ‹_ = (_, _)›; simp at e; simp [e]; done)
    | (have e := State.still_snd ‹_ = (_, _)›; simp at e; simp [e]; done))

@[simp] theorem State.katResult_still (s : State) (n : Nat) (pass : Bool) :
    (State.katResult s n pass).still = s.still := by
  unfold State.katResult
  first
  | (simp; done)
  | ((try dsimp only); (repeat' split) <;> first
    | (simp; done)
    | (simp [*]; done)
    | (have e := State.still_fst ‹_ = (_, _)›; simp at e; simp [e]; done)
    | (have e := State.still_snd ‹_ = (_, _)›; simp at e; simp [e]; done))

@[simp] theorem State.katNoMajority_still (s : State) (p : Nat → Bool) :
    (State.katNoMajority s p).still = s.still := by
  unfold State.katNoMajority
  first
  | (simp; done)
  | ((try dsimp only); (repeat' split) <;> first
    | (simp; done)
    | (simp [*]; done)
    | (have e := State.still_fst ‹_ = (_, _)›; simp at e; simp [e]; done)
    | (have e := State.still_snd ‹_ = (_, _)›; simp at e; simp [e]; done))

@[simp] theorem State.katTwo_still (s : State) (p : Nat → Bool) (a : Nat) (b : Nat) :
    (State.katTwo s p a b).still = s.still := by
  unfold State.katTwo
  first
  | (simp; done)
  | ((try dsimp only); (repeat' split) <;> first
    | (simp; done)
    | (simp [*]; done)
    | (have e := State.still_fst ‹_ = (_, _)›; simp at e; simp [e]; done)
    | (have e := State.still_snd ‹_ = (_, _)›; simp at e; simp [e]; done))

@[simp] theorem State.katEnd_still (s : State) (p : Nat → Bool) :
    (State.katEnd s p).still = s.still := by
  unfold State.katEnd
  first
  | (simp; done)
  | ((try dsimp only); (repeat' split) <;> first
    | (simp; done)
    | (simp [*]; done)
    | (have e := State.still_fst ‹_ = (_, _)›; simp at e; simp [e]; done)
    | (have e := State.still_snd ‹_ = (_, _)›; simp at e; simp [e]; done))

@[simp] theorem State.spnModeCommit_still (s : State) (old : Nat) (new : Nat) :
    (State.spnModeCommit s old new).still = s.still := by
  unfold State.spnModeCommit
  first
  | (simp; done)
  | ((try dsimp only); (repeat' split) <;> first
    | (simp; done)
    | (simp [*]; done)
    | (have e := State.still_fst ‹_ = (_, _)›; simp at e; simp [e]; done)
    | (have e := State.still_snd ‹_ = (_, _)›; simp at e; simp [e]; done))

@[simp] theorem State.rejoin_still (s : State) (n : Nat) :
    (State.rejoin s n).still = s.still := by
  unfold State.rejoin
  first
  | (simp; done)
  | ((try dsimp only); (repeat' split) <;> first
    | (simp; done)
    | (simp [*]; done)
    | (have e := State.still_fst ‹_ = (_, _)›; simp at e; simp [e]; done)
    | (have e := State.still_snd ‹_ = (_, _)›; simp at e; simp [e]; done))

@[simp] theorem State.restartMask_still (s : State) (v : Nat) :
    (State.restartMask s v).still = s.still := by
  unfold State.restartMask
  first
  | (simp; done)
  | ((try dsimp only); (repeat' split) <;> first
    | (simp; done)
    | (simp [*]; done)
    | (have e := State.still_fst ‹_ = (_, _)›; simp at e; simp [e]; done)
    | (have e := State.still_snd ‹_ = (_, _)›; simp at e; simp [e]; done))

/-! ## Pair -/

@[simp] theorem State.ownGpio_still (s : State) (b : Bool) :
    (State.ownGpio s b).still = s.still := by
  unfold State.ownGpio
  first
  | (simp; done)
  | ((try dsimp only); (repeat' split) <;> first
    | (simp; done)
    | (simp [*]; done)
    | (have e := State.still_fst ‹_ = (_, _)›; simp at e; simp [e]; done)
    | (have e := State.still_snd ‹_ = (_, _)›; simp at e; simp [e]; done))

@[simp] theorem State.becomeOwner_still (s : State) :
    (State.becomeOwner s).still = s.still := by
  unfold State.becomeOwner
  first
  | (simp; done)
  | ((try dsimp only); (repeat' split) <;> first
    | (simp; done)
    | (simp [*]; done)
    | (have e := State.still_fst ‹_ = (_, _)›; simp at e; simp [e]; done)
    | (have e := State.still_snd ‹_ = (_, _)›; simp at e; simp [e]; done))

@[simp] theorem State.stopOwning_still (s : State) :
    (State.stopOwning s).still = s.still := by
  unfold State.stopOwning
  first
  | (simp; done)
  | ((try dsimp only); (repeat' split) <;> first
    | (simp; done)
    | (simp [*]; done)
    | (have e := State.still_fst ‹_ = (_, _)›; simp at e; simp [e]; done)
    | (have e := State.still_snd ‹_ = (_, _)›; simp at e; simp [e]; done))

@[simp] theorem State.pairSettle_still (s : State) :
    (State.pairSettle s).still = s.still := by
  unfold State.pairSettle
  first
  | (simp; done)
  | ((try dsimp only); (repeat' split) <;> first
    | (simp; done)
    | (simp [*]; done)
    | (have e := State.still_fst ‹_ = (_, _)›; simp at e; simp [e]; done)
    | (have e := State.still_snd ‹_ = (_, _)›; simp at e; simp [e]; done))

@[simp] theorem State.pairRelease_still (s : State) :
    (State.pairRelease s).still = s.still := by
  unfold State.pairRelease
  first
  | (simp; done)
  | ((try dsimp only); (repeat' split) <;> first
    | (simp; done)
    | (simp [*]; done)
    | (have e := State.still_fst ‹_ = (_, _)›; simp at e; simp [e]; done)
    | (have e := State.still_snd ‹_ = (_, _)›; simp at e; simp [e]; done))

@[simp] theorem State.pairClaim_still (s : State) :
    (State.pairClaim s).still = s.still := by
  unfold State.pairClaim
  first
  | (simp; done)
  | ((try dsimp only); (repeat' split) <;> first
    | (simp; done)
    | (simp [*]; done)
    | (have e := State.still_fst ‹_ = (_, _)›; simp at e; simp [e]; done)
    | (have e := State.still_snd ‹_ = (_, _)›; simp at e; simp [e]; done))

@[simp] theorem State.pairCommand_still (s : State) (v : Nat) :
    (State.pairCommand s v).still = s.still := by
  unfold State.pairCommand
  first
  | (simp; done)
  | ((try dsimp only); (repeat' split) <;> first
    | (simp; done)
    | (simp [*]; done)
    | (have e := State.still_fst ‹_ = (_, _)›; simp at e; simp [e]; done)
    | (have e := State.still_snd ‹_ = (_, _)›; simp at e; simp [e]; done))

@[simp] theorem State.decisionRecord_still (s : State) (port : Nat) (dest : Nat) (queue : Nat) (cls : Nat) (color : Nat) :
    (State.decisionRecord s port dest queue cls color).still = s.still := by
  unfold State.decisionRecord
  first
  | (simp; done)
  | ((try dsimp only); (repeat' split) <;> first
    | (simp; done)
    | (simp [*]; done)
    | (have e := State.still_fst ‹_ = (_, _)›; simp at e; simp [e]; done)
    | (have e := State.still_snd ‹_ = (_, _)›; simp at e; simp [e]; done))

@[simp] theorem State.pairEpoch_still (s : State) :
    (State.pairEpoch s).still = s.still := by
  unfold State.pairEpoch
  first
  | (simp; done)
  | ((try dsimp only); (repeat' split) <;> first
    | (simp; done)
    | (simp [*]; done)
    | (have e := State.still_fst ‹_ = (_, _)›; simp at e; simp [e]; done)
    | (have e := State.still_snd ‹_ = (_, _)›; simp at e; simp [e]; done))

@[simp] theorem State.pairCheckStart_still (s : State) :
    (State.pairCheckStart s).still = s.still := by
  unfold State.pairCheckStart
  first
  | (simp; done)
  | ((try dsimp only); (repeat' split) <;> first
    | (simp; done)
    | (simp [*]; done)
    | (have e := State.still_fst ‹_ = (_, _)›; simp at e; simp [e]; done)
    | (have e := State.still_snd ‹_ = (_, _)›; simp at e; simp [e]; done))

@[simp] theorem State.pairMismatch_still (s : State) (epoch : Nat) (kind : Nat) :
    (State.pairMismatch s epoch kind).still = s.still := by
  unfold State.pairMismatch
  first
  | (simp; done)
  | ((try dsimp only); (repeat' split) <;> first
    | (simp; done)
    | (simp [*]; done)
    | (have e := State.still_fst ‹_ = (_, _)›; simp at e; simp [e]; done)
    | (have e := State.still_snd ‹_ = (_, _)›; simp at e; simp [e]; done))

@[simp] theorem State.digestIn_still (s : State) (d : Sys2Proof.Digest) (rx : Nat) :
    (State.digestIn s d rx).still = s.still := by
  unfold State.digestIn
  first
  | (simp; done)
  | ((try dsimp only); (repeat' split) <;> first
    | (simp; done)
    | (simp [*]; done)
    | (have e := State.still_fst ‹_ = (_, _)›; simp at e; simp [e]; done)
    | (have e := State.still_snd ‹_ = (_, _)›; simp at e; simp [e]; done))

/-! ## Icu -/

@[simp] theorem State.icuClaim_still (s : State) (c : Nat) :
    (State.icuClaim s c).2.still = s.still := by
  unfold State.icuClaim
  first
  | (simp; done)
  | ((try dsimp only); (repeat' split) <;> first
    | (simp; done)
    | (simp [*]; done)
    | (have e := State.still_fst ‹_ = (_, _)›; simp at e; simp [e]; done)
    | (have e := State.still_snd ‹_ = (_, _)›; simp at e; simp [e]; done))

@[simp] theorem State.icuDone_still (s : State) (c : Nat) (src : Nat) :
    (State.icuDone s c src).still = s.still := by
  unfold State.icuDone
  first
  | (simp; done)
  | ((try dsimp only); (repeat' split) <;> first
    | (simp; done)
    | (simp [*]; done)
    | (have e := State.still_fst ‹_ = (_, _)›; simp at e; simp [e]; done)
    | (have e := State.still_snd ‹_ = (_, _)›; simp at e; simp [e]; done))

@[simp] theorem State.doorbell_still (s : State) (v : Nat) :
    (State.doorbell s v).still = s.still := by
  unfold State.doorbell
  first
  | (simp; done)
  | ((try dsimp only); (repeat' split) <;> first
    | (simp; done)
    | (simp [*]; done)
    | (have e := State.still_fst ‹_ = (_, _)›; simp at e; simp [e]; done)
    | (have e := State.still_snd ‹_ = (_, _)›; simp at e; simp [e]; done))

@[simp] theorem State.icuTraverse_still (s : State) :
    (State.icuTraverse s).still = s.still := by
  unfold State.icuTraverse
  first
  | (simp; done)
  | ((try dsimp only); (repeat' split) <;> first
    | (simp; done)
    | (simp [*]; done)
    | (have e := State.still_fst ‹_ = (_, _)›; simp at e; simp [e]; done)
    | (have e := State.still_snd ‹_ = (_, _)›; simp at e; simp [e]; done))

@[simp] theorem State.coreRun_still (s : State) (c : Nat) :
    (State.coreRun s c).still = s.still := by
  unfold State.coreRun
  first
  | (simp; done)
  | ((try dsimp only); (repeat' split) <;> first
    | (simp; done)
    | (simp [*]; done)
    | (have e := State.still_fst ‹_ = (_, _)›; simp at e; simp [e]; done)
    | (have e := State.still_snd ‹_ = (_, _)›; simp at e; simp [e]; done))

@[simp] theorem State.coreReload_still (s : State) (c : Nat) :
    (State.coreReload s c).still = s.still := by
  unfold State.coreReload
  first
  | (simp; done)
  | ((try dsimp only); (repeat' split) <;> first
    | (simp; done)
    | (simp [*]; done)
    | (have e := State.still_fst ‹_ = (_, _)›; simp at e; simp [e]; done)
    | (have e := State.still_snd ‹_ = (_, _)›; simp at e; simp [e]; done))

@[simp] theorem State.coreResetCmd_still (s : State) (m : Sys2Proof.Master) (c : Nat) :
    (State.coreResetCmd s m c).still = s.still := by
  unfold State.coreResetCmd
  first
  | (simp; done)
  | ((try dsimp only); (repeat' split) <;> first
    | (simp; done)
    | (simp [*]; done)
    | (have e := State.still_fst ‹_ = (_, _)›; simp at e; simp [e]; done)
    | (have e := State.still_snd ‹_ = (_, _)›; simp at e; simp [e]; done))

@[simp] theorem State.coreHaltCmd_still (s : State) (m : Sys2Proof.Master) (c : Nat) (h : Bool) :
    (State.coreHaltCmd s m c h).still = s.still := by
  unfold State.coreHaltCmd
  first
  | (simp; done)
  | ((try dsimp only); (repeat' split) <;> first
    | (simp; done)
    | (simp [*]; done)
    | (have e := State.still_fst ‹_ = (_, _)›; simp at e; simp [e]; done)
    | (have e := State.still_snd ‹_ = (_, _)›; simp at e; simp [e]; done))

@[simp] theorem State.kick_still (s : State) (c : Nat) :
    (State.kick s c).still = s.still := by
  unfold State.kick
  first
  | (simp; done)
  | ((try dsimp only); (repeat' split) <;> first
    | (simp; done)
    | (simp [*]; done)
    | (have e := State.still_fst ‹_ = (_, _)›; simp at e; simp [e]; done)
    | (have e := State.still_snd ‹_ = (_, _)›; simp at e; simp [e]; done))

/-! ## Pmu -/

@[simp] theorem State.fwinCfg_still (s : State) (pg : Nat) (n : Nat) (v : Nat) :
    (State.fwinCfg s pg n v).still = s.still := by
  unfold State.fwinCfg
  first
  | (simp; done)
  | ((try dsimp only); (repeat' split) <;> first
    | (simp; done)
    | (simp [*]; done)
    | (have e := State.still_fst ‹_ = (_, _)›; simp at e; simp [e]; done)
    | (have e := State.still_snd ‹_ = (_, _)›; simp at e; simp [e]; done))

@[simp] theorem State.fwinStatTake_still (s : State) (pg : Nat) (n : Nat) :
    (State.fwinStatTake s pg n).2.still = s.still := by
  unfold State.fwinStatTake
  first
  | (simp; done)
  | ((try dsimp only); (repeat' split) <;> first
    | (simp; done)
    | (simp [*]; done)
    | (have e := State.still_fst ‹_ = (_, _)›; simp at e; simp [e]; done)
    | (have e := State.still_snd ‹_ = (_, _)›; simp at e; simp [e]; done))

@[simp] theorem State.windowsSkipped_still (s : State) (e0 : Nat) (e1 : Nat) :
    (State.windowsSkipped s e0 e1).still = s.still := by
  unfold State.windowsSkipped
  first
  | (simp; done)
  | ((try dsimp only); (repeat' split) <;> first
    | (simp; done)
    | (simp [*]; done)
    | (have e := State.still_fst ‹_ = (_, _)›; simp at e; simp [e]; done)
    | (have e := State.still_snd ‹_ = (_, _)›; simp at e; simp [e]; done))

@[simp] theorem State.pmuClear_still (s : State) :
    (State.pmuClear s).still = s.still := by
  unfold State.pmuClear
  first
  | (simp; done)
  | ((try dsimp only); (repeat' split) <;> first
    | (simp; done)
    | (simp [*]; done)
    | (have e := State.still_fst ‹_ = (_, _)›; simp at e; simp [e]; done)
    | (have e := State.still_snd ‹_ = (_, _)›; simp at e; simp [e]; done))

theorem State.pmuWrite_still (s : State) (n v : Nat) (w : List Nat) :
    ({ s with pmu := { s.pmu with val := s.pmu.val.set 0 n v, wrap := w } } : State).still = s.still := rfl

@[simp] theorem State.pmuValue_still (s : State) (m : Master) (hi : Bool) (v : Nat) :
    (State.pmuValue s m hi v).still = s.still := by
  unfold State.pmuValue
  split
  · exact State.pmuWrite_still s _ _ _
  · simp

@[simp] theorem State.trbWrite_still (s : State) (pg : Nat) (k : Nat) (v : Nat) :
    (State.trbWrite s pg k v).still = s.still := by
  unfold State.trbWrite
  first
  | (simp; done)
  | ((try dsimp only); (repeat' split) <;> first
    | (simp; done)
    | (simp [*]; done)
    | (have e := State.still_fst ‹_ = (_, _)›; simp at e; simp [e]; done)
    | (have e := State.still_snd ‹_ = (_, _)›; simp at e; simp [e]; done))

/-! ## Ports -/

@[simp] theorem State.wpf_still (s : State) (f : Sys2Proof.Machine.Fld) (p : Nat) (v : Nat) :
    (State.wpf s f p v).still = s.still := by
  unfold State.wpf
  first
  | (simp; done)
  | ((try dsimp only); (repeat' split) <;> first
    | (simp; done)
    | (simp [*]; done)
    | (have e := State.still_fst ‹_ = (_, _)›; simp at e; simp [e]; done)
    | (have e := State.still_snd ‹_ = (_, _)›; simp at e; simp [e]; done))

@[simp] theorem State.ptrb_still (s : State) (p : Nat) (k : Nat) :
    (State.ptrb s p k).still = s.still := by
  unfold State.ptrb
  first
  | (simp; done)
  | ((try dsimp only); (repeat' split) <;> first
    | (simp; done)
    | (simp [*]; done)
    | (have e := State.still_fst ‹_ = (_, _)›; simp at e; simp [e]; done)
    | (have e := State.still_snd ‹_ = (_, _)›; simp at e; simp [e]; done))

@[simp] theorem State.syeAfter_still (s : State) (before : State) :
    (State.syeAfter s before).still = s.still := by
  unfold State.syeAfter
  first
  | (simp; done)
  | ((try dsimp only); (repeat' split) <;> first
    | (simp; done)
    | (simp [*]; done)
    | (have e := State.still_fst ‹_ = (_, _)›; simp at e; simp [e]; done)
    | (have e := State.still_snd ‹_ = (_, _)›; simp at e; simp [e]; done))

@[simp] theorem State.setPort_still (s : State) (p : Nat) (x : Sys2Proof.Machine.PortSt) :
    (State.setPort s p x).still = s.still := by
  unfold State.setPort
  first
  | (simp; done)
  | ((try dsimp only); (repeat' split) <;> first
    | (simp; done)
    | (simp [*]; done)
    | (have e := State.still_fst ‹_ = (_, _)›; simp at e; simp [e]; done)
    | (have e := State.still_snd ‹_ = (_, _)›; simp at e; simp [e]; done))

@[simp] theorem State.portDown_still (s : State) (p : Nat) :
    (State.portDown s p).still = s.still := by
  unfold State.portDown
  first
  | (simp; done)
  | ((try dsimp only); (repeat' split) <;> first
    | (simp; done)
    | (simp [*]; done)
    | (have e := State.still_fst ‹_ = (_, _)›; simp at e; simp [e]; done)
    | (have e := State.still_snd ‹_ = (_, _)›; simp at e; simp [e]; done))

@[simp] theorem State.fcUpdate_still (s : State) (p : Nat) :
    (State.fcUpdate s p).still = s.still := by
  unfold State.fcUpdate
  first
  | (simp; done)
  | ((try dsimp only); (repeat' split) <;> first
    | (simp; done)
    | (simp [*]; done)
    | (have e := State.still_fst ‹_ = (_, _)›; simp at e; simp [e]; done)
    | (have e := State.still_snd ‹_ = (_, _)›; simp at e; simp [e]; done))

@[simp] theorem State.fifoLevel_still (s : State) (p : Nat) :
    (State.fifoLevel s p).still = s.still := by
  unfold State.fifoLevel
  first
  | (simp; done)
  | ((try dsimp only); (repeat' split) <;> first
    | (simp; done)
    | (simp [*]; done)
    | (have e := State.still_fst ‹_ = (_, _)›; simp at e; simp [e]; done)
    | (have e := State.still_snd ‹_ = (_, _)›; simp at e; simp [e]; done))

@[simp] theorem State.fifoPut_still (s : State) (p : Nat) (f : Sys2Proof.Machine.InFrame) :
    (State.fifoPut s p f).still = s.still := by
  unfold State.fifoPut
  first
  | (simp; done)
  | ((try dsimp only); (repeat' split) <;> first
    | (simp; done)
    | (simp [*]; done)
    | (have e := State.still_fst ‹_ = (_, _)›; simp at e; simp [e]; done)
    | (have e := State.still_snd ‹_ = (_, _)›; simp at e; simp [e]; done))

@[simp] theorem State.pauseClass_still (s : State) (p : Nat) (c : Nat) (quanta : Nat) :
    (State.pauseClass s p c quanta).still = s.still := by
  unfold State.pauseClass
  first
  | (simp; done)
  | ((try dsimp only); (repeat' split) <;> first
    | (simp; done)
    | (simp [*]; done)
    | (have e := State.still_fst ‹_ = (_, _)›; simp at e; simp [e]; done)
    | (have e := State.still_snd ‹_ = (_, _)›; simp at e; simp [e]; done))

@[simp] theorem State.macControl_still (s : State) (p : Nat) (b : Sys2Proof.Bytes) :
    (State.macControl s p b).still = s.still := by
  unfold State.macControl
  first
  | (simp; done)
  | ((try dsimp only); (repeat' split) <;> first
    | (simp; done)
    | (simp [*]; done)
    | (have e := State.still_fst ‹_ = (_, _)›; simp at e; simp [e]; done)
    | (have e := State.still_snd ‹_ = (_, _)›; simp at e; simp [e]; done))

@[simp] theorem State.frameAccept_still (s : State) (p : Nat) (b : Sys2Proof.Bytes) (whole : Bool) (bad : Bool) :
    (State.frameAccept s p b whole bad).still = s.still := by
  unfold State.frameAccept
  first
  | (simp; done)
  | ((try dsimp only); (repeat' split) <;> first
    | (simp; done)
    | (simp [*]; done)
    | (have e := State.still_fst ‹_ = (_, _)›; simp at e; simp [e]; done)
    | (have e := State.still_snd ‹_ = (_, _)›; simp at e; simp [e]; done))

@[simp] theorem State.macCheck_still (s : State) (p : Nat) (b : Sys2Proof.Bytes) (whole : Bool) :
    (State.macCheck s p b whole).still = s.still := by
  unfold State.macCheck
  first
  | (simp; done)
  | ((try dsimp only); (repeat' split) <;> first
    | (simp; done)
    | (simp [*]; done)
    | (have e := State.still_fst ‹_ = (_, _)›; simp at e; simp [e]; done)
    | (have e := State.still_snd ‹_ = (_, _)›; simp at e; simp [e]; done))

@[simp] theorem State.frameIn_still (s : State) (p : Nat) (b : Sys2Proof.Bytes) (whole : Bool) :
    (State.frameIn s p b whole).still = s.still := by
  unfold State.frameIn
  first
  | (simp; done)
  | ((try dsimp only); (repeat' split) <;> first
    | (simp; done)
    | (simp [*]; done)
    | (have e := State.still_fst ‹_ = (_, _)›; simp at e; simp [e]; done)
    | (have e := State.still_snd ‹_ = (_, _)›; simp at e; simp [e]; done))

@[simp] theorem State.commitField_still (s : State) (pg : Nat) (f : Sys2Proof.Machine.Fld) (i : Nat) :
    (State.commitField s pg f i).still = s.still := by
  unfold State.commitField
  first
  | (simp; done)
  | ((try dsimp only); (repeat' split) <;> first
    | (simp; done)
    | (simp [*]; done)
    | (have e := State.still_fst ‹_ = (_, _)›; simp at e; simp [e]; done)
    | (have e := State.still_snd ‹_ = (_, _)›; simp at e; simp [e]; done))

@[simp] theorem State.commitMap_still (s : State) (g : Nat) (h : Nat) (f : Sys2Proof.Machine.Fld) :
    (State.commitMap s g h f).still = s.still := by
  unfold State.commitMap
  first
  | (simp; done)
  | ((try dsimp only); (repeat' split) <;> first
    | (simp; done)
    | (simp [*]; done)
    | (have e := State.still_fst ‹_ = (_, _)›; simp at e; simp [e]; done)
    | (have e := State.still_snd ‹_ = (_, _)›; simp at e; simp [e]; done))

theorem State.commitLane_still (g : Nat) (okHalf : Nat → Bool) (a : State × List Nat) (j : Nat) :
    (State.commitLane g okHalf a j).1.still = a.1.still := by
  unfold State.commitLane
  dsimp only
  split <;> simp

@[simp] theorem State.netpgCommit_still (s : State) (g : Nat) : (State.netpgCommit s g).still = s.still := by
  unfold State.netpgCommit
  dsimp only
  rw [State.still_foldl_fst (fun t x => State.commitLane_still g _ t x)]
  simp

@[simp] theorem State.linkChange_still (s : State) (p : Nat) (aligned : Bool) (fecLock : Bool) (lf : Bool) (rf : Bool) :
    (State.linkChange s p aligned fecLock lf rf).still = s.still := by
  unfold State.linkChange
  first
  | (simp; done)
  | ((try dsimp only); (repeat' split) <;> first
    | (simp; done)
    | (simp [*]; done)
    | (have e := State.still_fst ‹_ = (_, _)›; simp at e; simp [e]; done)
    | (have e := State.still_snd ‹_ = (_, _)›; simp at e; simp [e]; done))

@[simp] theorem State.prbsTake_still (s : State) (pg : Nat) (lane : Nat) :
    (State.prbsTake s pg lane).2.still = s.still := by
  unfold State.prbsTake
  first
  | (simp; done)
  | ((try dsimp only); (repeat' split) <;> first
    | (simp; done)
    | (simp [*]; done)
    | (have e := State.still_fst ‹_ = (_, _)›; simp at e; simp [e]; done)
    | (have e := State.still_snd ‹_ = (_, _)›; simp at e; simp [e]; done))

@[simp] theorem State.refLost_still (s : State) (k : Nat) :
    (State.refLost s k).still = s.still := by
  unfold State.refLost
  first
  | (simp; done)
  | ((try dsimp only); (repeat' split) <;> first
    | (simp; done)
    | (simp [*]; done)
    | (have e := State.still_fst ‹_ = (_, _)›; simp at e; simp [e]; done)
    | (have e := State.still_snd ‹_ = (_, _)›; simp at e; simp [e]; done))

/-! ## Resets -/

@[simp] theorem State.clearRegs_still (s : State) (keepLive : Bool) (cls : List Sys2Proof.Machine.Ret) (p : Nat) :
    (State.clearRegs s keepLive cls p).still = s.still := by
  unfold State.clearRegs
  first
  | (simp; done)
  | ((try dsimp only); (repeat' split) <;> first
    | (simp; done)
    | (simp [*]; done)
    | (have e := State.still_fst ‹_ = (_, _)›; simp at e; simp [e]; done)
    | (have e := State.still_snd ‹_ = (_, _)›; simp at e; simp [e]; done))

@[simp] theorem State.discardBuffers_still (s : State) :
    (State.discardBuffers s).still = s.still := by
  unfold State.discardBuffers
  first
  | (simp; done)
  | ((try dsimp only); (repeat' split) <;> first
    | (simp; done)
    | (simp [*]; done)
    | (have e := State.still_fst ‹_ = (_, _)›; simp at e; simp [e]; done)
    | (have e := State.still_snd ‹_ = (_, _)›; simp at e; simp [e]; done))

@[simp] theorem State.emptyExm_still (s : State) :
    (State.emptyExm s).still = s.still := by
  unfold State.emptyExm
  first
  | (simp; done)
  | ((try dsimp only); (repeat' split) <;> first
    | (simp; done)
    | (simp [*]; done)
    | (have e := State.still_fst ‹_ = (_, _)›; simp at e; simp [e]; done)
    | (have e := State.still_snd ‹_ = (_, _)›; simp at e; simp [e]; done))

@[simp] theorem State.emptyFrag_still (s : State) :
    (State.emptyFrag s).still = s.still := by
  unfold State.emptyFrag
  first
  | (simp; done)
  | ((try dsimp only); (repeat' split) <;> first
    | (simp; done)
    | (simp [*]; done)
    | (have e := State.still_fst ‹_ = (_, _)›; simp at e; simp [e]; done)
    | (have e := State.still_snd ‹_ = (_, _)›; simp at e; simp [e]; done))

@[simp] theorem State.seedFrag_still (s : State) :
    (State.seedFrag s).still = s.still := by
  unfold State.seedFrag
  first
  | (simp; done)
  | ((try dsimp only); (repeat' split) <;> first
    | (simp; done)
    | (simp [*]; done)
    | (have e := State.still_fst ‹_ = (_, _)›; simp at e; simp [e]; done)
    | (have e := State.still_snd ‹_ = (_, _)›; simp at e; simp [e]; done))

@[simp] theorem State.clearCredits_still (s : State) :
    (State.clearCredits s).still = s.still := by
  unfold State.clearCredits
  first
  | (simp; done)
  | ((try dsimp only); (repeat' split) <;> first
    | (simp; done)
    | (simp [*]; done)
    | (have e := State.still_fst ‹_ = (_, _)›; simp at e; simp [e]; done)
    | (have e := State.still_snd ‹_ = (_, _)›; simp at e; simp [e]; done))

@[simp] theorem State.hbmTablesLost_still (s : State) :
    (State.hbmTablesLost s).still = s.still := by
  unfold State.hbmTablesLost
  first
  | (simp; done)
  | ((try dsimp only); (repeat' split) <;> first
    | (simp; done)
    | (simp [*]; done)
    | (have e := State.still_fst ‹_ = (_, _)›; simp at e; simp [e]; done)
    | (have e := State.still_snd ‹_ = (_, _)›; simp at e; simp [e]; done))

@[simp] theorem State.clearVolatile_still (s : State) (p : Nat) :
    (State.clearVolatile s p).still = s.still := by
  unfold State.clearVolatile
  first
  | (simp; done)
  | ((try dsimp only); (repeat' split) <;> first
    | (simp; done)
    | (simp [*]; done)
    | (have e := State.still_fst ‹_ = (_, _)›; simp at e; simp [e]; done)
    | (have e := State.still_snd ‹_ = (_, _)›; simp at e; simp [e]; done))

@[simp] theorem State.timeWarm_still (s : State) :
    (State.timeWarm s).still = s.still := by
  unfold State.timeWarm
  first
  | (simp; done)
  | ((try dsimp only); (repeat' split) <;> first
    | (simp; done)
    | (simp [*]; done)
    | (have e := State.still_fst ‹_ = (_, _)›; simp at e; simp [e]; done)
    | (have e := State.still_snd ‹_ = (_, _)›; simp at e; simp [e]; done))

@[simp] theorem State.recordReset_still (s : State) (last : Nat) (src : Nat) :
    (State.recordReset s last src).still = s.still := by
  unfold State.recordReset
  first
  | (simp; done)
  | ((try dsimp only); (repeat' split) <;> first
    | (simp; done)
    | (simp [*]; done)
    | (have e := State.still_fst ‹_ = (_, _)›; simp at e; simp [e]; done)
    | (have e := State.still_snd ‹_ = (_, _)›; simp at e; simp [e]; done))

@[simp] theorem State.belayRelease_still (s : State) :
    (State.belayRelease s).still = s.still := by
  unfold State.belayRelease
  first
  | (simp; done)
  | ((try dsimp only); (repeat' split) <;> first
    | (simp; done)
    | (simp [*]; done)
    | (have e := State.still_fst ‹_ = (_, _)›; simp at e; simp [e]; done)
    | (have e := State.still_snd ‹_ = (_, _)›; simp at e; simp [e]; done))

@[simp] theorem State.flrBegin_still (s : State) (src : Nat) :
    (State.flrBegin s src).still = s.still := by
  unfold State.flrBegin
  first
  | (simp; done)
  | ((try dsimp only); (repeat' split) <;> first
    | (simp; done)
    | (simp [*]; done)
    | (have e := State.still_fst ‹_ = (_, _)›; simp at e; simp [e]; done)
    | (have e := State.still_snd ‹_ = (_, _)›; simp at e; simp [e]; done))

@[simp] theorem State.blockEnd_still (s : State) (p : Nat) :
    (State.blockEnd s p).still = s.still := by
  unfold State.blockEnd
  first
  | (simp; done)
  | ((try dsimp only); (repeat' split) <;> first
    | (simp; done)
    | (simp [*]; done)
    | (have e := State.still_fst ‹_ = (_, _)›; simp at e; simp [e]; done)
    | (have e := State.still_snd ‹_ = (_, _)›; simp at e; simp [e]; done))

@[simp] theorem State.endpointReset_still (s : State) :
    (State.endpointReset s).still = s.still := by
  unfold State.endpointReset
  first
  | (simp; done)
  | ((try dsimp only); (repeat' split) <;> first
    | (simp; done)
    | (simp [*]; done)
    | (have e := State.still_fst ‹_ = (_, _)›; simp at e; simp [e]; done)
    | (have e := State.still_snd ‹_ = (_, _)›; simp at e; simp [e]; done))

/-! ## Parser -/

@[simp] theorem State.parityError_still (s : State) (pg : Nat) (k : Nat) (die : Nat) :
    (State.parityError s pg k die).still = s.still := by
  unfold State.parityError
  first
  | (simp; done)
  | ((try dsimp only); (repeat' split) <;> first
    | (simp; done)
    | (simp [*]; done)
    | (have e := State.still_fst ‹_ = (_, _)›; simp at e; simp [e]; done)
    | (have e := State.still_snd ‹_ = (_, _)›; simp at e; simp [e]; done))

@[simp] theorem State.parseReport_still (s : State) (port : Nat) (r : Sys2Proof.Machine.ParseRes) :
    (State.parseReport s port r).still = s.still := by
  unfold State.parseReport
  first
  | (simp; done)
  | ((try dsimp only); (repeat' split) <;> first
    | (simp; done)
    | (simp [*]; done)
    | (have e := State.still_fst ‹_ = (_, _)›; simp at e; simp [e]; done)
    | (have e := State.still_snd ‹_ = (_, _)›; simp at e; simp [e]; done))

@[simp] theorem State.tailReport_still (s : State) (port : Nat) (kept : Option (Nat × Nat × Nat)) (code : Nat) :
    (State.tailReport s port kept code).still = s.still := by
  unfold State.tailReport
  first
  | (simp; done)
  | ((try dsimp only); (repeat' split) <;> first
    | (simp; done)
    | (simp [*]; done)
    | (have e := State.still_fst ‹_ = (_, _)›; simp at e; simp [e]; done)
    | (have e := State.still_snd ‹_ = (_, _)›; simp at e; simp [e]; done))

/-! ## Lookup -/

@[simp] theorem State.routeReads_still (s : State) (img : Sys2Proof.Machine.LpmImage) (v6 : Bool) (vrf : Nat) (addr : Nat) :
    (State.routeReads s img v6 vrf addr).still = s.still := by
  unfold State.routeReads
  first
  | (simp; done)
  | ((try dsimp only); (repeat' split) <;> first
    | (simp; done)
    | (simp [*]; done)
    | (have e := State.still_fst ‹_ = (_, _)›; simp at e; simp [e]; done)
    | (have e := State.still_snd ‹_ = (_, _)›; simp at e; simp [e]; done))

@[simp] theorem State.route_still (s : State) (img : Sys2Proof.Machine.LpmImage) (bad : List Sys2Proof.BadCell) (v6 : Bool) (vrf : Nat) (addr : Nat) :
    (State.route s img bad v6 vrf addr).1.still = s.still := by
  unfold State.route
  first
  | (simp; done)
  | ((try dsimp only); (repeat' split) <;> first
    | (simp; done)
    | (simp [*]; done)
    | (have e := State.still_fst ‹_ = (_, _)›; simp at e; simp [e]; done)
    | (have e := State.still_snd ‹_ = (_, _)›; simp at e; simp [e]; done))

@[simp] theorem State.setSlot_still (s : State) (t : Nat) (b : Nat) (i : Nat) (e : Nat) :
    (State.setSlot s t b i e).still = s.still := by
  unfold State.setSlot
  first
  | (simp; done)
  | ((try dsimp only); (repeat' split) <;> first
    | (simp; done)
    | (simp [*]; done)
    | (have e := State.still_fst ‹_ = (_, _)›; simp at e; simp [e]; done)
    | (have e := State.still_snd ‹_ = (_, _)›; simp at e; simp [e]; done))

@[simp] theorem State.setEntry_still (s : State) (p : Sys2Proof.Machine.Place) (e : Nat) :
    (State.setEntry s p e).still = s.still := by
  unfold State.setEntry
  first
  | (simp; done)
  | ((try dsimp only); (repeat' split) <;> first
    | (simp; done)
    | (simp [*]; done)
    | (have e := State.still_fst ‹_ = (_, _)›; simp at e; simp [e]; done)
    | (have e := State.still_snd ‹_ = (_, _)›; simp at e; simp [e]; done))

@[simp] theorem State.exmReads_still (s : State) (port : Nat) (k : Nat) :
    (State.exmReads s port k).still = s.still := by
  unfold State.exmReads
  first
  | (simp; done)
  | ((try dsimp only); (repeat' split) <;> first
    | (simp; done)
    | (simp [*]; done)
    | (have e := State.still_fst ‹_ = (_, _)›; simp at e; simp [e]; done)
    | (have e := State.still_snd ‹_ = (_, _)›; simp at e; simp [e]; done))

@[simp] theorem State.exmLookup_still (s : State) (bad : List Sys2Proof.BadCell) (k : Nat) :
    (State.exmLookup s bad k).1.still = s.still := by
  unfold State.exmLookup
  first
  | (simp; done)
  | ((try dsimp only); (repeat' split) <;> first
    | (simp; done)
    | (simp [*]; done)
    | (have e := State.still_fst ‹_ = (_, _)›; simp at e; simp [e]; done)
    | (have e := State.still_snd ‹_ = (_, _)›; simp at e; simp [e]; done))

@[simp] theorem State.nextHop_still (s : State) (bad : List Sys2Proof.BadCell) (d : Sys2Proof.Machine.Decision) (i : Nat) :
    (State.nextHop s bad d i).1.still = s.still := by
  unfold State.nextHop
  first
  | (simp; done)
  | ((try dsimp only); (repeat' split) <;> first
    | (simp; done)
    | (simp [*]; done)
    | (have e := State.still_fst ‹_ = (_, _)›; simp at e; simp [e]; done)
    | (have e := State.still_snd ‹_ = (_, _)›; simp at e; simp [e]; done))

@[simp] theorem State.ecmpResolve_still (s : State) (bad : List Sys2Proof.BadCell) (d : Sys2Proof.Machine.Decision) (hash : Nat) :
    (State.ecmpResolve s bad d hash).1.still = s.still := by
  unfold State.ecmpResolve
  first
  | (simp; done)
  | ((try dsimp only); (repeat' split) <;> first
    | (simp; done)
    | (simp [*]; done)
    | (have e := State.still_fst ‹_ = (_, _)›; simp at e; simp [e]; done)
    | (have e := State.still_snd ‹_ = (_, _)›; simp at e; simp [e]; done))

@[simp] theorem State.applyResult_still (s : State) (bad : List Sys2Proof.BadCell) (d : Sys2Proof.Machine.Decision) (kind : Nat) (idx : Nat) :
    (State.applyResult s bad d kind idx).1.still = s.still := by
  unfold State.applyResult
  first
  | (simp; done)
  | ((try dsimp only); (repeat' split) <;> first
    | (simp; done)
    | (simp [*]; done)
    | (have e := State.still_fst ‹_ = (_, _)›; simp at e; simp [e]; done)
    | (have e := State.still_snd ‹_ = (_, _)›; simp at e; simp [e]; done))

@[simp] theorem State.learnPush_still (s : State) (r : Sys2Proof.Machine.LearnReq) :
    (State.learnPush s r).still = s.still := by
  unfold State.learnPush
  first
  | (simp; done)
  | ((try dsimp only); (repeat' split) <;> first
    | (simp; done)
    | (simp [*]; done)
    | (have e := State.still_fst ‹_ = (_, _)›; simp at e; simp [e]; done)
    | (have e := State.still_snd ‹_ = (_, _)›; simp at e; simp [e]; done))

@[simp] theorem State.learnQueue_still (s : State) (e : Nat) :
    (State.learnQueue s e).still = s.still := by
  unfold State.learnQueue
  first
  | (simp; done)
  | ((try dsimp only); (repeat' split) <;> first
    | (simp; done)
    | (simp [*]; done)
    | (have e := State.still_fst ‹_ = (_, _)›; simp at e; simp [e]; done)
    | (have e := State.still_snd ‹_ = (_, _)›; simp at e; simp [e]; done))

@[simp] theorem State.learnSource_still (s : State) (bad : List Sys2Proof.BadCell) (port : Nat) (bd : Nat) (mac : Nat) :
    (State.learnSource s bad port bd mac).still = s.still := by
  unfold State.learnSource
  first
  | (simp; done)
  | ((try dsimp only); (repeat' split) <;> first
    | (simp; done)
    | (simp [*]; done)
    | (have e := State.still_fst ‹_ = (_, _)›; simp at e; simp [e]; done)
    | (have e := State.still_snd ‹_ = (_, _)›; simp at e; simp [e]; done))

@[simp] theorem State.l2Lookup_still (s : State) (bad : List Sys2Proof.BadCell) (d : Sys2Proof.Machine.Decision) (port : Nat) (bd : Nat) (dst : Nat) (src : Nat) :
    (State.l2Lookup s bad d port bd dst src).1.still = s.still := by
  unfold State.l2Lookup
  first
  | (simp; done)
  | ((try dsimp only); (repeat' split) <;> first
    | (simp; done)
    | (simp [*]; done)
    | (have e := State.still_fst ‹_ = (_, _)›; simp at e; simp [e]; done)
    | (have e := State.still_snd ‹_ = (_, _)›; simp at e; simp [e]; done))

@[simp] theorem State.routeAction_still (s : State) (bad : List BadCell) (img : LpmImage) (b : Bytes) (lim : Nat)
    (insts : List HdrInst) (port level : Nat) (d : Decision) :
    (State.routeAction s bad img b lim insts port level d).1.still = s.still := by
  have h0 : ∀ (c : Prop) [Decidable c] (k : Nat),
      (if c then s.exmLookup bad k else (s, none)).1.still = s.still := by
    intro c _ k
    split
    · simp
    · rfl
  unfold State.routeAction
  split
  · rfl
  · dsimp only
    split
    · rfl
    · split <;>
        (have e := congrArg (fun r => State.still r.1) ‹State.route _ _ _ _ _ _ = (_, _)›
         simp [h0] at e
         simp [← e])

@[simp] theorem State.l2Action_still (s : State) (bad : List Sys2Proof.BadCell) (b : Sys2Proof.Bytes) (lim : Nat) (insts : List Sys2Proof.Machine.HdrInst) (port : Nat) (level : Nat) (d : Sys2Proof.Machine.Decision) :
    (State.l2Action s bad b lim insts port level d).1.still = s.still := by
  unfold State.l2Action
  first
  | (simp; done)
  | ((try dsimp only); (repeat' split) <;> first
    | (simp; done)
    | (simp [*]; done)
    | (have e := State.still_fst ‹_ = (_, _)›; simp at e; simp [e]; done)
    | (have e := State.still_snd ‹_ = (_, _)›; simp at e; simp [e]; done))

/-! ## Classify -/

@[simp] theorem State.clsErr_still (s : State) (kind : Nat) (set : Nat) (i : Nat) :
    (State.clsErr s kind set i).still = s.still := by
  unfold State.clsErr
  first
  | (simp; done)
  | ((try dsimp only); (repeat' split) <;> first
    | (simp; done)
    | (simp [*]; done)
    | (have e := State.still_fst ‹_ = (_, _)›; simp at e; simp [e]; done)
    | (have e := State.still_snd ‹_ = (_, _)›; simp at e; simp [e]; done))

@[simp] theorem State.setReport_still (s : State) (set : Nat) (e : Sys2Proof.Machine.SetEnd) :
    (State.setReport s set e).1.still = s.still := by
  unfold State.setReport
  first
  | (simp; done)
  | ((try dsimp only); (repeat' split) <;> first
    | (simp; done)
    | (simp [*]; done)
    | (have e := State.still_fst ‹_ = (_, _)›; simp at e; simp [e]; done)
    | (have e := State.still_snd ‹_ = (_, _)›; simp at e; simp [e]; done))

@[simp] theorem State.applyDest_still (s : State) (bad : List Sys2Proof.BadCell) (img : Sys2Proof.Machine.LpmImage) (c : Sys2Proof.Machine.KeyCtx) (ingress : Nat) (d : Sys2Proof.Machine.Decision) (r : Nat) :
    (State.applyDest s bad img c ingress d r).1.still = s.still := by
  unfold State.applyDest
  first
  | (simp; done)
  | ((try dsimp only); (repeat' split) <;> first
    | (simp; done)
    | (simp [*]; done)
    | (have e := State.still_fst ‹_ = (_, _)›; simp at e; simp [e]; done)
    | (have e := State.still_snd ‹_ = (_, _)›; simp at e; simp [e]; done))

@[simp] theorem State.ingressSet_still (s : State) (bad : List Sys2Proof.BadCell) (img : Sys2Proof.Machine.LpmImage) (c : Sys2Proof.Machine.KeyCtx) (ingress : Nat) (set : Nat) (rs : Sys2Proof.Machine.RuleSet) (d : Sys2Proof.Machine.Decision) :
    (State.ingressSet s bad img c ingress set rs d).1.still = s.still := by
  unfold State.ingressSet
  first
  | (simp; done)
  | ((try dsimp only); (repeat' split) <;> first
    | (simp; done)
    | (simp [*]; done)
    | (have e := State.still_fst ‹_ = (_, _)›; simp at e; simp [e]; done)
    | (have e := State.still_snd ‹_ = (_, _)›; simp at e; simp [e]; done))

@[simp] theorem State.ingressSets_still (s : State) (bad : List Sys2Proof.BadCell) (g : Sys2Proof.Machine.Gens) (c : Sys2Proof.Machine.KeyCtx) (ingress : Nat) (d : Sys2Proof.Machine.Decision) :
    (State.ingressSets s bad g c ingress d).1.still = s.still := by
  unfold State.ingressSets
  first
  | (simp; done)
  | ((try dsimp only); (repeat' split) <;> first
    | (simp; done)
    | (simp [*]; done)
    | (have e := State.still_fst ‹_ = (_, _)›; simp at e; simp [e]; done)
    | (have e := State.still_snd ‹_ = (_, _)›; simp at e; simp [e]; done))

@[simp] theorem State.egressSet_still (s : State) (bad : List Sys2Proof.BadCell) (c : Sys2Proof.Machine.KeyCtx) (set : Nat) (rs : Sys2Proof.Machine.RuleSet) (a : Sys2Proof.Machine.Decision × Option Nat) :
    (State.egressSet s bad c set rs a).1.still = s.still := by
  unfold State.egressSet
  first
  | (simp; done)
  | ((try dsimp only); (repeat' split) <;> first
    | (simp; done)
    | (simp [*]; done)
    | (have e := State.still_fst ‹_ = (_, _)›; simp at e; simp [e]; done)
    | (have e := State.still_snd ‹_ = (_, _)›; simp at e; simp [e]; done))

@[simp] theorem State.egressSets_still (s : State) (bad : List Sys2Proof.BadCell) (g : Sys2Proof.Machine.Gens) (c : Sys2Proof.Machine.KeyCtx) (d : Sys2Proof.Machine.Decision) :
    (State.egressSets s bad g c d).1.still = s.still := by
  unfold State.egressSets
  first
  | (simp; done)
  | ((try dsimp only); (repeat' split) <;> first
    | (simp; done)
    | (simp [*]; done)
    | (have e := State.still_fst ‹_ = (_, _)›; simp at e; simp [e]; done)
    | (have e := State.still_snd ‹_ = (_, _)›; simp at e; simp [e]; done))

/-! ## Rewrite -/

@[simp] theorem State.actFail_still (s : State) (t : Nat) (reason : Nat) (k : Nat) :
    (State.actFail s t reason k).still = s.still := by
  unfold State.actFail
  first
  | (simp; done)
  | ((try dsimp only); (repeat' split) <;> first
    | (simp; done)
    | (simp [*]; done)
    | (have e := State.still_fst ‹_ = (_, _)›; simp at e; simp [e]; done)
    | (have e := State.still_snd ‹_ = (_, _)›; simp at e; simp [e]; done))

@[simp] theorem State.egressTemplate_still (s : State) (bad : List Sys2Proof.BadCell) (gen : Nat) (d : Sys2Proof.Machine.Decision) (l3 : Nat) (hash : Nat) (b : Sys2Proof.Bytes) :
    (State.egressTemplate s bad gen d l3 hash b).1.still = s.still := by
  unfold State.egressTemplate
  first
  | (simp; done)
  | ((try dsimp only); (repeat' split) <;> first
    | (simp; done)
    | (simp [*]; done)
    | (have e := State.still_fst ‹_ = (_, _)›; simp at e; simp [e]; done)
    | (have e := State.still_snd ‹_ = (_, _)›; simp at e; simp [e]; done))

@[simp] theorem State.adjDrop_still (s : State) :
    (State.adjDrop s).still = s.still := by
  unfold State.adjDrop
  first
  | (simp; done)
  | ((try dsimp only); (repeat' split) <;> first
    | (simp; done)
    | (simp [*]; done)
    | (have e := State.still_fst ‹_ = (_, _)›; simp at e; simp [e]; done)
    | (have e := State.still_snd ‹_ = (_, _)›; simp at e; simp [e]; done))

@[simp] theorem State.egressAdj_still (s : State) (bad : List Sys2Proof.BadCell) (d : Sys2Proof.Machine.Decision) (l3 : Nat) (b : Sys2Proof.Bytes) :
    (State.egressAdj s bad d l3 b).1.still = s.still := by
  unfold State.egressAdj
  first
  | (simp; done)
  | ((try dsimp only); (repeat' split) <;> first
    | (simp; done)
    | (simp [*]; done)
    | (have e := State.still_fst ‹_ = (_, _)›; simp at e; simp [e]; done)
    | (have e := State.still_snd ‹_ = (_, _)›; simp at e; simp [e]; done))

@[simp] theorem State.tcIngress_still (s : State) (port : Nat) (trx : Nat) (b : Sys2Proof.Bytes) :
    (State.tcIngress s port trx b).1.still = s.still := by
  unfold State.tcIngress
  first
  | (simp; done)
  | ((try dsimp only); (repeat' split) <;> first
    | (simp; done)
    | (simp [*]; done)
    | (have e := State.still_fst ‹_ = (_, _)›; simp at e; simp [e]; done)
    | (have e := State.still_snd ‹_ = (_, _)›; simp at e; simp [e]; done))

@[simp] theorem State.oneStep_still (s : State) (port : Nat) (ttx : Nat) (b : Sys2Proof.Bytes) :
    (State.oneStep s port ttx b).1.still = s.still := by
  unfold State.oneStep
  first
  | (simp; done)
  | ((try dsimp only); (repeat' split) <;> first
    | (simp; done)
    | (simp [*]; done)
    | (have e := State.still_fst ‹_ = (_, _)›; simp at e; simp [e]; done)
    | (have e := State.still_snd ‹_ = (_, _)›; simp at e; simp [e]; done))

/-! ## Nodes -/

@[simp] theorem State.setShaperTok_still (s : State) (i : Nat) (c : Int) (p : Int) :
    (State.setShaperTok s i c p).still = s.still := by
  unfold State.setShaperTok
  first
  | (simp; done)
  | ((try dsimp only); (repeat' split) <;> first
    | (simp; done)
    | (simp [*]; done)
    | (have e := State.still_fst ‹_ = (_, _)›; simp at e; simp [e]; done)
    | (have e := State.still_snd ‹_ = (_, _)›; simp at e; simp [e]; done))

@[simp] theorem State.shapersSettle_still (s : State) :
    (State.shapersSettle s).still = s.still := by
  unfold State.shapersSettle
  first
  | (simp; done)
  | ((try dsimp only); (repeat' split) <;> first
    | (simp; done)
    | (simp [*]; done)
    | (have e := State.still_fst ‹_ = (_, _)›; simp at e; simp [e]; done)
    | (have e := State.still_snd ‹_ = (_, _)›; simp at e; simp [e]; done))

@[simp] theorem State.chargeNodes_still (s : State) (l : List Nat) (w : Nat) :
    (State.chargeNodes s l w).still = s.still := by
  unfold State.chargeNodes
  first
  | (simp; done)
  | ((try dsimp only); (repeat' split) <;> first
    | (simp; done)
    | (simp [*]; done)
    | (have e := State.still_fst ‹_ = (_, _)›; simp at e; simp [e]; done)
    | (have e := State.still_snd ‹_ = (_, _)›; simp at e; simp [e]; done))

@[simp] theorem State.police_still (s : State) (i : Nat) (color : Nat) (b : Nat) :
    (State.police s i color b).1.still = s.still := by
  unfold State.police
  first
  | (simp; done)
  | ((try dsimp only); (repeat' split) <;> first
    | (simp; done)
    | (simp [*]; done)
    | (have e := State.still_fst ‹_ = (_, _)›; simp at e; simp [e]; done)
    | (have e := State.still_snd ‹_ = (_, _)›; simp at e; simp [e]; done))

@[simp] theorem State.policeError_still (s : State) (i : Nat) :
    (State.policeError s i).still = s.still := by
  unfold State.policeError
  first
  | (simp; done)
  | ((try dsimp only); (repeat' split) <;> first
    | (simp; done)
    | (simp [*]; done)
    | (have e := State.still_fst ‹_ = (_, _)›; simp at e; simp [e]; done)
    | (have e := State.still_snd ‹_ = (_, _)›; simp at e; simp [e]; done))

/-! ## Ingress -/

@[simp] theorem State.cross_still (s : State) (p : Sys2Proof.Machine.Packet) :
    (State.cross s p).still = s.still := by
  unfold State.cross
  first
  | (simp; done)
  | ((try dsimp only); (repeat' split) <;> first
    | (simp; done)
    | (simp [*]; done)
    | (have e := State.still_fst ‹_ = (_, _)›; simp at e; simp [e]; done)
    | (have e := State.still_snd ‹_ = (_, _)›; simp at e; simp [e]; done))

@[simp] theorem State.mcrPush_still (s : State) (counter : Nat) (n : Nat) :
    (State.mcrPush s counter n).still = s.still := by
  unfold State.mcrPush
  first
  | (simp; done)
  | ((try dsimp only); (repeat' split) <;> first
    | (simp; done)
    | (simp [*]; done)
    | (have e := State.still_fst ‹_ = (_, _)›; simp at e; simp [e]; done)
    | (have e := State.still_snd ‹_ = (_, _)›; simp at e; simp [e]; done))

@[simp] theorem State.dropPkt_still (s : State) (p : Sys2Proof.Machine.Packet) :
    (State.dropPkt s p).still = s.still := by
  unfold State.dropPkt
  first
  | (simp; done)
  | ((try dsimp only); (repeat' split) <;> first
    | (simp; done)
    | (simp [*]; done)
    | (have e := State.still_fst ‹_ = (_, _)›; simp at e; simp [e]; done)
    | (have e := State.still_snd ‹_ = (_, _)›; simp at e; simp [e]; done))

@[simp] theorem State.rccSet_still (s : State) (r : Nat) (tok : Nat) :
    (State.rccSet s r tok).still = s.still := by
  unfold State.rccSet
  first
  | (simp; done)
  | ((try dsimp only); (repeat' split) <;> first
    | (simp; done)
    | (simp [*]; done)
    | (have e := State.still_fst ‹_ = (_, _)›; simp at e; simp [e]; done)
    | (have e := State.still_snd ‹_ = (_, _)›; simp at e; simp [e]; done))

@[simp] theorem State.rccTake_still (s : State) (r : Nat) :
    (State.rccTake s r).1.still = s.still := by
  unfold State.rccTake
  first
  | (simp; done)
  | ((try dsimp only); (repeat' split) <;> first
    | (simp; done)
    | (simp [*]; done)
    | (have e := State.still_fst ‹_ = (_, _)›; simp at e; simp [e]; done)
    | (have e := State.still_snd ‹_ = (_, _)›; simp at e; simp [e]; done))

@[simp] theorem State.decap_still (s : State) (bad : List Sys2Proof.BadCell) (p : Sys2Proof.Machine.Packet) :
    (State.decap s bad p).1.still = s.still := by
  unfold State.decap
  first
  | (simp; done)
  | ((try dsimp only); (repeat' split) <;> first
    | (simp; done)
    | (simp [*]; done)
    | (have e := State.still_fst ‹_ = (_, _)›; simp at e; simp [e]; done)
    | (have e := State.still_snd ‹_ = (_, _)›; simp at e; simp [e]; done))

@[simp] theorem State.dfltCount_still (s : State) (w : Sys2Proof.Machine.Dflt) :
    (State.dfltCount s w).still = s.still := by
  unfold State.dfltCount
  first
  | (simp; done)
  | ((try dsimp only); (repeat' split) <;> first
    | (simp; done)
    | (simp [*]; done)
    | (have e := State.still_fst ‹_ = (_, _)›; simp at e; simp [e]; done)
    | (have e := State.still_snd ‹_ = (_, _)›; simp at e; simp [e]; done))

@[simp] theorem State.dfltRoute_still (s : State) (bad : List Sys2Proof.BadCell) (p : Sys2Proof.Machine.Packet) (d : Sys2Proof.Machine.Decision) :
    (State.dfltRoute s bad p d).1.still = s.still := by
  unfold State.dfltRoute
  first
  | (simp; done)
  | ((try dsimp only); (repeat' split) <;> first
    | (simp; done)
    | (simp [*]; done)
    | (have e := State.still_fst ‹_ = (_, _)›; simp at e; simp [e]; done)
    | (have e := State.still_snd ‹_ = (_, _)›; simp at e; simp [e]; done))

@[simp] theorem State.dfltDecide_still (s : State) (bad : List Sys2Proof.BadCell) (p : Sys2Proof.Machine.Packet) (code : Nat) :
    (State.dfltDecide s bad p code).1.still = s.still := by
  unfold State.dfltDecide
  first
  | (simp; done)
  | ((try dsimp only); (repeat' split) <;> first
    | (simp; done)
    | (simp [*]; done)
    | (have e := State.still_fst ‹_ = (_, _)›; simp at e; simp [e]; done)
    | (have e := State.still_snd ‹_ = (_, _)›; simp at e; simp [e]; done))

@[simp] theorem State.default_still (s : State) (bad : List Sys2Proof.BadCell) (p : Sys2Proof.Machine.Packet) (w : Sys2Proof.Machine.Dflt) :
    (State.default s bad p w).1.still = s.still := by
  unfold State.default
  first
  | (simp; done)
  | ((try dsimp only); (repeat' split) <;> first
    | (simp; done)
    | (simp [*]; done)
    | (have e := State.still_fst ‹_ = (_, _)›; simp at e; simp [e]; done)
    | (have e := State.still_snd ‹_ = (_, _)›; simp at e; simp [e]; done))

@[simp] theorem State.fragPut_still (s : State) (e : Sys2Proof.Machine.FragEnt) :
    (State.fragPut s e).still = s.still := by
  unfold State.fragPut
  first
  | (simp; done)
  | ((try dsimp only); (repeat' split) <;> first
    | (simp; done)
    | (simp [*]; done)
    | (have e := State.still_fst ‹_ = (_, _)›; simp at e; simp [e]; done)
    | (have e := State.still_snd ‹_ = (_, _)›; simp at e; simp [e]; done))

@[simp] theorem State.fragInsert_still (s : State) (p : Sys2Proof.Machine.Packet) (moved : Bool) :
    (State.fragInsert s p moved).still = s.still := by
  unfold State.fragInsert
  first
  | (simp; done)
  | ((try dsimp only); (repeat' split) <;> first
    | (simp; done)
    | (simp [*]; done)
    | (have e := State.still_fst ‹_ = (_, _)›; simp at e; simp [e]; done)
    | (have e := State.still_snd ‹_ = (_, _)›; simp at e; simp [e]; done))

@[simp] theorem State.fragLookup_still (s : State) (bad : List Sys2Proof.BadCell) (p : Sys2Proof.Machine.Packet) :
    (State.fragLookup s bad p).1.still = s.still := by
  unfold State.fragLookup
  first
  | (simp; done)
  | ((try dsimp only); (repeat' split) <;> first
    | (simp; done)
    | (simp [*]; done)
    | (have e := State.still_fst ‹_ = (_, _)›; simp at e; simp [e]; done)
    | (have e := State.still_snd ‹_ = (_, _)›; simp at e; simp [e]; done))

@[simp] theorem State.defaultEnd_still (s : State) (bad : List Sys2Proof.BadCell) (p : Sys2Proof.Machine.Packet) (w : Sys2Proof.Machine.Dflt) :
    (State.defaultEnd s bad p w).1.still = s.still := by
  unfold State.defaultEnd
  first
  | (simp; done)
  | ((try dsimp only); (repeat' split) <;> first
    | (simp; done)
    | (simp [*]; done)
    | (have e := State.still_fst ‹_ = (_, _)›; simp at e; simp [e]; done)
    | (have e := State.still_snd ‹_ = (_, _)›; simp at e; simp [e]; done))

@[simp] theorem State.resolvePass_still (s : State) (bad : List BadCell) (p : Packet) :
    (State.resolvePass s bad p).1.still = s.still := by
  unfold State.resolvePass
  split
  · simp
  · split
    · rfl
    · dsimp only
      split
      · simp
      · split
        · have e := State.still_fst ‹_ = (_, _)›
          simpa using e
        · have e := State.still_fst ‹_ = (_, _)›
          simp at e
          split <;> (have g := State.still_fst ‹_ = (_, _)›; simp at g; simp [g, e])
    · split
      · simp
      · split <;> (have g := State.still_fst ‹_ = (_, _)›; simp at g; simp [g])

@[simp] theorem State.treat_still (s : State) (bad : List Sys2Proof.BadCell) (c : Sys2Proof.Machine.KeyCtx) (p : Sys2Proof.Machine.Packet) :
    (State.treat s bad c p).1.still = s.still := by
  unfold State.treat
  first
  | (simp; done)
  | ((try dsimp only); (repeat' split) <;> first
    | (simp; done)
    | (simp [*]; done)
    | (have e := State.still_fst ‹_ = (_, _)›; simp at e; simp [e]; done)
    | (have e := State.still_snd ‹_ = (_, _)›; simp at e; simp [e]; done))

@[simp] theorem State.recordDecision_still (s : State) (p : Sys2Proof.Machine.Packet) (dropped : Bool) :
    (State.recordDecision s p dropped).still = s.still := by
  unfold State.recordDecision
  first
  | (simp; done)
  | ((try dsimp only); (repeat' split) <;> first
    | (simp; done)
    | (simp [*]; done)
    | (have e := State.still_fst ‹_ = (_, _)›; simp at e; simp [e]; done)
    | (have e := State.still_snd ‹_ = (_, _)›; simp at e; simp [e]; done))

@[simp] theorem State.crossOwned_still (s : State) (p : Sys2Proof.Machine.Packet) :
    (State.crossOwned s p).still = s.still := by
  unfold State.crossOwned
  first
  | (simp; done)
  | ((try dsimp only); (repeat' split) <;> first
    | (simp; done)
    | (simp [*]; done)
    | (have e := State.still_fst ‹_ = (_, _)›; simp at e; simp [e]; done)
    | (have e := State.still_snd ‹_ = (_, _)›; simp at e; simp [e]; done))

@[simp] theorem State.passGo_still (s : State) (before : Nat) (e : Sys2Proof.Machine.PassEnd) :
    (State.passGo s before e).still = s.still := by
  unfold State.passGo
  first
  | (simp; done)
  | ((try dsimp only); (repeat' split) <;> first
    | (simp; done)
    | (simp [*]; done)
    | (have e := State.still_fst ‹_ = (_, _)›; simp at e; simp [e]; done)
    | (have e := State.still_snd ‹_ = (_, _)›; simp at e; simp [e]; done))

@[simp] theorem State.tcStep_still (s : State) (p : Sys2Proof.Machine.Packet) :
    (State.tcStep s p).1.still = s.still := by
  unfold State.tcStep
  first
  | (simp; done)
  | ((try dsimp only); (repeat' split) <;> first
    | (simp; done)
    | (simp [*]; done)
    | (have e := State.still_fst ‹_ = (_, _)›; simp at e; simp [e]; done)
    | (have e := State.still_snd ‹_ = (_, _)›; simp at e; simp [e]; done))

@[simp] theorem State.pass_still (s : State) (bad : List Sys2Proof.BadCell) (p : Sys2Proof.Machine.Packet) (start : Nat) (ecpri : Bool) :
    (State.pass s bad p start ecpri).still = s.still := by
  unfold State.pass
  first
  | (simp; done)
  | ((try dsimp only); (repeat' split) <;> first
    | (simp; done)
    | (simp [*]; done)
    | (have e := State.still_fst ‹_ = (_, _)›; simp at e; simp [e]; done)
    | (have e := State.still_snd ‹_ = (_, _)›; simp at e; simp [e]; done))

@[simp] theorem State.settleTail_still (s : State) (p : Sys2Proof.Machine.Packet) (len : Nat) (fcsOk : Bool) :
    (State.settleTail s p len fcsOk).1.still = s.still := by
  unfold State.settleTail
  first
  | (simp; done)
  | ((try dsimp only); (repeat' split) <;> first
    | (simp; done)
    | (simp [*]; done)
    | (have e := State.still_fst ‹_ = (_, _)›; simp at e; simp [e]; done)
    | (have e := State.still_snd ‹_ = (_, _)›; simp at e; simp [e]; done))

@[simp] theorem State.appendTail_still (s : State) (p : Sys2Proof.Machine.Packet) (rest : Sys2Proof.Bytes) :
    (State.appendTail s p rest).1.still = s.still := by
  unfold State.appendTail
  first
  | (simp; done)
  | ((try dsimp only); (repeat' split) <;> first
    | (simp; done)
    | (simp [*]; done)
    | (have e := State.still_fst ‹_ = (_, _)›; simp at e; simp [e]; done)
    | (have e := State.still_snd ‹_ = (_, _)›; simp at e; simp [e]; done))

@[simp] theorem State.directPass_still (s : State) (bad : List Sys2Proof.BadCell) (p : Sys2Proof.Machine.Packet) (start : Nat) (dest : Nat) :
    (State.directPass s bad p start dest).still = s.still := by
  unfold State.directPass
  first
  | (simp; done)
  | ((try dsimp only); (repeat' split) <;> first
    | (simp; done)
    | (simp [*]; done)
    | (have e := State.still_fst ‹_ = (_, _)›; simp at e; simp [e]; done)
    | (have e := State.still_snd ‹_ = (_, _)›; simp at e; simp [e]; done))

@[simp] theorem State.firstPass_still (s : State) (bad : List Sys2Proof.BadCell) (port : Nat) (f : Sys2Proof.Machine.InFrame) :
    (State.firstPass s bad port f).still = s.still := by
  unfold State.firstPass
  first
  | (simp; done)
  | ((try dsimp only); (repeat' split) <;> first
    | (simp; done)
    | (simp [*]; done)
    | (have e := State.still_fst ‹_ = (_, _)›; simp at e; simp [e]; done)
    | (have e := State.still_snd ‹_ = (_, _)›; simp at e; simp [e]; done))

theorem State.settleGo_still (pid : Nat) (a : State × List Packet) (p : Packet) :
    (if p.pid = pid ∧ p.tailDone ∧ p.parse.kept.isSome then
      ((a.1.settleTail p p.rxLen true).1, a.2 ++ [{ (a.1.settleTail p p.rxLen true).2 with
        bad := p.bad || (a.1.settleTail p p.rxLen true).2.bad }])
    else (a.1, a.2 ++ [p])).1.still = a.1.still := by
  split
  · simp
  · rfl

@[simp] theorem State.settleWhole_still (s : State) (pid : Nat) : (State.settleWhole s pid).still = s.still := by
  unfold State.settleWhole
  dsimp only
  rw [State.still_foldl (by intro t x; simp)]
  simp only [State.still_mk, State.still_eta]
  rw [State.still_foldl_fst (State.settleGo_still pid)]
  dsimp only
  rw [State.still_foldl_fst (State.settleGo_still pid)]

/-! ## Gates -/

@[simp] theorem State.setGate_still (s : State) (p : Nat) (g : Sys2Proof.Machine.GatePort) :
    (State.setGate s p g).still = s.still := by
  unfold State.setGate
  first
  | (simp; done)
  | ((try dsimp only); (repeat' split) <;> first
    | (simp; done)
    | (simp [*]; done)
    | (have e := State.still_fst ‹_ = (_, _)›; simp at e; simp [e]; done)
    | (have e := State.still_snd ‹_ = (_, _)›; simp at e; simp [e]; done))

@[simp] theorem State.gateRefresh_still (s : State) (p : Nat) :
    (State.gateRefresh s p).still = s.still := by
  unfold State.gateRefresh
  first
  | (simp; done)
  | ((try dsimp only); (repeat' split) <;> first
    | (simp; done)
    | (simp [*]; done)
    | (have e := State.still_fst ‹_ = (_, _)›; simp at e; simp [e]; done)
    | (have e := State.still_snd ‹_ = (_, _)›; simp at e; simp [e]; done))

@[simp] theorem State.gateCommit_still (s : State) (p : Nat) (newList : Bool) (cfgWritten : Bool) :
    (State.gateCommit s p newList cfgWritten).still = s.still := by
  unfold State.gateCommit
  first
  | (simp; done)
  | ((try dsimp only); (repeat' split) <;> first
    | (simp; done)
    | (simp [*]; done)
    | (have e := State.still_fst ‹_ = (_, _)›; simp at e; simp [e]; done)
    | (have e := State.still_snd ‹_ = (_, _)›; simp at e; simp [e]; done))

@[simp] theorem State.ttTake_still (s : State) (p : Nat) :
    (State.ttTake s p).still = s.still := by
  unfold State.ttTake
  first
  | (simp; done)
  | ((try dsimp only); (repeat' split) <;> first
    | (simp; done)
    | (simp [*]; done)
    | (have e := State.still_fst ‹_ = (_, _)›; simp at e; simp [e]; done)
    | (have e := State.still_snd ‹_ = (_, _)›; simp at e; simp [e]; done))

@[simp] theorem State.ttStep_still (s : State) (p : Nat) (ok : Bool) :
    (State.ttStep s p ok).still = s.still := by
  unfold State.ttStep
  first
  | (simp; done)
  | ((try dsimp only); (repeat' split) <;> first
    | (simp; done)
    | (simp [*]; done)
    | (have e := State.still_fst ‹_ = (_, _)›; simp at e; simp [e]; done)
    | (have e := State.still_snd ‹_ = (_, _)›; simp at e; simp [e]; done))

@[simp] theorem State.ttCatchUp_still (s : State) (p : Nat) :
    (State.ttCatchUp s p).still = s.still := by
  unfold State.ttCatchUp
  first
  | (simp; done)
  | ((try dsimp only); (repeat' split) <;> first
    | (simp; done)
    | (simp [*]; done)
    | (have e := State.still_fst ‹_ = (_, _)›; simp at e; simp [e]; done)
    | (have e := State.still_snd ‹_ = (_, _)›; simp at e; simp [e]; done))

@[simp] theorem State.gateSkip_still (s : State) (old : Nat) (p : Nat) :
    (State.gateSkip s old p).still = s.still := by
  unfold State.gateSkip
  first
  | (simp; done)
  | ((try dsimp only); (repeat' split) <;> first
    | (simp; done)
    | (simp [*]; done)
    | (have e := State.still_fst ‹_ = (_, _)›; simp at e; simp [e]; done)
    | (have e := State.still_snd ‹_ = (_, _)›; simp at e; simp [e]; done))

@[simp] theorem State.ttCancel_still (s : State) (port : Nat) :
    (State.ttCancel s port).still = s.still := by
  unfold State.ttCancel
  first
  | (simp; done)
  | ((try dsimp only); (repeat' split) <;> first
    | (simp; done)
    | (simp [*]; done)
    | (have e := State.still_fst ‹_ = (_, _)›; simp at e; simp [e]; done)
    | (have e := State.still_snd ‹_ = (_, _)›; simp at e; simp [e]; done))

/-! ## Buffers -/

@[simp] theorem State.setPool_still (s : State) (n : Nat) (p : Sys2Proof.Machine.Pool) :
    (State.setPool s n p).still = s.still := by
  unfold State.setPool
  first
  | (simp; done)
  | ((try dsimp only); (repeat' split) <;> first
    | (simp; done)
    | (simp [*]; done)
    | (have e := State.still_fst ‹_ = (_, _)›; simp at e; simp [e]; done)
    | (have e := State.still_snd ‹_ = (_, _)›; simp at e; simp [e]; done))

theorem State.takeFrom_still {s t : State} {n i : Nat} (h : s.takeFrom n = some (i, t)) : t.still = s.still := by
  unfold State.takeFrom at h
  rw [Option.map_eq_some_iff] at h
  obtain ⟨r, -, h⟩ := h
  rw [Prod.mk.injEq] at h
  rw [← h.2]
  simp

@[simp] theorem State.allocFail_still (s : State) (n : Option Nat) :
    (State.allocFail s n).still = s.still := by
  unfold State.allocFail
  first
  | (simp; done)
  | ((try dsimp only); (repeat' split) <;> first
    | (simp; done)
    | (simp [*]; done)
    | (have e := State.still_fst ‹_ = (_, _)›; simp at e; simp [e]; done)
    | (have e := State.still_snd ‹_ = (_, _)›; simp at e; simp [e]; done))

@[simp] theorem State.allocate_still (s : State) (len : Nat) : (State.allocate s len).1.still = s.still := by
  unfold State.allocate
  (repeat' split) <;> first
    | (simp; done)
    | (have e := State.takeFrom_still ‹_ = some (_, _)›; simp [e]; done)

@[simp] theorem State.giveBack_still (s : State) (n : Nat) (i : Nat) :
    (State.giveBack s n i).still = s.still := by
  unfold State.giveBack
  first
  | (simp; done)
  | ((try dsimp only); (repeat' split) <;> first
    | (simp; done)
    | (simp [*]; done)
    | (have e := State.still_fst ‹_ = (_, _)›; simp at e; simp [e]; done)
    | (have e := State.still_snd ‹_ = (_, _)›; simp at e; simp [e]; done))

@[simp] theorem State.takeDesc_still (s : State) :
    (State.takeDesc s).1.still = s.still := by
  unfold State.takeDesc
  first
  | (simp; done)
  | ((try dsimp only); (repeat' split) <;> first
    | (simp; done)
    | (simp [*]; done)
    | (have e := State.still_fst ‹_ = (_, _)›; simp at e; simp [e]; done)
    | (have e := State.still_snd ‹_ = (_, _)›; simp at e; simp [e]; done))

@[simp] theorem State.giveDesc_still (s : State) (n : Nat) :
    (State.giveDesc s n).still = s.still := by
  unfold State.giveDesc
  first
  | (simp; done)
  | ((try dsimp only); (repeat' split) <;> first
    | (simp; done)
    | (simp [*]; done)
    | (have e := State.still_fst ‹_ = (_, _)›; simp at e; simp [e]; done)
    | (have e := State.still_snd ‹_ = (_, _)›; simp at e; simp [e]; done))

@[simp] theorem State.evalBp_still (s : State) (p : Nat) (c : Nat) :
    (State.evalBp s p c).still = s.still := by
  unfold State.evalBp
  first
  | (simp; done)
  | ((try dsimp only); (repeat' split) <;> first
    | (simp; done)
    | (simp [*]; done)
    | (have e := State.still_fst ‹_ = (_, _)›; simp at e; simp [e]; done)
    | (have e := State.still_snd ‹_ = (_, _)›; simp at e; simp [e]; done))

@[simp] theorem State.occAdd_still (s : State) (fabric : Bool) (p : Nat) (c : Nat) (n : Nat) :
    (State.occAdd s fabric p c n).still = s.still := by
  unfold State.occAdd
  first
  | (simp; done)
  | ((try dsimp only); (repeat' split) <;> first
    | (simp; done)
    | (simp [*]; done)
    | (have e := State.still_fst ‹_ = (_, _)›; simp at e; simp [e]; done)
    | (have e := State.still_snd ‹_ = (_, _)›; simp at e; simp [e]; done))

@[simp] theorem State.occSub_still (s : State) (fabric : Bool) (p : Nat) (c : Nat) (n : Nat) :
    (State.occSub s fabric p c n).still = s.still := by
  unfold State.occSub
  first
  | (simp; done)
  | ((try dsimp only); (repeat' split) <;> first
    | (simp; done)
    | (simp [*]; done)
    | (have e := State.still_fst ‹_ = (_, _)›; simp at e; simp [e]; done)
    | (have e := State.still_snd ‹_ = (_, _)›; simp at e; simp [e]; done))

@[simp] theorem State.setBuffer_still (s : State) (b : Sys2Proof.Machine.Buffer) :
    (State.setBuffer s b).still = s.still := by
  unfold State.setBuffer
  first
  | (simp; done)
  | ((try dsimp only); (repeat' split) <;> first
    | (simp; done)
    | (simp [*]; done)
    | (have e := State.still_fst ‹_ = (_, _)›; simp at e; simp [e]; done)
    | (have e := State.still_snd ‹_ = (_, _)›; simp at e; simp [e]; done))

@[simp] theorem State.bufWrite_still (s : State) (b : Sys2Proof.Machine.Buffer) (from_ : Nat) :
    (State.bufWrite s b from_).still = s.still := by
  unfold State.bufWrite
  first
  | (simp; done)
  | ((try dsimp only); (repeat' split) <;> first
    | (simp; done)
    | (simp [*]; done)
    | (have e := State.still_fst ‹_ = (_, _)›; simp at e; simp [e]; done)
    | (have e := State.still_snd ‹_ = (_, _)›; simp at e; simp [e]; done))

@[simp] theorem State.bufRead_still (s : State) (bid : Nat) :
    (State.bufRead s bid).still = s.still := by
  unfold State.bufRead
  first
  | (simp; done)
  | ((try dsimp only); (repeat' split) <;> first
    | (simp; done)
    | (simp [*]; done)
    | (have e := State.still_fst ‹_ = (_, _)›; simp at e; simp [e]; done)
    | (have e := State.still_snd ‹_ = (_, _)›; simp at e; simp [e]; done))

@[simp] theorem State.newBuffer_still (s : State) (k : Nat × Nat) (p : Sys2Proof.Machine.Packet) (fabric : Bool) (port : Nat) (cls : Nat) (charge : Nat) :
    (State.newBuffer s k p fabric port cls charge).1.still = s.still := by
  unfold State.newBuffer
  first
  | (simp; done)
  | ((try dsimp only); (repeat' split) <;> first
    | (simp; done)
    | (simp [*]; done)
    | (have e := State.still_fst ‹_ = (_, _)›; simp at e; simp [e]; done)
    | (have e := State.still_snd ‹_ = (_, _)›; simp at e; simp [e]; done))

@[simp] theorem State.freeBuffer_still (s : State) (b : Sys2Proof.Machine.Buffer) :
    (State.freeBuffer s b).still = s.still := by
  unfold State.freeBuffer
  first
  | (simp; done)
  | ((try dsimp only); (repeat' split) <;> first
    | (simp; done)
    | (simp [*]; done)
    | (have e := State.still_fst ‹_ = (_, _)›; simp at e; simp [e]; done)
    | (have e := State.still_snd ‹_ = (_, _)›; simp at e; simp [e]; done))

@[simp] theorem State.unref_still (s : State) (bid : Nat) :
    (State.unref s bid).still = s.still := by
  unfold State.unref
  first
  | (simp; done)
  | ((try dsimp only); (repeat' split) <;> first
    | (simp; done)
    | (simp [*]; done)
    | (have e := State.still_fst ‹_ = (_, _)›; simp at e; simp [e]; done)
    | (have e := State.still_snd ‹_ = (_, _)›; simp at e; simp [e]; done))

@[simp] theorem State.decRef_still (s : State) (bid : Nat) :
    (State.decRef s bid).still = s.still := by
  unfold State.decRef
  first
  | (simp; done)
  | ((try dsimp only); (repeat' split) <;> first
    | (simp; done)
    | (simp [*]; done)
    | (have e := State.still_fst ‹_ = (_, _)›; simp at e; simp [e]; done)
    | (have e := State.still_snd ‹_ = (_, _)›; simp at e; simp [e]; done))

@[simp] theorem State.setPacket_still (s : State) (bid : Nat) (p : Sys2Proof.Machine.Packet) :
    (State.setPacket s bid p).still = s.still := by
  unfold State.setPacket
  first
  | (simp; done)
  | ((try dsimp only); (repeat' split) <;> first
    | (simp; done)
    | (simp [*]; done)
    | (have e := State.still_fst ‹_ = (_, _)›; simp at e; simp [e]; done)
    | (have e := State.still_snd ‹_ = (_, _)›; simp at e; simp [e]; done))

@[simp] theorem State.poolApply_still (s : State) :
    (State.poolApply s).still = s.still := by
  unfold State.poolApply
  first
  | (simp; done)
  | ((try dsimp only); (repeat' split) <;> first
    | (simp; done)
    | (simp [*]; done)
    | (have e := State.still_fst ‹_ = (_, _)›; simp at e; simp [e]; done)
    | (have e := State.still_snd ‹_ = (_, _)›; simp at e; simp [e]; done))

@[simp] theorem State.mcrApply_still (s : State) (f : Sys2Proof.MemFinding) :
    (State.mcrApply s f).still = s.still := by
  unfold State.mcrApply
  first
  | (simp; done)
  | ((try dsimp only); (repeat' split) <;> first
    | (simp; done)
    | (simp [*]; done)
    | (have e := State.still_fst ‹_ = (_, _)›; simp at e; simp [e]; done)
    | (have e := State.still_snd ‹_ = (_, _)›; simp at e; simp [e]; done))

/-! ## Queues -/

@[simp] theorem State.setEq_still (s : State) (q : Nat) (l : List Sys2Proof.Machine.QEnt) :
    (State.setEq s q l).still = s.still := by
  unfold State.setEq
  first
  | (simp; done)
  | ((try dsimp only); (repeat' split) <;> first
    | (simp; done)
    | (simp [*]; done)
    | (have e := State.still_fst ‹_ = (_, _)›; simp at e; simp [e]; done)
    | (have e := State.still_snd ‹_ = (_, _)›; simp at e; simp [e]; done))

@[simp] theorem State.setVoq_still (s : State) (v : Nat) (l : List Sys2Proof.Machine.QEnt) :
    (State.setVoq s v l).still = s.still := by
  unfold State.setVoq
  first
  | (simp; done)
  | ((try dsimp only); (repeat' split) <;> first
    | (simp; done)
    | (simp [*]; done)
    | (have e := State.still_fst ‹_ = (_, _)›; simp at e; simp [e]; done)
    | (have e := State.still_snd ‹_ = (_, _)›; simp at e; simp [e]; done))

@[simp] theorem State.setFmc_still (s : State) (c : Nat) (l : List Sys2Proof.Machine.QEnt) :
    (State.setFmc s c l).still = s.still := by
  unfold State.setFmc
  first
  | (simp; done)
  | ((try dsimp only); (repeat' split) <;> first
    | (simp; done)
    | (simp [*]; done)
    | (have e := State.still_fst ‹_ = (_, _)›; simp at e; simp [e]; done)
    | (have e := State.still_snd ‹_ = (_, _)›; simp at e; simp [e]; done))

@[simp] theorem State.setPunt_still (s : State) (r : Nat) (l : List Sys2Proof.Machine.QEnt) :
    (State.setPunt s r l).still = s.still := by
  unfold State.setPunt
  first
  | (simp; done)
  | ((try dsimp only); (repeat' split) <;> first
    | (simp; done)
    | (simp [*]; done)
    | (have e := State.still_fst ‹_ = (_, _)›; simp at e; simp [e]; done)
    | (have e := State.still_snd ‹_ = (_, _)›; simp at e; simp [e]; done))

@[simp] theorem State.fmcCount_still (s : State) (k : Nat) (g : Nat) :
    (State.fmcCount s k g).still = s.still := by
  unfold State.fmcCount
  first
  | (simp; done)
  | ((try dsimp only); (repeat' split) <;> first
    | (simp; done)
    | (simp [*]; done)
    | (have e := State.still_fst ‹_ = (_, _)›; simp at e; simp [e]; done)
    | (have e := State.still_snd ‹_ = (_, _)›; simp at e; simp [e]; done))

@[simp] theorem State.treeIn_still (s : State) (bad : List Sys2Proof.BadCell) (body : List Nat) (g : Nat) :
    (State.treeIn s bad body g).1.still = s.still := by
  unfold State.treeIn
  first
  | (simp; done)
  | ((try dsimp only); (repeat' split) <;> first
    | (simp; done)
    | (simp [*]; done)
    | (have e := State.still_fst ‹_ = (_, _)›; simp at e; simp [e]; done)
    | (have e := State.still_snd ‹_ = (_, _)›; simp at e; simp [e]; done))

@[simp] theorem State.groupLegs_still (s : State) (bad : List Sys2Proof.BadCell) (g : Nat) (cls : Nat) (ingress : Option Nat) (mirror : Option Nat) :
    (State.groupLegs s bad g cls ingress mirror).1.still = s.still := by
  unfold State.groupLegs
  first
  | (simp; done)
  | ((try dsimp only); (repeat' split) <;> first
    | (simp; done)
    | (simp [*]; done)
    | (have e := State.still_fst ‹_ = (_, _)›; simp at e; simp [e]; done)
    | (have e := State.still_snd ‹_ = (_, _)›; simp at e; simp [e]; done))

@[simp] theorem State.copyLost_still (s : State) :
    (State.copyLost s).still = s.still := by
  unfold State.copyLost
  first
  | (simp; done)
  | ((try dsimp only); (repeat' split) <;> first
    | (simp; done)
    | (simp [*]; done)
    | (have e := State.still_fst ‹_ = (_, _)›; simp at e; simp [e]; done)
    | (have e := State.still_snd ‹_ = (_, _)›; simp at e; simp [e]; done))

@[simp] theorem State.puntDiscard_still (s : State) (r : Nat) :
    (State.puntDiscard s r).still = s.still := by
  unfold State.puntDiscard
  first
  | (simp; done)
  | ((try dsimp only); (repeat' split) <;> first
    | (simp; done)
    | (simp [*]; done)
    | (have e := State.still_fst ‹_ = (_, _)›; simp at e; simp [e]; done)
    | (have e := State.still_snd ‹_ = (_, _)›; simp at e; simp [e]; done))

@[simp] theorem State.mirrorLegs_still (s : State) (d : Sys2Proof.Machine.Decision) :
    (State.mirrorLegs s d).1.still = s.still := by
  unfold State.mirrorLegs
  first
  | (simp; done)
  | ((try dsimp only); (repeat' split) <;> first
    | (simp; done)
    | (simp [*]; done)
    | (have e := State.still_fst ‹_ = (_, _)›; simp at e; simp [e]; done)
    | (have e := State.still_snd ‹_ = (_, _)›; simp at e; simp [e]; done))

@[simp] theorem State.legs_still (s : State) (bad : List Sys2Proof.BadCell) (p : Sys2Proof.Machine.Packet) :
    (State.legs s bad p).1.still = s.still := by
  unfold State.legs
  first
  | (simp; done)
  | ((try dsimp only); (repeat' split) <;> first
    | (simp; done)
    | (simp [*]; done)
    | (have e := State.still_fst ‹_ = (_, _)›; simp at e; simp [e]; done)
    | (have e := State.still_snd ‹_ = (_, _)›; simp at e; simp [e]; done))

@[simp] theorem State.legAllowed_still (s : State) (a : State × List Leg) (l : Leg) :
    (State.legAllowed s a l).1.still = a.1.still := by
  unfold State.legAllowed
  split
  · simp
  · split
    · dsimp only
      split
      · simp
      · split <;> simp
    · rfl

@[simp] theorem State.holdCount_still (s : State) (mirror : Option Nat) (ring : Option Nat) (up : Bool) :
    (State.holdCount s mirror ring up).still = s.still := by
  unfold State.holdCount
  first
  | (simp; done)
  | ((try dsimp only); (repeat' split) <;> first
    | (simp; done)
    | (simp [*]; done)
    | (have e := State.still_fst ‹_ = (_, _)›; simp at e; simp [e]; done)
    | (have e := State.still_snd ‹_ = (_, _)›; simp at e; simp [e]; done))

@[simp] theorem State.dropEnt_still (s : State) (e : Sys2Proof.Machine.QEnt) (ring : Option Nat) :
    (State.dropEnt s e ring).still = s.still := by
  unfold State.dropEnt
  first
  | (simp; done)
  | ((try dsimp only); (repeat' split) <;> first
    | (simp; done)
    | (simp [*]; done)
    | (have e := State.still_fst ‹_ = (_, _)›; simp at e; simp [e]; done)
    | (have e := State.still_snd ‹_ = (_, _)›; simp at e; simp [e]; done))

@[simp] theorem State.egressEnqueue_still (s : State) (bid : Nat) (p : Sys2Proof.Machine.Packet) (port : Nat) (cls : Nat) (mirror : Option Nat) (cut : Bool) :
    (State.egressEnqueue s bid p port cls mirror cut).still = s.still := by
  unfold State.egressEnqueue
  first
  | (simp; done)
  | ((try dsimp only); (repeat' split) <;> first
    | (simp; done)
    | (simp [*]; done)
    | (have e := State.still_fst ‹_ = (_, _)›; simp at e; simp [e]; done)
    | (have e := State.still_snd ‹_ = (_, _)›; simp at e; simp [e]; done))

@[simp] theorem State.sendLeg_still (s : State) (bid : Nat) (p : Sys2Proof.Machine.Packet) (cut : Bool) (l : Sys2Proof.Machine.Leg) :
    (State.sendLeg s bid p cut l).still = s.still := by
  unfold State.sendLeg
  first
  | (simp; done)
  | ((try dsimp only); (repeat' split) <;> first
    | (simp; done)
    | (simp [*]; done)
    | (have e := State.still_fst ‹_ = (_, _)›; simp at e; simp [e]; done)
    | (have e := State.still_snd ‹_ = (_, _)›; simp at e; simp [e]; done))

@[simp] theorem State.sendCopy_still (bid : Nat) (p : Sys2Proof.Machine.Packet) (s : State) (l : Sys2Proof.Machine.Leg) :
    (State.sendCopy bid p s l).still = s.still := by
  unfold State.sendCopy
  first
  | (simp; done)
  | ((try dsimp only); (repeat' split) <;> first
    | (simp; done)
    | (simp [*]; done)
    | (have e := State.still_fst ‹_ = (_, _)›; simp at e; simp [e]; done)
    | (have e := State.still_snd ‹_ = (_, _)›; simp at e; simp [e]; done))

@[simp] theorem State.dispatchLegs_still (s : State) (bid : Nat) (p : Sys2Proof.Machine.Packet) (l : List Sys2Proof.Machine.Leg) (cut : Bool) :
    (State.dispatchLegs s bid p l cut).still = s.still := by
  unfold State.dispatchLegs
  first
  | (simp; done)
  | ((try dsimp only); (repeat' split) <;> first
    | (simp; done)
    | (simp [*]; done)
    | (have e := State.still_fst ‹_ = (_, _)›; simp at e; simp [e]; done)
    | (have e := State.still_snd ‹_ = (_, _)›; simp at e; simp [e]; done))

@[simp] theorem State.keptLegs_still (s : State) (bad : List BadCell) (p : Packet) :
    (State.keptLegs s bad p).1.still = s.still := by
  unfold State.keptLegs
  dsimp only
  rw [State.still_foldl_fst (fun a l => State.legAllowed_still _ a l)]
  simp

@[simp] theorem State.dispatch_still (s : State) (bad : List Sys2Proof.BadCell) (bid : Nat) (p : Sys2Proof.Machine.Packet) :
    (State.dispatch s bad bid p).still = s.still := by
  unfold State.dispatch
  first
  | (simp; done)
  | ((try dsimp only); (repeat' split) <;> first
    | (simp; done)
    | (simp [*]; done)
    | (have e := State.still_fst ‹_ = (_, _)›; simp at e; simp [e]; done)
    | (have e := State.still_snd ‹_ = (_, _)›; simp at e; simp [e]; done))

@[simp] theorem State.dropOld_still (s : State) (k : Nat) (f : Fld) (l : List QEnt) :
    (State.dropOld s k f l).1.still = s.still := by
  induction l generalizing s with
  | nil => rfl
  | cons e t ih =>
    unfold State.dropOld
    split
    · rw [ih]; simp
    · rfl

@[simp] theorem State.settleEq_still (s : State) (q : Nat) :
    (State.settleEq s q).still = s.still := by
  unfold State.settleEq
  first
  | (simp; done)
  | ((try dsimp only); (repeat' split) <;> first
    | (simp; done)
    | (simp [*]; done)
    | (have e := State.still_fst ‹_ = (_, _)›; simp at e; simp [e]; done)
    | (have e := State.still_snd ‹_ = (_, _)›; simp at e; simp [e]; done))

@[simp] theorem State.settleVoq_still (s : State) (v : Nat) :
    (State.settleVoq s v).still = s.still := by
  unfold State.settleVoq
  first
  | (simp; done)
  | ((try dsimp only); (repeat' split) <;> first
    | (simp; done)
    | (simp [*]; done)
    | (have e := State.still_fst ‹_ = (_, _)›; simp at e; simp [e]; done)
    | (have e := State.still_snd ‹_ = (_, _)›; simp at e; simp [e]; done))

@[simp] theorem State.tailDrop_still (s : State) :
    (State.tailDrop s).still = s.still := by
  unfold State.tailDrop
  first
  | (simp; done)
  | ((try dsimp only); (repeat' split) <;> first
    | (simp; done)
    | (simp [*]; done)
    | (have e := State.still_fst ‹_ = (_, _)›; simp at e; simp [e]; done)
    | (have e := State.still_snd ‹_ = (_, _)›; simp at e; simp [e]; done))

@[simp] theorem State.stompCount_still (s : State) :
    (State.stompCount s).still = s.still := by
  unfold State.stompCount
  first
  | (simp; done)
  | ((try dsimp only); (repeat' split) <;> first
    | (simp; done)
    | (simp [*]; done)
    | (have e := State.still_fst ‹_ = (_, _)›; simp at e; simp [e]; done)
    | (have e := State.still_snd ‹_ = (_, _)›; simp at e; simp [e]; done))

@[simp] theorem State.unqueue_still (s : State) (bid : Nat) :
    (State.unqueue s bid).still = s.still := by
  unfold State.unqueue
  first
  | (simp; done)
  | ((try dsimp only); (repeat' split) <;> first
    | (simp; done)
    | (simp [*]; done)
    | (have e := State.still_fst ‹_ = (_, _)›; simp at e; simp [e]; done)
    | (have e := State.still_snd ‹_ = (_, _)›; simp at e; simp [e]; done))

/-! ## Admission -/

@[simp] theorem State.policePacket_still (s : State) (bad : List Sys2Proof.BadCell) (p : Sys2Proof.Machine.Packet) :
    (State.policePacket s bad p).1.still = s.still := by
  unfold State.policePacket
  first
  | (simp; done)
  | ((try dsimp only); (repeat' split) <;> first
    | (simp; done)
    | (simp [*]; done)
    | (have e := State.still_fst ‹_ = (_, _)›; simp at e; simp [e]; done)
    | (have e := State.still_snd ‹_ = (_, _)›; simp at e; simp [e]; done))

@[simp] theorem State.countPkt_still (s : State) (p : Sys2Proof.Machine.Packet) :
    (State.countPkt s p).still = s.still := by
  unfold State.countPkt
  first
  | (simp; done)
  | ((try dsimp only); (repeat' split) <;> first
    | (simp; done)
    | (simp [*]; done)
    | (have e := State.still_fst ‹_ = (_, _)›; simp at e; simp [e]; done)
    | (have e := State.still_snd ‹_ = (_, _)›; simp at e; simp [e]; done))

@[simp] theorem State.limitDrop_still (s : State) :
    (State.limitDrop s).still = s.still := by
  unfold State.limitDrop
  first
  | (simp; done)
  | ((try dsimp only); (repeat' split) <;> first
    | (simp; done)
    | (simp [*]; done)
    | (have e := State.still_fst ‹_ = (_, _)›; simp at e; simp [e]; done)
    | (have e := State.still_snd ‹_ = (_, _)›; simp at e; simp [e]; done))

@[simp] theorem State.place_still (s : State) (bad : List Sys2Proof.BadCell) (k : Nat × Nat) (p : Sys2Proof.Machine.Packet) :
    (State.place s bad k p).still = s.still := by
  unfold State.place
  first
  | (simp; done)
  | ((try dsimp only); (repeat' split) <;> first
    | (simp; done)
    | (simp [*]; done)
    | (have e := State.still_fst ‹_ = (_, _)›; simp at e; simp [e]; done)
    | (have e := State.still_snd ‹_ = (_, _)›; simp at e; simp [e]; done))

@[simp] theorem State.admitSized_still (s : State) (bad : List Sys2Proof.BadCell) (p : Sys2Proof.Machine.Packet) :
    (State.admitSized s bad p).still = s.still := by
  unfold State.admitSized
  first
  | (simp; done)
  | ((try dsimp only); (repeat' split) <;> first
    | (simp; done)
    | (simp [*]; done)
    | (have e := State.still_fst ‹_ = (_, _)›; simp at e; simp [e]; done)
    | (have e := State.still_snd ‹_ = (_, _)›; simp at e; simp [e]; done))

@[simp] theorem State.intake_still (s : State) (bad : List Sys2Proof.BadCell) (p : Sys2Proof.Machine.Packet) :
    (State.intake s bad p).still = s.still := by
  unfold State.intake
  first
  | (simp; done)
  | ((try dsimp only); (repeat' split) <;> first
    | (simp; done)
    | (simp [*]; done)
    | (have e := State.still_fst ‹_ = (_, _)›; simp at e; simp [e]; done)
    | (have e := State.still_snd ‹_ = (_, _)›; simp at e; simp [e]; done))

@[simp] theorem State.fifoTail_still (s : State) (port : Nat) (f : Sys2Proof.Machine.InFrame) (rest : Sys2Proof.Bytes) :
    (State.fifoTail s port f rest).still = s.still := by
  unfold State.fifoTail
  first
  | (simp; done)
  | ((try dsimp only); (repeat' split) <;> first
    | (simp; done)
    | (simp [*]; done)
    | (have e := State.still_fst ‹_ = (_, _)›; simp at e; simp [e]; done)
    | (have e := State.still_snd ‹_ = (_, _)›; simp at e; simp [e]; done))

@[simp] theorem State.tailSettled_still (s : State) (b : Sys2Proof.Machine.Buffer) (p : Sys2Proof.Machine.Packet) :
    (State.tailSettled s b p).still = s.still := by
  unfold State.tailSettled
  first
  | (simp; done)
  | ((try dsimp only); (repeat' split) <;> first
    | (simp; done)
    | (simp [*]; done)
    | (have e := State.still_fst ‹_ = (_, _)›; simp at e; simp [e]; done)
    | (have e := State.still_snd ‹_ = (_, _)›; simp at e; simp [e]; done))

@[simp] theorem State.tailIn_still (s : State) (pid : Nat) (rest : Sys2Proof.Bytes) :
    (State.tailIn s pid rest).still = s.still := by
  unfold State.tailIn
  first
  | (simp; done)
  | ((try dsimp only); (repeat' split) <;> first
    | (simp; done)
    | (simp [*]; done)
    | (have e := State.still_fst ‹_ = (_, _)›; simp at e; simp [e]; done)
    | (have e := State.still_snd ‹_ = (_, _)›; simp at e; simp [e]; done))

/-! ## Sched -/

@[simp] theorem State.setSch_still (s : State) (p : Nat) (x : Sys2Proof.Machine.SchedPort) :
    (State.setSch s p x).still = s.still := by
  unfold State.setSch
  first
  | (simp; done)
  | ((try dsimp only); (repeat' split) <;> first
    | (simp; done)
    | (simp [*]; done)
    | (have e := State.still_fst ‹_ = (_, _)›; simp at e; simp [e]; done)
    | (have e := State.still_snd ‹_ = (_, _)›; simp at e; simp [e]; done))

@[simp] theorem State.schCount_still (s : State) (p : Nat) (k : Nat) (n : Nat) :
    (State.schCount s p k n).still = s.still := by
  unfold State.schCount
  first
  | (simp; done)
  | ((try dsimp only); (repeat' split) <;> first
    | (simp; done)
    | (simp [*]; done)
    | (have e := State.still_fst ‹_ = (_, _)›; simp at e; simp [e]; done)
    | (have e := State.still_snd ‹_ = (_, _)›; simp at e; simp [e]; done))

@[simp] theorem State.schedPitch_still (s : State) (p : Nat) :
    (State.schedPitch s p).still = s.still := by
  unfold State.schedPitch
  first
  | (simp; done)
  | ((try dsimp only); (repeat' split) <;> first
    | (simp; done)
    | (simp [*]; done)
    | (have e := State.still_fst ‹_ = (_, _)›; simp at e; simp [e]; done)
    | (have e := State.still_snd ‹_ = (_, _)›; simp at e; simp [e]; done))

@[simp] theorem State.dropHeads_still (s : State) (port : Nat) (l : List QEnt) :
    (State.dropHeads s port l).1.still = s.still := by
  induction l generalizing s with
  | nil => rfl
  | cons e t ih =>
    unfold State.dropHeads
    split
    · rw [ih]; simp
    · split
      · rw [ih]; simp
      · rfl

@[simp] theorem State.settleHead_still (port : Nat) (s : State) (q : Nat) :
    (State.settleHead port s q).still = s.still := by
  unfold State.settleHead
  first
  | (simp; done)
  | ((try dsimp only); (repeat' split) <;> first
    | (simp; done)
    | (simp [*]; done)
    | (have e := State.still_fst ‹_ = (_, _)›; simp at e; simp [e]; done)
    | (have e := State.still_snd ‹_ = (_, _)›; simp at e; simp [e]; done))

@[simp] theorem State.shaperErrors_still (s : State) (bad : List Sys2Proof.BadCell) (l : List Nat) :
    (State.shaperErrors s bad l).still = s.still := by
  unfold State.shaperErrors
  first
  | (simp; done)
  | ((try dsimp only); (repeat' split) <;> first
    | (simp; done)
    | (simp [*]; done)
    | (have e := State.still_fst ‹_ = (_, _)›; simp at e; simp [e]; done)
    | (have e := State.still_snd ‹_ = (_, _)›; simp at e; simp [e]; done))

@[simp] theorem State.tryEntry_still (s : State) (bad : List Sys2Proof.BadCell) (port : Nat) (e : Nat) (rope : Bool) :
    (State.tryEntry s bad port e rope).1.still = s.still := by
  unfold State.tryEntry
  first
  | (simp; done)
  | ((try dsimp only); (repeat' split) <;> first
    | (simp; done)
    | (simp [*]; done)
    | (have e := State.still_fst ‹_ = (_, _)›; simp at e; simp [e]; done)
    | (have e := State.still_snd ‹_ = (_, _)›; simp at e; simp [e]; done))

@[simp] theorem State.skipCount_still (s : State) (port : Nat) (b : Sys2Proof.Machine.Block) :
    (State.skipCount s port b).still = s.still := by
  unfold State.skipCount
  first
  | (simp; done)
  | ((try dsimp only); (repeat' split) <;> first
    | (simp; done)
    | (simp [*]; done)
    | (have e := State.still_fst ‹_ = (_, _)›; simp at e; simp [e]; done)
    | (have e := State.still_snd ‹_ = (_, _)›; simp at e; simp [e]; done))

@[simp] theorem State.walkList_still (s : State) (bad : List BadCell) (port : Nat) (l : List Nat) :
    (State.walkList s bad port l).1.still = s.still := by
  induction l generalizing s with
  | nil => simp [State.walkList]
  | cons e t ih =>
    unfold State.walkList
    split
    · exact ih s
    · split <;> (have e := State.still_fst ‹_ = (_, _)›; simp at e; simp [ih, e])

@[simp] theorem State.walkRank_still (s : State) (bad : List BadCell) (port r : Nat) (l : List (Nat × Nat)) (n : Nat) :
    (State.walkRank s bad port r l n).1.still = s.still := by
  induction l generalizing s with
  | nil => rfl
  | cons e t ih =>
    unfold State.walkRank
    split
    · exact ih s
    · split <;> (have e := State.still_fst ‹_ = (_, _)›; simp at e; simp [ih, e])

@[simp] theorem State.walkRope_still (s : State) (bad : List BadCell) (port : Nat) (ranks : List Nat) :
    (State.walkRope s bad port ranks).1.still = s.still := by
  induction ranks generalizing s with
  | nil => rfl
  | cons e t ih =>
    unfold State.walkRope
    dsimp only
    split <;> (have e := State.still_fst ‹_ = (_, _)›; simp at e; simp [ih, e])

theorem State.nextGo_still (s : State) (bad : List BadCell) (port : Nat) (l : List Nat) :
    (match s.walkList bad port l with
      | (s, some q) => (s, some q)
      | (s, none) => s.walkRope bad port Sys2Proof.Machine.ranks).1.still = s.still := by
  split <;> (have e := State.still_fst ‹_ = (_, _)›; simp at e; simp [e])

@[simp] theorem State.nextQueue_still (s : State) (bad : List BadCell) (port : Nat) :
    (State.nextQueue s bad port).1.still = s.still := by
  unfold State.nextQueue
  dsimp only
  split
  · split
    · split
      · have e := State.still_fst ‹_ = (_, _)›
        simpa using e
      · have e := State.still_fst ‹_ = (_, _)›
        exact (State.nextGo_still _ _ _ _).trans (by simpa using e)
    · exact (State.nextGo_still _ _ _ _).trans (by simp)
  · exact (State.nextGo_still _ _ _ _).trans (by simp)

@[simp] theorem State.chargeSent_still (s : State) (port : Nat) (q : Nat) (p : Nat) :
    (State.chargeSent s port q p).still = s.still := by
  unfold State.chargeSent
  first
  | (simp; done)
  | ((try dsimp only); (repeat' split) <;> first
    | (simp; done)
    | (simp [*]; done)
    | (have e := State.still_fst ‹_ = (_, _)›; simp at e; simp [e]; done)
    | (have e := State.still_snd ‹_ = (_, _)›; simp at e; simp [e]; done))

@[simp] theorem State.rewrite_still (s : State) (bad : List Sys2Proof.BadCell) (port : Nat) (ttx : Nat) (e : Sys2Proof.Machine.QEnt) (p : Sys2Proof.Machine.Packet) :
    (State.rewrite s bad port ttx e p).1.still = s.still := by
  unfold State.rewrite
  first
  | (simp; done)
  | ((try dsimp only); (repeat' split) <;> first
    | (simp; done)
    | (simp [*]; done)
    | (have e := State.still_fst ‹_ = (_, _)›; simp at e; simp [e]; done)
    | (have e := State.still_snd ‹_ = (_, _)›; simp at e; simp [e]; done))

@[simp] theorem State.countCopy_still (s : State) (c : Option Nat) (p : Sys2Proof.Machine.Packet) :
    (State.countCopy s c p).still = s.still := by
  unfold State.countCopy
  first
  | (simp; done)
  | ((try dsimp only); (repeat' split) <;> first
    | (simp; done)
    | (simp [*]; done)
    | (have e := State.still_fst ‹_ = (_, _)›; simp at e; simp [e]; done)
    | (have e := State.still_snd ‹_ = (_, _)›; simp at e; simp [e]; done))

@[simp] theorem State.sendFrame_still (s : State) (port : Nat) (ttx : Nat) (b : Sys2Proof.Bytes) :
    (State.sendFrame s port ttx b).still = s.still := by
  unfold State.sendFrame
  first
  | (simp; done)
  | ((try dsimp only); (repeat' split) <;> first
    | (simp; done)
    | (simp [*]; done)
    | (have e := State.still_fst ‹_ = (_, _)›; simp at e; simp [e]; done)
    | (have e := State.still_snd ‹_ = (_, _)›; simp at e; simp [e]; done))

@[simp] theorem State.sendStomped_still (s : State) (port : Nat) (b : Sys2Proof.Bytes) (poison : Bool) :
    (State.sendStomped s port b poison).still = s.still := by
  unfold State.sendStomped
  first
  | (simp; done)
  | ((try dsimp only); (repeat' split) <;> first
    | (simp; done)
    | (simp [*]; done)
    | (have e := State.still_fst ‹_ = (_, _)›; simp at e; simp [e]; done)
    | (have e := State.still_snd ‹_ = (_, _)›; simp at e; simp [e]; done))

@[simp] theorem State.sendHead_still (s : State) (bad : List Sys2Proof.BadCell) (port : Nat) (q : Nat) :
    (State.sendHead s bad port q).still = s.still := by
  unfold State.sendHead
  first
  | (simp; done)
  | ((try dsimp only); (repeat' split) <;> first
    | (simp; done)
    | (simp [*]; done)
    | (have e := State.still_fst ‹_ = (_, _)›; simp at e; simp [e]; done)
    | (have e := State.still_snd ‹_ = (_, _)›; simp at e; simp [e]; done))

@[simp] theorem State.finishCut_still (s : State) (port : Nat) (poison : Bool) :
    (State.finishCut s port poison).still = s.still := by
  unfold State.finishCut
  first
  | (simp; done)
  | ((try dsimp only); (repeat' split) <;> first
    | (simp; done)
    | (simp [*]; done)
    | (have e := State.still_fst ‹_ = (_, _)›; simp at e; simp [e]; done)
    | (have e := State.still_snd ‹_ = (_, _)›; simp at e; simp [e]; done))

@[simp] theorem State.downDrop_still (s : State) (port : Nat) :
    (State.downDrop s port).still = s.still := by
  unfold State.downDrop
  first
  | (simp; done)
  | ((try dsimp only); (repeat' split) <;> first
    | (simp; done)
    | (simp [*]; done)
    | (have e := State.still_fst ‹_ = (_, _)›; simp at e; simp [e]; done)
    | (have e := State.still_snd ‹_ = (_, _)›; simp at e; simp [e]; done))

@[simp] theorem State.txGo_still (s : State) (bad : List Sys2Proof.BadCell) (port : Nat) :
    (State.txGo s bad port).still = s.still := by
  unfold State.txGo
  first
  | (simp; done)
  | ((try dsimp only); (repeat' split) <;> first
    | (simp; done)
    | (simp [*]; done)
    | (have e := State.still_fst ‹_ = (_, _)›; simp at e; simp [e]; done)
    | (have e := State.still_snd ‹_ = (_, _)›; simp at e; simp [e]; done))

@[simp] theorem State.scanOne_still (s : State) (n : Nat) :
    (State.scanOne s n).still = s.still := by
  unfold State.scanOne
  first
  | (simp; done)
  | ((try dsimp only); (repeat' split) <;> first
    | (simp; done)
    | (simp [*]; done)
    | (have e := State.still_fst ‹_ = (_, _)›; simp at e; simp [e]; done)
    | (have e := State.still_snd ‹_ = (_, _)›; simp at e; simp [e]; done))

/-! ## Latency -/

@[simp] theorem State.takeSample_still (s : State) (x : Sys2Proof.Machine.LatSample) :
    (State.takeSample s x).still = s.still := by
  unfold State.takeSample
  first
  | (simp; done)
  | ((try dsimp only); (repeat' split) <;> first
    | (simp; done)
    | (simp [*]; done)
    | (have e := State.still_fst ‹_ = (_, _)›; simp at e; simp [e]; done)
    | (have e := State.still_snd ‹_ = (_, _)›; simp at e; simp [e]; done))

@[simp] theorem State.rotationEnd_still (s : State) :
    (State.rotationEnd s).still = s.still := by
  unfold State.rotationEnd
  first
  | (simp; done)
  | ((try dsimp only); (repeat' split) <;> first
    | (simp; done)
    | (simp [*]; done)
    | (have e := State.still_fst ‹_ = (_, _)›; simp at e; simp [e]; done)
    | (have e := State.still_snd ‹_ = (_, _)›; simp at e; simp [e]; done))

@[simp] theorem State.samplePitch_still (s : State) (epoch : Nat) (k : Nat) :
    (State.samplePitch s epoch k).still = s.still := by
  unfold State.samplePitch
  first
  | (simp; done)
  | ((try dsimp only); (repeat' split) <;> first
    | (simp; done)
    | (simp [*]; done)
    | (have e := State.still_fst ‹_ = (_, _)›; simp at e; simp [e]; done)
    | (have e := State.still_snd ‹_ = (_, _)›; simp at e; simp [e]; done))

@[simp] theorem State.latSkip_still (s : State) (old : Nat) :
    (State.latSkip s old).still = s.still := by
  unfold State.latSkip
  first
  | (simp; done)
  | ((try dsimp only); (repeat' split) <;> first
    | (simp; done)
    | (simp [*]; done)
    | (have e := State.still_fst ‹_ = (_, _)›; simp at e; simp [e]; done)
    | (have e := State.still_snd ‹_ = (_, _)›; simp at e; simp [e]; done))

@[simp] theorem State.latWrite_still (s : State) :
    (State.latWrite s).still = s.still := by
  unfold State.latWrite
  first
  | (simp; done)
  | ((try dsimp only); (repeat' split) <;> first
    | (simp; done)
    | (simp [*]; done)
    | (have e := State.still_fst ‹_ = (_, _)›; simp at e; simp [e]; done)
    | (have e := State.still_snd ‹_ = (_, _)›; simp at e; simp [e]; done))

@[simp] theorem State.widxNext_still (s : State) :
    (State.widxNext s).still = s.still := by
  unfold State.widxNext
  first
  | (simp; done)
  | ((try dsimp only); (repeat' split) <;> first
    | (simp; done)
    | (simp [*]; done)
    | (have e := State.still_fst ‹_ = (_, _)›; simp at e; simp [e]; done)
    | (have e := State.still_snd ‹_ = (_, _)›; simp at e; simp [e]; done))

@[simp] theorem State.watchWrite_still (s : State) (v : Nat) :
    (State.watchWrite s v).still = s.still := by
  unfold State.watchWrite
  first
  | (simp; done)
  | ((try dsimp only); (repeat' split) <;> first
    | (simp; done)
    | (simp [*]; done)
    | (have e := State.still_fst ‹_ = (_, _)›; simp at e; simp [e]; done)
    | (have e := State.still_snd ‹_ = (_, _)›; simp at e; simp [e]; done))

@[simp] theorem State.watchRead_still (s : State) :
    (State.watchRead s).2.still = s.still := by
  unfold State.watchRead
  first
  | (simp; done)
  | ((try dsimp only); (repeat' split) <;> first
    | (simp; done)
    | (simp [*]; done)
    | (have e := State.still_fst ‹_ = (_, _)›; simp at e; simp [e]; done)
    | (have e := State.still_snd ‹_ = (_, _)›; simp at e; simp [e]; done))

@[simp] theorem State.watchCommit_still (s : State) :
    (State.watchCommit s).still = s.still := by
  unfold State.watchCommit
  first
  | (simp; done)
  | ((try dsimp only); (repeat' split) <;> first
    | (simp; done)
    | (simp [*]; done)
    | (have e := State.still_fst ‹_ = (_, _)›; simp at e; simp [e]; done)
    | (have e := State.still_snd ‹_ = (_, _)›; simp at e; simp [e]; done))

/-! ## Links -/

@[simp] theorem State.wlf_still (s : State) (f : Sys2Proof.Machine.Fld) (n : Nat) (v : Nat) :
    (State.wlf s f n v).still = s.still := by
  unfold State.wlf
  first
  | (simp; done)
  | ((try dsimp only); (repeat' split) <;> first
    | (simp; done)
    | (simp [*]; done)
    | (have e := State.still_fst ‹_ = (_, _)›; simp at e; simp [e]; done)
    | (have e := State.still_snd ‹_ = (_, _)›; simp at e; simp [e]; done))

@[simp] theorem State.setLink_still (s : State) (n : Nat) (x : Sys2Proof.Machine.LinkSt) :
    (State.setLink s n x).still = s.still := by
  unfold State.setLink
  first
  | (simp; done)
  | ((try dsimp only); (repeat' split) <;> first
    | (simp; done)
    | (simp [*]; done)
    | (have e := State.still_fst ‹_ = (_, _)›; simp at e; simp [e]; done)
    | (have e := State.still_snd ‹_ = (_, _)›; simp at e; simp [e]; done))

@[simp] theorem State.cellOut_still (s : State) (n : Nat) (b : Sys2Proof.Bytes) :
    (State.cellOut s n b).still = s.still := by
  unfold State.cellOut
  first
  | (simp; done)
  | ((try dsimp only); (repeat' split) <;> first
    | (simp; done)
    | (simp [*]; done)
    | (have e := State.still_fst ‹_ = (_, _)›; simp at e; simp [e]; done)
    | (have e := State.still_snd ‹_ = (_, _)›; simp at e; simp [e]; done))

@[simp] theorem State.linkTo_still (s : State) (n : Nat) (st : Nat) :
    (State.linkTo s n st).still = s.still := by
  unfold State.linkTo
  first
  | (simp; done)
  | ((try dsimp only); (repeat' split) <;> first
    | (simp; done)
    | (simp [*]; done)
    | (have e := State.still_fst ‹_ = (_, _)›; simp at e; simp [e]; done)
    | (have e := State.still_snd ‹_ = (_, _)›; simp at e; simp [e]; done))

@[simp] theorem State.linkLoss_still (s : State) (n : Nat) :
    (State.linkLoss s n).still = s.still := by
  unfold State.linkLoss
  first
  | (simp; done)
  | ((try dsimp only); (repeat' split) <;> first
    | (simp; done)
    | (simp [*]; done)
    | (have e := State.still_fst ‹_ = (_, _)›; simp at e; simp [e]; done)
    | (have e := State.still_snd ‹_ = (_, _)›; simp at e; simp [e]; done))

@[simp] theorem State.linkSettle_still (s : State) (n : Nat) :
    (State.linkSettle s n).still = s.still := by
  unfold State.linkSettle
  first
  | (simp; done)
  | ((try dsimp only); (repeat' split) <;> first
    | (simp; done)
    | (simp [*]; done)
    | (have e := State.still_fst ‹_ = (_, _)›; simp at e; simp [e]; done)
    | (have e := State.still_snd ‹_ = (_, _)›; simp at e; simp [e]; done))

@[simp] theorem State.linksSettle_still (s : State) :
    (State.linksSettle s).still = s.still := by
  unfold State.linksSettle
  first
  | (simp; done)
  | ((try dsimp only); (repeat' split) <;> first
    | (simp; done)
    | (simp [*]; done)
    | (have e := State.still_fst ‹_ = (_, _)›; simp at e; simp [e]; done)
    | (have e := State.still_snd ‹_ = (_, _)›; simp at e; simp [e]; done))

@[simp] theorem State.helloFail_still (s : State) (n : Nat) (cause : Nat) :
    (State.helloFail s n cause).still = s.still := by
  unfold State.helloFail
  first
  | (simp; done)
  | ((try dsimp only); (repeat' split) <;> first
    | (simp; done)
    | (simp [*]; done)
    | (have e := State.still_fst ‹_ = (_, _)›; simp at e; simp [e]; done)
    | (have e := State.still_snd ‹_ = (_, _)›; simp at e; simp [e]; done))

@[simp] theorem State.showPeer_still (s : State) (n : Nat) (h : Sys2Proof.Hello) :
    (State.showPeer s n h).still = s.still := by
  unfold State.showPeer
  first
  | (simp; done)
  | ((try dsimp only); (repeat' split) <;> first
    | (simp; done)
    | (simp [*]; done)
    | (have e := State.still_fst ‹_ = (_, _)›; simp at e; simp [e]; done)
    | (have e := State.still_snd ‹_ = (_, _)›; simp at e; simp [e]; done))

@[simp] theorem State.lostCells_still (s : State) (n : Nat) (h : Sys2Proof.Hello) :
    (State.lostCells s n h).still = s.still := by
  unfold State.lostCells
  first
  | (simp; done)
  | ((try dsimp only); (repeat' split) <;> first
    | (simp; done)
    | (simp [*]; done)
    | (have e := State.still_fst ‹_ = (_, _)›; simp at e; simp [e]; done)
    | (have e := State.still_snd ‹_ = (_, _)›; simp at e; simp [e]; done))

@[simp] theorem State.helloInHello_still (s : State) (n : Nat) (h : Sys2Proof.Hello) :
    (State.helloInHello s n h).still = s.still := by
  unfold State.helloInHello
  first
  | (simp; done)
  | ((try dsimp only); (repeat' split) <;> first
    | (simp; done)
    | (simp [*]; done)
    | (have e := State.still_fst ‹_ = (_, _)›; simp at e; simp [e]; done)
    | (have e := State.still_snd ‹_ = (_, _)›; simp at e; simp [e]; done))

@[simp] theorem State.helloIn_still (s : State) (n : Nat) (h : Sys2Proof.Hello) :
    (State.helloIn s n h).still = s.still := by
  unfold State.helloIn
  first
  | (simp; done)
  | ((try dsimp only); (repeat' split) <;> first
    | (simp; done)
    | (simp [*]; done)
    | (have e := State.still_fst ‹_ = (_, _)›; simp at e; simp [e]; done)
    | (have e := State.still_snd ‹_ = (_, _)›; simp at e; simp [e]; done))

@[simp] theorem State.fabChanged_still (s : State) :
    (State.fabChanged s).still = s.still := by
  unfold State.fabChanged
  first
  | (simp; done)
  | ((try dsimp only); (repeat' split) <;> first
    | (simp; done)
    | (simp [*]; done)
    | (have e := State.still_fst ‹_ = (_, _)›; simp at e; simp [e]; done)
    | (have e := State.still_snd ‹_ = (_, _)›; simp at e; simp [e]; done))

@[simp] theorem State.fabIdWrite_still (s : State) (v : Nat) :
    (State.fabIdWrite s v).still = s.still := by
  unfold State.fabIdWrite
  first
  | (simp; done)
  | ((try dsimp only); (repeat' split) <;> first
    | (simp; done)
    | (simp [*]; done)
    | (have e := State.still_fst ‹_ = (_, _)›; simp at e; simp [e]; done)
    | (have e := State.still_snd ‹_ = (_, _)›; simp at e; simp [e]; done))

@[simp] theorem State.sendOn_still (s : State) (n : Nat) (v : Nat) (b : Sys2Proof.Bytes) :
    (State.sendOn s n v b).still = s.still := by
  unfold State.sendOn
  first
  | (simp; done)
  | ((try dsimp only); (repeat' split) <;> first
    | (simp; done)
    | (simp [*]; done)
    | (have e := State.still_fst ‹_ = (_, _)›; simp at e; simp [e]; done)
    | (have e := State.still_snd ‹_ = (_, _)›; simp at e; simp [e]; done))

@[simp] theorem State.sendOwn_still (s : State) (n : Nat) (b : Sys2Proof.Bytes) :
    (State.sendOwn s n b).still = s.still := by
  unfold State.sendOwn
  first
  | (simp; done)
  | ((try dsimp only); (repeat' split) <;> first
    | (simp; done)
    | (simp [*]; done)
    | (have e := State.still_fst ‹_ = (_, _)›; simp at e; simp [e]; done)
    | (have e := State.still_snd ‹_ = (_, _)›; simp at e; simp [e]; done))

@[simp] theorem State.freeSlot_still (s : State) (n : Nat) (v : Nat) :
    (State.freeSlot s n v).still = s.still := by
  unfold State.freeSlot
  first
  | (simp; done)
  | ((try dsimp only); (repeat' split) <;> first
    | (simp; done)
    | (simp [*]; done)
    | (have e := State.still_fst ‹_ = (_, _)›; simp at e; simp [e]; done)
    | (have e := State.still_snd ‹_ = (_, _)›; simp at e; simp [e]; done))

@[simp] theorem State.servo_still (s : State) (off : Int) :
    (State.servo s off).still = s.still := by
  unfold State.servo
  first
  | (simp; done)
  | ((try dsimp only); (repeat' split) <;> first
    | (simp; done)
    | (simp [*]; done)
    | (have e := State.still_fst ‹_ = (_, _)›; simp at e; simp [e]; done)
    | (have e := State.still_snd ‹_ = (_, _)›; simp at e; simp [e]; done))

@[simp] theorem State.follow_still (s : State) (n : Nat) (w : Sys2Proof.TimeWord) (off : Int) :
    (State.follow s n w off).still = s.still := by
  unfold State.follow
  first
  | (simp; done)
  | ((try dsimp only); (repeat' split) <;> first
    | (simp; done)
    | (simp [*]; done)
    | (have e := State.still_fst ‹_ = (_, _)›; simp at e; simp [e]; done)
    | (have e := State.still_snd ‹_ = (_, _)›; simp at e; simp [e]; done))

@[simp] theorem State.timeIn_still (s : State) (n : Nat) (w : Sys2Proof.TimeWord) (rx : Nat) :
    (State.timeIn s n w rx).still = s.still := by
  unfold State.timeIn
  first
  | (simp; done)
  | ((try dsimp only); (repeat' split) <;> first
    | (simp; done)
    | (simp [*]; done)
    | (have e := State.still_fst ‹_ = (_, _)›; simp at e; simp [e]; done)
    | (have e := State.still_snd ‹_ = (_, _)›; simp at e; simp [e]; done))

@[simp] theorem State.timeOut_still (s : State) (n : Nat) :
    (State.timeOut s n).still = s.still := by
  unfold State.timeOut
  first
  | (simp; done)
  | ((try dsimp only); (repeat' split) <;> first
    | (simp; done)
    | (simp [*]; done)
    | (have e := State.still_fst ‹_ = (_, _)›; simp at e; simp [e]; done)
    | (have e := State.still_snd ‹_ = (_, _)›; simp at e; simp [e]; done))

@[simp] theorem State.linkRestart_still (s : State) (n : Nat) :
    (State.linkRestart s n).still = s.still := by
  unfold State.linkRestart
  first
  | (simp; done)
  | ((try dsimp only); (repeat' split) <;> first
    | (simp; done)
    | (simp [*]; done)
    | (have e := State.still_fst ‹_ = (_, _)›; simp at e; simp [e]; done)
    | (have e := State.still_snd ‹_ = (_, _)›; simp at e; simp [e]; done))

@[simp] theorem State.alignLoss_still (s : State) (n : Nat) :
    (State.alignLoss s n).still = s.still := by
  unfold State.alignLoss
  first
  | (simp; done)
  | ((try dsimp only); (repeat' split) <;> first
    | (simp; done)
    | (simp [*]; done)
    | (have e := State.still_fst ‹_ = (_, _)›; simp at e; simp [e]; done)
    | (have e := State.still_snd ‹_ = (_, _)›; simp at e; simp [e]; done))

@[simp] theorem State.creditIn_still (s : State) (n : Nat) (freed : List Nat) :
    (State.creditIn s n freed).still = s.still := by
  unfold State.creditIn
  first
  | (simp; done)
  | ((try dsimp only); (repeat' split) <;> first
    | (simp; done)
    | (simp [*]; done)
    | (have e := State.still_fst ‹_ = (_, _)›; simp at e; simp [e]; done)
    | (have e := State.still_snd ‹_ = (_, _)›; simp at e; simp [e]; done))

@[simp] theorem State.fabRefLost_still (s : State) (d : Nat) :
    (State.fabRefLost s d).still = s.still := by
  unfold State.fabRefLost
  first
  | (simp; done)
  | ((try dsimp only); (repeat' split) <;> first
    | (simp; done)
    | (simp [*]; done)
    | (have e := State.still_fst ‹_ = (_, _)›; simp at e; simp [e]; done)
    | (have e := State.still_snd ‹_ = (_, _)›; simp at e; simp [e]; done))

/-! ## Fabric -/

@[simp] theorem State.routeDrop_still (s : State) (kind : Nat) (k : Nat) (dest : Nat) :
    (State.routeDrop s kind k dest).still = s.still := by
  unfold State.routeDrop
  first
  | (simp; done)
  | ((try dsimp only); (repeat' split) <;> first
    | (simp; done)
    | (simp [*]; done)
    | (have e := State.still_fst ‹_ = (_, _)›; simp at e; simp [e]; done)
    | (have e := State.still_snd ‹_ = (_, _)›; simp at e; simp [e]; done))

@[simp] theorem State.route'_still (s : State) (bad : List Sys2Proof.BadCell) (own : Bool) (b : Sys2Proof.Bytes) :
    (State.route' s bad own b).1.still = s.still := by
  unfold State.route'
  first
  | (simp; done)
  | ((try dsimp only); (repeat' split) <;> first
    | (simp; done)
    | (simp [*]; done)
    | (have e := State.still_fst ‹_ = (_, _)›; simp at e; simp [e]; done)
    | (have e := State.still_snd ‹_ = (_, _)›; simp at e; simp [e]; done))

@[simp] theorem State.originate_still (s : State) (bad : List Sys2Proof.BadCell) (b : Sys2Proof.Bytes) :
    (State.originate s bad b).still = s.still := by
  unfold State.originate
  first
  | (simp; done)
  | ((try dsimp only); (repeat' split) <;> first
    | (simp; done)
    | (simp [*]; done)
    | (have e := State.still_fst ‹_ = (_, _)›; simp at e; simp [e]; done)
    | (have e := State.still_snd ‹_ = (_, _)›; simp at e; simp [e]; done))

@[simp] theorem State.sendControl_still (s : State) (subtype : Nat) (dest : Nat) (payload : Sys2Proof.Bytes) :
    (State.sendControl s subtype dest payload).still = s.still := by
  unfold State.sendControl
  first
  | (simp; done)
  | ((try dsimp only); (repeat' split) <;> first
    | (simp; done)
    | (simp [*]; done)
    | (have e := State.still_fst ‹_ = (_, _)›; simp at e; simp [e]; done)
    | (have e := State.still_snd ‹_ = (_, _)›; simp at e; simp [e]; done))

@[simp] theorem State.arrivalPacket_still (s : State) (src : Nat) (pin : Nat) (group : Option Nat) (m : Sys2Proof.Bytes) (data : Sys2Proof.Bytes) (tail : Bool) (bad : Bool) :
    (State.arrivalPacket s src pin group m data tail bad).1.still = s.still := by
  unfold State.arrivalPacket
  first
  | (simp; done)
  | ((try dsimp only); (repeat' split) <;> first
    | (simp; done)
    | (simp [*]; done)
    | (have e := State.still_fst ‹_ = (_, _)›; simp at e; simp [e]; done)
    | (have e := State.still_snd ‹_ = (_, _)›; simp at e; simp [e]; done))

@[simp] theorem State.poisonCount_still (s : State) :
    (State.poisonCount s).still = s.still := by
  unfold State.poisonCount
  first
  | (simp; done)
  | ((try dsimp only); (repeat' split) <;> first
    | (simp; done)
    | (simp [*]; done)
    | (have e := State.still_fst ‹_ = (_, _)›; simp at e; simp [e]; done)
    | (have e := State.still_snd ‹_ = (_, _)›; simp at e; simp [e]; done))

@[simp] theorem State.arrivalLegs_still (s : State) (p : Sys2Proof.Machine.Packet) (tree : Option Sys2Proof.Machine.Tree) :
    (State.arrivalLegs s p tree).1.still = s.still := by
  unfold State.arrivalLegs
  first
  | (simp; done)
  | ((try dsimp only); (repeat' split) <;> first
    | (simp; done)
    | (simp [*]; done)
    | (have e := State.still_fst ‹_ = (_, _)›; simp at e; simp [e]; done)
    | (have e := State.still_snd ‹_ = (_, _)›; simp at e; simp [e]; done))

@[simp] theorem State.admitArrival_still (s : State) (p : Packet) (charge : Nat) (tree : Option Tree) :
    (State.admitArrival s p charge tree).1.still = s.still := by
  unfold State.admitArrival
  dsimp only
  split
  · simp
  · split
    · simp
    · generalize ((s.buf.focc.get 0 p.d.cls : Int) + (if tree.isSome = true then s.outSum p.d.cls * 256 else (0 : Int)) +
        ((chargeUnits charge * 256 : Nat) : Int)) = sum
      split
      · simp
      · split
        · have e := State.still_fst ‹_ = (_, _)›
          simpa using e
        · have e := State.still_fst ‹_ = (_, _)›
          simp at e
          split
          · have g := State.still_fst ‹_ = (_, _)›
            simp at g
            simp [e, g]
          · have g := State.still_fst ‹_ = (_, _)›
            simp at g
            (repeat' split) <;> simp [e, g]

@[simp] theorem State.recordCharge_still (s : State) (k : Nat) (units : Nat) :
    (State.recordCharge s k units).still = s.still := by
  unfold State.recordCharge
  first
  | (simp; done)
  | ((try dsimp only); (repeat' split) <;> first
    | (simp; done)
    | (simp [*]; done)
    | (have e := State.still_fst ‹_ = (_, _)›; simp at e; simp [e]; done)
    | (have e := State.still_snd ‹_ = (_, _)›; simp at e; simp [e]; done))

@[simp] theorem State.arriveWhole_still (s : State) (src : Nat) (cls : Nat) (pin : Nat) (bad : Bool) (m : Sys2Proof.Bytes) (data : Sys2Proof.Bytes) :
    (State.arriveWhole s src cls pin bad m data).still = s.still := by
  unfold State.arriveWhole
  first
  | (simp; done)
  | ((try dsimp only); (repeat' split) <;> first
    | (simp; done)
    | (simp [*]; done)
    | (have e := State.still_fst ‹_ = (_, _)›; simp at e; simp [e]; done)
    | (have e := State.still_snd ‹_ = (_, _)›; simp at e; simp [e]; done))

@[simp] theorem State.ctHead_still (s : State) (src : Nat) (cls : Nat) (pin : Nat) (m : Sys2Proof.Bytes) (data : Sys2Proof.Bytes) :
    (State.ctHead s src cls pin m data).1.still = s.still := by
  unfold State.ctHead
  first
  | (simp; done)
  | ((try dsimp only); (repeat' split) <;> first
    | (simp; done)
    | (simp [*]; done)
    | (have e := State.still_fst ‹_ = (_, _)›; simp at e; simp [e]; done)
    | (have e := State.still_snd ‹_ = (_, _)›; simp at e; simp [e]; done))

@[simp] theorem State.ctTail_still (s : State) (bid : Nat) (data : Sys2Proof.Bytes) (e : Sys2Proof.Machine.CtEnd) :
    (State.ctTail s bid data e).still = s.still := by
  unfold State.ctTail
  first
  | (simp; done)
  | ((try dsimp only); (repeat' split) <;> first
    | (simp; done)
    | (simp [*]; done)
    | (have e := State.still_fst ‹_ = (_, _)›; simp at e; simp [e]; done)
    | (have e := State.still_snd ‹_ = (_, _)›; simp at e; simp [e]; done))

@[simp] theorem State.setCtx_still (s : State) (k : Nat) (r : Sys2Proof.Machine.Reasm) :
    (State.setCtx s k r).still = s.still := by
  unfold State.setCtx
  first
  | (simp; done)
  | ((try dsimp only); (repeat' split) <;> first
    | (simp; done)
    | (simp [*]; done)
    | (have e := State.still_fst ‹_ = (_, _)›; simp at e; simp [e]; done)
    | (have e := State.still_snd ‹_ = (_, _)›; simp at e; simp [e]; done))

@[simp] theorem State.reasmDrop_still (s : State) :
    (State.reasmDrop s).still = s.still := by
  unfold State.reasmDrop
  first
  | (simp; done)
  | ((try dsimp only); (repeat' split) <;> first
    | (simp; done)
    | (simp [*]; done)
    | (have e := State.still_fst ‹_ = (_, _)›; simp at e; simp [e]; done)
    | (have e := State.still_snd ‹_ = (_, _)›; simp at e; simp [e]; done))

@[simp] theorem State.ctCell_still (s : State) (b : Sys2Proof.Bytes) (r : Sys2Proof.Machine.Reasm) (bid : Option Nat) :
    (State.ctCell s b r bid).1.still = s.still := by
  unfold State.ctCell
  first
  | (simp; done)
  | ((try dsimp only); (repeat' split) <;> first
    | (simp; done)
    | (simp [*]; done)
    | (have e := State.still_fst ‹_ = (_, _)›; simp at e; simp [e]; done)
    | (have e := State.still_snd ‹_ = (_, _)›; simp at e; simp [e]; done))

@[simp] theorem State.ctStart_still (s : State) (src : Nat) (cls : Nat) (b : Sys2Proof.Bytes) (r : Sys2Proof.Machine.Reasm) :
    (State.ctStart s src cls b r).1.still = s.still := by
  unfold State.ctStart
  first
  | (simp; done)
  | ((try dsimp only); (repeat' split) <;> first
    | (simp; done)
    | (simp [*]; done)
    | (have e := State.still_fst ‹_ = (_, _)›; simp at e; simp [e]; done)
    | (have e := State.still_snd ‹_ = (_, _)›; simp at e; simp [e]; done))

@[simp] theorem State.consume_still (s : State) (src : Nat) (cls : Nat) (b : Sys2Proof.Bytes) (r : Sys2Proof.Machine.Reasm) :
    (State.consume s src cls b r).1.still = s.still := by
  unfold State.consume
  first
  | (simp; done)
  | ((try dsimp only); (repeat' split) <;> first
    | (simp; done)
    | (simp [*]; done)
    | (have e := State.still_fst ‹_ = (_, _)›; simp at e; simp [e]; done)
    | (have e := State.still_snd ‹_ = (_, _)›; simp at e; simp [e]; done))

@[simp] theorem State.runHeld_still (fuel : Nat) (s : State) (src cls : Nat) (r : Reasm) :
    (State.runHeld fuel s src cls r).1.still = s.still := by
  induction fuel generalizing s r with
  | zero => rfl
  | succ k ih =>
    unfold State.runHeld
    split
    · rfl
    · rw [ih]; simp

@[simp] theorem State.loseGap_still (s : State) (src : Nat) (cls : Nat) (r : Sys2Proof.Machine.Reasm) :
    (State.loseGap s src cls r).1.still = s.still := by
  unfold State.loseGap
  first
  | (simp; done)
  | ((try dsimp only); (repeat' split) <;> first
    | (simp; done)
    | (simp [*]; done)
    | (have e := State.still_fst ‹_ = (_, _)›; simp at e; simp [e]; done)
    | (have e := State.still_snd ‹_ = (_, _)›; simp at e; simp [e]; done))

@[simp] theorem State.unicastIn_still (s : State) (b : Sys2Proof.Bytes) :
    (State.unicastIn s b).still = s.still := by
  unfold State.unicastIn
  first
  | (simp; done)
  | ((try dsimp only); (repeat' split) <;> first
    | (simp; done)
    | (simp [*]; done)
    | (have e := State.still_fst ‹_ = (_, _)›; simp at e; simp [e]; done)
    | (have e := State.still_snd ‹_ = (_, _)›; simp at e; simp [e]; done))

@[simp] theorem State.multicastLocal_still (s : State) (n : Nat) (b : Sys2Proof.Bytes) (t : Sys2Proof.Machine.Tree) :
    (State.multicastLocal s n b t).still = s.still := by
  unfold State.multicastLocal
  first
  | (simp; done)
  | ((try dsimp only); (repeat' split) <;> first
    | (simp; done)
    | (simp [*]; done)
    | (have e := State.still_fst ‹_ = (_, _)›; simp at e; simp [e]; done)
    | (have e := State.still_snd ‹_ = (_, _)›; simp at e; simp [e]; done))

@[simp] theorem State.relayPut_still (s : State) (n : Nat) (b : Sys2Proof.Bytes) (outs : List Nat) :
    (State.relayPut s n b outs).still = s.still := by
  unfold State.relayPut
  first
  | (simp; done)
  | ((try dsimp only); (repeat' split) <;> first
    | (simp; done)
    | (simp [*]; done)
    | (have e := State.still_fst ‹_ = (_, _)›; simp at e; simp [e]; done)
    | (have e := State.still_snd ‹_ = (_, _)›; simp at e; simp [e]; done))

@[simp] theorem State.multicastIn_still (s : State) (bad : List Sys2Proof.BadCell) (n : Nat) (b : Sys2Proof.Bytes) :
    (State.multicastIn s bad n b).still = s.still := by
  unfold State.multicastIn
  first
  | (simp; done)
  | ((try dsimp only); (repeat' split) <;> first
    | (simp; done)
    | (simp [*]; done)
    | (have e := State.still_fst ‹_ = (_, _)›; simp at e; simp [e]; done)
    | (have e := State.still_snd ‹_ = (_, _)›; simp at e; simp [e]; done))

@[simp] theorem State.sendRequest_still (s : State) (v : Nat) (backlog : Nat) :
    (State.sendRequest s v backlog).still = s.still := by
  unfold State.sendRequest
  first
  | (simp; done)
  | ((try dsimp only); (repeat' split) <;> first
    | (simp; done)
    | (simp [*]; done)
    | (have e := State.still_fst ‹_ = (_, _)›; simp at e; simp [e]; done)
    | (have e := State.still_snd ‹_ = (_, _)›; simp at e; simp [e]; done))

@[simp] theorem State.firstRequest_still (s : State) (v : Nat) :
    (State.firstRequest s v).still = s.still := by
  unfold State.firstRequest
  first
  | (simp; done)
  | ((try dsimp only); (repeat' split) <;> first
    | (simp; done)
    | (simp [*]; done)
    | (have e := State.still_fst ‹_ = (_, _)›; simp at e; simp [e]; done)
    | (have e := State.still_snd ‹_ = (_, _)›; simp at e; simp [e]; done))

@[simp] theorem State.sendGrant_still (s : State) (src : Nat) (c : Nat) :
    (State.sendGrant s src c).still = s.still := by
  unfold State.sendGrant
  first
  | (simp; done)
  | ((try dsimp only); (repeat' split) <;> first
    | (simp; done)
    | (simp [*]; done)
    | (have e := State.still_fst ‹_ = (_, _)›; simp at e; simp [e]; done)
    | (have e := State.still_snd ‹_ = (_, _)›; simp at e; simp [e]; done))

theorem State.requestTaken_still (s : State) (a b c : SMap Nat) :
    ({ s with fab := { s.fab with backlog := a, ret := b, chRec := c } } : State).still = s.still := rfl

@[simp] theorem State.requestIn_still (s : State) (r : ReqCell) : (State.requestIn s r).still = s.still := by
  have h : ∀ (c : Prop) [Decidable c] (t : State), t.still = s.still →
      (if c then (t.sendGrant r.src r.cls).trb 0x7B 7 else t).still = s.still := by
    intro c _ t ht
    split
    · rw [State.trb_still, State.sendGrant_still, ht]
    · exact ht
  exact h _ _ (State.requestTaken_still s _ _ _)

@[simp] theorem State.grantIn_still (s : State) (src : Nat) (c : Nat) (g : Nat) :
    (State.grantIn s src c g).still = s.still := by
  unfold State.grantIn
  first
  | (simp; done)
  | ((try dsimp only); (repeat' split) <;> first
    | (simp; done)
    | (simp [*]; done)
    | (have e := State.still_fst ‹_ = (_, _)›; simp at e; simp [e]; done)
    | (have e := State.still_snd ‹_ = (_, _)›; simp at e; simp [e]; done))

@[simp] theorem State.grantOne_still (c : Nat) (s : State) (src : Nat) :
    (State.grantOne c s src).still = s.still := by
  unfold State.grantOne
  first
  | (simp; done)
  | ((try dsimp only); (repeat' split) <;> first
    | (simp; done)
    | (simp [*]; done)
    | (have e := State.still_fst ‹_ = (_, _)›; simp at e; simp [e]; done)
    | (have e := State.still_snd ‹_ = (_, _)›; simp at e; simp [e]; done))

@[simp] theorem State.grantClass_still (s : State) (c : Nat) :
    (State.grantClass s c).still = s.still := by
  unfold State.grantClass
  first
  | (simp; done)
  | ((try dsimp only); (repeat' split) <;> first
    | (simp; done)
    | (simp [*]; done)
    | (have e := State.still_fst ‹_ = (_, _)›; simp at e; simp [e]; done)
    | (have e := State.still_snd ‹_ = (_, _)›; simp at e; simp [e]; done))

@[simp] theorem State.sendVoqCell_still (s : State) (bad : List Sys2Proof.BadCell) (v : Nat) (c : Sys2Proof.Machine.VoqCell) (end_ : Bool) (poison : Bool) :
    (State.sendVoqCell s bad v c end_ poison).still = s.still := by
  unfold State.sendVoqCell
  first
  | (simp; done)
  | ((try dsimp only); (repeat' split) <;> first
    | (simp; done)
    | (simp [*]; done)
    | (have e := State.still_fst ‹_ = (_, _)›; simp at e; simp [e]; done)
    | (have e := State.still_snd ‹_ = (_, _)›; simp at e; simp [e]; done))

@[simp] theorem State.flushCell_still (s : State) (bad : List Sys2Proof.BadCell) (v : Nat) :
    (State.flushCell s bad v).still = s.still := by
  unfold State.flushCell
  first
  | (simp; done)
  | ((try dsimp only); (repeat' split) <;> first
    | (simp; done)
    | (simp [*]; done)
    | (have e := State.still_fst ‹_ = (_, _)›; simp at e; simp [e]; done)
    | (have e := State.still_snd ‹_ = (_, _)›; simp at e; simp [e]; done))

@[simp] theorem State.stream_still (fuel : Nat) (s : State) (bad : List BadCell) (v pin : Nat) (head : Bool) (b : Bytes) :
    (State.stream fuel s bad v pin head b).still = s.still := by
  induction fuel generalizing s head b with
  | zero => rfl
  | succ k ih =>
    unfold State.stream
    split
    · rfl
    · dsimp only
      rw [ih]
      simp

@[simp] theorem State.chargeVoq_still (s : State) (v : Nat) (units : Nat) :
    (State.chargeVoq s v units).still = s.still := by
  unfold State.chargeVoq
  first
  | (simp; done)
  | ((try dsimp only); (repeat' split) <;> first
    | (simp; done)
    | (simp [*]; done)
    | (have e := State.still_fst ‹_ = (_, _)›; simp at e; simp [e]; done)
    | (have e := State.still_snd ‹_ = (_, _)›; simp at e; simp [e]; done))

@[simp] theorem State.markSeq_still (s : State) (v : Nat) :
    (State.markSeq s v).still = s.still := by
  unfold State.markSeq
  first
  | (simp; done)
  | ((try dsimp only); (repeat' split) <;> first
    | (simp; done)
    | (simp [*]; done)
    | (have e := State.still_fst ‹_ = (_, _)›; simp at e; simp [e]; done)
    | (have e := State.still_snd ‹_ = (_, _)›; simp at e; simp [e]; done))

@[simp] theorem State.poisonCell_still (s : State) (bad : List Sys2Proof.BadCell) (v : Nat) (pin : Nat) (end_ : Bool) (plen : Nat) :
    (State.poisonCell s bad v pin end_ plen).still = s.still := by
  unfold State.poisonCell
  first
  | (simp; done)
  | ((try dsimp only); (repeat' split) <;> first
    | (simp; done)
    | (simp [*]; done)
    | (have e := State.still_fst ‹_ = (_, _)›; simp at e; simp [e]; done)
    | (have e := State.still_snd ‹_ = (_, _)›; simp at e; simp [e]; done))

@[simp] theorem State.endCell_still (s : State) (bad : List Sys2Proof.BadCell) (v : Nat) (pin : Nat) (plen : Nat) :
    (State.endCell s bad v pin plen).still = s.still := by
  unfold State.endCell
  first
  | (simp; done)
  | ((try dsimp only); (repeat' split) <;> first
    | (simp; done)
    | (simp [*]; done)
    | (have e := State.still_fst ‹_ = (_, _)›; simp at e; simp [e]; done)
    | (have e := State.still_snd ‹_ = (_, _)›; simp at e; simp [e]; done))

@[simp] theorem State.sendWhole_still (s : State) (bad : List Sys2Proof.BadCell) (v : Nat) (e : Sys2Proof.Machine.QEnt) (b : Sys2Proof.Machine.Buffer) :
    (State.sendWhole s bad v e b).still = s.still := by
  unfold State.sendWhole
  first
  | (simp; done)
  | ((try dsimp only); (repeat' split) <;> first
    | (simp; done)
    | (simp [*]; done)
    | (have e := State.still_fst ‹_ = (_, _)›; simp at e; simp [e]; done)
    | (have e := State.still_snd ‹_ = (_, _)›; simp at e; simp [e]; done))

@[simp] theorem State.sendCutHead_still (s : State) (bad : List Sys2Proof.BadCell) (v : Nat) (e : Sys2Proof.Machine.QEnt) (t : List Sys2Proof.Machine.QEnt) (b : Sys2Proof.Machine.Buffer) :
    (State.sendCutHead s bad v e t b).still = s.still := by
  unfold State.sendCutHead
  first
  | (simp; done)
  | ((try dsimp only); (repeat' split) <;> first
    | (simp; done)
    | (simp [*]; done)
    | (have e := State.still_fst ‹_ = (_, _)›; simp at e; simp [e]; done)
    | (have e := State.still_snd ‹_ = (_, _)›; simp at e; simp [e]; done))

@[simp] theorem State.sendCutTail_still (s : State) (bad : List Sys2Proof.BadCell) (v : Nat) (e : Sys2Proof.Machine.QEnt) (n : Nat) (b : Sys2Proof.Machine.Buffer) :
    (State.sendCutTail s bad v e n b).still = s.still := by
  unfold State.sendCutTail
  first
  | (simp; done)
  | ((try dsimp only); (repeat' split) <;> first
    | (simp; done)
    | (simp [*]; done)
    | (have e := State.still_fst ‹_ = (_, _)›; simp at e; simp [e]; done)
    | (have e := State.still_snd ‹_ = (_, _)›; simp at e; simp [e]; done))

@[simp] theorem State.finishVoq_still (s : State) (bid : Nat) :
    (State.finishVoq s bid).still = s.still := by
  unfold State.finishVoq
  first
  | (simp; done)
  | ((try dsimp only); (repeat' split) <;> first
    | (simp; done)
    | (simp [*]; done)
    | (have e := State.still_fst ‹_ = (_, _)›; simp at e; simp [e]; done)
    | (have e := State.still_snd ‹_ = (_, _)›; simp at e; simp [e]; done))

@[simp] theorem State.voqServe_still (s : State) (bad : List Sys2Proof.BadCell) (v : Nat) :
    (State.voqServe s bad v).still = s.still := by
  unfold State.voqServe
  first
  | (simp; done)
  | ((try dsimp only); (repeat' split) <;> first
    | (simp; done)
    | (simp [*]; done)
    | (have e := State.still_fst ‹_ = (_, _)›; simp at e; simp [e]; done)
    | (have e := State.still_snd ‹_ = (_, _)›; simp at e; simp [e]; done))

@[simp] theorem State.mcastCell_still (s : State) (links : List Nat) (b : Sys2Proof.Bytes) :
    (State.mcastCell s links b).still = s.still := by
  unfold State.mcastCell
  first
  | (simp; done)
  | ((try dsimp only); (repeat' split) <;> first
    | (simp; done)
    | (simp [*]; done)
    | (have e := State.still_fst ‹_ = (_, _)›; simp at e; simp [e]; done)
    | (have e := State.still_snd ‹_ = (_, _)›; simp at e; simp [e]; done))

@[simp] theorem State.fmcSend_still (s : State) (bad : List Sys2Proof.BadCell) (c : Nat) (e : Sys2Proof.Machine.QEnt) (b : Sys2Proof.Machine.Buffer) :
    (State.fmcSend s bad c e b).still = s.still := by
  unfold State.fmcSend
  first
  | (simp; done)
  | ((try dsimp only); (repeat' split) <;> first
    | (simp; done)
    | (simp [*]; done)
    | (have e := State.still_fst ‹_ = (_, _)›; simp at e; simp [e]; done)
    | (have e := State.still_snd ‹_ = (_, _)›; simp at e; simp [e]; done))

@[simp] theorem State.fmcServe_still (s : State) (bad : List Sys2Proof.BadCell) (c : Nat) :
    (State.fmcServe s bad c).still = s.still := by
  unfold State.fmcServe
  first
  | (simp; done)
  | ((try dsimp only); (repeat' split) <;> first
    | (simp; done)
    | (simp [*]; done)
    | (have e := State.still_fst ‹_ = (_, _)›; simp at e; simp [e]; done)
    | (have e := State.still_snd ‹_ = (_, _)›; simp at e; simp [e]; done))

@[simp] theorem State.relayed_still (s : State) (n : Nat) (out : Nat) (b : Sys2Proof.Bytes) :
    (State.relayed s n out b).still = s.still := by
  unfold State.relayed
  first
  | (simp; done)
  | ((try dsimp only); (repeat' split) <;> first
    | (simp; done)
    | (simp [*]; done)
    | (have e := State.still_fst ‹_ = (_, _)›; simp at e; simp [e]; done)
    | (have e := State.still_snd ‹_ = (_, _)›; simp at e; simp [e]; done))

@[simp] theorem State.relayOne_still (s : State) (out : Nat) :
    (State.relayOne s out).still = s.still := by
  unfold State.relayOne
  first
  | (simp; done)
  | ((try dsimp only); (repeat' split) <;> first
    | (simp; done)
    | (simp [*]; done)
    | (have e := State.still_fst ‹_ = (_, _)›; simp at e; simp [e]; done)
    | (have e := State.still_snd ‹_ = (_, _)›; simp at e; simp [e]; done))

@[simp] theorem State.transit_still (s : State) (bad : List Sys2Proof.BadCell) (n : Nat) (b : Sys2Proof.Bytes) :
    (State.transit s bad n b).still = s.still := by
  unfold State.transit
  first
  | (simp; done)
  | ((try dsimp only); (repeat' split) <;> first
    | (simp; done)
    | (simp [*]; done)
    | (have e := State.still_fst ‹_ = (_, _)›; simp at e; simp [e]; done)
    | (have e := State.still_snd ‹_ = (_, _)›; simp at e; simp [e]; done))

@[simp] theorem State.voqEpoch_still (s : State) :
    (State.voqEpoch s).still = s.still := by
  unfold State.voqEpoch
  first
  | (simp; done)
  | ((try dsimp only); (repeat' split) <;> first
    | (simp; done)
    | (simp [*]; done)
    | (have e := State.still_fst ‹_ = (_, _)›; simp at e; simp [e]; done)
    | (have e := State.still_snd ‹_ = (_, _)›; simp at e; simp [e]; done))

/-! ## Hbm -/

@[simp] theorem State.setStack_still (s : State) (n : Nat) (x : Sys2Proof.Machine.StackSt) :
    (State.setStack s n x).still = s.still := by
  unfold State.setStack
  first
  | (simp; done)
  | ((try dsimp only); (repeat' split) <;> first
    | (simp; done)
    | (simp [*]; done)
    | (have e := State.still_fst ‹_ = (_, _)›; simp at e; simp [e]; done)
    | (have e := State.still_snd ‹_ = (_, _)›; simp at e; simp [e]; done))

@[simp] theorem State.setStackState_still (s : State) (n : Nat) (v : Nat) :
    (State.setStackState s n v).still = s.still := by
  unfold State.setStackState
  first
  | (simp; done)
  | ((try dsimp only); (repeat' split) <;> first
    | (simp; done)
    | (simp [*]; done)
    | (have e := State.still_fst ‹_ = (_, _)›; simp at e; simp [e]; done)
    | (have e := State.still_snd ‹_ = (_, _)›; simp at e; simp [e]; done))

@[simp] theorem State.openWindow_still (s : State) (n : Nat) :
    (State.openWindow s n).still = s.still := by
  unfold State.openWindow
  first
  | (simp; done)
  | ((try dsimp only); (repeat' split) <;> first
    | (simp; done)
    | (simp [*]; done)
    | (have e := State.still_fst ‹_ = (_, _)›; simp at e; simp [e]; done)
    | (have e := State.still_snd ‹_ = (_, _)›; simp at e; simp [e]; done))

@[simp] theorem State.openWindows_still (s : State) :
    (State.openWindows s).still = s.still := by
  unfold State.openWindows
  first
  | (simp; done)
  | ((try dsimp only); (repeat' split) <;> first
    | (simp; done)
    | (simp [*]; done)
    | (have e := State.still_fst ‹_ = (_, _)›; simp at e; simp [e]; done)
    | (have e := State.still_snd ‹_ = (_, _)›; simp at e; simp [e]; done))

@[simp] theorem State.closeWindow_still (s : State) (n : Nat) :
    (State.closeWindow s n).still = s.still := by
  unfold State.closeWindow
  first
  | (simp; done)
  | ((try dsimp only); (repeat' split) <;> first
    | (simp; done)
    | (simp [*]; done)
    | (have e := State.still_fst ‹_ = (_, _)›; simp at e; simp [e]; done)
    | (have e := State.still_snd ‹_ = (_, _)›; simp at e; simp [e]; done))

@[simp] theorem State.readStackTemp_still (s : State) (n : Nat) (t : Option (BitVec 16)) :
    (State.readStackTemp s n t).still = s.still := by
  unfold State.readStackTemp
  first
  | (simp; done)
  | ((try dsimp only); (repeat' split) <;> first
    | (simp; done)
    | (simp [*]; done)
    | (have e := State.still_fst ‹_ = (_, _)›; simp at e; simp [e]; done)
    | (have e := State.still_snd ‹_ = (_, _)›; simp at e; simp [e]; done))

@[simp] theorem State.dlyAdvance_still (s : State) (pg : Nat) :
    (State.dlyAdvance s pg).still = s.still := by
  unfold State.dlyAdvance
  first
  | (simp; done)
  | ((try dsimp only); (repeat' split) <;> first
    | (simp; done)
    | (simp [*]; done)
    | (have e := State.still_fst ‹_ = (_, _)›; simp at e; simp [e]; done)
    | (have e := State.still_snd ‹_ = (_, _)›; simp at e; simp [e]; done))

@[simp] theorem State.dlyRead_still (s : State) (n : Nat) :
    (State.dlyRead s n).2.still = s.still := by
  unfold State.dlyRead
  first
  | (simp; done)
  | ((try dsimp only); (repeat' split) <;> first
    | (simp; done)
    | (simp [*]; done)
    | (have e := State.still_fst ‹_ = (_, _)›; simp at e; simp [e]; done)
    | (have e := State.still_snd ‹_ = (_, _)›; simp at e; simp [e]; done))

@[simp] theorem State.dlyWrite_still (s : State) (n : Nat) (v : Nat) :
    (State.dlyWrite s n v).still = s.still := by
  unfold State.dlyWrite
  first
  | (simp; done)
  | ((try dsimp only); (repeat' split) <;> first
    | (simp; done)
    | (simp [*]; done)
    | (have e := State.still_fst ‹_ = (_, _)›; simp at e; simp [e]; done)
    | (have e := State.still_snd ‹_ = (_, _)›; simp at e; simp [e]; done))

@[simp] theorem State.overdueCheck_still (s : State) (r : Sys2Proof.Machine.HbmReq) :
    (State.overdueCheck s r).still = s.still := by
  unfold State.overdueCheck
  first
  | (simp; done)
  | ((try dsimp only); (repeat' split) <;> first
    | (simp; done)
    | (simp [*]; done)
    | (have e := State.still_fst ‹_ = (_, _)›; simp at e; simp [e]; done)
    | (have e := State.still_snd ‹_ = (_, _)›; simp at e; simp [e]; done))

@[simp] theorem State.issue_still (s : State) (n : Nat) (q : Nat) :
    (State.issue s n q).still = s.still := by
  unfold State.issue
  first
  | (simp; done)
  | ((try dsimp only); (repeat' split) <;> first
    | (simp; done)
    | (simp [*]; done)
    | (have e := State.still_fst ‹_ = (_, _)›; simp at e; simp [e]; done)
    | (have e := State.still_snd ‹_ = (_, _)›; simp at e; simp [e]; done))

@[simp] theorem State.complete_still (s : State) (r : Sys2Proof.Machine.HbmReq) :
    (State.complete s r).still = s.still := by
  unfold State.complete
  first
  | (simp; done)
  | ((try dsimp only); (repeat' split) <;> first
    | (simp; done)
    | (simp [*]; done)
    | (have e := State.still_fst ‹_ = (_, _)›; simp at e; simp [e]; done)
    | (have e := State.still_snd ‹_ = (_, _)›; simp at e; simp [e]; done))

@[simp] theorem State.finding_still (s : State) (a : Nat) (f : Sys2Proof.MemFinding) :
    (State.finding s a f).still = s.still := by
  unfold State.finding
  first
  | (simp; done)
  | ((try dsimp only); (repeat' split) <;> first
    | (simp; done)
    | (simp [*]; done)
    | (have e := State.still_fst ‹_ = (_, _)›; simp at e; simp [e]; done)
    | (have e := State.still_snd ‹_ = (_, _)›; simp at e; simp [e]; done))

@[simp] theorem State.stompRead_still (s : State) (r : Sys2Proof.Machine.HbmReq) :
    (State.stompRead s r).still = s.still := by
  unfold State.stompRead
  first
  | (simp; done)
  | ((try dsimp only); (repeat' split) <;> first
    | (simp; done)
    | (simp [*]; done)
    | (have e := State.still_fst ‹_ = (_, _)›; simp at e; simp [e]; done)
    | (have e := State.still_snd ‹_ = (_, _)›; simp at e; simp [e]; done))

/-! ## Artifacts -/

@[simp] theorem State.stageBank_still (s : State) (b : Sys2Proof.Bytes) (ok : Bool) :
    (State.stageBank s b ok).still = s.still := by
  unfold State.stageBank
  first
  | (simp; done)
  | ((try dsimp only); (repeat' split) <;> first
    | (simp; done)
    | (simp [*]; done)
    | (have e := State.still_fst ‹_ = (_, _)›; simp at e; simp [e]; done)
    | (have e := State.still_snd ‹_ = (_, _)›; simp at e; simp [e]; done))

@[simp] theorem State.loadArtifact_still (s : State) (b : Sys2Proof.Bytes) :
    (State.loadArtifact s b).1.still = s.still := by
  unfold State.loadArtifact
  first
  | (simp; done)
  | ((try dsimp only); (repeat' split) <;> first
    | (simp; done)
    | (simp [*]; done)
    | (have e := State.still_fst ‹_ = (_, _)›; simp at e; simp [e]; done)
    | (have e := State.still_snd ‹_ = (_, _)›; simp at e; simp [e]; done))

/-! ## Tdm -/

@[simp] theorem State.lineWritten_still (s : State) :
    (State.lineWritten s).still = s.still := by
  unfold State.lineWritten
  first
  | (simp; done)
  | ((try dsimp only); (repeat' split) <;> first
    | (simp; done)
    | (simp [*]; done)
    | (have e := State.still_fst ‹_ = (_, _)›; simp at e; simp [e]; done)
    | (have e := State.still_snd ‹_ = (_, _)›; simp at e; simp [e]; done))

@[simp] theorem State.enginePut_still (s : State) (p : Sys2Proof.Machine.Place) (e : Nat) :
    (State.enginePut s p e).still = s.still := by
  unfold State.enginePut
  first
  | (simp; done)
  | ((try dsimp only); (repeat' split) <;> first
    | (simp; done)
    | (simp [*]; done)
    | (have e := State.still_fst ‹_ = (_, _)›; simp at e; simp [e]; done)
    | (have e := State.still_snd ‹_ = (_, _)›; simp at e; simp [e]; done))

@[simp] theorem State.movePath_still (s : State) (path : List Place) (dst : Place) (e : Nat) :
    (State.movePath s path dst e).still = s.still := by
  induction path generalizing dst e with
  | nil => simp [State.movePath]
  | cons p t ih => unfold State.movePath; simp [ih]

theorem State.placeEntry_still {s t : State} {bad : List BadCell} {e : Nat} (h : s.placeEntry bad e = some t) :
    t.still = s.still := by
  unfold State.placeEntry at h
  dsimp only at h
  split at h
  · rw [← Option.some.inj h]; simp
  · rw [← Option.some.inj h]; simp
  · split at h
    · rw [← Option.some.inj h]; simp
    · cases h

@[simp] theorem State.insertSlot_still (s : State) (bad : List BadCell) (e : Nat) :
    (State.insertSlot s bad e).1.still = s.still := by
  unfold State.insertSlot
  dsimp only
  (repeat' split) <;> first
    | (simp; done)
    | (have e := State.placeEntry_still ‹_ = some _›; simp at e; simp [e]; done)

@[simp] theorem State.retryStash_still (s : State) (bad : List BadCell) : (State.retryStash s bad).still = s.still := by
  unfold State.retryStash
  (repeat' split) <;> first
    | (simp; done)
    | (have e := State.placeEntry_still ‹_ = some _›; simp [e]; done)

@[simp] theorem State.removeSlot_still (s : State) (bad : List Sys2Proof.BadCell) (e : Nat) :
    (State.removeSlot s bad e).1.still = s.still := by
  unfold State.removeSlot
  first
  | (simp; done)
  | ((try dsimp only); (repeat' split) <;> first
    | (simp; done)
    | (simp [*]; done)
    | (have e := State.still_fst ‹_ = (_, _)›; simp at e; simp [e]; done)
    | (have e := State.still_snd ‹_ = (_, _)›; simp at e; simp [e]; done))

@[simp] theorem State.applyNext_still (s : State) :
    (State.applyNext s).still = s.still := by
  unfold State.applyNext
  first
  | (simp; done)
  | ((try dsimp only); (repeat' split) <;> first
    | (simp; done)
    | (simp [*]; done)
    | (have e := State.still_fst ‹_ = (_, _)›; simp at e; simp [e]; done)
    | (have e := State.still_snd ‹_ = (_, _)›; simp at e; simp [e]; done))

@[simp] theorem State.tdmComplete_still (s : State) (d : Sys2Proof.Machine.Desc) (status : Nat) (art : Nat) (detail : Nat) :
    (State.tdmComplete s d status art detail).still = s.still := by
  unfold State.tdmComplete
  first
  | (simp; done)
  | ((try dsimp only); (repeat' split) <;> first
    | (simp; done)
    | (simp [*]; done)
    | (have e := State.still_fst ‹_ = (_, _)›; simp at e; simp [e]; done)
    | (have e := State.still_snd ‹_ = (_, _)›; simp at e; simp [e]; done))

@[simp] theorem State.tdmTake_still (s : State) (r : Sys2Proof.HostRead) :
    (State.tdmTake s r).still = s.still := by
  unfold State.tdmTake
  first
  | (simp; done)
  | ((try dsimp only); (repeat' split) <;> first
    | (simp; done)
    | (simp [*]; done)
    | (have e := State.still_fst ‹_ = (_, _)›; simp at e; simp [e]; done)
    | (have e := State.still_snd ‹_ = (_, _)›; simp at e; simp [e]; done))

@[simp] theorem State.tablePut_still (s : State) (t : Nat) (i : Nat) (v : Nat) :
    (State.tablePut s t i v).still = s.still := by
  unfold State.tablePut
  first
  | (simp; done)
  | ((try dsimp only); (repeat' split) <;> first
    | (simp; done)
    | (simp [*]; done)
    | (have e := State.still_fst ‹_ = (_, _)›; simp at e; simp [e]; done)
    | (have e := State.still_snd ‹_ = (_, _)›; simp at e; simp [e]; done))

@[simp] theorem State.tdmWith_still (s : State) (op : Nat) (f : State → Desc → State) (h : ∀ t d, (f t d).still = t.still) :
    (State.tdmWith s op f).still = s.still := by
  unfold State.tdmWith
  (repeat' split) <;> simp [h]

@[simp] theorem State.tdmKeep_still (s : State) (d : Sys2Proof.Machine.Desc) :
    (State.tdmKeep s d).still = s.still := by
  unfold State.tdmKeep
  first
  | (simp; done)
  | ((try dsimp only); (repeat' split) <;> first
    | (simp; done)
    | (simp [*]; done)
    | (have e := State.still_fst ‹_ = (_, _)›; simp at e; simp [e]; done)
    | (have e := State.still_snd ‹_ = (_, _)›; simp at e; simp [e]; done))

@[simp] theorem State.tdmMoved_still (s : State) (n : Nat) :
    (State.tdmMoved s n).still = s.still := by
  unfold State.tdmMoved
  first
  | (simp; done)
  | ((try dsimp only); (repeat' split) <;> first
    | (simp; done)
    | (simp [*]; done)
    | (have e := State.still_fst ‹_ = (_, _)›; simp at e; simp [e]; done)
    | (have e := State.still_snd ‹_ = (_, _)›; simp at e; simp [e]; done))

@[simp] theorem State.tdmLoadOp_still (s : State) (r : Sys2Proof.HostRead) (d : Sys2Proof.Machine.Desc) :
    (State.tdmLoadOp s r d).still = s.still := by
  unfold State.tdmLoadOp
  first
  | (simp; done)
  | ((try dsimp only); (repeat' split) <;> first
    | (simp; done)
    | (simp [*]; done)
    | (have e := State.still_fst ‹_ = (_, _)›; simp at e; simp [e]; done)
    | (have e := State.still_snd ‹_ = (_, _)›; simp at e; simp [e]; done))

@[simp] theorem State.tdmWriteOp_still (s : State) (r : Sys2Proof.HostRead) (d : Sys2Proof.Machine.Desc) :
    (State.tdmWriteOp s r d).still = s.still := by
  unfold State.tdmWriteOp
  first
  | (simp; done)
  | ((try dsimp only); (repeat' split) <;> first
    | (simp; done)
    | (simp [*]; done)
    | (have e := State.still_fst ‹_ = (_, _)›; simp at e; simp [e]; done)
    | (have e := State.still_snd ‹_ = (_, _)›; simp at e; simp [e]; done))

@[simp] theorem State.tdmReadOp_still (s : State) (writeOk : Bool) (d : Sys2Proof.Machine.Desc) :
    (State.tdmReadOp s writeOk d).still = s.still := by
  unfold State.tdmReadOp
  first
  | (simp; done)
  | ((try dsimp only); (repeat' split) <;> first
    | (simp; done)
    | (simp [*]; done)
    | (have e := State.still_fst ‹_ = (_, _)›; simp at e; simp [e]; done)
    | (have e := State.still_snd ‹_ = (_, _)›; simp at e; simp [e]; done))

@[simp] theorem State.tdmSlotOp_still (s : State) (r : Sys2Proof.HostRead) (bad : List Sys2Proof.BadCell) (d : Sys2Proof.Machine.Desc) :
    (State.tdmSlotOp s r bad d).still = s.still := by
  unfold State.tdmSlotOp
  first
  | (simp; done)
  | ((try dsimp only); (repeat' split) <;> first
    | (simp; done)
    | (simp [*]; done)
    | (have e := State.still_fst ‹_ = (_, _)›; simp at e; simp [e]; done)
    | (have e := State.still_snd ‹_ = (_, _)›; simp at e; simp [e]; done))

@[simp] theorem State.tdmContain_still (s : State) :
    (State.tdmContain s).still = s.still := by
  unfold State.tdmContain
  first
  | (simp; done)
  | ((try dsimp only); (repeat' split) <;> first
    | (simp; done)
    | (simp [*]; done)
    | (have e := State.still_fst ‹_ = (_, _)›; simp at e; simp [e]; done)
    | (have e := State.still_snd ‹_ = (_, _)›; simp at e; simp [e]; done))

@[simp] theorem State.tdmRelease_still (s : State) :
    (State.tdmRelease s).still = s.still := by
  unfold State.tdmRelease
  first
  | (simp; done)
  | ((try dsimp only); (repeat' split) <;> first
    | (simp; done)
    | (simp [*]; done)
    | (have e := State.still_fst ‹_ = (_, _)›; simp at e; simp [e]; done)
    | (have e := State.still_snd ‹_ = (_, _)›; simp at e; simp [e]; done))

@[simp] theorem State.profileApply_still (s : State) :
    (State.profileApply s).still = s.still := by
  unfold State.profileApply
  first
  | (simp; done)
  | ((try dsimp only); (repeat' split) <;> first
    | (simp; done)
    | (simp [*]; done)
    | (have e := State.still_fst ‹_ = (_, _)›; simp at e; simp [e]; done)
    | (have e := State.still_snd ‹_ = (_, _)›; simp at e; simp [e]; done))

@[simp] theorem State.profileDone_still (s : State) :
    (State.profileDone s).still = s.still := by
  unfold State.profileDone
  first
  | (simp; done)
  | ((try dsimp only); (repeat' split) <;> first
    | (simp; done)
    | (simp [*]; done)
    | (have e := State.still_fst ‹_ = (_, _)›; simp at e; simp [e]; done)
    | (have e := State.still_snd ‹_ = (_, _)›; simp at e; simp [e]; done))

/-! ## Learn -/

@[simp] theorem State.learnNotice_still (s : State) (e : Nat) (kind : Nat) :
    (State.learnNotice s e kind).still = s.still := by
  unfold State.learnNotice
  first
  | (simp; done)
  | ((try dsimp only); (repeat' split) <;> first
    | (simp; done)
    | (simp [*]; done)
    | (have e := State.still_fst ‹_ = (_, _)›; simp at e; simp [e]; done)
    | (have e := State.still_snd ‹_ = (_, _)›; simp at e; simp [e]; done))

@[simp] theorem State.learnFailure_still (s : State) (e : Nat) (reason : Nat) :
    (State.learnFailure s e reason).still = s.still := by
  unfold State.learnFailure
  first
  | (simp; done)
  | ((try dsimp only); (repeat' split) <;> first
    | (simp; done)
    | (simp [*]; done)
    | (have e := State.still_fst ‹_ = (_, _)›; simp at e; simp [e]; done)
    | (have e := State.still_snd ‹_ = (_, _)›; simp at e; simp [e]; done))

@[simp] theorem State.learnInstall_still (s : State) (bad : List Sys2Proof.BadCell) (e : Nat) :
    (State.learnInstall s bad e).still = s.still := by
  unfold State.learnInstall
  first
  | (simp; done)
  | ((try dsimp only); (repeat' split) <;> first
    | (simp; done)
    | (simp [*]; done)
    | (have e := State.still_fst ‹_ = (_, _)›; simp at e; simp [e]; done)
    | (have e := State.still_snd ‹_ = (_, _)›; simp at e; simp [e]; done))

@[simp] theorem State.learnServe_still (s : State) (bad : List Sys2Proof.BadCell) (r : Sys2Proof.Machine.LearnReq) :
    (State.learnServe s bad r).still = s.still := by
  unfold State.learnServe
  first
  | (simp; done)
  | ((try dsimp only); (repeat' split) <;> first
    | (simp; done)
    | (simp [*]; done)
    | (have e := State.still_fst ‹_ = (_, _)›; simp at e; simp [e]; done)
    | (have e := State.still_snd ‹_ = (_, _)›; simp at e; simp [e]; done))

@[simp] theorem State.learnPost_still (s : State) (remove : Bool) :
    (State.learnPost s remove).still = s.still := by
  unfold State.learnPost
  first
  | (simp; done)
  | ((try dsimp only); (repeat' split) <;> first
    | (simp; done)
    | (simp [*]; done)
    | (have e := State.still_fst ‹_ = (_, _)›; simp at e; simp [e]; done)
    | (have e := State.still_snd ‹_ = (_, _)›; simp at e; simp [e]; done))

@[simp] theorem State.ageOut_still (s : State) (p : Sys2Proof.Machine.Place) :
    (State.ageOut s p).still = s.still := by
  unfold State.ageOut
  first
  | (simp; done)
  | ((try dsimp only); (repeat' split) <;> first
    | (simp; done)
    | (simp [*]; done)
    | (have e := State.still_fst ‹_ = (_, _)›; simp at e; simp [e]; done)
    | (have e := State.still_snd ‹_ = (_, _)›; simp at e; simp [e]; done))

/-! ## Shadow -/

@[simp] theorem State.shdFind_still (s : State) (kind : Nat) (exm : Bool) (k : Nat) :
    (State.shdFind s kind exm k).still = s.still := by
  unfold State.shdFind
  first
  | (simp; done)
  | ((try dsimp only); (repeat' split) <;> first
    | (simp; done)
    | (simp [*]; done)
    | (have e := State.still_fst ‹_ = (_, _)›; simp at e; simp [e]; done)
    | (have e := State.still_snd ‹_ = (_, _)›; simp at e; simp [e]; done))

@[simp] theorem State.shdAdvance_still (s : State) (exm : Bool) :
    (State.shdAdvance s exm).still = s.still := by
  unfold State.shdAdvance
  first
  | (simp; done)
  | ((try dsimp only); (repeat' split) <;> first
    | (simp; done)
    | (simp [*]; done)
    | (have e := State.still_fst ‹_ = (_, _)›; simp at e; simp [e]; done)
    | (have e := State.still_snd ‹_ = (_, _)›; simp at e; simp [e]; done))

@[simp] theorem State.shdOne_still (exm : Bool) (bad : List Sys2Proof.BadCell) (s : State) (r : Sys2Proof.HostRead) :
    (State.shdOne exm bad s r).still = s.still := by
  unfold State.shdOne
  first
  | (simp; done)
  | ((try dsimp only); (repeat' split) <;> first
    | (simp; done)
    | (simp [*]; done)
    | (have e := State.still_fst ‹_ = (_, _)›; simp at e; simp [e]; done)
    | (have e := State.still_snd ‹_ = (_, _)›; simp at e; simp [e]; done))

@[simp] theorem State.shdLocator_still (s : State) (f : Sys2Proof.Machine.Finding) (v : Nat) :
    (State.shdLocator s f v).1.still = s.still := by
  unfold State.shdLocator
  first
  | (simp; done)
  | ((try dsimp only); (repeat' split) <;> first
    | (simp; done)
    | (simp [*]; done)
    | (have e := State.still_fst ‹_ = (_, _)›; simp at e; simp [e]; done)
    | (have e := State.still_snd ‹_ = (_, _)›; simp at e; simp [e]; done))

theorem State.lpmPatched_still (s : State) (l : Banked LpmImage) :
    ({ s with banks := { s.banks with lpm := l } } : State).still = s.still := rfl

theorem State.insertEnd_still (t : State) (o : Nat) :
    (if o = 4 ∨ o = 7 then (t.trb 0x3A 7, false) else (t.stat 0x3A Reg.SHD_CORRECTED 0 1, true)).1.still = t.still := by
  split <;> simp

@[simp] theorem State.shdCorrect_still (s : State) (f : Finding) (v : Nat) :
    (State.shdCorrect s f v).1.still = s.still := by
  unfold State.shdCorrect
  split
  · rfl
  · split
    · have e := State.insertSlot_still s [] (v / 2 ^ 34 * 2 ^ 34)
      revert e
      generalize s.insertSlot [] (v / 2 ^ 34 * 2 ^ 34) = x
      obtain ⟨t, o⟩ := x
      exact fun e => (State.insertEnd_still t o).trans e
    · exact (State.stat_still _ _ _ _ _).trans ((State.lineWritten_still _).trans (State.lpmPatched_still s _))

@[simp] theorem State.shdConfirmed_still (s : State) (f : Sys2Proof.Machine.Finding) (v : Nat) :
    (State.shdConfirmed s f v).still = s.still := by
  unfold State.shdConfirmed
  first
  | (simp; done)
  | ((try dsimp only); (repeat' split) <;> first
    | (simp; done)
    | (simp [*]; done)
    | (have e := State.still_fst ‹_ = (_, _)›; simp at e; simp [e]; done)
    | (have e := State.still_snd ‹_ = (_, _)›; simp at e; simp [e]; done))

/-! ## HostIf -/

@[simp] theorem State.discardRing_still (s : State) (r : Nat) :
    (State.discardRing s r).still = s.still := by
  unfold State.discardRing
  first
  | (simp; done)
  | ((try dsimp only); (repeat' split) <;> first
    | (simp; done)
    | (simp [*]; done)
    | (have e := State.still_fst ‹_ = (_, _)›; simp at e; simp [e]; done)
    | (have e := State.still_snd ‹_ = (_, _)›; simp at e; simp [e]; done))

@[simp] theorem State.holdExpired_still (s : State) :
    (State.holdExpired s).still = s.still := by
  unfold State.holdExpired
  first
  | (simp; done)
  | ((try dsimp only); (repeat' split) <;> first
    | (simp; done)
    | (simp [*]; done)
    | (have e := State.still_fst ‹_ = (_, _)›; simp at e; simp [e]; done)
    | (have e := State.still_snd ‹_ = (_, _)›; simp at e; simp [e]; done))

@[simp] theorem State.hostLinkDown_still (s : State) :
    (State.hostLinkDown s).still = s.still := by
  unfold State.hostLinkDown
  first
  | (simp; done)
  | ((try dsimp only); (repeat' split) <;> first
    | (simp; done)
    | (simp [*]; done)
    | (have e := State.still_fst ‹_ = (_, _)›; simp at e; simp [e]; done)
    | (have e := State.still_snd ‹_ = (_, _)›; simp at e; simp [e]; done))

@[simp] theorem State.containEnter_still (s : State) (cause : Nat) :
    (State.containEnter s cause).still = s.still := by
  unfold State.containEnter
  first
  | (simp; done)
  | ((try dsimp only); (repeat' split) <;> first
    | (simp; done)
    | (simp [*]; done)
    | (have e := State.still_fst ‹_ = (_, _)›; simp at e; simp [e]; done)
    | (have e := State.still_snd ‹_ = (_, _)›; simp at e; simp [e]; done))

@[simp] theorem State.containRelease_still (s : State) :
    (State.containRelease s).still = s.still := by
  unfold State.containRelease
  first
  | (simp; done)
  | ((try dsimp only); (repeat' split) <;> first
    | (simp; done)
    | (simp [*]; done)
    | (have e := State.still_fst ‹_ = (_, _)›; simp at e; simp [e]; done)
    | (have e := State.still_snd ‹_ = (_, _)›; simp at e; simp [e]; done))

@[simp] theorem State.tagTimeout_still (s : State) (tag : Nat) :
    (State.tagTimeout s tag).still = s.still := by
  unfold State.tagTimeout
  first
  | (simp; done)
  | ((try dsimp only); (repeat' split) <;> first
    | (simp; done)
    | (simp [*]; done)
    | (have e := State.still_fst ‹_ = (_, _)›; simp at e; simp [e]; done)
    | (have e := State.still_snd ‹_ = (_, _)›; simp at e; simp [e]; done))

@[simp] theorem State.tagCompletion_still (s : State) (tag : Nat) (last : Bool) (err : Bool) :
    (State.tagCompletion s tag last err).still = s.still := by
  unfold State.tagCompletion
  first
  | (simp; done)
  | ((try dsimp only); (repeat' split) <;> first
    | (simp; done)
    | (simp [*]; done)
    | (have e := State.still_fst ‹_ = (_, _)›; simp at e; simp [e]; done)
    | (have e := State.still_snd ‹_ = (_, _)›; simp at e; simp [e]; done))

@[simp] theorem State.devNext_still (s : State) (i : Nat) (k : Nat) :
    (State.devNext s i k).still = s.still := by
  unfold State.devNext
  first
  | (simp; done)
  | ((try dsimp only); (repeat' split) <;> first
    | (simp; done)
    | (simp [*]; done)
    | (have e := State.still_fst ‹_ = (_, _)›; simp at e; simp [e]; done)
    | (have e := State.still_snd ‹_ = (_, _)›; simp at e; simp [e]; done))

@[simp] theorem State.entryDone_still (s : State) (i : Nat) (k : Nat) (status : Nat) :
    (State.entryDone s i k status).still = s.still := by
  unfold State.entryDone
  first
  | (simp; done)
  | ((try dsimp only); (repeat' split) <;> first
    | (simp; done)
    | (simp [*]; done)
    | (have e := State.still_fst ‹_ = (_, _)›; simp at e; simp [e]; done)
    | (have e := State.still_snd ‹_ = (_, _)›; simp at e; simp [e]; done))

@[simp] theorem State.puntInto_still (s : State) (r : Nat) (k : Nat) (len : Nat) (addr : Nat) (e : Sys2Proof.Machine.QEnt) (t : List Sys2Proof.Machine.QEnt) (b : Sys2Proof.Machine.Buffer) :
    (State.puntInto s r k len addr e t b).still = s.still := by
  unfold State.puntInto
  first
  | (simp; done)
  | ((try dsimp only); (repeat' split) <;> first
    | (simp; done)
    | (simp [*]; done)
    | (have e := State.still_fst ‹_ = (_, _)›; simp at e; simp [e]; done)
    | (have e := State.still_snd ‹_ = (_, _)›; simp at e; simp [e]; done))

@[simp] theorem State.puntServe_still (s : State) (r : Nat) (k : Nat) (entry : Sys2Proof.HostRead) :
    (State.puntServe s r k entry).still = s.still := by
  unfold State.puntServe
  first
  | (simp; done)
  | ((try dsimp only); (repeat' split) <;> first
    | (simp; done)
    | (simp [*]; done)
    | (have e := State.still_fst ‹_ = (_, _)›; simp at e; simp [e]; done)
    | (have e := State.still_snd ‹_ = (_, _)›; simp at e; simp [e]; done))

@[simp] theorem State.injectFrame_still (s : State) (r : Nat) (b : Sys2Proof.Bytes) (cls : Nat) (meta16 : Nat) (direct : Option Nat) :
    (State.injectFrame s r b cls meta16 direct).still = s.still := by
  unfold State.injectFrame
  first
  | (simp; done)
  | ((try dsimp only); (repeat' split) <;> first
    | (simp; done)
    | (simp [*]; done)
    | (have e := State.still_fst ‹_ = (_, _)›; simp at e; simp [e]; done)
    | (have e := State.still_snd ‹_ = (_, _)›; simp at e; simp [e]; done))

@[simp] theorem State.injectServe_still (s : State) (r : Nat) (k : Nat) (entry : Sys2Proof.HostRead) (frame : Sys2Proof.HostRead) :
    (State.injectServe s r k entry frame).still = s.still := by
  unfold State.injectServe
  first
  | (simp; done)
  | ((try dsimp only); (repeat' split) <;> first
    | (simp; done)
    | (simp [*]; done)
    | (have e := State.still_fst ‹_ = (_, _)›; simp at e; simp [e]; done)
    | (have e := State.still_snd ‹_ = (_, _)›; simp at e; simp [e]; done))

@[simp] theorem State.userRead_still (s : State) (off : Nat) (len : Nat) :
    (State.userRead s off len).still = s.still := by
  unfold State.userRead
  first
  | (simp; done)
  | ((try dsimp only); (repeat' split) <;> first
    | (simp; done)
    | (simp [*]; done)
    | (have e := State.still_fst ‹_ = (_, _)›; simp at e; simp [e]; done)
    | (have e := State.still_snd ‹_ = (_, _)›; simp at e; simp [e]; done))

@[simp] theorem State.pairFrameIn_still (s : State) (b : Sys2Proof.Bytes) :
    (State.pairFrameIn s b).still = s.still := by
  unfold State.pairFrameIn
  first
  | (simp; done)
  | ((try dsimp only); (repeat' split) <;> first
    | (simp; done)
    | (simp [*]; done)
    | (have e := State.still_fst ‹_ = (_, _)›; simp at e; simp [e]; done)
    | (have e := State.still_snd ‹_ = (_, _)›; simp at e; simp [e]; done))

/-! ## Power -/

@[simp] theorem State.setMode_still (s : State) (m : Nat) (cause : Nat) :
    (State.setMode s m cause).still = s.still := by
  unfold State.setMode
  first
  | (simp; done)
  | ((try dsimp only); (repeat' split) <;> first
    | (simp; done)
    | (simp [*]; done)
    | (have e := State.still_fst ‹_ = (_, _)›; simp at e; simp [e]; done)
    | (have e := State.still_snd ‹_ = (_, _)›; simp at e; simp [e]; done))

@[simp] theorem State.planSequence_still (s : State) :
    (State.planSequence s).still = s.still := by
  unfold State.planSequence
  first
  | (simp; done)
  | ((try dsimp only); (repeat' split) <;> first
    | (simp; done)
    | (simp [*]; done)
    | (have e := State.still_fst ‹_ = (_, _)›; simp at e; simp [e]; done)
    | (have e := State.still_snd ‹_ = (_, _)›; simp at e; simp [e]; done))

@[simp] theorem State.modeRefused_still (s : State) :
    (State.modeRefused s).still = s.still := by
  unfold State.modeRefused
  first
  | (simp; done)
  | ((try dsimp only); (repeat' split) <;> first
    | (simp; done)
    | (simp [*]; done)
    | (have e := State.still_fst ‹_ = (_, _)›; simp at e; simp [e]; done)
    | (have e := State.still_snd ‹_ = (_, _)›; simp at e; simp [e]; done))

@[simp] theorem State.seqEnd_still (s : State) :
    (State.seqEnd s).still = s.still := by
  unfold State.seqEnd
  first
  | (simp; done)
  | ((try dsimp only); (repeat' split) <;> first
    | (simp; done)
    | (simp [*]; done)
    | (have e := State.still_fst ‹_ = (_, _)›; simp at e; simp [e]; done)
    | (have e := State.still_snd ‹_ = (_, _)›; simp at e; simp [e]; done))

@[simp] theorem State.bootToReady_still (s : State) :
    (State.bootToReady s).still = s.still := by
  unfold State.bootToReady
  first
  | (simp; done)
  | ((try dsimp only); (repeat' split) <;> first
    | (simp; done)
    | (simp [*]; done)
    | (have e := State.still_fst ‹_ = (_, _)›; simp at e; simp [e]; done)
    | (have e := State.still_snd ‹_ = (_, _)›; simp at e; simp [e]; done))

@[simp] theorem State.modeRequest_still (s : State) (n : Nat) (cause : Nat) :
    (State.modeRequest s n cause).still = s.still := by
  unfold State.modeRequest
  first
  | (simp; done)
  | ((try dsimp only); (repeat' split) <;> first
    | (simp; done)
    | (simp [*]; done)
    | (have e := State.still_fst ‹_ = (_, _)›; simp at e; simp [e]; done)
    | (have e := State.still_snd ‹_ = (_, _)›; simp at e; simp [e]; done))

@[simp] theorem State.modeReq_still (s : State) (n : Nat) :
    (State.modeReq s n).still = s.still := by
  unfold State.modeReq
  first
  | (simp; done)
  | ((try dsimp only); (repeat' split) <;> first
    | (simp; done)
    | (simp [*]; done)
    | (have e := State.still_fst ‹_ = (_, _)›; simp at e; simp [e]; done)
    | (have e := State.still_snd ‹_ = (_, _)›; simp at e; simp [e]; done))

@[simp] theorem State.planApply_still (s : State) :
    (State.planApply s).still = s.still := by
  unfold State.planApply
  first
  | (simp; done)
  | ((try dsimp only); (repeat' split) <;> first
    | (simp; done)
    | (simp [*]; done)
    | (have e := State.still_fst ‹_ = (_, _)›; simp at e; simp [e]; done)
    | (have e := State.still_snd ‹_ = (_, _)›; simp at e; simp [e]; done))

@[simp] theorem State.packetsGone_still (s : State) (d : Nat) :
    (State.packetsGone s d).still = s.still := by
  unfold State.packetsGone
  first
  | (simp; done)
  | ((try dsimp only); (repeat' split) <;> first
    | (simp; done)
    | (simp [*]; done)
    | (have e := State.still_fst ‹_ = (_, _)›; simp at e; simp [e]; done)
    | (have e := State.still_snd ‹_ = (_, _)›; simp at e; simp [e]; done))

@[simp] theorem State.mgmtReady_still (s : State) :
    (State.mgmtReady s).still = s.still := by
  unfold State.mgmtReady
  first
  | (simp; done)
  | ((try dsimp only); (repeat' split) <;> first
    | (simp; done)
    | (simp [*]; done)
    | (have e := State.still_fst ‹_ = (_, _)›; simp at e; simp [e]; done)
    | (have e := State.still_snd ‹_ = (_, _)›; simp at e; simp [e]; done))

@[simp] theorem State.ropeStart_still (s : State) :
    (State.ropeStart s).still = s.still := by
  unfold State.ropeStart
  first
  | (simp; done)
  | ((try dsimp only); (repeat' split) <;> first
    | (simp; done)
    | (simp [*]; done)
    | (have e := State.still_fst ‹_ = (_, _)›; simp at e; simp [e]; done)
    | (have e := State.still_snd ‹_ = (_, _)›; simp at e; simp [e]; done))

@[simp] theorem State.domainReady_still (s : State) (d : Nat) :
    (State.domainReady s d).still = s.still := by
  unfold State.domainReady
  first
  | (simp; done)
  | ((try dsimp only); (repeat' split) <;> first
    | (simp; done)
    | (simp [*]; done)
    | (have e := State.still_fst ‹_ = (_, _)›; simp at e; simp [e]; done)
    | (have e := State.still_snd ‹_ = (_, _)›; simp at e; simp [e]; done))

@[simp] theorem State.withhold_still (n : Nat) (s : State) (pipe : Nat) :
    (State.withhold n s pipe).still = s.still := by
  unfold State.withhold
  first
  | (simp; done)
  | ((try dsimp only); (repeat' split) <;> first
    | (simp; done)
    | (simp [*]; done)
    | (have e := State.still_fst ‹_ = (_, _)›; simp at e; simp [e]; done)
    | (have e := State.still_snd ‹_ = (_, _)›; simp at e; simp [e]; done))

@[simp] theorem State.sensorRead_still (s : State) (n : Nat) (t : Option (BitVec 16)) :
    (State.sensorRead s n t).still = s.still := by
  unfold State.sensorRead
  first
  | (simp; done)
  | ((try dsimp only); (repeat' split) <;> first
    | (simp; done)
    | (simp [*]; done)
    | (have e := State.still_fst ‹_ = (_, _)›; simp at e; simp [e]; done)
    | (have e := State.still_snd ‹_ = (_, _)›; simp at e; simp [e]; done))

@[simp] theorem State.thermalLimits_still (s : State) (t : Int) :
    (State.thermalLimits s t).still = s.still := by
  unfold State.thermalLimits
  first
  | (simp; done)
  | ((try dsimp only); (repeat' split) <;> first
    | (simp; done)
    | (simp [*]; done)
    | (have e := State.still_fst ‹_ = (_, _)›; simp at e; simp [e]; done)
    | (have e := State.still_snd ‹_ = (_, _)›; simp at e; simp [e]; done))

/-! ## Boot -/

@[simp] theorem State.writeRec_still (s : State) (r : Sys2Proof.Machine.BootRec) :
    (State.writeRec s r).still = s.still := by
  unfold State.writeRec
  first
  | (simp; done)
  | ((try dsimp only); (repeat' split) <;> first
    | (simp; done)
    | (simp [*]; done)
    | (have e := State.still_fst ‹_ = (_, _)›; simp at e; simp [e]; done)
    | (have e := State.still_snd ‹_ = (_, _)›; simp at e; simp [e]; done))

@[simp] theorem State.bootLast_still (s : State) (code : Nat) (cand : Nat) (atStart : Bool) :
    (State.bootLast s code cand atStart).still = s.still := by
  unfold State.bootLast
  first
  | (simp; done)
  | ((try dsimp only); (repeat' split) <;> first
    | (simp; done)
    | (simp [*]; done)
    | (have e := State.still_fst ‹_ = (_, _)›; simp at e; simp [e]; done)
    | (have e := State.still_snd ‹_ = (_, _)›; simp at e; simp [e]; done))

@[simp] theorem State.stageRefuse_still (s : State) (d : Sys2Proof.Machine.Desc) (code : Nat) :
    (State.stageRefuse s d code).still = s.still := by
  unfold State.stageRefuse
  first
  | (simp; done)
  | ((try dsimp only); (repeat' split) <;> first
    | (simp; done)
    | (simp [*]; done)
    | (have e := State.still_fst ‹_ = (_, _)›; simp at e; simp [e]; done)
    | (have e := State.still_snd ‹_ = (_, _)›; simp at e; simp [e]; done))

@[simp] theorem State.stageVerify_still (s : State) (d : Sys2Proof.Machine.Desc) :
    (State.stageVerify s d).still = s.still := by
  unfold State.stageVerify
  first
  | (simp; done)
  | ((try dsimp only); (repeat' split) <;> first
    | (simp; done)
    | (simp [*]; done)
    | (have e := State.still_fst ‹_ = (_, _)›; simp at e; simp [e]; done)
    | (have e := State.still_snd ‹_ = (_, _)›; simp at e; simp [e]; done))

@[simp] theorem State.stageBytes_still (s : State) (d : Sys2Proof.Machine.Desc) (b : Sys2Proof.Bytes) :
    (State.stageBytes s d b).still = s.still := by
  unfold State.stageBytes
  first
  | (simp; done)
  | ((try dsimp only); (repeat' split) <;> first
    | (simp; done)
    | (simp [*]; done)
    | (have e := State.still_fst ‹_ = (_, _)›; simp at e; simp [e]; done)
    | (have e := State.still_snd ‹_ = (_, _)›; simp at e; simp [e]; done))

@[simp] theorem State.tdmStageOp_still (s : State) (r : Sys2Proof.HostRead) (d : Sys2Proof.Machine.Desc) :
    (State.tdmStageOp s r d).still = s.still := by
  unfold State.tdmStageOp
  first
  | (simp; done)
  | ((try dsimp only); (repeat' split) <;> first
    | (simp; done)
    | (simp [*]; done)
    | (have e := State.still_fst ‹_ = (_, _)›; simp at e; simp [e]; done)
    | (have e := State.still_snd ‹_ = (_, _)›; simp at e; simp [e]; done))

@[simp] theorem State.timeTraverse_still (s : State) :
    (State.timeTraverse s).still = s.still := by
  unfold State.timeTraverse
  first
  | (simp; done)
  | ((try dsimp only); (repeat' split) <;> first
    | (simp; done)
    | (simp [*]; done)
    | (have e := State.still_fst ‹_ = (_, _)›; simp at e; simp [e]; done)
    | (have e := State.still_snd ‹_ = (_, _)›; simp at e; simp [e]; done))

@[simp] theorem State.traverseStart_still (s : State) :
    (State.traverseStart s).still = s.still := by
  unfold State.traverseStart
  first
  | (simp; done)
  | ((try dsimp only); (repeat' split) <;> first
    | (simp; done)
    | (simp [*]; done)
    | (have e := State.still_fst ‹_ = (_, _)›; simp at e; simp [e]; done)
    | (have e := State.still_snd ‹_ = (_, _)›; simp at e; simp [e]; done))

@[simp] theorem State.traverseBegin_still (s : State) :
    (State.traverseBegin s).still = s.still := by
  unfold State.traverseBegin
  first
  | (simp; done)
  | ((try dsimp only); (repeat' split) <;> first
    | (simp; done)
    | (simp [*]; done)
    | (have e := State.still_fst ‹_ = (_, _)›; simp at e; simp [e]; done)
    | (have e := State.still_snd ‹_ = (_, _)›; simp at e; simp [e]; done))

@[simp] theorem State.headlessEnd_still (s : State) :
    (State.headlessEnd s).still = s.still := by
  unfold State.headlessEnd
  first
  | (simp; done)
  | ((try dsimp only); (repeat' split) <;> first
    | (simp; done)
    | (simp [*]; done)
    | (have e := State.still_fst ‹_ = (_, _)›; simp at e; simp [e]; done)
    | (have e := State.still_snd ‹_ = (_, _)›; simp at e; simp [e]; done))

@[simp] theorem State.armCommit_still (s : State) :
    (State.armCommit s).still = s.still := by
  unfold State.armCommit
  first
  | (simp; done)
  | ((try dsimp only); (repeat' split) <;> first
    | (simp; done)
    | (simp [*]; done)
    | (have e := State.still_fst ‹_ = (_, _)›; simp at e; simp [e]; done)
    | (have e := State.still_snd ‹_ = (_, _)›; simp at e; simp [e]; done))

@[simp] theorem State.candRefused_still (s : State) (c : Nat) :
    (State.candRefused s c).still = s.still := by
  unfold State.candRefused
  first
  | (simp; done)
  | ((try dsimp only); (repeat' split) <;> first
    | (simp; done)
    | (simp [*]; done)
    | (have e := State.still_fst ‹_ = (_, _)›; simp at e; simp [e]; done)
    | (have e := State.still_snd ‹_ = (_, _)›; simp at e; simp [e]; done))

@[simp] theorem State.candRun_still (s : State) (c : Nat) (fallback : Bool) :
    (State.candRun s c fallback).still = s.still := by
  unfold State.candRun
  first
  | (simp; done)
  | ((try dsimp only); (repeat' split) <;> first
    | (simp; done)
    | (simp [*]; done)
    | (have e := State.still_fst ‹_ = (_, _)›; simp at e; simp [e]; done)
    | (have e := State.still_snd ‹_ = (_, _)›; simp at e; simp [e]; done))

@[simp] theorem State.tryCands_still (l : List Nat) (s : State) (fallback : Bool) :
    (State.tryCands l s fallback).still = s.still := by
  induction l generalizing s fallback with
  | nil => simp [State.tryCands]
  | cons c t ih =>
    unfold State.tryCands
    split
    · simp
    · rw [ih]; simp

@[simp] theorem State.bootTry_still (s : State) :
    (State.bootTry s).still = s.still := by
  unfold State.bootTry
  first
  | (simp; done)
  | ((try dsimp only); (repeat' split) <;> first
    | (simp; done)
    | (simp [*]; done)
    | (have e := State.still_fst ‹_ = (_, _)›; simp at e; simp [e]; done)
    | (have e := State.still_snd ‹_ = (_, _)›; simp at e; simp [e]; done))

@[simp] theorem State.accepted_still (s : State) :
    (State.accepted s).still = s.still := by
  unfold State.accepted
  first
  | (simp; done)
  | ((try dsimp only); (repeat' split) <;> first
    | (simp; done)
    | (simp [*]; done)
    | (have e := State.still_fst ‹_ = (_, _)›; simp at e; simp [e]; done)
    | (have e := State.still_snd ‹_ = (_, _)›; simp at e; simp [e]; done))

@[simp] theorem State.copySaStart_still (s : State) :
    (State.copySaStart s).still = s.still := by
  unfold State.copySaStart
  first
  | (simp; done)
  | ((try dsimp only); (repeat' split) <;> first
    | (simp; done)
    | (simp [*]; done)
    | (have e := State.still_fst ‹_ = (_, _)›; simp at e; simp [e]; done)
    | (have e := State.still_snd ‹_ = (_, _)›; simp at e; simp [e]; done))

@[simp] theorem State.copyStart_still (s : State) :
    (State.copyStart s).still = s.still := by
  unfold State.copyStart
  first
  | (simp; done)
  | ((try dsimp only); (repeat' split) <;> first
    | (simp; done)
    | (simp [*]; done)
    | (have e := State.still_fst ‹_ = (_, _)›; simp at e; simp [e]; done)
    | (have e := State.still_snd ‹_ = (_, _)›; simp at e; simp [e]; done))

@[simp] theorem State.copyStep_still (s : State) (ok : Bool) :
    (State.copyStep s ok).still = s.still := by
  unfold State.copyStep
  first
  | (simp; done)
  | ((try dsimp only); (repeat' split) <;> first
    | (simp; done)
    | (simp [*]; done)
    | (have e := State.still_fst ‹_ = (_, _)›; simp at e; simp [e]; done)
    | (have e := State.still_snd ‹_ = (_, _)›; simp at e; simp [e]; done))

@[simp] theorem State.attest_still (s : State) :
    (State.attest s).still = s.still := by
  unfold State.attest
  first
  | (simp; done)
  | ((try dsimp only); (repeat' split) <;> first
    | (simp; done)
    | (simp [*]; done)
    | (have e := State.still_fst ‹_ = (_, _)›; simp at e; simp [e]; done)
    | (have e := State.still_snd ‹_ = (_, _)›; simp at e; simp [e]; done))

@[simp] theorem State.attestEnd_still (s : State) (dmaOk : Bool) :
    (State.attestEnd s dmaOk).still = s.still := by
  unfold State.attestEnd
  first
  | (simp; done)
  | ((try dsimp only); (repeat' split) <;> first
    | (simp; done)
    | (simp [*]; done)
    | (have e := State.still_fst ‹_ = (_, _)›; simp at e; simp [e]; done)
    | (have e := State.still_snd ‹_ = (_, _)›; simp at e; simp [e]; done))

@[simp] theorem State.fuseCommit_still (s : State) :
    (State.fuseCommit s).still = s.still := by
  unfold State.fuseCommit
  first
  | (simp; done)
  | ((try dsimp only); (repeat' split) <;> first
    | (simp; done)
    | (simp [*]; done)
    | (have e := State.still_fst ‹_ = (_, _)›; simp at e; simp [e]; done)
    | (have e := State.still_snd ‹_ = (_, _)›; simp at e; simp [e]; done))

@[simp] theorem State.fuseBurned_still (s : State) (ok : Bool) :
    (State.fuseBurned s ok).still = s.still := by
  unfold State.fuseBurned
  first
  | (simp; done)
  | ((try dsimp only); (repeat' split) <;> first
    | (simp; done)
    | (simp [*]; done)
    | (have e := State.still_fst ‹_ = (_, _)›; simp at e; simp [e]; done)
    | (have e := State.still_snd ‹_ = (_, _)›; simp at e; simp [e]; done))

@[simp] theorem State.fuseTake_still (s : State) :
    (State.fuseTake s).2.still = s.still := by
  unfold State.fuseTake
  first
  | (simp; done)
  | ((try dsimp only); (repeat' split) <;> first
    | (simp; done)
    | (simp [*]; done)
    | (have e := State.still_fst ‹_ = (_, _)›; simp at e; simp [e]; done)
    | (have e := State.still_snd ‹_ = (_, _)›; simp at e; simp [e]; done))

@[simp] theorem State.unstage_still (s : State) :
    (State.unstage s).still = s.still := by
  unfold State.unstage
  first
  | (simp; done)
  | ((try dsimp only); (repeat' split) <;> first
    | (simp; done)
    | (simp [*]; done)
    | (have e := State.still_fst ‹_ = (_, _)›; simp at e; simp [e]; done)
    | (have e := State.still_snd ‹_ = (_, _)›; simp at e; simp [e]; done))

/-! ## Mirror -/

@[simp] theorem State.mirrorAt_still (s : State) (time : Nat) :
    (State.mirrorAt s time).still = s.still := by
  unfold State.mirrorAt
  first
  | (simp; done)
  | ((try dsimp only); (repeat' split) <;> first
    | (simp; done)
    | (simp [*]; done)
    | (have e := State.still_fst ‹_ = (_, _)›; simp at e; simp [e]; done)
    | (have e := State.still_snd ‹_ = (_, _)›; simp at e; simp [e]; done))

/-! ## Boundaries -/

@[simp] theorem State.pitchDuties_still (s : State) :
    (State.pitchDuties s).still = s.still := by
  unfold State.pitchDuties
  first
  | (simp; done)
  | ((try dsimp only); (repeat' split) <;> first
    | (simp; done)
    | (simp [*]; done)
    | (have e := State.still_fst ‹_ = (_, _)›; simp at e; simp [e]; done)
    | (have e := State.still_snd ‹_ = (_, _)›; simp at e; simp [e]; done))

@[simp] theorem State.drainEpoch_still (s : State) :
    (State.drainEpoch s).still = s.still := by
  unfold State.drainEpoch
  first
  | (simp; done)
  | ((try dsimp only); (repeat' split) <;> first
    | (simp; done)
    | (simp [*]; done)
    | (have e := State.still_fst ‹_ = (_, _)›; simp at e; simp [e]; done)
    | (have e := State.still_snd ‹_ = (_, _)›; simp at e; simp [e]; done))

@[simp] theorem State.epochDuties_still (s : State) :
    (State.epochDuties s).still = s.still := by
  unfold State.epochDuties
  first
  | (simp; done)
  | ((try dsimp only); (repeat' split) <;> first
    | (simp; done)
    | (simp [*]; done)
    | (have e := State.still_fst ‹_ = (_, _)›; simp at e; simp [e]; done)
    | (have e := State.still_snd ‹_ = (_, _)›; simp at e; simp [e]; done))

/-! ## Cairn -/

@[simp] theorem State.crnResult_still (s : State) (slot : Nat) (seq : Nat) (status : Nat) :
    (State.crnResult s slot seq status).still = s.still := by
  unfold State.crnResult
  first
  | (simp; done)
  | ((try dsimp only); (repeat' split) <;> first
    | (simp; done)
    | (simp [*]; done)
    | (have e := State.still_fst ‹_ = (_, _)›; simp at e; simp [e]; done)
    | (have e := State.still_snd ‹_ = (_, _)›; simp at e; simp [e]; done))

@[simp] theorem State.crnLate_still (s : State) (mask : Nat) :
    (State.crnLate s mask).still = s.still := by
  unfold State.crnLate
  first
  | (simp; done)
  | ((try dsimp only); (repeat' split) <;> first
    | (simp; done)
    | (simp [*]; done)
    | (have e := State.still_fst ‹_ = (_, _)›; simp at e; simp [e]; done)
    | (have e := State.still_snd ‹_ = (_, _)›; simp at e; simp [e]; done))

@[simp] theorem State.crnBusyOut_still (s : State) (mask : Nat) :
    (State.crnBusyOut s mask).still = s.still := by
  unfold State.crnBusyOut
  first
  | (simp; done)
  | ((try dsimp only); (repeat' split) <;> first
    | (simp; done)
    | (simp [*]; done)
    | (have e := State.still_fst ‹_ = (_, _)›; simp at e; simp [e]; done)
    | (have e := State.still_snd ‹_ = (_, _)›; simp at e; simp [e]; done))

@[simp] theorem State.crnFull_still (s : State) :
    (State.crnFull s).still = s.still := by
  unfold State.crnFull
  first
  | (simp; done)
  | ((try dsimp only); (repeat' split) <;> first
    | (simp; done)
    | (simp [*]; done)
    | (have e := State.still_fst ‹_ = (_, _)›; simp at e; simp [e]; done)
    | (have e := State.still_snd ‹_ = (_, _)›; simp at e; simp [e]; done))

@[simp] theorem State.postRefused_still (s : State) (status : Nat) (mask : Nat) :
    (State.postRefused s status mask).still = s.still := by
  unfold State.postRefused
  first
  | (simp; done)
  | ((try dsimp only); (repeat' split) <;> first
    | (simp; done)
    | (simp [*]; done)
    | (have e := State.still_fst ‹_ = (_, _)›; simp at e; simp [e]; done)
    | (have e := State.still_snd ‹_ = (_, _)›; simp at e; simp [e]; done))

@[simp] theorem State.cairnCells_still (s : State) (a : Sys2Proof.Machine.Armed) (except : Option Nat) :
    (State.cairnCells s a except).still = s.still := by
  unfold State.cairnCells
  first
  | (simp; done)
  | ((try dsimp only); (repeat' split) <;> first
    | (simp; done)
    | (simp [*]; done)
    | (have e := State.still_fst ‹_ = (_, _)›; simp at e; simp [e]; done)
    | (have e := State.still_snd ‹_ = (_, _)›; simp at e; simp [e]; done))

@[simp] theorem State.seePair_still (s : State) (origin : Nat) (seq : Nat) :
    (State.seePair s origin seq).still = s.still := by
  unfold State.seePair
  first
  | (simp; done)
  | ((try dsimp only); (repeat' split) <;> first
    | (simp; done)
    | (simp [*]; done)
    | (have e := State.still_fst ‹_ = (_, _)›; simp at e; simp [e]; done)
    | (have e := State.still_snd ‹_ = (_, _)›; simp at e; simp [e]; done))

@[simp] theorem State.swapBanks_still (s : State) (p : Nat) (gen : Nat) (target : Nat) :
    (State.swapBanks s p gen target).still = s.still := by
  unfold State.swapBanks
  first
  | (simp; done)
  | ((try dsimp only); (repeat' split) <;> first
    | (simp; done)
    | (simp [*]; done)
    | (have e := State.still_fst ‹_ = (_, _)›; simp at e; simp [e]; done)
    | (have e := State.still_snd ‹_ = (_, _)›; simp at e; simp [e]; done))

@[simp] theorem State.commitBanks_still (s : State) (p : Nat) (target : Nat) :
    (State.commitBanks s p target).still = s.still := by
  unfold State.commitBanks
  first
  | (simp; done)
  | ((try dsimp only); (repeat' split) <;> first
    | (simp; done)
    | (simp [*]; done)
    | (have e := State.still_fst ‹_ = (_, _)›; simp at e; simp [e]; done)
    | (have e := State.still_snd ‹_ = (_, _)›; simp at e; simp [e]; done))

@[simp] theorem State.commitRegs_still (s : State) (p : Nat) :
    (State.commitRegs s p).still = s.still := by
  unfold State.commitRegs
  first
  | (simp; done)
  | ((try dsimp only); (repeat' split) <;> first
    | (simp; done)
    | (simp [*]; done)
    | (have e := State.still_fst ‹_ = (_, _)›; simp at e; simp [e]; done)
    | (have e := State.still_snd ‹_ = (_, _)›; simp at e; simp [e]; done))

@[simp] theorem State.shaperCommit_still (s : State) (e : Nat × Nat) :
    (State.shaperCommit s e).still = s.still := by
  unfold State.shaperCommit
  first
  | (simp; done)
  | ((try dsimp only); (repeat' split) <;> first
    | (simp; done)
    | (simp [*]; done)
    | (have e := State.still_fst ‹_ = (_, _)›; simp at e; simp [e]; done)
    | (have e := State.still_snd ‹_ = (_, _)›; simp at e; simp [e]; done))

@[simp] theorem State.mapsCommit_still (s : State) :
    (State.mapsCommit s).still = s.still := by
  unfold State.mapsCommit
  first
  | (simp; done)
  | ((try dsimp only); (repeat' split) <;> first
    | (simp; done)
    | (simp [*]; done)
    | (have e := State.still_fst ‹_ = (_, _)›; simp at e; simp [e]; done)
    | (have e := State.still_snd ‹_ = (_, _)›; simp at e; simp [e]; done))

@[simp] theorem State.calendarCommit_still (s : State) (p : Nat) :
    (State.calendarCommit s p).still = s.still := by
  unfold State.calendarCommit
  first
  | (simp; done)
  | ((try dsimp only); (repeat' split) <;> first
    | (simp; done)
    | (simp [*]; done)
    | (have e := State.still_fst ‹_ = (_, _)›; simp at e; simp [e]; done)
    | (have e := State.still_snd ‹_ = (_, _)›; simp at e; simp [e]; done))

@[simp] theorem State.afterCommit_still (before s : State) (p : Nat) : (State.afterCommit before s p).still = s.still := by
  unfold State.afterCommit
  (repeat' split) <;> simp

@[simp] theorem State.commitGroup_still (target : Nat) (s : State) (p : Nat) :
    (State.commitGroup target s p).still = s.still := by
  unfold State.commitGroup
  first
  | (simp; done)
  | ((try dsimp only); (repeat' split) <;> first
    | (simp; done)
    | (simp [*]; done)
    | (have e := State.still_fst ‹_ = (_, _)›; simp at e; simp [e]; done)
    | (have e := State.still_snd ‹_ = (_, _)›; simp at e; simp [e]; done))

@[simp] theorem State.commitModes_still (before s : State) (mask : Nat) :
    (State.commitModes before s mask).still = s.still := by
  unfold State.commitModes
  dsimp only
  (repeat' split) <;> simp

@[simp] theorem State.settleStep_still (s : State) (old : Nat) :
    (State.settleStep s old).still = s.still := by
  unfold State.settleStep
  first
  | (simp; done)
  | ((try dsimp only); (repeat' split) <;> first
    | (simp; done)
    | (simp [*]; done)
    | (have e := State.still_fst ‹_ = (_, _)›; simp at e; simp [e]; done)
    | (have e := State.still_snd ‹_ = (_, _)›; simp at e; simp [e]; done))

@[simp] theorem State.applyStep_still (s : State) (target : Nat) :
    (State.applyStep s target).still = s.still := by
  unfold State.applyStep
  first
  | (simp; done)
  | ((try dsimp only); (repeat' split) <;> first
    | (simp; done)
    | (simp [*]; done)
    | (have e := State.still_fst ‹_ = (_, _)›; simp at e; simp [e]; done)
    | (have e := State.still_snd ‹_ = (_, _)›; simp at e; simp [e]; done))

@[simp] theorem State.afterStep_still (s : State) (old : Nat) :
    (State.afterStep s old).still = s.still := by
  unfold State.afterStep
  first
  | (simp; done)
  | ((try dsimp only); (repeat' split) <;> first
    | (simp; done)
    | (simp [*]; done)
    | (have e := State.still_fst ‹_ = (_, _)›; simp at e; simp [e]; done)
    | (have e := State.still_snd ‹_ = (_, _)›; simp at e; simp [e]; done))

@[simp] theorem State.retire_still (s : State) (p : Nat) :
    (State.retire s p).still = s.still := by
  unfold State.retire
  first
  | (simp; done)
  | ((try dsimp only); (repeat' split) <;> first
    | (simp; done)
    | (simp [*]; done)
    | (have e := State.still_fst ‹_ = (_, _)›; simp at e; simp [e]; done)
    | (have e := State.still_snd ‹_ = (_, _)›; simp at e; simp [e]; done))

/-! ## Registers -/

@[simp] theorem State.store_still (s : State) (p : Nat) (f : Sys2Proof.Machine.Fld) (i : Nat) (v : Nat) :
    (State.store s p f i v).still = s.still := by
  unfold State.store
  first
  | (simp; done)
  | ((try dsimp only); (repeat' split) <;> first
    | (simp; done)
    | (simp [*]; done)
    | (have e := State.still_fst ‹_ = (_, _)›; simp at e; simp [e]; done)
    | (have e := State.still_snd ‹_ = (_, _)›; simp at e; simp [e]; done))

@[simp] theorem State.writeFld_still (s : State) (m : Sys2Proof.Master) (p : Nat) (v : Nat) (h : Sys2Proof.Machine.Fld × Nat × Nat) :
    (State.writeFld s m p v h).still = s.still := by
  unfold State.writeFld
  first
  | (simp; done)
  | ((try dsimp only); (repeat' split) <;> first
    | (simp; done)
    | (simp [*]; done)
    | (have e := State.still_fst ‹_ = (_, _)›; simp at e; simp [e]; done)
    | (have e := State.still_snd ‹_ = (_, _)›; simp at e; simp [e]; done))

@[simp] theorem State.writeFields_still (s : State) (m : Sys2Proof.Master) (p : Nat) (off : Nat) (v : Nat) :
    (State.writeFields s m p off v).still = s.still := by
  unfold State.writeFields
  first
  | (simp; done)
  | ((try dsimp only); (repeat' split) <;> first
    | (simp; done)
    | (simp [*]; done)
    | (have e := State.still_fst ‹_ = (_, _)›; simp at e; simp [e]; done)
    | (have e := State.still_snd ‹_ = (_, _)›; simp at e; simp [e]; done))

@[simp] theorem State.blkEnSet_still (s : State) (p : Nat) (en : Bool) :
    (State.blkEnSet s p en).still = s.still := by
  unfold State.blkEnSet
  first
  | (simp; done)
  | ((try dsimp only); (repeat' split) <;> first
    | (simp; done)
    | (simp [*]; done)
    | (have e := State.still_fst ‹_ = (_, _)›; simp at e; simp [e]; done)
    | (have e := State.still_snd ‹_ = (_, _)›; simp at e; simp [e]; done))

@[simp] theorem State.winSwapReq_still (s : State) (v : Nat) :
    (State.winSwapReq s v).still = s.still := by
  unfold State.winSwapReq
  first
  | (simp; done)
  | ((try dsimp only); (repeat' split) <;> first
    | (simp; done)
    | (simp [*]; done)
    | (have e := State.still_fst ‹_ = (_, _)›; simp at e; simp [e]; done)
    | (have e := State.still_snd ‹_ = (_, _)›; simp at e; simp [e]; done))

@[simp] theorem State.writeWin_still (s : State) (m : Sys2Proof.Master) (off : Nat) (v : Nat) :
    (State.writeWin s m off v).still = s.still := by
  unfold State.writeWin
  first
  | (simp; done)
  | ((try dsimp only); (repeat' split) <;> first
    | (simp; done)
    | (simp [*]; done)
    | (have e := State.still_fst ‹_ = (_, _)›; simp at e; simp [e]; done)
    | (have e := State.still_snd ‹_ = (_, _)›; simp at e; simp [e]; done))

@[simp] theorem State.writeTrust_still (s : State) (m : Sys2Proof.Master) (p : Nat) (off : Nat) (v : Nat) :
    (State.writeTrust s m p off v).still = s.still := by
  unfold State.writeTrust
  first
  | (simp; done)
  | ((try dsimp only); (repeat' split) <;> first
    | (simp; done)
    | (simp [*]; done)
    | (have e := State.still_fst ‹_ = (_, _)›; simp at e; simp [e]; done)
    | (have e := State.still_snd ‹_ = (_, _)›; simp at e; simp [e]; done))

@[simp] theorem State.writeMgmt_still (s : State) (m : Sys2Proof.Master) (p : Nat) (off : Nat) (v : Nat) :
    (State.writeMgmt s m p off v).still = s.still := by
  unfold State.writeMgmt
  first
  | (simp; done)
  | ((try dsimp only); (repeat' split) <;> first
    | (simp; done)
    | (simp [*]; done)
    | (have e := State.still_fst ‹_ = (_, _)›; simp at e; simp [e]; done)
    | (have e := State.still_snd ‹_ = (_, _)›; simp at e; simp [e]; done))

@[simp] theorem State.writePmu_still (s : State) (m : Sys2Proof.Master) (off : Nat) (v : Nat) :
    (State.writePmu s m off v).still = s.still := by
  unfold State.writePmu
  first
  | (simp; done)
  | ((try dsimp only); (repeat' split) <;> first
    | (simp; done)
    | (simp [*]; done)
    | (have e := State.still_fst ‹_ = (_, _)›; simp at e; simp [e]; done)
    | (have e := State.still_snd ‹_ = (_, _)›; simp at e; simp [e]; done))

@[simp] theorem State.writePtp_still (s : State) (m : Sys2Proof.Master) (off : Nat) (v : Nat) :
    (State.writePtp s m off v).still = s.still := by
  unfold State.writePtp
  first
  | (simp; done)
  | ((try dsimp only); (repeat' split) <;> first
    | (simp; done)
    | (simp [*]; done)
    | (have e := State.still_fst ‹_ = (_, _)›; simp at e; simp [e]; done)
    | (have e := State.still_snd ‹_ = (_, _)›; simp at e; simp [e]; done))

@[simp] theorem State.writeTables_still (s : State) (m : Sys2Proof.Master) (p : Nat) (off : Nat) (v : Nat) :
    (State.writeTables s m p off v).still = s.still := by
  unfold State.writeTables
  first
  | (simp; done)
  | ((try dsimp only); (repeat' split) <;> first
    | (simp; done)
    | (simp [*]; done)
    | (have e := State.still_fst ‹_ = (_, _)›; simp at e; simp [e]; done)
    | (have e := State.still_snd ‹_ = (_, _)›; simp at e; simp [e]; done))

@[simp] theorem State.writeFabric_still (s : State) (m : Sys2Proof.Master) (p : Nat) (off : Nat) (v : Nat) :
    (State.writeFabric s m p off v).still = s.still := by
  unfold State.writeFabric
  first
  | (simp; done)
  | ((try dsimp only); (repeat' split) <;> first
    | (simp; done)
    | (simp [*]; done)
    | (have e := State.still_fst ‹_ = (_, _)›; simp at e; simp [e]; done)
    | (have e := State.still_snd ‹_ = (_, _)›; simp at e; simp [e]; done))

@[simp] theorem State.readClear_still (s : State) (p : Nat) (off : Nat) :
    (State.readClear s p off).still = s.still := by
  unfold State.readClear
  first
  | (simp; done)
  | ((try dsimp only); (repeat' split) <;> first
    | (simp; done)
    | (simp [*]; done)
    | (have e := State.still_fst ‹_ = (_, _)›; simp at e; simp [e]; done)
    | (have e := State.still_snd ‹_ = (_, _)›; simp at e; simp [e]; done))

@[simp] theorem State.readFields_still (s : State) (m : Sys2Proof.Master) (p : Nat) (off : Nat) :
    (State.readFields s m p off).2.still = s.still := by
  unfold State.readFields
  first
  | (simp; done)
  | ((try dsimp only); (repeat' split) <;> first
    | (simp; done)
    | (simp [*]; done)
    | (have e := State.still_fst ‹_ = (_, _)›; simp at e; simp [e]; done)
    | (have e := State.still_snd ‹_ = (_, _)›; simp at e; simp [e]; done))

@[simp] theorem State.readReg_still (s : State) (m : Sys2Proof.Master) (p : Nat) (off : Nat) :
    (State.readReg s m p off).2.still = s.still := by
  unfold State.readReg
  first
  | (simp; done)
  | ((try dsimp only); (repeat' split) <;> first
    | (simp; done)
    | (simp [*]; done)
    | (have e := State.still_fst ‹_ = (_, _)›; simp at e; simp [e]; done)
    | (have e := State.still_snd ‹_ = (_, _)›; simp at e; simp [e]; done))

/-! ## Windows -/

@[simp] theorem State.mtOnLink_still (s : State) (n : Nat) (subtype : Nat) (payload : Sys2Proof.Bytes) :
    (State.mtOnLink s n subtype payload).still = s.still := by
  unfold State.mtOnLink
  first
  | (simp; done)
  | ((try dsimp only); (repeat' split) <;> first
    | (simp; done)
    | (simp [*]; done)
    | (have e := State.still_fst ‹_ = (_, _)›; simp at e; simp [e]; done)
    | (have e := State.still_snd ‹_ = (_, _)›; simp at e; simp [e]; done))

@[simp] theorem State.mtAnswer_still (s : State) (n : Nat) (c : Sys2Proof.MtCell) (subtype : Nat) (reason : Nat) (data : Sys2Proof.Bytes) :
    (State.mtAnswer s n c subtype reason data).still = s.still := by
  unfold State.mtAnswer
  first
  | (simp; done)
  | ((try dsimp only); (repeat' split) <;> first
    | (simp; done)
    | (simp [*]; done)
    | (have e := State.still_fst ‹_ = (_, _)›; simp at e; simp [e]; done)
    | (have e := State.still_snd ‹_ = (_, _)›; simp at e; simp [e]; done))

@[simp] theorem State.mtNack_still (s : State) (n : Nat) (c : Sys2Proof.MtCell) (reason : Nat) :
    (State.mtNack s n c reason).still = s.still := by
  unfold State.mtNack
  first
  | (simp; done)
  | ((try dsimp only); (repeat' split) <;> first
    | (simp; done)
    | (simp [*]; done)
    | (have e := State.still_fst ‹_ = (_, _)›; simp at e; simp [e]; done)
    | (have e := State.still_snd ‹_ = (_, _)›; simp at e; simp [e]; done))

@[simp] theorem State.hostUr_still (s : State) :
    (State.hostUr s).still = s.still := by
  unfold State.hostUr
  first
  | (simp; done)
  | ((try dsimp only); (repeat' split) <;> first
    | (simp; done)
    | (simp [*]; done)
    | (have e := State.still_fst ‹_ = (_, _)›; simp at e; simp [e]; done)
    | (have e := State.still_snd ‹_ = (_, _)›; simp at e; simp [e]; done))

@[simp] theorem State.winRemote_still (s : State) (x : Sys2Proof.Machine.WinTxn) :
    (State.winRemote s x).still = s.still := by
  unfold State.winRemote
  first
  | (simp; done)
  | ((try dsimp only); (repeat' split) <;> first
    | (simp; done)
    | (simp [*]; done)
    | (have e := State.still_fst ‹_ = (_, _)›; simp at e; simp [e]; done)
    | (have e := State.still_snd ‹_ = (_, _)›; simp at e; simp [e]; done))

@[simp] theorem State.peerRead_still (s : State) (pg : Nat) (off : Nat) :
    (State.peerRead s pg off).1.still = s.still := by
  unfold State.peerRead
  first
  | (simp; done)
  | ((try dsimp only); (repeat' split) <;> first
    | (simp; done)
    | (simp [*]; done)
    | (have e := State.still_fst ‹_ = (_, _)›; simp at e; simp [e]; done)
    | (have e := State.still_snd ‹_ = (_, _)›; simp at e; simp [e]; done))

@[simp] theorem State.mtForget_still (s : State) (x : Sys2Proof.Machine.WinTxn) :
    (State.mtForget s x).still = s.still := by
  unfold State.mtForget
  first
  | (simp; done)
  | ((try dsimp only); (repeat' split) <;> first
    | (simp; done)
    | (simp [*]; done)
    | (have e := State.still_fst ‹_ = (_, _)›; simp at e; simp [e]; done)
    | (have e := State.still_snd ‹_ = (_, _)›; simp at e; simp [e]; done))

@[simp] theorem State.mtFail_still (s : State) (x : Sys2Proof.Machine.WinTxn) :
    (State.mtFail s x).still = s.still := by
  unfold State.mtFail
  first
  | (simp; done)
  | ((try dsimp only); (repeat' split) <;> first
    | (simp; done)
    | (simp [*]; done)
    | (have e := State.still_fst ‹_ = (_, _)›; simp at e; simp [e]; done)
    | (have e := State.still_snd ‹_ = (_, _)›; simp at e; simp [e]; done))

@[simp] theorem State.mtResponse_still (s : State) (c : Sys2Proof.MtCell) :
    (State.mtResponse s c).still = s.still := by
  unfold State.mtResponse
  first
  | (simp; done)
  | ((try dsimp only); (repeat' split) <;> first
    | (simp; done)
    | (simp [*]; done)
    | (have e := State.still_fst ‹_ = (_, _)›; simp at e; simp [e]; done)
    | (have e := State.still_snd ‹_ = (_, _)›; simp at e; simp [e]; done))

@[simp] theorem State.winTake_still (s : State) (n : Nat) :
    (State.winTake s n).still = s.still := by
  unfold State.winTake
  first
  | (simp; done)
  | ((try dsimp only); (repeat' split) <;> first
    | (simp; done)
    | (simp [*]; done)
    | (have e := State.still_fst ‹_ = (_, _)›; simp at e; simp [e]; done)
    | (have e := State.still_snd ‹_ = (_, _)›; simp at e; simp [e]; done))



@[simp] theorem State.winHoldFail_still (s : State) (n : Nat) :
    (State.winHoldFail s n).still = s.still := by
  unfold State.winHoldFail
  first
  | (simp; done)
  | ((try dsimp only); (repeat' split) <;> first
    | (simp; done)
    | (simp [*]; done)
    | (have e := State.still_fst ‹_ = (_, _)›; simp at e; simp [e]; done)
    | (have e := State.still_snd ‹_ = (_, _)›; simp at e; simp [e]; done))

/-! ## Tap -/

/-! ## Dispatch -/

/-! ## Step -/

end Sys2Proof.Machine
end

