-- ==== Sys2Proof/Laws/Kept.lean ====
section
/-! SUPPORT. What every command keeps: the operations that do change the cairn lists, the TAP, the HBM bytes of windows or
the die-to-die channels keep the invariant's parts, and no command touches the queue. -/
namespace Sys2Proof.Machine

variable {s t : State}

/-- An operation that leaves what `State.still` names keeps every part. -/
theorem State.Kept.still (h : s.Kept t) {u : State} (g : u.still = t.still) : s.Kept u := h.trans (State.Kept.of_still g)

theorem State.Kept.ite {c : Prop} [Decidable c] {a b : State} (ha : c → s.Kept a) (hb : ¬c → s.Kept b) :
    s.Kept (if c then a else b) := by
  by_cases h : c
  · rw [if_pos h]; exact ha h
  · rw [if_neg h]; exact hb h

theorem State.pins_still (s : State) (x : Pins) : ({ s with pins := x } : State).still = s.still := rfl

/-! ## Cairns -/

theorem State.crnLog_kept (s : State) (e : CrnLog) : s.Kept (s.crnLog e) := by
  refine ⟨rfl, id, id, id, id, fun _ => ?_, id⟩
  simp only [State.crnLog, List.length_take]
  omega

theorem State.logStatus_kept (s : State) (a : Armed) (n : Nat) : s.Kept (s.logStatus a n) := by
  refine ⟨rfl, id, id, id, id, fun h => ?_, id⟩
  simpa [State.logStatus] using h

theorem State.disarm_kept (s : State) (a : Armed) : s.Kept (s.disarm a) := by
  refine ⟨rfl, id, id, fun h => ?_, fun h => ?_, id, id⟩
  · exact Nat.le_trans (List.length_filter_le _ _) h
  · exact List.Pairwise.filter _ h

theorem State.setArmed_kept (s : State) (a b : Armed) (h : b.mask = a.mask) : s.Kept (s.setArmed a b) := by
  refine ⟨rfl, id, id, fun g => ?_, fun g => ?_, id, id⟩
  · simpa [State.setArmed] using g
  · unfold armedApart at g ⊢
    simp only [State.setArmed, List.pairwise_map]
    have m : ∀ x : Armed, (if x = a then b else x).mask = x.mask := by
      intro x
      split
      · rename_i e
        rw [h, e]
      · rfl
    simpa [m] using g

/-- A cairn that is not BUSY and finds room is armed beside the others (R66). -/
theorem State.arm_kept (s : State) (a : Armed) (h1 : s.cairn.armed.length < 32) (h2 : s.crnBusy a.mask = false) :
    s.Kept (s.arm a) := by
  refine ⟨rfl, id, id, fun _ => ?_, fun g => ?_, id, id⟩
  · simp only [State.arm, List.length_append, List.length_singleton]
    omega
  · simp only [State.arm, armedApart, List.pairwise_append, List.pairwise_singleton, List.mem_singleton, true_and]
    refine ⟨g, ?_⟩
    rintro b hb c rfl p hp hm
    simp only [State.crnBusy, List.any_eq_false, Bool.or_eq_true, not_or] at h2
    cases hc : maskHas c.mask p with
    | false => rfl
    | true =>
      exfalso
      refine (h2 p (List.mem_filter.2 ⟨hp, hc⟩)).2 ?_
      rw [State.armedFor, List.find?_isSome]
      exact ⟨b, hb, hm⟩

theorem State.armOwn_kept (s : State) (a : Armed) (h1 : s.cairn.armed.length < 32) (h2 : s.crnBusy a.mask = false) :
    s.Kept (s.armOwn a) := by
  unfold State.armOwn
  split
  · exact ((State.arm_kept s a h1 h2).still (State.seePair_still _ _ _)).still (State.cairnCells_still _ _ _)
  · exact State.arm_kept s a h1 h2

theorem State.postStatus_zero {slot target mask : Nat} {scope : Bool} (h : s.postStatus slot target mask scope = 0) :
    s.cairn.armed.length < 32 ∧ s.crnBusy mask = false := by
  unfold State.postStatus at h
  (repeat' split at h) <;> simp_all

theorem State.remoteStatus_zero {c : CairnCell} (h : s.remoteStatus c = 0) :
    s.cairn.armed.length < 32 ∧ s.crnBusy c.mask = false := by
  unfold State.remoteStatus at h
  (repeat' split at h) <;> simp_all

theorem State.post_kept (s : State) (slot : Nat) : s.Kept (s.post slot) := by
  unfold State.post
  dsimp only
  refine State.Kept.still (State.Kept.trans (State.Kept.still ?_ (State.wr_still _ _ _)) (State.crnLog_kept _ _))
    (State.crnResult_still _ _ _ _)
  split
  · rename_i h
    exact State.armOwn_kept s _ (State.postStatus_zero h).1 (State.postStatus_zero h).2
  · exact State.Kept.of_still (State.postRefused_still _ _ _)

theorem State.cancel_kept (s : State) (slot seq : Nat) : s.Kept (s.cancel slot seq) := by
  unfold State.cancel
  dsimp only
  refine State.Kept.still (State.Kept.trans ?_ (State.crnLog_kept _ _)) (State.crnResult_still _ _ _ _)
  split
  · exact State.Kept.ite (fun _ => (State.logStatus_kept s _ _).trans (State.disarm_kept _ _)) (fun _ => State.Kept.refl s)
  · exact State.Kept.refl s

theorem State.crnGo_kept (s : State) (m : Master) (slot v : Nat) : s.Kept (s.crnGo m slot v) := by
  unfold State.crnGo
  split
  · exact State.Kept.of_still (State.trb_still _ _ _)
  · split
    · exact State.post_kept s slot
    · split
      · exact State.cancel_kept s slot _
      · exact State.Kept.refl s

theorem State.cairnIn_kept (s : State) (link : Nat) (c : CairnCell) : s.Kept (s.cairnIn link c) := by
  unfold State.cairnIn
  dsimp only
  split
  · exact State.Kept.refl s
  · split
    · exact State.Kept.of_still (by simp)
    · refine State.Kept.still (State.Kept.trans ?_ (State.crnLog_kept _ _)) (State.cairnCells_still _ _ _)
      split
      · rename_i h
        exact (State.Kept.of_still (State.seePair_still s _ _)).trans
          (State.arm_kept _ _ (State.remoteStatus_zero h).1 (State.remoteStatus_zero h).2)
      · exact State.Kept.of_still (by simp)

theorem State.crnRepeat_kept (s : State) (seq : Nat) : s.Kept (s.crnRepeat seq) := by
  unfold State.crnRepeat
  split
  · exact State.Kept.refl s
  · rename_i a _
    refine State.Kept.ite (fun _ => State.Kept.refl s) (fun _ => State.Kept.ite (fun _ => ?_) (fun _ => ?_))
    · exact State.setArmed_kept s _ _ rfl
    · refine State.Kept.still ?_ (State.cairnCells_still _ _ _)
      exact State.setArmed_kept s _ _ rfl

theorem State.commitOne_kept (s : State) (a : Armed) : s.Kept (s.commitOne a) := by
  unfold State.commitOne
  dsimp only
  refine State.Kept.still (State.Kept.trans (State.Kept.still (State.disarm_kept s a) ?_) (State.logStatus_kept _ _ _))
    (State.evt_still _ _ _)
  have e : ∀ (c : Prop) [Decidable c] (t : State) (x : SecSt), (if c then { t with sec := x } else t).still = t.still := by
    intro c _ t x
    split <;> rfl
  rw [e, State.still_if]
  simp

theorem State.commitDue_kept (n : Nat) (s : State) : s.Kept (State.commitDue n s) := by
  induction n generalizing s with
  | zero => exact State.Kept.refl s
  | succ k ih =>
    unfold State.commitDue
    split
    · exact (State.commitOne_kept s _).trans (ih _)
    · exact State.Kept.refl s

theorem State.commitAll_kept (s : State) : s.Kept s.commitAll :=
  (State.commitDue_kept _ s).still (State.afterStep_still _ _)

/-! ## Resets and power -/

theorem armedApart_nil : armedApart [] := List.Pairwise.nil

theorem State.discardCairns_kept (s : State) : s.Kept s.discardCairns := by
  refine State.Kept.still ?_ (State.trbN_still _ _ _ _)
  refine ⟨rfl, id, id, fun _ => Nat.zero_le _, fun _ => armedApart_nil, fun _ => ?_, id⟩
  simp only [List.length_take]
  omega

theorem State.clearCommitted_kept (s : State) (p : Nat) : s.Kept (s.clearCommitted p) := by
  unfold State.clearCommitted
  refine State.Kept.ite (fun _ => State.discardCairns_kept s) (fun _ => ?_)
  repeat' refine State.Kept.ite (fun _ => ?_) (fun _ => ?_)
  all_goals first
    | exact State.Kept.of_still rfl
    | exact State.Kept.of_still (State.emptyFrag_still s)
    | exact State.Kept.of_still (State.discardBuffers_still s)
    | exact State.Kept.of_still (State.clearCredits_still s)

theorem State.clearPage_kept (s : State) (p : Nat) : s.Kept (s.clearPage p) :=
  (State.Kept.of_still (by simp)).trans (State.clearCommitted_kept _ _)

theorem State.warmBegin_kept (s : State) (src : Nat) : s.Kept (s.warmBegin src) := by
  unfold State.warmBegin
  split
  · exact State.Kept.refl s
  · exact State.Kept.still (t := State.clearCommitted ((List.range 4).foldl (fun t c => t.wri Reg.MGT_CORE_c_STAT_STATE c 0)
      s.belayRelease) 0x39) ((State.Kept.of_still (by simp)).trans (State.clearCommitted_kept _ _)) (by simp)

theorem State.afterClear_still (s : State) (p : PathSt) (r : RstSt) (b : BootSt) (w : PwrSt) :
    ({ s with path := p, rst := r, boot := b, pwr := w } : State).still = s.still := rfl

theorem State.warmEnd_kept (s : State) : s.Kept s.warmEnd := by
  unfold State.warmEnd
  refine State.Kept.still (t := (allPages.foldl (fun t p => t.clearPage p) s).timeWarm)
    ((State.Kept.foldl State.clearPage_kept _ s).still (State.timeWarm_still _)) ?_
  dsimp only
  rw [State.evt_still, State.pairSettle_still]
  exact State.afterClear_still _ _ _ _ _

theorem State.flrEnd_kept (s : State) : s.Kept s.flrEnd := by
  unfold State.flrEnd
  exact State.Kept.still (t := hostPages.foldl (fun t p => t.clearPage p) s)
    (State.Kept.foldl State.clearPage_kept _ s) (by simp)

theorem State.blockBegin_kept (s : State) (p : Nat) : s.Kept (s.blockBegin p) := by
  unfold State.blockBegin
  split
  · exact State.Kept.of_still (by simp)
  · split
    · exact State.Kept.refl s
    · refine (State.clearPage_kept s p).still ?_
      dsimp only
      split <;> simp

theorem State.hbmLoss_kept (s : State) (n : Nat) : s.Kept (s.hbmLoss n) :=
  ⟨rfl, fun h => SMap.wf_filter h, id, id, id, id, id⟩

theorem State.domainLoss_kept (s : State) (d : Nat) : s.Kept (s.domainLoss d) := by
  unfold State.domainLoss
  have h : s.Kept ((allPages.filter (fun p => pageDomain p == d)).foldl (fun t p => (t.clearRegs false [.v] p).clearVolatile p) s) :=
    State.Kept.of_still (by simp)
  refine State.Kept.ite (fun _ => h.still (by simp)) (fun _ => State.Kept.ite (fun _ => h.still (by simp)) (fun _ =>
    State.Kept.ite (fun _ => h.still (by simp)) (fun _ => State.Kept.ite (fun _ => h.still (by simp)) (fun _ =>
      State.Kept.ite (fun _ => ?_) (fun _ => State.Kept.ite (fun _ => h.still (by simp)) (fun _ => h))))))
  exact State.Kept.still (h.trans (State.hbmLoss_kept _ _)) (State.hbmTablesLost_still _)

theorem State.domainOff_kept (s : State) (d : Nat) : s.Kept (s.domainOff d) := by
  unfold State.domainOff
  dsimp only
  refine State.Kept.still ?_ ((State.seqEnd_still _).trans (State.linksSettle_still _))
  refine State.Kept.still (t := ?x) ?_ ?_
  rotate_left 2
  · rw [State.still_mk, State.still_eta]
  have h0 : s.Kept { s with pwr := { s.pwr with seqOff := s.pwr.seqOff.filter (fun x => x != d) } } :=
    State.Kept.of_still rfl
  have h1 := State.Kept.ite (c := s.mode = 0) (fun _ => h0) (fun _ => (h0.still (u := (((((domainPorts d).foldl State.portDown
    { s with pwr := { s.pwr with seqOff := s.pwr.seqOff.filter (fun x => x != d) } })).trbN 0x01 6 (((domainPorts d).foldl
      State.portDown { s with pwr := { s.pwr with seqOff := s.pwr.seqOff.filter (fun x => x != d) } }).packetsIn d)).packetsGone d)) (by simp)).trans
        (State.domainLoss_kept _ d))
  exact State.Kept.ite (fun _ => h1.still (State.setStackState_still _ _ _)) (fun _ => h1)

theorem State.standbyLoss_kept (s : State) : s.Kept s.standbyLoss := by
  unfold State.standbyLoss
  exact ⟨rfl, fun _ => rfl, id, fun _ => Nat.zero_le _, fun _ => armedApart_nil, fun _ => Nat.zero_le _,
    fun _ c h => absurd h (List.not_mem_nil)⟩

theorem State.enterStandby_kept (s : State) (cause : Nat) : s.Kept (s.enterStandby cause) := by
  unfold State.enterStandby
  refine State.Kept.ite (fun _ => State.Kept.refl s) (fun _ => ?_)
  exact State.Kept.still (t := ((allPages.filter (fun p => p != 3)).foldl (fun t p => t.clearRegs false [.s, .v, .w] p)
    s.belayRelease).standbyLoss) ((State.Kept.of_still (by simp)).trans (State.standbyLoss_kept _)) (by simp)

theorem State.goto_kept (s : State) (n : Nat) : s.Kept (s.goto n) := by
  unfold State.goto
  split
  · exact State.Kept.refl s
  · split
    · split
      · exact State.Kept.of_still (by simp)
      · exact State.enterStandby_kept s 1
    · refine State.Kept.of_still ?_
      (repeat' split) <;> simp

theorem State.thermalTrip_kept (s : State) (l : List (Nat × Int)) : s.Kept (s.thermalTrip l) := by
  unfold State.thermalTrip
  split
  · split
    · exact State.Kept.refl s
    · exact (State.Kept.of_still (by simp)).trans (State.enterStandby_kept _ 3)
  · refine State.Kept.of_still ?_
    split <;> simp

theorem State.coldStart_kept (s : State) (straps : Byte) (seat present : Bool) :
    s.Kept (s.coldStart straps seat present) := by
  have h : (s.coldStart straps seat present).still = (s.pending, State.reset.tap, [], [], [], State.reset.d2d) := by
    unfold State.coldStart
    rw [State.seedFrag_still, State.emptyExm_still]
    rfl
  simp only [State.still, Prod.mk.injEq] at h
  obtain ⟨h1, h2, h3, h4, h5, h6⟩ := h
  refine ⟨h1, fun _ => by rw [h3]; rfl, fun _ => by rw [h2]; decide, fun _ => by rw [h4]; decide,
    fun _ => by rw [h4]; exact armedApart_nil, fun _ => by rw [h5]; decide, fun _ => by rw [h6]; decide⟩

/-! ## Register writes -/

theorem State.onWrite_kept {m : Master} {p off : Nat} {k : State → State} (h : ∀ t : State, t.Kept (k t)) :
    s.Kept (s.onWrite m p off k) := by
  unfold State.onWrite
  split
  · exact State.Kept.of_still (by simp)
  · exact State.Kept.of_still (by simp)
  · exact State.Kept.of_still (by simp)
  · exact (State.Kept.of_still (by simp)).trans (h _)

theorem State.pgCtrl_kept (s : State) (p v : Nat) : s.Kept (s.pgCtrl p v) := by
  unfold State.pgCtrl
  dsimp only
  split
  · exact (State.Kept.of_still (by simp)).trans (State.blockBegin_kept _ p)
  · exact State.Kept.of_still (by simp)

theorem State.writeHdr_kept (s : State) (m : Master) (p off v : Nat) : s.Kept (s.writeHdr m p off v) := by
  unfold State.writeHdr
  split
  · exact State.pgCtrl_kept s p v
  · refine State.Kept.of_still ?_
    (repeat' split) <;> simp

theorem State.writeSystem_kept (s : State) (m : Master) (p off v : Nat) : s.Kept (s.writeSystem m p off v) := by
  unfold State.writeSystem
  split
  · dsimp only
    split
    · exact (State.goto_kept s _).trans (State.warmBegin_kept _ 2)
    · exact State.goto_kept s _
  · refine State.Kept.of_still ?_
    (repeat' split) <;> simp

theorem State.writeCrn_kept (s : State) (m : Master) (off v : Nat) : s.Kept (s.writeCrn m off v) := by
  unfold State.writeCrn
  split
  · dsimp only
    split
    · exact State.Kept.of_still (by simp)
    · split
      · exact State.crnGo_kept s m _ v
      · exact State.Kept.of_still (by simp)
  · refine State.Kept.of_still ?_
    (repeat' split) <;> simp

theorem State.writeClocks_kept (s : State) (m : Master) (p off v : Nat) : s.Kept (s.writeClocks m p off v) := by
  by_cases h : p = 0x16
  · subst h
    exact State.writeCrn_kept s m off v
  · refine State.Kept.of_still ?_
    unfold State.writeClocks
    (repeat' split) <;> first | (simp; done) | exact absurd ‹p = 0x16› h

theorem State.writeReg_kept (s : State) (m : Master) (p off v : Nat) : s.Kept (s.writeReg m p off v) := by
  unfold State.writeReg
  split
  · exact State.writeHdr_kept s m p off v
  · split
    · exact State.writeSystem_kept s m p off v
    · split
      · exact State.writeClocks_kept s m p off v
      · refine State.Kept.of_still ?_
        (repeat' split) <;> simp

theorem State.writeDword_kept (s : State) (m : Master) (p off v : Nat) : s.Kept (s.writeDword m p off v) :=
  State.onWrite_kept (fun t => State.writeReg_kept t m p off v)

theorem State.readDword_still (s : State) (m : Master) (p off : Nat) : (s.readDword m p off).still = s.still := by
  unfold State.readDword
  split
  · simp
  · exact State.onRead_still s m p off _ (fun t => State.readReg_still t m p off)

/-! ## Windows -/

theorem State.memPut_kept (s : State) (a : Nat) (v : Byte) :
    s.Kept { s with hbm := { s.hbm with mem := SMap.set s.hbm.mem 0 a v } } :=
  ⟨rfl, fun h => SMap.wf_set h, id, id, id, id, id⟩

theorem State.ctrPut_kept (s : State) (x : SMap (Nat × Nat)) : s.Kept { s with tab := { s.tab with ctr := x } } :=
  State.Kept.of_still rfl

theorem State.hbmPut_kept (s : State) (a : Nat) (v : Byte) : s.Kept (s.hbmPut a v) := by
  unfold State.hbmPut
  refine State.Kept.ite (fun _ => State.Kept.refl s) (fun _ => ?_)
  generalize s.slotAt a = x
  generalize s.bufferAt a = y
  cases x with
  | some x => exact State.Kept.of_still (State.setSlot_still _ _ _ _ _)
  | none =>
    cases y with
    | some y => exact State.Kept.of_still (State.setBuffer_still _ _)
    | none =>
      exact State.Kept.ite (fun _ => State.ctrPut_kept s _) (fun _ => State.memPut_kept s a v)

theorem State.hbmWrite_kept (s : State) (a : Nat) (b : Bytes) : s.Kept (s.hbmWrite a b) :=
  State.Kept.still (State.Kept.foldl (fun t i => State.hbmPut_kept t (a + i) (b.getD i 0)) _ s) (State.drqAccess_still _ _ _ _ _)

theorem State.winRegs_kept (s : State) (x : WinTxn) : s.Kept (s.winRegs x) := by
  unfold State.winRegs
  refine State.Kept.ite (fun _ => State.Kept.of_still (State.hostUr_still _)) (fun _ => ?_)
  split
  · exact State.writeDword_kept s _ _ _ _
  · exact State.Kept.of_still (State.readDword_still s _ _ _)

theorem State.winHbm_kept (s : State) (x : WinTxn) : s.Kept (s.winHbm x) := by
  unfold State.winHbm
  refine State.Kept.ite (fun _ => State.Kept.of_still (State.hostUr_still _)) (fun _ => ?_)
  split
  · exact State.hbmWrite_kept s _ _
  · exact State.Kept.of_still ((State.emit_still _ _).trans (State.drqAccess_still _ _ _ _ _))

theorem State.winServe_kept (s : State) (x : WinTxn) : s.Kept (s.winServe x) := by
  unfold State.winServe
  refine State.Kept.ite (fun _ => State.Kept.of_still (by simp)) (fun _ => State.Kept.ite (fun _ => ?_) (fun _ =>
    State.Kept.ite (fun _ => State.winRegs_kept s x) (fun _ => State.Kept.ite (fun _ => State.winHbm_kept s x) (fun _ => ?_))))
  · exact State.Kept.ite (fun _ => State.Kept.refl s) (fun _ => State.Kept.of_still (State.emit_still _ _))
  · exact State.Kept.of_still (State.winRemote_still _ _)

theorem State.peerWrite_kept (s : State) (p off v : Nat) : s.Kept (s.peerWrite p off v).1 := by
  unfold State.peerWrite
  split
  · exact State.Kept.of_still (by simp)
  · exact State.Kept.of_still (by simp)
  · exact State.Kept.of_still (by simp)
  · exact (State.Kept.of_still (by simp)).trans (State.writeReg_kept _ _ _ _ _)

theorem State.mtRegs_kept (s : State) (n : Nat) (c : MtCell) : s.Kept (s.mtRegs n c) := by
  unfold State.mtRegs
  refine State.Kept.ite (fun _ => State.Kept.of_still (State.mtNack_still _ _ _ _)) (fun _ => ?_)
  generalize (s.rdi Reg.WIN_n_ACT_BASE c.window + c.offset) / 4096 = p
  generalize (s.rdi Reg.WIN_n_ACT_BASE c.window + c.offset) % 4096 = off
  have h : s.Kept (if c.subtype = 9 then s.peerWrite p off (leAt c.data 0 4) else s.peerRead p off).1 := by
    split
    · exact State.peerWrite_kept s _ _ _
    · exact State.Kept.of_still (State.peerRead_still _ _ _)
  revert h
  generalize (if c.subtype = 9 then s.peerWrite p off (leAt c.data 0 4) else s.peerRead p off) = r
  obtain ⟨t, v⟩ := r
  intro h
  cases v with
  | none => exact h.still (State.mtNack_still _ _ _ _)
  | some v =>
    exact State.Kept.ite (fun _ => h.still (State.mtAnswer_still _ _ _ _ _ _)) (fun _ => h.still (State.mtAnswer_still _ _ _ _ _ _))

theorem State.mtHbm_kept (s : State) (n : Nat) (c : MtCell) : s.Kept (s.mtHbm n c) := by
  unfold State.mtHbm
  refine State.Kept.ite (fun _ => State.Kept.of_still (by simp)) (fun _ => State.Kept.ite (fun _ => ?_) (fun _ => ?_))
  · exact State.Kept.still (State.hbmWrite_kept s _ _) (State.mtAnswer_still _ _ _ _ _ _)
  · exact State.Kept.of_still ((State.mtAnswer_still _ _ _ _ _ _).trans (State.drqAccess_still _ _ _ _ _))

theorem State.mtServe_kept (s : State) (n : Nat) (c : MtCell) : s.Kept (s.mtServe n c) := by
  unfold State.mtServe
  split
  · exact State.Kept.of_still (by simp)
  · split
    · exact State.Kept.of_still (by simp)
    · split
      · exact State.mtRegs_kept s n c
      · split
        · exact State.mtHbm_kept s n c
        · exact State.Kept.of_still (by simp)

theorem State.mtRequest_kept (s : State) (n : Nat) (c : MtCell) : s.Kept (s.mtRequest n c) := by
  unfold State.mtRequest
  split
  · exact State.Kept.of_still (by simp)
  · exact State.mtServe_kept s n c

theorem State.heldGo_kept (s : State) (x : WinTxn) : s.Kept (s.heldGo x) := by
  unfold State.heldGo
  split
  · exact State.mtServe_kept s _ _
  · exact State.winServe_kept s x

theorem State.winSwapDone_kept (s : State) (n : Nat) : s.Kept (s.winSwapDone n) := by
  unfold State.winSwapDone
  refine State.Kept.ite (fun _ => ?_) (fun _ => State.Kept.refl s)
  refine State.Kept.trans ?_ (State.Kept.foldl State.heldGo_kept _ _)
  exact State.Kept.of_still ((State.still_mk _ _ _ _ _ _ _ _ _ _ _ _ _ _ _ _ _ _ _ _ _ _ _ _ _ _ _ _ _ _ _ _ _).trans (State.winTake_still s n))

theorem State.mgmtIn_kept (s : State) (n : Nat) (b : Bytes) : s.Kept (s.mgmtIn n b) := by
  unfold State.mgmtIn
  exact State.Kept.ite (fun _ => State.mtRequest_kept s n _) (fun _ => State.Kept.of_still (State.mtResponse_still _ _))

/-! ## Cells -/

theorem State.controlIn_kept (s : State) (n : Nat) (b : Bytes) : s.Kept (s.controlIn State.mgmtIn n b) := by
  unfold State.controlIn
  dsimp only
  split
  · exact State.Kept.of_still (by simp)
  · split
    · exact State.Kept.of_still (by simp)
    · split
      · exact State.mgmtIn_kept s n b
      · exact State.Kept.of_still (by simp)

theorem State.fabricIn_kept (s : State) (bad : List BadCell) (n : Nat) (b : Bytes) :
    s.Kept (s.fabricIn bad State.mgmtIn n b) := by
  unfold State.fabricIn
  have h : s.Kept (s.setLink n { s.link n with received := bump (s.link n).received (min 2 (cHops b)) }) :=
    State.Kept.of_still (State.setLink_still _ _ _)
  refine State.Kept.ite (fun _ => h.still (State.multicastIn_still _ _ _ _)) (fun _ => State.Kept.ite (fun _ => ?_) (fun _ =>
    State.Kept.ite (fun _ => ?_) (fun _ => h.still (State.transit_still _ _ _ _))))
  · exact State.Kept.still (h.trans (State.mgmtIn_kept _ n b)) (State.freeSlot_still _ _ _)
  · refine State.Kept.still ?_ (State.freeSlot_still _ _ _)
    have g := h.still (State.stat_still _ 0x71 Reg.FRT_DELIVER 0 1)
    exact State.Kept.ite (fun _ => g.still (State.unicastIn_still _ _)) (fun _ => g.trans (State.controlIn_kept _ n b))

theorem State.linkControlIn_kept (s : State) (n : Nat) (b : Bytes) : s.Kept (s.linkControlIn State.cairnIn n b) := by
  unfold State.linkControlIn
  dsimp only
  split
  · exact State.Kept.of_still (by simp)
  · split
    · exact State.Kept.of_still (by simp)
    · split
      · exact State.Kept.refl s
      · split
        · exact State.Kept.of_still (by simp)
        · split
          · exact State.Kept.of_still (by simp)
          · exact State.cairnIn_kept s n _

theorem State.cellIn_kept (s : State) (bad : List BadCell) (n : Nat) (b : Bytes) :
    s.Kept (s.cellIn bad State.mgmtIn State.cairnIn n b) := by
  unfold State.cellIn
  split
  · exact State.Kept.refl s
  · split
    · exact State.Kept.of_still (by simp)
    · dsimp only
      split
      · exact (State.Kept.of_still (by simp)).trans (State.linkControlIn_kept _ n b)
      · split
        · exact (State.Kept.of_still (by simp)).trans (State.fabricIn_kept _ bad n b)
        · split
          · exact (State.Kept.of_still (by simp)).trans (State.mgmtIn_kept _ n b)
          · exact State.Kept.of_still (by simp)

/-! ## The TAP -/

theorem tapNext_lt (st : Nat) (tms : Bool) : tapNext st tms < 16 := by
  have h : ∀ (l : List Nat) (d : Nat), d < 16 → (∀ x ∈ l, x < 16) → l.getD st d < 16 := by
    intro l d hd hl
    rw [List.getD_eq_getElem?_getD]
    cases g : l[st]? with
    | none => exact hd
    | some x => exact hl x (List.mem_of_getElem? g)
  unfold tapNext
  split
  · exact h _ 15 (by decide) (by decide)
  · exact h _ 12 (by decide) (by decide)

theorem State.tapClock_kept (s : State) (tms tdi : Bool) : s.Kept (s.tapClock tms tdi) := by
  unfold State.tapClock
  dsimp only
  refine ⟨?_, ?_, fun _ => tapNext_lt _ _, ?_, ?_, ?_, ?_⟩ <;> (repeat' split) <;> first | rfl | exact id

/-! ## Every command -/

theorem execTimCmdAcquire_kept (m : Master) (ref : BitVec 2) (s : State) (u : State)
    (h : execTimCmdAcquire m ref s = .next u) : s.Kept u := by
  obtain rfl := Host.Outcome.next.inj h
  refine State.Kept.of_still ?_
  first
  | (simp; done)
  | ((try dsimp only); (repeat' split) <;> first | (simp; done) | (simp [*]; done))

theorem execTimCmdLock_kept (m : Master) (s : State) (u : State)
    (h : execTimCmdLock m s = .next u) : s.Kept u := by
  obtain rfl := Host.Outcome.next.inj h
  refine State.Kept.of_still ?_
  first
  | (simp; done)
  | ((try dsimp only); (repeat' split) <;> first | (simp; done) | (simp [*]; done))

theorem execTimCmdHold_kept (m : Master) (s : State) (u : State)
    (h : execTimCmdHold m s = .next u) : s.Kept u := by
  obtain rfl := Host.Outcome.next.inj h
  refine State.Kept.of_still ?_
  first
  | (simp; done)
  | ((try dsimp only); (repeat' split) <;> first | (simp; done) | (simp [*]; done))

theorem execTimCmdResume_kept (m : Master) (s : State) (u : State)
    (h : execTimCmdResume m s = .next u) : s.Kept u := by
  obtain rfl := Host.Outcome.next.inj h
  refine State.Kept.of_still ?_
  first
  | (simp; done)
  | ((try dsimp only); (repeat' split) <;> first | (simp; done) | (simp [*]; done))

theorem execTimCmdFree_kept (m : Master) (s : State) (u : State)
    (h : execTimCmdFree m s = .next u) : s.Kept u := by
  obtain rfl := Host.Outcome.next.inj h
  refine State.Kept.of_still ?_
  first
  | (simp; done)
  | ((try dsimp only); (repeat' split) <;> first | (simp; done) | (simp [*]; done))

theorem execTimFreqWrite_kept (m : Master) (v : Word) (s : State) (u : State)
    (h : execTimFreqWrite m v s = .next u) : s.Kept u := by
  obtain rfl := Host.Outcome.next.inj h
  refine State.Kept.of_still ?_
  first
  | (simp; done)
  | ((try dsimp only); (repeat' split) <;> first | (simp; done) | (simp [*]; done))

theorem execTimPhaseAdj_kept (m : Master) (d : Word) (s : State) (u : State)
    (h : execTimPhaseAdj m d s = .next u) : s.Kept u := by
  obtain rfl := Host.Outcome.next.inj h
  refine State.Kept.of_still ?_
  first
  | (simp; done)
  | ((try dsimp only); (repeat' split) <;> first | (simp; done) | (simp [*]; done))

theorem execHoldTimeout_kept (s : State) (u : State)
    (h : execHoldTimeout s = .next u) : s.Kept u := by
  obtain rfl := Host.Outcome.next.inj h
  refine State.Kept.of_still ?_
  first
  | (simp; done)
  | ((try dsimp only); (repeat' split) <;> first | (simp; done) | (simp [*]; done))

theorem execTraverseHoldTimeout_kept (s : State) (u : State)
    (h : execTraverseHoldTimeout s = .next u) : s.Kept u := by
  obtain rfl := Host.Outcome.next.inj h
  refine State.Kept.of_still ?_
  first
  | (simp; done)
  | ((try dsimp only); (repeat' split) <;> first | (simp; done) | (simp [*]; done))

theorem execSmbusTempRead_kept (t0 : Option (BitVec 16)) (s : State) (u : State)
    (h : execSmbusTempRead t0 s = .next u) : s.Kept u := by
  obtain rfl := Host.Outcome.next.inj h
  refine State.Kept.of_still ?_
  first
  | (simp; done)
  | ((try dsimp only); (repeat' split) <;> first | (simp; done) | (simp [*]; done))

theorem execPpsInEdge_kept (s : State) (u : State)
    (h : execPpsInEdge s = .next u) : s.Kept u := by
  obtain rfl := Host.Outcome.next.inj h
  refine State.Kept.of_still ?_
  first
  | (simp; done)
  | ((try dsimp only); (repeat' split) <;> first | (simp; done) | (simp [*]; done))

theorem execPpsOutPulse_kept (s : State) (u : State)
    (h : execPpsOutPulse s = .next u) : s.Kept u := by
  obtain rfl := Host.Outcome.next.inj h
  refine State.Kept.of_still ?_
  first
  | (simp; done)
  | ((try dsimp only); (repeat' split) <;> first | (simp; done) | (simp [*]; done))

theorem execTodRxByte_kept (b : Byte) (s : State) (u : State)
    (h : execTodRxByte b s = .next u) : s.Kept u := by
  obtain rfl := Host.Outcome.next.inj h
  refine State.Kept.of_still ?_
  first
  | (simp; done)
  | ((try dsimp only); (repeat' split) <;> first | (simp; done) | (simp [*]; done))

theorem execTodRxRead_kept (m : Master) (s : State) (u : State)
    (h : execTodRxRead m s = .next u) : s.Kept u := by
  obtain rfl := Host.Outcome.next.inj h
  refine State.Kept.of_still ?_
  first
  | (simp; done)
  | ((try dsimp only); (repeat' split) <;> first | (simp; done) | (simp [*]; done))

theorem execTodTxWrite_kept (m : Master) (b : Byte) (s : State) (u : State)
    (h : execTodTxWrite m b s = .next u) : s.Kept u := by
  obtain rfl := Host.Outcome.next.inj h
  refine State.Kept.of_still ?_
  first
  | (simp; done)
  | ((try dsimp only); (repeat' split) <;> first | (simp; done) | (simp [*]; done))

theorem execPtpTsqRead_kept (m : Master) (k : Nat) (s : State) (u : State)
    (h : execPtpTsqRead m k s = .next u) : s.Kept u := by
  obtain rfl := Host.Outcome.next.inj h
  refine State.Kept.of_still ?_
  first
  | (simp; done)
  | ((try dsimp only); (repeat' split) <;> first | (simp; done) | (simp [*]; done))

theorem execServoConverged_kept (s : State) (u : State)
    (h : execServoConverged s = .next u) : s.Kept u := by
  obtain rfl := Host.Outcome.next.inj h
  refine State.Kept.of_still ?_
  first
  | (simp; done)
  | ((try dsimp only); (repeat' split) <;> first | (simp; done) | (simp [*]; done))

theorem execTimeTick_kept (s : State) (u : State)
    (h : execTimeTick s = .next u) : s.Kept u := by
  obtain rfl := Host.Outcome.next.inj h
  refine State.Kept.of_still ?_
  first
  | (simp; done)
  | ((try dsimp only); (repeat' split) <;> first | (simp; done) | (simp [*]; done))

theorem execKatComplete_kept (passA : Bool) (passB : Bool) (passC : Bool) (s : State) (u : State)
    (h : execKatComplete passA passB passC s = .next u) : s.Kept u := by
  obtain rfl := Host.Outcome.next.inj h
  refine State.Kept.of_still ?_
  first
  | (simp; done)
  | ((try dsimp only); (repeat' split) <;> first | (simp; done) | (simp [*]; done))

theorem execSpnSelftest_kept (m : Master) (s : State) (u : State)
    (h : execSpnSelftest m s = .next u) : s.Kept u := by
  obtain rfl := Host.Outcome.next.inj h
  refine State.Kept.of_still ?_
  first
  | (simp; done)
  | ((try dsimp only); (repeat' split) <;> first | (simp; done) | (simp [*]; done))

theorem execSpnRestart_kept (m : Master) (chans : BitVec 3) (s : State) (u : State)
    (h : execSpnRestart m chans s = .next u) : s.Kept u := by
  obtain rfl := Host.Outcome.next.inj h
  refine State.Kept.of_still ?_
  first
  | (simp; done)
  | ((try dsimp only); (repeat' split) <;> first | (simp; done) | (simp [*]; done))

theorem execChannelRejoin_kept (ch : Nat) (s : State) (u : State)
    (h : execChannelRejoin ch s = .next u) : s.Kept u := by
  obtain rfl := Host.Outcome.next.inj h
  refine State.Kept.of_still ?_
  first
  | (simp; done)
  | ((try dsimp only); (repeat' split) <;> first | (simp; done) | (simp [*]; done))

theorem execPairClaim_kept (m : Master) (s : State) (u : State)
    (h : execPairClaim m s = .next u) : s.Kept u := by
  obtain rfl := Host.Outcome.next.inj h
  refine State.Kept.of_still ?_
  first
  | (simp; done)
  | ((try dsimp only); (repeat' split) <;> first | (simp; done) | (simp [*]; done))

theorem execPairRelease_kept (m : Master) (s : State) (u : State)
    (h : execPairRelease m s = .next u) : s.Kept u := by
  obtain rfl := Host.Outcome.next.inj h
  refine State.Kept.of_still ?_
  first
  | (simp; done)
  | ((try dsimp only); (repeat' split) <;> first | (simp; done) | (simp [*]; done))

theorem execBelayInQualified_kept (s : State) (u : State)
    (h : execBelayInQualified s = .next u) : s.Kept u := by
  obtain rfl := Host.Outcome.next.inj h
  refine State.Kept.of_still ?_
  first
  | (simp; done)
  | ((try dsimp only); (repeat' split) <;> first | (simp; done) | (simp [*]; done))

theorem execBelayContention_kept (s : State) (u : State)
    (h : execBelayContention s = .next u) : s.Kept u := by
  obtain rfl := Host.Outcome.next.inj h
  refine State.Kept.of_still ?_
  first
  | (simp; done)
  | ((try dsimp only); (repeat' split) <;> first | (simp; done) | (simp [*]; done))

theorem execDigestSend_kept (s : State) (u : State)
    (h : execDigestSend s = .next u) : s.Kept u := by
  obtain rfl := Host.Outcome.next.inj h
  refine State.Kept.of_still ?_
  first
  | (simp; done)
  | ((try dsimp only); (repeat' split) <;> first | (simp; done) | (simp [*]; done))

theorem execDigestReceived_kept (d : Digest) (rxTime : Nat) (s : State) (u : State)
    (h : execDigestReceived d rxTime s = .next u) : s.Kept u := by
  obtain rfl := Host.Outcome.next.inj h
  refine State.Kept.of_still ?_
  first
  | (simp; done)
  | ((try dsimp only); (repeat' split) <;> first | (simp; done) | (simp [*]; done))

theorem execDigestMissing_kept (s : State) (u : State)
    (h : execDigestMissing s = .next u) : s.Kept u := by
  obtain rfl := Host.Outcome.next.inj h
  refine State.Kept.of_still ?_
  first
  | (simp; done)
  | ((try dsimp only); (repeat' split) <;> first | (simp; done) | (simp [*]; done))

theorem execPairSelfcheckDone_kept (pass : Bool) (s : State) (u : State)
    (h : execPairSelfcheckDone pass s = .next u) : s.Kept u := by
  obtain rfl := Host.Outcome.next.inj h
  refine State.Kept.of_still ?_
  first
  | (simp; done)
  | ((try dsimp only); (repeat' split) <;> first | (simp; done) | (simp [*]; done))

theorem execPairPresentChange_kept (high : Bool) (s : State) (u : State)
    (h : execPairPresentChange high s = .next u) : s.Kept u := by
  obtain rfl := Host.Outcome.next.inj h
  refine State.Kept.of_still ?_
  first
  | (simp; done)
  | ((try dsimp only); (repeat' split) <;> first | (simp; done) | (simp [*]; done))

theorem execIcuClaim_kept (core : Nat) (s : State) (u : State)
    (h : execIcuClaim core s = .next u) : s.Kept u := by
  obtain rfl := Host.Outcome.next.inj h
  refine State.Kept.of_still ?_
  first
  | (simp; done)
  | ((try dsimp only); (repeat' split) <;> first | (simp; done) | (simp [*]; done))

theorem execIcuDone_kept (core : Nat) (src : Nat) (s : State) (u : State)
    (h : execIcuDone core src s = .next u) : s.Kept u := by
  obtain rfl := Host.Outcome.next.inj h
  refine State.Kept.of_still ?_
  first
  | (simp; done)
  | ((try dsimp only); (repeat' split) <;> first | (simp; done) | (simp [*]; done))

theorem execIcuDoorbell_kept (m : Master) (bits : Byte) (s : State) (u : State)
    (h : execIcuDoorbell m bits s = .next u) : s.Kept u := by
  obtain rfl := Host.Outcome.next.inj h
  refine State.Kept.of_still ?_
  first
  | (simp; done)
  | ((try dsimp only); (repeat' split) <;> first | (simp; done) | (simp [*]; done))

theorem execHoldoffExpire_kept (g : Nat) (s : State) (u : State)
    (h : execHoldoffExpire g s = .next u) : s.Kept u := by
  obtain rfl := Host.Outcome.next.inj h
  refine State.Kept.of_still ?_
  first
  | (simp; done)
  | ((try dsimp only); (repeat' split) <;> first | (simp; done) | (simp [*]; done))

theorem execGpioFiltered_kept (n : Nat) (level : Bool) (s : State) (u : State)
    (h : execGpioFiltered n level s = .next u) : s.Kept u := by
  obtain rfl := Host.Outcome.next.inj h
  refine State.Kept.of_still ?_
  first
  | (simp; done)
  | ((try dsimp only); (repeat' split) <;> first | (simp; done) | (simp [*]; done))

theorem execCoreReset_kept (m : Master) (core : Nat) (s : State) (u : State)
    (h : execCoreReset m core s = .next u) : s.Kept u := by
  obtain rfl := Host.Outcome.next.inj h
  refine State.Kept.of_still ?_
  first
  | (simp; done)
  | ((try dsimp only); (repeat' split) <;> first | (simp; done) | (simp [*]; done))

theorem execCoreHalt_kept (m : Master) (core : Nat) (halt : Bool) (s : State) (u : State)
    (h : execCoreHalt m core halt s = .next u) : s.Kept u := by
  obtain rfl := Host.Outcome.next.inj h
  refine State.Kept.of_still ?_
  first
  | (simp; done)
  | ((try dsimp only); (repeat' split) <;> first | (simp; done) | (simp [*]; done))

theorem execCoreLoadDone_kept (core : Nat) (ok : Bool) (s : State) (u : State)
    (h : execCoreLoadDone core ok s = .next u) : s.Kept u := by
  obtain rfl := Host.Outcome.next.inj h
  refine State.Kept.of_still ?_
  first
  | (simp; done)
  | ((try dsimp only); (repeat' split) <;> first | (simp; done) | (simp [*]; done))

theorem execWatchdogKick_kept (m : Master) (core : Nat) (s : State) (u : State)
    (h : execWatchdogKick m core s = .next u) : s.Kept u := by
  obtain rfl := Host.Outcome.next.inj h
  refine State.Kept.of_still ?_
  first
  | (simp; done)
  | ((try dsimp only); (repeat' split) <;> first | (simp; done) | (simp [*]; done))

theorem execAgentAccessFault_kept (addr : Nat) (write : Bool) (s : State) (u : State)
    (h : execAgentAccessFault addr write s = .next u) : s.Kept u := by
  obtain rfl := Host.Outcome.next.inj h
  refine State.Kept.of_still ?_
  first
  | (simp; done)
  | ((try dsimp only); (repeat' split) <;> first | (simp; done) | (simp [*]; done))

theorem execCoreFatalTrap_kept (core : Nat) (s : State) (u : State)
    (h : execCoreFatalTrap core s = .next u) : s.Kept u := by
  obtain rfl := Host.Outcome.next.inj h
  refine State.Kept.of_still ?_
  first
  | (simp; done)
  | ((try dsimp only); (repeat' split) <;> first | (simp; done) | (simp [*]; done))

theorem execFaultWindowEnd_kept (page : Nat) (n : Nat) (s : State) (u : State)
    (h : execFaultWindowEnd page n s = .next u) : s.Kept u := by
  obtain rfl := Host.Outcome.next.inj h
  refine State.Kept.of_still ?_
  first
  | (simp; done)
  | ((try dsimp only); (repeat' split) <;> first | (simp; done) | (simp [*]; done))

theorem execFwinCfgWrite_kept (m : Master) (page : Nat) (n : Nat) (v : Word) (s : State) (u : State)
    (h : execFwinCfgWrite m page n v s = .next u) : s.Kept u := by
  obtain rfl := Host.Outcome.next.inj h
  refine State.Kept.of_still ?_
  first
  | (simp; done)
  | ((try dsimp only); (repeat' split) <;> first | (simp; done) | (simp [*]; done))

theorem execFwinStatRead_kept (m : Master) (page : Nat) (n : Nat) (s : State) (u : State)
    (h : execFwinStatRead m page n s = .next u) : s.Kept u := by
  obtain rfl := Host.Outcome.next.inj h
  refine State.Kept.of_still ?_
  first
  | (simp; done)
  | ((try dsimp only); (repeat' split) <;> first | (simp; done) | (simp [*]; done))

theorem execPmuClearAll_kept (m : Master) (s : State) (u : State)
    (h : execPmuClearAll m s = .next u) : s.Kept u := by
  obtain rfl := Host.Outcome.next.inj h
  refine State.Kept.of_still ?_
  first
  | (simp; done)
  | ((try dsimp only); (repeat' split) <;> first | (simp; done) | (simp [*]; done))

theorem execPmuValueWrite_kept (m : Master) (hi : Bool) (v : Word) (s : State) (u : State)
    (h : execPmuValueWrite m hi v s = .next u) : s.Kept u := by
  obtain rfl := Host.Outcome.next.inj h
  refine State.Kept.of_still ?_
  first
  | (simp; done)
  | ((try dsimp only); (repeat' split) <;> first | (simp; done) | (simp [*]; done))

theorem execTrbWrite_kept (m : Master) (page : Nat) (k : Nat) (v : Word) (s : State) (u : State)
    (h : execTrbWrite m page k v s = .next u) : s.Kept u := by
  obtain rfl := Host.Outcome.next.inj h
  refine State.Kept.of_still ?_
  first
  | (simp; done)
  | ((try dsimp only); (repeat' split) <;> first | (simp; done) | (simp [*]; done))

theorem execFrameReceived_kept (port : Nat) (b : Bytes) (whole : Bool) (s : State) (u : State)
    (h : execFrameReceived port b whole s = .next u) : s.Kept u := by
  obtain rfl := Host.Outcome.next.inj h
  refine State.Kept.of_still ?_
  first
  | (simp; done)
  | ((try dsimp only); (repeat' split) <;> first | (simp; done) | (simp [*]; done))

theorem execMacControlFrame_kept (port : Nat) (b : Bytes) (s : State) (u : State)
    (h : execMacControlFrame port b s = .next u) : s.Kept u := by
  obtain rfl := Host.Outcome.next.inj h
  refine State.Kept.of_still ?_
  first
  | (simp; done)
  | ((try dsimp only); (repeat' split) <;> first | (simp; done) | (simp [*]; done))

theorem execPauseTimerExpire_kept (port : Nat) (cls : Nat) (s : State) (u : State)
    (h : execPauseTimerExpire port cls s = .next u) : s.Kept u := by
  obtain rfl := Host.Outcome.next.inj h
  refine State.Kept.of_still ?_
  first
  | (simp; done)
  | ((try dsimp only); (repeat' split) <;> first | (simp; done) | (simp [*]; done))

theorem execFcRefresh_kept (port : Nat) (s : State) (u : State)
    (h : execFcRefresh port s = .next u) : s.Kept u := by
  obtain rfl := Host.Outcome.next.inj h
  refine State.Kept.of_still ?_
  first
  | (simp; done)
  | ((try dsimp only); (repeat' split) <;> first | (simp; done) | (simp [*]; done))

theorem execLinkStateChange_kept (port : Nat) (aligned : Bool) (fecLock : Bool) (localFault : Bool) (remoteFault : Bool) (s : State) (u : State)
    (h : execLinkStateChange port aligned fecLock localFault remoteFault s = .next u) : s.Kept u := by
  obtain rfl := Host.Outcome.next.inj h
  refine State.Kept.of_still ?_
  first
  | (simp; done)
  | ((try dsimp only); (repeat' split) <;> first | (simp; done) | (simp [*]; done))

theorem execPrbsErrRead_kept (m : Master) (page : Nat) (lane : Nat) (s : State) (u : State)
    (h : execPrbsErrRead m page lane s = .next u) : s.Kept u := by
  obtain rfl := Host.Outcome.next.inj h
  refine State.Kept.of_still ?_
  first
  | (simp; done)
  | ((try dsimp only); (repeat' split) <;> first | (simp; done) | (simp [*]; done))

theorem execColdReset_kept (straps : Byte) (seat : Bool) (present : Bool) (s : State) (u : State)
    (h : execColdReset straps seat present s = .next u) : s.Kept u := by
  obtain rfl := Host.Outcome.next.inj h
  exact State.coldStart_kept s _ _ _

theorem execHostPerst_kept (us : Nat) (s : State) (u : State)
    (h : execHostPerst us s = .next u) : s.Kept u := by
  unfold execHostPerst at h
  dsimp only at h
  obtain rfl := Host.Outcome.next.inj h
  have h0 : s.Kept (if 1 ≤ us ∧ us < 100 then s.draw else s) :=
    State.Kept.ite (fun _ => State.Kept.of_still rfl) (fun _ => State.Kept.refl s)
  refine State.Kept.ite (fun _ => ?_) (fun _ => h0)
  have h1 := h0.still (State.endpointReset_still _)
  exact State.Kept.ite (fun _ => h1.still (State.flrBegin_still _ _)) (fun _ => h1.trans (State.warmBegin_kept _ _))

theorem execSoftWarm_kept (m : Master) (s : State) (u : State)
    (h : execSoftWarm m s = .next u) : s.Kept u := by
  obtain rfl := Host.Outcome.next.inj h
  exact State.onWrite_kept (fun t => State.warmBegin_kept t 2)

theorem execFlr_kept (s : State) (u : State)
    (h : execFlr s = .next u) : s.Kept u := by
  obtain rfl := Host.Outcome.next.inj h
  refine State.Kept.of_still ?_
  first
  | (simp; done)
  | ((try dsimp only); (repeat' split) <;> first | (simp; done) | (simp [*]; done))

theorem execFlrClearDone_kept (s : State) (u : State)
    (h : execFlrClearDone s = .next u) : s.Kept u := by
  obtain rfl := Host.Outcome.next.inj h
  exact State.Kept.ite (fun _ => State.flrEnd_kept s) (fun _ => State.Kept.refl s)

theorem execBlkSrst_kept (m : Master) (page : Nat) (s : State) (u : State)
    (h : execBlkSrst m page s = .next u) : s.Kept u := by
  obtain rfl := Host.Outcome.next.inj h
  exact State.onWrite_kept (fun t => State.blockBegin_kept t page)

theorem execHostPerstDeassert_kept (s : State) (u : State)
    (h : execHostPerstDeassert s = .next u) : s.Kept u := by
  obtain rfl := Host.Outcome.next.inj h
  refine State.Kept.of_still ?_
  first
  | (simp; done)
  | ((try dsimp only); (repeat' split) <;> first | (simp; done) | (simp [*]; done))

theorem execHrxIdleExit_kept (s : State) (u : State)
    (h : execHrxIdleExit s = .next u) : s.Kept u := by
  obtain rfl := Host.Outcome.next.inj h
  refine State.Kept.of_still ?_
  first
  | (simp; done)
  | ((try dsimp only); (repeat' split) <;> first | (simp; done) | (simp [*]; done))

theorem execParseStart_kept (port : Nat) (bad : List BadCell) (s : State) (u : State)
    (h : execParseStart port bad s = .next u) : s.Kept u := by
  obtain rfl := Host.Outcome.next.inj h
  refine State.Kept.of_still ?_
  first
  | (simp; done)
  | ((try dsimp only); (repeat' split) <;> first | (simp; done) | (simp [*]; done))

theorem execSecondPassStart_kept (pipe : Nat) (bad : List BadCell) (s : State) (u : State)
    (h : execSecondPassStart pipe bad s = .next u) : s.Kept u := by
  obtain rfl := Host.Outcome.next.inj h
  refine State.Kept.of_still ?_
  first
  | (simp; done)
  | ((try dsimp only); (repeat' split) <;> first | (simp; done) | (simp [*]; done))

theorem execFragEntryExpire_kept (bucket : Nat) (slot : Nat) (s : State) (u : State)
    (h : execFragEntryExpire bucket slot s = .next u) : s.Kept u := by
  obtain rfl := Host.Outcome.next.inj h
  refine State.Kept.of_still ?_
  first
  | (simp; done)
  | ((try dsimp only); (repeat' split) <;> first | (simp; done) | (simp [*]; done))

theorem execFragFlush_kept (m : Master) (s : State) (u : State)
    (h : execFragFlush m s = .next u) : s.Kept u := by
  obtain rfl := Host.Outcome.next.inj h
  exact State.onWrite_kept (fun _ => State.Kept.of_still rfl)

theorem execGateEntryChange_kept (port : Nat) (f : MemFinding) (s : State) (u : State)
    (h : execGateEntryChange port f s = .next u) : s.Kept u := by
  obtain rfl := Host.Outcome.next.inj h
  refine State.Kept.of_still ?_
  first
  | (simp; done)
  | ((try dsimp only); (repeat' split) <;> first | (simp; done) | (simp [*]; done))

theorem execCyclicListStart_kept (port : Nat) (s : State) (u : State)
    (h : execCyclicListStart port s = .next u) : s.Kept u := by
  obtain rfl := Host.Outcome.next.inj h
  refine State.Kept.of_still ?_
  first
  | (simp; done)
  | ((try dsimp only); (repeat' split) <;> first | (simp; done) | (simp [*]; done))

theorem execTimetableTakeover_kept (port : Nat) (s : State) (u : State)
    (h : execTimetableTakeover port s = .next u) : s.Kept u := by
  obtain rfl := Host.Outcome.next.inj h
  refine State.Kept.of_still ?_
  first
  | (simp; done)
  | ((try dsimp only); (repeat' split) <;> first | (simp; done) | (simp [*]; done))

theorem execTimetableEntry_kept (port : Nat) (f : MemFinding) (s : State) (u : State)
    (h : execTimetableEntry port f s = .next u) : s.Kept u := by
  obtain rfl := Host.Outcome.next.inj h
  refine State.Kept.of_still ?_
  first
  | (simp; done)
  | ((try dsimp only); (repeat' split) <;> first | (simp; done) | (simp [*]; done))

theorem execTimetableFetch_kept (port : Nat) (s : State) (u : State)
    (h : execTimetableFetch port s = .next u) : s.Kept u := by
  obtain rfl := Host.Outcome.next.inj h
  refine State.Kept.of_still ?_
  first
  | (simp; done)
  | ((try dsimp only); (repeat' split) <;> first | (simp; done) | (simp [*]; done))

theorem execGateTtCancel_kept (m : Master) (port : Nat) (s : State) (u : State)
    (h : execGateTtCancel m port s = .next u) : s.Kept u := by
  obtain rfl := Host.Outcome.next.inj h
  refine State.Kept.of_still ?_
  first
  | (simp; done)
  | ((try dsimp only); (repeat' split) <;> first | (simp; done) | (simp [*]; done))

theorem execMcrRecordApply_kept (f : MemFinding) (s : State) (u : State)
    (h : execMcrRecordApply f s = .next u) : s.Kept u := by
  obtain rfl := Host.Outcome.next.inj h
  refine State.Kept.of_still ?_
  first
  | (simp; done)
  | ((try dsimp only); (repeat' split) <;> first | (simp; done) | (simp [*]; done))

theorem execFreeCacheRefill_kept (pool : Nat) (f : MemFinding) (s : State) (u : State)
    (h : execFreeCacheRefill pool f s = .next u) : s.Kept u := by
  obtain rfl := Host.Outcome.next.inj h
  refine State.Kept.of_still ?_
  first
  | (simp; done)
  | ((try dsimp only); (repeat' split) <;> first | (simp; done) | (simp [*]; done))

theorem execFreeCacheSpill_kept (pool : Nat) (s : State) (u : State)
    (h : execFreeCacheSpill pool s = .next u) : s.Kept u := by
  obtain rfl := Host.Outcome.next.inj h
  refine State.Kept.of_still ?_
  first
  | (simp; done)
  | ((try dsimp only); (repeat' split) <;> first | (simp; done) | (simp [*]; done))

theorem execBpmApply_kept (m : Master) (s : State) (u : State)
    (h : execBpmApply m s = .next u) : s.Kept u := by
  obtain rfl := Host.Outcome.next.inj h
  refine State.Kept.of_still ?_
  first
  | (simp; done)
  | ((try dsimp only); (repeat' split) <;> first | (simp; done) | (simp [*]; done))

theorem execFreeStoreRebuildDone_kept (s : State) (u : State)
    (h : execFreeStoreRebuildDone s = .next u) : s.Kept u := by
  obtain rfl := Host.Outcome.next.inj h
  refine State.Kept.of_still ?_
  first
  | (simp; done)
  | ((try dsimp only); (repeat' split) <;> first | (simp; done) | (simp [*]; done))

theorem execAdmission_kept (bad : List BadCell) (s : State) (u : State)
    (h : execAdmission bad s = .next u) : s.Kept u := by
  obtain rfl := Host.Outcome.next.inj h
  refine State.Kept.of_still ?_
  first
  | (simp; done)
  | ((try dsimp only); (repeat' split) <;> first | (simp; done) | (simp [*]; done))

theorem execPortTxReady_kept (port : Nat) (bad : List BadCell) (s : State) (u : State)
    (h : execPortTxReady port bad s = .next u) : s.Kept u := by
  obtain rfl := Host.Outcome.next.inj h
  refine State.Kept.of_still ?_
  first
  | (simp; done)
  | ((try dsimp only); (repeat' split) <;> first | (simp; done) | (simp [*]; done))

theorem execRopeWake_kept (port : Nat) (s : State) (u : State)
    (h : execRopeWake port s = .next u) : s.Kept u := by
  obtain rfl := Host.Outcome.next.inj h
  refine State.Kept.ite (fun _ => ?_) (fun _ => State.Kept.refl s)
  have e := State.walkRope_still s [] port ranks
  revert e
  generalize s.walkRope [] port ranks = x
  obtain ⟨t, q⟩ := x
  intro e
  cases q with
  | none => exact State.Kept.of_still e
  | some q => exact State.Kept.of_still ((State.sendHead_still _ _ _ _).trans e)

theorem execResidenceScan_kept (s : State) (u : State)
    (h : execResidenceScan s = .next u) : s.Kept u := by
  obtain rfl := Host.Outcome.next.inj h
  refine State.Kept.of_still ?_
  first
  | (simp; done)
  | ((try dsimp only); (repeat' split) <;> first | (simp; done) | (simp [*]; done))

theorem execCalendarPrefetch_kept (port : Nat) (onTime : Bool) (bad : List Nat) (s : State) (u : State)
    (h : execCalendarPrefetch port onTime bad s = .next u) : s.Kept u := by
  obtain rfl := Host.Outcome.next.inj h
  refine State.Kept.of_still ?_
  first
  | (simp; done)
  | ((try dsimp only); (repeat' split) <;> first | (simp; done) | (simp [*]; done))

theorem execLatencySample_kept (s : State) (u : State)
    (h : execLatencySample s = .next u) : s.Kept u := by
  obtain rfl := Host.Outcome.next.inj h
  refine State.Kept.of_still ?_
  first
  | (simp; done)
  | ((try dsimp only); (repeat' split) <;> first | (simp; done) | (simp [*]; done))

theorem execLatencyWrite_kept (s : State) (u : State)
    (h : execLatencyWrite s = .next u) : s.Kept u := by
  obtain rfl := Host.Outcome.next.inj h
  refine State.Kept.of_still ?_
  first
  | (simp; done)
  | ((try dsimp only); (repeat' split) <;> first | (simp; done) | (simp [*]; done))

theorem execLatWdataAccess_kept (m : Master) (w : Option Word) (s : State) (u : State)
    (h : execLatWdataAccess m w s = .next u) : s.Kept u := by
  obtain rfl := Host.Outcome.next.inj h
  refine State.Kept.of_still ?_
  first
  | (simp; done)
  | ((try dsimp only); (repeat' split) <;> first | (simp; done) | (simp [*]; done))

theorem execLinkEnable_kept (m : Master) (link : Nat) (en : Bool) (s : State) (u : State)
    (h : execLinkEnable m link en s = .next u) : s.Kept u := by
  obtain rfl := Host.Outcome.next.inj h
  refine State.Kept.of_still ?_
  first
  | (simp; done)
  | ((try dsimp only); (repeat' split) <;> first | (simp; done) | (simp [*]; done))

theorem execLinkRestart_kept (m : Master) (link : Nat) (s : State) (u : State)
    (h : execLinkRestart m link s = .next u) : s.Kept u := by
  obtain rfl := Host.Outcome.next.inj h
  refine State.Kept.of_still ?_
  first
  | (simp; done)
  | ((try dsimp only); (repeat' split) <;> first | (simp; done) | (simp [*]; done))

theorem execLinkAligned_kept (link : Nat) (s : State) (u : State)
    (h : execLinkAligned link s = .next u) : s.Kept u := by
  obtain rfl := Host.Outcome.next.inj h
  refine State.Kept.of_still ?_
  first
  | (simp; done)
  | ((try dsimp only); (repeat' split) <;> first | (simp; done) | (simp [*]; done))

theorem execLinkTrainTimeout_kept (link : Nat) (s : State) (u : State)
    (h : execLinkTrainTimeout link s = .next u) : s.Kept u := by
  obtain rfl := Host.Outcome.next.inj h
  refine State.Kept.of_still ?_
  first
  | (simp; done)
  | ((try dsimp only); (repeat' split) <;> first | (simp; done) | (simp [*]; done))

theorem execLinkAlignLoss_kept (link : Nat) (s : State) (u : State)
    (h : execLinkAlignLoss link s = .next u) : s.Kept u := by
  obtain rfl := Host.Outcome.next.inj h
  refine State.Kept.of_still ?_
  first
  | (simp; done)
  | ((try dsimp only); (repeat' split) <;> first | (simp; done) | (simp [*]; done))

theorem execHelloSend_kept (link : Nat) (s : State) (u : State)
    (h : execHelloSend link s = .next u) : s.Kept u := by
  obtain rfl := Host.Outcome.next.inj h
  refine State.Kept.of_still ?_
  first
  | (simp; done)
  | ((try dsimp only); (repeat' split) <;> first | (simp; done) | (simp [*]; done))

theorem execHelloReceived_kept (link : Nat) (h : Hello) (s : State) (u : State)
    (h : execHelloReceived link h s = .next u) : s.Kept u := by
  obtain rfl := Host.Outcome.next.inj h
  refine State.Kept.of_still ?_
  first
  | (simp; done)
  | ((try dsimp only); (repeat' split) <;> first | (simp; done) | (simp [*]; done))

theorem execHelloTimeout_kept (link : Nat) (s : State) (u : State)
    (h : execHelloTimeout link s = .next u) : s.Kept u := by
  obtain rfl := Host.Outcome.next.inj h
  refine State.Kept.of_still ?_
  first
  | (simp; done)
  | ((try dsimp only); (repeat' split) <;> first | (simp; done) | (simp [*]; done))

theorem execFabIdWrite_kept (m : Master) (v : Word) (s : State) (u : State)
    (h : execFabIdWrite m v s = .next u) : s.Kept u := by
  obtain rfl := Host.Outcome.next.inj h
  refine State.Kept.of_still ?_
  first
  | (simp; done)
  | ((try dsimp only); (repeat' split) <;> first | (simp; done) | (simp [*]; done))

theorem execCreditSend_kept (link : Nat) (s : State) (u : State)
    (h : execCreditSend link s = .next u) : s.Kept u := by
  obtain rfl := Host.Outcome.next.inj h
  refine State.Kept.of_still ?_
  first
  | (simp; done)
  | ((try dsimp only); (repeat' split) <;> first | (simp; done) | (simp [*]; done))

theorem execCreditReceived_kept (link : Nat) (freed : List Nat) (s : State) (u : State)
    (h : execCreditReceived link freed s = .next u) : s.Kept u := by
  obtain rfl := Host.Outcome.next.inj h
  refine State.Kept.of_still ?_
  first
  | (simp; done)
  | ((try dsimp only); (repeat' split) <;> first | (simp; done) | (simp [*]; done))

theorem execTimeWordReceived_kept (link : Nat) (w : TimeWord) (rxTime : Nat) (s : State) (u : State)
    (h : execTimeWordReceived link w rxTime s = .next u) : s.Kept u := by
  obtain rfl := Host.Outcome.next.inj h
  refine State.Kept.of_still ?_
  first
  | (simp; done)
  | ((try dsimp only); (repeat' split) <;> first | (simp; done) | (simp [*]; done))

theorem execTimeCellSend_kept (s : State) (u : State)
    (h : execTimeCellSend s = .next u) : s.Kept u := by
  obtain rfl := Host.Outcome.next.inj h
  refine State.Kept.of_still ?_
  first
  | (simp; done)
  | ((try dsimp only); (repeat' split) <;> first | (simp; done) | (simp [*]; done))

theorem execD2dTrain_kept (ok : Bool) (spares : Word) (s : State) (u : State)
    (h : execD2dTrain ok spares s = .next u) : s.Kept u := by
  obtain rfl := Host.Outcome.next.inj h
  refine State.Kept.of_still ?_
  first
  | (simp; done)
  | ((try dsimp only); (repeat' split) <;> first | (simp; done) | (simp [*]; done))

theorem execD2dReplay_kept (s : State) (u : State)
    (h : execD2dReplay s = .next u) : s.Kept u := by
  obtain rfl := Host.Outcome.next.inj h
  refine State.Kept.of_still ?_
  first
  | (simp; done)
  | ((try dsimp only); (repeat' split) <;> first | (simp; done) | (simp [*]; done))

theorem execD2dChannelFail_kept (ch : Nat) (s : State) (u : State)
    (h : execD2dChannelFail ch s = .next u) : s.Kept u := by
  obtain rfl := Host.Outcome.next.inj h
  refine State.Kept.ite (fun c => ?_) (fun _ => State.Kept.refl s)
  refine State.Kept.still (t := { s with d2d := { failed := withNat s.d2d.failed ch } }) ?_
    ((State.trb_still _ _ _).trans (State.wr_still _ _ _))
  refine ⟨rfl, id, id, id, id, id, fun g x hx => ?_⟩
  have m : x ∈ withNat s.d2d.failed ch := hx
  unfold withNat at m
  split at m
  · exact g x m
  · rcases List.mem_append.1 m with m | m
    · exact g x m
    · rw [List.mem_singleton] at m
      omega

theorem execWarmClearDone_kept (s : State) (u : State)
    (h : execWarmClearDone s = .next u) : s.Kept u := by
  obtain rfl := Host.Outcome.next.inj h
  exact State.Kept.ite (fun _ => (State.warmEnd_kept s).still (State.linksSettle_still _)) (fun _ => State.Kept.refl s)

theorem execBlockResetDone_kept (page : Nat) (s : State) (u : State)
    (h : execBlockResetDone page s = .next u) : s.Kept u := by
  obtain rfl := Host.Outcome.next.inj h
  refine State.Kept.of_still ?_
  first
  | (simp; done)
  | ((try dsimp only); (repeat' split) <;> first | (simp; done) | (simp [*]; done))

theorem execSeatedAsserted_kept (s : State) (u : State)
    (h : execSeatedAsserted s = .next u) : s.Kept u := by
  obtain rfl := Host.Outcome.next.inj h
  refine State.Kept.of_still ?_
  first
  | (simp; done)
  | ((try dsimp only); (repeat' split) <;> first | (simp; done) | (simp [*]; done))

theorem execSeatedQualified_kept (s : State) (u : State)
    (h : execSeatedQualified s = .next u) : s.Kept u := by
  obtain rfl := Host.Outcome.next.inj h
  refine State.Kept.of_still ?_
  first
  | (simp; done)
  | ((try dsimp only); (repeat' split) <;> first | (simp; done) | (simp [*]; done))

theorem execSdrefOkChange_kept (k : Nat) (ok : Bool) (s : State) (u : State)
    (h : execSdrefOkChange k ok s = .next u) : s.Kept u := by
  obtain rfl := Host.Outcome.next.inj h
  refine State.Kept.of_still ?_
  first
  | (simp; done)
  | ((try dsimp only); (repeat' split) <;> first | (simp; done) | (simp [*]; done))

theorem execReorderTimeout_kept (src : Nat) (cls : Nat) (s : State) (u : State)
    (h : execReorderTimeout src cls s = .next u) : s.Kept u := by
  obtain rfl := Host.Outcome.next.inj h
  refine State.Kept.of_still ?_
  first
  | (simp; done)
  | ((try dsimp only); (repeat' split) <;> first | (simp; done) | (simp [*]; done))

theorem execCellRelay_kept (link : Nat) (s : State) (u : State)
    (h : execCellRelay link s = .next u) : s.Kept u := by
  obtain rfl := Host.Outcome.next.inj h
  refine State.Kept.of_still ?_
  first
  | (simp; done)
  | ((try dsimp only); (repeat' split) <;> first | (simp; done) | (simp [*]; done))

theorem execVoqDequeue_kept (voq : Nat) (bad : List BadCell) (s : State) (u : State)
    (h : execVoqDequeue voq bad s = .next u) : s.Kept u := by
  obtain rfl := Host.Outcome.next.inj h
  refine State.Kept.of_still ?_
  first
  | (simp; done)
  | ((try dsimp only); (repeat' split) <;> first | (simp; done) | (simp [*]; done))

theorem execFmcQueueSend_kept (cls : Nat) (bad : List BadCell) (s : State) (u : State)
    (h : execFmcQueueSend cls bad s = .next u) : s.Kept u := by
  obtain rfl := Host.Outcome.next.inj h
  refine State.Kept.of_still ?_
  first
  | (simp; done)
  | ((try dsimp only); (repeat' split) <;> first | (simp; done) | (simp [*]; done))

theorem execRequestRetry_kept (voq : Nat) (s : State) (u : State)
    (h : execRequestRetry voq s = .next u) : s.Kept u := by
  obtain rfl := Host.Outcome.next.inj h
  refine State.Kept.of_still ?_
  first
  | (simp; done)
  | ((try dsimp only); (repeat' split) <;> first | (simp; done) | (simp [*]; done))

theorem execCreditReturn_kept (voq : Nat) (s : State) (u : State)
    (h : execCreditReturn voq s = .next u) : s.Kept u := by
  obtain rfl := Host.Outcome.next.inj h
  refine State.Kept.of_still ?_
  first
  | (simp; done)
  | ((try dsimp only); (repeat' split) <;> first | (simp; done) | (simp [*]; done))

theorem execRequestReceived_kept (r : ReqCell) (s : State) (u : State)
    (h : execRequestReceived r s = .next u) : s.Kept u := by
  obtain rfl := Host.Outcome.next.inj h
  refine State.Kept.of_still ?_
  first
  | (simp; done)
  | ((try dsimp only); (repeat' split) <;> first | (simp; done) | (simp [*]; done))

theorem execGrantEngine_kept (s : State) (u : State)
    (h : execGrantEngine s = .next u) : s.Kept u := by
  obtain rfl := Host.Outcome.next.inj h
  refine State.Kept.of_still ?_
  first
  | (simp; done)
  | ((try dsimp only); (repeat' split) <;> first | (simp; done) | (simp [*]; done))

theorem execGrantReceived_kept (src : Nat) (cls : Nat) (g : Nat) (s : State) (u : State)
    (h : execGrantReceived src cls g s = .next u) : s.Kept u := by
  obtain rfl := Host.Outcome.next.inj h
  refine State.Kept.of_still ?_
  first
  | (simp; done)
  | ((try dsimp only); (repeat' split) <;> first | (simp; done) | (simp [*]; done))

theorem execFrameTailArrived_kept (pkt : Nat) (rest : Bytes) (s : State) (u : State)
    (h : execFrameTailArrived pkt rest s = .next u) : s.Kept u := by
  obtain rfl := Host.Outcome.next.inj h
  refine State.Kept.of_still ?_
  first
  | (simp; done)
  | ((try dsimp only); (repeat' split) <;> first | (simp; done) | (simp [*]; done))

theorem execHbmInit_kept (m : Master) (stack : Nat) (s : State) (u : State)
    (h : execHbmInit m stack s = .next u) : s.Kept u := by
  obtain rfl := Host.Outcome.next.inj h
  refine State.Kept.of_still ?_
  first
  | (simp; done)
  | ((try dsimp only); (repeat' split) <;> first | (simp; done) | (simp [*]; done))

theorem execHbmInitDone_kept (stack : Nat) (failPc : Option Nat) (s : State) (u : State)
    (h : execHbmInitDone stack failPc s = .next u) : s.Kept u := by
  obtain rfl := Host.Outcome.next.inj h
  refine State.Kept.of_still ?_
  first
  | (simp; done)
  | ((try dsimp only); (repeat' split) <;> first | (simp; done) | (simp [*]; done))

theorem execHbmDlyDataAccess_kept (m : Master) (stack : Nat) (w : Option Word) (s : State) (u : State)
    (h : execHbmDlyDataAccess m stack w s = .next u) : s.Kept u := by
  obtain rfl := Host.Outcome.next.inj h
  refine State.Kept.of_still ?_
  first
  | (simp; done)
  | ((try dsimp only); (repeat' split) <;> first | (simp; done) | (simp [*]; done))

theorem execHbmTempRead_kept (stack : Nat) (t0 : Option (BitVec 16)) (s : State) (u : State)
    (h : execHbmTempRead stack t0 s = .next u) : s.Kept u := by
  obtain rfl := Host.Outcome.next.inj h
  refine State.Kept.of_still ?_
  first
  | (simp; done)
  | ((try dsimp only); (repeat' split) <;> first | (simp; done) | (simp [*]; done))

theorem execRefreshWindowOpen_kept (s : State) (u : State)
    (h : execRefreshWindowOpen s = .next u) : s.Kept u := by
  obtain rfl := Host.Outcome.next.inj h
  refine State.Kept.of_still ?_
  first
  | (simp; done)
  | ((try dsimp only); (repeat' split) <;> first | (simp; done) | (simp [*]; done))

theorem execRefreshWindowClose_kept (stack : Nat) (s : State) (u : State)
    (h : execRefreshWindowClose stack s = .next u) : s.Kept u := by
  obtain rfl := Host.Outcome.next.inj h
  refine State.Kept.of_still ?_
  first
  | (simp; done)
  | ((try dsimp only); (repeat' split) <;> first | (simp; done) | (simp [*]; done))

theorem execHbmCommandIssue_kept (stack : Nat) (q : Nat) (s : State) (u : State)
    (h : execHbmCommandIssue stack q s = .next u) : s.Kept u := by
  obtain rfl := Host.Outcome.next.inj h
  refine State.Kept.of_still ?_
  first
  | (simp; done)
  | ((try dsimp only); (repeat' split) <;> first | (simp; done) | (simp [*]; done))

theorem execHbmReadComplete_kept (req : Nat) (f : MemFinding) (s : State) (u : State)
    (h : execHbmReadComplete req f s = .next u) : s.Kept u := by
  obtain rfl := Host.Outcome.next.inj h
  refine State.Kept.of_still ?_
  first
  | (simp; done)
  | ((try dsimp only); (repeat' split) <;> first | (simp; done) | (simp [*]; done))

theorem execHbmWriteRetire_kept (req : Nat) (rmwUncorrectable : Bool) (s : State) (u : State)
    (h : execHbmWriteRetire req rmwUncorrectable s = .next u) : s.Kept u := by
  obtain rfl := Host.Outcome.next.inj h
  refine State.Kept.of_still ?_
  first
  | (simp; done)
  | ((try dsimp only); (repeat' split) <;> first | (simp; done) | (simp [*]; done))

theorem execRequestOverdue_kept (req : Nat) (s : State) (u : State)
    (h : execRequestOverdue req s = .next u) : s.Kept u := by
  obtain rfl := Host.Outcome.next.inj h
  refine State.Kept.of_still ?_
  first
  | (simp; done)
  | ((try dsimp only); (repeat' split) <;> first | (simp; done) | (simp [*]; done))

theorem execScrubRead_kept (stack : Nat) (word : Nat) (f : MemFinding) (s : State) (u : State)
    (h : execScrubRead stack word f s = .next u) : s.Kept u := by
  obtain rfl := Host.Outcome.next.inj h
  refine State.Kept.of_still ?_
  first
  | (simp; done)
  | ((try dsimp only); (repeat' split) <;> first | (simp; done) | (simp [*]; done))

theorem execDrqLatMaxRead_kept (m : Master) (s : State) (u : State)
    (h : execDrqLatMaxRead m s = .next u) : s.Kept u := by
  obtain rfl := Host.Outcome.next.inj h
  exact State.Kept.of_still (State.onRead_still s _ _ _ _ (fun _ => rfl))

theorem execTdmDescriptorTakeup_kept (r : HostRead) (s : State) (u : State)
    (h : execTdmDescriptorTakeup r s = .next u) : s.Kept u := by
  obtain rfl := Host.Outcome.next.inj h
  refine State.Kept.of_still ?_
  first
  | (simp; done)
  | ((try dsimp only); (repeat' split) <;> first | (simp; done) | (simp [*]; done))

theorem execTdmDescriptorReadRetry_kept (r : HostRead) (s : State) (u : State)
    (h : execTdmDescriptorReadRetry r s = .next u) : s.Kept u := by
  obtain rfl := Host.Outcome.next.inj h
  refine State.Kept.of_still ?_
  first
  | (simp; done)
  | ((try dsimp only); (repeat' split) <;> first | (simp; done) | (simp [*]; done))

theorem execTdmLoad_kept (r : HostRead) (s : State) (u : State)
    (h : execTdmLoad r s = .next u) : s.Kept u := by
  obtain rfl := Host.Outcome.next.inj h
  refine State.Kept.of_still ?_
  first
  | (simp; done)
  | ((try dsimp only); (repeat' split) <;> first | (simp; done) | (simp [*]; done))

theorem execTdmWrite_kept (r : HostRead) (s : State) (u : State)
    (h : execTdmWrite r s = .next u) : s.Kept u := by
  obtain rfl := Host.Outcome.next.inj h
  refine State.Kept.of_still ?_
  first
  | (simp; done)
  | ((try dsimp only); (repeat' split) <;> first | (simp; done) | (simp [*]; done))

theorem execTdmRead_kept (writeOk : Bool) (s : State) (u : State)
    (h : execTdmRead writeOk s = .next u) : s.Kept u := by
  obtain rfl := Host.Outcome.next.inj h
  refine State.Kept.of_still ?_
  first
  | (simp; done)
  | ((try dsimp only); (repeat' split) <;> first | (simp; done) | (simp [*]; done))

theorem execTdmInsert_kept (r : HostRead) (bad : List BadCell) (s : State) (u : State)
    (h : execTdmInsert r bad s = .next u) : s.Kept u := by
  obtain rfl := Host.Outcome.next.inj h
  refine State.Kept.of_still ?_
  first
  | (simp; done)
  | ((try dsimp only); (repeat' split) <;> first | (simp; done) | (simp [*]; done))

theorem execTdmRemove_kept (r : HostRead) (bad : List BadCell) (s : State) (u : State)
    (h : execTdmRemove r bad s = .next u) : s.Kept u := by
  obtain rfl := Host.Outcome.next.inj h
  refine State.Kept.of_still ?_
  first
  | (simp; done)
  | ((try dsimp only); (repeat' split) <;> first | (simp; done) | (simp [*]; done))

theorem execTdmBadOp_kept (s : State) (u : State)
    (h : execTdmBadOp s = .next u) : s.Kept u := by
  obtain rfl := Host.Outcome.next.inj h
  refine State.Kept.of_still ?_
  first
  | (simp; done)
  | ((try dsimp only); (repeat' split) <;> first | (simp; done) | (simp [*]; done))

theorem execTdmProfileApply_kept (m : Master) (s : State) (u : State)
    (h : execTdmProfileApply m s = .next u) : s.Kept u := by
  obtain rfl := Host.Outcome.next.inj h
  refine State.Kept.of_still ?_
  first
  | (simp; done)
  | ((try dsimp only); (repeat' split) <;> first | (simp; done) | (simp [*]; done))

theorem execProfileApplyDone_kept (s : State) (u : State)
    (h : execProfileApplyDone s = .next u) : s.Kept u := by
  obtain rfl := Host.Outcome.next.inj h
  refine State.Kept.of_still ?_
  first
  | (simp; done)
  | ((try dsimp only); (repeat' split) <;> first | (simp; done) | (simp [*]; done))

theorem execLearnRequest_kept (bad : List BadCell) (s : State) (u : State)
    (h : execLearnRequest bad s = .next u) : s.Kept u := by
  obtain rfl := Host.Outcome.next.inj h
  refine State.Kept.of_still ?_
  first
  | (simp; done)
  | ((try dsimp only); (repeat' split) <;> first | (simp; done) | (simp [*]; done))

theorem execLrnPostGo_kept (m : Master) (s : State) (u : State)
    (h : execLrnPostGo m s = .next u) : s.Kept u := by
  obtain rfl := Host.Outcome.next.inj h
  refine State.Kept.of_still ?_
  first
  | (simp; done)
  | ((try dsimp only); (repeat' split) <;> first | (simp; done) | (simp [*]; done))

theorem execLrnPostRemove_kept (m : Master) (s : State) (u : State)
    (h : execLrnPostRemove m s = .next u) : s.Kept u := by
  obtain rfl := Host.Outcome.next.inj h
  refine State.Kept.of_still ?_
  first
  | (simp; done)
  | ((try dsimp only); (repeat' split) <;> first | (simp; done) | (simp [*]; done))

theorem execLearnAgeSweep_kept (s : State) (u : State)
    (h : execLearnAgeSweep s = .next u) : s.Kept u := by
  obtain rfl := Host.Outcome.next.inj h
  refine State.Kept.of_still ?_
  first
  | (simp; done)
  | ((try dsimp only); (repeat' split) <;> first | (simp; done) | (simp [*]; done))

theorem execShadowCompare_kept (lpm : List HostRead) (exm : List HostRead) (bad : List BadCell) (s : State) (u : State)
    (h : execShadowCompare lpm exm bad s = .next u) : s.Kept u := by
  obtain rfl := Host.Outcome.next.inj h
  refine State.Kept.of_still ?_
  first
  | (simp; done)
  | ((try dsimp only); (repeat' split) <;> first | (simp; done) | (simp [*]; done))

theorem execShadowConfirm_kept (r : HostRead) (f : MemFinding) (s : State) (u : State)
    (h : execShadowConfirm r f s = .next u) : s.Kept u := by
  obtain rfl := Host.Outcome.next.inj h
  refine State.Kept.of_still ?_
  first
  | (simp; done)
  | ((try dsimp only); (repeat' split) <;> first | (simp; done) | (simp [*]; done))

theorem execPuntWrite_kept (ring : Nat) (entry : HostRead) (s : State) (u : State)
    (h : execPuntWrite ring entry s = .next u) : s.Kept u := by
  obtain rfl := Host.Outcome.next.inj h
  refine State.Kept.of_still ?_
  first
  | (simp; done)
  | ((try dsimp only); (repeat' split) <;> first | (simp; done) | (simp [*]; done))

theorem execInjectFetch_kept (ring : Nat) (entry : HostRead) (frame : HostRead) (s : State) (u : State)
    (h : execInjectFetch ring entry frame s = .next u) : s.Kept u := by
  obtain rfl := Host.Outcome.next.inj h
  refine State.Kept.of_still ?_
  first
  | (simp; done)
  | ((try dsimp only); (repeat' split) <;> first | (simp; done) | (simp [*]; done))

theorem execHdmErrRead_kept (m : Master) (ring : Nat) (s : State) (u : State)
    (h : execHdmErrRead m ring s = .next u) : s.Kept u := by
  obtain rfl := Host.Outcome.next.inj h
  refine State.Kept.of_still ?_
  first
  | (simp; done)
  | ((try dsimp only); (repeat' split) <;> first | (simp; done) | (simp [*]; done))

theorem execContainmentEnter_kept (cause : Nat) (s : State) (u : State)
    (h : execContainmentEnter cause s = .next u) : s.Kept u := by
  obtain rfl := Host.Outcome.next.inj h
  refine State.Kept.of_still ?_
  first
  | (simp; done)
  | ((try dsimp only); (repeat' split) <;> first | (simp; done) | (simp [*]; done))

theorem execHifContain_kept (m : Master) (s : State) (u : State)
    (h : execHifContain m s = .next u) : s.Kept u := by
  obtain rfl := Host.Outcome.next.inj h
  refine State.Kept.of_still ?_
  first
  | (simp; done)
  | ((try dsimp only); (repeat' split) <;> first | (simp; done) | (simp [*]; done))

theorem execHifRelease_kept (m : Master) (s : State) (u : State)
    (h : execHifRelease m s = .next u) : s.Kept u := by
  obtain rfl := Host.Outcome.next.inj h
  refine State.Kept.of_still ?_
  first
  | (simp; done)
  | ((try dsimp only); (repeat' split) <;> first | (simp; done) | (simp [*]; done))

theorem execPuntHoldExpire_kept (s : State) (u : State)
    (h : execPuntHoldExpire s = .next u) : s.Kept u := by
  obtain rfl := Host.Outcome.next.inj h
  refine State.Kept.of_still ?_
  first
  | (simp; done)
  | ((try dsimp only); (repeat' split) <;> first | (simp; done) | (simp [*]; done))

theorem execHostLinkUp_kept (gen : Nat) (width : Nat) (s : State) (u : State)
    (h : execHostLinkUp gen width s = .next u) : s.Kept u := by
  obtain rfl := Host.Outcome.next.inj h
  refine State.Kept.of_still ?_
  first
  | (simp; done)
  | ((try dsimp only); (repeat' split) <;> first | (simp; done) | (simp [*]; done))

theorem execCompletionReceived_kept (tag : Nat) (last : Bool) (err : Bool) (s : State) (u : State)
    (h : execCompletionReceived tag last err s = .next u) : s.Kept u := by
  obtain rfl := Host.Outcome.next.inj h
  refine State.Kept.of_still ?_
  first
  | (simp; done)
  | ((try dsimp only); (repeat' split) <;> first | (simp; done) | (simp [*]; done))

theorem execCompletionTimeout_kept (tag : Nat) (s : State) (u : State)
    (h : execCompletionTimeout tag s = .next u) : s.Kept u := by
  obtain rfl := Host.Outcome.next.inj h
  refine State.Kept.of_still ?_
  first
  | (simp; done)
  | ((try dsimp only); (repeat' split) <;> first | (simp; done) | (simp [*]; done))

theorem execTagQuarantineEnd_kept (tag : Nat) (s : State) (u : State)
    (h : execTagQuarantineEnd tag s = .next u) : s.Kept u := by
  obtain rfl := Host.Outcome.next.inj h
  refine State.Kept.of_still ?_
  first
  | (simp; done)
  | ((try dsimp only); (repeat' split) <;> first | (simp; done) | (simp [*]; done))

theorem execBusMasterEnableChange_kept (on : Bool) (s : State) (u : State)
    (h : execBusMasterEnableChange on s = .next u) : s.Kept u := by
  obtain rfl := Host.Outcome.next.inj h
  refine State.Kept.of_still ?_
  first
  | (simp; done)
  | ((try dsimp only); (repeat' split) <;> first | (simp; done) | (simp [*]; done))

theorem execUserCounterRead_kept (off : Nat) (len : Nat) (s : State) (u : State)
    (h : execUserCounterRead off len s = .next u) : s.Kept u := by
  obtain rfl := Host.Outcome.next.inj h
  refine State.Kept.of_still ?_
  first
  | (simp; done)
  | ((try dsimp only); (repeat' split) <;> first | (simp; done) | (simp [*]; done))

theorem execPairLinkFrame_kept (b : Bytes) (s : State) (u : State)
    (h : execPairLinkFrame b s = .next u) : s.Kept u := by
  obtain rfl := Host.Outcome.next.inj h
  refine State.Kept.of_still ?_
  first
  | (simp; done)
  | ((try dsimp only); (repeat' split) <;> first | (simp; done) | (simp [*]; done))

theorem execGotoStandby_kept (m : Master) (s : State) (u : State)
    (h : execGotoStandby m s = .next u) : s.Kept u := by
  obtain rfl := Host.Outcome.next.inj h
  exact State.onWrite_kept (fun t => State.goto_kept t _)

theorem execGotoReady_kept (m : Master) (s : State) (u : State)
    (h : execGotoReady m s = .next u) : s.Kept u := by
  obtain rfl := Host.Outcome.next.inj h
  exact State.onWrite_kept (fun t => State.goto_kept t _)

theorem execGotoService_kept (m : Master) (s : State) (u : State)
    (h : execGotoService m s = .next u) : s.Kept u := by
  obtain rfl := Host.Outcome.next.inj h
  exact State.onWrite_kept (fun t => State.goto_kept t _)

theorem execGotoDrain_kept (m : Master) (s : State) (u : State)
    (h : execGotoDrain m s = .next u) : s.Kept u := by
  obtain rfl := Host.Outcome.next.inj h
  exact State.onWrite_kept (fun t => State.goto_kept t _)

theorem execDomainSwitchOn_kept (ready : Bool) (s : State) (u : State)
    (h : execDomainSwitchOn ready s = .next u) : s.Kept u := by
  obtain rfl := Host.Outcome.next.inj h
  refine State.Kept.of_still ?_
  first
  | (simp; done)
  | ((try dsimp only); (repeat' split) <;> first | (simp; done) | (simp [*]; done))

theorem execDomainReadyTimeout_kept (s : State) (u : State)
    (h : execDomainReadyTimeout s = .next u) : s.Kept u := by
  obtain rfl := Host.Outcome.next.inj h
  refine State.Kept.of_still ?_
  first
  | (simp; done)
  | ((try dsimp only); (repeat' split) <;> first | (simp; done) | (simp [*]; done))

theorem execDomainSwitchOff_kept (s : State) (u : State)
    (h : execDomainSwitchOff s = .next u) : s.Kept u := by
  unfold execDomainSwitchOff at h
  obtain rfl := Host.Outcome.next.inj h
  split
  · exact State.Kept.refl s
  · exact State.domainOff_kept s _

theorem execGovernorTick_kept (riseF : Nat) (riseT : Nat) (s : State) (u : State)
    (h : execGovernorTick riseF riseT s = .next u) : s.Kept u := by
  obtain rfl := Host.Outcome.next.inj h
  refine State.Kept.of_still ?_
  first
  | (simp; done)
  | ((try dsimp only); (repeat' split) <;> first | (simp; done) | (simp [*]; done))

theorem execThermalRead_kept (t0 : List (Option (BitVec 16))) (s : State) (u : State)
    (h : execThermalRead t0 s = .next u) : s.Kept u := by
  unfold execThermalRead at h
  dsimp only at h
  obtain rfl := Host.Outcome.next.inj h
  split
  · exact State.Kept.trans (State.Kept.of_still (by simp)) (State.thermalTrip_kept _ _)
  · exact State.Kept.of_still (by simp)

theorem execSeatedDeasserted_kept (s : State) (u : State)
    (h : execSeatedDeasserted s = .next u) : s.Kept u := by
  unfold execSeatedDeasserted at h
  dsimp only at h
  obtain rfl := Host.Outcome.next.inj h
  exact State.Kept.still (State.Kept.trans (State.Kept.of_still (State.pins_still s _)) (State.enterStandby_kept _ 4))
    (State.linksSettle_still _)

theorem execPgInFall_kept (n : Nat) (s : State) (u : State)
    (h : execPgInFall n s = .next u) : s.Kept u := by
  unfold execPgInFall at h
  dsimp only at h
  obtain rfl := Host.Outcome.next.inj h
  exact State.Kept.ite (fun _ => State.Kept.trans (State.Kept.of_still ((State.trb_still _ _ _).trans (State.pins_still s _)))
      (State.enterStandby_kept _ 5))
    (fun _ => State.Kept.refl s)

theorem execPgInChange_kept (levels : Byte) (s : State) (u : State)
    (h : execPgInChange levels s = .next u) : s.Kept u := by
  obtain rfl := Host.Outcome.next.inj h
  refine State.Kept.of_still ?_
  first
  | (simp; done)
  | ((try dsimp only); (repeat' split) <;> first | (simp; done) | (simp [*]; done))

theorem execWake_kept (src : Nat) (s : State) (u : State)
    (h : execWake src s = .next u) : s.Kept u := by
  obtain rfl := Host.Outcome.next.inj h
  refine State.Kept.of_still ?_
  first
  | (simp; done)
  | ((try dsimp only); (repeat' split) <;> first | (simp; done) | (simp [*]; done))

theorem execAonWakeTimer_kept (s : State) (u : State)
    (h : execAonWakeTimer s = .next u) : s.Kept u := by
  obtain rfl := Host.Outcome.next.inj h
  refine State.Kept.of_still ?_
  first
  | (simp; done)
  | ((try dsimp only); (repeat' split) <;> first | (simp; done) | (simp [*]; done))

theorem execEndOfCold_kept (s : State) (u : State)
    (h : execEndOfCold s = .next u) : s.Kept u := by
  obtain rfl := Host.Outcome.next.inj h
  refine State.Kept.of_still ?_
  first
  | (simp; done)
  | ((try dsimp only); (repeat' split) <;> first | (simp; done) | (simp [*]; done))

theorem execTdmStageFw_kept (r : HostRead) (s : State) (u : State)
    (h : execTdmStageFw r s = .next u) : s.Kept u := by
  obtain rfl := Host.Outcome.next.inj h
  refine State.Kept.of_still ?_
  first
  | (simp; done)
  | ((try dsimp only); (repeat' split) <;> first | (simp; done) | (simp [*]; done))

theorem execBootStart_kept (s : State) (u : State)
    (h : execBootStart s = .next u) : s.Kept u := by
  obtain rfl := Host.Outcome.next.inj h
  refine State.Kept.of_still ?_
  first
  | (simp; done)
  | ((try dsimp only); (repeat' split) <;> first | (simp; done) | (simp [*]; done))

theorem execCandidateAccepted_kept (s : State) (u : State)
    (h : execCandidateAccepted s = .next u) : s.Kept u := by
  obtain rfl := Host.Outcome.next.inj h
  refine State.Kept.of_still ?_
  first
  | (simp; done)
  | ((try dsimp only); (repeat' split) <;> first | (simp; done) | (simp [*]; done))

theorem execFlashCopy_kept (verifyOk : Bool) (s : State) (u : State)
    (h : execFlashCopy verifyOk s = .next u) : s.Kept u := by
  obtain rfl := Host.Outcome.next.inj h
  refine State.Kept.of_still ?_
  first
  | (simp; done)
  | ((try dsimp only); (repeat' split) <;> first | (simp; done) | (simp [*]; done))

theorem execBootTraverse_kept (m : Master) (s : State) (u : State)
    (h : execBootTraverse m s = .next u) : s.Kept u := by
  obtain rfl := Host.Outcome.next.inj h
  refine State.Kept.of_still ?_
  first
  | (simp; done)
  | ((try dsimp only); (repeat' split) <;> first | (simp; done) | (simp [*]; done))

theorem execBootLive_kept (m : Master) (s : State) (u : State)
    (h : execBootLive m s = .next u) : s.Kept u := by
  obtain rfl := Host.Outcome.next.inj h
  refine State.Kept.of_still ?_
  first
  | (simp; done)
  | ((try dsimp only); (repeat' split) <;> first | (simp; done) | (simp [*]; done))

theorem execHeadlessTimeout_kept (s : State) (u : State)
    (h : execHeadlessTimeout s = .next u) : s.Kept u := by
  obtain rfl := Host.Outcome.next.inj h
  refine State.Kept.of_still ?_
  first
  | (simp; done)
  | ((try dsimp only); (repeat' split) <;> first | (simp; done) | (simp [*]; done))

theorem execBootUnstage_kept (m : Master) (s : State) (u : State)
    (h : execBootUnstage m s = .next u) : s.Kept u := by
  obtain rfl := Host.Outcome.next.inj h
  refine State.Kept.of_still ?_
  first
  | (simp; done)
  | ((try dsimp only); (repeat' split) <;> first | (simp; done) | (simp [*]; done))

theorem execSecAttest_kept (m : Master) (s : State) (u : State)
    (h : execSecAttest m s = .next u) : s.Kept u := by
  obtain rfl := Host.Outcome.next.inj h
  refine State.Kept.of_still ?_
  first
  | (simp; done)
  | ((try dsimp only); (repeat' split) <;> first | (simp; done) | (simp [*]; done))

theorem execAttestDone_kept (dmaOk : Bool) (s : State) (u : State)
    (h : execAttestDone dmaOk s = .next u) : s.Kept u := by
  obtain rfl := Host.Outcome.next.inj h
  refine State.Kept.of_still ?_
  first
  | (simp; done)
  | ((try dsimp only); (repeat' split) <;> first | (simp; done) | (simp [*]; done))

theorem execSecCommit_kept (m : Master) (s : State) (u : State)
    (h : execSecCommit m s = .next u) : s.Kept u := by
  obtain rfl := Host.Outcome.next.inj h
  refine State.Kept.of_still ?_
  first
  | (simp; done)
  | ((try dsimp only); (repeat' split) <;> first | (simp; done) | (simp [*]; done))

theorem execCommitDone_kept (ok : Bool) (s : State) (u : State)
    (h : execCommitDone ok s = .next u) : s.Kept u := by
  obtain rfl := Host.Outcome.next.inj h
  refine State.Kept.of_still ?_
  first
  | (simp; done)
  | ((try dsimp only); (repeat' split) <;> first | (simp; done) | (simp [*]; done))

theorem execSecFuseRead_kept (m : Master) (s : State) (u : State)
    (h : execSecFuseRead m s = .next u) : s.Kept u := by
  obtain rfl := Host.Outcome.next.inj h
  refine State.Kept.of_still ?_
  first
  | (simp; done)
  | ((try dsimp only); (repeat' split) <;> first | (simp; done) | (simp [*]; done))

theorem execWatchdogExpire_kept (core : Nat) (s : State) (u : State)
    (h : execWatchdogExpire core s = .next u) : s.Kept u := by
  obtain rfl := Host.Outcome.next.inj h
  refine State.Kept.of_still ?_
  first
  | (simp; done)
  | ((try dsimp only); (repeat' split) <;> first | (simp; done) | (simp [*]; done))

theorem execMirrorWrite_kept (s : State) (u : State)
    (h : execMirrorWrite s = .next u) : s.Kept u := by
  obtain rfl := Host.Outcome.next.inj h
  refine State.Kept.of_still ?_
  first
  | (simp; done)
  | ((try dsimp only); (repeat' split) <;> first | (simp; done) | (simp [*]; done))

theorem execPitchBoundary_kept (s : State) (u : State)
    (h : execPitchBoundary s = .next u) : s.Kept u := by
  obtain rfl := Host.Outcome.next.inj h
  refine State.Kept.of_still ?_
  first
  | (simp; done)
  | ((try dsimp only); (repeat' split) <;> first | (simp; done) | (simp [*]; done))

theorem execEpochBoundary_kept (s : State) (u : State)
    (h : execEpochBoundary s = .next u) : s.Kept u := by
  obtain rfl := Host.Outcome.next.inj h
  refine State.Kept.of_still ?_
  first
  | (simp; done)
  | ((try dsimp only); (repeat' split) <;> first | (simp; done) | (simp [*]; done))

theorem execCairnPost_kept (m : Master) (slot : Nat) (s : State) (u : State)
    (h : execCairnPost m slot s = .next u) : s.Kept u := by
  obtain rfl := Host.Outcome.next.inj h
  exact State.Kept.ite (fun _ => State.onWrite_kept (fun t => State.crnGo_kept t m slot _)) (fun _ => State.Kept.refl s)

theorem execCairnCancel_kept (m : Master) (slot : Nat) (seq : Nat) (s : State) (u : State)
    (h : execCairnCancel m slot seq s = .next u) : s.Kept u := by
  obtain rfl := Host.Outcome.next.inj h
  exact State.Kept.ite (fun _ => State.onWrite_kept (fun t => State.crnGo_kept t m slot _)) (fun _ => State.Kept.refl s)

theorem execCairnCommit_kept (s : State) (u : State)
    (h : execCairnCommit s = .next u) : s.Kept u := by
  obtain rfl := Host.Outcome.next.inj h
  exact State.Kept.ite (fun _ => State.commitAll_kept s) (fun _ => State.Kept.refl s)

theorem execBankRetire_kept (page : Nat) (s : State) (u : State)
    (h : execBankRetire page s = .next u) : s.Kept u := by
  obtain rfl := Host.Outcome.next.inj h
  refine State.Kept.of_still ?_
  first
  | (simp; done)
  | ((try dsimp only); (repeat' split) <;> first | (simp; done) | (simp [*]; done))

theorem execCairnRepeat_kept (seq : Nat) (s : State) (u : State)
    (h : execCairnRepeat seq s = .next u) : s.Kept u := by
  obtain rfl := Host.Outcome.next.inj h
  exact State.crnRepeat_kept s seq

theorem execCairnCellReceived_kept (link : Nat) (c : CairnCell) (s : State) (u : State)
    (h : execCairnCellReceived link c s = .next u) : s.Kept u := by
  obtain rfl := Host.Outcome.next.inj h
  exact State.Kept.ite (fun _ => State.cairnIn_kept s link c) (fun _ => State.Kept.refl s)

theorem execRegisterWrite_kept (m : Master) (page : Nat) (off : Nat) (size : Nat) (v : Word) (s : State) (u : State)
    (h : execRegisterWrite m page off size v s = .next u) : s.Kept u := by
  obtain rfl := Host.Outcome.next.inj h
  exact State.Kept.ite (fun _ => State.writeDword_kept s _ _ _ _) (fun _ => State.Kept.of_still (State.ur_still _ _ _ _))

theorem execLowDwordRead_kept (m : Master) (page : Nat) (off : Nat) (s : State) (u : State)
    (h : execLowDwordRead m page off s = .next u) : s.Kept u := by
  obtain rfl := Host.Outcome.next.inj h
  exact State.Kept.of_still (State.readDword_still s _ _ _)

theorem execHighDwordWrite_kept (m : Master) (page : Nat) (off : Nat) (v : Word) (s : State) (u : State)
    (h : execHighDwordWrite m page off v s = .next u) : s.Kept u := by
  obtain rfl := Host.Outcome.next.inj h
  exact State.Kept.ite (fun _ => State.writeDword_kept s _ _ _ _) (fun _ => State.Kept.refl s)

theorem execBlkEnWrite_kept (m : Master) (page : Nat) (en : Bool) (s : State) (u : State)
    (h : execBlkEnWrite m page en s = .next u) : s.Kept u := by
  obtain rfl := Host.Outcome.next.inj h
  refine State.Kept.of_still ?_
  first
  | (simp; done)
  | ((try dsimp only); (repeat' split) <;> first | (simp; done) | (simp [*]; done))

theorem execWinSwap_kept (m : Master) (req : Byte) (s : State) (u : State)
    (h : execWinSwap m req s = .next u) : s.Kept u := by
  obtain rfl := Host.Outcome.next.inj h
  refine State.Kept.of_still ?_
  first
  | (simp; done)
  | ((try dsimp only); (repeat' split) <;> first | (simp; done) | (simp [*]; done))

theorem execCellReceived_kept (link : Nat) (b : Bytes) (bad : List BadCell) (s : State) (u : State)
    (h : execCellReceived link b bad s = .next u) : s.Kept u := by
  obtain rfl := Host.Outcome.next.inj h
  exact State.cellIn_kept s bad link b

theorem execBar2WindowAccess_kept (addr : Nat) (len : Nat) (w : Option Bytes) (s : State) (u : State)
    (h : execBar2WindowAccess addr len w s = .next u) : s.Kept u := by
  obtain rfl := Host.Outcome.next.inj h
  exact State.Kept.ite (fun _ => State.Kept.of_still (State.hostUr_still _)) (fun _ =>
    State.Kept.ite (fun _ => State.Kept.of_still rfl) (fun _ => State.winServe_kept s _))

theorem execMtRequestReceived_kept (link : Nat) (c : MtCell) (s : State) (u : State)
    (h : execMtRequestReceived link c s = .next u) : s.Kept u := by
  obtain rfl := Host.Outcome.next.inj h
  exact State.Kept.ite (fun _ => State.mtRequest_kept s link c) (fun _ => State.Kept.refl s)

theorem execMtResponseReceived_kept (link0 : Nat) (c : MtCell) (s : State) (u : State)
    (h : execMtResponseReceived link0 c s = .next u) : s.Kept u := by
  obtain rfl := Host.Outcome.next.inj h
  refine State.Kept.of_still ?_
  first
  | (simp; done)
  | ((try dsimp only); (repeat' split) <;> first | (simp; done) | (simp [*]; done))

theorem execMtTimeout_kept (tag : Nat) (s : State) (u : State)
    (h : execMtTimeout tag s = .next u) : s.Kept u := by
  obtain rfl := Host.Outcome.next.inj h
  refine State.Kept.of_still ?_
  first
  | (simp; done)
  | ((try dsimp only); (repeat' split) <;> first | (simp; done) | (simp [*]; done))

theorem execWinSwapComplete_kept (n : Nat) (s : State) (u : State)
    (h : execWinSwapComplete n s = .next u) : s.Kept u := by
  obtain rfl := Host.Outcome.next.inj h
  exact State.Kept.ite (fun _ => State.winSwapDone_kept s n) (fun _ => State.Kept.refl s)

theorem execWinSwapHoldTimeout_kept (n : Nat) (s : State) (u : State)
    (h : execWinSwapHoldTimeout n s = .next u) : s.Kept u := by
  obtain rfl := Host.Outcome.next.inj h
  refine State.Kept.of_still ?_
  first
  | (simp; done)
  | ((try dsimp only); (repeat' split) <;> first | (simp; done) | (simp [*]; done))

theorem execTapClock_kept (tms : Bool) (tdi : Bool) (s : State) (u : State)
    (h : execTapClock tms tdi s = .next u) : s.Kept u := by
  obtain rfl := Host.Outcome.next.inj h
  exact State.tapClock_kept s tms tdi

end Sys2Proof.Machine
end

