-- ==== Sys2Proof/Laws/Lanes.lean ====
section
/-! SUPPORT. Which operations leave the packets between the stages of the path as they are: those that wait for a second pass
and for admission, and the frames in each port's input FIFO. -/
namespace Sys2Proof.Machine

/-- The packets that wait for a second pass and for admission, and each input FIFO. -/
def State.lanes (s : State) : List Packet × List Packet × (Nat → List InFrame) :=
  (s.path.recirc, s.path.d2d, fun p => (s.port p).fifo)

theorem State.lanes_of_path {s t : State} (h : t.path = s.path) : t.lanes = s.lanes := by
  unfold State.lanes State.port
  rw [h]

theorem State.lanes_mk_path (s : State) (x : PathSt) (h : ({ s with path := x } : State).lanes = s.lanes) : ({ s with path := x } : State).lanes = s.lanes := h

@[simp] theorem State.lanes_foldl {α : Type} {f : State → α → State} (h : ∀ (t : State) (x : α), (f t x).lanes = t.lanes)
    (l : List α) (s : State) : (l.foldl f s).lanes = s.lanes := by
  induction l generalizing s with
  | nil => rfl
  | cons x l ih => rw [List.foldl_cons, ih, h]

@[simp] theorem State.lanes_foldl_fst {α β : Type} {f : State × β → α → State × β}
    (h : ∀ (t : State × β) (x : α), (f t x).1.lanes = t.1.lanes)
    (l : List α) (s : State × β) : (l.foldl f s).1.lanes = s.1.lanes := by
  induction l generalizing s with
  | nil => rfl
  | cons x l ih => rw [List.foldl_cons, ih, h]

@[simp] theorem State.lanes_if (c : Prop) [Decidable c] (a b : State) :
    (if c then a else b).lanes = if c then a.lanes else b.lanes := by
  split <;> rfl

theorem State.lanes_fst {α : Type} {x : State × α} {t : State} {a : α} (h : x = (t, a)) : t.lanes = x.1.lanes := by rw [h]

theorem State.lanes_snd {α : Type} {x : α × State} {t : State} {a : α} (h : x = (a, t)) : t.lanes = x.2.lanes := by rw [h]

@[simp] theorem State.lanes_setPort (s : State) (p : Nat) (x : PortSt) (h : x.fifo = (s.port p).fifo) :
    (s.setPort p x).lanes = s.lanes := by
  unfold State.lanes
  refine congrArg (fun f => (s.path.recirc, s.path.d2d, f)) (funext fun q => ?_)
  unfold State.port State.setPort at *
  dsimp only
  by_cases e : q = p
  · subst e
    rw [SMap.get_set_same, h]
  · rw [SMap.get_set_ne (by first | exact e | exact fun c => e c.symm)]

@[simp] theorem State.lanes_mk (s : State) (x0 : Regs) (x1 : Pins) (x2 : TimeSt) (x3 : SpineSt) (x4 : PairSt) (x5 : CairnSt) (x6 : Banks) (x7 : PathSt) (x8 : ExmSt) (x9 : LearnSt) (x10 : Tables) (x11 : BufSt) (x12 : QueueSt) (x13 : SMap SchedPort) (x14 : SMap GatePort) (x15 : LatSt) (x16 : FabSt) (x17 : HbmSt) (x18 : HostSt) (x19 : IcuSt) (x20 : MgtSt) (x21 : BootSt) (x22 : SecSt) (x23 : PwrSt) (x24 : PmuSt) (x25 : TdmSt) (x26 : ShdSt) (x27 : RstSt) (x28 : TapSt) (x29 : D2dSt) (x30 : Nat) (x31 : List Emit)
    (h : x7.ports = s.path.ports) (h1 : x7.recirc = s.path.recirc) (h2 : x7.d2d = s.path.d2d) :
    (State.mk x0 x1 x2 x3 x4 x5 x6 x7 x8 x9 x10 x11 x12 x13 x14 x15 x16 x17 x18 x19 x20 x21 x22 x23 x24 x25 x26 x27 x28 x29 x30 x31 s.pending).lanes = s.lanes := by
  unfold State.lanes State.port
  dsimp only
  rw [h, h1, h2]

@[simp] theorem State.wpf_port (s : State) (f : Fld) (p v q : Nat) : (s.wpf f p v).port q = s.port q := rfl

@[simp] theorem State.emit_port (s : State) (e : Emit) (q : Nat) : (s.emit e).port q = s.port q := rfl


@[simp] theorem State.wrp_lanes (s : State) (pg : Nat) (f : Sys2Proof.Machine.Fld) (i : Nat) (v : Nat) : (State.wrp s pg f i v).lanes = s.lanes := by
  exact State.lanes_of_path (State.of_but_path (u := 1) (State.wrp_but (by decide) s pg f i v) (by decide))

@[simp] theorem State.wri_lanes (s : State) (f : Sys2Proof.Machine.Fld) (i : Nat) (v : Nat) : (State.wri s f i v).lanes = s.lanes := by
  exact State.lanes_of_path (State.of_but_path (u := 1) (State.wri_but (by decide) s f i v) (by decide))

@[simp] theorem State.wr_lanes (s : State) (f : Sys2Proof.Machine.Fld) (v : Nat) : (State.wr s f v).lanes = s.lanes := by
  exact State.lanes_of_path (State.of_but_path (u := 1) (State.wr_but (by decide) s f v) (by decide))

@[simp] theorem State.addp_lanes (s : State) (pg : Nat) (f : Sys2Proof.Machine.Fld) (i : Nat) (n : Nat) : (State.addp s pg f i n).lanes = s.lanes := by
  exact State.lanes_of_path (State.of_but_path (u := 1) (State.addp_but (by decide) s pg f i n) (by decide))

@[simp] theorem State.emit_lanes (s : State) (e : Sys2Proof.Machine.Emit) : (State.emit s e).lanes = s.lanes := by
  exact State.lanes_of_path (State.of_but_path (u := 2147483648) (State.emit_but (by decide) s e) (by decide))

@[simp] theorem State.draw_lanes (s : State) : (State.draw s).lanes = s.lanes := by
  exact State.lanes_of_path (State.of_but_path (u := 1073741824) (State.draw_but (by decide) s) (by decide))

@[simp] theorem State.evt_lanes (s : State) (pg : Nat) (k : Nat) : (State.evt s pg k).lanes = s.lanes := by
  exact State.lanes_of_path (State.of_but_path (u := 1) (State.evt_but (by decide) s pg k) (by decide))

@[simp] theorem State.eventRecord_lanes (s : State) (ring : Nat) (rec : Sys2Proof.Bytes) : (State.eventRecord s ring rec).lanes = s.lanes := by
  exact State.lanes_of_path (State.of_but_path (u := 2147483649) (State.eventRecord_but (by decide) s ring rec) (by decide))

@[simp] theorem State.troubleRecord_lanes (s : State) (kind : Nat) (pg : Nat) (k : Nat) (window : Nat) (value : Nat) (loc : Nat) : (State.troubleRecord s kind pg k window value loc).lanes = s.lanes := by
  exact State.lanes_of_path (State.of_but_path (u := 2147483649) (State.troubleRecord_but (by decide) s kind pg k window value loc) (by decide))

@[simp] theorem State.windowCount_lanes (s : State) (pg : Nat) (k : Nat) (n : Nat) : (State.windowCount s pg k n).lanes = s.lanes := by
  exact State.lanes_of_path (State.of_but_path (u := 2147483649) (State.windowCount_but (by decide) s pg k n) (by decide))

@[simp] theorem State.trbSet_lanes (s : State) (pg : Nat) (k : Nat) (v : Nat) : (State.trbSet s pg k v).lanes = s.lanes := by
  exact State.lanes_of_path (State.of_but_path (u := 1) (State.trbSet_but (by decide) s pg k v) (by decide))

@[simp] theorem State.trbCore_lanes (s : State) (pg : Nat) (k : Nat) : (State.trbCore s pg k).lanes = s.lanes := by
  exact State.lanes_of_path (State.of_but_path (u := 2147483649) (State.trbCore_but (by decide) s pg k) (by decide))

@[simp] theorem State.pmuEvent_lanes (fuel : Nat) (s : State) (e : Sys2Proof.Machine.PmuEv) : (State.pmuEvent fuel s e).lanes = s.lanes := by
  exact State.lanes_of_path (State.of_but_path (u := 2164260865) (State.pmuEvent_but (by decide) fuel s e) (by decide))

@[simp] theorem State.pmu'_lanes (s : State) (pg : Nat) (loc : Nat) (amt : Nat) (master : Option Nat) (cls : Option Nat) (addr : Option Nat) : (State.pmu' s pg loc amt master cls addr).lanes = s.lanes := by
  exact State.lanes_of_path (State.of_but_path (u := 2164260865) (State.pmu'_but (by decide) s pg loc amt master cls addr) (by decide))

@[simp] theorem State.trb_lanes (s : State) (pg : Nat) (k : Nat) : (State.trb s pg k).lanes = s.lanes := by
  exact State.lanes_of_path (State.of_but_path (u := 2164260865) (State.trb_but (by decide) s pg k) (by decide))

@[simp] theorem State.statEvent_lanes (s : State) (pg : Nat) (f : Sys2Proof.Machine.Fld) (i : Nat) (n : Nat) : (State.statEvent s pg f i n).lanes = s.lanes := by
  exact State.lanes_of_path (State.of_but_path (u := 2164260865) (State.statEvent_but (by decide) s pg f i n) (by decide))

@[simp] theorem State.stat_lanes (s : State) (pg : Nat) (f : Sys2Proof.Machine.Fld) (i : Nat) (n : Nat) : (State.stat s pg f i n).lanes = s.lanes := by
  exact State.lanes_of_path (State.of_but_path (u := 2164260865) (State.stat_but (by decide) s pg f i n) (by decide))

@[simp] theorem State.memUncorrectable_lanes (s : State) (pg : Nat) (k : Nat) (loc : Sys2Proof.Machine.Locator) : (State.memUncorrectable s pg k loc).lanes = s.lanes := by
  exact State.lanes_of_path (State.of_but_path (u := 2164260865) (State.memUncorrectable_but (by decide) s pg k loc) (by decide))

@[simp] theorem State.drqWords_lanes (n : Nat) (s : State) (port : Nat) (lo : Nat) (hi : Nat) (w : Nat) (write : Bool) : (State.drqWords n s port lo hi w write).lanes = s.lanes := by
  exact State.lanes_of_path (State.of_but_path (u := 2164391937) (State.drqWords_but (by decide) n s port lo hi w write) (by decide))

@[simp] theorem State.drqAccess_lanes (s : State) (port : Nat) (addr : Nat) (len : Nat) (write : Bool) : (State.drqAccess s port addr len write).lanes = s.lanes := by
  exact State.lanes_of_path (State.of_but_path (u := 2164391937) (State.drqAccess_but (by decide) s port addr len write) (by decide))

@[simp] theorem State.drqSomewhere_lanes (s : State) (port : Nat) (base : Nat) (size : Nat) (len : Nat) (write : Bool) : (State.drqSomewhere s port base size len write).lanes = s.lanes := by
  exact State.lanes_of_path (State.of_but_path (u := 3238133761) (State.drqSomewhere_but (by decide) s port base size len write) (by decide))

@[simp] theorem State.drqDesc_lanes (s : State) (write : Bool) : (State.drqDesc s write).lanes = s.lanes := by
  exact State.lanes_of_path (State.of_but_path (u := 3238133761) (State.drqDesc_but (by decide) s write) (by decide))

@[simp] theorem State.decisionRecord_lanes (s : State) (port : Nat) (dest : Nat) (queue : Nat) (cls : Nat) (color : Nat) : (State.decisionRecord s port dest queue cls color).lanes = s.lanes := by
  exact State.lanes_of_path (State.of_but_path (u := 16) (State.decisionRecord_but (by decide) s port dest queue cls color) (by decide))

@[simp] theorem State.wpf_lanes (s : State) (f : Sys2Proof.Machine.Fld) (p : Nat) (v : Nat) : (State.wpf s f p v).lanes = s.lanes := by
  exact State.lanes_of_path (State.of_but_path (u := 1) (State.wpf_but (by decide) s f p v) (by decide))

@[simp] theorem State.ptrb_lanes (s : State) (p : Nat) (k : Nat) : (State.ptrb s p k).lanes = s.lanes := by
  exact State.lanes_of_path (State.of_but_path (u := 2164260865) (State.ptrb_but (by decide) s p k) (by decide))

@[simp] theorem State.fcUpdate_lanes (s : State) (p : Nat) : (State.fcUpdate s p).lanes = s.lanes := by
  unfold State.fcUpdate
  dsimp only
  have h : ∀ (n : Nat) (w : BitVec 8), ((s.wpf Reg.PORT_STAT_TX_XOFF p n).setPort p { s.port p with told := w }).lanes = s.lanes :=
    fun n w => State.lanes_setPort (s.wpf Reg.PORT_STAT_TX_XOFF p n) p { s.port p with told := w } rfl
  (repeat' split) <;> first | rfl | exact h _ _ | exact (State.emit_lanes _ _).trans (h _ _)

@[simp] theorem State.fifoLevel_lanes (s : State) (p : Nat) : (State.fifoLevel s p).lanes = s.lanes := by
  unfold State.fifoLevel
  first
  | (simp; done)
  | ((try dsimp only); (repeat' split) <;> first
    | (simp; done)
    | (simp [*]; done)
    | (have e := State.lanes_fst ‹_ = (_, _)›; simp at e; simp [e]; done)
    | (have e := State.lanes_snd ‹_ = (_, _)›; simp at e; simp [e]; done))

@[simp] theorem State.parityError_lanes (s : State) (pg : Nat) (k : Nat) (die : Nat) : (State.parityError s pg k die).lanes = s.lanes := by
  exact State.lanes_of_path (State.of_but_path (u := 3238002689) (State.parityError_but (by decide) s pg k die) (by decide))

@[simp] theorem State.parseReport_lanes (s : State) (port : Nat) (r : Sys2Proof.Machine.ParseRes) : (State.parseReport s port r).lanes = s.lanes := by
  exact State.lanes_of_path (State.of_but_path (u := 3238002689) (State.parseReport_but (by decide) s port r) (by decide))

@[simp] theorem State.tailReport_lanes (s : State) (port : Nat) (kept : Option (Nat × Nat × Nat)) (code : Nat) : (State.tailReport s port kept code).lanes = s.lanes := by
  exact State.lanes_of_path (State.of_but_path (u := 2164260865) (State.tailReport_but (by decide) s port kept code) (by decide))

@[simp] theorem State.routeReads_lanes (s : State) (img : Sys2Proof.Machine.LpmImage) (v6 : Bool) (vrf : Nat) (addr : Nat) : (State.routeReads s img v6 vrf addr).lanes = s.lanes := by
  exact State.lanes_of_path (State.of_but_path (u := 3238133761) (State.routeReads_but (by decide) s img v6 vrf addr) (by decide))

@[simp] theorem State.route_lanes (s : State) (img : Sys2Proof.Machine.LpmImage) (bad : List Sys2Proof.BadCell) (v6 : Bool) (vrf : Nat) (addr : Nat) : (State.route s img bad v6 vrf addr).1.lanes = s.lanes := by
  exact State.lanes_of_path (State.of_but_path (u := 3238133761) (State.route_but (by decide) s img bad v6 vrf addr) (by decide))

@[simp] theorem State.exmReads_lanes (s : State) (port : Nat) (k : Nat) : (State.exmReads s port k).lanes = s.lanes := by
  exact State.lanes_of_path (State.of_but_path (u := 2164391937) (State.exmReads_but (by decide) s port k) (by decide))

@[simp] theorem State.exmLookup_lanes (s : State) (bad : List Sys2Proof.BadCell) (k : Nat) : (State.exmLookup s bad k).1.lanes = s.lanes := by
  exact State.lanes_of_path (State.of_but_path (u := 3238133761) (State.exmLookup_but (by decide) s bad k) (by decide))

@[simp] theorem State.nextHop_lanes (s : State) (bad : List Sys2Proof.BadCell) (d : Sys2Proof.Machine.Decision) (i : Nat) : (State.nextHop s bad d i).1.lanes = s.lanes := by
  exact State.lanes_of_path (State.of_but_path (u := 3238002689) (State.nextHop_but (by decide) s bad d i) (by decide))

@[simp] theorem State.ecmpResolve_lanes (s : State) (bad : List Sys2Proof.BadCell) (d : Sys2Proof.Machine.Decision) (hash : Nat) : (State.ecmpResolve s bad d hash).1.lanes = s.lanes := by
  exact State.lanes_of_path (State.of_but_path (u := 3238002689) (State.ecmpResolve_but (by decide) s bad d hash) (by decide))

@[simp] theorem State.applyResult_lanes (s : State) (bad : List Sys2Proof.BadCell) (d : Sys2Proof.Machine.Decision) (kind : Nat) (idx : Nat) : (State.applyResult s bad d kind idx).1.lanes = s.lanes := by
  exact State.lanes_of_path (State.of_but_path (u := 3238002689) (State.applyResult_but (by decide) s bad d kind idx) (by decide))

@[simp] theorem State.learnPush_lanes (s : State) (r : Sys2Proof.Machine.LearnReq) : (State.learnPush s r).lanes = s.lanes := by
  exact State.lanes_of_path (State.of_but_path (u := 2164261377) (State.learnPush_but (by decide) s r) (by decide))

@[simp] theorem State.learnQueue_lanes (s : State) (e : Nat) : (State.learnQueue s e).lanes = s.lanes := by
  exact State.lanes_of_path (State.of_but_path (u := 2164261377) (State.learnQueue_but (by decide) s e) (by decide))

@[simp] theorem State.learnSource_lanes (s : State) (bad : List Sys2Proof.BadCell) (port : Nat) (bd : Nat) (mac : Nat) : (State.learnSource s bad port bd mac).lanes = s.lanes := by
  exact State.lanes_of_path (State.of_but_path (u := 3238134529) (State.learnSource_but (by decide) s bad port bd mac) (by decide))

@[simp] theorem State.l2Lookup_lanes (s : State) (bad : List Sys2Proof.BadCell) (d : Sys2Proof.Machine.Decision) (port : Nat) (bd : Nat) (dst : Nat) (src : Nat) : (State.l2Lookup s bad d port bd dst src).1.lanes = s.lanes := by
  exact State.lanes_of_path (State.of_but_path (u := 3238134529) (State.l2Lookup_but (by decide) s bad d port bd dst src) (by decide))

@[simp] theorem State.routeAction_lanes (s : State) (bad : List Sys2Proof.BadCell) (img : Sys2Proof.Machine.LpmImage) (b : Sys2Proof.Bytes) (lim : Nat) (insts : List Sys2Proof.Machine.HdrInst) (port : Nat) (level : Nat) (d : Sys2Proof.Machine.Decision) : (State.routeAction s bad img b lim insts port level d).1.lanes = s.lanes := by
  exact State.lanes_of_path (State.of_but_path (u := 3238133761) (State.routeAction_but (by decide) s bad img b lim insts port level d) (by decide))

@[simp] theorem State.l2Action_lanes (s : State) (bad : List Sys2Proof.BadCell) (b : Sys2Proof.Bytes) (lim : Nat) (insts : List Sys2Proof.Machine.HdrInst) (port : Nat) (level : Nat) (d : Sys2Proof.Machine.Decision) : (State.l2Action s bad b lim insts port level d).1.lanes = s.lanes := by
  exact State.lanes_of_path (State.of_but_path (u := 3238134529) (State.l2Action_but (by decide) s bad b lim insts port level d) (by decide))

@[simp] theorem State.clsErr_lanes (s : State) (kind : Nat) (set : Nat) (i : Nat) : (State.clsErr s kind set i).lanes = s.lanes := by
  exact State.lanes_of_path (State.of_but_path (u := 1) (State.clsErr_but (by decide) s kind set i) (by decide))

@[simp] theorem State.setReport_lanes (s : State) (set : Nat) (e : Sys2Proof.Machine.SetEnd) : (State.setReport s set e).1.lanes = s.lanes := by
  exact State.lanes_of_path (State.of_but_path (u := 3238002689) (State.setReport_but (by decide) s set e) (by decide))

@[simp] theorem State.applyDest_lanes (s : State) (bad : List Sys2Proof.BadCell) (img : Sys2Proof.Machine.LpmImage) (c : Sys2Proof.Machine.KeyCtx) (ingress : Nat) (d : Sys2Proof.Machine.Decision) (r : Nat) : (State.applyDest s bad img c ingress d r).1.lanes = s.lanes := by
  exact State.lanes_of_path (State.of_but_path (u := 3238134529) (State.applyDest_but (by decide) s bad img c ingress d r) (by decide))

@[simp] theorem State.ingressSet_lanes (s : State) (bad : List Sys2Proof.BadCell) (img : Sys2Proof.Machine.LpmImage) (c : Sys2Proof.Machine.KeyCtx) (ingress : Nat) (set : Nat) (rs : Sys2Proof.Machine.RuleSet) (d : Sys2Proof.Machine.Decision) : (State.ingressSet s bad img c ingress set rs d).1.lanes = s.lanes := by
  exact State.lanes_of_path (State.of_but_path (u := 3238134529) (State.ingressSet_but (by decide) s bad img c ingress set rs d) (by decide))

@[simp] theorem State.ingressSets_lanes (s : State) (bad : List Sys2Proof.BadCell) (g : Sys2Proof.Machine.Gens) (c : Sys2Proof.Machine.KeyCtx) (ingress : Nat) (d : Sys2Proof.Machine.Decision) : (State.ingressSets s bad g c ingress d).1.lanes = s.lanes := by
  exact State.lanes_of_path (State.of_but_path (u := 3238134529) (State.ingressSets_but (by decide) s bad g c ingress d) (by decide))

@[simp] theorem State.actFail_lanes (s : State) (t : Nat) (reason : Nat) (k : Nat) : (State.actFail s t reason k).lanes = s.lanes := by
  exact State.lanes_of_path (State.of_but_path (u := 2164260865) (State.actFail_but (by decide) s t reason k) (by decide))

@[simp] theorem State.tcIngress_lanes (s : State) (port : Nat) (trx : Nat) (b : Sys2Proof.Bytes) : (State.tcIngress s port trx b).1.lanes = s.lanes := by
  exact State.lanes_of_path (State.of_but_path (u := 2164260865) (State.tcIngress_but (by decide) s port trx b) (by decide))

@[simp] theorem State.police_lanes (s : State) (i : Nat) (color : Nat) (b : Nat) : (State.police s i color b).1.lanes = s.lanes := by
  exact State.lanes_of_path (State.of_but_path (u := 3238134785) (State.police_but (by decide) s i color b) (by decide))

@[simp] theorem State.policeError_lanes (s : State) (i : Nat) : (State.policeError s i).lanes = s.lanes := by
  exact State.lanes_of_path (State.of_but_path (u := 3238003713) (State.policeError_but (by decide) s i) (by decide))

@[simp] theorem State.mcrPush_lanes (s : State) (counter : Nat) (n : Nat) : (State.mcrPush s counter n).lanes = s.lanes := by
  unfold State.mcrPush
  first
  | (simp; done)
  | ((try dsimp only); (repeat' split) <;> first
    | (simp; done)
    | (simp [*]; done)
    | (have e := State.lanes_fst ‹_ = (_, _)›; simp at e; simp [e]; done)
    | (have e := State.lanes_snd ‹_ = (_, _)›; simp at e; simp [e]; done))

@[simp] theorem State.dropPkt_lanes (s : State) (p : Sys2Proof.Machine.Packet) : (State.dropPkt s p).lanes = s.lanes := by
  unfold State.dropPkt
  first
  | (simp; done)
  | ((try dsimp only); (repeat' split) <;> first
    | (simp; done)
    | (simp [*]; done)
    | (have e := State.lanes_fst ‹_ = (_, _)›; simp at e; simp [e]; done)
    | (have e := State.lanes_snd ‹_ = (_, _)›; simp at e; simp [e]; done))

@[simp] theorem State.rccSet_lanes (s : State) (r : Nat) (tok : Nat) : (State.rccSet s r tok).lanes = s.lanes := by
  unfold State.rccSet
  first
  | (simp; done)
  | ((try dsimp only); (repeat' split) <;> first
    | (simp; done)
    | (simp [*]; done)
    | (have e := State.lanes_fst ‹_ = (_, _)›; simp at e; simp [e]; done)
    | (have e := State.lanes_snd ‹_ = (_, _)›; simp at e; simp [e]; done))

@[simp] theorem State.rccTake_lanes (s : State) (r : Nat) : (State.rccTake s r).1.lanes = s.lanes := by
  unfold State.rccTake
  first
  | (simp; done)
  | ((try dsimp only); (repeat' split) <;> first
    | (simp; done)
    | (simp [*]; done)
    | (have e := State.lanes_fst ‹_ = (_, _)›; simp at e; simp [e]; done)
    | (have e := State.lanes_snd ‹_ = (_, _)›; simp at e; simp [e]; done))

@[simp] theorem State.decap_lanes (s : State) (bad : List Sys2Proof.BadCell) (p : Sys2Proof.Machine.Packet) : (State.decap s bad p).1.lanes = s.lanes := by
  exact State.lanes_of_path (State.of_but_path (u := 2164260865) (State.decap_but (by decide) s bad p) (by decide))

@[simp] theorem State.dfltCount_lanes (s : State) (w : Sys2Proof.Machine.Dflt) : (State.dfltCount s w).lanes = s.lanes := by
  exact State.lanes_of_path (State.of_but_path (u := 2164260865) (State.dfltCount_but (by decide) s w) (by decide))

@[simp] theorem State.dfltRoute_lanes (s : State) (bad : List Sys2Proof.BadCell) (p : Sys2Proof.Machine.Packet) (d : Sys2Proof.Machine.Decision) : (State.dfltRoute s bad p d).1.lanes = s.lanes := by
  exact State.lanes_of_path (State.of_but_path (u := 3238133761) (State.dfltRoute_but (by decide) s bad p d) (by decide))

@[simp] theorem State.dfltDecide_lanes (s : State) (bad : List Sys2Proof.BadCell) (p : Sys2Proof.Machine.Packet) (code : Nat) : (State.dfltDecide s bad p code).1.lanes = s.lanes := by
  exact State.lanes_of_path (State.of_but_path (u := 3238134529) (State.dfltDecide_but (by decide) s bad p code) (by decide))

@[simp] theorem State.default_lanes (s : State) (bad : List Sys2Proof.BadCell) (p : Sys2Proof.Machine.Packet) (w : Sys2Proof.Machine.Dflt) : (State.default s bad p w).1.lanes = s.lanes := by
  exact State.lanes_of_path (State.of_but_path (u := 3238134529) (State.default_but (by decide) s bad p w) (by decide))

@[simp] theorem State.fragPut_lanes (s : State) (e : Sys2Proof.Machine.FragEnt) : (State.fragPut s e).lanes = s.lanes := by
  unfold State.fragPut
  first
  | (simp; done)
  | ((try dsimp only); (repeat' split) <;> first
    | (simp; done)
    | (simp [*]; done)
    | (have e := State.lanes_fst ‹_ = (_, _)›; simp at e; simp [e]; done)
    | (have e := State.lanes_snd ‹_ = (_, _)›; simp at e; simp [e]; done))

@[simp] theorem State.fragInsert_lanes (s : State) (p : Sys2Proof.Machine.Packet) (moved : Bool) : (State.fragInsert s p moved).lanes = s.lanes := by
  unfold State.fragInsert
  first
  | (simp; done)
  | ((try dsimp only); (repeat' split) <;> first
    | (simp; done)
    | (simp [*]; done)
    | (have e := State.lanes_fst ‹_ = (_, _)›; simp at e; simp [e]; done)
    | (have e := State.lanes_snd ‹_ = (_, _)›; simp at e; simp [e]; done))

@[simp] theorem State.fragLookup_lanes (s : State) (bad : List Sys2Proof.BadCell) (p : Sys2Proof.Machine.Packet) : (State.fragLookup s bad p).1.lanes = s.lanes := by
  exact State.lanes_of_path (State.of_but_path (u := 3238002689) (State.fragLookup_but (by decide) s bad p) (by decide))

@[simp] theorem State.defaultEnd_lanes (s : State) (bad : List Sys2Proof.BadCell) (p : Sys2Proof.Machine.Packet) (w : Sys2Proof.Machine.Dflt) : (State.defaultEnd s bad p w).1.lanes = s.lanes := by
  exact State.lanes_of_path (State.of_but_path (u := 3238134529) (State.defaultEnd_but (by decide) s bad p w) (by decide))

@[simp] theorem State.resolvePass_lanes (s : State) (bad : List BadCell) (p : Packet) :
    (State.resolvePass s bad p).1.lanes = s.lanes := by
  unfold State.resolvePass
  split
  · simp
  · split
    · rfl
    · dsimp only
      split
      · simp
      · split
        · have e := State.lanes_fst ‹_ = (_, _)›
          simpa using e
        · have e := State.lanes_fst ‹_ = (_, _)›
          simp at e
          split <;> (have g := State.lanes_fst ‹_ = (_, _)›; simp at g; simp [g, e])
    · split
      · simp
      · split <;> (have g := State.lanes_fst ‹_ = (_, _)›; simp at g; simp [g])

@[simp] theorem State.treat_lanes (s : State) (bad : List Sys2Proof.BadCell) (c : Sys2Proof.Machine.KeyCtx) (p : Sys2Proof.Machine.Packet) : (State.treat s bad c p).1.lanes = s.lanes := by
  unfold State.treat
  first
  | (simp; done)
  | ((try dsimp only); (repeat' split) <;> first
    | (simp; done)
    | (simp [*]; done)
    | (have e := State.lanes_fst ‹_ = (_, _)›; simp at e; simp [e]; done)
    | (have e := State.lanes_snd ‹_ = (_, _)›; simp at e; simp [e]; done))

@[simp] theorem State.recordDecision_lanes (s : State) (p : Sys2Proof.Machine.Packet) (dropped : Bool) : (State.recordDecision s p dropped).lanes = s.lanes := by
  exact State.lanes_of_path (State.of_but_path (u := 16) (State.recordDecision_but (by decide) s p dropped) (by decide))

@[simp] theorem State.tcStep_lanes (s : State) (p : Sys2Proof.Machine.Packet) : (State.tcStep s p).1.lanes = s.lanes := by
  exact State.lanes_of_path (State.of_but_path (u := 2164260865) (State.tcStep_but (by decide) s p) (by decide))

@[simp] theorem State.settleTail_lanes (s : State) (p : Sys2Proof.Machine.Packet) (len : Nat) (fcsOk : Bool) : (State.settleTail s p len fcsOk).1.lanes = s.lanes := by
  exact State.lanes_of_path (State.of_but_path (u := 2164260865) (State.settleTail_but (by decide) s p len fcsOk) (by decide))

@[simp] theorem State.setPool_lanes (s : State) (n : Nat) (p : Sys2Proof.Machine.Pool) : (State.setPool s n p).lanes = s.lanes := by
  exact State.lanes_of_path (State.of_but_path (u := 2048) (State.setPool_but (by decide) s n p) (by decide))

@[simp] theorem State.allocFail_lanes (s : State) (n : Option Nat) : (State.allocFail s n).lanes = s.lanes := by
  exact State.lanes_of_path (State.of_but_path (u := 2164260865) (State.allocFail_but (by decide) s n) (by decide))

@[simp] theorem State.allocate_lanes (s : State) (len : Nat) : (State.allocate s len).1.lanes = s.lanes := by
  exact State.lanes_of_path (State.of_but_path (u := 2164262913) (State.allocate_but (by decide) s len) (by decide))

@[simp] theorem State.giveBack_lanes (s : State) (n : Nat) (i : Nat) : (State.giveBack s n i).lanes = s.lanes := by
  exact State.lanes_of_path (State.of_but_path (u := 2048) (State.giveBack_but (by decide) s n i) (by decide))

@[simp] theorem State.takeDesc_lanes (s : State) : (State.takeDesc s).1.lanes = s.lanes := by
  exact State.lanes_of_path (State.of_but_path (u := 3238135809) (State.takeDesc_but (by decide) s) (by decide))

@[simp] theorem State.giveDesc_lanes (s : State) (n : Nat) : (State.giveDesc s n).lanes = s.lanes := by
  exact State.lanes_of_path (State.of_but_path (u := 2048) (State.giveDesc_but (by decide) s n) (by decide))

@[simp] theorem State.evalBp_lanes (s : State) (p : Nat) (c : Nat) : (State.evalBp s p c).lanes = s.lanes := by
  unfold State.evalBp
  first
  | (simp; done)
  | ((try dsimp only); (repeat' split) <;> first
    | (simp; done)
    | (simp [*]; done)
    | (have e := State.lanes_fst ‹_ = (_, _)›; simp at e; simp [e]; done)
    | (have e := State.lanes_snd ‹_ = (_, _)›; simp at e; simp [e]; done))

@[simp] theorem State.occAdd_lanes (s : State) (fabric : Bool) (p : Nat) (c : Nat) (n : Nat) : (State.occAdd s fabric p c n).lanes = s.lanes := by
  unfold State.occAdd
  first
  | (simp; done)
  | ((try dsimp only); (repeat' split) <;> first
    | (simp; done)
    | (simp [*]; done)
    | (have e := State.lanes_fst ‹_ = (_, _)›; simp at e; simp [e]; done)
    | (have e := State.lanes_snd ‹_ = (_, _)›; simp at e; simp [e]; done))

@[simp] theorem State.occSub_lanes (s : State) (fabric : Bool) (p : Nat) (c : Nat) (n : Nat) : (State.occSub s fabric p c n).lanes = s.lanes := by
  unfold State.occSub
  first
  | (simp; done)
  | ((try dsimp only); (repeat' split) <;> first
    | (simp; done)
    | (simp [*]; done)
    | (have e := State.lanes_fst ‹_ = (_, _)›; simp at e; simp [e]; done)
    | (have e := State.lanes_snd ‹_ = (_, _)›; simp at e; simp [e]; done))

@[simp] theorem State.setBuffer_lanes (s : State) (b : Sys2Proof.Machine.Buffer) : (State.setBuffer s b).lanes = s.lanes := by
  exact State.lanes_of_path (State.of_but_path (u := 2048) (State.setBuffer_but (by decide) s b) (by decide))

@[simp] theorem State.bufWrite_lanes (s : State) (b : Sys2Proof.Machine.Buffer) (from_ : Nat) : (State.bufWrite s b from_).lanes = s.lanes := by
  exact State.lanes_of_path (State.of_but_path (u := 2164391937) (State.bufWrite_but (by decide) s b from_) (by decide))

@[simp] theorem State.newBuffer_lanes (s : State) (k : Nat × Nat) (p : Sys2Proof.Machine.Packet) (fabric : Bool) (port : Nat) (cls : Nat) (charge : Nat) : (State.newBuffer s k p fabric port cls charge).1.lanes = s.lanes := by
  unfold State.newBuffer
  first
  | (simp; done)
  | ((try dsimp only); (repeat' split) <;> first
    | (simp; done)
    | (simp [*]; done)
    | (have e := State.lanes_fst ‹_ = (_, _)›; simp at e; simp [e]; done)
    | (have e := State.lanes_snd ‹_ = (_, _)›; simp at e; simp [e]; done))

@[simp] theorem State.freeBuffer_lanes (s : State) (b : Sys2Proof.Machine.Buffer) : (State.freeBuffer s b).lanes = s.lanes := by
  unfold State.freeBuffer
  first
  | (simp; done)
  | ((try dsimp only); (repeat' split) <;> first
    | (simp; done)
    | (simp [*]; done)
    | (have e := State.lanes_fst ‹_ = (_, _)›; simp at e; simp [e]; done)
    | (have e := State.lanes_snd ‹_ = (_, _)›; simp at e; simp [e]; done))

@[simp] theorem State.unref_lanes (s : State) (bid : Nat) : (State.unref s bid).lanes = s.lanes := by
  unfold State.unref
  first
  | (simp; done)
  | ((try dsimp only); (repeat' split) <;> first
    | (simp; done)
    | (simp [*]; done)
    | (have e := State.lanes_fst ‹_ = (_, _)›; simp at e; simp [e]; done)
    | (have e := State.lanes_snd ‹_ = (_, _)›; simp at e; simp [e]; done))

@[simp] theorem State.decRef_lanes (s : State) (bid : Nat) : (State.decRef s bid).lanes = s.lanes := by
  unfold State.decRef
  first
  | (simp; done)
  | ((try dsimp only); (repeat' split) <;> first
    | (simp; done)
    | (simp [*]; done)
    | (have e := State.lanes_fst ‹_ = (_, _)›; simp at e; simp [e]; done)
    | (have e := State.lanes_snd ‹_ = (_, _)›; simp at e; simp [e]; done))

@[simp] theorem State.setEq_lanes (s : State) (q : Nat) (l : List Sys2Proof.Machine.QEnt) : (State.setEq s q l).lanes = s.lanes := by
  exact State.lanes_of_path (State.of_but_path (u := 4096) (State.setEq_but (by decide) s q l) (by decide))

@[simp] theorem State.setVoq_lanes (s : State) (v : Nat) (l : List Sys2Proof.Machine.QEnt) : (State.setVoq s v l).lanes = s.lanes := by
  exact State.lanes_of_path (State.of_but_path (u := 4096) (State.setVoq_but (by decide) s v l) (by decide))

@[simp] theorem State.setFmc_lanes (s : State) (c : Nat) (l : List Sys2Proof.Machine.QEnt) : (State.setFmc s c l).lanes = s.lanes := by
  exact State.lanes_of_path (State.of_but_path (u := 4096) (State.setFmc_but (by decide) s c l) (by decide))

@[simp] theorem State.setPunt_lanes (s : State) (r : Nat) (l : List Sys2Proof.Machine.QEnt) : (State.setPunt s r l).lanes = s.lanes := by
  exact State.lanes_of_path (State.of_but_path (u := 4096) (State.setPunt_but (by decide) s r l) (by decide))

@[simp] theorem State.fmcCount_lanes (s : State) (k : Nat) (g : Nat) : (State.fmcCount s k g).lanes = s.lanes := by
  exact State.lanes_of_path (State.of_but_path (u := 2164260865) (State.fmcCount_but (by decide) s k g) (by decide))

@[simp] theorem State.treeIn_lanes (s : State) (bad : List Sys2Proof.BadCell) (body : List Nat) (g : Nat) : (State.treeIn s bad body g).1.lanes = s.lanes := by
  exact State.lanes_of_path (State.of_but_path (u := 3238002689) (State.treeIn_but (by decide) s bad body g) (by decide))

@[simp] theorem State.groupLegs_lanes (s : State) (bad : List Sys2Proof.BadCell) (g : Nat) (cls : Nat) (ingress : Option Nat) (mirror : Option Nat) : (State.groupLegs s bad g cls ingress mirror).1.lanes = s.lanes := by
  exact State.lanes_of_path (State.of_but_path (u := 3238002689) (State.groupLegs_but (by decide) s bad g cls ingress mirror) (by decide))

@[simp] theorem State.copyLost_lanes (s : State) : (State.copyLost s).lanes = s.lanes := by
  exact State.lanes_of_path (State.of_but_path (u := 2164260865) (State.copyLost_but (by decide) s) (by decide))

@[simp] theorem State.puntDiscard_lanes (s : State) (r : Nat) : (State.puntDiscard s r).lanes = s.lanes := by
  exact State.lanes_of_path (State.of_but_path (u := 2164260865) (State.puntDiscard_but (by decide) s r) (by decide))

@[simp] theorem State.mirrorLegs_lanes (s : State) (d : Sys2Proof.Machine.Decision) : (State.mirrorLegs s d).1.lanes = s.lanes := by
  exact State.lanes_of_path (State.of_but_path (u := 2164260865) (State.mirrorLegs_but (by decide) s d) (by decide))

@[simp] theorem State.legs_lanes (s : State) (bad : List Sys2Proof.BadCell) (p : Sys2Proof.Machine.Packet) : (State.legs s bad p).1.lanes = s.lanes := by
  exact State.lanes_of_path (State.of_but_path (u := 3238002689) (State.legs_but (by decide) s bad p) (by decide))

@[simp] theorem State.legAllowed_lanes (s : State) (a : State × List Leg) (l : Leg) :
    (State.legAllowed s a l).1.lanes = a.1.lanes := by
  unfold State.legAllowed
  split
  · simp
  · split
    · dsimp only
      split
      · simp
      · split <;> simp
    · rfl

@[simp] theorem State.holdCount_lanes (s : State) (mirror : Option Nat) (ring : Option Nat) (up : Bool) : (State.holdCount s mirror ring up).lanes = s.lanes := by
  exact State.lanes_of_path (State.of_but_path (u := 2048) (State.holdCount_but (by decide) s mirror ring up) (by decide))

@[simp] theorem State.dropEnt_lanes (s : State) (e : Sys2Proof.Machine.QEnt) (ring : Option Nat) : (State.dropEnt s e ring).lanes = s.lanes := by
  unfold State.dropEnt
  first
  | (simp; done)
  | ((try dsimp only); (repeat' split) <;> first
    | (simp; done)
    | (simp [*]; done)
    | (have e := State.lanes_fst ‹_ = (_, _)›; simp at e; simp [e]; done)
    | (have e := State.lanes_snd ‹_ = (_, _)›; simp at e; simp [e]; done))

@[simp] theorem State.egressEnqueue_lanes (s : State) (bid : Nat) (p : Sys2Proof.Machine.Packet) (port : Nat) (cls : Nat) (mirror : Option Nat) (cut : Bool) : (State.egressEnqueue s bid p port cls mirror cut).lanes = s.lanes := by
  unfold State.egressEnqueue
  first
  | (simp; done)
  | ((try dsimp only); (repeat' split) <;> first
    | (simp; done)
    | (simp [*]; done)
    | (have e := State.lanes_fst ‹_ = (_, _)›; simp at e; simp [e]; done)
    | (have e := State.lanes_snd ‹_ = (_, _)›; simp at e; simp [e]; done))

@[simp] theorem State.sendLeg_lanes (s : State) (bid : Nat) (p : Sys2Proof.Machine.Packet) (cut : Bool) (l : Sys2Proof.Machine.Leg) : (State.sendLeg s bid p cut l).lanes = s.lanes := by
  unfold State.sendLeg
  first
  | (simp; done)
  | ((try dsimp only); (repeat' split) <;> first
    | (simp; done)
    | (simp [*]; done)
    | (have e := State.lanes_fst ‹_ = (_, _)›; simp at e; simp [e]; done)
    | (have e := State.lanes_snd ‹_ = (_, _)›; simp at e; simp [e]; done))

@[simp] theorem State.sendCopy_lanes (bid : Nat) (p : Sys2Proof.Machine.Packet) (s : State) (l : Sys2Proof.Machine.Leg) : (State.sendCopy bid p s l).lanes = s.lanes := by
  unfold State.sendCopy
  first
  | (simp; done)
  | ((try dsimp only); (repeat' split) <;> first
    | (simp; done)
    | (simp [*]; done)
    | (have e := State.lanes_fst ‹_ = (_, _)›; simp at e; simp [e]; done)
    | (have e := State.lanes_snd ‹_ = (_, _)›; simp at e; simp [e]; done))

@[simp] theorem State.dispatchLegs_lanes (s : State) (bid : Nat) (p : Sys2Proof.Machine.Packet) (l : List Sys2Proof.Machine.Leg) (cut : Bool) : (State.dispatchLegs s bid p l cut).lanes = s.lanes := by
  unfold State.dispatchLegs
  first
  | (simp; done)
  | ((try dsimp only); (repeat' split) <;> first
    | (simp; done)
    | (simp [*]; done)
    | (have e := State.lanes_fst ‹_ = (_, _)›; simp at e; simp [e]; done)
    | (have e := State.lanes_snd ‹_ = (_, _)›; simp at e; simp [e]; done))

@[simp] theorem State.keptLegs_lanes (s : State) (bad : List BadCell) (p : Packet) :
    (State.keptLegs s bad p).1.lanes = s.lanes := by
  unfold State.keptLegs
  dsimp only
  rw [State.lanes_foldl_fst (fun a l => State.legAllowed_lanes _ a l)]
  simp

@[simp] theorem State.dispatch_lanes (s : State) (bad : List Sys2Proof.BadCell) (bid : Nat) (p : Sys2Proof.Machine.Packet) : (State.dispatch s bad bid p).lanes = s.lanes := by
  unfold State.dispatch
  first
  | (simp; done)
  | ((try dsimp only); (repeat' split) <;> first
    | (simp; done)
    | (simp [*]; done)
    | (have e := State.lanes_fst ‹_ = (_, _)›; simp at e; simp [e]; done)
    | (have e := State.lanes_snd ‹_ = (_, _)›; simp at e; simp [e]; done))

@[simp] theorem State.tailDrop_lanes (s : State) : (State.tailDrop s).lanes = s.lanes := by
  exact State.lanes_of_path (State.of_but_path (u := 2164260865) (State.tailDrop_but (by decide) s) (by decide))

@[simp] theorem State.unqueue_lanes (s : State) (bid : Nat) : (State.unqueue s bid).lanes = s.lanes := by
  unfold State.unqueue
  first
  | (simp; done)
  | ((try dsimp only); (repeat' split) <;> first
    | (simp; done)
    | (simp [*]; done)
    | (have e := State.lanes_fst ‹_ = (_, _)›; simp at e; simp [e]; done)
    | (have e := State.lanes_snd ‹_ = (_, _)›; simp at e; simp [e]; done))

@[simp] theorem State.policePacket_lanes (s : State) (bad : List Sys2Proof.BadCell) (p : Sys2Proof.Machine.Packet) : (State.policePacket s bad p).1.lanes = s.lanes := by
  exact State.lanes_of_path (State.of_but_path (u := 3238134785) (State.policePacket_but (by decide) s bad p) (by decide))

@[simp] theorem State.countPkt_lanes (s : State) (p : Sys2Proof.Machine.Packet) : (State.countPkt s p).lanes = s.lanes := by
  unfold State.countPkt
  first
  | (simp; done)
  | ((try dsimp only); (repeat' split) <;> first
    | (simp; done)
    | (simp [*]; done)
    | (have e := State.lanes_fst ‹_ = (_, _)›; simp at e; simp [e]; done)
    | (have e := State.lanes_snd ‹_ = (_, _)›; simp at e; simp [e]; done))

@[simp] theorem State.limitDrop_lanes (s : State) : (State.limitDrop s).lanes = s.lanes := by
  exact State.lanes_of_path (State.of_but_path (u := 2164260865) (State.limitDrop_but (by decide) s) (by decide))

@[simp] theorem State.place_lanes (s : State) (bad : List Sys2Proof.BadCell) (k : Nat × Nat) (p : Sys2Proof.Machine.Packet) : (State.place s bad k p).lanes = s.lanes := by
  unfold State.place
  first
  | (simp; done)
  | ((try dsimp only); (repeat' split) <;> first
    | (simp; done)
    | (simp [*]; done)
    | (have e := State.lanes_fst ‹_ = (_, _)›; simp at e; simp [e]; done)
    | (have e := State.lanes_snd ‹_ = (_, _)›; simp at e; simp [e]; done))

@[simp] theorem State.admitSized_lanes (s : State) (bad : List Sys2Proof.BadCell) (p : Sys2Proof.Machine.Packet) : (State.admitSized s bad p).lanes = s.lanes := by
  unfold State.admitSized
  first
  | (simp; done)
  | ((try dsimp only); (repeat' split) <;> first
    | (simp; done)
    | (simp [*]; done)
    | (have e := State.lanes_fst ‹_ = (_, _)›; simp at e; simp [e]; done)
    | (have e := State.lanes_snd ‹_ = (_, _)›; simp at e; simp [e]; done))

@[simp] theorem State.intake_lanes (s : State) (bad : List Sys2Proof.BadCell) (p : Sys2Proof.Machine.Packet) : (State.intake s bad p).lanes = s.lanes := by
  unfold State.intake
  first
  | (simp; done)
  | ((try dsimp only); (repeat' split) <;> first
    | (simp; done)
    | (simp [*]; done)
    | (have e := State.lanes_fst ‹_ = (_, _)›; simp at e; simp [e]; done)
    | (have e := State.lanes_snd ‹_ = (_, _)›; simp at e; simp [e]; done))

end Sys2Proof.Machine
end

