-- ==== Sys2Proof/Laws/Regs.lean ====
section
/-! SUPPORT. Laws of `State.RegsBut`: which register fields an operation can change. -/
namespace Sys2Proof.Machine

variable {s t u : State} {l : List Nat}

theorem State.RegsBut.refl (l : List Nat) (s : State) : s.RegsBut l s := fun _ _ _ => rfl

theorem State.RegsBut.trans (h : s.RegsBut l t) (g : t.RegsBut l u) : s.RegsBut l u :=
  fun k a b => (g k a b).trans (h k a b)

theorem State.RegsBut.of_eq (h : t.regs.active = s.regs.active) : s.RegsBut l t := fun k _ _ => by rw [h]

theorem State.RegsBut.of_regs (h : t.regs = s.regs) : s.RegsBut l t := State.RegsBut.of_eq (by rw [h])

theorem State.CountsTo.regsBut (h : s.CountsTo t) (l : List Nat) : s.RegsBut l t := fun k a _ => h.reg k a

theorem State.RegsBut.counts (h : s.RegsBut l t) (g : t.CountsTo u) : s.RegsBut l u := h.trans (g.regsBut l)

theorem State.RegsBut.after (h : s.CountsTo t) (g : t.RegsBut l u) : s.RegsBut l u := (h.regsBut l).trans g

theorem State.RegsBut.wrp (h : s.RegsBut l t) {p : Nat} {f : Fld} {i : Nat} (v : Nat) (m : fkey p f i ∈ l) :
    s.RegsBut l (t.wrp p f i v) := by
  intro k a b
  have ne : fkey p f i ≠ k := by
    intro e
    rw [e] at m
    exact b m
  rw [State.wrp_lookup_ne ne]
  exact h k a b

theorem State.RegsBut.wr (h : s.RegsBut l t) {f : Fld} (v : Nat) (m : f.key 0 ∈ l) : s.RegsBut l (t.wr f v) := h.wrp v m

theorem State.RegsBut.wri (h : s.RegsBut l t) {f : Fld} {i : Nat} (v : Nat) (m : f.key i ∈ l) : s.RegsBut l (t.wri f i v) :=
  h.wrp v m

theorem State.RegsBut.trb (h : s.RegsBut l t) {p k : Nat} (m : trbKey p k ∈ l) : s.RegsBut l (t.trb p k) := by
  refine State.RegsBut.counts ?_ (State.trb_counts t p k)
  unfold State.trouble
  split
  · unfold State.trbSet
    unfold trbKey at m
    split
    · rename_i e
      rw [if_pos e] at m
      exact h.wrp _ m
    · rename_i e
      rw [if_neg e] at m
      exact h.wrp _ m
  · exact h

theorem State.RegsBut.evt (h : s.RegsBut l t) {p k : Nat} (m : fkey p Reg.EVT_STAT_EVT 0 ∈ l) : s.RegsBut l (t.evt p k) :=
  h.wrp _ m

theorem State.RegsBut.stat (h : s.RegsBut l t) {p : Nat} {f : Fld} {i : Nat} (n : Nat) (m : fkey p f i ∈ l) :
    s.RegsBut l (t.stat p f i n) :=
  (h.wrp _ m).counts (State.stat_counts t p f i n)

theorem State.RegsBut.lookup (h : s.RegsBut l t) {p : Nat} {f : Fld} {i : Nat} (a : isTele (fkey p f i) = false)
    (b : fkey p f i ∉ l) : t.rdp p f i = s.rdp p f i :=
  State.rdp_congr (h _ a b)

theorem State.RegsBut.ite {c : Prop} [Decidable c] {a b : State} (h : s.RegsBut l a) (g : s.RegsBut l b) :
    s.RegsBut l (if c then a else b) := by
  split
  · exact h
  · exact g

theorem State.RegsBut.foldl {α : Type} {f : State → α → State} (h : ∀ (t : State) (x : α), t.RegsBut l (f t x)) (xs : List α)
    (s : State) : s.RegsBut l (xs.foldl f s) := by
  induction xs generalizing s with
  | nil => exact State.RegsBut.refl l s
  | cons x xs ih => exact (h s x).trans (ih _)

/-- Device time rests on the governing channel alone. -/
theorem State.ns_congr (h : t.rd Reg.SPN_STAT_ACTIVE = s.rd Reg.SPN_STAT_ACTIVE) (a : t.time.chA = s.time.chA)
    (b : t.time.chB = s.time.chB) (c : t.time.chC = s.time.chC) : t.ns = s.ns := by
  unfold State.ns State.sub State.chan State.governor
  rw [h, a, b, c]

theorem State.epoch_congr (h : t.rd Reg.SPN_STAT_ACTIVE = s.rd Reg.SPN_STAT_ACTIVE) (a : t.time.chA = s.time.chA)
    (b : t.time.chB = s.time.chB) (c : t.time.chC = s.time.chC) : t.epoch = s.epoch := by
  unfold State.epoch
  rw [State.ns_congr h a b c]

theorem State.wr_epoch (s : State) (f : Fld) (v : Nat) (h : fkey f.pg f 0 ≠ fkey Reg.SPN_STAT_ACTIVE.pg Reg.SPN_STAT_ACTIVE 0) :
    (s.wr f v).epoch = s.epoch := State.epoch_congr (State.rd_wr_ne h) rfl rfl rfl

@[simp] theorem State.trb_pins (s : State) (p k : Nat) : (s.trb p k).pins = s.pins :=
  State.of_but_pins (State.trb_but (u := 2164260865) (by decide) s p k) (by decide)
@[simp] theorem State.stat_pins (s : State) (p : Nat) (g : Fld) (j n : Nat) : (s.stat p g j n).pins = s.pins :=
  State.of_but_pins (State.stat_but (u := 2164260865) (by decide) s p g j n) (by decide)
@[simp] theorem State.trb_time (s : State) (p k : Nat) : (s.trb p k).time = s.time :=
  State.of_but_time (State.trb_but (u := 2164260865) (by decide) s p k) (by decide)
@[simp] theorem State.stat_time (s : State) (p : Nat) (g : Fld) (j n : Nat) : (s.stat p g j n).time = s.time :=
  State.of_but_time (State.stat_but (u := 2164260865) (by decide) s p g j n) (by decide)
@[simp] theorem State.trb_spine (s : State) (p k : Nat) : (s.trb p k).spine = s.spine :=
  State.of_but_spine (State.trb_but (u := 2164260865) (by decide) s p k) (by decide)
@[simp] theorem State.stat_spine (s : State) (p : Nat) (g : Fld) (j n : Nat) : (s.stat p g j n).spine = s.spine :=
  State.of_but_spine (State.stat_but (u := 2164260865) (by decide) s p g j n) (by decide)
@[simp] theorem State.trb_pair (s : State) (p k : Nat) : (s.trb p k).pair = s.pair :=
  State.of_but_pair (State.trb_but (u := 2164260865) (by decide) s p k) (by decide)
@[simp] theorem State.stat_pair (s : State) (p : Nat) (g : Fld) (j n : Nat) : (s.stat p g j n).pair = s.pair :=
  State.of_but_pair (State.stat_but (u := 2164260865) (by decide) s p g j n) (by decide)
@[simp] theorem State.trb_cairn (s : State) (p k : Nat) : (s.trb p k).cairn = s.cairn :=
  State.of_but_cairn (State.trb_but (u := 2164260865) (by decide) s p k) (by decide)
@[simp] theorem State.stat_cairn (s : State) (p : Nat) (g : Fld) (j n : Nat) : (s.stat p g j n).cairn = s.cairn :=
  State.of_but_cairn (State.stat_but (u := 2164260865) (by decide) s p g j n) (by decide)
@[simp] theorem State.trb_banks (s : State) (p k : Nat) : (s.trb p k).banks = s.banks :=
  State.of_but_banks (State.trb_but (u := 2164260865) (by decide) s p k) (by decide)
@[simp] theorem State.stat_banks (s : State) (p : Nat) (g : Fld) (j n : Nat) : (s.stat p g j n).banks = s.banks :=
  State.of_but_banks (State.stat_but (u := 2164260865) (by decide) s p g j n) (by decide)
@[simp] theorem State.trb_path (s : State) (p k : Nat) : (s.trb p k).path = s.path :=
  State.of_but_path (State.trb_but (u := 2164260865) (by decide) s p k) (by decide)
@[simp] theorem State.stat_path (s : State) (p : Nat) (g : Fld) (j n : Nat) : (s.stat p g j n).path = s.path :=
  State.of_but_path (State.stat_but (u := 2164260865) (by decide) s p g j n) (by decide)
@[simp] theorem State.trb_exm (s : State) (p k : Nat) : (s.trb p k).exm = s.exm :=
  State.of_but_exm (State.trb_but (u := 2164260865) (by decide) s p k) (by decide)
@[simp] theorem State.stat_exm (s : State) (p : Nat) (g : Fld) (j n : Nat) : (s.stat p g j n).exm = s.exm :=
  State.of_but_exm (State.stat_but (u := 2164260865) (by decide) s p g j n) (by decide)
@[simp] theorem State.trb_learn (s : State) (p k : Nat) : (s.trb p k).learn = s.learn :=
  State.of_but_learn (State.trb_but (u := 2164260865) (by decide) s p k) (by decide)
@[simp] theorem State.stat_learn (s : State) (p : Nat) (g : Fld) (j n : Nat) : (s.stat p g j n).learn = s.learn :=
  State.of_but_learn (State.stat_but (u := 2164260865) (by decide) s p g j n) (by decide)
@[simp] theorem State.trb_tab (s : State) (p k : Nat) : (s.trb p k).tab = s.tab :=
  State.of_but_tab (State.trb_but (u := 2164260865) (by decide) s p k) (by decide)
@[simp] theorem State.stat_tab (s : State) (p : Nat) (g : Fld) (j n : Nat) : (s.stat p g j n).tab = s.tab :=
  State.of_but_tab (State.stat_but (u := 2164260865) (by decide) s p g j n) (by decide)
@[simp] theorem State.trb_buf (s : State) (p k : Nat) : (s.trb p k).buf = s.buf :=
  State.of_but_buf (State.trb_but (u := 2164260865) (by decide) s p k) (by decide)
@[simp] theorem State.stat_buf (s : State) (p : Nat) (g : Fld) (j n : Nat) : (s.stat p g j n).buf = s.buf :=
  State.of_but_buf (State.stat_but (u := 2164260865) (by decide) s p g j n) (by decide)
@[simp] theorem State.trb_q (s : State) (p k : Nat) : (s.trb p k).q = s.q :=
  State.of_but_q (State.trb_but (u := 2164260865) (by decide) s p k) (by decide)
@[simp] theorem State.stat_q (s : State) (p : Nat) (g : Fld) (j n : Nat) : (s.stat p g j n).q = s.q :=
  State.of_but_q (State.stat_but (u := 2164260865) (by decide) s p g j n) (by decide)
@[simp] theorem State.trb_sched (s : State) (p k : Nat) : (s.trb p k).sched = s.sched :=
  State.of_but_sched (State.trb_but (u := 2164260865) (by decide) s p k) (by decide)
@[simp] theorem State.stat_sched (s : State) (p : Nat) (g : Fld) (j n : Nat) : (s.stat p g j n).sched = s.sched :=
  State.of_but_sched (State.stat_but (u := 2164260865) (by decide) s p g j n) (by decide)
@[simp] theorem State.trb_gates (s : State) (p k : Nat) : (s.trb p k).gates = s.gates :=
  State.of_but_gates (State.trb_but (u := 2164260865) (by decide) s p k) (by decide)
@[simp] theorem State.stat_gates (s : State) (p : Nat) (g : Fld) (j n : Nat) : (s.stat p g j n).gates = s.gates :=
  State.of_but_gates (State.stat_but (u := 2164260865) (by decide) s p g j n) (by decide)
@[simp] theorem State.trb_lat (s : State) (p k : Nat) : (s.trb p k).lat = s.lat :=
  State.of_but_lat (State.trb_but (u := 2164260865) (by decide) s p k) (by decide)
@[simp] theorem State.stat_lat (s : State) (p : Nat) (g : Fld) (j n : Nat) : (s.stat p g j n).lat = s.lat :=
  State.of_but_lat (State.stat_but (u := 2164260865) (by decide) s p g j n) (by decide)
@[simp] theorem State.trb_fab (s : State) (p k : Nat) : (s.trb p k).fab = s.fab :=
  State.of_but_fab (State.trb_but (u := 2164260865) (by decide) s p k) (by decide)
@[simp] theorem State.stat_fab (s : State) (p : Nat) (g : Fld) (j n : Nat) : (s.stat p g j n).fab = s.fab :=
  State.of_but_fab (State.stat_but (u := 2164260865) (by decide) s p g j n) (by decide)
@[simp] theorem State.trb_hbm (s : State) (p k : Nat) : (s.trb p k).hbm = s.hbm :=
  State.of_but_hbm (State.trb_but (u := 2164260865) (by decide) s p k) (by decide)
@[simp] theorem State.stat_hbm (s : State) (p : Nat) (g : Fld) (j n : Nat) : (s.stat p g j n).hbm = s.hbm :=
  State.of_but_hbm (State.stat_but (u := 2164260865) (by decide) s p g j n) (by decide)
@[simp] theorem State.trb_host (s : State) (p k : Nat) : (s.trb p k).host = s.host :=
  State.of_but_host (State.trb_but (u := 2164260865) (by decide) s p k) (by decide)
@[simp] theorem State.stat_host (s : State) (p : Nat) (g : Fld) (j n : Nat) : (s.stat p g j n).host = s.host :=
  State.of_but_host (State.stat_but (u := 2164260865) (by decide) s p g j n) (by decide)
@[simp] theorem State.trb_icu (s : State) (p k : Nat) : (s.trb p k).icu = s.icu :=
  State.of_but_icu (State.trb_but (u := 2164260865) (by decide) s p k) (by decide)
@[simp] theorem State.stat_icu (s : State) (p : Nat) (g : Fld) (j n : Nat) : (s.stat p g j n).icu = s.icu :=
  State.of_but_icu (State.stat_but (u := 2164260865) (by decide) s p g j n) (by decide)
@[simp] theorem State.trb_mgt (s : State) (p k : Nat) : (s.trb p k).mgt = s.mgt :=
  State.of_but_mgt (State.trb_but (u := 2164260865) (by decide) s p k) (by decide)
@[simp] theorem State.stat_mgt (s : State) (p : Nat) (g : Fld) (j n : Nat) : (s.stat p g j n).mgt = s.mgt :=
  State.of_but_mgt (State.stat_but (u := 2164260865) (by decide) s p g j n) (by decide)
@[simp] theorem State.trb_boot (s : State) (p k : Nat) : (s.trb p k).boot = s.boot :=
  State.of_but_boot (State.trb_but (u := 2164260865) (by decide) s p k) (by decide)
@[simp] theorem State.stat_boot (s : State) (p : Nat) (g : Fld) (j n : Nat) : (s.stat p g j n).boot = s.boot :=
  State.of_but_boot (State.stat_but (u := 2164260865) (by decide) s p g j n) (by decide)
@[simp] theorem State.trb_sec (s : State) (p k : Nat) : (s.trb p k).sec = s.sec :=
  State.of_but_sec (State.trb_but (u := 2164260865) (by decide) s p k) (by decide)
@[simp] theorem State.stat_sec (s : State) (p : Nat) (g : Fld) (j n : Nat) : (s.stat p g j n).sec = s.sec :=
  State.of_but_sec (State.stat_but (u := 2164260865) (by decide) s p g j n) (by decide)
@[simp] theorem State.trb_pwr (s : State) (p k : Nat) : (s.trb p k).pwr = s.pwr :=
  State.of_but_pwr (State.trb_but (u := 2164260865) (by decide) s p k) (by decide)
@[simp] theorem State.stat_pwr (s : State) (p : Nat) (g : Fld) (j n : Nat) : (s.stat p g j n).pwr = s.pwr :=
  State.of_but_pwr (State.stat_but (u := 2164260865) (by decide) s p g j n) (by decide)
@[simp] theorem State.trb_tdm (s : State) (p k : Nat) : (s.trb p k).tdm = s.tdm :=
  State.of_but_tdm (State.trb_but (u := 2164260865) (by decide) s p k) (by decide)
@[simp] theorem State.stat_tdm (s : State) (p : Nat) (g : Fld) (j n : Nat) : (s.stat p g j n).tdm = s.tdm :=
  State.of_but_tdm (State.stat_but (u := 2164260865) (by decide) s p g j n) (by decide)
@[simp] theorem State.trb_shd (s : State) (p k : Nat) : (s.trb p k).shd = s.shd :=
  State.of_but_shd (State.trb_but (u := 2164260865) (by decide) s p k) (by decide)
@[simp] theorem State.stat_shd (s : State) (p : Nat) (g : Fld) (j n : Nat) : (s.stat p g j n).shd = s.shd :=
  State.of_but_shd (State.stat_but (u := 2164260865) (by decide) s p g j n) (by decide)
@[simp] theorem State.trb_rst (s : State) (p k : Nat) : (s.trb p k).rst = s.rst :=
  State.of_but_rst (State.trb_but (u := 2164260865) (by decide) s p k) (by decide)
@[simp] theorem State.stat_rst (s : State) (p : Nat) (g : Fld) (j n : Nat) : (s.stat p g j n).rst = s.rst :=
  State.of_but_rst (State.stat_but (u := 2164260865) (by decide) s p g j n) (by decide)
@[simp] theorem State.trb_tap (s : State) (p k : Nat) : (s.trb p k).tap = s.tap :=
  State.of_but_tap (State.trb_but (u := 2164260865) (by decide) s p k) (by decide)
@[simp] theorem State.stat_tap (s : State) (p : Nat) (g : Fld) (j n : Nat) : (s.stat p g j n).tap = s.tap :=
  State.of_but_tap (State.stat_but (u := 2164260865) (by decide) s p g j n) (by decide)
@[simp] theorem State.trb_d2d (s : State) (p k : Nat) : (s.trb p k).d2d = s.d2d :=
  State.of_but_d2d (State.trb_but (u := 2164260865) (by decide) s p k) (by decide)
@[simp] theorem State.stat_d2d (s : State) (p : Nat) (g : Fld) (j n : Nat) : (s.stat p g j n).d2d = s.d2d :=
  State.of_but_d2d (State.stat_but (u := 2164260865) (by decide) s p g j n) (by decide)
@[simp] theorem State.trb_fresh (s : State) (p k : Nat) : (s.trb p k).fresh = s.fresh :=
  State.of_but_fresh (State.trb_but (u := 2164260865) (by decide) s p k) (by decide)
@[simp] theorem State.stat_fresh (s : State) (p : Nat) (g : Fld) (j n : Nat) : (s.stat p g j n).fresh = s.fresh :=
  State.of_but_fresh (State.stat_but (u := 2164260865) (by decide) s p g j n) (by decide)

/-- A field outside counting and outside the trouble counter itself. -/
theorem State.trb_rdp (s : State) (p k q : Nat) (f : Fld) (i : Nat) (a : isTele (fkey q f i) = false)
    (b : fkey q f i ≠ trbKey p k) : (s.trb p k).rdp q f i = s.rdp q f i :=
  ((State.RegsBut.refl [trbKey p k] s).trb (by simp)).lookup a (by simpa using b)

theorem State.trb_rd (s : State) (p k : Nat) (f : Fld) (a : isTele (fkey f.pg f 0) = false) (b : fkey f.pg f 0 ≠ trbKey p k) :
    (s.trb p k).rd f = s.rd f := State.trb_rdp s p k f.pg f 0 a b

theorem State.stat_rdp (s : State) (p : Nat) (g : Fld) (j n q : Nat) (f : Fld) (i : Nat) (a : isTele (fkey q f i) = false)
    (b : fkey q f i ≠ fkey p g j) : (s.stat p g j n).rdp q f i = s.rdp q f i :=
  ((State.RegsBut.refl [fkey p g j] s).stat n (by simp)).lookup a (by simpa using b)

theorem State.stat_rd (s : State) (p : Nat) (g : Fld) (j n : Nat) (f : Fld) (a : isTele (fkey f.pg f 0) = false)
    (b : fkey f.pg f 0 ≠ fkey p g j) : (s.stat p g j n).rd f = s.rd f := State.stat_rdp s p g j n f.pg f 0 a b

theorem State.rd_of_regs (h : t.regs = s.regs) (f : Fld) : t.rd f = s.rd f := by
  unfold State.rd State.rdp
  rw [h]

theorem State.rdb_of_regs (h : t.regs = s.regs) (f : Fld) : t.rdb f = s.rdb f := by
  unfold State.rdb
  rw [State.rd_of_regs h]

theorem State.wr_rdb_ne {f g : Fld} {v : Nat} (h : fkey f.pg f 0 ≠ fkey g.pg g 0) : (s.wr f v).rdb g = s.rdb g := by
  unfold State.rdb
  rw [State.rd_wr_ne h]

theorem State.wr_rdb_same (s : State) (f : Fld) (v : Nat) : (s.wr f v).rdb f = (v % 2 ^ f.width == 1) := by
  unfold State.rdb
  rw [State.rd_wr_same]

theorem State.trb_rdb (s : State) (p k : Nat) (f : Fld) (a : isTele (fkey f.pg f 0) = false) (b : fkey f.pg f 0 ≠ trbKey p k) :
    (s.trb p k).rdb f = s.rdb f := by
  unfold State.rdb
  rw [State.trb_rd s p k f a b]

/-- Counting leaves alone every field beyond the page header of the pages that do not count themselves. -/
theorem isTele_high {p i : Nat} {f : Fld} (hl : f.lo < 64) (h1 : 0x60 ≤ f.off + f.stride * i) (h2 : f.off + f.stride * i < 4096)
    (h3 : p ≠ 9) (h4 : p ≠ 12) : isTele (fkey p f i) = false := by
  have e : fkey p f i / 64 = p * 4096 + f.off + f.stride * i := fkey_eq hl
  have o : (p * 4096 + f.off + f.stride * i) % 4096 = f.off + f.stride * i := by omega
  have q : (p * 4096 + f.off + f.stride * i) / 4096 = p := by omega
  simp only [isTele, e, o, q]
  simp
  omega

/-- The halves of a trouble counter lie below offset 0x40. -/
theorem trbKey_ne {p q i k : Nat} {f : Fld} (hk : k < 16) (hl : f.lo < 64) (h1 : 0x40 ≤ f.off + f.stride * i)
    (h2 : f.off + f.stride * i < 4096) : fkey q f i ≠ trbKey p k := by
  unfold trbKey
  have e : fkey q f i / 64 = q * 4096 + f.off + f.stride * i := fkey_eq hl
  have a : ∀ j, fkey p Reg.TRB_k_CNT_LO j / 64 = p * 4096 + 0x20 + 4 * j := fun j => fkey_eq (by decide)
  have b : ∀ j, fkey p Reg.TRB_k_CNT_HI j / 64 = p * 4096 + 0x20 + 4 * j := fun j => fkey_eq (by decide)
  split
  · intro h
    have := a (k / 2)
    rw [← h] at this
    omega
  · intro h
    have := b (k / 2)
    rw [← h] at this
    omega

/-- Fields of different pages have different keys. -/
theorem fkey_ne_page {p q i j : Nat} {f g : Fld} (hf : f.lo < 64) (hg : g.lo < 64) (h1 : f.off + f.stride * i < 4096)
    (h2 : g.off + g.stride * j < 4096) (h : p ≠ q) : fkey p f i ≠ fkey q g j := by
  have a : fkey p f i / 64 = p * 4096 + f.off + f.stride * i := fkey_eq hf
  have b : fkey q g j / 64 = q * 4096 + g.off + g.stride * j := fkey_eq hg
  intro e
  rw [e] at a
  omega

end Sys2Proof.Machine
end

