-- ==== Sys2Proof/Laws/Links.lean ====
section
/-! SUPPORT. Laws of the operations that follow a page or a pin: enables, ports and links. -/
namespace Sys2Proof.Machine

theorem wrp_blkEn {s : State} {q : Nat} {f : Fld} {i v p : Nat} (h : 16 ≤ f.off) (h2 : f.off + f.stride * i < 4096) (h3 : f.lo < 64) :
    (s.wrp q f i v).blkEn p = s.blkEn p := by
  unfold State.blkEn
  rw [State.rdp_wrp_ne]
  unfold fkey
  simp only [Reg.PG_CTRL_BLK_EN]
  omega

theorem evt_blkEn {s : State} {q k p : Nat} : (s.evt q k).blkEn p = s.blkEn p := by
  unfold State.evt State.blkEn
  rw [State.rdp_wrp_ne]
  unfold fkey
  simp only [Reg.PG_CTRL_BLK_EN, Reg.EVT_STAT_EVT]
  omega

theorem linkTo_blkEn {s : State} {n st p : Nat} : (s.linkTo n st).blkEn p = s.blkEn p := by
  unfold State.linkTo State.wlf
  dsimp only
  rw [wrp_blkEn (by decide) (by simp [Reg.FLK_STAT_STATE]; omega) (by decide)]
  split
  · exact evt_blkEn
  · split <;> rfl

theorem linkSettle_blkEn {s : State} {n p : Nat} : (s.linkSettle n).blkEn p = s.blkEn p := by
  unfold State.linkSettle
  (repeat' split) <;> first | rfl | exact linkTo_blkEn

theorem foldl_blkEn {α : Type} {f : State → α → State} {p : Nat} (h : ∀ s x, (f s x).blkEn p = s.blkEn p) (l : List α) (s : State) :
    (l.foldl f s).blkEn p = s.blkEn p := by
  induction l generalizing s with
  | nil => rfl
  | cons x l ih => rw [List.foldl_cons, ih, h]

theorem mem_withNat (l : List Nat) (n : Nat) : n ∈ withNat l n := by
  unfold withNat
  split
  · rename_i h; simpa using h
  · simp

theorem trb_blkEn {s : State} {q k p : Nat} : (s.trb q k).blkEn p = s.blkEn p := by
  rw [(State.trb_counts s q k).blkEn]
  unfold State.trouble
  split
  · rename_i h
    have hk : k < 16 := by
      unfold State.trbCounts at h
      simp at h
      have := trbUsed_le q
      omega
    unfold State.trbSet
    split
    · exact wrp_blkEn (by decide) (by simp [Reg.TRB_k_CNT_LO]; omega) (by decide)
    · exact wrp_blkEn (by decide) (by simp [Reg.TRB_k_CNT_HI]; omega) (by decide)
  · rfl

theorem portDown_blkEn {s : State} {q p : Nat} : (s.portDown q).blkEn p = s.blkEn p := by
  unfold State.portDown State.wpf State.ptrb
  dsimp only
  have h : ∀ (f : Fld) (u : State) (v : Nat), 16 ≤ f.off → f.off + f.stride * (q % 16) < 4096 → f.lo < 64 →
    (u.wrp (portPage q) f (q % 16) v).blkEn p = u.blkEn p := fun f u v a b c => wrp_blkEn a b c
  split
  · rw [trb_blkEn, h _ _ _ (by decide) (by simp [Reg.PORT_STAT_FEC_LOCK]; omega) (by decide),
      h _ _ _ (by decide) (by simp [Reg.PORT_STAT_ALIGNED]; omega) (by decide),
      h _ _ _ (by decide) (by simp [Reg.PORT_STAT_LINK_UP]; omega) (by decide)]
  · rw [h _ _ _ (by decide) (by simp [Reg.PORT_STAT_FEC_LOCK]; omega) (by decide),
      h _ _ _ (by decide) (by simp [Reg.PORT_STAT_ALIGNED]; omega) (by decide),
      h _ _ _ (by decide) (by simp [Reg.PORT_STAT_LINK_UP]; omega) (by decide)]

theorem blkEnSet_blkEn {s : State} {p : Nat} {en : Bool} (h : neverIdle p = false ∨ en = true) : (s.blkEnSet p en).blkEn p = en := by
  unfold State.blkEnSet State.syeAfter
  rw [if_neg (by rcases h with h | h <;> simp [h])]
  dsimp only
  have w : ∀ u : State, (u.wrp p Reg.PG_CTRL_BLK_EN 0 (b01 en)).blkEn p = en := by
    intro u
    unfold State.blkEn
    rw [State.rdp_wrp_same]
    cases en <;> rfl
  have c : ∀ (b : Prop) [Decidable b] (u : State), u.blkEn p = en → (if b then u.trb 0x15 3 else u).blkEn p = en := by
    intro b _ u hu
    split
    · rw [trb_blkEn, hu]
    · exact hu
  refine c _ _ (c _ _ ?_)
  by_cases h1 : 0x72 ≤ p ∧ p ≤ 0x79
  · rw [if_pos h1, State.linksSettle, foldl_blkEn (fun s x => linkSettle_blkEn), w]
  · rw [if_neg h1]
    split
    · exact w _
    · rw [foldl_blkEn (fun s x => portDown_blkEn), w]

theorem linkPage_range (n : Nat) : n < 40 → 0x72 ≤ linkPage n ∧ linkPage n ≤ 0x79 := by
  unfold linkPage; omega

theorem linkTo_rest {s : State} {n st k : Nat} (hn : n < 40) (hk : k / 64 / 4096 < 0x72) :
    (s.linkTo n st).regs.active.lookup k = s.regs.active.lookup k ∧ (s.linkTo n st).rst = s.rst := by
  unfold State.linkTo State.wlf
  dsimp only
  have := linkPage_range n hn
  rw [State.wrp_lookup_ne (by unfold fkey; simp only [Reg.FLK_STAT_STATE]; omega)]
  split
  · refine ⟨?_, rfl⟩
    unfold State.evt
    rw [State.wrp_lookup_ne (by unfold fkey; simp only [Reg.EVT_STAT_EVT]; omega)]
    rfl
  · split <;> exact ⟨rfl, rfl⟩

theorem linksSettle_rest {s : State} {k : Nat} (hk : k / 64 / 4096 < 0x72) :
    s.linksSettle.regs.active.lookup k = s.regs.active.lookup k ∧ s.linksSettle.rst = s.rst := by
  unfold State.linksSettle
  have g : ∀ l : List Nat, (∀ n ∈ l, n < 40) → ∀ s : State, (l.foldl State.linkSettle s).regs.active.lookup k = s.regs.active.lookup k ∧
      (l.foldl State.linkSettle s).rst = s.rst := by
    intro l
    induction l with
    | nil => exact fun _ _ => ⟨rfl, rfl⟩
    | cons x l ih =>
      intro hl s
      rw [List.foldl_cons]
      obtain ⟨a, b⟩ := ih (fun n h => hl n (List.mem_cons_of_mem _ h)) (s.linkSettle x)
      have h : (s.linkSettle x).regs.active.lookup k = s.regs.active.lookup k ∧ (s.linkSettle x).rst = s.rst := by
        unfold State.linkSettle
        (repeat' split) <;> first | exact ⟨rfl, rfl⟩ | exact linkTo_rest (hl x List.mem_cons_self) hk
      exact ⟨a.trans h.1, b.trans h.2⟩
  exact g _ (fun n h => by simpa using h) s

/-- Settling the links changes no register below the fabric's pages. -/
theorem linksSettle_rd (s : State) (f : Fld) (h : fkey f.pg f 0 / 64 / 4096 < 0x72) : s.linksSettle.rd f = s.rd f :=
  State.rdp_congr (linksSettle_rest h).1

end Sys2Proof.Machine
end

