-- ==== Sys2Proof/WellFormed.lean ====
section
/-! DEFINITION. WellFormed: the ranges of the commands' operands: page numbers and offsets of BAR0 (R22, R24), numbers of
ports, classes, links, stacks, rings, windows, cores and interrupt groups, and the widths of the fields of cells and
digests. A command that is not well-formed names nothing that the spec has; exec gives it no effect of its own or the
answer of R23 and R24. -/
namespace Sys2Proof

/-- A dword of a page: page numbers of BAR0 are 8 bits and offsets 12 (R22, R24). -/
def dwordOk (page off : Nat) : Bool := decide (page < 256) && decide (off < 4096) && off % 4 == 0

/-- A page of BAR0 (R22). -/
def pageOk (page : Nat) : Bool := decide (page < 256)

/-- A network port (R100). -/
def portOk (port : Nat) : Bool := decide (port < 128)

/-- An input of the packet path: a network port, or inject ring r as 192 + r (R347). -/
def inputOk (port : Nat) : Bool := portOk port || (decide (192 ≤ port) && decide (port < 208))

/-- A port of the scheduler's tables (R233, R240). -/
def schedOk (port : Nat) : Bool := decide (port < 160)

/-- A traffic class. -/
def clsOk (cls : Nat) : Bool := decide (cls < 8)

/-- A fabric link (R288). -/
def linkOk (link : Nat) : Bool := decide (link < 40)

/-- A fabric VOQ (R236). -/
def voqOk (voq : Nat) : Bool := decide (voq < 65536)

/-- A device of the fabric (R287). -/
def deviceOk (d : Nat) : Bool := decide (d < 8192)

/-- An HBM stack. -/
def stackOk (stack : Nat) : Bool := decide (stack < 8)

/-- A management core. -/
def coreOk (core : Nat) : Bool := decide (core < 4)

/-- A punt or an inject ring (R341). -/
def ringOk (ring : Nat) : Bool := decide (ring < 16)

/-- A tag of a host read (R355). -/
def tagOk (tag : Nat) : Bool := decide (tag < 512)

/-- A 96-bit network time (R5). -/
def time96Ok (t : Nat) : Bool := decide (t < 2 ^ 96)

/-- The fields of a TIME cell fit their widths (R283). -/
def TimeWord.wf (w : TimeWord) : Bool :=
  decide (w.epoch < 2 ^ 48) && decide (w.hops < 16) && decide (w.rootState < 8) && deviceOk w.rootId && time96Ok w.txTime
    && time96Ok w.peerRx

/-- The fields of a HELLO cell fit their widths (R283). -/
def Hello.wf (h : Hello) : Bool :=
  decide (h.fmt < 256) && deviceOk h.devId && decide (h.link < 256) && decide (h.ifv < 65536) && decide (h.ifvMin < 256)
    && decide (h.serial < 2 ^ 64) && h.sent.all (fun n => decide (n < 2 ^ 24))

/-- The fields of a CAIRN cell fit their widths (R283). -/
def CairnCell.wf (c : CairnCell) : Bool :=
  deviceOk c.origin && decide (c.seq < 65536) && decide (c.target < 2 ^ 48) && decide (c.mask < 2 ^ 128)

/-- The fields of a pair digest fit their widths (R92). -/
def Digest.wf (d : Digest) : Bool :=
  decide (d.version < 256) && decide (d.flags < 65536) && decide (d.epoch < 2 ^ 48) && time96Ok d.txTime && time96Ok d.peerRx
    && decide (d.genDigest < 2 ^ 64) && decide (d.decDigest < 2 ^ 64) && decide (d.decCount < 2 ^ 32)

/-- The fields of a management transaction fit their widths (R358). -/
def MtCell.wf (c : MtCell) : Bool :=
  decide (8 ≤ c.subtype) && decide (c.subtype ≤ 12) && deviceOk c.src && decide (c.tag < 65536) && decide (c.window < 8)
    && decide (c.len ≤ 64) && decide (c.offset < 2 ^ 24) && decide (c.reason < 256) && decide (c.data.length ≤ 64)

/-- The fields of a REQUEST cell fit their widths (R300). -/
def ReqCell.wf (r : ReqCell) : Bool :=
  deviceOk r.src && clsOk r.cls && decide (r.backlog < 2 ^ 24) && decide (r.gSeen < 2 ^ 32) && decide (r.charged < 2 ^ 32)
    && decide (r.returned < 2 ^ 32) && decide (r.seqAt < 2 ^ 24)

/-- The operands of a command lie in their ranges. -/
def Instr.wf (i : Instr) : Bool :=
  match i with
  | .registerWrite _ page off size _ => pageOk page && decide (off < 4096) && [1, 2, 4, 8].contains size
  | .lowDwordRead _ page off | .highDwordWrite _ page off _ => dwordOk page off
  | .trbWrite _ page k _ => pageOk page && decide (k < 8)
  | .blkEnWrite _ page _ | .blkSrst _ page | .blockResetDone page | .bankRetire page => pageOk page
  | .faultWindowEnd page n | .fwinCfgWrite _ page n _ | .fwinStatRead _ page n => pageOk page && decide (n < 4)
  | .channelRejoin ch => decide (ch < 3)
  | .ptpTsqRead _ k => decide (k < 4)
  | .timeWordReceived link w rx => linkOk link && w.wf && time96Ok rx
  | .digestReceived d rx => d.wf && time96Ok rx
  | .frameReceived port _ _ | .macControlFrame port _ | .fcRefresh port | .linkStateChange port _ _ _ _ => portOk port
  | .pauseTimerExpire port cls => portOk port && clsOk cls
  | .parseStart port _ => inputOk port
  | .secondPassStart pipe _ => decide (pipe < 16)
  | .fragEntryExpire bucket slot => decide (bucket < 8192) && decide (slot < 4)
  | .freeCacheRefill pool _ | .freeCacheSpill pool => decide (pool < 4)
  | .portTxReady port _ | .ropeWake port | .calendarPrefetch port _ _ | .gateEntryChange port _ | .cyclicListStart port
  | .timetableTakeover port | .timetableEntry port _ | .timetableFetch port | .gateTtCancel _ port => schedOk port
  | .cairnPost _ slot => decide (slot < 5)
  | .cairnCancel _ slot seq => decide (slot < 5) && decide (seq < 65536)
  | .cairnRepeat seq => decide (seq < 65536)
  | .cairnCellReceived link c => linkOk link && c.wf
  | .linkEnable _ link _ | .linkRestart _ link | .linkAligned link | .linkTrainTimeout link | .linkAlignLoss link | .helloSend link
  | .helloTimeout link | .cellRelay link | .creditSend link | .cellReceived link _ _ => linkOk link
  | .helloReceived link h => linkOk link && h.wf
  | .reorderTimeout src cls => deviceOk src && clsOk cls
  | .creditReceived link freed => linkOk link && freed.length == 3 && freed.all (fun n => decide (n < 2 ^ 24))
  | .voqDequeue voq _ | .requestRetry voq | .creditReturn voq => voqOk voq
  | .fmcQueueSend cls _ => clsOk cls
  | .requestReceived r => r.wf
  | .grantReceived src cls g => deviceOk src && clsOk cls && decide (g < 2 ^ 32)
  | .d2dChannelFail ch => decide (ch < 16)
  | .hbmInit _ stack | .hbmDlyDataAccess _ stack _ | .hbmTempRead stack _ | .refreshWindowClose stack => stackOk stack
  | .hbmInitDone stack failPc => stackOk stack && (match failPc with | some q => decide (q < 32) | none => true)
  | .hbmCommandIssue stack q => stackOk stack && decide (q < 32)
  | .scrubRead stack word _ => stackOk stack && decide (word < 2 ^ 29)
  | .bar2WindowAccess addr len w => decide (addr < 2 ^ 27) && decide (len ≤ 64) && (match w with | some b => b.length == len | none => true)
  | .mtRequestReceived link c | .mtResponseReceived link c => linkOk link && c.wf
  | .mtTimeout tag => decide (tag < 65536)
  | .winSwapComplete n | .winSwapHoldTimeout n => decide (n < 8)
  | .userCounterRead off len => decide (off < 65536) && [4, 8].contains len
  | .puntWrite ring _ | .injectFetch ring _ _ => ringOk ring
  | .containmentEnter cause => decide (1 ≤ cause) && decide (cause ≤ 6)
  | .hostLinkUp gen width => decide (1 ≤ gen) && decide (gen ≤ 5) && [1, 2, 4, 8].contains width
  | .completionReceived tag _ _ | .completionTimeout tag | .tagQuarantineEnd tag => tagOk tag
  | .icuClaim core | .coreReset _ core | .coreHalt _ core _ | .coreLoadDone core _ | .watchdogKick _ core | .watchdogExpire core
  | .coreFatalTrap core => coreOk core
  | .icuDone core src => coreOk core && decide (src < 2 ^ 32)
  | .holdoffExpire g => decide (g < 16)
  | .gpioFiltered n _ | .pgInFall n | .sdrefOkChange n _ => decide (n < 8)
  | .agentAccessFault addr _ => decide (addr < 2 ^ 32)
  | .thermalRead t => t.length == 24
  | .wake src => decide (src < 128)
  | .prbsErrRead _ page lane => decide (0x48 ≤ page) && decide (page ≤ 0x4B) && decide (lane < 32)
  | .hdmErrRead _ ring => decide (ring < 36)
  | .timeTick | .katComplete .. | .spnSelftest .. | .spnRestart .. | .pitchBoundary | .epochBoundary | .timCmdAcquire .. | .timCmdLock ..
  | .timCmdHold .. | .timCmdResume .. | .timCmdFree .. | .timFreqWrite .. | .timPhaseAdj .. | .holdTimeout | .traverseHoldTimeout
  | .smbusTempRead .. | .ppsInEdge | .ppsOutPulse | .todRxByte .. | .todRxRead .. | .todTxWrite .. | .servoConverged | .timeCellSend
  | .pairClaim .. | .pairRelease .. | .belayInQualified | .belayContention | .digestSend | .digestMissing | .pairSelfcheckDone ..
  | .seatedAsserted | .seatedQualified | .seatedDeasserted | .frameTailArrived .. | .fragFlush .. | .admission .. | .mcrRecordApply ..
  | .bpmApply .. | .freeStoreRebuildDone | .residenceScan | .latencySample | .latencyWrite | .latWdataAccess .. | .cairnCommit
  | .fabIdWrite .. | .grantEngine | .d2dTrain .. | .d2dReplay | .refreshWindowOpen | .hbmReadComplete .. | .hbmWriteRetire ..
  | .requestOverdue .. | .drqLatMaxRead .. | .tdmDescriptorTakeup .. | .tdmLoad .. | .tdmWrite .. | .tdmRead .. | .tdmInsert ..
  | .tdmRemove .. | .tdmStageFw .. | .tdmBadOp | .tdmDescriptorReadRetry .. | .tdmProfileApply .. | .learnRequest .. | .lrnPostGo ..
  | .lrnPostRemove .. | .learnAgeSweep | .shadowCompare .. | .shadowConfirm .. | .winSwap .. | .mirrorWrite | .hifContain .. | .hifRelease ..
  | .puntHoldExpire | .icuDoorbell .. | .bootStart | .candidateAccepted | .flashCopy .. | .bootTraverse .. | .bootLive ..
  | .headlessTimeout | .bootUnstage .. | .secAttest .. | .attestDone .. | .secCommit .. | .commitDone .. | .secFuseRead ..
  | .gotoStandby .. | .gotoReady .. | .gotoService .. | .gotoDrain .. | .domainSwitchOn .. | .domainReadyTimeout | .domainSwitchOff
  | .governorTick .. | .aonWakeTimer | .coldReset .. | .hostPerst .. | .softWarm .. | .warmClearDone | .flr | .pmuClearAll ..
  | .pmuValueWrite .. | .pairPresentChange .. | .pgInChange .. | .hostPerstDeassert | .hrxIdleExit | .busMasterEnableChange ..
  | .profileApplyDone | .flrClearDone | .endOfCold | .tapClock .. | .pairLinkFrame .. => true

end Sys2Proof
end

