-- ==== Sys2Proof/Tests/Slice0.lean ====
section
/-! SUPPORT. Tests: ill-formed commands that the well-formedness check refuses, worked values of the spec, and for each
statement a state and operands that meet the hypotheses of each of its clauses (named `wit_` and the statement's name). -/
namespace Sys2Proof.Tests

open Sys2Proof Sys2Proof.Machine

set_option Elab.async false

/-- A device in SERVICE with every domain on. -/
def up : State :=
  ({ State.reset with
      pwr := { PwrSt.initial with on := List.range 33 }
      rst := { RstSt.initial with cold := false } } : State).wr Reg.TOP_STAT_MODE 3

/-- The same in another mode. -/
def inMode (n : Nat) : State := up.wr Reg.TOP_STAT_MODE n

/-- The same at a device time of so many nanoseconds. -/
def atNs (s : State) (ns : Nat) : State :=
  let c := fun (x : Channel) => { x with time := ns * subPerNs }
  { s with time := { s.time with chA := c s.time.chA, chB := c s.time.chB, chC := c s.time.chC } }

/-- A cairn armed for one page at an epoch. -/
def armedFor (page target : Nat) : Armed :=
  { seq := 1, target := target, scope := false, mask := 2 ^ page, origin := 0, remote := false, arrival := 0, nextRepeat := 0 }

/-! ## Registers -/

theorem wit_RegisterWriteFollowsAccessCodes :
    (up.access .host 0x03 0x100 4 true = .ok ∧ actsWhenWritten 0x03 0x100 = false ∧ up.frozen 0x03 = false ∧
      ((fieldsAt 0x03 0x100).map (keyOf 0x03)).Nodup ∧ (∀ h ∈ fieldsAt 0x03 0x100, h.1.wide = false) ∧
      (fieldsAt 0x03 0x100).any (fun h => h.1.acc == .rw) = true) ∧
    (up.access .core0 0x48 0x100 4 true = .ok ∧ actsWhenWritten 0x48 0x100 = false ∧ up.frozen 0x48 = false ∧
      ((fieldsAt 0x48 0x100).map (keyOf 0x48)).Nodup ∧ (∀ h ∈ fieldsAt 0x48 0x100, h.1.wide = false) ∧
      (fieldsAt 0x48 0x100).any (fun h => h.1.acc == .rws) = true) := by decide +kernel

theorem wit_FrozenAndMalformedWritesChangeNothing :
    (let s := { up with cairn := { up.cairn with armed := [armedFor 0x40 1] } };
      s.access .host 0x40 0x100 4 true = .ok ∧ actsWhenWritten 0x40 0x100 = false ∧ s.frozen 0x40 = true ∧ fieldsAt 0x40 0x100 ≠ [] ∧
      ∀ h ∈ fieldsAt 0x40 0x100, h.1.acc = .rws) ∧
    ((2 ≠ 4 ∨ 0x100 % 4 ≠ 0 ∨ (blockOf 3).isNone) ∧ Master.core1 ≠ .host) ∧
    (4 ≠ 4 ∨ 0x102 % 4 ≠ 0 ∨ (blockOf 3).isNone) ∧ (4 ≠ 4 ∨ 0x100 % 4 ≠ 0 ∨ (blockOf 0x05).isNone) := by decide +kernel

theorem wit_HighDwordWriteTakesBothDwords :
    (up.access .host 0x0C 0x100 4 true = .ok ∧ actsWhenWritten 0x0C 0x100 = false ∧ Reg.HDM_BASE_i.wide = true ∧ up.frozen 0x0C = false ∧
      isTele (fkey 0x0C Reg.HDM_BASE_i 0) = false ∧ fieldsAt 0x0C 0x100 = [(Reg.HDM_BASE_i, 0, 0)]) ∧
    (up.access .host 0x0C 0x104 4 true = .ok ∧ actsWhenWritten 0x0C 0x104 = false ∧ fieldsAt 0x0C 0x104 = [(Reg.HDM_BASE_i, 0, 1)] ∧
      isHighDword 0x0C 0x104 = true) ∧
    (up.access .host 0x3A 0x10C 4 true = .ok ∧ actsWhenWritten 0x3A 0x10C = false ∧ up.frozen 0x3A = false ∧
      fieldsAt 0x3A 0x10C = [(Reg.SHD_LPM_BASE, 0, 1)] ∧ isHighDword 0x3A 0x10C = true ∧ Reg.SHD_LPM_BASE.acc = .rws) := by decide +kernel

theorem wit_LatchingReadsAndClearingAccesses :
    (up.access .host 0x40 0x128 4 false = .ok ∧ actsWhenRead 0x40 0x128 = false ∧
      ((fieldsAt 0x40 0x128).any (fun h => h.1.wide && h.2.2 == 0)) = true ∧ (fieldsAt 0x40 0x12C).any (fun h => h.1.wide && h.2.2 == 1) = true) ∧
    (7 < 8 ∧ up.access .host 0x40 (0x20 + 4 * 7) 4 true = .ok ∧ ¬ (0x40 = 9 ∧ 7 = 2)) ∧
    (0x48 ≤ 0x4B ∧ up.access .host 0x4B (0x108 + 0x10 * 31) 4 false = .ok) ∧ (35 < 36 ∧ up.access .host 0x0C (0x118 + 0x20 * 35) 4 false = .ok) ∧
    (up.access .host 0x09 0x100 4 true = .ok ∧ up.access .host 0x09 0x110 4 true = .ok ∧ up.access .host 0x09 0x114 4 true = .ok ∧
      (255#32).toNat < 256) := by decide +kernel

theorem wit_PageControlsAndFaultWindowsTakeEffect :
    (up.access .host 0x40 8 4 true = .ok ∧ neverIdle 0x40 = false) ∧ (up.access .host 0x00 8 4 true = .ok ∧ neverIdle 0x00 = true) ∧
    (blockRefused 0x40 = false ∧ up.rst.warm = false ∧ (up.rst.flr = false ∨ hostPages.contains 0x40 = false) ∧ up.rst.blocks.contains 0x40 = false) ∧
    blockRefused 0x00 = true ∧
    (let s : State := { up with rst := { up.rst with blocks := [0x40] } }; 0x40 < 0x80 ∧ s.rst.blocks.contains 0x40 = true) ∧
    (let s := atNs ((up.wrp 0x40 Reg.FWIN_n_CFG_LEN 3 1).wrp 0x40 Reg.FWIN_n_CFG_THRESH 3 2) 250000;
      (blockOf 0x40).isSome ∧ 3 < 4 ∧ s.windowDue 0x40 3 = true) ∧
    (up.access .host 0x40 (0x40 + 8 * 3) 4 true = .ok ∧ up.access .host 0x40 (0x44 + 8 * 3) 4 false = .ok) := by decide +kernel

/-! ## Time and the rope -/

theorem wit_TicksAdvanceAndDissentersLeaveTheVote :
    let s : State := { (up.wr Reg.SPN_STAT_RUNNING 7).wr Reg.SPN_CTL_AUTO_RESTART 0 with time := { up.time with chC := { up.time.chC with time := 5 } } };
    s.rd Reg.SPN_STAT_RUNNING = 7 ∧ s.rdb Reg.SPN_CTL_AUTO_RESTART = false ∧
      (s.tickChannels.chan 0).time = (s.tickChannels.chan 1).time ∧ (s.tickChannels.chan 2).time ≠ (s.tickChannels.chan 0).time := by
  decide +kernel

theorem wit_ChannelChecksAndRestartsEnd :
    up.access .host 0x13 0x108 4 true = .ok ∧
    (let s := (up.wr Reg.SPN_STAT_RUNNING 7).wr Reg.SPN_STAT_CHECKING 1; s.rdb Reg.SPN_STAT_CHECKING = true ∧
      s.spine.checkNoMajority = false ∧ s.spine.checkTwo = false ∧ s.rd Reg.SPN_STAT_RUNNING = 7) ∧
    (2 < 3 ∧ (up.chan 2).fallow = false) ∧
    (let s : State := { up with time := { up.time with chC := { up.time.chC with rejoinAt := some 0 } } };
      (s.chan 2).rejoinAt = some 0 ∧ 0 ≤ s.epoch) := by decide +kernel

theorem wit_PitchAndEpochBoundariesTakeEffect :
    let s : State := { up with time := { up.time with freqPending := some (-3) } };
    s.timeRuns = true ∧ s.time.freqPending = some (-3) := by decide +kernel

theorem wit_TimeStateFollowsItsTable :
    up.access .host 0x10 0x104 4 true = .ok ∧ (up.tState = 0 ∧ (3#2) ≠ 0) ∧ ((up.wr Reg.TIM_STATE_STATE 3).tState = 3) ∧
    (let s := (up.wr Reg.TIM_STATE_STATE 1).wr Reg.TIM_STATE_REF 2; s.tState = 1 ∧ s.tRef ≠ 3) ∧
    (let s := (up.wr Reg.TIM_STATE_STATE 2).wr Reg.TIM_STATE_VALID 1; s.tState = 2 ∧ s.rdb Reg.TIM_STATE_VALID = true) ∧
    (let s := up.wr Reg.TIM_STATE_STATE 4; s.tState = 4 ∧ s.time.beforeTraverse < 8 ∧ ¬ (s.tState = 0 ∨ s.tState = 3)) ∧
    (up.access .host 0x10 0x120 4 true = .ok ∧ up.tState ≤ 2 ∧ up.tRef ≠ 3) ∧
    (let s := (up.wr Reg.TIM_STATE_STATE 2).wr Reg.TIM_SLEW_SLEW_LIMIT 100; up.access .host 0x10 0x124 4 true = .ok ∧ s.slewLimit ≠ 0 ∧ s.tState ≠ 0 ∧
      toSigned 32 (0#32).toNat ≤ 0 ∧ 0 < toSigned 32 (0x7FFFFFFF#32).toNat ∧
      (s.rd Reg.TIM_STEP_THRESH_NS : Int) * subPerNs < s.time.phaseRem + toSigned 32 (0x7FFFFFFF#32).toNat * subPerNs) ∧
    (let s := atNs (((up.wr Reg.TIM_STATE_STATE 2).wr Reg.TIM_STATE_VALID 1).wr Reg.TIM_HOLD_TIMEOUT_EPOCHS 3) 375000;
      s.tState = 2 ∧ s.rdb Reg.TIM_STATE_VALID = true ∧ s.rd Reg.TIM_HOLD_TIMEOUT_EPOCHS ≠ 0 ∧
        s.time.servoEpoch + s.rd Reg.TIM_HOLD_TIMEOUT_EPOCHS ≤ s.epoch) ∧
    (let s := atNs (up.wr Reg.TIM_STATE_STATE 4) 4000000000; s.tState = 4 ∧ s.time.travEpoch + 32000 ≤ s.epoch) ∧
    (let s : State := { (up.wr Reg.TIM_STATE_STATE 1).wr Reg.TIM_STATE_REF 3 with time := { up.time with convergeCount := 64 } };
      s.tState = 1 ∧ s.tRef = 3 ∧ 64 ≤ s.time.convergeCount) := by decide +kernel

theorem wit_TimePinsAndFifos :
    up.domainUp 3 = true ∧
    (let s : State := { (up.wr Reg.TIM_PPS_OUT_EN 1).wr Reg.TIM_PPS_OUT_WIDTH 10 with pins := { up.pins with sharedOut := true } };
      s.rdb Reg.TIM_PPS_OUT_EN = true ∧ s.rd Reg.TIM_PPS_OUT_WIDTH ≠ 0 ∧ s.pins.sharedOut = true) ∧
    ({ up with pins := { up.pins with sharedOut := false } } : State).pins.sharedOut = false ∧
    (let s : State := up.wr Reg.TIM_TOD_BAUD_IN 8; baudOf (s.rd Reg.TIM_TOD_BAUD_IN) ≠ 0 ∧ s.time.todRx.length < 256 ∧ s.mode ≠ 0) ∧
    (up.access .host 0x10 0x170 4 false = .ok ∧ up.access .host 0x10 0x174 4 true = .ok ∧ up.time.todTx.length < 256 ∧
      ({ up with time := { up.time with todRx := [7] } } : State).time.todRx = 7 :: []) ∧
    (let s : State := { up with time := { up.time with tsq := [9], tsqLatch := 9 } };
      3 < 4 ∧ s.access .host 0x14 (0x120 + 4 * 3) 4 false = .ok ∧ s.time.tsq = 9 :: [] ∧ s.time.tsqLatch = 9) ∧
    (up.wr Reg.TIM_HOLD_CFG_TEMP_SRC 3).tempSrc = 3 := by decide +kernel

/-! ## The device pair -/

/-- A device that takes part in a pair. -/
def paired : State :=
  { up.wr Reg.PAIR_CTL_EN 1 with pins := { up.pins with present := true, belayIn := false, belayInQuiet := true } }

theorem wit_BelayDecidesOwnership :
    (paired.access .host 0x17 0x104 4 true = .ok ∧ paired.inPair = true ∧ paired.pins.belayIn = false ∧ paired.pins.belayInQuiet = true ∧
      paired.owner = false ∧ paired.pins.belayOut = false) ∧
    (paired.wr Reg.PAIR_CTL_AUTO_TAKEOVER 1).rdb Reg.PAIR_CTL_AUTO_TAKEOVER = true ∧ paired.rdb Reg.PAIR_STAT_UNFIT = false ∧
    (let s : State := { paired with pins := { paired.pins with belayOut := true, seat := true } };
      s.access .core1 0x17 0x104 4 true = .ok ∧ s.inPair = true ∧ s.pins.belayOut = true ∧ s.pins.seat = true) := by decide +kernel

/-- A digest of epoch 1. -/
def digest1 : Digest :=
  { version := 1, flags := 0, epoch := 1, txTime := 0, peerRx := 0, genDigest := 5, decDigest := 6, decCount := 0 }

theorem wit_DigestsAndSelfChecksCompareThePair :
    (let s : State := { atNs paired 250000 with pair := { paired.pair with own := [(1, 4, 6, 0)] } };
      s.inPair = true ∧ s.pair.own.find? (fun r => r.1 == s.epoch - 1) = some (s.epoch - 1, 4, 6, 0) ∧ digest1.version = 1 ∧
      s.pair.own.find? (fun r => r.1 == digest1.epoch) = some (digest1.epoch, 4, 6, 0) ∧ 4 ≠ digest1.genDigest ∧
      2 ≤ s.epoch ∧ s.epoch - 2 ∉ s.pair.peerSeen) ∧
    (let s := (paired.wr Reg.PAIR_MISS_LIMIT_N 1); s.rd Reg.PAIR_MISS_LIMIT_N ≠ 0 ∧ s.rd Reg.PAIR_MISS_LIMIT_N ≤ s.pair.missRun + 1) ∧
    (let b := withFcs (zeros 12 ++ toBe 2 0x88B5 ++ digestBytes 0 1 0 0 5 6 0); paired.pagePowered 0x17 = true ∧ fcsBad b = false ∧
      beAt b 12 2 = 0x88B5 ∧ beAt b 14 1 = 0x4B) ∧
    (let s : State := { (paired.wr Reg.PAIR_STAT_CHECKING 1).wr Reg.PAIR_STAT_OWNER 1 with pins := { paired.pins with belayOut := true } };
      s.rdb Reg.PAIR_STAT_CHECKING = true ∧ s.owner = true ∧ s.inPair = true) := by decide +kernel

/-! ## Ports -/

/-- Port 127 runs at 100 Gb/s with its link up. -/
def lit : State :=
  { ((((up.wpf Reg.PORT_CFG_EN 127 1).wpf Reg.PORT_CFG_WIDTH 127 1).wpf Reg.PORT_CFG_LANE_RATE 127 4).wpf Reg.PORT_CFG_FEC 127 3).wpf
      Reg.PORT_STAT_LINK_UP 127 1 with pins := { up.pins with sdref := 0xFF } }

/-- A frame of 64 bytes with a good FCS and EtherType 0x0800. -/
def frame64 : Bytes := withFcs (zeros 12 ++ [0x08, 0x00] ++ zeros 46)

/-- A PAUSE frame of so many quanta. -/
def pauseBytes (q : Nat) : Bytes := zeros 12 ++ toBe 2 0x8808 ++ toBe 2 1 ++ toBe 2 q

theorem wit_FramesAndPausesReachTheirPort :
    (127 < 128 ∧ lit.linkUp 127 = true ∧ lit.forwarding = true ∧ 64 ≤ frame64.length ∧ frame64.length ≤ lit.maxFrame 127 ∧
      fcsBad frame64 = false ∧ beAt frame64 12 2 ≠ 0x8808 ∧ lit.clockEvent 127 frame64 = false ∧ isEsmc frame64 = false ∧
      (lit.port 127).fill + frame64.length ≤ lit.fifoSize 127) ∧
    (let s := lit.wpf Reg.PORT_FC_RX_MODE 127 1; s.linkUp 127 = true ∧ s.forwarding = true ∧ s.pf Reg.PORT_FC_RX_MODE 127 = 1 ∧
      beAt (pauseBytes 9) 14 2 = 1 ∧ beAt (pauseBytes 0) 14 2 = 1) ∧
    (let s := lit.wpf Reg.PORT_STAT_RX_PAUSED 127 128; 7 < 8 ∧ bitN (s.pf Reg.PORT_STAT_RX_PAUSED 127) 7 = 1 ∧
      (s.port 127).pauseUntil.getD 7 0 ≤ s.ns * 1000) ∧
    (let s := (lit.wpf Reg.PORT_FC_TX_MODE 127 1).setPort 127 { lit.port 127 with admBp := 1 }; (s.port 127).asserted ≠ 0 ∧
      s.pf Reg.PORT_FC_QUANTA 127 ≠ 0 ∧ s.pf Reg.PORT_FC_REFRESH_QUANTA 127 ≠ 0 ∧ s.txOn 127 = true ∧ s.pf Reg.PORT_FC_TX_MODE 127 = 1) := by
  decide +kernel

theorem wit_LinkUpFollowsTheReceiveSide :
    lit.portRuns 127 = true ∧ up.pins.seated = true ∧ up.mode ≠ 0 ∧ 7 < 8 := by decide +kernel

/-! ## The packet path and buffers -/

/-- A frame of 64 bytes that has arrived whole. -/
def inFrame : InFrame :=
  { pid := 1, bytes := frame64, whole := true, badFcs := false, cls := 0, ecpri := false, trx := 0, meta16 := 0, direct := none }

/-- A packet of that frame. -/
def packet : Packet :=
  { pid := 1, bytes := frame64.take 60, plen := some 60, port := 127, mport := 127, pass := 2, gens := Gens.none, start2 := 0
    parse := ParseRes.empty, d := Decision.start 0 0 none 0, hash := 0, l3ofs := 0, tos := none, proto := none, dport := none
    trx := 0, tcOpen := false, tailDone := true, bad := false, crc := 0, rxLen := 64, cls0 := 0, fixLater := none, alloc := 0
    inSpeed := 100, reason := 0, srcDev := 0, pipe := 15, standby := false }

theorem wit_PacketsMoveThroughThePath :
    (let s := lit.setPort 127 { lit.port 127 with fifo := [inFrame] }; (s.port 127).fifo = inFrame :: [] ∧ inFrame.ready = true ∧
      s.runs (0x20 + portPipe 127) = true ∧ s.pipeHeld (portPipe 127) = false ∧ s.pwr.govRate ≠ 0) ∧
    (let s : State := { lit with path := { lit.path with recirc := [packet] } };
      s.path.recirc.find? (fun q => q.pipe == 15 && q.tailDone) = some packet ∧ packet.pass = 2 ∧ s.runs (0x20 + 15) = true ∧ s.pipeHeld 15 = false) ∧
    (let s : State := { lit with path := { lit.path with d2d := [packet] }, buf := { lit.buf with rebuilding := false } };
      s.path.d2d = packet :: [] ∧ s.pageReady 0x50 = true) ∧
    (let f := { inFrame with bytes := frame64.take 40, whole := false };
      let s := lit.setPort 127 { lit.port 127 with fifo := [f] }; s.bufFind 1 = none ∧ s.fifoFind 1 = some (127, f) ∧
      (s.port 127).fill + (frame64.drop 40).length ≤ s.fifoSize 127) ∧
    (let p := { packet with tailDone := false };
      let s : State := { lit with path := { lit.path with d2d := [p] } }; s.bufFind 1 = none ∧ s.fifoFind 1 = none ∧
      pendingIn s.path.recirc 1 = none ∧ pendingIn s.path.d2d 1 = some p) := by decide +kernel

theorem wit_FragmentEntriesEndAndMatchesCount :
    up.access .host 0x31 0x120 4 true = .ok ∧
    (let s : State := { up with path := { up.path with mcrq := [(3, 68)] } }; s.path.mcrq = (3, 68) :: [] ∧ MemFinding.clean ≠ .uncorrectable) := by
  decide +kernel

/-- A free store of one pool with 2,000 buffers in the ring and `n` in the cache, and three empty pools. -/
def stored (n : Nat) : State :=
  let p : Pool := { base := 0, total := 2000 + n, ring := [(0, 1000), (1000, 1000)], cache := [(2000, n)] }
  let e : Pool := { base := 0, total := 0, ring := [], cache := [] }
  { up with buf := { up.buf with pools := [p, e, e, e], rebuilding := false } }

theorem wit_TheFreeStoreKeepsItsIndices :
    (0 < 4 ∧ (stored 1023).buf.pools.length = 4 ∧ (stored 1023).poolPresent 0 = true ∧ (stored 1023).buf.rebuilding = false ∧
      runsLen ((stored 1023).pool 0).cache < 1024 ∧ ((stored 1023).pool 0).ring ≠ [] ∧ MemFinding.onDie ≠ .uncorrectable) ∧
    (3072 < runsLen ((stored 3073).pool 0).cache) ∧
    (let s := ((((inMode 2).wri Reg.BPM_POOL_n_SIZE 0 30).wri Reg.BPM_POOL_n_SIZE 1 30).wri Reg.BPM_POOL_n_SIZE 2 30).wri Reg.BPM_POOL_n_SIZE 3 30;
      let z := (List.range 4).map (fun n => s.rdi Reg.BPM_POOL_n_SIZE n);
      s.access .host 0x50 0x110 4 true = .ok ∧ s.mode = 2 ∧ z.sum ≤ 120 ∧
        ((List.range 4).map (fun n => poolBuffers n (z.getD n 0))).sum ≤ 184549376) ∧
    (up.mode ≠ 2 ∧ up.buf.rebuilding = true ∧ up.runs 0x50 = true) := by decide +kernel

/-! ## Scheduling, gates and latency -/

/-- A buffer that holds the sample packet. -/
def buffer1 : Buffer :=
  { bid := 1, pool := 1, idx := 0, pkt := packet, refs := 1, fabric := false, occPort := 127, occCls := 0, charge := 512 }

/-- A copy of it for port 127. -/
def copy1 : QEnt :=
  { bid := 1, dst := 127, cls := 0, tenq := 0, gens := Gens.none, reason := 0, mirror := none, cut := false, sent := none }

/-- Port 127 with a copy in queue 0, a calendar whose rope names that queue at rank 1, and no shaping. -/
def busy : State :=
  { (lit.wrp 0x54 Reg.PG_CTRL_BLK_EN 0 0).wrp 0x56 Reg.PG_CTRL_BLK_EN 0 0 with
      buf := { lit.buf with bufs := [(1, buffer1)], rebuilding := false }
      q := { lit.q with egress := [(0, [copy1])] }
      tab := { lit.tab with snAct := [(0, 2 ^ 31)], anAct := [(0, 2 ^ 31 + 127)] }
      banks := { lit.banks with cals := [(127, { Banked.initial Calendar.empty with
        active := { gen := 1, body := { Calendar.empty with rope := [1500 * 2 ^ 20 + 2 ^ 16] }, digest := 0 } })] } }

theorem wit_ArbitersSendTheHeadTheyPick :
    busy.txIdle 127 = true ∧ busy.txOpen 127 = true ∧ busy.calPresent 127 = true ∧ (busy.sch 127).todo = [] ∧
      (busy.nextQueue [] 127).2 = some 0 ∧ (busy.nextQueue [] 127).1.eq 0 = copy1 :: [] ∧
      (busy.walkRope [] 127 ranks).2 = some 0 ∧ (busy.walkRope [] 127 ranks).1.eq 0 = copy1 :: [] := by decide +kernel

theorem wit_ScansAndPrefetchesMoveOn : 127 < 160 ∧ busy.calPresent 127 = true := by decide +kernel

/-- A port whose gate list runs, waits to start, and whose timetables are given. -/
def gated (start : Option Nat) (act pend : Option Timetable) : State :=
  up.setGate 159 { up.gate 159 with running := start.isNone, start := start, ttActive := act, ttPending := pend }

/-- A timetable of one entry. -/
def table1 : Timetable := { takeover := 250000, initial := 0, entries := [(250000, 5)] }

theorem wit_GatesFollowListsAndTimetables :
    (let s := gated none none none; 159 < 160 ∧ (s.gate 159).running = true ∧ (s.gate 159).fault = false ∧ MemFinding.clean ≠ .uncorrectable) ∧
    (let s := atNs (gated (some 1000) none none) 1000; (s.gate 159).start = some 1000 ∧ 1000 ≤ s.ns) ∧
    (let s := atNs (gated none none (some table1)) 250000; (s.gate 159).ttPending = some table1 ∧ table1.takeover ≤ s.ns) ∧
    (let s := atNs (gated none (some table1) none) 250000; (s.gate 159).ttActive = some table1 ∧
      table1.entries[(s.gate 159).ttNext]? = some (250000, 5) ∧ 250000 ≤ s.ns) ∧
    (let s := gated none none (some table1); s.access .host 0x56 0x100 4 true = .ok ∧ (s.gate 159).ttPending = some table1 ∧
      s.epoch + 1 < table1.takeover / 125000) ∧
    ((gated none none none).gate 159).ttPending = none := by decide +kernel

theorem wit_LatencySamplesAreTakenAndWritten :
    (up.wr Reg.LAT_CTL_EN 1).latOn = true ∧
    (let s : State := { up with host := { up.host with bme := true } }; s.runs 0x57 = true ∧ s.dmaOk = true) ∧
    (up.access .host 0x57 0x118 4 true = .ok ∧ up.frozen 0x57 = false ∧ up.access .host 0x57 0x118 4 false = .ok) := by decide +kernel

/-! ## Cairns and generations -/

/-- A device whose slots 0 and 4 name page 0x40 for epoch 5 or later. -/
def posting : State :=
  (((up.wri Reg.CRN_Pm_MASK_2_GROUPS 0 1).wri Reg.CRN_Pm_TGT_LO_TARGET 0 5).wri Reg.CRN_Pm_MASK_2_GROUPS 4 1).wri Reg.CRN_Pm_TGT_LO_TARGET 4 5

theorem wit_PostsAndCancelsFollowTheirChecks :
    (0 < 5 ∧ posting.access .host 0x16 (0x118 + 0x20 * 0) 4 true = .ok ∧ Master.host = slotMaster 0) ∧
    (4 < 5 ∧ posting.access .core3 0x16 (0x118 + 0x20 * 4) 4 true = .ok ∧ Master.core3 = slotMaster 4 ∧ Master.core1 ≠ slotMaster 4) ∧
    (posting.rst.headless = false ∧ 0 ≠ 4 ∧ (up.rdi Reg.CRN_Pm_TGT_HI_SCOPE 0 == 1) = false ∧
      up.rdi Reg.CRN_Pm_TGT_LO_TARGET 0 + up.rdi Reg.CRN_Pm_TGT_HI_TARGET 0 * 2 ^ 32 ≤ up.epoch + 4) ∧
    (let a := armedFor 0x40 5; let s : State := { up with cairn := { up.cairn with armed := [a] } };
      s.armedSeq 1 = some a ∧ a.scope = false ∧ a.remote = false ∧ s.epoch + 1 < a.target ∧ s.armedSeq 65535 = none) := by decide +kernel

theorem wit_CommitsMakeStagedFieldsActive :
    let a := armedFor 0x51 1;
    let s : State := atNs { up with cairn := { up.cairn with armed := [a, { armedFor 0x52 9 with seq := 2 }] } } 125000;
    0x51 ∈ [0x48, 0x49, 0x4A, 0x4B, 0x51, 0x52] ∧ s.pagePowered 0x16 = true ∧ a ∈ s.cairn.armed ∧
      (∀ x ∈ s.cairn.armed, x.target ≤ s.epoch ↔ x = a) ∧ maskPages a.mask = [0x51] := by decide +kernel

theorem wit_BanksRetireAndFabricWideCairnsSpread :
    (let b : Bank (List Nat) := { gen := 1, body := [], digest := 0 };
      let s : State := atNs { up with banks := { up.banks with
          parse := { up.banks.parse with retiring := some (b, 3) }
          frt := { up.banks.frt with retiring := some (b, 3) } } } 500000;
      s.drainCount 0x30 = 0 ∧ s.banks.parse.retiring = some (b, 3) ∧ 3 + 1 ≤ s.epoch ∧ s.drainCount 0x71 = 0 ∧
        s.banks.frt.retiring = some (b, 3)) ∧
    (let b : Bank (List Nat) := { gen := 1, body := [], digest := 0 };
      let s : State := { up with
        banks := { up.banks with parse := { up.banks.parse with retiring := some (b, 3) } }
        path := { up.path with recirc := [{ packet with gens := { Gens.none with parse := 1 } }] } };
      s.drainCount 0x30 ≠ 0) ∧
    (let a := { armedFor 0x40 100 with scope := true };
      let s : State := { up.wr Reg.CRN_CTL_FAB_EN 1 with cairn := { up.cairn with armed := [a] } };
      s.cairn.armed.find? (fun a => a.seq == 1 && a.scope && !a.remote) = some a ∧ a.nextRepeat ≤ s.epoch ∧ s.epoch + 8 ≤ a.target ∧
        s.rdb Reg.CRN_CTL_FAB_EN = true) ∧
    (let s : State := { (up.wlf Reg.FLK_STAT_STATE 39 3).wr Reg.CRN_CTL_FAB_EN 1 with cairn := { up.cairn with seen := [(7, 8)] } };
      s.linkIsUp 39 = true ∧ s.pagePowered 0x16 = true ∧ s.rdb Reg.CRN_CTL_FAB_EN = true ∧ s.cairn.seen.contains (7, 8) = true ∧
        s.cairn.seen.contains (7, 9) = false ∧ s.rst.headless = false) := by decide +kernel

theorem wit_GenerationsRunFromOneAndAlternate :
    let b : Bank (List Nat) := { gen := 2, body := [], digest := 0 };
    let s : State := { up with banks := { up.banks with parse := { up.banks.parse with staged := some b } } };
    s.hasStagedBank 0x30 = true ∧ s.pagePowered 0x30 = true ∧ s.pageGen 0x30 ≤ 0xFFFE := by decide +kernel

/-! ## Links -/

/-- Link 39 in a state of the table, allowed to run, with its reference clock there. -/
def linkIn (st : Nat) : State :=
  { (up.wlf Reg.FLK_CTL_EN 39 1).wlf Reg.FLK_STAT_STATE 39 st with pins := { up.pins with sdref := 0xFF } }

/-- A HELLO that fails no check but possibly those of identity. -/
def hello (dev : Nat) : Hello :=
  { fmt := 1, idValid := true, oneGroup := false, heard := true, devId := dev, link := 3, ifv := 0x0100, ifvMin := 0, serial := 77
    sent := [0, 0, 0] }

theorem wit_LinkStatesFollowTheTable :
    (39 < 40 ∧ (linkIn 0).access .host (linkPage 39) (0x100 + 64 * (39 % 5)) 4 true = .ok ∧
      ((linkIn 0).wlf Reg.FLK_CTL_EN 39 1).linkAllowed 39 = true ∧ (linkIn 0).lstate 39 = 0) ∧
    (linkIn 3).access .host (linkPage 39) (0x100 + 64 * (39 % 5)) 4 true = .ok ∧ (linkIn 3).lstate 39 ≠ 0 ∧
    ((linkIn 1).lstate 39 = 1 ∧ (linkIn 1).pins.sdref.getLsbD (4 + 39 / 10) = true) ∧ (linkIn 2).lstate 39 = 2 ∧ (linkIn 3).lstate 39 = 3 ∧
    (let s := atNs (linkIn 3) 500000; s.lstate 39 = 3 ∧ (s.link 39).helloAt + 500000 ≤ s.ns) := by decide +kernel

theorem wit_HellosAndIdentityDecideLinks :
    (39 < 40 ∧ 2 ≤ (linkIn 2).lstate 39 ∧ (linkIn 2).lstate 39 = 2) ∧
    (let s := (linkIn 3).setLink 39 { LinkSt.initial with peer := some (hello 9) };
      s.lstate 39 = 3 ∧ (s.link 39).peer = some (hello 9) ∧ otherPeer (hello 9) (hello 8) = true) ∧
    (up.access .host 0x70 0x100 4 true = .ok ∧ up.upLinks = [] ∧ up.pins.straps.getLsbD 5 = false) ∧
    ((linkIn 3).access .host 0x70 0x100 4 true = .ok ∧ (linkIn 3).upLinks ≠ []) := by decide +kernel

/-- The identity check itself answers 1 for another format; code 0 depends on the device's own serial number, which is free. -/
theorem hello_checks : up.helloCheck 39 { hello 9 with fmt := 2 } = 1 ∧ up.helloCheck 39 { hello 9 with ifv := 0x0200 } ≠ 0 := by
  decide +kernel

/-! ## Link credits, relays and time words, and end-to-end credits -/

/-- Link 39 up with a link record. -/
def withLink (x : LinkSt) : State := (linkIn 3).setLink 39 x

theorem wit_CreditsAndTimeCrossLinks :
    (let s := withLink { LinkSt.initial with freed := [1, 0, 0] }; s.linkIsUp 39 = true ∧ (s.link 39).freed ≠ (s.link 39).reported) ∧
    (let s := withLink { LinkSt.initial with own := [controlCell 0 39 (zeros 240)] };
      s.linkIsUp 39 = true ∧ (s.relayHeads 39).filter (s.mayRelay 39) ≠ []) ∧
    ((linkIn 3).linkIsUp 39 = true ∧ 39 ∈ (linkIn 3).upLinks ∧ ((linkIn 3).link 39).tx.any (fun e => e.1 == (linkIn 3).epoch) = false) := by
  decide +kernel

/-- A CREDIT cell passes its checks, and some 256 bytes fail theirs. -/
theorem credit_cells :
    (let b := controlCell 3 39 (toBe 4 1 ++ toBe 4 2 ++ toBe 4 3); crcGood b = true ∧ cKind b = 3 ∧ controlOk b = true ∧ cSubtype b = 3) ∧
    ∃ b : Bytes, b.length = 256 ∧ crcGood b = false :=
  ⟨⟨withCrc_good _ _, by decide +kernel⟩, bad_crc_exists⟩

theorem wit_DieToDieLinkTrainsAndRepairs :
    ((inMode 1).runs 0x7C = true ∧ (inMode 1).mode = 1) ∧ (up.wr Reg.D2D_STAT_UP 1).rdb Reg.D2D_STAT_UP = true ∧
    (let s : State := { up with d2d := { up.d2d with failed := [3] } }; 15 < 16 ∧ 15 ∉ s.d2d.failed ∧ 3 ∈ s.d2d.failed) := by decide +kernel

/-- A fabric queue that holds one packet of a 512-byte buffer, with so many units granted. -/
def voqWith (credit : Nat) : State :=
  { up with
      buf := { up.buf with bufs := [(1, buffer1)] }
      q := { up.q with voq := [(65535, [copy1])] }
      fab := { up.fab with gSeen := if credit = 0 then [] else [(65535, credit)] } }

theorem wit_FabricQueuesSendAgainstGrants :
    (let s := voqWith 4; s.voqOf 65535 = copy1 :: [] ∧ s.tooOld copy1 = false ∧ s.buffer 1 = some buffer1 ∧ copy1.sent = none ∧
      copy1.cut = false ∧ (chargeUnits buffer1.pool : Int) ≤ s.voqCredit 65535) ∧
    (let s := voqWith 3; s.voqOf 65535 = copy1 :: [] ∧ s.voqCredit 65535 < (chargeUnits buffer1.pool : Int)) ∧
    (let s : State := atNs { voqWith 0 with fab := { up.fab with reqAt := [(65535, 1)] } } 10000;
      s.rd Reg.FCR_REQ_RETRY_US ≠ 0 ∧ s.fab.reqAt.get 0 65535 ≠ 0 ∧
        s.fab.reqAt.get 0 65535 - 1 + s.rd Reg.FCR_REQ_RETRY_US * 1000 ≤ s.ns ∧ s.voqOf 65535 ≠ []) ∧
    (let s : State := { up with fab := { up.fab with gSeen := [(65535, 4)], emptyRun := [(65535, 1)] } };
      s.voqOf 65535 = [] ∧ 0 < s.voqCredit 65535 ∧ max 1 (s.rd Reg.FCR_RETURN_EPOCHS) ≤ s.fab.emptyRun.get 0 65535) ∧
    (behind32 ((voqWith 4).fab.gSeen.get 0 (pairKey 8191 7)) 5 = true ∧ behind32 ((voqWith 4).fab.gSeen.get 0 (pairKey 8191 7)) 3 = false) ∧
    (let s : State := { up with fab := { up.fab with backlog := [(pairKey 8191 7, 100)] } };
      s.runs 0x7B = true ∧ 7 < 8 ∧ s.fab.backlog = [(pairKey 8191 7, 100)]) := by decide +kernel

theorem wit_MulticastQueuesAndReorderingGoOn :
    (let s : State := { voqWith 0 with q := { up.q with fmcq := [(7, [copy1])] } };
      7 < 8 ∧ s.fmcOf 7 = copy1 :: [] ∧ s.tooOld copy1 = false ∧ s.buffer copy1.bid = some buffer1 ∧
        s.rdi Reg.FMC_RATE_c_MBPS 7 ≠ 0 ∧ s.fab.fmcAt.get 0 7 ≤ s.ns) ∧
    (let s : State := atNs { up with fab := { up.fab with reasm := [(pairKey 9 7,
        { Reasm.initial with
            held := [(2, zeros 256)]
            gapAt := some 0 })] } } 20000;
      (s.ctx (pairKey 9 7)).gapAt = some 0 ∧ 0 + s.rd Reg.FCR_REORDER_NS ≤ s.ns ∧ (s.ctx (pairKey 9 7)).nextHeld = some (2, zeros 256)) := by
  decide +kernel

/-! ## HBM -/

/-- Stack 7 in a state of its table. -/
def stackIn (st : Nat) : State := up.wrp (hbmPage 7) Reg.HBM_STAT_STATE 0 st

/-- A write of word 0 of stack 7, accepted at time 0 with a target of 1 µs. -/
def hreq (w : Bool) : HbmReq :=
  { rid := 3, port := 11, addr := hbmAddr 7 31 5 0, write := w, part := false, conflict := false, at_ := 0, target := 1000
    issued := false, overdue := false }

/-- A device with that request in DRQ. -/
def queued (w iss : Bool) : State :=
  { stackIn 3 with hbm := { (stackIn 3).hbm with reqs := [{ hreq w with issued := iss }] } }

theorem wit_StacksInitialiseAndFollowTemperature :
    (7 < 8 ∧ (stackIn 4).access .host (hbmPage 7) 0x100 4 true = .ok ∧ (stackIn 4).stackState 7 = 4) ∧ (stackIn 2).stackState 7 = 2 ∧
    ((stackIn 1).access .core3 (hbmPage 7) 0x114 4 true = .ok ∧ (stackIn 1).access .core3 (hbmPage 7) 0x114 4 false = .ok ∧
      (stackIn 1).rdp (hbmPage 7) Reg.HBM_DLY_IDX_LANE 0 < 39 ∧ (stackIn 1).stackState 7 ≠ 2 ∧ (stackIn 1).stackState 7 ≠ 3) ∧
    (stackIn 3).stackState 7 = 3 ∧
    ((stackIn 3).stackState 7 ≠ 0 ∧ ((stackIn 3).stack 7).pendingBand = none ∧ ((stackIn 3).stack 7).loading = none) ∧
    (stackIn 3).pitch % 5 = (stackIn 3).refreshPhase ∧
    (let s := (stackIn 3).setStack 7 { StackSt.initial with
        window := true
        loading := some 6 }; (s.stack 7).window = true ∧ (s.stack 7).loading = some 6) := by decide +kernel

theorem wit_HbmRequestsIssueAndRetire :
    (let s := queued true false; 31 < 32 ∧ s.stackState 7 = 3 ∧ (s.stack 7).window = false ∧
      (s.hbm.reqs.filter (fun r => hbmPcKey r.addr == 32 * 7 + 31 && s.offered r)) ≠ []) ∧
    (let s := queued false true; s.hbm.waiting = [] ∧
      s.hbm.reqs.find? (fun r => r.rid == 3 && r.issued && !r.write) = some { hreq false with issued := true } ∧
      s.hbm.badWords.contains (hbmWordOf (hreq false).addr) = false) ∧
    (let s := queued true true; s.hbm.waiting = [] ∧
      s.hbm.reqs.find? (fun r => r.rid == 3 && r.issued && r.write) = some { hreq true with issued := true } ∧ (hreq true).part = false) ∧
    (let s := atNs (queued true false) 1000; s.hbm.reqs.find? (fun r => r.rid == 3) = some (hreq true) ∧ (hreq true).overdue = false ∧
      s.urgency (hreq true) = 3) ∧
    (let s : State := { (stackIn 3).wr Reg.DRQ_SCRUB_HOURS 24 with hbm := { up.hbm with scrubWord := [(7, 7)] } };
      s.stackState 7 = 3 ∧ s.rd Reg.DRQ_SCRUB_HOURS ≠ 0 ∧ s.hbm.scrubWord.get 0 7 = 7 ∧
        s.hbm.badWords.contains (hbmWordOf (hbmAddr 7 (s.rdp (hbmPage 7) Reg.HBM_SCRUB_POS_GRANULE 0 / 2 ^ 21)
          (s.rdp (hbmPage 7) Reg.HBM_SCRUB_POS_GRANULE 0 % 2 ^ 21) 7)) = false) ∧
    up.access .host 0x68 0x130 4 false = .ok := by decide +kernel

/-! ## Table DMA, learning and the shadow compare -/

/-- A device that may read host memory, with its table DMA engine on and a ring of two descriptors, one posted. -/
def dma : State :=
  { ((up.wr Reg.TDM_CTL_EN 1).wr Reg.TDM_RING_SIZE_COUNT 2).wr Reg.TDM_TAIL_IDX 1 with host := { up.host with bme := true } }

/-- A descriptor of an operation on 64 bytes of a table. -/
def desc (op table len : Nat) : Desc :=
  { op := op, table := table, bank := 0, len := len, addr := 0x1000, index := 7, tag := 5, ring := 0, pos := 0, bad := 0 }

/-- The engine at work on a descriptor. -/
def working (d : Desc) : State := { dma with tdm := { dma.tdm with cur := some d } }

/-- The smallest artifact: a fabric table of no entries. -/
def artifact : Bytes :=
  [67, 89, 71, 65, 9, 0, 0, 1, 176, 0, 96, 37, 0, 0, 1, 0, 80, 0, 0, 0, 64, 0, 0, 0, 0, 0, 0, 0, 0, 0, 0, 0]
    ++ zeros 28 ++ [164, 109, 86, 108, 1, 0, 0, 0, 64, 0, 0, 0, 0, 0, 0, 0, 0, 0, 0, 0]

theorem wit_TableDmaMovesTables :
    (dma.tdmMayTake = true ∧ dma.rst.headless = false ∧ dma.tdm.retry = false) ∧
    (let s : State := { dma with tdm := { dma.tdm with retry := true } }; s.tdmMayTake = true ∧ s.tdm.retry = true) ∧
    (let s := working (desc 9 0 64); s.tdm.cur = some (desc 9 0 64) ∧ badOp (desc 9 0 64) = true ∧ s.tdm.abandoned = false ∧ s.dmaOk = true) ∧
    (let d := desc 2 5 64; let s := working d; (s.tdm.cur = some d ∧ d.op = 2 ∧ badOp d = false ∧ s.tdm.abandoned = false ∧
      s.runs 0x39 = true ∧ s.dmaOk = true ∧ (d.pos = 0 → s.badRange d = false) ∧ d.len ≠ 0) ∧ tableOf d.table = some (32, true, 0x36) ∧
      s.writeHeld d = false ∧ s.pagePowered 0x36 = true ∧ d.table ≤ 5) ∧
    (let d := desc 3 20 64; let s := working d; (s.tdm.cur = some d ∧ d.op = 3 ∧ badOp d = false ∧ s.tdm.abandoned = false ∧
      s.runs 0x39 = true ∧ s.dmaOk = true ∧ (d.pos = 0 → s.badRange d = false) ∧ d.len ≠ 0) ∧ tableOf d.table = some (16, false, 0x54) ∧
      s.pagePowered 0x54 = true) ∧
    (let d := { desc 1 0 80 with index := 0 }; let s := working d; (s.tdm.cur = some d ∧ d.op = 1 ∧ badOp d = false ∧ s.tdm.abandoned = false ∧
      s.runs 0x39 = true ∧ s.dmaOk = true ∧ (d.pos = 0 → s.badRange d = false) ∧ d.len ≠ 0) ∧ artifact.length = d.len ∧
      (s.checkArtifact artifact).1 = 0 ∧ (zeros 80).length = d.len ∧ (s.checkArtifact (zeros 80)).1 ≠ 0 ∧ (s.checkArtifact (zeros 80)).1 < 8) := by
  decide +kernel

/-- A slot of a key of type 1. -/
def slot1 : Nat := 2 ^ 124 + 9 * 2 ^ 60

/-- A state with that entry in the bucket of table 0 its key hashes to, wherever that is (the seeds are free values). -/
def holding (s : State) : State :=
  { s with exm := { ExmSt.initial with t0 := [(s.hash0 (slotKey slot1), [slot1, 0, 0, 0])] } }

/-- The place it is found at. -/
def home (s : State) : Place := { tbl := 0, b := s.hash0 (slotKey slot1), i := 0 }

theorem bucket_of_home (s : State) (h : Nat) (e : s.exm = { ExmSt.initial with t0 := [(h, [slot1, 0, 0, 0])] }) :
    s.entryAt { tbl := 0, b := h, i := 0 } = slot1 := by
  unfold State.entryAt State.bucket
  rw [e]
  simp [SMap.get, SMap.lookup]

theorem holding_entry (s : State) : (holding s).entryAt (home s) = slot1 := bucket_of_home _ _ rfl

theorem holding_finds (s : State) (hd : s.exm.seedDraw = 0) : (holding s).findKey [] (slotKey slot1) = some (home s) := by
  have hh : (holding s).hash0 (slotKey slot1) = s.hash0 (slotKey slot1) := by
    have e : (holding s).exm.seedDraw = s.exm.seedDraw := hd.symm
    unfold State.hash0
    rw [e]
    rfl
  have he := holding_entry s
  unfold State.findKey State.places
  rw [hh, show List.range 4 = 0 :: [1, 2, 3] from rfl, List.map_cons, List.cons_append, List.cons_append]
  exact List.find?_cons_of_pos (by show (_ == _ && _) = true; rw [show (⟨0, s.hash0 (slotKey slot1), 0⟩ : Place) = home s from rfl, he]; simp [badPlace, badCell])

theorem empty_entry (s : State) (e : s.exm = ExmSt.initial) (p : Place) : s.entryAt p = 0 := by
  have z : ∀ i, emptyBucket.getD i 0 = 0 := by
    intro i
    match i with
    | 0 | 1 | 2 | 3 => rfl
    | _ + 4 => rfl
  unfold State.entryAt State.bucket
  rw [e]
  simp only [ExmSt.initial, SMap.get, SMap.lookup, Option.getD_none, ite_self, z]

theorem empty_tables_have_room (s : State) (e : s.exm = ExmSt.initial) (h : Nat) :
    s.findKey [] (slotKey slot1) = none ∧ s.freeIn [] 0 h = some { tbl := 0, b := h, i := 0 } := by
  constructor
  · unfold State.findKey
    rw [List.find?_eq_none]
    intro p _
    rw [empty_entry s e p]
    simp [show slotKey 0 ≠ slotKey slot1 by decide]
  · unfold State.freeIn State.slotFree
    simp [empty_entry s e, badPlace, badCell]

theorem wit_InsertEngineKeepsEntriesFound :
    (toLe 16 slot1).length = 16 ∧ le (toLe 16 slot1) / 2 ^ 34 * 2 ^ 34 = slot1 ∧ bits slot1 127 124 = 1 ∧
    (∀ op, op = 4 ∨ op = 5 → let d := desc op 0 64; ∀ s, s = working d ∨ s = holding (working d) →
      s.tdm.cur = some d ∧ d.op = op ∧ badOp d = false ∧ s.tdm.abandoned = false ∧ s.runs 0x39 = true ∧ s.dmaOk = true ∧
        (d.pos = 0 → s.badRange d = false) ∧ d.len ≠ 0 ∧ s.exm.stash = []) ∧
    (∀ op, (holding (working (desc op 0 64))).findKey [] (slotKey slot1) = some (home (working (desc op 0 64)))) ∧
    (∀ op, (working (desc op 0 64)).findKey [] (slotKey slot1) = none ∧
      (working (desc op 0 64)).freeIn [] 0 ((working (desc op 0 64)).hash0 (slotKey slot1)) =
        some { tbl := 0, b := (working (desc op 0 64)).hash0 (slotKey slot1), i := 0 }) := by
  refine ⟨by decide +kernel, by decide +kernel, by decide +kernel, ?_, fun op => holding_finds _ rfl, fun op => empty_tables_have_room _ rfl _⟩
  rintro op (rfl | rfl) d s (rfl | rfl) <;> decide +kernel

/-- The learn engine runs with one request queued. -/
def learning (r : LearnReq) : State := { dma with learn := { dma.learn with queue := [r] } }

/-- A request of the sample slot. -/
def req1 (remove : Bool) : LearnReq := { slot := slot1, post := false, remove := remove }

theorem wit_LearningServesPostsAndAges :
    (∀ b, (learning (req1 b)).learn.queue = req1 b :: [] ∧ (learning (req1 b)).learnRuns = true ∧ (req1 b).post = false ∧
      (req1 b).remove = b) ∧
    bits slot1 127 124 = 1 ∧
    (∀ b, (learning (req1 b)).findKey [] (slotKey slot1) = none ∧ (learning (req1 b)).freeIn [] 0 ((learning (req1 b)).hash0 (slotKey slot1)) =
      some { tbl := 0, b := (learning (req1 b)).hash0 (slotKey slot1), i := 0 }) ∧
    (let s := learning (req1 false); (holding s).findKey [] (slotKey slot1) = some (home s) ∧
      slotRes ((holding s).entryAt (home s)) = slotRes slot1) ∧
    (let s := up.wri Reg.LRN_POST_k 3 (2 ^ 28); s.access .host 0x35 0x120 4 true = .ok ∧ bits s.postSlot 127 124 = 1 ∧ s.learn.queue.length < 65536) ∧
    (bits up.postSlot 127 124 ≠ 1 ∧ bits up.postSlot 127 124 ≠ 2) ∧
    (let s : State := { dma with exm := { dma.exm with t0 := [(3, [slot1, 0, 0, 0])] } };
      s.rd Reg.LRN_AGE_PERIOD ≠ 0 ∧ s.learnRuns = true ∧ s.exm.stash = [] ∧ ({ tbl := 0, b := 3, i := 0 } : Place) ∈ s.occupied) := by
  refine ⟨by decide +kernel, by decide +kernel, fun b => empty_tables_have_room _ rfl _, ⟨holding_finds _ rfl, ?_⟩, by decide +kernel⟩
  rw [holding_entry]

theorem wit_ShadowComparesAndCorrects :
    (let s : State := (((((dma.wr Reg.SHD_CTL_EN 1).wr Reg.LPM_STAT_PROFILE 2).wr Reg.SHD_LPM_COUNT_N 1).wr Reg.SHD_CTL_CORRECT 1));
      s.shdRuns = true ∧ s.shdLpm = true ∧ s.rd Reg.SHD_EXM_COUNT_N = 0 ∧ s.shd.finds.length < 16 ∧ (zeros 32).length = 32) ∧
    (let x : Finding := { kind := 1, exm := false, idx := 0, epoch := 0 };
      let s : State := atNs { (dma.wr Reg.SHD_CTL_EN 1).wr Reg.LPM_STAT_PROFILE 2 with
        shd := { dma.shd with finds := [x] }
        banks := { dma.banks with lpm := { dma.banks.lpm with active := { dma.banks.lpm.active with
          body := { LpmImage.empty with hbmNodes := [1] } } } } } 100000000;
      s.shdRuns = true ∧ s.shd.finds = x :: [] ∧ x.exm = false ∧ x.kind = 1 ∧ x.epoch + s.rd Reg.SHD_CONFIRM_EPOCHS ≤ s.epoch ∧
        le (1 :: zeros 31) = s.banks.lpm.active.body.hbmNodes.getD x.idx 0 ∧ le (zeros 32) ≠ s.banks.lpm.active.body.hbmNodes.getD x.idx 0 ∧
        x.idx < s.banks.lpm.active.body.hbmNodes.length) := by decide +kernel

/-! ## Host: windows, management transactions, containment, tags, rings -/

/-- Window 7 open on local HBM for its peers, its last 64 bytes those of the address space, with every stack running. -/
def window7 : State :=
  ((List.range 8).foldl (fun s n => s.wrp (hbmPage n) Reg.HBM_STAT_STATE 0 3) up).wri Reg.WIN_n_ACT_CFG 7 (16 + 1 * 2 ^ 5 + 1 * 2 ^ 8)
    |>.wri Reg.WIN_n_ACT_BASE 7 (2 ^ 37 - 2 ^ 24)

/-- A host access outstanding at window 7. -/
def txn (w : Option Bytes) : WinTxn := { tid := 4, win := 7, write := w, off := 0, len := 4, peer := none }

/-- A device with it outstanding or held. -/
def outstanding (w : Option Bytes) : State := { up with host := { up.host with winOld := [txn w] } }
def heldAt7 : State := { up.wr Reg.WIN_STAT_PENDING 128 with host := { up.host with winHeld := [txn none] } }

/-- A management cell of a subtype. -/
def mtCell (sub : Nat) : MtCell :=
  { subtype := sub, src := 9, tag := 4, window := 7, linkDirected := false, len := 64, offset := 2 ^ 24 - 64, reason := 0, data := zeros 64 }

theorem wit_HostWindowsServeAccesses :
    (up.contained = false ∧ 2 ^ 27 - 1 < 2 ^ 27 ∧ (up.contained = true ∨ 2 ^ 27 ≤ 2 ^ 27)) ∧
    ((2 ^ 27 - 4) / 2 ^ 24 = 7 ∧ (up.wr Reg.WIN_STAT_PENDING 128).winPending 7 = true ∧ (up.wr Reg.WIN_STAT_PENDING 128).contained = false) ∧
    (let s := window7; let addr := 2 ^ 27 - 64; s.contained = false ∧ s.winPending (addr / 2 ^ 24) = false ∧
      s.winFits (addr / 2 ^ 24) (addr % 2 ^ 24) 64 = true ∧ s.winKind (addr / 2 ^ 24) = 1 ∧
      s.rdi Reg.WIN_n_ACT_BASE (addr / 2 ^ 24) + addr % 2 ^ 24 + 64 ≤ 2 ^ 37 ∧ (zeros 64).length = 64 ∧
      ∀ i, i < 64 → s.plainHbm (s.rdi Reg.WIN_n_ACT_BASE (addr / 2 ^ 24) + addr % 2 ^ 24 + i) = true) ∧
    (let s := window7.wri Reg.WIN_n_ACT_CFG 7 (16 + 2 * 2 ^ 5); s.winPending 7 = false ∧ s.winFits 7 (2 ^ 24 - 64) 64 = true ∧ 2 ≤ s.winKind 7) := by
  decide +kernel

theorem wit_ManagementTransactionsAndSwapsComplete :
    (let s := window7; let c := mtCell 9; c.subtype = 9 ∧ s.winPending c.window = false ∧ c.len ≠ 0 ∧ s.winFits c.window c.offset c.len = true ∧
      s.winPeer c.window c.linkDirected = true ∧ s.winKind c.window = 1 ∧ s.rdi Reg.WIN_n_ACT_BASE c.window + c.offset + c.len ≤ 2 ^ 37 ∧
      c.len ≤ c.data.length ∧ ∀ i, i < c.len → s.plainHbm (s.rdi Reg.WIN_n_ACT_BASE c.window + c.offset + i) = true) ∧
    ((outstanding none).mtFind 4 = some (txn none) ∧ (txn none).write = none ∧ (mtCell 10).subtype = 10 ∧ (mtCell 12).subtype = 12) ∧
    ((outstanding (some [1])).mtFind 4 = some (txn (some [1])) ∧ (txn (some [1])).write ≠ none ∧ (mtCell 11).subtype = 11 ∧
      (outstanding none).rd Reg.HIF_MT_TIMEOUT_US ≠ 0) ∧
    (up.access .host 0x0E 0x200 4 true = .ok ∧ 7 < 8 ∧ up.winPending 7 = false) ∧
    (let s := up.wr Reg.WIN_STAT_PENDING 128; s.winPending 7 = true ∧ (∀ x ∈ s.host.winOld, x.win ≠ 7) ∧ (∀ x ∈ s.host.winHeld, x.win ≠ 7)) ∧
    (heldAt7.winPending 7 = true ∧ heldAt7.host.winHeld.find? (fun x => x.win == 7) = some (txn none) ∧ (txn none).peer = none) := by decide +kernel

/-- A contained device with its host link up. -/
def held : State := ((up.wr Reg.HIF_STAT_CONTAINED 1).wr Reg.HIF_STAT_CAUSE 6).wr Reg.HIF_STAT_LINK_UP 1

theorem wit_ContainmentStopsAndReleasesTheHost :
    (6 ≤ 6 ∧ up.pagePowered 0x0B = true ∧ up.contained = false ∧ up.rd Reg.HIF_HOLD_MS ≠ 0 ∧ up.access .host 0x0B 0x104 4 true = .ok) ∧
    (held.access .host 0x0B 0x104 4 true = .ok ∧ held.contained = true ∧ held.rd Reg.HIF_STAT_LINK_UP = 1 ∧ held.tdm.cur = none) ∧
    up.rd Reg.HIF_STAT_LINK_UP = 0 ∧
    (let s := atNs held (held.rd Reg.HIF_HOLD_MS * 1000000); s.contained = true ∧ s.host.holdOver = false ∧
      s.host.holdFrom + s.rd Reg.HIF_HOLD_MS * 1000000 ≤ s.ns) ∧
    (5 ≤ 5 ∧ [1, 2, 4, 8].contains 8 = true) := by decide +kernel

theorem wit_ReadTagsTimeOutAndRecover :
    (let s : State := atNs { up with host := { up.host with
        tags := [(5, (0, 50))]
        quarantine := [(6, (0, 50))] } } 50000;
      s.host.tags.lookup 5 = some (0, 50) ∧ 50 ≠ 0 ∧ 0 + 50 * 1000 ≤ s.ns ∧ s.pagePowered 0x0B = true ∧
        (s.host.quarantine.lookup 6).isSome = true ∧ s.host.quarantine.lookup 6 = some (0, 50) ∧ s.host.quarantine.lookup 5 = none ∧
        (s.host.tags.lookup 5).isSome = true ∧ s.host.quarantine.lookup 7 = none ∧ s.host.tags.lookup 7 = none) ∧
    (up.contained = false ∧ 511 < 512) := by decide +kernel

/-- Ring 15 and ring 31 of two entries, one of them free for the device. -/
def rings : State :=
  { (([15, 31].foldl (fun s i => ((s.wri Reg.HDM_SIZE_i_COUNT i 2).wri Reg.HDM_HOST_i_IDX i 1).wri Reg.HDM_CTL_i_EN i 1) up)) with
      host := { up.host with bme := true }
      q := { up.q with punt := [(15, [copy1])] }
      buf := { up.buf with bufs := [(1, buffer1)] } }

theorem wit_RingsAndMirrorReachHostMemory :
    (let b : Bytes := [64, 0] ++ zeros 30; rings.ringEntry 15 = some 0 ∧ rings.puntOf 15 = copy1 :: [] ∧ rings.buffer copy1.bid = some buffer1 ∧
      buffer1.pkt.srcDev = rings.devId ∧ b.length = 32 ∧ leAt b 0 2 ≠ 0 ∧ leAt b 0 2 % 64 = 0 ∧ leAt b 8 8 % 64 = 0) ∧
    (let b : Bytes := [60, 0] ++ zeros 30; let f := zeros 60; rings.ringEntry (16 + 15) = some 0 ∧ 15 < 16 ∧ rings.runs (0x20 + 15) = true ∧
      rings.injectRoom 15 = true ∧ rings.injectStopped 15 = false ∧ b.length = 32 ∧ bits (leAt b 0 4) 13 0 = f.length ∧ 60 ≤ f.length ∧
      f.length ≤ 16124 ∧ leAt b 8 8 % 64 = 0 ∧ bitN (leAt b 0 4) 16 = 0) ∧
    (let s : State := { up.wr Reg.MIR_CTL_EN 1 with host := { up.host with bme := true } };
      s.pitch = 0 ∧ s.mirDue s.epoch = true ∧ s.mirOn = true ∧ s.dmaOk = true ∧ s.rd Reg.MIR_BASE % 4096 = 0) := by decide +kernel

/-! ## Interrupts, cores, boot and trust -/

/-- Core 3 runs, source 127 is pending, routed to it and not masked. -/
def pended : State :=
  { (((up.wri Reg.MGT_CORE_c_STAT_STATE 3 2).wri Reg.ICU_MASK_k 3 0).wri Reg.ICU_ROUTE_k 7 (2 ^ 32 - 1)) with icu := { up.icu with edge := [127] } }

/-- Core 3 serves source 127. -/
def serving : State := { pended with icu := { pended.icu with insvc := [none, none, none, some 127] } }

theorem wit_ClaimReturnsTheLowestEligibleSource :
    (3 < 4 ∧ pended.access (coreMaster 3) 0x08 (0x110 + 0x10 * 3) 4 false = .ok) ∧
    (pended.icu.insvc.getD 3 none = none ∧ pended.bestSource 3 = some 127) ∧ (up.icu.insvc.getD 3 none = none ∧ up.bestSource 3 = none) ∧
    serving.icu.insvc.getD 3 none = some 127 := by decide +kernel

theorem wit_InterruptsAreServedAndPend :
    (3 < 4 ∧ serving.access (coreMaster 3) 0x08 (0x110 + 0x10 * 3) 4 false = .ok ∧ serving.access (coreMaster 3) 0x08 (0x114 + 0x10 * 3) 4 true = .ok) ∧
    (serving.icu.insvc.getD 3 none = some 127 ∧ serving.icu.insvc.getD 3 none ≠ some 126) ∧
    (pended.icu.insvc.getD 3 none = none ∧ pended.bestSource 3 = some 127) ∧ (up.icu.insvc.getD 3 none = none ∧ up.bestSource 3 = none) ∧
    (up.access .host 0x08 0x1F0 4 true = .ok ∧ up.mode ≠ 0 ∧ up.pagePowered 0x08 = true) ∧
    (let s := (up.wri Reg.ICU_GPIO_n_FILT 7 9).wri Reg.ICU_GPIO_n_EDGE 7 1; 7 < 8 ∧ s.rdi Reg.ICU_GPIO_n_FILT 7 ≠ 0 ∧
      s.rdi Reg.ICU_GPIO_n_EDGE 7 = 1 ∧ true ≠ decide (s.rdi Reg.ICU_GPIO_n_POL 7 = 1) ∧ s.icu.gpioLevel.getLsbD 7 ≠ true) := by decide +kernel

/-- A core in a state of the table. -/
def coreIn (c n : Nat) : State := up.wri Reg.MGT_CORE_c_STAT_STATE c n

/-- A core that runs and whose watchdog of 1 ms is due. -/
def late (c : Nat) : State := atNs ((coreIn c 2).wri Reg.MGT_CORE_c_WDOG_MS c 1) 1000000

theorem wit_CoresRunUntilTheyFault :
    (3 < 4 ∧ (coreIn 3 1).coreState 3 = 1 ∧ (coreIn 3 2).coreState 3 = 2 ∧ (coreIn 3 3).coreState 3 = 3) ∧
    (up.access .host 0x0A (0x100 + 0x10 * 3) 4 true = .ok ∧ (coreIn 3 2).access .core0 0x0A (0x100 + 0x10 * 3) 4 true = .ok ∧
      (coreIn 3 3).access .core0 0x0A (0x100 + 0x10 * 3) 4 true = .ok) ∧
    up.access .core3 0x0A (0x10C + 0x10 * 3) 4 true = .ok ∧ (1 ≤ 3 ∧ (late 3).wdogDue 3 = true) := by decide +kernel

/-- A start is due, with a bundle pending in staging. -/
def starting (p : Bool) : State :=
  { up with boot := { up.boot with
      startDue := true
      rec0 := some { BootRec.none with pending := p } } }

/-- A descriptor that stages the first 64 bytes of a bundle is in progress. -/
def staging : State := { (dma.wri Reg.MGT_CORE_c_STAT_STATE 0 2) with tdm := { dma.tdm with cur := some { desc 6 0 64 with index := 0 } } }

/-- Whether a bundle verifies rests on hash and signature functions that are not interpreted: the clauses of the statement that
speak of the candidate that verifies are under these hypotheses, and one of the four outcomes holds in each such state. Empty
partitions and an empty staging memory fail their first check. -/
theorem wit_CandidatesAreStagedAndStarted :
    ((starting true).bootRec.seq + 2 < 2 ^ 32 ∧ (starting true).boot.startDue = true ∧ (starting true).domainUp 1 = true ∧
      (starting true).rst.warm = false ∧ (starting true).coreState 0 = 0 ∧ (starting true).bootRec.pending = true) ∧
    ((starting true).candCode 0 = 1 ∧ (starting true).candCode 1 = 1 ∧ (starting true).candCode 2 = 1 ∧ (starting false).bootRec.pending = false) ∧
    (let s : State := { coreIn 0 2 with boot := { up.boot with verified := true } }; s.bootRec.seq + 2 < 2 ^ 32 ∧ s.boot.verified = true ∧
      s.coreState 0 = 2) ∧
    (let s := staging; let d := { desc 6 0 64 with index := 0 }; s.bootRec.seq + 2 < 2 ^ 32 ∧ s.tdm.cur = some d ∧ d.op = 6 ∧ badOp d = false ∧
      s.tdm.abandoned = false ∧ s.runs 0x39 = true ∧ s.dmaOk = true ∧ ¬ (d.pos = 0 ∧ s.badRange d = true) ∧ d.len ≠ 0 ∧ s.coreState 0 = 2 ∧
      s.rdb Reg.BOOT_STAT_COPYING = false ∧ (d.index = 0 ∨ d.index = s.rd Reg.BOOT_STG_BYTES) ∧ d.index + d.len ≤ 2 ^ 24 ∧
      d.len ≤ (zeros 64).length) ∧
    (up.bootRec.seq + 2 < 2 ^ 32 ∧ up.access .host 0x07 0x100 4 true = .ok ∧ up.rdb Reg.BOOT_STAT_COPYING = false) ∧
    (let s := up.wr Reg.BOOT_STAT_COPYING 1; s.access .host 0x07 0x100 4 true = .ok ∧ s.rdb Reg.BOOT_STAT_COPYING = true) := by decide +kernel

/-- The staged bundle runs, and its copy has begun, with some tries failed. -/
def copying (begun ab : Bool) (tries : Nat) : State :=
  { ((coreIn 0 2).wr Reg.BOOT_STAT_SOURCE 2).wr Reg.BOOT_STAT_COPYING (b01 begun) with boot := { up.boot with
      copyTries := tries
      rec0 := some { BootRec.none with
        pending := true
        copyAB := ab
        copySA := begun && !ab } } }

theorem wit_CandidatesAreStagedAndStarted_copies :
    (∀ begun ab, ∀ tries < 2, let s := copying begun ab tries; s.bootRec.seq + 2 < 2 ^ 32 ∧ s.rd Reg.BOOT_STAT_SOURCE = 2 ∧ s.rst.headless = false ∧
      s.coreState 0 = 2 ∧ s.boot.copyTries < 2 ∧ s.rdb Reg.BOOT_STAT_COPYING = begun ∧ s.bootRec.copyAB = ab ∧ s.boot.copyTries = tries) ∧
    (copying false true 0).bootRec.copySA = false := by decide +kernel

theorem wit_TraverseRunsHeadless :
    ((up.access .host 0x07 0x100 4 true = .ok ∧ 2 ≤ up.mode ∧ up.mode ≤ 5 ∧ up.rst.headless = false ∧ up.rst.warm = false ∧
      up.rdb Reg.SEC_STAT_COMMIT_BUSY = false) ∧ (late 0).wdogDue 0 = true ∧ 2 ≤ (late 0).mode) ∧
    (let s := up.wr Reg.SEC_STAT_COMMIT_BUSY 1; s.access .core0 0x07 0x100 4 true = .ok ∧ 2 ≤ s.mode ∧ s.mode ≤ 5 ∧ s.rst.headless = false ∧
      s.rst.warm = false ∧ s.rdb Reg.SEC_STAT_COMMIT_BUSY = true) ∧
    ((inMode 1).access .host 0x07 0x100 4 true = .ok ∧ (inMode 1).mode < 2) ∧
    (let s : State := atNs { up with boot := { up.boot with headlessAt := some 0 } } 2000000000; s.boot.headlessAt = some 0 ∧
      s.access .core0 0x07 0x100 4 true = .ok ∧ 0 + 2000000000 ≤ s.ns) := by decide +kernel

theorem report_length (s : State) (h : s.rd Reg.SEC_ATT_SEL_SEL = 0) : s.report.length = 5504 := by
  unfold State.report
  rw [h]
  simp only [padTo_length]
  rfl

theorem wit_TrustCommandsReportAndBurn :
    (up.access .host 0x06 0x100 4 true = .ok ∧ up.rdb Reg.SEC_STAT_ATT_BUSY = false ∧ up.rst.headless = false ∧
      up.rdb Reg.SEC_STAT_COMMIT_BUSY = false ∧ up.rd Reg.BOOT_STAT_SOURCE ≠ 0) ∧
    ((up.wr Reg.BOOT_STAT_SOURCE 0).rd Reg.BOOT_STAT_SOURCE = 0 ∧ (up.wr Reg.BOOT_STAT_SOURCE 0).rdb Reg.BOOT_STAT_COPYING = false ∧
      (up.wr Reg.BOOT_STAT_SOURCE 0).access .host 0x06 0x100 4 true = .ok ∧ (up.wr Reg.BOOT_STAT_SOURCE 0).rst.headless = false) ∧
    (let s : State := { up.wr Reg.SEC_STAT_ATT_BUSY 1 with sec := { up.sec with attDirty := true } };
      s.rdb Reg.SEC_STAT_ATT_BUSY = true ∧ s.sec.attDirty = true ∧ s.sec.attRestarted = false) ∧
    (let s := ((dma.wr Reg.SEC_STAT_ATT_BUSY 1).wr Reg.SEC_ATT_LEN_BYTES 5504).wr Reg.SEC_ATT_SEL_SEL 0; s.rdb Reg.SEC_STAT_ATT_BUSY = true ∧
      s.sec.attDirty = false ∧ s.dmaOk = true ∧ (s.wr Reg.SEC_STAT_ATT_BUSY 0).report.length ≤ s.rd Reg.SEC_ATT_LEN_BYTES) ∧
    ((up.wr Reg.SEC_STAT_COMMIT_BUSY 1).rdb Reg.SEC_STAT_COMMIT_BUSY = true ∧ up.boot.traverseDelayed = false) ∧
    (up.access .core0 0x06 0x164 4 false = .ok ∧ 83 ≤ (up.wr Reg.SEC_FUSE_IDX_IDX 83).rd Reg.SEC_FUSE_IDX_IDX) := by
  refine ⟨by decide +kernel, by decide +kernel, by decide +kernel, ⟨by decide +kernel, by decide +kernel, by decide +kernel, ?_⟩, by decide +kernel⟩
  rw [report_length _ (by decide +kernel)]
  decide +kernel

/-! ## Modes, domains and limits -/

/-- BOOT with boot complete: a source runs, every stack is in RUN and the die-to-die link is up. -/
def booted : State :=
  (((List.range 8).foldl (fun s n => s.wrp (hbmPage n) Reg.HBM_STAT_STATE 0 3) (inMode 1)).wr Reg.BOOT_STAT_SOURCE 0).wr Reg.D2D_STAT_UP 1

/-- A device whose domain 32 (or another) is next to switch on or off. -/
def switching (d : Nat) (on : Bool) : State :=
  { inMode 1 with pwr := { up.pwr with
      on := without up.pwr.on d
      seqOn := if on then [d] else []
      seqOff := if on then [] else [d] } }

theorem wit_DomainsSwitchInSequenceAndWake :
    (27 < 33 ∧ (switching 27 true).pwr.seqOn = 27 :: [] ∧ (switching 27 true).pwr.seqOff = [] ∧ (switching 27 true).pwr.awaitReady = none) ∧
    (let s : State := { up with pwr := { up.pwr with awaitReady := some 32 } }; 32 < 33 ∧ s.pwr.awaitReady = some 32) ∧
    ((switching 1 false).pwr.seqOff = 1 :: [] ∧ (switching 1 true).mode = 1) ∧
    (let s := up.wr Reg.AON_PGIN_REQ 128; 7 < 8 ∧ bitN (s.rd Reg.AON_PGIN_REQ) 7 = 1 ∧ s.mode ≠ 0) ∧
    ((0#8 : Byte) ≠ up.pins.pgIn ∧ up.pagePowered 0x08 = true) ∧
    (let s : State := (({ (inMode 0) with rst := { up.rst with cold := false } } : State).wr Reg.AON_WAKE_EN_SET 63).wr Reg.AON_TIMER_S 1;
      s.mayWake = true ∧ wakeBit 11 = some 5 ∧ bitN (s.rd Reg.AON_WAKE_EN_SET) 5 = 1 ∧ s.rd Reg.AON_TIMER_S ≠ 0) ∧
    (State.reset.rst.cold = true ∧ ({ State.reset with rst := { State.reset.rst with cold := false } } : State).mayWake = true) := by decide +kernel

/-- Readings of the 24 sensors, the last one `v` and the others 0. -/
def readings (v : BitVec 16) : List (Option (BitVec 16)) := List.replicate 23 (some 0#16) ++ [some v]

theorem readings_read (v w : BitVec 16) (n : Nat) (h : (readings v)[n]? = some (some w)) : w = 0#16 ∨ w = v := by
  have := List.mem_of_getElem? h
  simpa [readings] using this

theorem wit_LimitsWithholdClocksAndTrip :
    (up.mode ≠ 0 ∧ up.runs (0x20 + 15) = true) ∧
    ((readings 0x3000#16).length = 24 ∧ (∀ n, n < 24 → ∃ v, (readings 0x3000#16)[n]? = some (some v)) ∧
      (∀ (n : Nat) (v : BitVec 16), (readings 0x3000#16)[n]? = some (some v) → v.toInt < 120 * 128) ∧
      (readings 0x3000#16)[23]? = some (some 0x3000#16) ∧ (up.wr Reg.THM_THROTTLE_TEMP 96).rd Reg.THM_THROTTLE_TEMP ≠ 0 ∧
      ((up.wr Reg.THM_THROTTLE_TEMP 96).rd Reg.THM_THROTTLE_TEMP : Int) * 128 ≤ (0x3000#16).toInt ∧
      (up.wr Reg.THM_THROTTLE_TEMP 0).rd Reg.THM_THROTTLE_TEMP = 0) ∧
    ((readings 0x3C00#16).length = 24 ∧ (∀ n, n < 24 → ∃ v, (readings 0x3C00#16)[n]? = some (some v)) ∧
      (readings 0x3C00#16)[23]? = some (some 0x3C00#16) ∧ 120 * 128 ≤ (0x3C00#16).toInt ∧ up.pins.thermTrip = false) := by
  have ex : ∀ v, ∀ n, n < 24 → ∃ w, (readings v)[n]? = some (some w) := by
    intro v n h
    by_cases hn : n < 23
    · exact ⟨0#16, by unfold readings; rw [List.getElem?_append_left (by rw [List.length_replicate]; exact hn), List.getElem?_replicate, if_pos hn]⟩
    · have : n = 23 := by omega
      subst this
      exact ⟨v, by simp [readings]⟩
  refine ⟨by decide +kernel, ⟨by decide, ex _, ?_, by decide +kernel⟩, by decide, ex _, by decide +kernel⟩
  intro n v h
  rcases readings_read _ _ _ h with rfl | rfl <;> decide

theorem wit_ModesFollowTheTable :
    (∀ n, n < 6 → 1 ≤ n → (inMode n).access .host 0x00 0x104 4 true = .ok ∧ (inMode n).mode = n ∧ (inMode n).seqBusy = false) ∧
    (inMode 1).bootComplete = false ∧ (booted.access .host 0x00 0x104 4 true = .ok ∧ booted.mode = 1 ∧ booted.seqBusy = false ∧
      booted.bootComplete = true ∧ ∀ d, d < 33 → booted.pwr.on.contains d = booted.wanted d) ∧
    (let s : State := { booted with pwr := { booted.pwr with on := without booted.pwr.on 32 } };
      s.access .host 0x00 0x104 4 true = .ok ∧ s.mode = 1 ∧ s.seqBusy = false ∧ s.bootComplete = true ∧
        ∃ d, d < 33 ∧ s.pwr.on.contains d ≠ s.wanted d) ∧
    (up.fallow = 0 ∧ (let s : State := { up with banks := { up.banks with plan := { up.banks.plan with active :=
      { gen := 1, body := { fallow := 2 ^ 32, planId := 1 }, digest := 0 } } } }; s.fallow ≠ 0)) := by
  refine ⟨by decide +kernel, by decide +kernel, by decide +kernel, ⟨by decide +kernel, by decide +kernel, by decide +kernel, by decide +kernel, 32, by decide +kernel⟩, by decide +kernel⟩

/-! ## Resets and the test access port -/

theorem wit_ColdResetAndOtherResetsClearWhatTheyReach :
    (up.mode ≠ 0 ∧ up.rst.warm = false ∧ up.access .host 0x00 0x104 4 true = .ok ∧ 100 ≤ 100) ∧
    (up.rdb Reg.RST_CFG_PERST_SCOPE = false ∧ (up.wr Reg.RST_CFG_PERST_SCOPE 1).rdb Reg.RST_CFG_PERST_SCOPE = true) ∧
    (let s : State := { up with rst := { up.rst with warm := true } }; s.rst.warm = true) ∧
    (let s : State := { up with rst := { up.rst with flr := true } }; s.rst.flr = true ∧ 0x0C ∈ hostPages ∧
      Reg.HDM_HOST_i_IDX ∈ pageFields 0x0C ∧ Reg.HDM_HOST_i_IDX.ret = .v ∧ 35 ∈ Reg.HDM_HOST_i_IDX.instances ∧
      liveKeys.contains (fkey 0x0C Reg.HDM_HOST_i_IDX 35) = false ∧ isTele (fkey 0x0C Reg.HDM_HOST_i_IDX 35) = false) ∧
    up.pagePowered 0x08 = true := by decide +kernel

theorem wit_TestClocksMoveThePortAlone :
    (let s : State := { up with tap := { up.tap with state := 2 } }; s.tap.state = 2 ∧ s.pins.porst = false) ∧ 15 < 16 := by decide +kernel

/-! ## The whole block -/

theorem wit_StepRunsTheFrontCommand :
    (let s : State := { up with pending := [.timeTick, .tapClock true false] }; s.pending = .timeTick :: [.tapClock true false]) ∧
    up.pending = [] := by decide +kernel

/-- The invariant holds of a state with an armed cairn, and the idle step answers a next state. -/
theorem wit_EveryStepKeepsTheInvariant :
    let s : State := { up with cairn := { up.cairn with armed := [armedFor 0x40 5] } };
    s.Inv ∧ step s = .next s := by
  exact ⟨⟨by decide +kernel, by decide +kernel, by decide +kernel, by unfold armedApart; decide +kernel, by decide +kernel, by decide +kernel⟩, rfl⟩

theorem wit_EachCommandChangesItsPartsAlone :
    (∃ t, exec (.candidateAccepted) up = .next t) ∧ Part.hbm ∉ changes .candidateAccepted := by
  refine ⟨⟨_, rfl⟩, by decide +kernel⟩

theorem wit_EpochAndPitchNumberTime : 10 ^ 9 - 1 < 10 ^ 9 := by decide

/-! ## Well-formed commands -/

/-- One command that fails each check of well-formedness. -/
def illFormed : List Instr :=
  [.registerWrite .host 256 0x100 4 0#32, .registerWrite .host 3 4096 4 0#32, .registerWrite .host 3 0x100 3 0#32, .lowDwordRead .host 3 0x102,
    .highDwordWrite .host 256 0x100 0#32, .trbWrite .host 3 8 0#32, .blkSrst .host 256, .fwinStatRead .host 3 4, .channelRejoin 3,
    .ptpTsqRead .host 4, .frameReceived 128 [] true, .pauseTimerExpire 5 8, .parseStart 191 [], .secondPassStart 16 [], .fragEntryExpire 8192 0,
    .freeCacheSpill 4, .ropeWake 160, .cairnPost .host 5, .cairnCancel .host 0 65536, .cairnRepeat 65536, .linkEnable .host 40 true,
    .reorderTimeout 8192 0, .creditReceived 0 [1, 2], .voqDequeue 65536 [], .fmcQueueSend 8 [], .grantReceived 0 0 (2 ^ 32), .d2dChannelFail 16]
    ++ [.hbmInit .host 8, .hbmInitDone 0 (some 32), .hbmCommandIssue 0 32, .bar2WindowAccess (2 ^ 27) 4 none, .bar2WindowAccess 0 65 none,
    .bar2WindowAccess 0 4 (some []), .mtTimeout 65536, .winSwapComplete 8, .userCounterRead 0 2, .puntWrite 16 .failed, .containmentEnter 0,
    .hostLinkUp 6 4, .hostLinkUp 5 3, .completionTimeout 512, .icuClaim 4, .icuDone 0 (2 ^ 32), .holdoffExpire 16, .gpioFiltered 8 true,
    .agentAccessFault (2 ^ 32) true, .thermalRead [], .wake 128, .prbsErrRead .host 0x4C 0, .prbsErrRead .host 0x4B 32, .hdmErrRead .host 36,
    .helloReceived 0 { fmt := 256, idValid := true, oneGroup := false, heard := true, devId := 0, link := 0, ifv := 0, ifvMin := 0, serial := 0, sent := [0, 0, 0] },
    .timeWordReceived 0 { epoch := 2 ^ 48, hops := 0, rootState := 0, rootId := 0, txTime := 0, peerRx := 0 } 0,
    .cairnCellReceived 0 { origin := 0, seq := 0, target := 0, mask := 2 ^ 128 },
    .requestReceived { src := 0, cls := 8, backlog := 0, gSeen := 0, charged := 0, returned := 0, seqAt := 0 },
    .mtResponseReceived 0 { subtype := 13, src := 0, tag := 0, window := 0, linkDirected := false, len := 0, offset := 0, reason := 0, data := [] },
    .digestReceived { version := 256, flags := 0, epoch := 0, txTime := 0, peerRx := 0, genDigest := 0, decDigest := 0, decCount := 0 } 0]

theorem test_ill_formed_refused : illFormed.all (fun i => !i.wf) = true := by decide +kernel

theorem test_well_formed_accepted :
    ([.registerWrite .host 0xFF 4092 4 0#32, .trbWrite .core3 0x7F 7 0#32, .channelRejoin 2, .parseStart 207 [], .ropeWake 159, .cairnPost .core3 4,
      .linkEnable .host 39 true, .voqDequeue 65535 [], .bar2WindowAccess (2 ^ 27 - 1) 1 (some [0]), .hostLinkUp 5 8, .wake 127, .timeTick] : List Instr).all
        Instr.wf = true := by decide +kernel

/-! ## Worked values of the spec -/

/-- "Worked example: reading a timestamp": 1,234,567 s and 437,612,345 ns are epoch 9,876,539,500, pitch 224. -/
theorem test_timestamp : epochOf (1234567 * 10 ^ 9 + 437612345) = 9876539500 ∧ pitchOf (1234567 * 10 ^ 9 + 437612345) = 224 := by decide +kernel

/-- "Worked example: one P0 buffer word": the decoded fields and the locator of bit 201. -/
theorem test_hbm_locator :
    hbmStack 0x0234567AE0 = 4 ∧ hbmChannel 0x0234567AE0 = 5 ∧ hbmPc 0x0234567AE0 = 0 ∧ hbmBank 0x0234567AE0 = 4 ∧ hbmRow 0x0234567AE0 = 2257 ∧
      hbmWord 0x0234567AE0 = 72247 ∧ hbmLocator 0x0234567AE0 201 = 0x60500400011A37C9 ∧ hbmStack 0x0234567BE0 = 5 := by decide +kernel

/-- R467: the check value of CRC-32C. -/
theorem test_crc32c : crc32c [0x31, 0x32, 0x33, 0x34, 0x35, 0x36, 0x37, 0x38, 0x39] = 0xE3069283 ∧ crc32cSeeded 5 [] = 5 := by decide +kernel

/-- "Worked example: six hours without reference": with the entries 20.0 °C → +1.600 ppb and 24.0 °C → +2.400 ppb (in 1/4,096 ppb), the
model value at 21.0 °C is 1.800 ppb. -/
theorem test_holdover_model :
    (let s := ((((up.wr Reg.TIM_HOLD_CFG_ENTRIES 2).wri Reg.HOLD_TBL_n_T_TEMP 0 2560).wri Reg.HOLD_TBL_n_F_FOFS 0 6554).wri Reg.HOLD_TBL_n_T_TEMP 1
      3072).wri Reg.HOLD_TBL_n_F_FOFS 1 9830; s.holdModel (21 * 128) = 7373 * 256) := by decide +kernel

/-- No row of the opcode table gives bits. -/
theorem test_decode_none : decodeTableWord 32 0xFFFFFFFF = none := rfl

end Sys2Proof.Tests
end

section
/-! SUPPORT. The epoch and pitch numbers of a time given in seconds and nanoseconds (R6). A second is a whole number of epochs, 8,000 of
125,000 ns: its seconds add whole epochs to a time and leave its position within the epoch as it is. -/
namespace Sys2Proof.Machine

/-- A second is 8,000 epochs of 125,000 ns (R6). -/
theorem secondsAndNs_eq_add_epochs (sec ns : Nat) : sec * 10 ^ 9 + ns = ns + sec * 8000 * 125000 := by
  omega

theorem epochOf_secondsAndNs (sec ns : Nat) : epochOf (sec * 10 ^ 9 + ns) = (sec * 8000 + ns / 125000) % 2 ^ 48 := by
  rw [epochOf, secondsAndNs_eq_add_epochs, Nat.add_mul_div_right _ _ (by decide), Nat.add_comm]

theorem pitchOf_secondsAndNs (sec ns : Nat) : pitchOf (sec * 10 ^ 9 + ns) = ns % 125000 / 500 := by
  rw [pitchOf, secondsAndNs_eq_add_epochs, Nat.add_mul_mod_self_right]

/-- An epoch holds 250 pitches (R6). -/
theorem pitchOf_le (ns : Nat) : pitchOf ns ≤ 249 := by
  have within : ns % 125000 < 250 * 500 := Nat.mod_lt ns (by decide)
  exact Nat.le_of_lt_succ (Nat.div_lt_of_lt_mul (by rwa [Nat.mul_comm] at within))

theorem State.epoch_eq_epochOf (s : State) : s.epoch = epochOf s.ns := rfl

theorem State.pitch_eq_pitchOf (s : State) : s.pitch = pitchOf s.ns := rfl

/-- Settles O12: whole seconds add whole epochs, so they pass through the quotient by an epoch and vanish in the remainder. -/
theorem epochAndPitchNumberTime : Obligations.EpochAndPitchNumberTime := by
  refine ⟨fun sec ns _ => ⟨?epoch, ?pitch, ?bound⟩, fun s => ⟨s.epoch_eq_epochOf, s.pitch_eq_pitchOf⟩⟩
  case epoch => exact epochOf_secondsAndNs sec ns
  case pitch => exact pitchOf_secondsAndNs sec ns
  case bound => exact pitchOf_le _

end Sys2Proof.Machine
end

section
/-! SUPPORT. Dword writes by access code (R26, R38): what a stored field reads afterwards, and the effect of a write that reaches a
page with no register of its own meaning at that offset and no freeze. -/
namespace Sys2Proof.Machine

variable {s : State} {m : Master} {p off i v : Nat} {f : Fld}

theorem State.store_rw (a : f.acc = .rw) : s.store p f i v = s.wrp p f i v := by
  simp [State.store, a]

theorem State.store_rws (a : f.acc = .rws) : s.store p f i v = s.wrStg p f i v := by
  simp [State.store, a]

theorem State.store_w1c (a : f.acc = .w1c) : s.store p f i v = s.wrp p f i (s.rdp p f i - (s.rdp p f i &&& v)) := by
  simp [State.store, a]

theorem State.store_of_not_stored (a : f.acc = .ro ∨ f.acc = .rc ∨ f.acc = .wo) : s.store p f i v = s := by
  rcases a with a | a | a <;> simp [State.store, a]

theorem State.writeFields_live (plain : actsWhenWritten p off = false) (live : s.frozen p = false) :
    s.writeFields m p off v = (fieldsAt p off).foldl (fun t h => t.writeFld m p v h) s := by
  simp [State.writeFields, plain_not_tim plain, live]

/-- A dword write takes effect field by field, on a state that the access alone has counted in. -/
theorem State.writeDword_plain (v : Nat) (reach : s.access m p off 4 true = .ok) (plain : actsWhenWritten p off = false)
    (live : s.frozen p = false) :
    ∃ u, s.CountsTo u ∧ s.writeDword m p off v = (fieldsAt p off).foldl (fun t h => t.writeFld m p v h) u := by
  obtain ⟨u, counted, effect⟩ := State.onWrite_ok reach (fun t => t.writeReg m p off v)
  have live' : u.frozen p = false := (counted.frozen p).trans live
  exact ⟨u, counted, by rw [State.writeDword, effect, writeReg_plain plain, State.writeFields_live plain live']⟩

theorem exec_registerWrite_dword (s : State) (m : Master) (p off : Nat) (v : Word) :
    exec (.registerWrite m p off 4 v) s = .next (s.writeDword m p off v.toNat) := rfl

theorem exec_highDwordWrite_of_isHighDword (s : State) (m : Master) (v : Word) (high : isHighDword p off = true) :
    exec (.highDwordWrite m p off v) s = .next (s.writeDword m p off v.toNat) :=
  congrArg Host.Outcome.next (if_pos high)

/-- After a dword write each of its fields reads as if it alone had been stored. -/
theorem State.rdp_writeFolds {l : List (Fld × Nat × Nat)} (narrow : ∀ h ∈ l, h.1.wide = false) (distinct : (l.map (keyOf p)).Nodup)
    {h : Fld × Nat × Nat} (mem : h ∈ l) :
    (l.foldl (fun t h => t.writeFld m p v h) s).rdp p h.1 h.2.1 = (s.store p h.1 h.2.1 (bits v h.1.hi h.1.lo)).rdp p h.1 h.2.1 :=
  State.rdp_congr (State.writeFolds_at narrow distinct mem).1

/-- After a dword write each of its fields has the staged copy that storing it alone would have left. -/
theorem State.stgp_writeFolds {l : List (Fld × Nat × Nat)} (narrow : ∀ h ∈ l, h.1.wide = false) (distinct : (l.map (keyOf p)).Nodup)
    {h : Fld × Nat × Nat} (mem : h ∈ l) :
    (l.foldl (fun t h => t.writeFld m p v h) s).stgp p h.1 h.2.1 =
      (s.store p h.1 h.2.1 (bits v h.1.hi h.1.lo)).stgp p h.1 h.2.1 := by
  have staged := (State.writeFolds_at (s := s) (m := m) (v := v) narrow distinct mem).2
  rw [keyOf] at staged
  rw [State.stgp, staged, State.rdp_writeFolds narrow distinct mem, ← State.stgp]

/-- Settles O7: the access counts, then the fields of the dword are written one after another; their keys differ, so each ends as if
it alone had been stored, and storing follows the access code. -/
theorem registerWriteFollowsAccessCodes : Obligations.RegisterWriteFollowsAccessCodes := by
  intro s m p off v reach plain live distinct narrow
  obtain ⟨u, counted, effect⟩ := State.writeDword_plain v.toNat reach plain live
  refine ⟨_, (exec_registerWrite_dword s m p off v).trans (congrArg _ effect), fun h mem untold => ?fields, fun k untold other => ?others,
    ?onlyRegs⟩
  case fields =>
    have before : u.rdp p h.1 h.2.1 = s.rdp p h.1 h.2.1 := counted.rdp p h.1 h.2.1 untold
    rw [State.rdp_writeFolds narrow distinct mem, State.stgp_writeFolds narrow distinct mem]
    refine ⟨fun active => ?_, fun staged => ⟨?_, ?_⟩, fun cleared => ?_, fun kept => ?_⟩
    · rw [State.store_rw active, State.rdp_wrp_same, bits_width]
    · rw [State.store_rws staged, State.rdp_wrStg, before]
    · rw [State.store_rws staged, State.stgp_wrStg_same, bits_width]
    · rw [State.store_w1c cleared, State.rdp_wrp_same, before]
    · rw [State.store_of_not_stored kept, before]
  case others => exact (State.writeFolds_ne narrow other).1.trans (counted.reg k untold)
  case onlyRegs => exact counted.onlyRegs.trans (State.OnlyRegs.of_regs (State.writeFolds_rest narrow))

theorem State.writeFld_low (wide : f.wide = true) : s.writeFld m p v (f, i, 0) = s.keepLow m (lowAddr p f i) v := by
  simp [State.writeFld, wide]

theorem State.writeFld_high (wide : f.wide = true) :
    s.writeFld m p v (f, i, 1) = s.store p f i (s.lowOf m (lowAddr p f i) + v * 2 ^ 32) := by
  simp [State.writeFld, wide]

/-- Settles O9: the dword holds the wide field alone, so its write is that field's: the low dword is kept, and the high dword
stores both. -/
theorem highDwordWriteTakesBothDwords : Obligations.HighDwordWriteTakesBothDwords := by
  intro s m p off f i v reach plain wide live _
  obtain ⟨u, counted, effect⟩ := State.writeDword_plain v.toNat reach plain live
  refine ⟨fun alone => ?low, fun alone high => ?high⟩
  case low =>
    rw [alone, List.foldl_cons, List.foldl_nil, State.writeFld_low wide] at effect
    exact ⟨_, (exec_registerWrite_dword s m p off v).trans (congrArg _ effect), counted.keepLow m _ _⟩
  case high =>
    rw [alone, List.foldl_cons, List.foldl_nil, State.writeFld_high wide, counted.lowOf] at effect
    refine ⟨_, (exec_highDwordWrite_of_isHighDword s m v high).trans (congrArg _ effect), fun active => ?_, fun staged => ?_⟩
    · rw [State.store_rw active]
      exact counted.wrp p f i _
    · rw [State.store_rws staged]
      exact counted.wrStg p f i _

end Sys2Proof.Machine
end

section
/-! SUPPORT. Page controls: block enable and BLOCK resets (R30, R34, R432). -/
namespace Sys2Proof.Machine

variable {s : State} {m : Master} {p : Nat}

theorem State.blkEnSet_neverIdle (never : neverIdle p = true) : s.blkEnSet p false = s := by
  simp [State.blkEnSet, never]

theorem exec_blkEnWrite_ok (reach : s.access m p 8 4 true = .ok) (en : Bool) :
    ∃ u, s.CountsTo u ∧ exec (.blkEnWrite m p en) s = .next (u.blkEnSet p en) := by
  obtain ⟨u, counted, effect⟩ := State.onWrite_ok reach (fun t => t.blkEnSet p en)
  exact ⟨u, counted, congrArg Host.Outcome.next effect⟩

theorem exec_blkSrst_ok (reach : s.access m p 8 4 true = .ok) :
    ∃ u, s.CountsTo u ∧ exec (.blkSrst m p) s = .next (u.blockBegin p) := by
  obtain ⟨u, counted, effect⟩ := State.onWrite_ok reach (fun t => t.blockBegin p)
  exact ⟨u, counted, congrArg Host.Outcome.next effect⟩

theorem State.blockBegin_refused (refused : blockRefused p = true) : s.blockBegin p = s.trb 0x02 3 := by
  simp [State.blockBegin, refused]

/-- A BLOCK reset begins where no reset clears the page already (R424). -/
theorem State.mem_blocks_blockBegin (allowed : blockRefused p = false) (warm : s.rst.warm = false)
    (flr : s.rst.flr = false ∨ hostPages.contains p = false) (idle : s.rst.blocks.contains p = false) :
    p ∈ (s.blockBegin p).rst.blocks := by
  have free : ¬ (s.rst.warm = true ∨ (s.rst.flr = true ∧ hostPages.contains p = true) ∨ s.rst.blocks.contains p = true) := by
    rcases flr with flr | flr <;> simp only [warm, flr, idle] <;> simp
  unfold State.blockBegin
  rw [if_neg (by simp [allowed]), if_neg free]
  exact mem_withNat _ p

theorem exec_blockResetDone (clearing : s.rst.blocks.contains p = true) :
    exec (.blockResetDone p) s = .next (s.blockEnd p).linksSettle :=
  congrArg Host.Outcome.next (if_pos clearing)

theorem not_mem_without (l : List Nat) (n : Nat) : n ∉ without l n := by
  simp [without]

theorem State.blockEnd_blocks (s : State) (p : Nat) : (s.blockEnd p).rst.blocks = without s.rst.blocks p := rfl

theorem State.blockEnd_lastPage (s : State) (small : p < 0x80) : (s.blockEnd p).rd Reg.RST_LAST_BLOCK_PAGE = p :=
  (State.rd_wr_same _ _ p).trans (Nat.mod_eq_of_lt (Nat.lt_trans small (by decide)))

end Sys2Proof.Machine
end

section
/-! SUPPORT. Fault windows (R442, R443): their end, a write of their configuration, and a read of their status. -/
namespace Sys2Proof.Machine

variable {s : State} {m : Master} {p n : Nat}

/-- The fields of a fault window stand at different low bits. -/
theorem fwinCur_ne_transient : fkey p Reg.FWIN_n_STAT_CUR n ≠ fkey p Reg.FWIN_n_STAT_TRANSIENT n := fkey_ne_lo (by decide)

theorem State.windowEnd_cur (s : State) (p n : Nat) : (s.windowEnd p n).rdp p Reg.FWIN_n_STAT_CUR n = 0 :=
  State.rdp_wrp_same _ p Reg.FWIN_n_STAT_CUR n 0

theorem State.windowEnd_transient (s : State) (p n : Nat) :
    (s.windowEnd p n).rdp p Reg.FWIN_n_STAT_TRANSIENT n =
      if s.rdp p Reg.FWIN_n_CFG_THRESH n ≠ 0 ∧ s.rdp p Reg.FWIN_n_CFG_THRESH n ≤ s.rdp p Reg.FWIN_n_STAT_CUR n
        then s.rdp p Reg.FWIN_n_STAT_TRANSIENT n
        else min (s.rdp p Reg.FWIN_n_STAT_TRANSIENT n + s.rdp p Reg.FWIN_n_STAT_CUR n) 0xFFFF := by
  rw [State.windowEnd, State.rdp_wrp_ne fwinCur_ne_transient]
  split
  · rfl
  · rw [State.rdp_wrp_same]
    exact Nat.mod_eq_of_lt (Nat.lt_of_le_of_lt (Nat.min_le_right _ _) (by decide))

theorem exec_faultWindowEnd_due (page : (blockOf p).isSome) (window : n < 4) (due : s.windowDue p n = true) :
    exec (.faultWindowEnd p n) s = .next (s.windowEnd p n) :=
  congrArg Host.Outcome.next (if_pos ⟨page, window, due⟩)

/-- A write of FWIN_n_CFG ends the window and takes the three fields of the value. -/
theorem State.fwinCfg_fields (s : State) (p n v : Nat) :
    (s.fwinCfg p n v).rdp p Reg.FWIN_n_STAT_CUR n = 0 ∧ (s.fwinCfg p n v).rdp p Reg.FWIN_n_CFG_EVENT n = bits v 3 0 ∧
    (s.fwinCfg p n v).rdp p Reg.FWIN_n_CFG_LEN n = bits v 23 8 ∧ (s.fwinCfg p n v).rdp p Reg.FWIN_n_CFG_THRESH n = bits v 31 24 := by
  unfold State.fwinCfg
  refine ⟨?cur, ?event, ?len, ?thresh⟩
  case cur =>
    rw [State.rdp_wrp_ne (fkey_ne_lo (by decide)), State.rdp_wrp_ne (fkey_ne_lo (by decide)), State.rdp_wrp_ne (fkey_ne_lo (by decide))]
    exact State.windowEnd_cur s p n
  case event =>
    rw [State.rdp_wrp_ne (fkey_ne_lo (by decide)), State.rdp_wrp_ne (fkey_ne_lo (by decide)), State.rdp_wrp_same]
    exact bits_width Reg.FWIN_n_CFG_EVENT v
  case len =>
    rw [State.rdp_wrp_ne (fkey_ne_lo (by decide)), State.rdp_wrp_same]
    exact bits_width Reg.FWIN_n_CFG_LEN v
  case thresh =>
    rw [State.rdp_wrp_same]
    exact bits_width Reg.FWIN_n_CFG_THRESH v

theorem exec_fwinCfgWrite_ok (window : n < 4) (reach : s.access m p (0x40 + 8 * n) 4 true = .ok) (v : Word) :
    ∃ u, s.CountsTo u ∧ exec (.fwinCfgWrite m p n v) s = .next (u.fwinCfg p n v.toNat) := by
  obtain ⟨u, counted, effect⟩ := State.onWrite_ok reach (fun t => t.fwinCfg p n v.toNat)
  exact ⟨u, counted, congrArg Host.Outcome.next ((if_pos window).trans effect)⟩

theorem isTele_transient (p : Nat) (window : n < 4) : isTele (fkey p Reg.FWIN_n_STAT_TRANSIENT n) = false := by
  have addr : fkey p Reg.FWIN_n_STAT_TRANSIENT n / 64 = p * 4096 + 0x44 + 8 * n := fkey_eq (by decide)
  have low : fkey p Reg.FWIN_n_STAT_TRANSIENT n % 64 = 0 := by simp [fkey, Reg.FWIN_n_STAT_TRANSIENT]
  have offset : (p * 4096 + 0x44 + 8 * n) % 4096 = 0x44 + 8 * n := by omega
  simp only [isTele, addr, low, offset]
  simp
  omega

/-- TRANSIENT is the low half of what a read of FWIN_n_STAT answers. -/
theorem State.fwinStatTake_low (s : State) (p n : Nat) :
    (s.fwinStatTake p n).1 % 2 ^ 32 % 65536 = s.rdp p Reg.FWIN_n_STAT_TRANSIENT n % 65536 := by
  simp only [State.fwinStatTake]
  omega

theorem State.fwinStatTake_clears (s : State) (p n : Nat) : (s.fwinStatTake p n).2.rdp p Reg.FWIN_n_STAT_TRANSIENT n = 0 :=
  State.rdp_wrp_same s p Reg.FWIN_n_STAT_TRANSIENT n 0

theorem exec_fwinStatRead_ok (window : n < 4) (reach : s.access m p (0x44 + 8 * n) 4 false = .ok) :
    ∃ u, s.CountsTo u ∧
      exec (.fwinStatRead m p n) s = .next ((u.fwinStatTake p n).2.emit (.readData m ((u.fwinStatTake p n).1 % 2 ^ 32))) := by
  obtain ⟨u, counted, effect⟩ := State.onRead_ok reach (fun t => t.fwinStatTake p n)
  exact ⟨u, counted, congrArg Host.Outcome.next ((if_pos window).trans effect)⟩

/-- Settles O11: each access that reaches its page is its register's own operation on a state that the access alone has counted in;
the events are their operations on the state itself. -/
theorem pageControlsAndFaultWindowsTakeEffect : Obligations.PageControlsAndFaultWindowsTakeEffect := by
  refine ⟨fun s m p reach => ⟨fun en takes => ?enable, fun never => ?neverIdle, fun allowed warm flr idle => ?reset, fun refused => ?refused⟩,
    fun s p small clearing => ?resetDone, fun s p n page window => ⟨fun due => ?windowEnd, fun m v reach => ?config, fun m reach => ?status⟩⟩
  case enable =>
    obtain ⟨u, _, effect⟩ := exec_blkEnWrite_ok reach en
    exact ⟨_, effect, blkEnSet_blkEn takes⟩
  case neverIdle =>
    obtain ⟨u, counted, effect⟩ := exec_blkEnWrite_ok reach false
    exact ⟨u, effect.trans (congrArg _ (State.blkEnSet_neverIdle never)), counted⟩
  case reset =>
    obtain ⟨u, counted, effect⟩ := exec_blkSrst_ok reach
    rw [← counted.rst] at warm flr idle
    exact ⟨_, effect, State.mem_blocks_blockBegin allowed warm flr idle⟩
  case refused =>
    obtain ⟨u, counted, effect⟩ := exec_blkSrst_ok reach
    exact ⟨_, effect.trans (congrArg _ (State.blockBegin_refused refused)), (counted.trouble 0x02 3).trans (State.trb_counts u 0x02 3)⟩
  case resetDone =>
    refine ⟨_, exec_blockResetDone clearing, ?_, ?_⟩
    · rw [(linksSettle_rest (k := 0) (by decide)).2, State.blockEnd_blocks]
      exact not_mem_without _ p
    · rw [linksSettle_rd _ _ (by decide), State.blockEnd_lastPage s small]
  case windowEnd =>
    exact ⟨_, exec_faultWindowEnd_due page window due, State.windowEnd_cur s p n, State.windowEnd_transient s p n⟩
  case config =>
    obtain ⟨u, _, effect⟩ := exec_fwinCfgWrite_ok window reach v
    exact ⟨_, effect, State.fwinCfg_fields u p n v.toNat⟩
  case status =>
    obtain ⟨u, counted, effect⟩ := exec_fwinStatRead_ok window reach
    refine ⟨_, effect, State.fwinStatTake_clears u p n, _, List.mem_append_right _ (List.mem_singleton_self _), ?_⟩
    rw [State.fwinStatTake_low, counted.rdp _ _ _ (isTele_transient p window)]

end Sys2Proof.Machine
end

section
/-! SUPPORT. The state after reset (R28, R407, R431): the register file lists the mode alone. -/
namespace Sys2Proof.Machine

/-- Every register field but the mode holds its reset value (R28). -/
theorem State.reset_rdp {p i : Nat} {f : Fld} (other : fkey p f i ≠ Reg.TOP_STAT_MODE.key 0) :
    State.reset.rdp p f i = f.resetAt i := by
  have unlisted : State.reset.regs.active.lookup (fkey p f i) = none := if_neg (Ne.symm other)
  rw [State.rdp, SMap.get, unlisted, Option.getD_none]

theorem State.reset_mode : State.reset.mode = 0 := rfl

theorem State.reset_tState : State.reset.tState = 0 :=
  State.reset_rdp (p := 0x10) (f := Reg.TIM_STATE_STATE) (i := 0) (by decide)

theorem State.reset_bootSource : State.reset.rd Reg.BOOT_STAT_SOURCE = 3 :=
  State.reset_rdp (p := 0x07) (f := Reg.BOOT_STAT_SOURCE) (i := 0) (by decide)

theorem State.reset_coreState {c : Nat} (core : c < 4) : State.reset.coreState c = 0 :=
  State.reset_rdp (fkey_ne_page (by decide) (by decide) (by simp [Reg.MGT_CORE_c_STAT_STATE]; omega) (by decide) (by decide))

/-- Settles O6: the structures beside the registers are those that the state after reset is built of, and every register named but
the mode holds its reset value. -/
theorem resetLeavesTheDeviceInStandby : Obligations.ResetLeavesTheDeviceInStandby :=
  ⟨State.reset_mode, rfl, rfl, State.reset_tState, fun _ core => State.reset_coreState core, State.reset_bootSource, rfl, rfl, rfl, rfl, rfl,
    rfl, fun _ _ _ _ _ _ other => State.reset_rdp other⟩

end Sys2Proof.Machine
end

section
/-! SUPPORT. Generation numbers (R40). -/
namespace Sys2Proof.Machine

theorem nextGen_last : nextGen 0xFFFE = 1 := rfl

theorem nextGen_of_ne {g : Nat} (inner : g ≠ 0xFFFE) : nextGen g = g + 1 := if_neg inner

/-- The generations that follow run from 1 to 0xFFFE. -/
theorem nextGen_range {g : Nat} (bound : g ≤ 0xFFFE) : 1 ≤ nextGen g ∧ nextGen g ≤ 0xFFFE := by
  by_cases last : g = 0xFFFE
  · subst last; rw [nextGen_last]; decide
  · rw [nextGen_of_ne last]; omega

/-- The last generation is even and 1 is odd, so bit 0 alternates across the return too. -/
theorem nextGen_alternates (g : Nat) : nextGen g % 2 ≠ g % 2 := by
  by_cases last : g = 0xFFFE
  · subst last; rw [nextGen_last]; decide
  · rw [nextGen_of_ne last]; omega

theorem State.commitBanks_pageGen {s : State} {p target : Nat} (staged : s.hasStagedBank p = true) (powered : s.pagePowered p = true) :
    (s.commitBanks p target).pageGen p = nextGen (s.pageGen p) % 2 ^ 16 := by
  rw [State.commitBanks, if_pos ⟨staged, powered⟩]
  exact State.rdp_wrp_same _ p Reg.PG_GEN_ACTIVE 0 _

/-- Settles O32: the successor is 1 after the last generation and one more elsewhere; it fits PG_GEN.ACTIVE, which a commit sets
to it. -/
theorem generationsRunFromOneAndAlternate : Obligations.GenerationsRunFromOneAndAlternate := by
  refine ⟨nextGen_of_ne (by decide), nextGen_last, fun g _ below => nextGen_of_ne (Nat.ne_of_lt below), fun g bound => ?follows,
    fun s p target staged powered bound => ?commit⟩
  case follows =>
    obtain ⟨low, high⟩ := nextGen_range bound
    exact ⟨by omega, by omega, nextGen_alternates g⟩
  case commit =>
    obtain ⟨_, high⟩ := nextGen_range bound
    rw [State.commitBanks_pageGen staged powered, Nat.mod_eq_of_lt (by omega)]

end Sys2Proof.Machine
end

section
/-! SUPPORT. A tick of the rope of channels (R46, R83): what it adds to each channel, that the comparison after it changes no channel's
time, and what a dissent leaves in SPN_STAT while AUTO_RESTART is off. -/
namespace Sys2Proof.Machine

variable {s t : State}

/-! ## Channels -/

theorem State.chan_congr (same : t.time = s.time) (n : Nat) : t.chan n = s.chan n := by
  rw [State.chan, State.chan, same]

/-- Replacing a channel by one with the same time moves no channel's time. -/
theorem State.setChan_chan_time {n : Nat} {c : Channel} (same : c.time = (s.chan n).time) (k : Nat) :
    ((s.setChan n c).chan k).time = (s.chan k).time := by
  by_cases atA : n = 0
  · subst atA
    simp only [State.chan, State.setChan, if_true] at same ⊢
    split
    · exact same
    · rfl
  by_cases atB : n = 1
  · subst atB
    simp only [State.chan, State.setChan, if_true, Nat.one_ne_zero, if_false] at same ⊢
    split
    · rfl
    split
    · exact same
    · rfl
  · simp only [State.chan, State.setChan, atA, atB, if_false] at same ⊢
    split
    · rfl
    split
    · rfl
    · exact same

/-- A channel that has power ticks unless it is fallow (R46). -/
theorem ite_tick_time (up : Bool) (c : Channel) :
    (if up = true then c.tick else c).time =
      if up = true ∧ c.fallow = false then c.time + (1048576000000000 + c.adj).toNat else c.time := by
  cases up <;> cases fallow : c.fallow <;> simp [Channel.tick, fallow]

theorem State.tickChannels_chan_time (s : State) {n : Nat} (channel : n < 3) :
    (s.tickChannels.chan n).time = if s.domainUp (3 + n) = true ∧ (s.chan n).fallow = false
      then (s.chan n).time + (1048576000000000 + (s.chan n).adj).toNat else (s.chan n).time := by
  match n, channel with
  | 0, _ => exact ite_tick_time (s.domainUp 3) s.time.chA
  | 1, _ => exact ite_tick_time (s.domainUp 4) s.time.chB
  | 2, _ => exact ite_tick_time (s.domainUp 5) s.time.chC

theorem State.tickChannels_regs (s : State) : s.tickChannels.regs = s.regs := rfl

/-! ## The comparison moves no channel's time -/

theorem State.restartChan_chan_time (s : State) (n k : Nat) : ((s.restartChan n).chan k).time = (s.chan k).time := by
  unfold State.restartChan
  dsimp only
  have marked : ∀ (u : State) (c : Channel), u.time = s.time → c.time = (u.chan n).time →
      (((u.setChan n c).trb 0x13 8).chan k).time = (s.chan k).time := fun u c same kept => by
    rw [State.chan_congr (State.trb_time _ 0x13 8), State.setChan_chan_time kept, State.chan_congr same]
  split
  · split <;> exact marked _ _ rfl rfl
  · exact marked _ _ rfl rfl

theorem State.dissent_chan_time (s : State) (d w k : Nat) : ((s.dissent d w).chan k).time = (s.chan k).time := by
  unfold State.dissent
  dsimp only
  split
  · rw [State.restartChan_chan_time, State.chan_congr (State.trb_time _ 0x13 3)]
    rfl
  · exact congrArg Channel.time (State.chan_congr (State.trb_time _ 0x13 3) k)

theorem State.vote_chan_time (s : State) (k : Nat) : (s.vote.chan k).time = (s.chan k).time := by
  unfold State.vote
  dsimp only
  split
  · split <;> rfl
  split
  · exact State.dissent_chan_time s 2 0 k
  split
  · exact State.dissent_chan_time s 1 0 k
  split
  · exact State.dissent_chan_time s 0 1 k
  split
  · rfl
  · exact congrArg Channel.time (State.chan_congr (State.trb_time _ 0x13 7) k)

theorem State.compareTwo_time (s : State) (x y : Nat) : (s.compareTwo x y).time = s.time :=
  State.of_but_time (State.compareTwo_but (u := 2164260873) (by decide) s x y) (by decide)

theorem State.compareChans_chan_time (s : State) (k : Nat) : (s.compareChans.chan k).time = (s.chan k).time := by
  unfold State.compareChans
  split
  · exact State.vote_chan_time s k
  · exact congrArg Channel.time (State.chan_congr (State.compareTwo_time s _ _) k)
  · rfl

theorem State.todTick_chan (s : State) (k : Nat) : s.todTick.chan k = s.chan k := by
  unfold State.todTick
  dsimp only
  split
  · rfl
  split
  · rfl
  split
  · rfl
  split <;> rfl

theorem State.todTick_regs (s : State) : s.todTick.regs = s.regs :=
  State.of_but_regs (State.todTick_but (u := 2147483652) (by decide) s) (by decide)

/-! ## A dissent -/

/-- The fields that a dissent can change while AUTO_RESTART is off (R83, R96). -/
def dissentKeys : List Nat :=
  [Reg.SPN_STAT_ACTIVE.key 0, Reg.SPN_STAT_RUNNING.key 0, Reg.SPN_STAT_DISSENT.key 0, Reg.SPN_LAST_MM_LO_EPOCH.key 0,
    Reg.SPN_LAST_MM_HI_EPOCH.key 0, trbKey 0x13 3]

/-- The dissent is recorded: the winner governs, the epoch is kept, the bit is set and the counter steps (R83, R96). -/
def State.dissentMarked (s : State) (d w : Nat) : State :=
  let t := (s.wr Reg.SPN_STAT_ACTIVE w).spnMismatch
  (t.wr Reg.SPN_STAT_DISSENT (setBit (t.rd Reg.SPN_STAT_DISSENT) d true)).trb 0x13 3

theorem State.dissent_eq (s : State) (d w : Nat) :
    s.dissent d w = if (s.dissentMarked d w).rdb Reg.SPN_CTL_AUTO_RESTART then (s.dissentMarked d w).restartChan d
      else (s.dissentMarked d w).setRunning d false := rfl

theorem State.spnMismatch_rd (s : State) {f : Fld} (lo : fkey Reg.SPN_LAST_MM_LO_EPOCH.pg Reg.SPN_LAST_MM_LO_EPOCH 0 ≠ fkey f.pg f 0)
    (hi : fkey Reg.SPN_LAST_MM_HI_EPOCH.pg Reg.SPN_LAST_MM_HI_EPOCH 0 ≠ fkey f.pg f 0) : s.spnMismatch.rd f = s.rd f :=
  (State.rd_wr_ne hi).trans (State.rd_wr_ne lo)

theorem State.dissentMarked_regsBut (s : State) (d w : Nat) : s.RegsBut dissentKeys (s.dissentMarked d w) :=
  (((((State.RegsBut.refl dissentKeys s).wr w (by decide)).wr _ (by decide)).wr _ (by decide)).wr _ (by decide)).trb (by decide)

theorem State.dissentMarked_active (s : State) (d w : Nat) : (s.dissentMarked d w).rd Reg.SPN_STAT_ACTIVE = w % 2 ^ 2 := by
  rw [State.dissentMarked, State.trb_rd _ _ _ _ (by decide) (by decide), State.rd_wr_ne (by decide),
    State.spnMismatch_rd _ (by decide) (by decide), State.rd_wr_same]
  rfl

theorem State.dissentMarked_dissent (s : State) (d w : Nat) :
    (s.dissentMarked d w).rd Reg.SPN_STAT_DISSENT = setBit (s.rd Reg.SPN_STAT_DISSENT) d true % 2 ^ Reg.SPN_STAT_DISSENT.width := by
  rw [State.dissentMarked, State.trb_rd _ _ _ _ (by decide) (by decide), State.rd_wr_same,
    State.spnMismatch_rd _ (by decide) (by decide), State.rd_wr_ne (by decide)]

theorem State.dissentMarked_running (s : State) (d w : Nat) : (s.dissentMarked d w).rd Reg.SPN_STAT_RUNNING = s.rd Reg.SPN_STAT_RUNNING := by
  rw [State.dissentMarked, State.trb_rd _ _ _ _ (by decide) (by decide), State.rd_wr_ne (by decide),
    State.spnMismatch_rd _ (by decide) (by decide), State.rd_wr_ne (by decide)]

theorem State.dissentMarked_autoRestart (s : State) (d w : Nat) :
    (s.dissentMarked d w).rdb Reg.SPN_CTL_AUTO_RESTART = s.rdb Reg.SPN_CTL_AUTO_RESTART := by
  rw [State.rdb, State.rdb, State.rd, (s.dissentMarked_regsBut d w).lookup (by decide) (by decide), State.rd]

/-- Without AUTO_RESTART the dissenting channel leaves the vote and does not restart (R83). -/
theorem State.dissent_of_noRestart (off : s.rdb Reg.SPN_CTL_AUTO_RESTART = false) (d w : Nat) :
    s.dissent d w = (s.dissentMarked d w).setRunning d false := by
  rw [State.dissent_eq, State.dissentMarked_autoRestart, off, if_neg Bool.false_ne_true]

theorem State.setRunning_runningChans (s : State) (n : Nat) (b : Bool) :
    (s.setRunning n b).runningChans = bitsSet (setBit (s.rd Reg.SPN_STAT_RUNNING) n b % 2 ^ 3) 3 := by
  rw [State.runningChans, State.setRunning, State.rd_wr_same]
  rfl

theorem State.runningChans_congr (same : t.regs = s.regs) : t.runningChans = s.runningChans := by
  rw [State.runningChans, State.rd_of_regs same, State.runningChans]

theorem State.compareChans_of_three (all : s.rd Reg.SPN_STAT_RUNNING = 7) : s.compareChans = s.vote := by
  have three : s.runningChans = [0, 1, 2] := by rw [State.runningChans, all]; decide
  unfold State.compareChans
  rw [three]
  rfl

/-- The channel that differs, the lower-lettered and the higher-lettered of the equal ones, when one of three dissents (R83). -/
def OneDissents (d w x : Nat) : Prop := (d, w, x) = (2, 0, 1) ∨ (d, w, x) = (1, 0, 2) ∨ (d, w, x) = (0, 1, 2)

theorem State.vote_of_dissent {d w x : Nat} (one : OneDissents d w x) (equal : (s.chan w).time = (s.chan x).time)
    (differs : (s.chan d).time ≠ (s.chan w).time) : s.vote = s.dissent d w := by
  obtain e | e | e := one <;> cases e
  · have ab : s.time.chA.time = s.time.chB.time := equal
    have cb : ¬ s.time.chB.time = s.time.chC.time := fun h => differs (h.symm.trans ab.symm)
    simp only [State.vote, ab, cb, and_false, if_false, if_true]
  · have ac : s.time.chA.time = s.time.chC.time := equal
    have ab : ¬ s.time.chA.time = s.time.chB.time := fun h => differs h.symm
    simp only [State.vote, ab, false_and, if_false]
    rw [if_pos ac]
  · have bc : s.time.chB.time = s.time.chC.time := equal
    have ab : ¬ s.time.chA.time = s.time.chB.time := differs
    have ac : ¬ s.time.chA.time = s.time.chC.time := fun h => ab (h.trans bc.symm)
    simp only [State.vote, ab, ac, false_and, if_false]
    rw [if_pos bc]

/-- What the dissent of one of three running channels leaves in SPN_STAT (R83). -/
theorem State.dissent_of_three {d w x : Nat} (one : OneDissents d w x) (all : s.rd Reg.SPN_STAT_RUNNING = 7)
    (off : s.rdb Reg.SPN_CTL_AUTO_RESTART = false) :
    (s.dissent d w).rd Reg.SPN_STAT_ACTIVE = w ∧ (s.dissent d w).runningChans = [w, x] ∧
      (s.dissent d w).rd Reg.SPN_STAT_DISSENT = setBit (s.rd Reg.SPN_STAT_DISSENT) d true % 2 ^ Reg.SPN_STAT_DISSENT.width ∧
      s.RegsBut dissentKeys (s.dissent d w) := by
  rw [State.dissent_of_noRestart off]
  refine ⟨?active, ?running, ?bit, (s.dissentMarked_regsBut d w).wr _ (by decide)⟩
  case active =>
    rw [State.setRunning, State.rd_wr_ne (by decide), State.dissentMarked_active]
    obtain e | e | e := one <;> cases e <;> rfl
  case running =>
    rw [State.setRunning_runningChans, State.dissentMarked_running, all]
    obtain e | e | e := one <;> cases e <;> decide
  case bit => rw [State.setRunning, State.rd_wr_ne (by decide), State.dissentMarked_dissent]

theorem exec_timeTick (s : State) : exec .timeTick s = .next s.tickChannels.compareChans.todTick := rfl

/-- Settles O13: the comparison and the ToD UART move no channel's time, so a tick adds what the channels' own ticks add; a vote of three
with one that differs is its dissent, of which the ToD UART changes no register. -/
theorem ticksAdvanceAndDissentersLeaveTheVote : Obligations.TicksAdvanceAndDissentersLeaveTheVote := by
  refine ⟨fun s => ⟨_, exec_timeTick s, fun n channel => ?advance⟩, fun s all off d w x one equal differs => ⟨_, exec_timeTick s, ?leave⟩⟩
  case advance =>
    rw [State.todTick_chan, State.compareChans_chan_time, State.tickChannels_chan_time s channel]
  case leave =>
    have kept : s.tickChannels.compareChans.todTick.regs = (s.tickChannels.dissent d w).regs := by
      rw [State.todTick_regs, State.compareChans_of_three (s := s.tickChannels) all, State.vote_of_dissent one equal differs]
    obtain ⟨active, running, bit, rest⟩ := State.dissent_of_three (s := s.tickChannels) one all off
    rw [State.rd_of_regs kept, State.rd_of_regs kept, State.runningChans_congr kept]
    exact ⟨active, running, bit, ((State.RegsBut.of_regs s.tickChannels_regs).trans rest).trans (State.RegsBut.of_regs kept)⟩

end Sys2Proof.Machine
end

section
/-! SUPPORT. The duties of a pitch boundary for network time (R46, R53, R58) and of an epoch boundary for the decision records (R92). -/
namespace Sys2Proof.Machine

variable {s : State} {f : Int}

/-! ## The pitch boundary -/

/-- A written TIM_FREQ has taken effect: none waits, the holdover term has ended, and channel A runs at the effective adjustment
(R46, R53, R58). -/
structure TimeSt.FreqTaken (f : Int) (t : TimeSt) : Prop where
  servo : t.servoFreq = f
  none_waits : t.freqPending = none
  term_ended : t.holdTerm = 0
  model_ended : t.holdActive = false
  loaded : t.chA.adj = t.eff

theorem State.pitchTerms_freqTaken (waits : s.time.freqPending = some f) : s.pitchTerms.time.FreqTaken f := by
  unfold State.pitchTerms
  dsimp only
  rw [waits]
  exact ⟨rfl, rfl, rfl, rfl, rfl⟩

/-- A restarting channel loads the effective adjustment, so this holds of channel A whether it restarts or not (R86). -/
theorem State.channelLoad_freqTaken (taken : s.time.FreqTaken f) (n : Nat) : (s.channelLoad n).time.FreqTaken f := by
  obtain ⟨servo, none_waits, term_ended, model_ended, loaded⟩ := taken
  unfold State.channelLoad State.setChan
  dsimp only
  split
  · split
    · exact ⟨servo, none_waits, term_ended, model_ended, rfl⟩
    split
    · exact ⟨servo, none_waits, term_ended, model_ended, loaded⟩
    · exact ⟨servo, none_waits, term_ended, model_ended, loaded⟩
  · exact ⟨servo, none_waits, term_ended, model_ended, loaded⟩

theorem State.timePitch_freqTaken (waits : s.time.freqPending = some f) : s.timePitch.time.FreqTaken f :=
  State.channelLoad_freqTaken (State.channelLoad_freqTaken (State.channelLoad_freqTaken (State.pitchTerms_freqTaken waits) 0) 1) 2

theorem State.schedPitch_foldl_time (ports : List Nat) (s : State) : (ports.foldl State.schedPitch s).time = s.time :=
  State.of_but_time (u := 2164269057) (State.but_foldl (fun t p => State.schedPitch_but (by decide) t p) ports s) (by decide)

/-- Of network time, the scheduler's part of a pitch boundary changes nothing. -/
theorem State.pitchDuties_time (s : State) : s.pitchDuties.time = { s.timePitch.time with pitchDone := s.timePitch.ns / 500 } := by
  unfold State.pitchDuties
  dsimp only
  split
  · exact State.schedPitch_foldl_time _ _
  · rfl

theorem State.pitchDuties_freqTaken (waits : s.time.freqPending = some f) : s.pitchDuties.time.FreqTaken f := by
  obtain ⟨servo, none_waits, term_ended, model_ended, loaded⟩ := State.timePitch_freqTaken waits
  rw [State.pitchDuties_time]
  exact ⟨servo, none_waits, term_ended, model_ended, loaded⟩

/-- Time passes on the channels alone (R46). -/
theorem State.advanceTo_time (s : State) (ns : Nat) :
    ∃ a b c : Channel, (s.advanceTo ns).time = { s.time with chA := a, chB := b, chC := c } := by
  unfold State.advanceTo
  split <;> exact ⟨_, _, _, rfl⟩

theorem State.advanceTo_freqPending (s : State) (ns : Nat) : (s.advanceTo ns).time.freqPending = s.time.freqPending := by
  obtain ⟨a, b, c, passed⟩ := s.advanceTo_time ns
  rw [passed]

/-- The state at the pitch boundary that PITCH_BOUNDARY handles: device time has reached it, or moves to it. -/
def State.atPitchBoundary (s : State) : State :=
  if s.time.pitchDone < s.ns / 500 then s else s.advanceTo ((s.ns / 500 + 1) * 500)

theorem State.atPitchBoundary_freqPending (s : State) : s.atPitchBoundary.time.freqPending = s.time.freqPending := by
  unfold State.atPitchBoundary
  split
  · rfl
  · exact s.advanceTo_freqPending _

theorem exec_pitchBoundary (running : s.timeRuns = true) : exec .pitchBoundary s = .next s.atPitchBoundary.pitchDuties :=
  congrArg Host.Outcome.next (if_pos running)

/-! ## The epoch boundary -/

theorem State.timeEpoch_pair (s : State) : s.timeEpoch.pair = s.pair :=
  State.of_but_pair (State.timeEpoch_but (u := 2164260869) (by decide) s) (by decide)

theorem State.voqEpoch_pair (s : State) : s.voqEpoch.pair = s.pair :=
  State.of_but_pair (State.voqEpoch_but (u := 65536) (by decide) s) (by decide)

theorem State.drainEpoch_pair (s : State) : s.drainEpoch.pair = s.pair :=
  State.of_but_pair (State.drainEpoch_but (u := 8388609) (by decide) s) (by decide)

theorem State.epochDuties_pair (s : State) : s.epochDuties.pair = s.timeEpoch.pairEpoch.pair := by
  unfold State.epochDuties
  dsimp only
  rw [State.drainEpoch_pair, State.voqEpoch_pair]

theorem State.epochDuties_ceCount (s : State) : s.epochDuties.pmu.ceCount = 0 := rfl

theorem State.decCount_congr {t : State} (same : t.pair = s.pair) : t.decCount = s.decCount := by
  rw [State.decCount, same, State.decCount]

/-- The newest kept digest after a boundary is the ended epoch's (R92). -/
theorem State.pairEpoch_own_head (s : State) :
    s.pairEpoch.pair.own.head? = some (s.epoch - 1, s.pair.genAtBoundary, s.decDigest, s.decCount) := rfl

theorem State.advanceTo_pair (s : State) (ns : Nat) : (s.advanceTo ns).pair = s.pair :=
  State.of_but_pair (State.advanceTo_but (u := 4) (by decide) s ns) (by decide)

/-- The state at the epoch boundary that EPOCH_BOUNDARY handles: device time has reached it, or moves to it. -/
def State.atEpochBoundary (s : State) : State :=
  if s.time.epochDone < s.ns / 125000 then s else s.advanceTo ((s.ns / 125000 + 1) * 125000)

theorem State.atEpochBoundary_pair (s : State) : s.atEpochBoundary.pair = s.pair := by
  unfold State.atEpochBoundary
  split
  · rfl
  · exact s.advanceTo_pair _

theorem exec_epochBoundary (running : s.timeRuns = true) : exec .epochBoundary s = .next s.atEpochBoundary.epochDuties :=
  congrArg Host.Outcome.next (if_pos running)

/-- Settles O15: the move to a boundary keeps the waiting TIM_FREQ and the pair's records, which the boundary's duties then take. -/
theorem pitchAndEpochBoundariesTakeEffect : Obligations.PitchAndEpochBoundariesTakeEffect := by
  refine ⟨fun s f running waits => ?pitch, fun s running => ?epoch⟩
  case pitch =>
    obtain ⟨servo, none_waits, term_ended, model_ended, loaded⟩ :=
      State.pitchDuties_freqTaken (s.atPitchBoundary_freqPending.trans waits)
    exact ⟨_, exec_pitchBoundary running, servo, none_waits, term_ended, model_ended, loaded⟩
  case epoch =>
    have same : s.atEpochBoundary.timeEpoch.pair = s.pair := (State.timeEpoch_pair _).trans s.atEpochBoundary_pair
    refine ⟨_, exec_epochBoundary running, ?_⟩
    rw [State.epochDuties_pair]
    exact ⟨rfl, rfl, State.epochDuties_ceCount _, _, State.pairEpoch_own_head _, congrArg PairSt.genAtBoundary same, State.decCount_congr same⟩

end Sys2Proof.Machine
end

section
/-! SUPPORT. The invariant (R66, R81, R295, R461): it holds at reset, and every step keeps it since every command does. -/
namespace Sys2Proof.Machine

variable {s t : State}

theorem State.reset_inv : State.reset.Inv where
  mem := rfl
  tap := by decide
  armed := Nat.zero_le _
  apart := List.Pairwise.nil
  log := Nat.zero_le _
  d2d := fun _ failed => absurd failed List.not_mem_nil

/-- Settles O3: nothing is armed, logged, written or out of use, and the TAP controller is in Test-Logic-Reset. -/
theorem invariantHoldsAtReset : Obligations.InvariantHoldsAtReset := State.reset_inv

theorem State.Kept.inv (kept : s.Kept t) (inv : s.Inv) : t.Inv where
  mem := kept.mem inv.mem
  tap := kept.tap inv.tap
  armed := kept.armed inv.armed
  apart := kept.apart inv.apart
  log := kept.log inv.log
  d2d := kept.d2d inv.d2d

/-- The invariant does not speak of the queue. -/
theorem State.Inv.setPending (inv : s.Inv) (queue : List Instr) : State.Inv { s with pending := queue } where
  mem := inv.mem
  tap := inv.tap
  armed := inv.armed
  apart := inv.apart
  log := inv.log
  d2d := inv.d2d

/-- Every command keeps the queue and each part of the invariant: one lemma per command. -/
theorem exec_kept (c : Instr) (ran : exec c s = .next t) : s.Kept t := by
  cases c with
  | registerWrite m page off size v => exact execRegisterWrite_kept m page off size v s t ran
  | lowDwordRead m page off => exact execLowDwordRead_kept m page off s t ran
  | highDwordWrite m page off v => exact execHighDwordWrite_kept m page off v s t ran
  | trbWrite m page k v => exact execTrbWrite_kept m page k v s t ran
  | blkEnWrite m page en => exact execBlkEnWrite_kept m page en s t ran
  | blkSrst m page => exact execBlkSrst_kept m page s t ran
  | faultWindowEnd page n => exact execFaultWindowEnd_kept page n s t ran
  | fwinCfgWrite m page n v => exact execFwinCfgWrite_kept m page n v s t ran
  | fwinStatRead m page n => exact execFwinStatRead_kept m page n s t ran
  | timeTick => exact execTimeTick_kept s t ran
  | katComplete passA passB passC => exact execKatComplete_kept passA passB passC s t ran
  | spnSelftest m => exact execSpnSelftest_kept m s t ran
  | spnRestart m chans => exact execSpnRestart_kept m chans s t ran
  | channelRejoin ch => exact execChannelRejoin_kept ch s t ran
  | pitchBoundary => exact execPitchBoundary_kept s t ran
  | epochBoundary => exact execEpochBoundary_kept s t ran
  | timCmdAcquire m ref => exact execTimCmdAcquire_kept m ref s t ran
  | timCmdLock m => exact execTimCmdLock_kept m s t ran
  | timCmdHold m => exact execTimCmdHold_kept m s t ran
  | timCmdResume m => exact execTimCmdResume_kept m s t ran
  | timCmdFree m => exact execTimCmdFree_kept m s t ran
  | timFreqWrite m v => exact execTimFreqWrite_kept m v s t ran
  | timPhaseAdj m d => exact execTimPhaseAdj_kept m d s t ran
  | holdTimeout => exact execHoldTimeout_kept s t ran
  | traverseHoldTimeout => exact execTraverseHoldTimeout_kept s t ran
  | smbusTempRead reading => exact execSmbusTempRead_kept reading s t ran
  | ppsInEdge => exact execPpsInEdge_kept s t ran
  | ppsOutPulse => exact execPpsOutPulse_kept s t ran
  | todRxByte b => exact execTodRxByte_kept b s t ran
  | todRxRead m => exact execTodRxRead_kept m s t ran
  | todTxWrite m b => exact execTodTxWrite_kept m b s t ran
  | ptpTsqRead m k => exact execPtpTsqRead_kept m k s t ran
  | timeWordReceived link w rxTime => exact execTimeWordReceived_kept link w rxTime s t ran
  | servoConverged => exact execServoConverged_kept s t ran
  | timeCellSend => exact execTimeCellSend_kept s t ran
  | pairClaim m => exact execPairClaim_kept m s t ran
  | pairRelease m => exact execPairRelease_kept m s t ran
  | belayInQualified => exact execBelayInQualified_kept s t ran
  | belayContention => exact execBelayContention_kept s t ran
  | digestSend => exact execDigestSend_kept s t ran
  | digestReceived d rxTime => exact execDigestReceived_kept d rxTime s t ran
  | digestMissing => exact execDigestMissing_kept s t ran
  | pairSelfcheckDone pass => exact execPairSelfcheckDone_kept pass s t ran
  | frameReceived port b whole => exact execFrameReceived_kept port b whole s t ran
  | macControlFrame port b => exact execMacControlFrame_kept port b s t ran
  | pauseTimerExpire port cls => exact execPauseTimerExpire_kept port cls s t ran
  | fcRefresh port => exact execFcRefresh_kept port s t ran
  | linkStateChange port aligned fecLock localFault remoteFault => exact execLinkStateChange_kept port aligned fecLock localFault remoteFault s t ran
  | seatedAsserted => exact execSeatedAsserted_kept s t ran
  | seatedQualified => exact execSeatedQualified_kept s t ran
  | seatedDeasserted => exact execSeatedDeasserted_kept s t ran
  | parseStart port bad => exact execParseStart_kept port bad s t ran
  | secondPassStart pipe bad => exact execSecondPassStart_kept pipe bad s t ran
  | frameTailArrived pkt rest => exact execFrameTailArrived_kept pkt rest s t ran
  | fragEntryExpire bucket slot => exact execFragEntryExpire_kept bucket slot s t ran
  | fragFlush m => exact execFragFlush_kept m s t ran
  | admission bad => exact execAdmission_kept bad s t ran
  | mcrRecordApply f => exact execMcrRecordApply_kept f s t ran
  | freeCacheRefill pool f => exact execFreeCacheRefill_kept pool f s t ran
  | freeCacheSpill pool => exact execFreeCacheSpill_kept pool s t ran
  | bpmApply m => exact execBpmApply_kept m s t ran
  | freeStoreRebuildDone => exact execFreeStoreRebuildDone_kept s t ran
  | portTxReady port bad => exact execPortTxReady_kept port bad s t ran
  | ropeWake port => exact execRopeWake_kept port s t ran
  | residenceScan => exact execResidenceScan_kept s t ran
  | calendarPrefetch port onTime bad => exact execCalendarPrefetch_kept port onTime bad s t ran
  | gateEntryChange port f => exact execGateEntryChange_kept port f s t ran
  | cyclicListStart port => exact execCyclicListStart_kept port s t ran
  | timetableTakeover port => exact execTimetableTakeover_kept port s t ran
  | timetableEntry port f => exact execTimetableEntry_kept port f s t ran
  | timetableFetch port => exact execTimetableFetch_kept port s t ran
  | gateTtCancel m port => exact execGateTtCancel_kept m port s t ran
  | latencySample => exact execLatencySample_kept s t ran
  | latencyWrite => exact execLatencyWrite_kept s t ran
  | latWdataAccess m w => exact execLatWdataAccess_kept m w s t ran
  | cairnPost m slot => exact execCairnPost_kept m slot s t ran
  | cairnCancel m slot seq => exact execCairnCancel_kept m slot seq s t ran
  | cairnCommit => exact execCairnCommit_kept s t ran
  | bankRetire page => exact execBankRetire_kept page s t ran
  | cairnRepeat seq => exact execCairnRepeat_kept seq s t ran
  | cairnCellReceived link c => exact execCairnCellReceived_kept link c s t ran
  | linkEnable m link en => exact execLinkEnable_kept m link en s t ran
  | linkRestart m link => exact execLinkRestart_kept m link s t ran
  | linkAligned link => exact execLinkAligned_kept link s t ran
  | linkTrainTimeout link => exact execLinkTrainTimeout_kept link s t ran
  | linkAlignLoss link => exact execLinkAlignLoss_kept link s t ran
  | helloSend link => exact execHelloSend_kept link s t ran
  | helloReceived link h => exact execHelloReceived_kept link h s t ran
  | helloTimeout link => exact execHelloTimeout_kept link s t ran
  | fabIdWrite m v => exact execFabIdWrite_kept m v s t ran
  | cellReceived link b bad => exact execCellReceived_kept link b bad s t ran
  | cellRelay link => exact execCellRelay_kept link s t ran
  | reorderTimeout src cls => exact execReorderTimeout_kept src cls s t ran
  | creditSend link => exact execCreditSend_kept link s t ran
  | creditReceived link freed => exact execCreditReceived_kept link freed s t ran
  | voqDequeue voq bad => exact execVoqDequeue_kept voq bad s t ran
  | fmcQueueSend cls bad => exact execFmcQueueSend_kept cls bad s t ran
  | requestRetry voq => exact execRequestRetry_kept voq s t ran
  | creditReturn voq => exact execCreditReturn_kept voq s t ran
  | requestReceived r => exact execRequestReceived_kept r s t ran
  | grantEngine => exact execGrantEngine_kept s t ran
  | grantReceived src cls g => exact execGrantReceived_kept src cls g s t ran
  | d2dTrain ok spares => exact execD2dTrain_kept ok spares s t ran
  | d2dReplay => exact execD2dReplay_kept s t ran
  | d2dChannelFail ch => exact execD2dChannelFail_kept ch s t ran
  | hbmInit m stack => exact execHbmInit_kept m stack s t ran
  | hbmInitDone stack failPc => exact execHbmInitDone_kept stack failPc s t ran
  | hbmDlyDataAccess m stack w => exact execHbmDlyDataAccess_kept m stack w s t ran
  | hbmTempRead stack reading => exact execHbmTempRead_kept stack reading s t ran
  | refreshWindowOpen => exact execRefreshWindowOpen_kept s t ran
  | refreshWindowClose stack => exact execRefreshWindowClose_kept stack s t ran
  | hbmCommandIssue stack q => exact execHbmCommandIssue_kept stack q s t ran
  | hbmReadComplete req f => exact execHbmReadComplete_kept req f s t ran
  | hbmWriteRetire req rmwUncorrectable => exact execHbmWriteRetire_kept req rmwUncorrectable s t ran
  | requestOverdue req => exact execRequestOverdue_kept req s t ran
  | scrubRead stack word f => exact execScrubRead_kept stack word f s t ran
  | drqLatMaxRead m => exact execDrqLatMaxRead_kept m s t ran
  | tdmDescriptorTakeup r => exact execTdmDescriptorTakeup_kept r s t ran
  | tdmLoad r => exact execTdmLoad_kept r s t ran
  | tdmWrite r => exact execTdmWrite_kept r s t ran
  | tdmRead writeOk => exact execTdmRead_kept writeOk s t ran
  | tdmInsert r bad => exact execTdmInsert_kept r bad s t ran
  | tdmRemove r bad => exact execTdmRemove_kept r bad s t ran
  | tdmStageFw r => exact execTdmStageFw_kept r s t ran
  | tdmBadOp => exact execTdmBadOp_kept s t ran
  | tdmDescriptorReadRetry r => exact execTdmDescriptorReadRetry_kept r s t ran
  | tdmProfileApply m => exact execTdmProfileApply_kept m s t ran
  | learnRequest bad => exact execLearnRequest_kept bad s t ran
  | lrnPostGo m => exact execLrnPostGo_kept m s t ran
  | lrnPostRemove m => exact execLrnPostRemove_kept m s t ran
  | learnAgeSweep => exact execLearnAgeSweep_kept s t ran
  | shadowCompare lpm exm bad => exact execShadowCompare_kept lpm exm bad s t ran
  | shadowConfirm r f => exact execShadowConfirm_kept r f s t ran
  | bar2WindowAccess addr len w => exact execBar2WindowAccess_kept addr len w s t ran
  | mtRequestReceived link c => exact execMtRequestReceived_kept link c s t ran
  | mtResponseReceived link c => exact execMtResponseReceived_kept link c s t ran
  | mtTimeout tag => exact execMtTimeout_kept tag s t ran
  | winSwap m req => exact execWinSwap_kept m req s t ran
  | winSwapComplete n => exact execWinSwapComplete_kept n s t ran
  | winSwapHoldTimeout n => exact execWinSwapHoldTimeout_kept n s t ran
  | userCounterRead off len => exact execUserCounterRead_kept off len s t ran
  | puntWrite ring entry => exact execPuntWrite_kept ring entry s t ran
  | injectFetch ring entry frame => exact execInjectFetch_kept ring entry frame s t ran
  | mirrorWrite => exact execMirrorWrite_kept s t ran
  | containmentEnter cause => exact execContainmentEnter_kept cause s t ran
  | hifContain m => exact execHifContain_kept m s t ran
  | hifRelease m => exact execHifRelease_kept m s t ran
  | puntHoldExpire => exact execPuntHoldExpire_kept s t ran
  | hostLinkUp gen width => exact execHostLinkUp_kept gen width s t ran
  | completionReceived tag last err => exact execCompletionReceived_kept tag last err s t ran
  | completionTimeout tag => exact execCompletionTimeout_kept tag s t ran
  | tagQuarantineEnd tag => exact execTagQuarantineEnd_kept tag s t ran
  | icuClaim core => exact execIcuClaim_kept core s t ran
  | icuDone core src => exact execIcuDone_kept core src s t ran
  | icuDoorbell m bits => exact execIcuDoorbell_kept m bits s t ran
  | holdoffExpire g => exact execHoldoffExpire_kept g s t ran
  | gpioFiltered n level => exact execGpioFiltered_kept n level s t ran
  | coreReset m core => exact execCoreReset_kept m core s t ran
  | coreHalt m core halt => exact execCoreHalt_kept m core halt s t ran
  | coreLoadDone core ok => exact execCoreLoadDone_kept core ok s t ran
  | watchdogKick m core => exact execWatchdogKick_kept m core s t ran
  | watchdogExpire core => exact execWatchdogExpire_kept core s t ran
  | agentAccessFault addr write => exact execAgentAccessFault_kept addr write s t ran
  | bootStart => exact execBootStart_kept s t ran
  | candidateAccepted => exact execCandidateAccepted_kept s t ran
  | flashCopy verifyOk => exact execFlashCopy_kept verifyOk s t ran
  | bootTraverse m => exact execBootTraverse_kept m s t ran
  | bootLive m => exact execBootLive_kept m s t ran
  | headlessTimeout => exact execHeadlessTimeout_kept s t ran
  | bootUnstage m => exact execBootUnstage_kept m s t ran
  | secAttest m => exact execSecAttest_kept m s t ran
  | attestDone dmaOk => exact execAttestDone_kept dmaOk s t ran
  | secCommit m => exact execSecCommit_kept m s t ran
  | commitDone ok => exact execCommitDone_kept ok s t ran
  | secFuseRead m => exact execSecFuseRead_kept m s t ran
  | gotoStandby m => exact execGotoStandby_kept m s t ran
  | gotoReady m => exact execGotoReady_kept m s t ran
  | gotoService m => exact execGotoService_kept m s t ran
  | gotoDrain m => exact execGotoDrain_kept m s t ran
  | domainSwitchOn ready => exact execDomainSwitchOn_kept ready s t ran
  | domainReadyTimeout => exact execDomainReadyTimeout_kept s t ran
  | domainSwitchOff => exact execDomainSwitchOff_kept s t ran
  | governorTick riseF riseT => exact execGovernorTick_kept riseF riseT s t ran
  | thermalRead readings => exact execThermalRead_kept readings s t ran
  | pgInFall n => exact execPgInFall_kept n s t ran
  | wake src => exact execWake_kept src s t ran
  | aonWakeTimer => exact execAonWakeTimer_kept s t ran
  | coldReset straps seat present => exact execColdReset_kept straps seat present s t ran
  | hostPerst us => exact execHostPerst_kept us s t ran
  | softWarm m => exact execSoftWarm_kept m s t ran
  | warmClearDone => exact execWarmClearDone_kept s t ran
  | flr => exact execFlr_kept s t ran
  | pmuClearAll m => exact execPmuClearAll_kept m s t ran
  | pmuValueWrite m hi v => exact execPmuValueWrite_kept m hi v s t ran
  | prbsErrRead m page lane => exact execPrbsErrRead_kept m page lane s t ran
  | hdmErrRead m ring => exact execHdmErrRead_kept m ring s t ran
  | pairPresentChange high => exact execPairPresentChange_kept high s t ran
  | sdrefOkChange k ok => exact execSdrefOkChange_kept k ok s t ran
  | pgInChange levels => exact execPgInChange_kept levels s t ran
  | hostPerstDeassert => exact execHostPerstDeassert_kept s t ran
  | hrxIdleExit => exact execHrxIdleExit_kept s t ran
  | busMasterEnableChange on => exact execBusMasterEnableChange_kept on s t ran
  | coreFatalTrap core => exact execCoreFatalTrap_kept core s t ran
  | profileApplyDone => exact execProfileApplyDone_kept s t ran
  | flrClearDone => exact execFlrClearDone_kept s t ran
  | blockResetDone page => exact execBlockResetDone_kept page s t ran
  | endOfCold => exact execEndOfCold_kept s t ran
  | tapClock tms tdi => exact execTapClock_kept tms tdi s t ran
  | pairLinkFrame b => exact execPairLinkFrame_kept b s t ran

theorem State.Inv.exec {c : Instr} (inv : s.Inv) (ran : exec c s = .next t) : t.Inv := (exec_kept c ran).inv inv

/-- Settles O4: an idle step changes nothing, and any other step is `exec` of a command on the state with the queue's rest. -/
theorem everyStepKeepsTheInvariant : Obligations.EveryStepKeepsTheInvariant := by
  intro s t inv stepped
  unfold step at stepped
  split at stepped
  case h_1 => exact Host.Outcome.next.inj stepped ▸ inv
  case h_2 c rest _ => exact (inv.setPending rest).exec stepped

end Sys2Proof.Machine
end

section
/-! SUPPORT. The belay of a pair (R88 to R90): what becoming owner, ceasing to own, claiming and releasing do to the belay, the shared
outputs and PAIR_STAT.OWNER, and which register fields they can change. -/
namespace Sys2Proof.Machine

variable {s t : State} {m : Master}

/-! ## Taking part, and owning -/

/-- The belay asserted, the shared outputs driven and PAIR_STAT.OWNER, as these three levels (R89, R90). -/
structure State.Belay (asserted driven owns : Bool) (s : State) : Prop where
  belayOut : s.pins.belayOut = asserted
  sharedOut : s.pins.sharedOut = driven
  owner : s.owner = owns

theorem State.inPair_congr (present : t.pins.present = s.pins.present) (enable : t.rd Reg.PAIR_CTL_EN = s.rd Reg.PAIR_CTL_EN) :
    t.inPair = s.inPair := by
  rw [State.inPair, State.inPair, State.rdb, State.rdb, present, enable]

theorem State.owner_of_regs (same : t.regs = s.regs) : t.owner = s.owner := State.rdb_of_regs same Reg.PAIR_STAT_OWNER

theorem State.CountsTo.inPair (counted : s.CountsTo t) : t.inPair = s.inPair :=
  State.inPair_congr (congrArg Pins.present counted.pins) (counted.rd _ (by decide))

theorem State.CountsTo.owner (counted : s.CountsTo t) : t.owner = s.owner := counted.rdb _ (by decide)

/-! ## The GPIO of ownership -/

theorem State.ownGpio_pins (s : State) (b : Bool) : ∃ g, (s.ownGpio b).pins = { s.pins with gpio := g } := by
  unfold State.ownGpio
  dsimp only
  split
  · exact ⟨_, rfl⟩
  · exact ⟨s.pins.gpio, rfl⟩

theorem State.ownGpio_regs (s : State) (b : Bool) : (s.ownGpio b).regs = s.regs :=
  State.of_but_regs (State.ownGpio_but (u := 2) (by decide) s b) (by decide)

/-! ## Becoming owner, and ceasing to own -/

/-- The state with BELAY_OUT at a level. -/
def State.asserting (s : State) (asserted : Bool) : State := { s with pins := { s.pins with belayOut := asserted } }

/-- The state with the shared outputs driven or at high impedance. -/
def State.driving (s : State) (driven : Bool) : State := { s with pins := { s.pins with sharedOut := driven } }

/-- The state with PAIR_STAT.OWNER, and the GPIO that shows it, at a level. -/
def State.owning (s : State) (owns : Bool) : State := (s.wr Reg.PAIR_STAT_OWNER (b01 owns)).ownGpio owns

theorem State.becomeOwner_eq (s : State) : s.becomeOwner = ((s.driving true).owning true).trb 0x17 8 := rfl

theorem State.stopOwning_eq (s : State) : s.stopOwning = (s.driving false).owning false := rfl

theorem State.pairClaim_eq (pair : s.inPair = true) : s.pairClaim = (s.asserting true).pairSettle := if_pos pair

theorem State.pairRelease_eq (s : State) : s.pairRelease = (s.stopOwning.asserting false).pairSettle := rfl

theorem State.owning_pins (s : State) (owns : Bool) : ∃ g, (s.owning owns).pins = { s.pins with gpio := g } :=
  State.ownGpio_pins _ owns

theorem State.owning_owner (s : State) (owns : Bool) : (s.owning owns).owner = owns := by
  rw [State.owning, State.owner, State.rdb_of_regs (State.ownGpio_regs _ _), State.wr_rdb_same]
  cases owns <;> rfl

theorem State.owning_belay (s : State) (owns : Bool) : (s.owning owns).Belay s.pins.belayOut s.pins.sharedOut owns := by
  obtain ⟨gpio, pins⟩ := s.owning_pins owns
  exact ⟨by rw [pins], by rw [pins], s.owning_owner owns⟩

theorem State.RegsBut.owning {l : List Nat} (h : s.RegsBut l t) (owns : Bool) (listed : Reg.PAIR_STAT_OWNER.key 0 ∈ l) :
    s.RegsBut l (t.owning owns) :=
  (h.wr _ listed).trans (State.RegsBut.of_regs (State.ownGpio_regs _ owns))

theorem State.RegsBut.mono {l l' : List Nat} (h : s.RegsBut l t) (more : l ⊆ l') : s.RegsBut l' t :=
  fun k untold other => h k untold fun listed => other (more listed)

theorem State.Belay.trb {asserted driven owns : Bool} (belay : s.Belay asserted driven owns) {p k : Nat}
    (apart : fkey Reg.PAIR_STAT_OWNER.pg Reg.PAIR_STAT_OWNER 0 ≠ trbKey p k) : (s.trb p k).Belay asserted driven owns where
  belayOut := (congrArg Pins.belayOut (s.trb_pins p k)).trans belay.belayOut
  sharedOut := (congrArg Pins.sharedOut (s.trb_pins p k)).trans belay.sharedOut
  owner := (s.trb_rdb p k _ (by decide) apart).trans belay.owner

theorem State.becomeOwner_belay (s : State) : s.becomeOwner.Belay s.pins.belayOut true true :=
  ((s.driving true).owning_belay true).trb (by decide)

theorem State.becomeOwner_regsBut (s : State) : s.RegsBut [Reg.PAIR_STAT_OWNER.key 0, trbKey 0x17 8] s.becomeOwner :=
  have driven : s.RegsBut [Reg.PAIR_STAT_OWNER.key 0, trbKey 0x17 8] (s.driving true) := State.RegsBut.of_regs rfl
  (driven.owning true (by decide)).trb (by decide)

theorem State.stopOwning_belay (s : State) : s.stopOwning.Belay s.pins.belayOut false false := (s.driving false).owning_belay false

theorem State.stopOwning_regsBut (s : State) : s.RegsBut [Reg.PAIR_STAT_OWNER.key 0] s.stopOwning :=
  have released : s.RegsBut [Reg.PAIR_STAT_OWNER.key 0] (s.driving false) := State.RegsBut.of_regs rfl
  released.owning false (by decide)

theorem State.stopOwning_inPair (s : State) : s.stopOwning.inPair = s.inPair := by
  obtain ⟨gpio, pins⟩ := (s.driving false).owning_pins false
  exact State.inPair_congr (by rw [State.stopOwning_eq, pins]; rfl) (s.stopOwning_regsBut.lookup (by decide) (by decide))

/-! ## Ownership follows the belay pins -/

/-- A device of a pair that asserts BELAY_OUT while BELAY_IN has been deasserted for 200 ns becomes owner (R89). -/
theorem State.pairSettle_of_free (pair : s.inPair = true) (asserts : s.pins.belayOut = true) (deasserted : s.pins.belayIn = false)
    (quiet : s.pins.belayInQuiet = true) (standby : s.owner = false) : s.pairSettle = s.becomeOwner := by
  simp [State.pairSettle, pair, asserts, deasserted, quiet, standby]

/-- A device of a pair that does not assert BELAY_OUT does not own (R89). -/
theorem State.pairSettle_of_silent (pair : s.inPair = true) (silent : s.pins.belayOut = false) : s.pairSettle = s.stopOwning := by
  simp [State.pairSettle, pair, silent]

/-- Outside a pair a device holds BELAY_OUT deasserted and drives the shared outputs itself (R88). -/
theorem State.pairSettle_of_alone (alone : s.inPair = false) :
    s.pairSettle = if s.owner then ((s.asserting false).driving true).owning false else (s.asserting false).driving true := by
  rw [State.pairSettle, alone, if_neg Bool.false_ne_true]
  rfl

theorem State.pairSettle_alone_belay (alone : s.inPair = false) : s.pairSettle.Belay false true false := by
  rw [State.pairSettle_of_alone alone]
  split
  case isTrue => exact ((s.asserting false).driving true).owning_belay false
  case isFalse standby => exact ⟨rfl, rfl, Bool.eq_false_iff.mpr standby⟩

theorem State.pairSettle_alone_present (alone : s.inPair = false) : s.pairSettle.pins.present = s.pins.present := by
  rw [State.pairSettle_of_alone alone]
  split
  case isTrue =>
    obtain ⟨gpio, pins⟩ := ((s.asserting false).driving true).owning_pins false
    rw [pins]
    rfl
  case isFalse => rfl

theorem State.pairSettle_alone_regsBut (alone : s.inPair = false) : s.RegsBut [Reg.PAIR_STAT_OWNER.key 0] s.pairSettle := by
  have driven : s.RegsBut [Reg.PAIR_STAT_OWNER.key 0] ((s.asserting false).driving true) := State.RegsBut.of_regs rfl
  rw [State.pairSettle_of_alone alone]
  exact State.RegsBut.ite (driven.owning false (by decide)) driven

/-! ## Claim and release -/

/-- A claim while BELAY_IN has been deasserted for 200 ns makes the device owner (R89). -/
theorem State.pairClaim_of_free (pair : s.inPair = true) (deasserted : s.pins.belayIn = false) (quiet : s.pins.belayInQuiet = true)
    (standby : s.owner = false) : s.pairClaim = (s.asserting true).becomeOwner :=
  (State.pairClaim_eq pair).trans (State.pairSettle_of_free pair rfl deasserted quiet standby)

/-- A release in a pair leaves BELAY_OUT deasserted, so the device does not own (R89). -/
theorem State.pairRelease_belay (pair : s.inPair = true) : s.pairRelease.Belay false false false := by
  have settled : s.pairRelease = (s.stopOwning.asserting false).stopOwning :=
    State.pairSettle_of_silent (s := s.stopOwning.asserting false) (s.stopOwning_inPair.trans pair) rfl
  rw [settled]
  exact (s.stopOwning.asserting false).stopOwning_belay

/-- A release writes OWNER alone, in a pair or outside one. -/
theorem State.pairRelease_regsBut (s : State) : s.RegsBut [Reg.PAIR_STAT_OWNER.key 0] s.pairRelease := by
  refine s.stopOwning_regsBut.trans ?_
  rw [State.pairRelease_eq]
  cases pair : (s.stopOwning.asserting false).inPair
  case false => exact State.pairSettle_alone_regsBut pair
  case true =>
    rw [State.pairSettle_of_silent pair rfl]
    exact (s.stopOwning.asserting false).stopOwning_regsBut

/-! ## The commands of the belay -/

theorem exec_pairClaim_ok (reach : s.access m 0x17 0x104 4 true = .ok) :
    ∃ u, s.CountsTo u ∧ exec (.pairClaim m) s = .next u.pairClaim := by
  obtain ⟨u, counted, effect⟩ := State.onWrite_ok reach (fun t => t.pairCommand 1)
  exact ⟨u, counted, congrArg Host.Outcome.next effect⟩

theorem exec_pairRelease_ok (reach : s.access m 0x17 0x104 4 true = .ok) (asserts : s.pins.belayOut = true) :
    ∃ u, s.CountsTo u ∧ exec (.pairRelease m) s = .next u.pairRelease := by
  obtain ⟨u, counted, effect⟩ := State.onWrite_ok reach (fun t => t.pairCommand 2)
  have releases : u.pairCommand 2 = u.pairRelease := if_pos ((congrArg Pins.belayOut counted.pins).trans asserts)
  exact ⟨u, counted, congrArg Host.Outcome.next (effect.trans releases)⟩

/-- The state once BELAY_IN has been deasserted for 200 ns. -/
def State.belayInFree (s : State) : State := { s with pins := { s.pins with belayIn := false, belayInQuiet := true } }

theorem exec_belayInQualified_takeover (pair : s.inPair = true) (silent : s.pins.belayOut = false)
    (auto : s.rdb Reg.PAIR_CTL_AUTO_TAKEOVER = true) (fit : s.rdb Reg.PAIR_STAT_UNFIT = false) :
    exec .belayInQualified s = .next s.belayInFree.pairClaim :=
  congrArg Host.Outcome.next (if_pos ⟨pair, ne_true_of_eq_false silent, auto, ne_true_of_eq_false fit⟩)

/-- The state once the peer's BELAY_OUT is seen asserted. -/
def State.belayInTaken (s : State) : State := { s with pins := { s.pins with belayIn := true, belayInQuiet := false } }

theorem exec_belayContention_seat1 (pair : s.inPair = true) (asserts : s.pins.belayOut = true) (seat1 : s.pins.seat = true) :
    exec .belayContention s = .next (s.belayInTaken.pairRelease.trb 0x17 7) :=
  congrArg Host.Outcome.next (if_pos ⟨pair, asserts, seat1⟩)

/-- The state once PAIR_PRESENT reads low. -/
def State.absent (s : State) : State := { s with pins := { s.pins with present := false } }

theorem exec_pairPresentChange_low (s : State) : exec (.pairPresentChange false) s = .next s.absent.pairSettle := rfl

/-- Settles O18: a claim that BELAY_IN lets through makes the device owner, a release in a pair ends ownership, and a device alone drives
the shared outputs; a command is its operation on a state that the access alone has counted in. -/
theorem belayDecidesOwnership : Obligations.BelayDecidesOwnership := by
  intro s m
  refine ⟨fun reach pair deasserted quiet standby => ?claim, fun reach pair asserts => ?release,
    fun pair silent standby auto fit => ?takeover, fun pair asserts seat1 => ?contention, ?absent⟩
  case claim =>
    obtain ⟨u, counted, effect⟩ := exec_pairClaim_ok reach
    rw [← counted.pins] at deasserted quiet
    rw [State.pairClaim_of_free (counted.inPair.trans pair) deasserted quiet (counted.owner.trans standby)] at effect
    obtain ⟨belayOut, sharedOut, owner⟩ := (u.asserting true).becomeOwner_belay
    exact ⟨_, effect, belayOut, sharedOut, owner, .after counted (u.asserting true).becomeOwner_regsBut⟩
  case release =>
    obtain ⟨u, counted, effect⟩ := exec_pairRelease_ok reach asserts
    obtain ⟨belayOut, sharedOut, owner⟩ := State.pairRelease_belay (counted.inPair.trans pair)
    exact ⟨_, effect, belayOut, sharedOut, owner, .after counted u.pairRelease_regsBut⟩
  case takeover =>
    have claims : s.belayInFree.pairClaim = (s.belayInFree.asserting true).becomeOwner := State.pairClaim_of_free pair rfl rfl standby
    obtain ⟨belayOut, sharedOut, owner⟩ := (s.belayInFree.asserting true).becomeOwner_belay
    exact ⟨_, (exec_belayInQualified_takeover pair silent auto fit).trans (congrArg _ claims), belayOut, sharedOut, owner⟩
  case contention =>
    have released : s.RegsBut [Reg.PAIR_STAT_OWNER.key 0, trbKey 0x17 7] s.belayInTaken.pairRelease :=
      s.belayInTaken.pairRelease_regsBut.mono (List.subset_append_left _ _)
    have yields : s.belayInTaken.pairRelease.Belay false false false := State.pairRelease_belay pair
    obtain ⟨belayOut, sharedOut, owner⟩ := yields.trb (p := 0x17) (k := 7) (by decide)
    exact ⟨_, exec_belayContention_seat1 pair asserts seat1, belayOut, sharedOut, owner, released.trb (by decide)⟩
  case absent =>
    obtain ⟨belayOut, sharedOut, owner⟩ := State.pairSettle_alone_belay (s := s.absent) rfl
    exact ⟨_, exec_pairPresentChange_low s, State.pairSettle_alone_present (s := s.absent) rfl, belayOut, sharedOut, owner⟩

end Sys2Proof.Machine
end

section
/-! SUPPORT. Digests of a pair (R92, R93): the digest that leaves, what a digest that arrives is noted as and what a mismatch records, a
digest that is missing, and the end of the pair self-check. -/
namespace Sys2Proof.Machine

variable {s : State} {d : Digest} {rx : Nat}

/-! ## The digest that leaves -/

/-- The digest of the last epoch, as a frame of the pair link (R92). -/
def State.digestFrame (s : State) (gen dec cnt : Nat) : Bytes :=
  toBe 2 0x88B5 ++ digestBytes s.digestFlags (s.epoch - 1) (time96 s.sub) s.pair.lastRx gen dec cnt

theorem exec_digestSend_kept {gen dec cnt : Nat} (pair : s.inPair = true)
    (kept : s.pair.own.find? (fun r => r.1 == s.epoch - 1) = some (s.epoch - 1, gen, dec, cnt)) :
    exec .digestSend s = .next { s.emit (.pairFrame (s.digestFrame gen dec cnt)) with pair := { s.pair with lastTx := time96 s.sub } } := by
  show execDigestSend s = _
  unfold execDigestSend
  dsimp only
  rw [pair, kept]
  rfl

/-! ## A mismatch -/

/-- The fields that a mismatch can change: what it records, and the checks that it starts (R93). -/
def mismatchKeys : List Nat :=
  [Reg.PAIR_STAT_MISMATCH.key 0, Reg.PAIR_LAST_MM_LO_EPOCH.key 0, Reg.PAIR_LAST_MM_HI_EPOCH.key 0, Reg.PAIR_LAST_MM_HI_KIND.key 0,
    trbKey 0x17 3, Reg.PAIR_STAT_CHECKING.key 0, Reg.SPN_STAT_CHECKING.key 0]

/-- The mismatch is recorded and counted (R93). -/
def State.mismatchMarked (s : State) (epoch kind : Nat) : State :=
  ((((s.wr Reg.PAIR_STAT_MISMATCH 1).wr Reg.PAIR_LAST_MM_LO_EPOCH epoch).wr Reg.PAIR_LAST_MM_HI_EPOCH (epoch / 2 ^ 32)).wr
    Reg.PAIR_LAST_MM_HI_KIND kind).trb 0x17 3

theorem State.pairMismatch_eq (s : State) (epoch kind : Nat) :
    s.pairMismatch epoch kind =
      if (s.mismatchMarked epoch kind).rdb Reg.PAIR_CTL_CHECK_ON_MISMATCH ∧ ¬ (s.mismatchMarked epoch kind).rdb Reg.PAIR_STAT_CHECKING
        then (s.mismatchMarked epoch kind).pairCheckStart else s.mismatchMarked epoch kind := rfl

theorem State.pairCheckStart_regsBut (s : State) :
    s.RegsBut [Reg.PAIR_STAT_CHECKING.key 0, Reg.SPN_STAT_CHECKING.key 0] s.pairCheckStart :=
  ((State.RegsBut.refl _ s).wr 1 (by decide)).wr 1 (by decide)

theorem State.mismatchMarked_regsBut (s : State) (epoch kind : Nat) : s.RegsBut mismatchKeys (s.mismatchMarked epoch kind) :=
  (((((State.RegsBut.refl mismatchKeys s).wr _ (by decide)).wr _ (by decide)).wr _ (by decide)).wr _ (by decide)).trb (by decide)

theorem State.mismatchMarked_mismatch (s : State) (epoch kind : Nat) : (s.mismatchMarked epoch kind).rd Reg.PAIR_STAT_MISMATCH = 1 := by
  rw [State.mismatchMarked, State.trb_rd _ _ _ _ (by decide) (by decide), State.rd_wr_ne (by decide), State.rd_wr_ne (by decide),
    State.rd_wr_ne (by decide), State.rd_wr_same]
  rfl

theorem State.mismatchMarked_epoch (s : State) (epoch kind : Nat) :
    (s.mismatchMarked epoch kind).rd Reg.PAIR_LAST_MM_LO_EPOCH = epoch % 2 ^ 32 := by
  rw [State.mismatchMarked, State.trb_rd _ _ _ _ (by decide) (by decide), State.rd_wr_ne (by decide), State.rd_wr_ne (by decide),
    State.rd_wr_same]
  rfl

/-- A mismatch is recorded, and then at most the self-check starts. -/
theorem State.mismatchMarked_regsBut_pairMismatch (s : State) (epoch kind : Nat) :
    (s.mismatchMarked epoch kind).RegsBut [Reg.PAIR_STAT_CHECKING.key 0, Reg.SPN_STAT_CHECKING.key 0] (s.pairMismatch epoch kind) := by
  rw [State.pairMismatch_eq]
  exact (s.mismatchMarked epoch kind).pairCheckStart_regsBut.ite (State.RegsBut.refl _ _)

theorem State.pairMismatch_regsBut (s : State) (epoch kind : Nat) : s.RegsBut mismatchKeys (s.pairMismatch epoch kind) :=
  (s.mismatchMarked_regsBut epoch kind).trans ((s.mismatchMarked_regsBut_pairMismatch epoch kind).mono (by decide))

theorem State.pairMismatch_mismatch (s : State) (epoch kind : Nat) : (s.pairMismatch epoch kind).rd Reg.PAIR_STAT_MISMATCH = 1 :=
  ((s.mismatchMarked_regsBut_pairMismatch epoch kind).lookup (by decide) (by decide)).trans (s.mismatchMarked_mismatch epoch kind)

theorem State.pairMismatch_epoch (s : State) (epoch kind : Nat) :
    (s.pairMismatch epoch kind).rd Reg.PAIR_LAST_MM_LO_EPOCH = epoch % 2 ^ 32 :=
  ((s.mismatchMarked_regsBut_pairMismatch epoch kind).lookup (by decide) (by decide)).trans (s.mismatchMarked_epoch epoch kind)

/-- Of the pair's own records a mismatch moves the start of the self-check alone. -/
theorem State.pairMismatch_pair (s : State) (epoch kind : Nat) :
    ∃ start, (s.pairMismatch epoch kind).pair = { s.pair with checkStart := start } := by
  have marked : (s.mismatchMarked epoch kind).pair = s.pair := State.trb_pair _ 0x17 3
  rw [State.pairMismatch_eq]
  split
  case isTrue =>
    refine ⟨(s.mismatchMarked epoch kind).epoch, ?_⟩
    rw [← marked]
    rfl
  case isFalse => exact ⟨s.pair.checkStart, marked⟩

/-! ## The digest that arrives -/

/-- The path delay to the peer, where the four times give one (R92). -/
def State.delayNoted (s : State) (d : Digest) (rx : Nat) : State :=
  match pairTimes s.pair.lastTx d.peerRx d.txTime rx with
  | some (_, delay) => s.wr Reg.PAIR_DELAY_DELAY (ofSigned 32 (delay / 256))
  | none => s

/-- A digest is noted before it is compared: its time, its epoch, the end of the run of missing ones, LINK_UP (R93). -/
def State.digestNoted (s : State) (d : Digest) (rx : Nat) : State :=
  let t := s.delayNoted d rx
  State.wr { t with pair := { t.pair with lastRx := rx, missRun := 0, peerSeen := (d.epoch :: t.pair.peerSeen).take 8 } }
    Reg.PAIR_STAT_LINK_UP 1

/-- What the comparison with the own record finds differing, as PAIR_LAST_MM_HI.KIND (R93, R97). -/
def State.digestKind (s : State) (times : Option (Int × Int)) (d : Digest) (gen dec cnt : Nat) : Nat :=
  b01 (s.timeDiffers times) + 2 * b01 (gen != d.genDigest) + 4 * b01 (dec != d.decDigest) + 8 * b01 (cnt != d.decCount)

/-- A digest is compared with the own record of its epoch, where one is kept (R93). -/
def State.digestCompared (s : State) (times : Option (Int × Int)) (d : Digest) : State :=
  match s.pair.own.find? (fun r => r.1 == d.epoch) with
  | some (_, gen, dec, cnt) =>
    if s.digestKind times d gen dec cnt = 0 then s else s.pairMismatch d.epoch (s.digestKind times d gen dec cnt)
  | none => s

/-- The state has noted a digest and its time of arrival. -/
structure State.Noted (d : Digest) (rx : Nat) (s : State) : Prop where
  lastRx : s.pair.lastRx = rx
  missRun : s.pair.missRun = 0
  seen : d.epoch ∈ s.pair.peerSeen
  linkUp : s.rd Reg.PAIR_STAT_LINK_UP = 1

theorem State.digestIn_eq (pair : s.inPair = true) (version : d.version = 1) :
    s.digestIn d rx = (s.digestNoted d rx).digestCompared (pairTimes s.pair.lastTx d.peerRx d.txTime rx) d :=
  if_neg fun dropped => dropped.elim (fun apart => apart pair) fun other => other version

theorem State.delayNoted_pair (s : State) (d : Digest) (rx : Nat) : (s.delayNoted d rx).pair = s.pair := by
  unfold State.delayNoted
  split <;> rfl

theorem State.digestNoted_own (s : State) (d : Digest) (rx : Nat) : (s.digestNoted d rx).pair.own = s.pair.own :=
  (congrArg PairSt.own (s.delayNoted_pair d rx) :)

theorem State.digestNoted_noted (s : State) (d : Digest) (rx : Nat) : (s.digestNoted d rx).Noted d rx where
  lastRx := rfl
  missRun := rfl
  seen := List.mem_cons_self
  linkUp := State.rd_wr_same _ _ 1

theorem State.Noted.pairMismatch (noted : s.Noted d rx) (epoch kind : Nat) : (s.pairMismatch epoch kind).Noted d rx := by
  obtain ⟨start, pair⟩ := s.pairMismatch_pair epoch kind
  refine ⟨?_, ?_, ?_, ((s.pairMismatch_regsBut epoch kind).lookup (by decide) (by decide)).trans noted.linkUp⟩
  · rw [pair]; exact noted.lastRx
  · rw [pair]; exact noted.missRun
  · rw [pair]; exact noted.seen

theorem State.Noted.digestCompared (noted : s.Noted d rx) (times : Option (Int × Int)) : (s.digestCompared times d).Noted d rx := by
  unfold State.digestCompared
  split
  · split
    · exact noted
    · exact noted.pairMismatch _ _
  · exact noted

/-- Bit 1 of the kind is GEN_DIGEST (R97). -/
theorem State.digestKind_ne_zero {gen : Nat} (differs : gen ≠ d.genDigest) (s : State) (times : Option (Int × Int)) (dec cnt : Nat) :
    s.digestKind times d gen dec cnt ≠ 0 := by
  have bit : b01 (gen != d.genDigest) = 1 := by simp [b01, differs]
  rw [State.digestKind, bit]
  omega

/-- A digest whose GEN_DIGEST differs from the own record of its epoch is a mismatch (R93). -/
theorem State.digestCompared_of_differs {gen dec cnt : Nat} (times : Option (Int × Int))
    (own : s.pair.own.find? (fun r => r.1 == d.epoch) = some (d.epoch, gen, dec, cnt)) (differs : gen ≠ d.genDigest) :
    s.digestCompared times d = s.pairMismatch d.epoch (s.digestKind times d gen dec cnt) := by
  unfold State.digestCompared
  rw [own]
  exact if_neg (State.digestKind_ne_zero differs s times dec cnt)

theorem exec_digestReceived (s : State) (d : Digest) (rx : Nat) : exec (.digestReceived d rx) s = .next (s.digestIn d rx) := rfl

/-- A good frame of the pair link with the EtherType and SUBTYPE of a digest is one (R92). -/
theorem exec_pairLinkFrame_digest {b : Bytes} (powered : s.pagePowered 0x17 = true) (good : fcsBad b = false)
    (etherType : beAt b 12 2 = 0x88B5) (subtype : beAt b 14 1 = 0x4B) :
    exec (.pairLinkFrame b) s = .next (s.digestIn (parseDigest (b.drop 14)) (time96 s.sub)) :=
  congrArg Host.Outcome.next ((if_pos powered).trans (if_pos ⟨ne_true_of_eq_false good, etherType, subtype⟩))

/-! ## A digest that is missing -/

/-- A missing digest is counted, and its epoch is not counted again (R93). -/
def State.digestMissed (s : State) : State :=
  let t := s.trb 0x17 4
  { t with pair := { t.pair with missRun := t.pair.missRun + 1, peerSeen := ((s.epoch - 2) :: t.pair.peerSeen).take 8 } }

theorem exec_digestMissing_unseen (pair : s.inPair = true) (second : 2 ≤ s.epoch) (unseen : s.epoch - 2 ∉ s.pair.peerSeen) :
    exec .digestMissing s = .next
      (if s.digestMissed.rd Reg.PAIR_MISS_LIMIT_N ≠ 0 ∧ s.digestMissed.rd Reg.PAIR_MISS_LIMIT_N ≤ s.digestMissed.pair.missRun
        then s.digestMissed.wr Reg.PAIR_STAT_LINK_UP 0 else s.digestMissed) :=
  congrArg Host.Outcome.next (if_pos ⟨pair, second, fun seen => unseen (List.contains_iff_mem.mp seen)⟩)

theorem State.digestMissed_missRun (s : State) : s.digestMissed.pair.missRun = s.pair.missRun + 1 :=
  congrArg (fun p => p.missRun + 1) (s.trb_pair 0x17 4)

theorem State.digestMissed_limit (s : State) : s.digestMissed.rd Reg.PAIR_MISS_LIMIT_N = s.rd Reg.PAIR_MISS_LIMIT_N :=
  s.trb_rd 0x17 4 _ (by decide) (by decide)

theorem State.digestMissed_regsBut (s : State) :
    s.RegsBut [trbKey 0x17 4, Reg.PAIR_STAT_LINK_UP.key 0] s.digestMissed :=
  (State.RegsBut.refl _ s).trb (by decide)

/-! ## The end of the pair self-check -/

/-- A self-check that passed (R93). -/
def State.checkPassed (s : State) : State := ((s.wr Reg.PAIR_STAT_CHECKING 0).wr Reg.PAIR_STAT_NO_FAULT_FOUND 1).trb 0x17 6

/-- A self-check that failed, before an owner releases (R93). -/
def State.checkFailed (s : State) : State :=
  (((s.wr Reg.PAIR_STAT_CHECKING 0).wr Reg.PAIR_STAT_SELF_FAIL 1).wr Reg.PAIR_STAT_UNFIT 1).trb 0x17 5

theorem exec_pairSelfcheckDone_pass (checking : s.rdb Reg.PAIR_STAT_CHECKING = true) :
    exec (.pairSelfcheckDone true) s = .next s.checkPassed :=
  congrArg Host.Outcome.next (if_pos checking)

theorem exec_pairSelfcheckDone_fail (checking : s.rdb Reg.PAIR_STAT_CHECKING = true) :
    exec (.pairSelfcheckDone false) s = .next (if s.checkFailed.owner then s.checkFailed.pairRelease else s.checkFailed) :=
  congrArg Host.Outcome.next (if_pos checking)

theorem State.checkPassed_status (s : State) :
    s.checkPassed.rd Reg.PAIR_STAT_CHECKING = 0 ∧ s.checkPassed.rd Reg.PAIR_STAT_NO_FAULT_FOUND = 1 := by
  refine ⟨?_, ?_⟩
  · rw [State.checkPassed, State.trb_rd _ _ _ _ (by decide) (by decide), State.rd_wr_ne (by decide), State.rd_wr_same]
    rfl
  · rw [State.checkPassed, State.trb_rd _ _ _ _ (by decide) (by decide), State.rd_wr_same]
    rfl

theorem State.checkPassed_regsBut (s : State) :
    s.RegsBut [Reg.PAIR_STAT_CHECKING.key 0, Reg.PAIR_STAT_NO_FAULT_FOUND.key 0, trbKey 0x17 6] s.checkPassed :=
  (((State.RegsBut.refl _ s).wr _ (by decide)).wr _ (by decide)).trb (by decide)

/-- PAIR_STAT of a device whose self-check failed (R93). -/
structure State.SelfCheckFailed (s : State) : Prop where
  checking : s.rd Reg.PAIR_STAT_CHECKING = 0
  selfFail : s.rd Reg.PAIR_STAT_SELF_FAIL = 1
  unfit : s.rd Reg.PAIR_STAT_UNFIT = 1

theorem State.checkFailed_failed (s : State) : s.checkFailed.SelfCheckFailed := by
  refine ⟨?_, ?_, ?_⟩
  · rw [State.checkFailed, State.trb_rd _ _ _ _ (by decide) (by decide), State.rd_wr_ne (by decide), State.rd_wr_ne (by decide),
      State.rd_wr_same]
    rfl
  · rw [State.checkFailed, State.trb_rd _ _ _ _ (by decide) (by decide), State.rd_wr_ne (by decide), State.rd_wr_same]
    rfl
  · rw [State.checkFailed, State.trb_rd _ _ _ _ (by decide) (by decide), State.rd_wr_same]
    rfl

/-- A release leaves PAIR_STAT but for OWNER as it is. -/
theorem State.SelfCheckFailed.pairRelease (failed : s.SelfCheckFailed) : s.pairRelease.SelfCheckFailed where
  checking := (s.pairRelease_regsBut.lookup (by decide) (by decide)).trans failed.checking
  selfFail := (s.pairRelease_regsBut.lookup (by decide) (by decide)).trans failed.selfFail
  unfit := (s.pairRelease_regsBut.lookup (by decide) (by decide)).trans failed.unfit

/-- The fields that a failed self-check changes. -/
def selfFailKeys : List Nat :=
  [Reg.PAIR_STAT_CHECKING.key 0, Reg.PAIR_STAT_SELF_FAIL.key 0, Reg.PAIR_STAT_UNFIT.key 0, trbKey 0x17 5]

theorem State.checkFailed_regsBut (s : State) : s.RegsBut selfFailKeys s.checkFailed :=
  ((((State.RegsBut.refl selfFailKeys s).wr _ (by decide)).wr _ (by decide)).wr _ (by decide)).trb (by decide)

theorem State.checkFailed_owner (s : State) : s.checkFailed.owner = s.owner := by
  rw [State.owner, State.rdb, State.rd, s.checkFailed_regsBut.lookup (by decide) (by decide)]
  rfl

theorem State.checkFailed_inPair (s : State) : s.checkFailed.inPair = s.inPair :=
  State.inPair_congr (congrArg Pins.present (State.trb_pins _ 0x17 5)) (s.checkFailed_regsBut.lookup (by decide) (by decide))

/-- Settles O19: a digest that arrives is noted and then compared, and a mismatch keeps what was noted; a failed self-check is recorded
before an owner releases, which writes OWNER alone. -/
theorem digestsAndSelfChecksCompareThePair : Obligations.DigestsAndSelfChecksCompareThePair := by
  refine ⟨fun s => ⟨fun pair gen dec cnt kept => ?sent, fun d rx pair version => ?received, fun pair second unseen => ?missing,
    fun b powered good etherType subtype => ?frame⟩, fun s checking => ⟨?pass, ?fail⟩⟩
  case sent => exact ⟨_, exec_digestSend_kept pair kept, rfl, rfl, .of_regs rfl⟩
  case received =>
    have noted := (s.digestNoted_noted d rx).digestCompared (pairTimes s.pair.lastTx d.peerRx d.txTime rx)
    refine ⟨_, (exec_digestReceived s d rx).trans (congrArg _ (State.digestIn_eq pair version)), noted.lastRx, noted.missRun, noted.seen,
      noted.linkUp, fun gen dec cnt own differs => ?_⟩
    rw [← s.digestNoted_own d rx] at own
    rw [State.digestCompared_of_differs _ own differs]
    exact ⟨State.pairMismatch_mismatch _ _ _, State.pairMismatch_epoch _ _ _⟩
  case missing =>
    refine ⟨_, exec_digestMissing_unseen pair second unseen, ?_, fun limited reached => ?_,
      (s.digestMissed_regsBut.wr 0 (by decide)).ite s.digestMissed_regsBut⟩
    · split <;> exact s.digestMissed_missRun
    · rw [s.digestMissed_limit, s.digestMissed_missRun, if_pos ⟨limited, reached⟩]
      exact State.rd_wr_same _ _ 0
  case frame => exact exec_pairLinkFrame_digest powered good etherType subtype
  case pass =>
    obtain ⟨checked, passed⟩ := s.checkPassed_status
    exact ⟨_, exec_pairSelfcheckDone_pass checking, checked, passed, s.checkPassed_regsBut⟩
  case fail =>
    have failed : State.SelfCheckFailed (if s.checkFailed.owner then s.checkFailed.pairRelease else s.checkFailed) := by
      split
      · exact s.checkFailed_failed.pairRelease
      · exact s.checkFailed_failed
    refine ⟨_, exec_pairSelfcheckDone_fail checking, failed.checking, failed.selfFail, failed.unfit, fun owner pair => ?_⟩
    rw [if_pos (s.checkFailed_owner.trans owner)]
    obtain ⟨belayOut, sharedOut, released⟩ := State.pairRelease_belay (s.checkFailed_inPair.trans pair)
    exact ⟨released, belayOut, sharedOut⟩

end Sys2Proof.Machine
end

section
/-! SUPPORT. PORT_STAT, the seating pin and the SerDes references (R115 to R117, R415, R455): which later updates of a receive-side
change leave PORT_STAT as it was written, and which operations leave SEATED_L and its qualification as they are. -/
namespace Sys2Proof.Machine

variable {s t : State} {p : Nat} {f g : Fld}

/-! ## PORT_STAT -/

/-- A field of PORT_STAT (R117). -/
abbrev Fld.InPortStat (f : Fld) : Prop := f.off = 0x114 ∧ f.stride = 64 ∧ f.lo < 64

theorem State.pf_wpf_b01 (one : f.width = 1) (s : State) (p : Nat) (b : Bool) : (s.wpf f p (b01 b)).pf f p = b01 b := by
  rw [State.pf, State.wpf, State.rdp_wrp_same, one]
  cases b <;> rfl

/-- A write of one field of PORT_STAT leaves those at other bits as they are. -/
theorem State.pf_wpf_ne (apart : f.lo % 64 ≠ g.lo % 64) (s : State) (p v : Nat) : (s.wpf f p v).pf g p = s.pf g p :=
  State.rdp_wrp_ne (fkey_ne_lo apart)

/-- Trouble counters lie in the page header, below every PORT_STAT. -/
theorem State.pf_trb (stat : f.InPortStat) (port : p < 128) {k : Nat} (counter : k < 16) (s : State) (q : Nat) :
    (s.trb q k).pf f p = s.pf f p := by
  obtain ⟨off, stride, lo⟩ := stat
  have above : 0x114 ≤ f.off + f.stride * (p % 16) ∧ f.off + f.stride * (p % 16) < 4096 := by
    rw [off, stride]
    omega
  have page : portPage p ≠ 9 ∧ portPage p ≠ 12 := by
    unfold portPage
    omega
  exact State.trb_rdp s q k _ f _ (isTele_high lo (by omega) above.2 page.1 page.2) (trbKey_ne counter lo (by omega) above.2)

/-- The SerDes pages follow those of the ports (R99). -/
theorem State.pf_wrp_lane (stat : f.InPortStat) (port : p < 128) (lo : g.lo < 64) (last : g.off + g.stride * 31 < 4096)
    (s : State) (l v : Nat) : (s.wrp (0x48 + l / 32) g (l % 32) v).pf f p = s.pf f p := by
  obtain ⟨off, stride, flo⟩ := stat
  have within : g.stride * (l % 32) ≤ g.stride * 31 := Nat.mul_le_mul_left _ (by omega)
  refine State.rdp_wrp_ne (fkey_ne_page lo flo (by omega) ?_ ?_)
  · rw [off, stride]
    omega
  · unfold portPage
    omega

/-! ## A change of the receive side -/

/-- The receive side of a port carries traffic (R117, R455). -/
def State.receives (s : State) (p : Nat) (aligned fecLock localFault : Bool) : Bool :=
  aligned && (fecLock || s.pf Reg.PORT_CFG_FEC p == 0) && !localFault && s.refOk p

/-- PORT_STAT takes the state of the receive side (R117). -/
def State.receiveNoted (s : State) (p : Nat) (aligned fecLock localFault remoteFault : Bool) : State :=
  ((((s.wpf Reg.PORT_STAT_ALIGNED p (b01 aligned)).wpf Reg.PORT_STAT_FEC_LOCK p (b01 fecLock)).wpf Reg.PORT_STAT_LOCAL_FAULT p
    (b01 localFault)).wpf Reg.PORT_STAT_REMOTE_FAULT p (b01 remoteFault)).wpf Reg.PORT_STAT_LINK_UP p
    (b01 (s.receives p aligned fecLock localFault))

/-- NSD_RX of a lane shows a signal, a locked clock recovery and a finished adaptation, or none of them (R119). -/
def laneNoted (aligned : Bool) (s : State) (l : Nat) : State :=
  ((s.wrp (0x48 + l / 32) Reg.NSD_RX_SIG_DET (l % 32) (b01 aligned)).wrp (0x48 + l / 32) Reg.NSD_RX_CDR_LOCK (l % 32)
    (b01 aligned)).wrp (0x48 + l / 32) Reg.NSD_RX_ADAPT_DONE (l % 32) (b01 aligned)

theorem State.linkChange_eq (s : State) (p : Nat) (al fl lf rf : Bool) :
    s.linkChange p al fl lf rf = ((List.range (s.pf Reg.PORT_CFG_WIDTH p)).map (fun k => p + k)).foldl (laneNoted al)
      (if s.pf Reg.PORT_STAT_LINK_UP p = 1 ∧ ¬ s.receives p al fl lf then (s.receiveNoted p al fl lf rf).ptrb p 6
        else s.receiveNoted p al fl lf rf) := rfl

theorem pf_laneNoted (stat : f.InPortStat) (port : p < 128) (aligned : Bool) (s : State) (l : Nat) :
    (laneNoted aligned s l).pf f p = s.pf f p := by
  rw [laneNoted, State.pf_wrp_lane stat port (by decide) (by decide), State.pf_wrp_lane stat port (by decide) (by decide),
    State.pf_wrp_lane stat port (by decide) (by decide)]

theorem pf_foldl_laneNoted (stat : f.InPortStat) (port : p < 128) (aligned : Bool) (lanes : List Nat) (s : State) :
    (lanes.foldl (laneNoted aligned) s).pf f p = s.pf f p := by
  induction lanes generalizing s with
  | nil => rfl
  | cons l lanes ih => exact (ih _).trans (pf_laneNoted stat port aligned s l)

theorem State.pf_linkChange (stat : f.InPortStat) (port : p < 128) (s : State) (al fl lf rf : Bool) :
    (s.linkChange p al fl lf rf).pf f p = (s.receiveNoted p al fl lf rf).pf f p := by
  rw [State.linkChange_eq, pf_foldl_laneNoted stat port]
  split
  · exact State.pf_trb stat port (by decide) _ _
  · rfl

/-- Squelching an output is counted, and no more (R64). -/
theorem State.pf_syeAfter (stat : f.InPortStat) (port : p < 128) (s before : State) : (s.syeAfter before).pf f p = s.pf f p := by
  have counted (c : Prop) [Decidable c] (u : State) : (if c then u.trb 0x15 3 else u).pf f p = u.pf f p := by
    split
    · exact State.pf_trb stat port (by decide) u 0x15
    · rfl
  exact (counted _ _).trans (counted _ _)

/-- PORT_STAT of a port as these five levels (R117). -/
structure State.PortStat (p : Nat) (linkUp aligned fecLock localFault remoteFault : Bool) (s : State) : Prop where
  linkUp : s.pf Reg.PORT_STAT_LINK_UP p = b01 linkUp
  aligned : s.pf Reg.PORT_STAT_ALIGNED p = b01 aligned
  fecLock : s.pf Reg.PORT_STAT_FEC_LOCK p = b01 fecLock
  localFault : s.pf Reg.PORT_STAT_LOCAL_FAULT p = b01 localFault
  remoteFault : s.pf Reg.PORT_STAT_REMOTE_FAULT p = b01 remoteFault

theorem State.PortStat.congr {up al fl lf rf : Bool} (stat : s.PortStat p up al fl lf rf)
    (same : ∀ f : Fld, f.InPortStat → t.pf f p = s.pf f p) : t.PortStat p up al fl lf rf where
  linkUp := (same _ (by decide)).trans stat.linkUp
  aligned := (same _ (by decide)).trans stat.aligned
  fecLock := (same _ (by decide)).trans stat.fecLock
  localFault := (same _ (by decide)).trans stat.localFault
  remoteFault := (same _ (by decide)).trans stat.remoteFault

theorem State.receiveNoted_portStat (s : State) (p : Nat) (al fl lf rf : Bool) :
    (s.receiveNoted p al fl lf rf).PortStat p (s.receives p al fl lf) al fl lf rf := by
  constructor <;> simp (disch := decide) only [State.receiveNoted, State.pf_wpf_ne, State.pf_wpf_b01]

theorem exec_linkStateChange_runs (runs : s.portRuns p = true) (al fl lf rf : Bool) :
    exec (.linkStateChange p al fl lf rf) s = .next ((s.linkChange p al fl lf rf).syeAfter s) :=
  congrArg Host.Outcome.next (if_pos runs)

theorem State.linkChange_syeAfter_portStat (port : p < 128) (s : State) (al fl lf rf : Bool) :
    ((s.linkChange p al fl lf rf).syeAfter s).PortStat p (s.receives p al fl lf) al fl lf rf :=
  (s.receiveNoted_portStat p al fl lf rf).congr fun _ stat =>
    (State.pf_syeAfter stat port _ s).trans (State.pf_linkChange stat port s al fl lf rf)

/-! ## The seating pin -/

/-- SEATED_L asserted, and qualified by 100 ms without a break, as these two levels (R116). -/
structure State.Seating (seated qualified : Bool) (s : State) : Prop where
  seated : s.pins.seated = seated
  qualified : s.pins.seatedQualified = qualified

variable {seated qualified : Bool}

theorem State.Seating.of_pins (seating : s.Seating seated qualified) (same : t.pins = s.pins) : t.Seating seated qualified where
  seated := (congrArg Pins.seated same).trans seating.seated
  qualified := (congrArg Pins.seatedQualified same).trans seating.qualified

theorem State.Seating.asserting (seating : s.Seating seated qualified) (asserted : Bool) :
    (s.asserting asserted).Seating seated qualified := ⟨seating.seated, seating.qualified⟩

theorem State.Seating.driving (seating : s.Seating seated qualified) (driven : Bool) :
    (s.driving driven).Seating seated qualified := ⟨seating.seated, seating.qualified⟩

theorem State.Seating.owning (seating : s.Seating seated qualified) (owns : Bool) : (s.owning owns).Seating seated qualified := by
  obtain ⟨gpio, pins⟩ := s.owning_pins owns
  refine ⟨?_, ?_⟩
  · rw [pins]; exact seating.seated
  · rw [pins]; exact seating.qualified

theorem State.Seating.stopOwning (seating : s.Seating seated qualified) : s.stopOwning.Seating seated qualified :=
  (seating.driving false).owning false

/-- Once BELAY_OUT is deasserted, settling ends ownership, in a pair or outside one. -/
theorem State.Seating.pairRelease (seating : s.Seating seated qualified) : s.pairRelease.Seating seated qualified := by
  have silent : (s.stopOwning.asserting false).Seating seated qualified := seating.stopOwning.asserting false
  rw [State.pairRelease_eq]
  cases pair : (s.stopOwning.asserting false).inPair
  case true =>
    rw [State.pairSettle_of_silent pair rfl]
    exact silent.stopOwning
  case false =>
    rw [State.pairSettle_of_alone pair]
    split
    · exact ((silent.asserting false).driving true).owning false
    · exact (silent.asserting false).driving true

theorem State.Seating.belayRelease (seating : s.Seating seated qualified) : s.belayRelease.Seating seated qualified := by
  unfold State.belayRelease
  split
  · exact seating.pairRelease
  · exact seating

theorem State.Seating.linksSettle (seating : s.Seating seated qualified) : s.linksSettle.Seating seated qualified :=
  seating.of_pins (State.of_but_pins (s.linksSettle_but (u := 65537) (by decide)) (by decide))

/-- A wake can leave STANDBY, which drives the shared outputs and no other pin (R378). -/
theorem State.Seating.setPend (seating : s.Seating seated qualified) (src : Nat) : (s.setPend src).Seating seated qualified := by
  have woken : (s.wake src).Seating seated qualified := by
    unfold State.wake
    split
    · split
      · exact ⟨seating.seated, seating.qualified⟩
      · exact seating
    · exact seating
  unfold State.setPend
  split
  · exact woken
  · split
    · exact seating.of_pins rfl
    · exact seating

/-! ## Entering STANDBY -/

/-- What STANDBY loses is lost: the belay, the registers outside AON, and the structures (R407, R415, R425, R429). -/
def State.standbyCleared (s : State) : State :=
  ((allPages.filter (fun q => q != 3)).foldl (fun t q => t.clearRegs false [.s, .v, .w] q) s.belayRelease).standbyLoss

/-- The mode, its cause and the count of entries of a device that enters STANDBY (R407, R415). -/
def State.standbyNoted (s : State) (cause : Nat) : State :=
  ((s.wr Reg.TOP_STAT_MODE 0).wr Reg.TOP_STAT_CAUSE cause).satp 0x03 Reg.AON_STBY_COUNT 0

theorem State.enterStandby_of_on (on : s.mode ≠ 0) (cause : Nat) :
    ∃ pwr, s.enterStandby cause = { s.standbyCleared.standbyNoted cause with pwr := pwr } :=
  ⟨_, if_neg on⟩

/-- The belay is released without a change of the seating, the register clear reaches no pin, and what is lost beside is the drive of the
shared outputs. -/
theorem State.Seating.standbyCleared (seating : s.Seating seated qualified) : s.standbyCleared.Seating seated qualified := by
  have cleared : ((allPages.filter (fun q => q != 3)).foldl (fun t q => t.clearRegs false [.s, .v, .w] q) s.belayRelease).pins =
      s.belayRelease.pins := State.of_but_pins (u := 1) (by simp) (by decide)
  obtain ⟨seated, qualified⟩ := seating.belayRelease.of_pins cleared
  exact ⟨seated, qualified⟩

theorem State.enterStandby_regs (on : s.mode ≠ 0) (cause : Nat) :
    (s.enterStandby cause).regs = (s.standbyCleared.standbyNoted cause).regs := by
  obtain ⟨pwr, entered⟩ := State.enterStandby_of_on on cause
  rw [entered]

theorem State.enterStandby_pins (on : s.mode ≠ 0) (cause : Nat) : (s.enterStandby cause).pins = s.standbyCleared.pins := by
  obtain ⟨pwr, entered⟩ := State.enterStandby_of_on on cause
  rw [entered]
  rfl

theorem State.Seating.enterStandby (seating : s.Seating seated qualified) (on : s.mode ≠ 0) (cause : Nat) :
    (s.enterStandby cause).Seating seated qualified :=
  seating.standbyCleared.of_pins (State.enterStandby_pins on cause)

theorem State.enterStandby_mode (on : s.mode ≠ 0) (cause : Nat) : (s.enterStandby cause).rd Reg.TOP_STAT_MODE = 0 := by
  rw [State.rd_of_regs (State.enterStandby_regs on cause), State.standbyNoted, State.satp, State.rd_wrp_ne (by decide),
    State.rd_wr_ne (by decide), State.rd_wr_same]
  rfl

theorem State.enterStandby_cause (on : s.mode ≠ 0) {cause : Nat} (code : cause < 8) :
    (s.enterStandby cause).rd Reg.TOP_STAT_CAUSE = cause := by
  rw [State.rd_of_regs (State.enterStandby_regs on cause), State.standbyNoted, State.satp, State.rd_wrp_ne (by decide), State.rd_wr_same]
  exact Nat.mod_eq_of_lt code

/-! ## SEATED_L -/

/-- The state once SEATED_L is deasserted. -/
def State.unseated (s : State) : State := { s with pins := { s.pins with seated := false, seatedQualified := false } }

/-- The state once SEATED_L is asserted, before the count of 100 ms ends. -/
def State.justSeated (s : State) : State := { s with pins := { s.pins with seated := true, seatedQualified := false } }

/-- The state once SEATED_L has been asserted for 100 ms. -/
def State.qualifying (s : State) : State := { s with pins := { s.pins with seatedQualified := true } }

theorem exec_seatedAsserted (s : State) : exec .seatedAsserted s = .next (s.justSeated.setPend 8).linksSettle := rfl

theorem exec_seatedQualified_of_seated (asserted : s.pins.seated = true) : exec .seatedQualified s = .next s.qualifying.linksSettle :=
  congrArg Host.Outcome.next (if_pos asserted)

theorem exec_seatedDeasserted (s : State) : exec .seatedDeasserted s = .next (s.unseated.enterStandby 4).linksSettle := rfl

/-! ## The SerDes references -/

theorem getLsbD_ofNat_setBit {w k : Nat} (bit : k < w) (x : Nat) (b : Bool) : (BitVec.ofNat w (setBit x k b)).getLsbD k = b := by
  have same : bitN (setBit x k b % 2 ^ w) k = b01 b := bitN_setBit_same x k w b bit
  rw [bitN] at same
  rw [BitVec.getLsbD, BitVec.toNat_ofNat, Nat.testBit_eq_decide_div_mod_eq, same]
  cases b <;> rfl

/-- The state once reference clock k is seen present or gone (R455). -/
def State.sdrefSeen (s : State) (k : Nat) (ok : Bool) : State :=
  { s with pins := { s.pins with sdref := BitVec.ofNat 8 (setBit s.pins.sdref.toNat k ok) } }

theorem State.sdrefSeen_sdref {k : Nat} (reference : k < 8) (s : State) (ok : Bool) :
    (s.sdrefSeen k ok).pins.sdref.getLsbD k = ok := getLsbD_ofNat_setBit reference _ ok

theorem exec_sdrefOkChange_of_reference {k : Nat} (reference : k < 8) (s : State) (ok : Bool) :
    exec (.sdrefOkChange k ok) s = .next (if ok then s.sdrefSeen k ok else if 4 ≤ k then (s.sdrefSeen k ok).fabRefLost (k - 4)
      else ((s.sdrefSeen k ok).refLost k).syeAfter s) := congrArg Host.Outcome.next (if_pos reference)

/-- The links that lose a reference go down, which moves no pin. -/
theorem exec_sdrefOkChange_pins {k : Nat} (reference : k < 8) (s : State) (ok : Bool) :
    ∃ t, exec (.sdrefOkChange k ok) s = .next t ∧ t.pins = (s.sdrefSeen k ok).pins := by
  refine ⟨_, exec_sdrefOkChange_of_reference reference s ok, ?_⟩
  split
  · rfl
  · split
    · exact State.of_but_pins (State.fabRefLost_but (u := 2164326401) (by decide) _ _) (by decide)
    · exact (State.of_but_pins (State.syeAfter_but (u := 2164260865) (by decide) _ s) (by decide)).trans
        (State.of_but_pins (State.refLost_but (u := 2164260865) (by decide) _ k) (by decide))

/-- Settles O21: what a change of the receive side writes after PORT_STAT are SerDes fields and trouble counters; entering STANDBY writes
the mode and its cause after the clear and leaves the seating pin as it is; no lost link moves the reference pins. -/
theorem linkUpFollowsTheReceiveSide : Obligations.LinkUpFollowsTheReceiveSide := by
  refine ⟨fun s p al fl lf rf port runs => ?linkState, fun s => ⟨?asserted, fun asserted => ?qualified, fun on => ?deasserted,
    fun k ok reference => ?reference⟩⟩
  case linkState =>
    obtain ⟨linkUp, aligned, fecLock, localFault, remoteFault⟩ := s.linkChange_syeAfter_portStat port al fl lf rf
    exact ⟨_, exec_linkStateChange_runs runs al fl lf rf, linkUp, aligned, fecLock, localFault, remoteFault⟩
  case asserted =>
    have seating : s.justSeated.Seating true false := ⟨rfl, rfl⟩
    obtain ⟨seated, unqualified⟩ := (seating.setPend 8).linksSettle
    exact ⟨_, exec_seatedAsserted s, seated, unqualified⟩
  case qualified =>
    have seating : s.qualifying.Seating true true := ⟨asserted, rfl⟩
    obtain ⟨seated, qualified⟩ := seating.linksSettle
    exact ⟨_, exec_seatedQualified_of_seated asserted, seated, qualified⟩
  case deasserted =>
    have unseated : s.unseated.Seating false false := ⟨rfl, rfl⟩
    have running : s.unseated.mode ≠ 0 := on
    obtain ⟨seated, qualified⟩ := (unseated.enterStandby running 4).linksSettle
    have mode : (s.unseated.enterStandby 4).linksSettle.rd Reg.TOP_STAT_MODE = 0 :=
      (linksSettle_rd _ _ (by decide)).trans (State.enterStandby_mode running 4)
    have cause : (s.unseated.enterStandby 4).linksSettle.rd Reg.TOP_STAT_CAUSE = 4 :=
      (linksSettle_rd _ _ (by decide)).trans (State.enterStandby_cause running (by decide))
    exact ⟨_, exec_seatedDeasserted s, seated, qualified, mode, cause⟩
  case reference =>
    obtain ⟨t, changed, pins⟩ := exec_sdrefOkChange_pins reference s ok
    refine ⟨t, changed, ?_⟩
    rw [pins]
    exact s.sdrefSeen_sdref reference ok

end Sys2Proof.Machine
end

section
/-! SUPPORT. The end of a fragment entry and the flush of its table (R138, R140), and a record of the flow counters (R251): what
each leaves in the table, the queue and the counters. -/
namespace Sys2Proof.Machine

variable {s : State}

/-! ## The fragment table -/

/-- An entry ends when its last epoch is past (R138). -/
theorem State.fragLive_eq_false_iff {e : FragEnt} : s.fragLive e = false ↔ e.epoch + s.fragLife < s.epoch := by
  rw [State.fragLive, decide_eq_false_iff_not, Nat.not_le]

/-- The state once the entry of a slot is gone if its lifetime is over (R138). -/
def State.fragExpired (s : State) (bucket slot : Nat) : State :=
  { s with path := { s.path with frag := s.path.frag.filter (fun e => !(e.bucket == bucket && e.slot == slot && !s.fragLive e)) } }

theorem exec_fragEntryExpire (s : State) (bucket slot : Nat) :
    exec (.fragEntryExpire bucket slot) s = .next (s.fragExpired bucket slot) := rfl

theorem State.mem_frag_fragExpired {bucket slot : Nat} {e : FragEnt} :
    e ∈ (s.fragExpired bucket slot).path.frag ↔
      e ∈ s.path.frag ∧ ¬ (e.bucket = bucket ∧ e.slot = slot ∧ e.epoch + s.fragLife < s.epoch) := by
  rw [State.fragExpired, List.mem_filter]
  refine and_congr_right fun _ => ?_
  rw [Bool.not_eq_true', ← Bool.not_eq_true, Bool.and_eq_true, Bool.and_eq_true, beq_iff_eq, beq_iff_eq, and_assoc, Bool.not_eq_true',
    State.fragLive_eq_false_iff]

/-- The state with an empty fragment table (R140). -/
def State.fragFlushed (s : State) : State := { s with path := { s.path with frag := [] } }

theorem State.CountsTo.fragFlushed {t : State} (counted : s.CountsTo t) : s.fragFlushed.CountsTo t.fragFlushed := by
  rw [State.fragFlushed, State.fragFlushed, counted.path]
  exact counted.set_path _

theorem exec_fragFlush_ok {m : Master} (reach : s.access m 0x31 0x120 4 true = .ok) :
    ∃ u, s.CountsTo u ∧ exec (.fragFlush m) s = .next u.fragFlushed := by
  obtain ⟨u, counted, effect⟩ := State.onWrite_ok reach State.fragFlushed
  exact ⟨u, counted, congrArg Host.Outcome.next effect⟩

/-! ## Flow counters -/

/-- The state without the record at the head of the flow counters' queue (R251). -/
def State.mcrPop (s : State) (rest : List (Nat × Nat)) : State := { s with path := { s.path with mcrq := rest } }

/-- The state once a record has left the queue, the records are counted and its counter `c` is accessed in HBM (R251, R255). -/
def State.mcrTaken (s : State) (c : Nat) (rest : List (Nat × Nat)) : State :=
  ((s.mcrPop rest).stat 0x58 Reg.MCR_RECORDS 0 1).drqAccess 4 (0x0030000000 + 16 * c) 16 true

/-- The statistic and the HBM access change registers, HBM controllers, PMU values and outputs alone. -/
theorem State.mcrTaken_but (s : State) (c : Nat) (rest : List (Nat × Nat)) :
    (s.mcrTaken c rest).but 2164391937 = (s.mcrPop rest).but 2164391937 :=
  (State.drqAccess_but (by decide) _ _ _ _ _).trans (State.stat_but (by decide) _ _ _ _ _)

theorem State.mcrTaken_mcrq (s : State) (c : Nat) (rest : List (Nat × Nat)) : (s.mcrTaken c rest).path.mcrq = rest :=
  congrArg PathSt.mcrq (State.of_but_path (s.mcrTaken_but c rest) (by decide))

theorem State.mcrTaken_tab (s : State) (c : Nat) (rest : List (Nat × Nat)) : (s.mcrTaken c rest).tab = s.tab :=
  State.of_but_tab (s := s.mcrPop rest) (s.mcrTaken_but c rest) (by decide)

/-- One match of `n` bytes is added to counter `c` (R251). -/
def State.addMatch (s : State) (c n : Nat) : State :=
  { s with tab := { s.tab with
      ctr := s.tab.ctr.set (0, 0) c (((s.tab.ctr.get (0, 0) c).1 + 1) % 2 ^ 64, ((s.tab.ctr.get (0, 0) c).2 + n) % 2 ^ 64) } }

theorem State.addMatch_same (s : State) (c n : Nat) : (s.addMatch c n).tab.ctr.get (0, 0) c =
    (((s.tab.ctr.get (0, 0) c).1 + 1) % 2 ^ 64, ((s.tab.ctr.get (0, 0) c).2 + n) % 2 ^ 64) :=
  SMap.get_set_same _ _ _ c

theorem State.addMatch_ne {c k : Nat} (other : k ≠ c) (s : State) (n : Nat) :
    (s.addMatch c n).tab.ctr.get (0, 0) k = s.tab.ctr.get (0, 0) k :=
  SMap.get_set_ne other.symm

theorem exec_mcrRecordApply_of_readable {c n : Nat} {rest : List (Nat × Nat)} {f : MemFinding} (queue : s.path.mcrq = (c, n) :: rest)
    (readable : f ≠ .uncorrectable) : exec (.mcrRecordApply f) s = .next ((s.mcrTaken c rest).addMatch c n) := by
  refine congrArg Host.Outcome.next ?_
  unfold State.mcrApply
  rw [queue]
  cases f with
  | uncorrectable => exact absurd rfl readable
  | clean | corrected | onDie => rfl

/-- Settles O23: the table keeps the entries whose slot or whose lifetime is another, and a flush keeps none; a record's statistics and
HBM access leave the queue and the counters as they are, and its match is then added to its counter alone. -/
theorem fragmentEntriesEndAndMatchesCount : Obligations.FragmentEntriesEndAndMatchesCount := by
  refine ⟨fun s => ⟨fun bucket slot => ?expire, fun m reach => ?flush⟩, fun s c n rest f queue readable => ?record⟩
  case expire => exact ⟨_, exec_fragEntryExpire s bucket slot, rfl, fun e => State.mem_frag_fragExpired⟩
  case flush =>
    obtain ⟨u, counted, effect⟩ := exec_fragFlush_ok reach
    exact ⟨_, effect, counted.fragFlushed⟩
  case record =>
    refine ⟨_, exec_mcrRecordApply_of_readable queue readable, s.mcrTaken_mcrq c rest, ?counted, fun k other => ?others⟩
    case counted => rw [State.addMatch_same, State.mcrTaken_tab]
    case others => rw [State.addMatch_ne other, State.mcrTaken_tab]

end Sys2Proof.Machine
end

section
/-! SUPPORT. What keeps the exact-match tables, the profile and what was put out: counting, most register writes, HBM accesses (R322 to
R325) and the end of work on a descriptor (R194, R198). A search of the tables (R174 to R176) rests on the tables and the profile alone. -/
namespace Sys2Proof.Machine

variable {s t u : State}

/-- The exact-match tables and the profile stay as they are, and nothing that was put out is taken back. -/
structure State.ExmKept (s t : State) : Prop where
  exm : t.exm = s.exm
  profile : t.rd Reg.LPM_STAT_PROFILE = s.rd Reg.LPM_STAT_PROFILE
  out : s.outbox ⊆ t.outbox

theorem State.trouble_outbox (s : State) (p k : Nat) : (s.trouble p k).outbox = s.outbox := by
  unfold State.trouble State.trbSet
  split
  · split <;> rfl
  · rfl

namespace State.ExmKept

theorem refl (s : State) : s.ExmKept s := ⟨rfl, rfl, List.Subset.refl _⟩

theorem trans (h : s.ExmKept t) (g : t.ExmKept u) : s.ExmKept u :=
  ⟨g.exm.trans h.exm, g.profile.trans h.profile, List.Subset.trans h.out g.out⟩

/-- An update of other parts of the state. -/
theorem of_rest (h : s.ExmKept t) (exm : u.exm = t.exm) (regs : u.regs = t.regs) (out : u.outbox = t.outbox) : s.ExmKept u :=
  h.trans ⟨exm, State.rd_of_regs regs _, out ▸ List.Subset.refl _⟩

theorem counts (h : s.ExmKept t) (counted : t.CountsTo u) : s.ExmKept u :=
  h.trans ⟨counted.exm, counted.rd _ (by decide), counted.out.subset⟩

theorem emit (h : s.ExmKept t) (e : Emit) : s.ExmKept (t.emit e) :=
  h.trans ⟨rfl, rfl, List.subset_append_left _ _⟩

theorem wrp (h : s.ExmKept t) {p i : Nat} {f : Fld} (v : Nat)
    (other : fkey p f i ≠ fkey Reg.LPM_STAT_PROFILE.pg Reg.LPM_STAT_PROFILE 0) : s.ExmKept (t.wrp p f i v) :=
  h.trans ⟨rfl, State.rd_wrp_ne other, List.Subset.refl _⟩

theorem wr (h : s.ExmKept t) {f : Fld} (v : Nat)
    (other : fkey f.pg f 0 ≠ fkey Reg.LPM_STAT_PROFILE.pg Reg.LPM_STAT_PROFILE 0) : s.ExmKept (t.wr f v) :=
  h.wrp v other

theorem stat (h : s.ExmKept t) {p i : Nat} {f : Fld} (n : Nat)
    (other : fkey p f i ≠ fkey Reg.LPM_STAT_PROFILE.pg Reg.LPM_STAT_PROFILE 0) : s.ExmKept (t.stat p f i n) :=
  (h.wrp _ other).counts (State.stat_counts t p f i n)

theorem trb (h : s.ExmKept t) (p : Nat) {k : Nat} (counter : k < 16) : s.ExmKept (t.trb p k) :=
  h.trans ⟨t.trb_exm p k, t.trb_rd p k _ (by decide) (trbKey_ne counter (by decide) (by decide) (by decide)),
    t.trouble_outbox p k ▸ (State.trb_counts t p k).out.subset⟩

theorem ite {c : Prop} [Decidable c] (h : s.ExmKept t) (g : s.ExmKept u) : s.ExmKept (if c then t else u) := by
  split
  · exact h
  · exact g

/-! ## HBM accesses -/

theorem pmu' (h : s.ExmKept t) (p loc amt : Nat) (master cls addr : Option Nat) : s.ExmKept (t.pmu' p loc amt master cls addr) :=
  h.counts (State.pmuEvent_counts _ _ _)

theorem statEvent (h : s.ExmKept t) (p : Nat) (f : Fld) (i n : Nat) : s.ExmKept (t.statEvent p f i n) :=
  ite (h.pmu' _ _ _ _ _ _) h

theorem drqTake (h : s.ExmKept t) (r : HbmReq) : s.ExmKept (t.drqTake r) := by
  unfold State.drqTake
  refine ((ite (stat ?_ 1 (by decide)) ?_).statEvent _ _ _ _).pmu' _ _ _ _ _ _
  all_goals exact ite (h.of_rest rfl rfl rfl) (h.of_rest rfl rfl rfl)

theorem drqAdmit (h : s.ExmKept t) (waiting : List HbmReq) (blocked : List Nat) (kept : List HbmReq) :
    s.ExmKept (drqAdmit waiting t blocked kept).1 := by
  induction waiting generalizing t blocked kept with
  | nil => exact h
  | cons r waiting ih =>
    unfold Machine.drqAdmit
    split
    · exact ih h _ _
    · exact ih (h.drqTake r) _ _

theorem drqSettle (h : s.ExmKept t) : s.ExmKept t.drqSettle := by
  have emptied : s.ExmKept { t with hbm := { t.hbm with waiting := [] } } := h.of_rest rfl rfl rfl
  exact (emptied.drqAdmit t.hbm.waiting [] []).of_rest rfl rfl rfl

theorem drqAsk (h : s.ExmKept t) (port addr : Nat) (write part : Bool) : s.ExmKept (t.drqAsk port addr write part) := 
  ite (drqSettle (h.of_rest rfl rfl rfl)) h

theorem drqWords (h : s.ExmKept t) (n port lo hi w : Nat) (write : Bool) : s.ExmKept (drqWords n t port lo hi w write) := by
  induction n generalizing t w with
  | zero => exact h
  | succ n ih => exact ih (h.drqAsk _ _ _ _) _

theorem drqAccess (h : s.ExmKept t) (port addr len : Nat) (write : Bool) : s.ExmKept (t.drqAccess port addr len write) :=
  ite h (h.drqWords _ _ _ _ _ _)

/-! ## A descriptor -/

theorem tdmMoved (h : s.ExmKept t) (n : Nat) : s.ExmKept (t.tdmMoved n) := h.stat n (by decide)

theorem tdmKeep (h : s.ExmKept t) (d : Desc) : s.ExmKept (t.tdmKeep d) := h.of_rest rfl rfl rfl

theorem applyNext (h : s.ExmKept t) : s.ExmKept t.applyNext := ite (h.of_rest rfl rfl rfl) h

theorem tdmComplete (h : s.ExmKept t) (d : Desc) (status art detail : Nat) : s.ExmKept (t.tdmComplete d status art detail) := by
  unfold State.tdmComplete
  refine applyNext (of_rest (wr (emit (ite (trb ?noted _ (by decide)) (ite (trb ?noted _ (by decide)) ?noted)) _) _ (by decide)) rfl rfl rfl)
  case noted =>
    have counted := h.trb 0x39 (k := 3) (by decide)
    exact ite h ((((counted.wrp _ (by decide)).wr _ (by decide)).wr _ (by decide)).wr _ (by decide))

/-! ## Searches -/

variable (h : s.ExmKept t)
include h

theorem entryAt (p : Place) : t.entryAt p = s.entryAt p := by
  unfold State.entryAt State.bucket
  rw [h.exm]

theorem exmBuckets : t.exmBuckets = s.exmBuckets := by
  unfold State.exmBuckets
  rw [h.profile]

theorem hash0 (k : Nat) : t.hash0 k = s.hash0 k := by
  rw [State.hash0, State.hash0, h.exm, h.exmBuckets]

theorem hash1 (k : Nat) : t.hash1 k = s.hash1 k := by
  rw [State.hash1, State.hash1, h.exm, h.exmBuckets]

theorem findKey (bad : List BadCell) (k : Nat) : t.findKey bad k = s.findKey bad k := by
  simp only [State.findKey, State.places, h.hash0, h.hash1, h.entryAt]

theorem freeIn (bad : List BadCell) (table bucket : Nat) : t.freeIn bad table bucket = s.freeIn bad table bucket := by
  have free : t.slotFree bad = s.slotFree bad := funext fun p => by rw [State.slotFree, State.slotFree, h.entryAt]
  rw [State.freeIn, State.freeIn, free]

end State.ExmKept

/-- The HBM reads of a search (R165). -/
theorem State.exmReads_exmKept (s : State) (port k : Nat) : s.ExmKept (s.exmReads port k) :=
  .ite (.refl s) (((State.ExmKept.refl s).drqAccess _ _ _ _).drqAccess _ _ _ _)

end Sys2Proof.Machine
end

section
/-! SUPPORT. The insert engine (R174 to R176): what stands at a place after a write there, where a search finds a place, and the answer
that a slot gets (R196). -/
namespace Sys2Proof.Machine

variable {s : State} {d : Desc} {bad : List BadCell} {p : Place} {b : Bytes}

/-! ## Places -/

/-- A place of a table is one of the four slots of its bucket (R173). -/
def Place.InBucket (p : Place) : Prop := p.tbl < 2 → p.i < 4

theorem inBucket_of_findKey {k : Nat} (found : s.findKey bad k = some p) : p.InBucket := by
  have place : p ∈ s.places k := List.mem_of_find?_eq_some found
  simp only [State.places, List.mem_append, List.mem_map, List.mem_range] at place
  rcases place with (⟨i, slot, rfl⟩ | ⟨i, slot, rfl⟩) | ⟨i, _, rfl⟩
  · exact fun _ => slot
  · exact fun _ => slot
  · exact fun table => absurd table (Nat.lt_irrefl 2)

theorem inBucket_of_freeIn {table bucket : Nat} (free : s.freeIn bad table bucket = some p) : p.InBucket := by
  obtain ⟨i, slot, rfl⟩ := List.mem_map.mp (List.mem_of_find?_eq_some free)
  have four : i < 4 := List.mem_range.mp slot
  exact fun _ => four

theorem getD_map_slots (f : Nat → Nat) {i : Nat} (slot : i < 4) : ([0, 1, 2, 3].map f).getD i 0 = f i := by
  have slots : i = 0 ∨ i = 1 ∨ i = 2 ∨ i = 3 := by omega
  rcases slots with rfl | rfl | rfl | rfl <;> rfl

theorem State.setSlot_bucket (s : State) (t b i e : Nat) :
    (s.setSlot t b i e).bucket t b = [0, 1, 2, 3].map (fun j => if j = i then e else (s.bucket t b).getD j 0) := by
  by_cases first : t = 0
  · simp only [State.setSlot, State.bucket, if_pos first, SMap.get_set_same]
  · simp only [State.setSlot, State.bucket, if_neg first, SMap.get_set_same]

theorem State.setEntry_entryAt (slot : p.InBucket) (s : State) (e : Nat) : (s.setEntry p e).entryAt p = e := by
  by_cases table : p.tbl < 2
  · rw [State.setEntry, if_pos table, State.entryAt, if_pos table, State.setSlot_bucket, getD_map_slots _ (slot table), if_pos rfl]
  · rw [State.setEntry, if_neg table, State.entryAt, if_neg table]
    exact SMap.get_set_same _ _ _ _

theorem State.setSlot_stash (s : State) (t b i e : Nat) : (s.setSlot t b i e).exm.stash = s.exm.stash := by
  unfold State.setSlot
  split <;> rfl

/-- A removal leaves an empty stash empty. -/
theorem State.setEntry_zero_stash (empty : s.exm.stash = []) (p : Place) : (s.setEntry p 0).exm.stash = [] := by
  unfold State.setEntry
  split
  · rw [State.setSlot_stash, empty]
  · show s.exm.stash.set 0 p.i 0 = []
    rw [empty]
    rfl

/-- A line write of the engine writes its entry, and then counts and reaches HBM (R176, R199). -/
theorem State.enginePut_exmKept (s : State) (p : Place) (e : Nat) : (s.setEntry p e).ExmKept (s.enginePut p e) :=
  have written := (State.ExmKept.refl (s.setEntry p e)).pmu' 0x39 0x80 1 (some 5) none none
  .ite (written.drqAccess _ _ _ _) written

/-! ## An empty stash -/

theorem State.stashFind_of_empty (empty : s.exm.stash = []) (bad : List BadCell) : s.stashFind bad true = none := by
  refine List.find?_eq_none.mpr fun p place => ?_
  obtain ⟨i, _, rfl⟩ := List.mem_map.mp place
  have zero : s.entryAt { tbl := 2, b := 0, i := i } = 0 := by
    rw [State.entryAt, if_neg (Nat.lt_irrefl 2), empty]
    rfl
  rw [zero]
  simp

theorem State.retryStash_of_empty (empty : s.exm.stash = []) (bad : List BadCell) : s.retryStash bad = s := by
  rw [State.retryStash, State.stashFind_of_empty empty]

/-! ## A slot and its answer -/

/-- The engine takes a slot of this TYPE (R173). -/
def SlotTyped (e : Nat) : Prop := bits e 127 124 = 1 ∨ bits e 127 124 = 2

theorem SlotTyped.not_bad {e : Nat} (typed : SlotTyped e) : ¬ (bits e 127 124 ≠ 1 ∧ bits e 127 124 ≠ 2) :=
  fun ⟨other, other'⟩ => typed.elim other other'

/-- The state once an entry is written and a statistics counter has counted it. -/
def State.putCounted (s : State) (p : Place) (e : Nat) (f : Fld) : State := (s.enginePut p e).stat 0x34 f 0 1

theorem State.putCounted_exmKept (s : State) (p : Place) (e : Nat) {f : Fld}
    (other : fkey 0x34 f 0 ≠ fkey Reg.LPM_STAT_PROFILE.pg Reg.LPM_STAT_PROFILE 0) :
    (s.setEntry p e).ExmKept (s.putCounted p e f) :=
  (s.enginePut_exmKept p e).stat 1 other

/-- A slot whose key stands in the tables replaces the entry (R176). -/
theorem State.insertSlot_of_found {e : Nat} (typed : SlotTyped e) (found : s.findKey bad (slotKey e) = some p) :
    s.insertSlot bad e = ((s.exmReads 7 (slotKey e)).putCounted p e Reg.EXM_INSERTS, 2) := by
  have reads := s.exmReads_exmKept 7 (slotKey e)
  unfold State.insertSlot
  dsimp only
  rw [if_neg typed.not_bad, reads.findKey, found]
  rfl

/-- A new key takes a free slot of its bucket in table 0 (R176). -/
theorem State.insertSlot_of_free {e : Nat} (typed : SlotTyped e) (absent : s.findKey bad (slotKey e) = none)
    (free : s.freeIn bad 0 (s.hash0 (slotKey e)) = some p) :
    s.insertSlot bad e = ((s.exmReads 7 (slotKey e)).putCounted p e Reg.EXM_INSERTS, 1) := by
  have reads := s.exmReads_exmKept 7 (slotKey e)
  unfold State.insertSlot State.placeEntry
  dsimp only
  rw [if_neg typed.not_bad, reads.findKey, absent, reads.hash0, reads.freeIn, free]
  rfl

/-- A removal empties the entry; an empty stash has no entry to try again (R176). -/
theorem State.removeSlot_of_found {e : Nat} (typed : SlotTyped e) (found : s.findKey bad (slotKey e) = some p)
    (empty : s.exm.stash = []) : s.removeSlot bad e = ((s.exmReads 7 (slotKey e)).putCounted p 0 Reg.EXM_REMOVES, 5) := by
  have reads := s.exmReads_exmKept 7 (slotKey e)
  have removed := (s.exmReads 7 (slotKey e)).putCounted_exmKept p 0 (f := Reg.EXM_REMOVES) (by decide)
  have stash : ((s.exmReads 7 (slotKey e)).putCounted p 0 Reg.EXM_REMOVES).exm.stash = [] := by
    rw [removed.exm]
    exact State.setEntry_zero_stash (reads.exm ▸ empty) p
  unfold State.removeSlot
  dsimp only
  rw [if_neg typed.not_bad, reads.findKey, found]
  exact congrArg (·, 5) (State.retryStash_of_empty stash bad)

/-! ## A slot of a descriptor -/

/-- The work that a command does on a descriptor that no earlier check stops (R198). -/
theorem State.tdmWith_of_works {op : Nat} (works : s.tdmWorks op d) (f : State → Desc → State) : s.tdmWith op f = f s d := by
  obtain ⟨current, isOp, known, running, runs, dma, inRange, long⟩ := works
  have free : ¬ (d.op ≠ op ∨ badOp d ∨ s.tdm.abandoned ∨ ¬ s.runs 0x39 ∨ ¬ s.dmaOk) := by
    simp [isOp, known, running, runs, dma]
  have fits : ¬ (d.pos = 0 ∧ s.badRange d) := fun ⟨start, bad⟩ => absurd bad (ne_true_of_eq_false (inRange start))
  rw [State.tdmWith, current]
  exact (if_neg free).trans ((if_neg fits).trans (if_neg long))

theorem State.op_of_works {op : Nat} (works : s.tdmWorks op d) : d.op = op := by
  obtain ⟨_, isOp, _⟩ := works
  exact isOp

theorem hostBytes_of_length {n : Nat} (length : b.length = n) : hostBytes (.ok b) n = some b := by
  subst length
  simp [hostBytes]

/-- The entry that a slot in host memory holds (R196). -/
def slotEntry (b : Bytes) : Nat := le b / 2 ^ 34 * 2 ^ 34

/-- What the insert engine makes of a slot: the state, and its answer (R196). -/
def State.slotOutcome (s : State) (bad : List BadCell) (d : Desc) (b : Bytes) : State × Nat :=
  if d.op = 4 then s.insertSlot bad (slotEntry b) else s.removeSlot bad (slotEntry b)

theorem State.slotOutcome_insert (works : s.tdmWorks 4 d) : s.slotOutcome bad d b = s.insertSlot bad (slotEntry b) :=
  if_pos (State.op_of_works works)

theorem State.slotOutcome_remove (works : s.tdmWorks 5 d) : s.slotOutcome bad d b = s.removeSlot bad (slotEntry b) :=
  if_neg (by rw [State.op_of_works works]; decide)

/-- The answer in a slot of host memory (R196). -/
def slotAnswer (d : Desc) (b : Bytes) (answer : Nat) : Emit := .hostWrite (d.addr + 16 * d.pos) (toLe 16 (le b / 16 * 16 + answer))

/-- After its answer a slot changes no table: the descriptor goes on, or completes. -/
theorem State.tdmSlotOp_exmKept (length : b.length = 16) (s : State) (bad : List BadCell) (d : Desc) :
    ((s.slotOutcome bad d b).1.emit (slotAnswer d b (s.slotOutcome bad d b).2)).ExmKept (s.tdmSlotOp (.ok b) bad d) := by
  have moved := (State.ExmKept.refl ((s.slotOutcome bad d b).1.emit (slotAnswer d b (s.slotOutcome bad d b).2))).tdmMoved 16
  rw [State.tdmSlotOp, hostBytes_of_length length]
  exact .ite (moved.tdmKeep _) (.ite (moved.tdmComplete _ _ _ _) (moved.tdmComplete _ _ _ _))

/-- A slot that writes an entry at a place leaves it there, and its answer in host memory. -/
theorem State.tdmSlotOp_put (length : b.length = 16) (slot : p.InBucket) {e answer : Nat} {u : State} {f : Fld}
    (other : fkey 0x34 f 0 ≠ fkey Reg.LPM_STAT_PROFILE.pg Reg.LPM_STAT_PROFILE 0)
    (outcome : s.slotOutcome bad d b = (u.putCounted p e f, answer)) :
    (s.tdmSlotOp (.ok b) bad d).entryAt p = e ∧ slotAnswer d b answer ∈ (s.tdmSlotOp (.ok b) bad d).outbox := by
  have answered := State.tdmSlotOp_exmKept length s bad d
  rw [outcome] at answered
  have put := ((u.putCounted_exmKept p e other).emit (slotAnswer d b answer)).trans answered
  exact ⟨(put.entryAt p).trans (State.setEntry_entryAt slot u e), answered.out List.mem_concat_self⟩

theorem exec_tdmInsert_works (works : s.tdmWorks 4 d) (r : HostRead) (bad : List BadCell) :
    exec (.tdmInsert r bad) s = .next (s.tdmSlotOp r bad d) :=
  congrArg Host.Outcome.next (State.tdmWith_of_works works _)

theorem exec_tdmRemove_works (works : s.tdmWorks 5 d) (r : HostRead) (bad : List BadCell) :
    exec (.tdmRemove r bad) s = .next (s.tdmSlotOp r bad d) :=
  congrArg Host.Outcome.next (State.tdmWith_of_works works _)

end Sys2Proof.Machine
end

section
/-! SUPPORT. Changes of the profile (R174, R204): an accepted APPLY with no descriptor in progress, a refused one, and the end of a
change. -/
namespace Sys2Proof.Machine

variable {s : State} {m : Master}

/-- The profile that an APPLY takes (R204). -/
def State.profileAsked (s : State) : Nat := if s.rd Reg.TDM_PROFILE_SEL = 3 then 1 else s.rd Reg.TDM_PROFILE_SEL

theorem exec_tdmProfileApply_ok (reach : s.access m 0x39 0x120 4 true = .ok) :
    ∃ u, s.CountsTo u ∧ exec (.tdmProfileApply m) s = .next u.profileApply := by
  obtain ⟨u, counted, effect⟩ := State.onWrite_ok reach State.profileApply
  exact ⟨u, counted, congrArg Host.Outcome.next effect⟩

theorem State.profileApply_of_other_mode (other : s.mode ≠ 2) : s.profileApply = s.trb 0x39 5 := if_pos (.inl other)

theorem State.profileApply_starts (ready : s.mode = 2) (waiting : s.tdm.applyWaiting = false) (running : s.tdm.applyRunning = false)
    (lpm : s.armedFor 0x33 = none) (exm : s.armedFor 0x34 = none) (idle : s.tdm.cur = none) :
    s.profileApply.tdm = { s.tdm with applyRunning := true, applySel := s.profileAsked } := by
  have accepted : ¬ (s.mode ≠ 2 ∨ s.tdm.applyWaiting ∨ s.tdm.applyRunning ∨ (s.armedFor 0x33).isSome ∨ (s.armedFor 0x34).isSome) := by
    simp [ready, waiting, running, lpm, exm]
  rw [State.profileApply, if_neg accepted, State.applyNext, if_pos ⟨rfl, by simp [idle]⟩, ← waiting]
  rfl

theorem State.CountsTo.armedFor {t : State} (counted : s.CountsTo t) (p : Nat) : t.armedFor p = s.armedFor p := by
  rw [State.armedFor, State.armedFor, counted.cairn]

theorem State.CountsTo.profileAsked {t : State} (counted : s.CountsTo t) : t.profileAsked = s.profileAsked := by
  rw [State.profileAsked, State.profileAsked, counted.rd _ (by decide)]

theorem exec_profileApplyDone_of_running (running : s.tdm.applyRunning = true) : exec .profileApplyDone s = .next s.profileDone :=
  congrArg Host.Outcome.next (if_pos running)

theorem State.profileDone_profile (s : State) : s.profileDone.rd Reg.LPM_STAT_PROFILE = s.tdm.applySel % 4 :=
  (State.rd_wr_ne (by decide)).trans (State.rd_wr_same _ _ _)

/-- Settles O42: a slot's search rests on what its HBM reads keep, its entry stands where it was written since all that follows the write
only counts, reaches HBM or answers; an APPLY is judged on a state that the access alone has counted in. -/
theorem insertEngineKeepsEntriesFound : Obligations.InsertEngineKeepsEntriesFound := by
  refine ⟨fun s d b bad length typed => ⟨fun works => ⟨fun p found => ?replaced, fun p absent free => ?inserted⟩,
    fun works empty p found => ?removed⟩, fun s => ⟨fun m reach => ⟨fun ready waiting running lpm exm idle => ?apply, fun other => ?refused⟩,
    fun running => ?done⟩⟩
  case replaced =>
    have outcome := (State.slotOutcome_insert works).trans (State.insertSlot_of_found typed found)
    exact ⟨_, exec_tdmInsert_works works _ bad, State.tdmSlotOp_put length (inBucket_of_findKey found) (by decide) outcome⟩
  case inserted =>
    have outcome := (State.slotOutcome_insert works).trans (State.insertSlot_of_free typed absent free)
    exact ⟨_, exec_tdmInsert_works works _ bad, State.tdmSlotOp_put length (inBucket_of_freeIn free) (by decide) outcome⟩
  case removed =>
    have outcome := (State.slotOutcome_remove works).trans (State.removeSlot_of_found typed found empty)
    exact ⟨_, exec_tdmRemove_works works _ bad, State.tdmSlotOp_put length (inBucket_of_findKey found) (by decide) outcome⟩
  case apply =>
    obtain ⟨u, counted, effect⟩ := exec_tdmProfileApply_ok reach
    rw [← counted.mode] at ready
    rw [← counted.tdm] at waiting running idle
    rw [← counted.armedFor] at lpm exm
    refine ⟨_, effect, ?_⟩
    rw [State.profileApply_starts ready waiting running lpm exm idle, counted.tdm, counted.profileAsked]
    rfl
  case refused =>
    obtain ⟨u, counted, effect⟩ := exec_tdmProfileApply_ok reach
    rw [← counted.mode] at other
    exact ⟨_, effect.trans (congrArg _ (State.profileApply_of_other_mode other)), (counted.trouble 0x39 5).trans (State.trb_counts u 0x39 5)⟩
  case done => exact ⟨_, exec_profileApplyDone_of_running running, rfl, rfl, rfl, s.profileDone_profile⟩

end Sys2Proof.Machine
end

section
/-! SUPPORT. A descriptor of the table DMA ring: which registers the work on one may write, and its completion (R194, R198, R211). -/
namespace Sys2Proof.Machine

variable {s t : State} {d : Desc}

/-- The register fields that the work on a descriptor and its completion write before HEAD advances (R31, R198, R211). -/
def tdmKeys : List Nat :=
  [Reg.TDM_BYTES.key 0, trbKey 0x39 3, trbKey 0x39 4, trbKey 0x39 7, fkey 0x39 Reg.EVT_STAT_EVT 0, Reg.TDM_LAST_STATUS.key 0,
    Reg.TDM_LAST_ART_STATUS.key 0, Reg.TDM_LAST_IDX.key 0]

theorem State.RegsBut.tdmMoved (h : s.RegsBut tdmKeys t) (n : Nat) : s.RegsBut tdmKeys (t.tdmMoved n) := h.stat n (by decide)

theorem State.RegsBut.tdmCount (h : s.RegsBut tdmKeys t) : t.tdmCount = s.tdmCount :=
  congrArg ringCount (h.lookup (by decide) (by decide))

theorem State.RegsBut.descAddr (h : s.RegsBut tdmKeys t) (i : Nat) : t.descAddr i = s.descAddr i :=
  congrArg (· + 32 * i) (h.lookup (by decide) (by decide))

theorem State.applyNext_regs (s : State) : s.applyNext.regs = s.regs :=
  State.of_but_regs (State.applyNext_but (u := 33554432) (by decide) s) (by decide)

theorem State.applyNext_outbox (s : State) : s.applyNext.outbox = s.outbox :=
  State.of_but_outbox (State.applyNext_but (u := 33554432) (by decide) s) (by decide)

theorem State.applyNext_cur (s : State) : s.applyNext.tdm.cur = s.tdm.cur := by
  unfold State.applyNext
  split <;> rfl

/-! ## Completion -/

/-- A completion with an error is kept in TDM_LAST, signalled and counted (R211). -/
def State.tdmErrorKept (s : State) (d : Desc) (status art : Nat) : State :=
  if status = 0 then s
  else ((((s.trb 0x39 3).evt 0x39 0).wr Reg.TDM_LAST_STATUS status).wr Reg.TDM_LAST_ART_STATUS art).wr Reg.TDM_LAST_IDX d.ring

/-- Completions with HEADLESS and with HOST_ERR have counters of their own (R211). -/
def State.tdmErrorCounted (s : State) (status : Nat) : State :=
  if status = 7 then s.trb 0x39 4 else if status = 6 then s.trb 0x39 7 else s

/-- The state of a completion once its status is noted in the registers. -/
def State.tdmNoted (s : State) (d : Desc) (status art : Nat) : State := (s.tdmErrorKept d status art).tdmErrorCounted status

/-- The dwords of the descriptor that a completion writes to host memory (R194). -/
def State.tdmAnswer (s : State) (d : Desc) (status art detail : Nat) : Emit :=
  .hostWrite (s.descAddr d.ring + 24) (dwords [detail, status + art * 256 + 2 ^ 31])

/-- The state of a completion once HEAD has advanced past the descriptor (R194). -/
def State.tdmPassed (s : State) (d : Desc) (e : Emit) : State :=
  { (s.emit e).wr Reg.TDM_HEAD_IDX ((d.ring + 1) % max 1 s.tdmCount) with tdm := { s.tdm with cur := none, abandoned := false } }

theorem State.tdmComplete_eq (s : State) (d : Desc) (status art detail : Nat) :
    s.tdmComplete d status art detail =
      ((s.tdmNoted d status art).tdmPassed d ((s.tdmNoted d status art).tdmAnswer d status art detail)).applyNext := rfl

theorem State.RegsBut.tdmNoted (h : s.RegsBut tdmKeys t) (d : Desc) (status art : Nat) : s.RegsBut tdmKeys (t.tdmNoted d status art) := by
  have kept : s.RegsBut tdmKeys (t.tdmErrorKept d status art) :=
    .ite h (((((h.trb (by decide)).evt (by decide)).wr _ (by decide)).wr _ (by decide)).wr _ (by decide))
  exact .ite (kept.trb (by decide)) (.ite (kept.trb (by decide)) kept)

/-- A completion after work that wrote no other register completes the descriptor on the ring as it stood before that work. -/
theorem State.RegsBut.tdmDone (h : s.RegsBut tdmKeys t) (d : Desc) (status art detail : Nat) :
    s.tdmDone (t.tdmComplete d status art detail) d.ring status art detail := by
  have noted := h.tdmNoted d status art
  rw [State.tdmComplete_eq]
  refine ⟨State.applyNext_cur _, ?head, ?answer⟩
  case head =>
    rw [State.rd_of_regs (State.applyNext_regs _), ← noted.tdmCount]
    exact State.rd_wr_same _ _ _
  case answer =>
    rw [State.applyNext_outbox, ← noted.descAddr]
    exact List.mem_concat_self

/-- An error other than HEADLESS and HOST_ERR stands in TDM_LAST_STATUS after the completion (R211). -/
theorem State.tdmComplete_lastStatus {status : Nat} (error : status ≠ 0) (headless : status ≠ 7) (host : status ≠ 6) (s : State) (d : Desc)
    (art detail : Nat) :
    (s.tdmComplete d status art detail).rd Reg.TDM_LAST_STATUS = status % 2 ^ Reg.TDM_LAST_STATUS.width := by
  have uncounted (u : State) : u.tdmErrorCounted status = u := (if_neg headless).trans (if_neg host)
  have kept : (s.tdmErrorKept d status art).rd Reg.TDM_LAST_STATUS = status % 2 ^ Reg.TDM_LAST_STATUS.width := by
    rw [State.tdmErrorKept, if_neg error, State.rd_wr_ne (by decide), State.rd_wr_ne (by decide), State.rd_wr_same]
  rw [State.tdmComplete_eq, State.rd_of_regs (State.applyNext_regs _), State.tdmNoted, uncounted]
  exact (State.rd_wr_ne (by decide)).trans kept

theorem State.tdmComplete_banks (s : State) (d : Desc) (status art detail : Nat) : (s.tdmComplete d status art detail).banks = s.banks :=
  State.of_but_banks (State.tdmComplete_but (u := 2197815297) (by decide) s d status art detail) (by decide)

theorem State.tdmMoved_banks (s : State) (n : Nat) : (s.tdmMoved n).banks = s.banks := State.stat_banks _ _ _ _ _

/-! ## Taking a descriptor up -/

/-- The engine with the descriptor that the host read brought in progress (R194). -/
def State.tdmTaken (s : State) (b : Bytes) : State :=
  { s with tdm := { s.tdm with cur := some (parseDesc (s.rd Reg.TDM_HEAD_IDX % max 1 s.tdmCount) b), retry := false } }

theorem State.tdmTake_ok (headless : s.rst.headless = false) (b : Bytes) : s.tdmTake (.ok b) = s.tdmTaken b :=
  if_neg (ne_true_of_eq_false headless)

theorem State.tdmTake_failed (s : State) : (s.tdmTake .failed).tdm = { s.tdm with retry := true } := State.trb_tdm _ _ _

theorem exec_tdmDescriptorTakeup_ready (ready : s.tdmMayTake = true) (first : s.tdm.retry = false) (r : HostRead) :
    exec (.tdmDescriptorTakeup r) s = .next (s.tdmTake r) :=
  congrArg Host.Outcome.next (if_pos ⟨ready, ne_true_of_eq_false first⟩)

theorem exec_tdmDescriptorReadRetry_ready (ready : s.tdmMayTake = true) (again : s.tdm.retry = true) (r : HostRead) :
    exec (.tdmDescriptorReadRetry r) s = .next (s.tdmTake r) :=
  congrArg Host.Outcome.next (if_pos ⟨ready, again⟩)

theorem exec_tdmBadOp_of_bad (current : s.tdm.cur = some d) (bad : badOp d = true) (running : s.tdm.abandoned = false)
    (dma : s.dmaOk = true) : exec .tdmBadOp s = .next (s.tdmComplete d 2 0 0) := by
  show Host.Outcome.next _ = _
  rw [current]
  exact congrArg Host.Outcome.next (if_pos ⟨bad, ne_true_of_eq_false running, dma⟩)

end Sys2Proof.Machine
end

section
/-! SUPPORT. Lines of a WRITE and of a READ (R197, R199): the entries of a line, what a table reads once a line has put them there, and
what follows a line. -/
namespace Sys2Proof.Machine

variable {s t : State} {d : Desc} {z page n : Nat} {w : Bool} {b : Bytes}

/-! ## The entries of a line -/

theorem length_chunks (pos : 0 < n) {k : Nat} {b : Bytes} (length : b.length = k * n) : (chunks n k b).length = k := by
  induction k generalizing b with
  | zero => rfl
  | succ k ih =>
    rw [Nat.succ_mul] at length
    have full : ¬ b.isEmpty := by
      rw [List.isEmpty_iff_length_eq_zero]
      omega
    rw [chunks, if_neg full, List.length_cons, ih (by rw [List.length_drop, length, Nat.add_sub_cancel])]

theorem length_entriesOf (pos : 0 < n) {m : Nat} (length : b.length = m * n) : (entriesOf n b).length = m := by
  rw [entriesOf, length, Nat.mul_div_cancel m pos]
  exact length_chunks pos length

theorem getD_concat_of_lt {α : Type} {l : List α} {j : Nat} (before : j < l.length) (x y : α) :
    (l ++ [x]).getD j y = l.getD j y := by
  rw [List.getD_eq_getElem?_getD, List.getElem?_append_left before, ← List.getD_eq_getElem?_getD]

theorem getD_concat_length {α : Type} (l : List α) (x y : α) : (l ++ [x]).getD l.length y = x := by
  rw [List.getD_eq_getElem?_getD, List.getElem?_concat_length, Option.getD_some]

theorem numbered_concat {α : Type} (l : List α) (x : α) : numbered (l ++ [x]) = numbered l ++ [(l.length, x)] := by
  rw [numbered, List.length_append, List.length_singleton, List.range_succ, List.zip_append List.length_range]
  rfl

/-! ## Tables 1 to 5 -/

/-- The tables that one sparse map each holds: BD, next hop, ECMP, member and adjacency (R197). -/
def IsMapTable (t : Nat) : Prop := t = 1 ∨ t = 2 ∨ t = 3 ∨ t = 4 ∨ t = 5

theorem isMapTable_of_tableOf (known : tableOf n = some (z, w, page)) (small : n ≤ 5) : IsMapTable n := by
  have listed : n ≠ 0 := by
    rintro rfl
    cases known
  unfold IsMapTable
  omega

theorem size_pos_of_tableOf (known : tableOf n = some (z, w, page)) (table : IsMapTable n) : 0 < z := by
  rcases table with rfl | rfl | rfl | rfl | rfl
  all_goals
    cases known
    decide

section MapTable

variable (table : IsMapTable n)
include table

theorem State.tablePut_regs (s : State) (i v : Nat) : (s.tablePut n i v).regs = s.regs := by
  rcases table with rfl | rfl | rfl | rfl | rfl
  all_goals rfl

theorem State.tableGet_tablePut_same (s : State) (bank i v : Nat) : (s.tablePut n i v).tableGet n bank i = v := by
  rcases table with rfl | rfl | rfl | rfl | rfl
  all_goals exact SMap.get_set_same _ _ _ _

theorem State.tableGet_tablePut_ne {i j : Nat} (other : i ≠ j) (s : State) (bank v : Nat) :
    (s.tablePut n i v).tableGet n bank j = s.tableGet n bank j := by
  rcases table with rfl | rfl | rfl | rfl | rfl
  all_goals exact SMap.get_set_ne other

theorem State.tableGet_of_tab (same : t.tab = s.tab) (bank i : Nat) : t.tableGet n bank i = s.tableGet n bank i := by
  rcases table with rfl | rfl | rfl | rfl | rfl
  all_goals exact congrArg (fun k : Tables => SMap.get _ 0 i) same

/-- A line puts each of its entries in the table, in order (R199). -/
theorem State.tableGet_foldl_tablePut (l : List Bytes) (s : State) (first bank : Nat) {j : Nat} (entry : j < l.length) :
    ((numbered l).foldl (fun t e => t.tablePut n (first + e.1) (le e.2)) s).tableGet n bank (first + j) = le (l.getD j []) := by
  induction length : l.length generalizing l j with
  | zero => exact absurd entry (length ▸ Nat.not_lt_zero j)
  | succ m ih =>
    obtain rfl | ⟨l, x, rfl⟩ := List.eq_nil_or_concat l
    · cases length
    · rw [List.concat_eq_append] at entry length ⊢
      rw [numbered_concat, List.foldl_append, List.foldl_cons, List.foldl_nil]
      rw [List.length_append, List.length_singleton] at entry length
      rcases Nat.lt_succ_iff_lt_or_eq.mp entry with before | rfl
      · rw [State.tableGet_tablePut_ne table (by omega), ih l before (by omega), getD_concat_of_lt before]
      · rw [State.tableGet_tablePut_same table, getD_concat_length]

end MapTable

/-! ## What follows a line -/

/-- The entries of the next line of a descriptor (R197, R199). -/
def Desc.lineEntries (d : Desc) (z : Nat) : Nat := lineCount z (d.index + d.pos) (d.len / z - d.pos)

/-- The state after a line: the bytes are counted; the last line completes the descriptor, and an earlier one moves its position. -/
def State.lineEnd (s : State) (d : Desc) (z : Nat) : State :=
  if d.len / z ≤ d.pos + d.lineEntries z then (s.tdmMoved (d.lineEntries z * z)).tdmComplete d 0 0 d.len
  else (s.tdmMoved (d.lineEntries z * z)).tdmKeep { d with pos := d.pos + d.lineEntries z }

theorem State.lineEnd_last (last : d.len / z ≤ d.pos + d.lineEntries z) (s : State) :
    s.lineEnd d z = (s.tdmMoved (d.lineEntries z * z)).tdmComplete d 0 0 d.len := if_pos last

theorem State.lineEnd_earlier (earlier : d.pos + d.lineEntries z < d.len / z) (s : State) :
    s.lineEnd d z = (s.tdmMoved (d.lineEntries z * z)).tdmKeep { d with pos := d.pos + d.lineEntries z } :=
  if_neg (Nat.not_le.mpr earlier)

theorem State.lineEnd_but (s : State) (d : Desc) (z : Nat) : (s.lineEnd d z).but 2197815297 = s.but 2197815297 := by
  rcases Nat.lt_or_ge (d.pos + d.lineEntries z) (d.len / z) with earlier | last
  · rw [State.lineEnd_earlier earlier, State.tdmKeep_but (by decide), State.tdmMoved_but (by decide)]
  · rw [State.lineEnd_last last, State.tdmComplete_but (by decide), State.tdmMoved_but (by decide)]

theorem State.lineEnd_tab (s : State) (d : Desc) (z : Nat) : (s.lineEnd d z).tab = s.tab :=
  State.of_but_tab (s.lineEnd_but d z) (by decide)

theorem State.lineEnd_banks (s : State) (d : Desc) (z : Nat) : (s.lineEnd d z).banks = s.banks :=
  State.of_but_banks (s.lineEnd_but d z) (by decide)

theorem State.lineEnd_outbox (s : State) (d : Desc) (z : Nat) : s.outbox ⊆ (s.lineEnd d z).outbox := by
  have moved := (State.ExmKept.refl s).tdmMoved (d.lineEntries z * z)
  exact (State.ExmKept.ite (moved.tdmComplete d 0 0 d.len) (moved.tdmKeep _)).out

/-- The last line completes the descriptor with status 0 (R198). -/
theorem State.RegsBut.lineEnd_done (h : s.RegsBut tdmKeys t) (last : d.len / z ≤ d.pos + d.lineEntries z) :
    s.tdmDone (t.lineEnd d z) d.ring 0 0 d.len := by
  rw [State.lineEnd_last last]
  exact (h.tdmMoved _).tdmDone d 0 0 d.len

theorem State.lineEnd_cur (earlier : d.pos + d.lineEntries z < d.len / z) (s : State) :
    (s.lineEnd d z).tdm.cur = some { d with pos := d.pos + d.lineEntries z } := by
  rw [State.lineEnd_earlier earlier]
  rfl

/-! ## A line of a WRITE -/

/-- The entries of a line from the host put into the table, with the PMU event of the line (R199, R434). -/
def State.linePut (s : State) (d : Desc) (z : Nat) (b : Bytes) : State :=
  ((numbered (entriesOf z b)).foldl (fun t e => t.tablePut d.table (d.index + d.pos + e.1) (le e.2)) s).lineWritten

theorem State.lineWritten_counts (s : State) : s.CountsTo s.lineWritten := State.pmuEvent_counts _ _ _

theorem State.tdmWriteOp_line (known : tableOf d.table = some (z, w, page)) (free : s.writeHeld d = false)
    (powered : s.pagePowered page = true) (length : b.length = d.lineEntries z * z) :
    s.tdmWriteOp (.ok b) d = (s.linePut d z b).lineEnd d z := by
  rw [State.tdmWriteOp, known]
  dsimp only
  rw [if_neg (ne_true_of_eq_false free)]
  rw [show hostBytes (.ok b) (lineCount z (d.index + d.pos) (d.len / z - d.pos) * z) = some b from hostBytes_of_length length]
  dsimp only
  rw [if_pos powered]
  rfl

theorem State.linePut_regsBut (table : IsMapTable d.table) (s : State) (z : Nat) (b : Bytes) : s.RegsBut tdmKeys (s.linePut d z b) := by
  refine State.RegsBut.counts ?_ (State.lineWritten_counts _)
  exact State.RegsBut.foldl (fun t e => State.RegsBut.of_regs (State.tablePut_regs table t _ _)) _ s

theorem State.linePut_tableGet (table : IsMapTable d.table) (pos : 0 < z) {m : Nat} (length : b.length = m * z) (s : State) (bank : Nat)
    {j : Nat} (entry : j < m) :
    (s.linePut d z b).tableGet d.table bank (d.index + d.pos + j) = le ((entriesOf z b).getD j []) := by
  rw [← length_entriesOf pos length] at entry
  rw [State.linePut, State.tableGet_of_tab table (State.lineWritten_counts _).tab]
  exact State.tableGet_foldl_tablePut table _ s _ bank entry

theorem exec_tdmWrite_works (works : s.tdmWorks 2 d) (r : HostRead) : exec (.tdmWrite r) s = .next (s.tdmWriteOp r d) :=
  congrArg Host.Outcome.next (State.tdmWith_of_works works _)

/-! ## A line of a READ -/

/-- The bytes of the next line of a READ, written to host memory (R197). -/
def State.lineRead (s : State) (d : Desc) (z : Nat) : Emit :=
  .hostWrite (d.addr + d.pos * z)
    ((List.range (d.lineEntries z)).flatMap (fun j => toLe z (s.tableGet d.table d.bank (d.index + d.pos + j))))

theorem State.tdmReadOp_line (known : tableOf d.table = some (z, w, page)) (powered : s.pagePowered page = true) :
    s.tdmReadOp true d = (s.emit (s.lineRead d z)).lineEnd d z := by
  rw [State.tdmReadOp, known]
  dsimp only
  rw [if_neg (not_not_intro rfl)]
  simp only [if_pos powered]
  rfl

theorem exec_tdmRead_works (works : s.tdmWorks 3 d) (writeOk : Bool) : exec (.tdmRead writeOk) s = .next (s.tdmReadOp writeOk d) :=
  congrArg Host.Outcome.next (State.tdmWith_of_works works _)

end Sys2Proof.Machine
end

section
/-! SUPPORT. A LOAD (R44, R45): an artifact that passes its checks, and one that fails a check before the bank is taken. -/
namespace Sys2Proof.Machine

variable {s : State} {d : Desc} {b : Bytes}

theorem State.stageBank_regs (s : State) (b : Bytes) (ok : Bool) : (s.stageBank b ok).regs = s.regs :=
  State.of_but_regs (State.stageBank_but (u := 16448) (by decide) s b ok) (by decide)

theorem State.loadArtifact_of_valid (valid : (s.checkArtifact b).1 = 0) :
    s.loadArtifact b = (s.stageBank b true, 0, (s.checkArtifact b).2) := by
  simp [State.loadArtifact, valid]

/-- Checks 1 to 7 come before the bank is taken (R45). -/
theorem State.loadArtifact_of_early (fails : (s.checkArtifact b).1 ≠ 0) (early : (s.checkArtifact b).1 < 8) :
    s.loadArtifact b = (s, s.checkArtifact b) := by
  have layout : (s.checkArtifact b).1 ≠ 8 := by omega
  have room : (s.checkArtifact b).1 ≠ 11 := by omega
  have entries : (s.checkArtifact b).1 ≠ 12 := by omega
  simp [State.loadArtifact, fails, layout, room, entries]

theorem State.tdmLoadOp_of_valid (length : b.length = d.len) (valid : (s.checkArtifact b).1 = 0) :
    s.tdmLoadOp (.ok b) d = ((s.stageBank b true).tdmMoved d.len).tdmComplete d 0 0 0 := by
  rw [State.tdmLoadOp, hostBytes_of_length length]
  dsimp only
  rw [State.loadArtifact_of_valid valid]
  rfl

theorem State.tdmLoadOp_of_early (length : b.length = d.len) (fails : (s.checkArtifact b).1 ≠ 0) (early : (s.checkArtifact b).1 < 8) :
    s.tdmLoadOp (.ok b) d = (s.tdmMoved d.len).tdmComplete d 4 (s.checkArtifact b).1 (s.checkArtifact b).2 := by
  rw [State.tdmLoadOp, hostBytes_of_length length]
  dsimp only
  rw [State.loadArtifact_of_early fails early]
  exact if_neg fails

theorem exec_tdmLoad_works (works : s.tdmWorks 1 d) (r : HostRead) : exec (.tdmLoad r) s = .next (s.tdmLoadOp r d) :=
  congrArg Host.Outcome.next (State.tdmWith_of_works works _)

/-- Settles O41: a completion reads the ring on a state where only a line's, an artifact's or an error's own registers were written, and
what follows a line leaves the tables and what was put out as they stand. -/
theorem tableDmaMovesTables : Obligations.TableDmaMovesTables := by
  refine ⟨fun s => ⟨fun ready headless => ⟨fun b first => ?takeup, fun first => ?failed, fun b again => ?retry⟩,
    fun d current bad running dma => ?badOp⟩, fun s d z page w => ⟨fun works known free powered small b length => ?write,
    fun works known powered => ?read, fun works b length => ⟨fun valid => ?load, fun ⟨fails, early⟩ => ?early⟩⟩⟩
  case takeup =>
    have effect := exec_tdmDescriptorTakeup_ready ready first (.ok b)
    exact ⟨s.tdmTaken b, effect.trans (congrArg _ (State.tdmTake_ok headless b)), rfl, rfl⟩
  case failed => exact ⟨_, exec_tdmDescriptorTakeup_ready ready first .failed, s.tdmTake_failed⟩
  case retry =>
    have effect := exec_tdmDescriptorReadRetry_ready ready again (.ok b)
    exact ⟨s.tdmTaken b, effect.trans (congrArg _ (State.tdmTake_ok headless b)), rfl, rfl⟩
  case badOp =>
    exact ⟨_, exec_tdmBadOp_of_bad current bad running dma, (State.RegsBut.refl tdmKeys s).tdmDone d 2 0 0,
      State.tdmComplete_lastStatus (by decide) (by decide) (by decide) s d 0 0⟩
  case write =>
    have table := isMapTable_of_tableOf known small
    have pos := size_pos_of_tableOf known table
    have effect := (exec_tdmWrite_works works (.ok b)).trans (congrArg _ (State.tdmWriteOp_line known free powered length))
    refine ⟨_, effect, fun j entry => ?_, (State.linePut_regsBut table s z b).lineEnd_done, fun earlier => State.lineEnd_cur earlier _⟩
    rw [State.tableGet_of_tab table (State.lineEnd_tab _ d z)]
    exact State.linePut_tableGet table pos length s d.bank entry
  case read =>
    have effect := (exec_tdmRead_works works true).trans (congrArg _ (State.tdmReadOp_line known powered))
    have same : s.RegsBut tdmKeys (s.emit (s.lineRead d z)) := State.RegsBut.of_regs rfl
    exact ⟨_, effect, State.lineEnd_tab _ d z, State.lineEnd_banks _ d z, State.lineEnd_outbox _ d z List.mem_concat_self,
      same.lineEnd_done, fun earlier => State.lineEnd_cur earlier _⟩
  case load =>
    have effect := (exec_tdmLoad_works works (.ok b)).trans (congrArg _ (State.tdmLoadOp_of_valid length valid))
    have staged : s.RegsBut tdmKeys (s.stageBank b true) := State.RegsBut.of_regs (s.stageBank_regs b true)
    refine ⟨_, effect, (staged.tdmMoved d.len).tdmDone d 0 0 0, ?_⟩
    rw [State.tdmComplete_banks, State.tdmMoved_banks]
  case early =>
    have effect := (exec_tdmLoad_works works (.ok b)).trans (congrArg _ (State.tdmLoadOp_of_early length fails early))
    refine ⟨_, effect, ((State.RegsBut.refl tdmKeys s).tdmMoved d.len).tdmDone d 4 _ _, ?_⟩
    rw [State.tdmComplete_banks, State.tdmMoved_banks]

end Sys2Proof.Machine
end

section
/-! SUPPORT. The free store of the buffer manager (R214, R215, R218): how runs of indices divide, what moving indices between the ring
and the cache of a pool leaves in both, what an APPLY takes and refuses, and the end of a rebuild. -/
namespace Sys2Proof.Machine

variable {s : State} {n : Nat}

/-! ## Runs of indices -/

theorem runIndices_nil : runIndices [] = [] := rfl

theorem runIndices_cons (i k : Nat) (l : List (Nat × Nat)) : runIndices ((i, k) :: l) = List.range' i k ++ runIndices l :=
  List.flatMap_cons

theorem runIndices_append (l r : List (Nat × Nat)) : runIndices (l ++ r) = runIndices l ++ runIndices r :=
  List.flatMap_append

theorem runsTake_zero (l : List (Nat × Nat)) : runsTake 0 l = ([], l) := by
  cases l with
  | nil => rfl
  | cons r l => rfl

theorem runsTake_whole {k : Nat} (positive : n ≠ 0) (whole : k ≤ n) (i : Nat) (l : List (Nat × Nat)) :
    runsTake n ((i, k) :: l) = ((i, k) :: (runsTake (n - k) l).1, (runsTake (n - k) l).2) :=
  (if_neg positive).trans (if_pos whole)

theorem runsTake_cut {k : Nat} (positive : n ≠ 0) (cut : ¬ k ≤ n) (i : Nat) (l : List (Nat × Nat)) :
    runsTake n ((i, k) :: l) = ([(i, n)], (i + n, k - n) :: l) :=
  (if_neg positive).trans (if_neg cut)

/-- Taking indices loses none, doubles none and keeps their order: a run is taken whole, or is cut in two. -/
theorem runIndices_runsTake (n : Nat) (l : List (Nat × Nat)) :
    runIndices (runsTake n l).1 ++ runIndices (runsTake n l).2 = runIndices l := by
  induction l generalizing n with
  | nil => rfl
  | cons r l ih =>
    obtain ⟨i, k⟩ := r
    by_cases zero : n = 0
    · rw [zero, runsTake_zero, runIndices_nil, List.nil_append]
    · by_cases whole : k ≤ n
      · rw [runsTake_whole zero whole, runIndices_cons, runIndices_cons, List.append_assoc, ih]
      · have parts : List.range' i n ++ List.range' (i + n) (k - n) = List.range' i k := by
          rw [List.range'_append_1, Nat.add_sub_cancel' (by omega)]
        rw [runsTake_cut zero whole, runIndices_cons, runIndices_cons, runIndices_cons, runIndices_nil, List.append_nil,
          ← List.append_assoc, parts]

theorem length_runIndices_runsTake (n : Nat) (l : List (Nat × Nat)) :
    (runIndices (runsTake n l).1).length = min n (runIndices l).length := by
  induction l generalizing n with
  | nil => exact (Nat.min_zero n).symm
  | cons r l ih =>
    obtain ⟨i, k⟩ := r
    by_cases zero : n = 0
    · rw [zero, runsTake_zero, runIndices_nil, List.length_nil, Nat.zero_min]
    · by_cases whole : k ≤ n
      · rw [runsTake_whole zero whole, runIndices_cons, runIndices_cons, List.length_append, List.length_append, List.length_range', ih]
        omega
      · rw [runsTake_cut zero whole, runIndices_cons, runIndices_cons, runIndices_nil, List.append_nil, List.length_append,
          List.length_range', List.length_range']
        omega

/-- The runs taken stand for the oldest indices, the runs left for the others. -/
theorem runIndices_runsTake_eq (n : Nat) (l : List (Nat × Nat)) :
    runIndices (runsTake n l).1 = (runIndices l).take n ∧ runIndices (runsTake n l).2 = (runIndices l).drop n :=
  List.append_inj ((runIndices_runsTake n l).trans (List.take_append_drop n _).symm)
    ((length_runIndices_runsTake n l).trans List.length_take.symm)

theorem runIndices_runsTake_fst (n : Nat) (l : List (Nat × Nat)) : runIndices (runsTake n l).1 = (runIndices l).take n :=
  (runIndices_runsTake_eq n l).1

theorem runIndices_runsTake_snd (n : Nat) (l : List (Nat × Nat)) : runIndices (runsTake n l).2 = (runIndices l).drop n :=
  (runIndices_runsTake_eq n l).2

/-! ## A pool between its ring and its cache -/

theorem Pool.runIndices_refill_cache (p : Pool) : runIndices p.refill.cache = runIndices p.cache ++ (runIndices p.ring).take 1024 :=
  (runIndices_append _ _).trans (congrArg _ (runIndices_runsTake_fst 1024 p.ring))

theorem Pool.runIndices_refill_ring (p : Pool) : runIndices p.refill.ring = (runIndices p.ring).drop 1024 :=
  runIndices_runsTake_snd 1024 p.ring

/-- A pool once 1,024 indices of its cache are back in its ring (R218). -/
def Pool.spill (p : Pool) : Pool :=
  { p with ring := p.ring ++ (runsTake 1024 p.cache).1, cache := (runsTake 1024 p.cache).2 }

theorem Pool.runIndices_spill_ring (p : Pool) : runIndices p.spill.ring = runIndices p.ring ++ (runIndices p.cache).take 1024 :=
  (runIndices_append _ _).trans (congrArg _ (runIndices_runsTake_fst 1024 p.cache))

theorem Pool.runIndices_spill_cache (p : Pool) : runIndices p.spill.cache = (runIndices p.cache).drop 1024 :=
  runIndices_runsTake_snd 1024 p.cache

/-! ## A pool of the state -/

/-- The state in which pool n stands as `p`, and the free-ring region is accessed for 1,024 indices (R213, R218). -/
def State.poolMoved (s : State) (n : Nat) (p : Pool) (write : Bool) : State :=
  (s.setPool n p).drqSomewhere 6 0x0100000000 0x40000000 4096 write

/-- The access to the ring changes nothing of the buffer manager. -/
theorem State.poolMoved_buf (s : State) (n : Nat) (p : Pool) (write : Bool) : (s.poolMoved n p write).buf = (s.setPool n p).buf :=
  State.of_but_buf (State.drqSomewhere_but (u := 3238133761) (by decide) _ _ _ _ _ _) (by decide)

theorem State.poolMoved_pool_same (pool : n < s.buf.pools.length) (p : Pool) (write : Bool) : (s.poolMoved n p write).pool n = p := by
  rw [State.pool, State.poolMoved_buf, State.setPool, setIdx, List.getD_eq_getElem?_getD, List.getElem?_set_self pool, Option.getD_some]

theorem State.poolMoved_pool_ne {k : Nat} (other : k ≠ n) (s : State) (p : Pool) (write : Bool) :
    (s.poolMoved n p write).pool k = s.pool k := by
  rw [State.pool, State.poolMoved_buf, State.setPool, setIdx, List.getD_eq_getElem?_getD, List.getElem?_set_ne other.symm,
    ← List.getD_eq_getElem?_getD, State.pool]

theorem State.poolMoved_rest (s : State) (n : Nat) (p : Pool) (write : Bool) :
    (s.poolMoved n p write).buf = { s.buf with pools := (s.poolMoved n p write).buf.pools } := by
  rw [State.poolMoved_buf]
  rfl

theorem exec_freeCacheRefill_of_low {f : MemFinding} (pool : n < 4) (present : s.poolPresent n = true) (built : s.buf.rebuilding = false)
    (low : runsLen (s.pool n).cache < 1024) (filled : (s.pool n).ring ≠ []) (readable : f ≠ .uncorrectable) :
    exec (.freeCacheRefill n f) s = .next (s.poolMoved n (s.pool n).refill false) := by
  have due : n < 4 ∧ s.poolPresent n ∧ ¬ s.buf.rebuilding ∧ runsLen (s.pool n).cache < 1024 :=
    ⟨pool, present, ne_true_of_eq_false built, low⟩
  have nonempty : ¬ (s.pool n).ring.isEmpty := fun empty => filled (List.isEmpty_iff.mp empty)
  refine congrArg Host.Outcome.next ((if_pos due).trans ((if_neg nonempty).trans ?_))
  cases f with
  | uncorrectable => exact absurd rfl readable
  | clean | corrected | onDie => rfl

theorem exec_freeCacheSpill_of_high (pool : n < 4) (high : 3072 < runsLen (s.pool n).cache) :
    exec (.freeCacheSpill n) s = .next (s.poolMoved n (s.pool n).spill true) :=
  congrArg Host.Outcome.next (if_pos ⟨pool, high⟩)

/-! ## A write of APPLY -/

/-- The pool sizes that software has written, in GiB (R214). -/
def State.sizesAsked (s : State) : List Nat := (List.range 4).map (fun n => s.rdi Reg.BPM_POOL_n_SIZE n)

/-- The device takes the sizes that software has written (R215). -/
def State.SizesFit (s : State) : Prop :=
  s.mode = 2 ∧ s.sizesAsked.sum ≤ 120 ∧ ((List.range 4).map (fun n => poolBuffers n (s.sizesAsked.getD n 0))).sum ≤ 184549376

theorem State.SizesFit.sum_le (fit : s.SizesFit) : s.sizesAsked.sum ≤ 120 := fit.2.1

theorem State.CountsTo.sizesAsked {t : State} (counted : s.CountsTo t) : t.sizesAsked = s.sizesAsked := by
  have kept : ∀ n ∈ List.range 4, isTele (Reg.BPM_POOL_n_SIZE.key n) = false := by decide
  exact List.map_congr_left fun n pool => counted.rdi _ n (kept n pool)

theorem State.CountsTo.sizesFit_iff {t : State} (counted : s.CountsTo t) : t.SizesFit ↔ s.SizesFit := by
  rw [State.SizesFit, State.SizesFit, counted.mode, counted.sizesAsked]

/-- The state in which the first k pools show their base under the sizes `z` (R214). -/
def State.basesShown (s : State) (z : List Nat) (k : Nat) : State :=
  (List.range k).foldl (fun t n => t.wri Reg.BPM_BASE_n n (poolBase z n)) s

theorem State.basesShown_succ (s : State) (z : List Nat) (k : Nat) :
    s.basesShown z (k + 1) = (s.basesShown z k).wri Reg.BPM_BASE_n k (poolBase z k) := by
  rw [State.basesShown, List.range_succ, List.foldl_append]
  rfl

theorem State.basesShown_but (s : State) (z : List Nat) (k : Nat) : (s.basesShown z k).but 1 = s.but 1 :=
  State.but_foldl (fun t n => State.wri_but (by decide) t _ n _) _ _

theorem State.basesShown_regsBut (s : State) (z : List Nat) {k m : Nat} (le : k ≤ m) :
    s.RegsBut ((List.range m).map Reg.BPM_BASE_n.key) (s.basesShown z k) := by
  induction k with
  | zero => exact State.RegsBut.refl _ s
  | succ k ih =>
    rw [State.basesShown_succ]
    exact (ih (by omega)).wri _ (List.mem_map_of_mem (List.mem_range.mpr le))

theorem State.basesShown_rdi (s : State) (z : List Nat) {k : Nat} (shown : n < k) :
    (s.basesShown z k).rdi Reg.BPM_BASE_n n = poolBase z n % 2 ^ 64 := by
  induction k with
  | zero => exact absurd shown (Nat.not_lt_zero n)
  | succ k ih =>
    rw [State.basesShown_succ]
    rcases Nat.lt_succ_iff_lt_or_eq.mp shown with before | rfl
    · have offsets : 0x140 + 8 * k ≠ 0x140 + 8 * n := by omega
      have apart : Reg.BPM_BASE_n.key k ≠ Reg.BPM_BASE_n.key n := fkey_ne_off (by decide) (by decide) offsets
      exact (State.rdi_wri_ne apart).trans (ih before)
    · exact State.rdi_wri_same _ _ _ _

/-- The bases of pools of no more than 120 GiB in all fit their register. -/
theorem poolBase_lt {z : List Nat} (small : z.sum ≤ 120) (n : Nat) : poolBase z n < 2 ^ 64 := by
  have parts : (z.take n).sum + (z.drop n).sum = z.sum := by rw [← List.sum_append_nat, List.take_append_drop]
  unfold poolBase
  split <;> omega

/-- The state without its buffers, under the sizes `z` (R215). -/
def State.sizesTaken (s : State) (z : List Nat) : State :=
  { s.discardBuffers with buf := { s.discardBuffers.buf with sizes := z } }

theorem State.poolApply_of_fit (fit : s.SizesFit) : s.poolApply = (s.sizesTaken s.sizesAsked).basesShown s.sizesAsked 4 := if_pos fit

theorem State.poolApply_of_refused (refused : ¬ s.SizesFit) : s.poolApply = s.trb 0x50 8 := if_neg refused

theorem State.poolApply_buf (fit : s.SizesFit) : s.poolApply.buf = (s.sizesTaken s.sizesAsked).buf := by
  rw [State.poolApply_of_fit fit]
  exact State.of_but_buf (State.basesShown_but _ _ _) (by decide)

theorem State.poolApply_q (fit : s.SizesFit) : s.poolApply.q = QueueSt.initial := by
  rw [State.poolApply_of_fit fit]
  exact State.of_but_q (s := s.sizesTaken s.sizesAsked) (State.basesShown_but _ _ _) (by decide)

theorem State.poolApply_base (fit : s.SizesFit) (pool : n < 4) : s.poolApply.rdi Reg.BPM_BASE_n n = poolBase s.sizesAsked n := by
  rw [State.poolApply_of_fit fit, State.basesShown_rdi _ _ pool, Nat.mod_eq_of_lt (poolBase_lt fit.sum_le n)]

theorem State.poolApply_regsBut (fit : s.SizesFit) : s.RegsBut ((List.range 4).map Reg.BPM_BASE_n.key) s.poolApply := by
  rw [State.poolApply_of_fit fit]
  exact (State.RegsBut.of_regs rfl).trans (State.basesShown_regsBut _ _ (Nat.le_refl 4))

theorem exec_bpmApply_ok {m : Master} (reach : s.access m 0x50 0x110 4 true = .ok) :
    ∃ u, s.CountsTo u ∧ exec (.bpmApply m) s = .next u.poolApply := by
  obtain ⟨u, counted, effect⟩ := State.onWrite_ok reach State.poolApply
  exact ⟨u, counted, congrArg Host.Outcome.next effect⟩

/-- Settles O24: an access to the ring leaves the buffer manager as it is, and the runs it moves stand for its oldest 1,024 indices; an
APPLY is judged on a state that the access alone has counted in, and writes the bases alone. -/
theorem theFreeStoreKeepsItsIndices : Obligations.TheFreeStoreKeepsItsIndices := by
  refine ⟨fun s n pool four => ⟨fun f present built low filled readable => ?refill, fun high => ?spill⟩,
    fun s m => ⟨fun reach fit => ?taken, fun reach refused => ?refused, fun building runs => ?rebuilt⟩⟩
  case refill =>
    have index : n < s.buf.pools.length := four ▸ pool
    refine ⟨_, exec_freeCacheRefill_of_low pool present built low filled readable, ?cache, ?ring,
      fun k other => State.poolMoved_pool_ne other s _ _, s.poolMoved_rest n _ _⟩
    case cache => rw [State.poolMoved_pool_same index, Pool.runIndices_refill_cache]
    case ring => rw [State.poolMoved_pool_same index, Pool.runIndices_refill_ring]
  case spill =>
    have index : n < s.buf.pools.length := four ▸ pool
    refine ⟨_, exec_freeCacheSpill_of_high pool high, ?ring, ?cache,
      fun k other => State.poolMoved_pool_ne other s _ _, s.poolMoved_rest n _ _⟩
    case ring => rw [State.poolMoved_pool_same index, Pool.runIndices_spill_ring]
    case cache => rw [State.poolMoved_pool_same index, Pool.runIndices_spill_cache]
  case taken =>
    obtain ⟨u, counted, effect⟩ := exec_bpmApply_ok reach
    have fits : u.SizesFit := counted.sizesFit_iff.mpr fit
    have taken := State.poolApply_buf fits
    refine ⟨_, effect, ?sizes, ?rebuilding, ?empty, State.poolApply_q fits, fun n pool => ?base,
      (State.poolApply_regsBut fits).after counted⟩
    case sizes => rw [taken]; exact counted.sizesAsked
    case rebuilding => rw [taken]; rfl
    case empty => rw [taken]; rfl
    case base => rw [State.poolApply_base fits pool, counted.sizesAsked]; rfl
  case refused =>
    obtain ⟨u, counted, effect⟩ := exec_bpmApply_ok reach
    have stays : ¬ u.SizesFit := fun fits => refused (counted.sizesFit_iff.mp fits)
    exact ⟨_, effect.trans (congrArg _ (State.poolApply_of_refused stays)), (counted.trouble 0x50 8).trans (State.trb_counts u 0x50 8)⟩
  case rebuilt => exact congrArg Host.Outcome.next (if_pos ⟨building, runs⟩)

end Sys2Proof.Machine
end

section
/-! SUPPORT. The residence scan (R252, R253) and the calendar prefetch (R240): what a visit and a scan leave of each queue, that they change
nothing where no head is too old, and the slice that a prefetch brings on die. -/
namespace Sys2Proof.Machine

variable {s : State} {m n port : Nat}

/-! ## Discards of old heads -/

theorem State.dropOld_q (s : State) (k : Nat) (f : Fld) (l : List QEnt) : (s.dropOld k f l).1.q = s.q :=
  State.of_but_q (State.dropOld_but (u := 3238135937) (by decide) s k f l) (by decide)

/-- Discards take entries from the head alone. -/
theorem State.dropOld_suffix (s : State) (k : Nat) (f : Fld) (l : List QEnt) : (s.dropOld k f l).2 <:+ l := by
  induction l generalizing s with
  | nil => exact List.suffix_refl []
  | cons e rest ih =>
    rw [State.dropOld]
    split
    · exact (ih _).trans (List.suffix_cons e rest)
    · exact List.suffix_refl (e :: rest)

theorem State.dropOld_of_young (young : ∀ e, s.tooOld e = false) (k : Nat) (f : Fld) (l : List QEnt) : s.dropOld k f l = (s, l) := by
  cases l with
  | nil => rfl
  | cons e rest => exact if_neg (ne_true_of_eq_false (young e))

/-! ## Queues by their number in the scan -/

/-- The queue that has number n in the scan: the 524,288 egress queues come first, then the VOQs (R253). -/
def State.scanQueue (s : State) (n : Nat) : List QEnt := if n < 524288 then s.eq n else s.voqOf (n - 524288)

/-- Replace the queue that has number n in the scan. -/
def State.setScanQueue (s : State) (n : Nat) (l : List QEnt) : State :=
  if n < 524288 then s.setEq n l else s.setVoq (n - 524288) l

theorem State.scanQueue_egress (egress : n < 524288) (s : State) : s.scanQueue n = s.eq n := if_pos egress

theorem State.scanQueue_voq (s : State) (v : Nat) : s.scanQueue (524288 + v) = s.voqOf v := by
  rw [State.scanQueue, if_neg (by omega), Nat.add_sub_cancel_left]

theorem State.scanQueue_of_q {t : State} (same : t.q = s.q) (n : Nat) : t.scanQueue n = s.scanQueue n := by
  simp only [State.scanQueue, State.eq, State.voqOf, same]

theorem State.scanQueue_set_same (s : State) (n : Nat) (l : List QEnt) : (s.setScanQueue n l).scanQueue n = l := by
  unfold State.setScanQueue State.scanQueue
  split
  · exact SMap.get_set_same _ _ _ _
  · exact SMap.get_set_same _ _ _ _

theorem State.scanQueue_set_ne (other : n ≠ m) (s : State) (l : List QEnt) : (s.setScanQueue n l).scanQueue m = s.scanQueue m := by
  unfold State.setScanQueue State.scanQueue
  by_cases egress : n < 524288
  · rw [if_pos egress]
    split
    · exact SMap.get_set_ne other
    · rfl
  · rw [if_neg egress]
    split
    · rfl
    · exact SMap.get_set_ne (by omega)

theorem State.scanQueue_set_self (s : State) (n m : Nat) : (s.setScanQueue n (s.scanQueue n)).scanQueue m = s.scanQueue m := by
  by_cases other : n = m
  · rw [← other, State.scanQueue_set_same]
  · exact State.scanQueue_set_ne other s _

theorem State.setScanQueue_regs (s : State) (n : Nat) (l : List QEnt) : (s.setScanQueue n l).regs = s.regs := by
  unfold State.setScanQueue
  split <;> rfl

theorem State.setScanQueue_tooOld (s : State) (n : Nat) (l : List QEnt) (e : QEnt) : (s.setScanQueue n l).tooOld e = s.tooOld e := by
  unfold State.setScanQueue
  split <;> rfl

/-! ## A visit -/

theorem State.scanOne_eq (s : State) (n : Nat) :
    s.scanOne n =
      (s.dropOld 4 Reg.QM_AGED_SCAN (s.scanQueue n)).1.setScanQueue n (s.dropOld 4 Reg.QM_AGED_SCAN (s.scanQueue n)).2 := by
  unfold State.scanOne State.setScanQueue State.scanQueue
  split <;> rfl

theorem State.scanOne_scanQueue_ne (other : n ≠ m) (s : State) : (s.scanOne n).scanQueue m = s.scanQueue m := by
  rw [State.scanOne_eq, State.scanQueue_set_ne other, State.scanQueue_of_q (State.dropOld_q _ _ _ _)]

theorem State.scanOne_suffix (s : State) (n m : Nat) : (s.scanOne n).scanQueue m <:+ s.scanQueue m := by
  by_cases other : n = m
  · rw [← other, State.scanOne_eq, State.scanQueue_set_same]
    exact State.dropOld_suffix _ _ _ _
  · exact ⟨[], State.scanOne_scanQueue_ne other s⟩

theorem State.scanOne_of_young (young : ∀ e, s.tooOld e = false) (n : Nat) : s.scanOne n = s.setScanQueue n (s.scanQueue n) := by
  rw [State.scanOne_eq, State.dropOld_of_young young]

/-! ## Visits to a list of queues -/

theorem State.visits_suffix (l : List Nat) (s : State) (m : Nat) : (l.foldl State.scanOne s).scanQueue m <:+ s.scanQueue m := by
  induction l generalizing s with
  | nil => exact List.suffix_refl _
  | cons n rest ih => exact (ih _).trans (s.scanOne_suffix n m)

theorem State.visits_of_not_mem {l : List Nat} (unvisited : m ∉ l) (s : State) :
    (l.foldl State.scanOne s).scanQueue m = s.scanQueue m := by
  induction l generalizing s with
  | nil => rfl
  | cons n rest ih =>
    have other : n ≠ m := fun same => unvisited (same ▸ List.mem_cons_self)
    exact (ih (fun later => unvisited (List.mem_cons_of_mem n later)) _).trans (State.scanOne_scanQueue_ne other s)

theorem State.visits_of_young (l : List Nat) (young : ∀ e, s.tooOld e = false) :
    (l.foldl State.scanOne s).regs = s.regs ∧ ∀ m, (l.foldl State.scanOne s).scanQueue m = s.scanQueue m := by
  induction l generalizing s with
  | nil => exact ⟨rfl, fun _ => rfl⟩
  | cons n rest ih =>
    rw [List.foldl_cons, State.scanOne_of_young young]
    obtain ⟨regs, queues⟩ := ih (fun e => (s.setScanQueue_tooOld n _ e).trans (young e))
    exact ⟨regs.trans (s.setScanQueue_regs n _), fun m => (queues m).trans (s.scanQueue_set_self n m)⟩

/-! ## The scan -/

/-- The queues that a scan visits: those that hold anything, of the next 4,096 (R253). -/
def State.visited (s : State) : List Nat :=
  ((s.q.egress.map Prod.fst) ++ (s.q.voq.map (fun (e : Nat × List QEnt) => 524288 + e.1))).filter
    (fun (n : Nat) => decide (s.q.scanPos ≤ n ∧ n < s.q.scanPos + 4096))

/-- The state whose next scan begins at queue p. -/
def State.withScanPos (s : State) (p : Nat) : State := { s with q := { s.q with scanPos := p } }

theorem State.withScanPos_scanQueue (s : State) (p m : Nat) : (s.withScanPos p).scanQueue m = s.scanQueue m := rfl

theorem State.withScanPos_regs (s : State) (p : Nat) : (s.withScanPos p).regs = s.regs := rfl

/-- The state after a scan. -/
def State.scanned (s : State) : State := (s.visited.foldl State.scanOne s).withScanPos ((s.q.scanPos + 4096) % 589824)

theorem exec_residenceScan (s : State) : exec .residenceScan s = .next s.scanned := rfl

theorem State.not_mem_visited (outside : m < s.q.scanPos ∨ s.q.scanPos + 4096 ≤ m) : m ∉ s.visited := by
  intro visited
  have inside := of_decide_eq_true (List.mem_filter.mp visited).2
  omega

theorem State.scanned_scanQueue (s : State) (m : Nat) : s.scanned.scanQueue m = (s.visited.foldl State.scanOne s).scanQueue m :=
  State.withScanPos_scanQueue _ _ m

theorem State.scanned_of_young (young : ∀ e, s.tooOld e = false) :
    s.scanned.regs = s.regs ∧ ∀ m, s.scanned.scanQueue m = s.scanQueue m := by
  obtain ⟨regs, queues⟩ := State.visits_of_young s.visited young
  exact ⟨(State.withScanPos_regs _ _).trans regs, fun m => (s.scanned_scanQueue m).trans (queues m)⟩

/-- A scan discards heads alone, and none of the queues outside its 4,096. -/
theorem State.scanned_drop (s : State) (m : Nat) :
    ∃ k, s.scanned.scanQueue m = (s.scanQueue m).drop k ∧ (m < s.q.scanPos ∨ s.q.scanPos + 4096 ≤ m → k = 0) := by
  rw [State.scanned_scanQueue]
  by_cases outside : m < s.q.scanPos ∨ s.q.scanPos + 4096 ≤ m
  · exact ⟨0, State.visits_of_not_mem (State.not_mem_visited outside) s, fun _ => rfl⟩
  · exact ⟨_, List.suffix_iff_eq_drop.mp (State.visits_suffix _ s m), fun out => absurd out outside⟩

/-! ## The prefetch -/

theorem State.sch_of_sched {t : State} (same : t.sched = s.sched) (p : Nat) : t.sch p = s.sch p :=
  congrArg (fun x : SMap SchedPort => x.get SchedPort.initial p) same

theorem State.setSch_sch_same (s : State) (p : Nat) (x : SchedPort) : (s.setSch p x).sch p = x := SMap.get_set_same _ _ _ _

theorem State.setSch_sch_ne {p : Nat} (other : port ≠ p) (s : State) (x : SchedPort) : (s.setSch port x).sch p = s.sch p :=
  SMap.get_set_ne other

/-- A port's arbiter with the slice of epoch e on die in place of what it held for that epoch (R240). -/
def SchedPort.withSlice (x : SchedPort) (e : Nat) (unread : List Nat) : SchedPort :=
  { x with slices := x.slices.filter (fun y => y.1 != e) ++ [(e, unread)] }

/-- The state in which the slice of epoch e is on die at a port: the calendar's region is read, and each entry of which the read failed is
reported (R240). -/
def State.sliceBrought (s : State) (port e : Nat) (unread : List Nat) : State :=
  unread.foldl (fun t _ => (t.parityError 0x53 4 2).evt 0x53 0)
    ((s.setSch port ((s.sch port).withSlice e unread)).drqSomewhere 5 (0x0050000000 + port * 0x200000) 0x200000 1024 false)

/-- Neither the read nor the reports touch an arbiter. -/
theorem State.sliceBrought_sched (s : State) (port e : Nat) (unread : List Nat) :
    (s.sliceBrought port e unread).sched = (s.setSch port ((s.sch port).withSlice e unread)).sched := by
  have reported : ∀ (t : State) (_ : Nat), ((t.parityError 0x53 4 2).evt 0x53 0).but 3238133761 = t.but 3238133761 := fun t _ =>
    (State.evt_but (by decide) _ _ _).trans (State.parityError_but (by decide) t _ _ _)
  exact State.of_but_sched ((State.but_foldl reported unread _).trans (State.drqSomewhere_but (by decide) _ _ _ _ _ _)) (by decide)

theorem State.sliceBrought_sch_same (s : State) (port e : Nat) (unread : List Nat) :
    (s.sliceBrought port e unread).sch port = (s.sch port).withSlice e unread :=
  (State.sch_of_sched (s.sliceBrought_sched port e unread) port).trans (State.setSch_sch_same _ _ _)

theorem State.sliceBrought_sch_ne {p : Nat} (other : port ≠ p) (s : State) (e : Nat) (unread : List Nat) :
    (s.sliceBrought port e unread).sch p = s.sch p :=
  (State.sch_of_sched (s.sliceBrought_sched port e unread) p).trans (State.setSch_sch_ne other _ _)

theorem exec_calendarPrefetch_present (below : port < 160) (present : s.calPresent port = true) (onTime : Bool) (bad : List Nat) :
    exec (.calendarPrefetch port onTime bad) s =
      .next (s.sliceBrought port (if onTime then s.epoch + 1 else s.epoch)
        (bad.filter (fun i => decide (i < (s.cal port).active.body.entries.length)))) :=
  congrArg Host.Outcome.next (if_pos ⟨below, present⟩)

/-- Settles O26: a visit leaves a suffix of its own queue and every other queue as it is, and with no entry too old puts back the queue it
read; a prefetch sets its own port's arbiter, which the read and the reports then keep. -/
theorem scansAndPrefetchesMoveOn : Obligations.ScansAndPrefetchesMoveOn := by
  refine ⟨fun s => ⟨s.scanned, exec_residenceScan s, rfl, fun n egress => ?egress, fun v => ?voq, fun young => ?young⟩,
    fun s port onTime bad below present => ⟨_, exec_calendarPrefetch_present below present onTime bad,
      s.sliceBrought_sch_same _ _ _, fun p other => State.sliceBrought_sch_ne other.symm s _ _⟩⟩
  case egress =>
    have dropped := s.scanned_drop n
    rwa [State.scanQueue_egress egress, State.scanQueue_egress egress] at dropped
  case voq =>
    have dropped := s.scanned_drop (524288 + v)
    rwa [State.scanQueue_voq, State.scanQueue_voq] at dropped
  case young =>
    obtain ⟨regs, queues⟩ := State.scanned_of_young young
    refine ⟨State.RegsBut.of_regs regs, fun n egress => ?_, fun v => ?_⟩
    · have same := queues n
      rwa [State.scanQueue_egress egress, State.scanQueue_egress egress] at same
    · have same := queues (524288 + v)
      rwa [State.scanQueue_voq, State.scanQueue_voq] at same

end Sys2Proof.Machine
end

section
/-! SUPPORT. What a command changes (the commands of the opcode table): the parts of its row of `changes` as a mask over the fields of `State`,
and each part outside of the mask stays. -/
namespace Sys2Proof.Machine

variable {s t : State}

/-- The place of a part in the masks of `State.but`. -/
def Part.bit (p : Part) : Nat := p.ctorIdx

/-- The mask of a list of parts. -/
def partsMask (parts : List Part) : Nat := parts.foldr (fun p mask => 2 ^ p.bit ||| mask) 0

theorem Part.bit_injective : Function.Injective Part.bit := Function.LeftInverse.injective Part.ofNat_ctorIdx

theorem partsMask_testBit {p : Part} {parts : List Part} (missing : p ∉ parts) : (partsMask parts).testBit p.bit = false := by
  induction parts with
  | nil => exact Nat.zero_testBit _
  | cons other rest ih =>
    obtain ⟨differs, missing⟩ := not_or.1 (mt List.mem_cons.2 missing)
    have bits : other.bit ≠ p.bit := fun same => differs (Part.bit_injective same).symm
    simp only [partsMask, List.foldr_cons, Nat.testBit_or, Nat.testBit_two_pow_of_ne bits, Bool.false_or]
    exact ih missing

/-- A part outside of the mask is the same. -/
theorem Part.kept_of_but {mask : Nat} (same : t.but mask = s.but mask) {p : Part} (out : mask.testBit p.bit = false) : p.kept s t := by
  have out : mask / 2 ^ p.bit % 2 = 0 := by
    simpa [Nat.testBit_eq_decide_div_mod_eq] using out
  cases p with
  | regs => exact State.of_but_regs same out
  | pins => exact State.of_but_pins same out
  | time => exact State.of_but_time same out
  | spine => exact State.of_but_spine same out
  | pair => exact State.of_but_pair same out
  | cairn => exact State.of_but_cairn same out
  | banks => exact State.of_but_banks same out
  | path => exact State.of_but_path same out
  | exm => exact State.of_but_exm same out
  | learn => exact State.of_but_learn same out
  | tab => exact State.of_but_tab same out
  | buf => exact State.of_but_buf same out
  | q => exact State.of_but_q same out
  | sched => exact State.of_but_sched same out
  | gates => exact State.of_but_gates same out
  | lat => exact State.of_but_lat same out
  | fab => exact State.of_but_fab same out
  | hbm => exact State.of_but_hbm same out
  | host => exact State.of_but_host same out
  | icu => exact State.of_but_icu same out
  | mgt => exact State.of_but_mgt same out
  | boot => exact State.of_but_boot same out
  | sec => exact State.of_but_sec same out
  | pwr => exact State.of_but_pwr same out
  | pmu => exact State.of_but_pmu same out
  | tdm => exact State.of_but_tdm same out
  | shd => exact State.of_but_shd same out
  | rst => exact State.of_but_rst same out
  | tap => exact State.of_but_tap same out
  | d2d => exact State.of_but_d2d same out
  | fresh => exact State.of_but_fresh same out
  | outbox => exact State.of_but_outbox same out

theorem State.but_row {parts : List Part} {mask : Nat} (same : t.but mask = s.but mask) (row : partsMask parts = mask) :
    t.but (partsMask parts) = s.but (partsMask parts) := by
  rwa [row]

/-- A COLD reset keeps the record of outputs alone. -/
theorem State.coldStart_but_outbox (s : State) (straps : Byte) (seat present : Bool) :
    (s.coldStart straps seat present).but 2147483647 = s.but 2147483647 :=
  (State.seedFrag_but (by decide) _).trans ((State.emptyExm_but (by decide) _).trans (by simp))

/-- Every command keeps what is outside of its row of `changes`: one lemma per command. -/
theorem exec_but (c : Instr) (ran : exec c s = .next t) : t.but (partsMask (changes c)) = s.but (partsMask (changes c)) := by
  cases c with
  | registerWrite m page off size v => exact State.but_row (execRegisterWrite_but (Nat.and_self _) m page off size v s ran) rfl
  | lowDwordRead m page off => exact State.but_row (execLowDwordRead_but (Nat.and_self _) m page off s ran) rfl
  | highDwordWrite m page off v => exact State.but_row (execHighDwordWrite_but (Nat.and_self _) m page off v s ran) rfl
  | trbWrite m page k v => exact State.but_row (execTrbWrite_but (Nat.and_self _) m page k v s ran) rfl
  | blkEnWrite m page en => exact State.but_row (execBlkEnWrite_but (Nat.and_self _) m page en s ran) rfl
  | blkSrst m page => exact State.but_row (execBlkSrst_but (Nat.and_self _) m page s ran) rfl
  | faultWindowEnd page n => exact State.but_row (execFaultWindowEnd_but (Nat.and_self _) page n s ran) rfl
  | fwinCfgWrite m page n v => exact State.but_row (execFwinCfgWrite_but (Nat.and_self _) m page n v s ran) rfl
  | fwinStatRead m page n => exact State.but_row (execFwinStatRead_but (Nat.and_self _) m page n s ran) rfl
  | timeTick => exact State.but_row (execTimeTick_but (Nat.and_self _) s ran) rfl
  | katComplete passA passB passC => exact State.but_row (execKatComplete_but (Nat.and_self _) passA passB passC s ran) rfl
  | spnSelftest m => exact State.but_row (execSpnSelftest_but (Nat.and_self _) m s ran) rfl
  | spnRestart m chans => exact State.but_row (execSpnRestart_but (Nat.and_self _) m chans s ran) rfl
  | channelRejoin ch => exact State.but_row (execChannelRejoin_but (Nat.and_self _) ch s ran) rfl
  | pitchBoundary => exact State.but_row (execPitchBoundary_but (Nat.and_self _) s ran) rfl
  | epochBoundary => exact State.but_row (execEpochBoundary_but (Nat.and_self _) s ran) rfl
  | timCmdAcquire m ref => exact State.but_row (execTimCmdAcquire_but (Nat.and_self _) m ref s ran) rfl
  | timCmdLock m => exact State.but_row (execTimCmdLock_but (Nat.and_self _) m s ran) rfl
  | timCmdHold m => exact State.but_row (execTimCmdHold_but (Nat.and_self _) m s ran) rfl
  | timCmdResume m => exact State.but_row (execTimCmdResume_but (Nat.and_self _) m s ran) rfl
  | timCmdFree m => exact State.but_row (execTimCmdFree_but (Nat.and_self _) m s ran) rfl
  | timFreqWrite m v => exact State.but_row (execTimFreqWrite_but (Nat.and_self _) m v s ran) rfl
  | timPhaseAdj m d => exact State.but_row (execTimPhaseAdj_but (Nat.and_self _) m d s ran) rfl
  | holdTimeout => exact State.but_row (execHoldTimeout_but (Nat.and_self _) s ran) rfl
  | traverseHoldTimeout => exact State.but_row (execTraverseHoldTimeout_but (Nat.and_self _) s ran) rfl
  | smbusTempRead reading => exact State.but_row (execSmbusTempRead_but (Nat.and_self _) reading s ran) rfl
  | ppsInEdge => exact State.but_row (execPpsInEdge_but (Nat.and_self _) s ran) rfl
  | ppsOutPulse => exact State.but_row (execPpsOutPulse_but (Nat.and_self _) s ran) rfl
  | todRxByte b => exact State.but_row (execTodRxByte_but (Nat.and_self _) b s ran) rfl
  | todRxRead m => exact State.but_row (execTodRxRead_but (Nat.and_self _) m s ran) rfl
  | todTxWrite m b => exact State.but_row (execTodTxWrite_but (Nat.and_self _) m b s ran) rfl
  | ptpTsqRead m k => exact State.but_row (execPtpTsqRead_but (Nat.and_self _) m k s ran) rfl
  | timeWordReceived link w rxTime => exact State.but_row (execTimeWordReceived_but (Nat.and_self _) link w rxTime s ran) rfl
  | servoConverged => exact State.but_row (execServoConverged_but (Nat.and_self _) s ran) rfl
  | timeCellSend => exact State.but_row (execTimeCellSend_but (Nat.and_self _) s ran) rfl
  | pairClaim m => exact State.but_row (execPairClaim_but (Nat.and_self _) m s ran) rfl
  | pairRelease m => exact State.but_row (execPairRelease_but (Nat.and_self _) m s ran) rfl
  | belayInQualified => exact State.but_row (execBelayInQualified_but (Nat.and_self _) s ran) rfl
  | belayContention => exact State.but_row (execBelayContention_but (Nat.and_self _) s ran) rfl
  | digestSend => exact State.but_row (execDigestSend_but (Nat.and_self _) s ran) rfl
  | digestReceived d rxTime => exact State.but_row (execDigestReceived_but (Nat.and_self _) d rxTime s ran) rfl
  | digestMissing => exact State.but_row (execDigestMissing_but (Nat.and_self _) s ran) rfl
  | pairSelfcheckDone pass => exact State.but_row (execPairSelfcheckDone_but (Nat.and_self _) pass s ran) rfl
  | frameReceived port b whole => exact State.but_row (execFrameReceived_but (Nat.and_self _) port b whole s ran) rfl
  | macControlFrame port b => exact State.but_row (execMacControlFrame_but (Nat.and_self _) port b s ran) rfl
  | pauseTimerExpire port cls => exact State.but_row (execPauseTimerExpire_but (Nat.and_self _) port cls s ran) rfl
  | fcRefresh port => exact State.but_row (execFcRefresh_but (Nat.and_self _) port s ran) rfl
  | linkStateChange port aligned fecLock localFault remoteFault => exact State.but_row (execLinkStateChange_but (Nat.and_self _) port aligned fecLock localFault remoteFault s ran) rfl
  | seatedAsserted => exact State.but_row (execSeatedAsserted_but (Nat.and_self _) s ran) rfl
  | seatedQualified => exact State.but_row (execSeatedQualified_but (Nat.and_self _) s ran) rfl
  | seatedDeasserted => exact State.but_row (execSeatedDeasserted_but (Nat.and_self _) s ran) rfl
  | parseStart port bad => exact State.but_row (execParseStart_but (Nat.and_self _) port bad s ran) rfl
  | secondPassStart pipe bad => exact State.but_row (execSecondPassStart_but (Nat.and_self _) pipe bad s ran) rfl
  | frameTailArrived pkt rest => exact State.but_row (execFrameTailArrived_but (Nat.and_self _) pkt rest s ran) rfl
  | fragEntryExpire bucket slot => exact State.but_row (execFragEntryExpire_but (Nat.and_self _) bucket slot s ran) rfl
  | fragFlush m => exact State.but_row (execFragFlush_but (Nat.and_self _) m s ran) rfl
  | admission bad => exact State.but_row (execAdmission_but (Nat.and_self _) bad s ran) rfl
  | mcrRecordApply f => exact State.but_row (execMcrRecordApply_but (Nat.and_self _) f s ran) rfl
  | freeCacheRefill pool f => exact State.but_row (execFreeCacheRefill_but (Nat.and_self _) pool f s ran) rfl
  | freeCacheSpill pool => exact State.but_row (execFreeCacheSpill_but (Nat.and_self _) pool s ran) rfl
  | bpmApply m => exact State.but_row (execBpmApply_but (Nat.and_self _) m s ran) rfl
  | freeStoreRebuildDone => exact State.but_row (execFreeStoreRebuildDone_but (Nat.and_self _) s ran) rfl
  | portTxReady port bad => exact State.but_row (execPortTxReady_but (Nat.and_self _) port bad s ran) rfl
  | ropeWake port => exact State.but_row (execRopeWake_but (Nat.and_self _) port s ran) rfl
  | residenceScan => exact State.but_row (execResidenceScan_but (Nat.and_self _) s ran) rfl
  | calendarPrefetch port onTime bad => exact State.but_row (execCalendarPrefetch_but (Nat.and_self _) port onTime bad s ran) rfl
  | gateEntryChange port f => exact State.but_row (execGateEntryChange_but (Nat.and_self _) port f s ran) rfl
  | cyclicListStart port => exact State.but_row (execCyclicListStart_but (Nat.and_self _) port s ran) rfl
  | timetableTakeover port => exact State.but_row (execTimetableTakeover_but (Nat.and_self _) port s ran) rfl
  | timetableEntry port f => exact State.but_row (execTimetableEntry_but (Nat.and_self _) port f s ran) rfl
  | timetableFetch port => exact State.but_row (execTimetableFetch_but (Nat.and_self _) port s ran) rfl
  | gateTtCancel m port => exact State.but_row (execGateTtCancel_but (Nat.and_self _) m port s ran) rfl
  | latencySample => exact State.but_row (execLatencySample_but (Nat.and_self _) s ran) rfl
  | latencyWrite => exact State.but_row (execLatencyWrite_but (Nat.and_self _) s ran) rfl
  | latWdataAccess m w => exact State.but_row (execLatWdataAccess_but (Nat.and_self _) m w s ran) rfl
  | cairnPost m slot => exact State.but_row (execCairnPost_but (Nat.and_self _) m slot s ran) rfl
  | cairnCancel m slot seq => exact State.but_row (execCairnCancel_but (Nat.and_self _) m slot seq s ran) rfl
  | cairnCommit => exact State.but_row (execCairnCommit_but (Nat.and_self _) s ran) rfl
  | bankRetire page => exact State.but_row (execBankRetire_but (Nat.and_self _) page s ran) rfl
  | cairnRepeat seq => exact State.but_row (execCairnRepeat_but (Nat.and_self _) seq s ran) rfl
  | cairnCellReceived link c => exact State.but_row (execCairnCellReceived_but (Nat.and_self _) link c s ran) rfl
  | linkEnable m link en => exact State.but_row (execLinkEnable_but (Nat.and_self _) m link en s ran) rfl
  | linkRestart m link => exact State.but_row (execLinkRestart_but (Nat.and_self _) m link s ran) rfl
  | linkAligned link => exact State.but_row (execLinkAligned_but (Nat.and_self _) link s ran) rfl
  | linkTrainTimeout link => exact State.but_row (execLinkTrainTimeout_but (Nat.and_self _) link s ran) rfl
  | linkAlignLoss link => exact State.but_row (execLinkAlignLoss_but (Nat.and_self _) link s ran) rfl
  | helloSend link => exact State.but_row (execHelloSend_but (Nat.and_self _) link s ran) rfl
  | helloReceived link h => exact State.but_row (execHelloReceived_but (Nat.and_self _) link h s ran) rfl
  | helloTimeout link => exact State.but_row (execHelloTimeout_but (Nat.and_self _) link s ran) rfl
  | fabIdWrite m v => exact State.but_row (execFabIdWrite_but (Nat.and_self _) m v s ran) rfl
  | cellReceived link b bad => exact State.but_row (execCellReceived_but (Nat.and_self _) link b bad s ran) rfl
  | cellRelay link => exact State.but_row (execCellRelay_but (Nat.and_self _) link s ran) rfl
  | reorderTimeout src cls => exact State.but_row (execReorderTimeout_but (Nat.and_self _) src cls s ran) rfl
  | creditSend link => exact State.but_row (execCreditSend_but (Nat.and_self _) link s ran) rfl
  | creditReceived link freed => exact State.but_row (execCreditReceived_but (Nat.and_self _) link freed s ran) rfl
  | voqDequeue voq bad => exact State.but_row (execVoqDequeue_but (Nat.and_self _) voq bad s ran) rfl
  | fmcQueueSend cls bad => exact State.but_row (execFmcQueueSend_but (Nat.and_self _) cls bad s ran) rfl
  | requestRetry voq => exact State.but_row (execRequestRetry_but (Nat.and_self _) voq s ran) rfl
  | creditReturn voq => exact State.but_row (execCreditReturn_but (Nat.and_self _) voq s ran) rfl
  | requestReceived r => exact State.but_row (execRequestReceived_but (Nat.and_self _) r s ran) rfl
  | grantEngine => exact State.but_row (execGrantEngine_but (Nat.and_self _) s ran) rfl
  | grantReceived src cls g => exact State.but_row (execGrantReceived_but (Nat.and_self _) src cls g s ran) rfl
  | d2dTrain ok spares => exact State.but_row (execD2dTrain_but (Nat.and_self _) ok spares s ran) rfl
  | d2dReplay => exact State.but_row (execD2dReplay_but (Nat.and_self _) s ran) rfl
  | d2dChannelFail ch => exact State.but_row (execD2dChannelFail_but (Nat.and_self _) ch s ran) rfl
  | hbmInit m stack => exact State.but_row (execHbmInit_but (Nat.and_self _) m stack s ran) rfl
  | hbmInitDone stack failPc => exact State.but_row (execHbmInitDone_but (Nat.and_self _) stack failPc s ran) rfl
  | hbmDlyDataAccess m stack w => exact State.but_row (execHbmDlyDataAccess_but (Nat.and_self _) m stack w s ran) rfl
  | hbmTempRead stack reading => exact State.but_row (execHbmTempRead_but (Nat.and_self _) stack reading s ran) rfl
  | refreshWindowOpen => exact State.but_row (execRefreshWindowOpen_but (Nat.and_self _) s ran) rfl
  | refreshWindowClose stack => exact State.but_row (execRefreshWindowClose_but (Nat.and_self _) stack s ran) rfl
  | hbmCommandIssue stack q => exact State.but_row (execHbmCommandIssue_but (Nat.and_self _) stack q s ran) rfl
  | hbmReadComplete req f => exact State.but_row (execHbmReadComplete_but (Nat.and_self _) req f s ran) rfl
  | hbmWriteRetire req rmwUncorrectable => exact State.but_row (execHbmWriteRetire_but (Nat.and_self _) req rmwUncorrectable s ran) rfl
  | requestOverdue req => exact State.but_row (execRequestOverdue_but (Nat.and_self _) req s ran) rfl
  | scrubRead stack word f => exact State.but_row (execScrubRead_but (Nat.and_self _) stack word f s ran) rfl
  | drqLatMaxRead m => exact State.but_row (execDrqLatMaxRead_but (Nat.and_self _) m s ran) rfl
  | tdmDescriptorTakeup r => exact State.but_row (execTdmDescriptorTakeup_but (Nat.and_self _) r s ran) rfl
  | tdmLoad r => exact State.but_row (execTdmLoad_but (Nat.and_self _) r s ran) rfl
  | tdmWrite r => exact State.but_row (execTdmWrite_but (Nat.and_self _) r s ran) rfl
  | tdmRead writeOk => exact State.but_row (execTdmRead_but (Nat.and_self _) writeOk s ran) rfl
  | tdmInsert r bad => exact State.but_row (execTdmInsert_but (Nat.and_self _) r bad s ran) rfl
  | tdmRemove r bad => exact State.but_row (execTdmRemove_but (Nat.and_self _) r bad s ran) rfl
  | tdmStageFw r => exact State.but_row (execTdmStageFw_but (Nat.and_self _) r s ran) rfl
  | tdmBadOp => exact State.but_row (execTdmBadOp_but (Nat.and_self _) s ran) rfl
  | tdmDescriptorReadRetry r => exact State.but_row (execTdmDescriptorReadRetry_but (Nat.and_self _) r s ran) rfl
  | tdmProfileApply m => exact State.but_row (execTdmProfileApply_but (Nat.and_self _) m s ran) rfl
  | learnRequest bad => exact State.but_row (execLearnRequest_but (Nat.and_self _) bad s ran) rfl
  | lrnPostGo m => exact State.but_row (execLrnPostGo_but (Nat.and_self _) m s ran) rfl
  | lrnPostRemove m => exact State.but_row (execLrnPostRemove_but (Nat.and_self _) m s ran) rfl
  | learnAgeSweep => exact State.but_row (execLearnAgeSweep_but (Nat.and_self _) s ran) rfl
  | shadowCompare lpm exm bad => exact State.but_row (execShadowCompare_but (Nat.and_self _) lpm exm bad s ran) rfl
  | shadowConfirm r f => exact State.but_row (execShadowConfirm_but (Nat.and_self _) r f s ran) rfl
  | bar2WindowAccess addr len w => exact State.but_row (execBar2WindowAccess_but (Nat.and_self _) addr len w s ran) rfl
  | mtRequestReceived link c => exact State.but_row (execMtRequestReceived_but (Nat.and_self _) link c s ran) rfl
  | mtResponseReceived link c => exact State.but_row (execMtResponseReceived_but (Nat.and_self _) link c s ran) rfl
  | mtTimeout tag => exact State.but_row (execMtTimeout_but (Nat.and_self _) tag s ran) rfl
  | winSwap m req => exact State.but_row (execWinSwap_but (Nat.and_self _) m req s ran) rfl
  | winSwapComplete n => exact State.but_row (execWinSwapComplete_but (Nat.and_self _) n s ran) rfl
  | winSwapHoldTimeout n => exact State.but_row (execWinSwapHoldTimeout_but (Nat.and_self _) n s ran) rfl
  | userCounterRead off len => exact State.but_row (execUserCounterRead_but (Nat.and_self _) off len s ran) rfl
  | puntWrite ring entry => exact State.but_row (execPuntWrite_but (Nat.and_self _) ring entry s ran) rfl
  | injectFetch ring entry frame => exact State.but_row (execInjectFetch_but (Nat.and_self _) ring entry frame s ran) rfl
  | mirrorWrite => exact State.but_row (execMirrorWrite_but (Nat.and_self _) s ran) rfl
  | containmentEnter cause => exact State.but_row (execContainmentEnter_but (Nat.and_self _) cause s ran) rfl
  | hifContain m => exact State.but_row (execHifContain_but (Nat.and_self _) m s ran) rfl
  | hifRelease m => exact State.but_row (execHifRelease_but (Nat.and_self _) m s ran) rfl
  | puntHoldExpire => exact State.but_row (execPuntHoldExpire_but (Nat.and_self _) s ran) rfl
  | hostLinkUp gen width => exact State.but_row (execHostLinkUp_but (Nat.and_self _) gen width s ran) rfl
  | completionReceived tag last err => exact State.but_row (execCompletionReceived_but (Nat.and_self _) tag last err s ran) rfl
  | completionTimeout tag => exact State.but_row (execCompletionTimeout_but (Nat.and_self _) tag s ran) rfl
  | tagQuarantineEnd tag => exact State.but_row (execTagQuarantineEnd_but (Nat.and_self _) tag s ran) rfl
  | icuClaim core => exact State.but_row (execIcuClaim_but (Nat.and_self _) core s ran) rfl
  | icuDone core src => exact State.but_row (execIcuDone_but (Nat.and_self _) core src s ran) rfl
  | icuDoorbell m bits => exact State.but_row (execIcuDoorbell_but (Nat.and_self _) m bits s ran) rfl
  | holdoffExpire g => exact State.but_row (execHoldoffExpire_but (Nat.and_self _) g s ran) rfl
  | gpioFiltered n level => exact State.but_row (execGpioFiltered_but (Nat.and_self _) n level s ran) rfl
  | coreReset m core => exact State.but_row (execCoreReset_but (Nat.and_self _) m core s ran) rfl
  | coreHalt m core halt => exact State.but_row (execCoreHalt_but (Nat.and_self _) m core halt s ran) rfl
  | coreLoadDone core ok => exact State.but_row (execCoreLoadDone_but (Nat.and_self _) core ok s ran) rfl
  | watchdogKick m core => exact State.but_row (execWatchdogKick_but (Nat.and_self _) m core s ran) rfl
  | watchdogExpire core => exact State.but_row (execWatchdogExpire_but (Nat.and_self _) core s ran) rfl
  | agentAccessFault addr write => exact State.but_row (execAgentAccessFault_but (Nat.and_self _) addr write s ran) rfl
  | bootStart => exact State.but_row (execBootStart_but (Nat.and_self _) s ran) rfl
  | candidateAccepted => exact State.but_row (execCandidateAccepted_but (Nat.and_self _) s ran) rfl
  | flashCopy verifyOk => exact State.but_row (execFlashCopy_but (Nat.and_self _) verifyOk s ran) rfl
  | bootTraverse m => exact State.but_row (execBootTraverse_but (Nat.and_self _) m s ran) rfl
  | bootLive m => exact State.but_row (execBootLive_but (Nat.and_self _) m s ran) rfl
  | headlessTimeout => exact State.but_row (execHeadlessTimeout_but (Nat.and_self _) s ran) rfl
  | bootUnstage m => exact State.but_row (execBootUnstage_but (Nat.and_self _) m s ran) rfl
  | secAttest m => exact State.but_row (execSecAttest_but (Nat.and_self _) m s ran) rfl
  | attestDone dmaOk => exact State.but_row (execAttestDone_but (Nat.and_self _) dmaOk s ran) rfl
  | secCommit m => exact State.but_row (execSecCommit_but (Nat.and_self _) m s ran) rfl
  | commitDone ok => exact State.but_row (execCommitDone_but (Nat.and_self _) ok s ran) rfl
  | secFuseRead m => exact State.but_row (execSecFuseRead_but (Nat.and_self _) m s ran) rfl
  | gotoStandby m => exact State.but_row (execGotoStandby_but (Nat.and_self _) m s ran) rfl
  | gotoReady m => exact State.but_row (execGotoReady_but (Nat.and_self _) m s ran) rfl
  | gotoService m => exact State.but_row (execGotoService_but (Nat.and_self _) m s ran) rfl
  | gotoDrain m => exact State.but_row (execGotoDrain_but (Nat.and_self _) m s ran) rfl
  | domainSwitchOn ready => exact State.but_row (execDomainSwitchOn_but (Nat.and_self _) ready s ran) rfl
  | domainReadyTimeout => exact State.but_row (execDomainReadyTimeout_but (Nat.and_self _) s ran) rfl
  | domainSwitchOff => exact State.but_row (execDomainSwitchOff_but (Nat.and_self _) s ran) rfl
  | governorTick riseF riseT => exact State.but_row (execGovernorTick_but (Nat.and_self _) riseF riseT s ran) rfl
  | thermalRead readings => exact State.but_row (execThermalRead_but (Nat.and_self _) readings s ran) rfl
  | pgInFall n => exact State.but_row (execPgInFall_but (Nat.and_self _) n s ran) rfl
  | wake src => exact State.but_row (execWake_but (Nat.and_self _) src s ran) rfl
  | aonWakeTimer => exact State.but_row (execAonWakeTimer_but (Nat.and_self _) s ran) rfl
  | coldReset straps seat present => exact State.but_row (Host.Outcome.next.inj ran ▸ s.coldStart_but_outbox straps seat present) rfl
  | hostPerst us => exact State.but_row (execHostPerst_but (Nat.and_self _) us s ran) rfl
  | softWarm m => exact State.but_row (execSoftWarm_but (Nat.and_self _) m s ran) rfl
  | warmClearDone => exact State.but_row (execWarmClearDone_but (Nat.and_self _) s ran) rfl
  | flr => exact State.but_row (execFlr_but (Nat.and_self _) s ran) rfl
  | pmuClearAll m => exact State.but_row (execPmuClearAll_but (Nat.and_self _) m s ran) rfl
  | pmuValueWrite m hi v => exact State.but_row (execPmuValueWrite_but (Nat.and_self _) m hi v s ran) rfl
  | prbsErrRead m page lane => exact State.but_row (execPrbsErrRead_but (Nat.and_self _) m page lane s ran) rfl
  | hdmErrRead m ring => exact State.but_row (execHdmErrRead_but (Nat.and_self _) m ring s ran) rfl
  | pairPresentChange high => exact State.but_row (execPairPresentChange_but (Nat.and_self _) high s ran) rfl
  | sdrefOkChange k ok => exact State.but_row (execSdrefOkChange_but (Nat.and_self _) k ok s ran) rfl
  | pgInChange levels => exact State.but_row (execPgInChange_but (Nat.and_self _) levels s ran) rfl
  | hostPerstDeassert => exact State.but_row (execHostPerstDeassert_but (Nat.and_self _) s ran) rfl
  | hrxIdleExit => exact State.but_row (execHrxIdleExit_but (Nat.and_self _) s ran) rfl
  | busMasterEnableChange on => exact State.but_row (execBusMasterEnableChange_but (Nat.and_self _) on s ran) rfl
  | coreFatalTrap core => exact State.but_row (execCoreFatalTrap_but (Nat.and_self _) core s ran) rfl
  | profileApplyDone => exact State.but_row (execProfileApplyDone_but (Nat.and_self _) s ran) rfl
  | flrClearDone => exact State.but_row (execFlrClearDone_but (Nat.and_self _) s ran) rfl
  | blockResetDone page => exact State.but_row (execBlockResetDone_but (Nat.and_self _) page s ran) rfl
  | endOfCold => exact State.but_row (execEndOfCold_but (Nat.and_self _) s ran) rfl
  | tapClock tms tdi => exact State.but_row (execTapClock_but (Nat.and_self _) tms tdi s ran) rfl
  | pairLinkFrame b => exact State.but_row (execPairLinkFrame_but (Nat.and_self _) b s ran) rfl

/-- Settles O5: a part that the row of a command does not list is outside of the command's mask. -/
theorem eachCommandChangesItsPartsAlone : Obligations.EachCommandChangesItsPartsAlone :=
  fun c _ _ ran _ missing => Part.kept_of_but (exec_but c ran) (partsMask_testBit missing)

/-! ## A step and the queue -/

theorem step_cons {c : Instr} {rest : List Instr} (waiting : s.pending = c :: rest) : step s = exec c { s with pending := rest } := by
  rw [step, waiting]

theorem step_nil (idle : s.pending = []) : step s = .next s := by
  rw [step, idle]

/-- Settles O1. -/
theorem stepRunsTheFrontCommand : Obligations.StepRunsTheFrontCommand :=
  ⟨fun _ _ _ => step_cons, fun _ => step_nil⟩

/-- The meaning of every command is a next state. -/
theorem exec_next (c : Instr) (s : State) : ∃ t, exec c s = .next t := by
  cases c <;> exact ⟨_, rfl⟩

theorem step_next (s : State) : ∃ t, step s = .next t := by
  cases waiting : s.pending with
  | nil => exact ⟨s, step_nil waiting⟩
  | cons c rest => rw [step_cons waiting]; exact exec_next c _

/-- Settles O2: a command completes in a next state, whose queue is the one that it found. -/
theorem everyCommandCompletesAndLeavesTheQueue : Obligations.EveryCommandCompletesAndLeavesTheQueue := by
  refine ⟨fun c s => ?completes, fun n => ?safe⟩
  case completes =>
    obtain ⟨t, ran⟩ := exec_next c s
    exact ⟨t, ran, (exec_kept c ran).pending⟩
  case safe =>
    induction n with
    | zero => exact fun _ => trivial
    | succ k ih =>
      intro s
      obtain ⟨t, stepped⟩ := step_next s
      exact ⟨t, stepped, ih t⟩

end Sys2Proof.Machine
end

section
/-! SUPPORT. The test access port (R461): a clock takes the controller to its next state, and changes the port, its output and the count of
free values alone. -/
namespace Sys2Proof.Machine

variable {s : State}

theorem exec_tapClock (s : State) (tms tdi : Bool) : exec (.tapClock tms tdi) s = .next (s.tapClock tms tdi) := rfl

theorem State.tapClock_state (s : State) (tms tdi : Bool) : (s.tapClock tms tdi).tap.state = tapNext s.tap.state tms := rfl

theorem State.tapClock_rest (s : State) (tms tdi : Bool) :
    s.tapClock tms tdi = { s with
      tap := (s.tapClock tms tdi).tap, outbox := (s.tapClock tms tdi).outbox, fresh := (s.tapClock tms tdi).fresh } := by
  unfold State.tapClock
  dsimp only
  split
  case isTrue => rfl
  case isFalse =>
    split
    · rfl
    · split <;> rfl

/-- In Shift-DR outside of CHIP_PORST_L the port is its bypass register. -/
theorem State.tapClock_bypass (shifts : s.tap.state = 2) (released : s.pins.porst = false) (tms tdi : Bool) :
    s.tapClock tms tdi = { s with
      tap := { s.tap with bypass := tdi, state := tapNext 2 tms }, outbox := s.outbox ++ [.tdo s.tap.bypass] } := by
  simp [State.tapClock, shifts, released, State.emit]

theorem tapNext_five_high : ∀ st, st < 16 → tapNext (tapNext (tapNext (tapNext (tapNext st true) true) true) true) true = 15 := by
  decide

/-- Settles O60: one clock, and the controller's table for the five. -/
theorem testClocksMoveThePortAlone : Obligations.TestClocksMoveThePortAlone := by
  refine ⟨fun s tms tdi => ⟨_, exec_tapClock s tms tdi, s.tapClock_state tms tdi, s.tapClock_rest tms tdi, fun shifts released => ?_⟩,
    tapNext_five_high⟩
  rw [State.tapClock_bypass shifts released]
  exact ⟨rfl, rfl, rfl⟩

end Sys2Proof.Machine
end

section
/-! SUPPORT. The interrupt controller (R369 to R378): claims, services and hold-offs, doorbells and GPIO changes. -/
namespace Sys2Proof.Machine

variable {s t : State} {m : Master} {c src : Nat}

/-! ## A claim -/

/-- A source is in service for core c, and its PEND is cleared where it is an edge source (R373). -/
def State.claimed (s : State) (c src : Nat) : State :=
  { s with icu := { s.icu with
      insvc := setIdx s.icu.insvc c (some src)
      edge := if s.edgeSource src then without s.icu.edge src else s.icu.edge } }

theorem State.icuClaim_of_service (service : s.icu.insvc.getD c none = some src) : s.icuClaim c = (src, s.trb 0x08 5) := by
  rw [State.icuClaim, service]

theorem State.icuClaim_of_none (idle : s.icu.insvc.getD c none = none) (none : s.bestSource c = none) :
    s.icuClaim c = (0xFFFF, s.trb 0x08 3) := by
  rw [State.icuClaim, idle]
  simp only [none]

theorem State.icuClaim_of_best (idle : s.icu.insvc.getD c none = none) (best : s.bestSource c = some src) :
    s.icuClaim c = (src, s.claimed c src) := by
  rw [State.icuClaim, idle]
  simp only [best]
  rfl

theorem State.bestSource_eq_some (small : src < 128) (eligible : s.eligible c src = true) (least : ∀ k, k < src → s.eligible c k = false) :
    s.bestSource c = some src := by
  rw [State.bestSource, List.find?_range_eq_some]
  exact ⟨eligible, List.mem_range.2 small, fun k before => by simp [least k before]⟩

theorem State.bestSource_eq_none (nothing : ∀ k, k < 128 → s.eligible c k = false) : s.bestSource c = none := by
  rw [State.bestSource, List.find?_range_eq_none]
  exact fun k small => by simp [nothing k small]

/-- A claim that reaches the ICU, by the state that the access leaves: its service repeats, or the best source enters service, or neither. -/
theorem exec_icuClaim_ok (core : c < 4) (reach : s.access (coreMaster c) 0x08 (0x110 + 0x10 * c) 4 false = .ok) :
    ∃ u, s.CountsTo u ∧
      exec (.icuClaim c) s = .next ((u.icuClaim c).2.emit (.readData (coreMaster c) ((u.icuClaim c).1 % 2 ^ 32))) := by
  obtain ⟨u, counted, ran⟩ := State.onRead_ok reach (fun t => t.icuClaim c)
  exact ⟨u, counted, congrArg Host.Outcome.next ((if_pos core).trans ran)⟩

/-- A trouble increment after a change of counting alone. -/
theorem State.CountsTo.trb (counted : s.CountsTo t) (p k : Nat) : (s.trouble p k).CountsTo (t.trb p k) :=
  (counted.trouble p k).trans (t.trb_counts p k)

/-- Settles O50: the claim by what is in service and what is eligible. -/
theorem claimReturnsTheLowestEligibleSource : Obligations.ClaimReturnsTheLowestEligibleSource := by
  intro s c core reach
  obtain ⟨u, counted, ran⟩ := exec_icuClaim_ok core reach
  have icu := counted.icu
  refine ⟨u, counted, fun src idle small eligible least => ?best, fun idle nothing => ?none, fun src small service => ?service⟩
  case best =>
    rw [ran, State.icuClaim_of_best (icu ▸ idle) (State.bestSource_eq_some small eligible least), Nat.mod_eq_of_lt (by omega), State.claimed,
      icu]
  case none =>
    rw [ran, State.icuClaim_of_none (icu ▸ idle) (State.bestSource_eq_none nothing)]
    exact ⟨_, rfl, counted.trb 0x08 3⟩
  case service =>
    rw [ran, State.icuClaim_of_service (icu ▸ service), Nat.mod_eq_of_lt small]
    exact ⟨_, rfl, counted.trb 0x08 5⟩

/-! ## DONE -/

/-- The service of core c has ended and its group's hold-off, where it has one, has begun (R374, R376). -/
def State.served (s : State) (c src : Nat) : State :=
  { s with icu := { s.icu with
      insvc := setIdx s.icu.insvc c none
      held := if s.rdi Reg.ICU_HOLDOFF_g_US (src / 8) = 0 then s.icu.held else withNat s.icu.held (src / 8) } }

theorem State.icuDone_of_service (service : s.icu.insvc.getD c none = some src) : s.icuDone c src = s.served c src := if_pos service

theorem State.icuDone_of_other (other : s.icu.insvc.getD c none ≠ some src) : s.icuDone c src = s.trb 0x08 4 := if_neg other

theorem exec_icuDone_ok (core : c < 4) (reach : s.access (coreMaster c) 0x08 (0x114 + 0x10 * c) 4 true = .ok) (src : Nat) :
    ∃ u, s.CountsTo u ∧ exec (.icuDone c src) s = .next (u.icuDone c src) := by
  obtain ⟨u, counted, ran⟩ := State.onWrite_ok reach (fun t => t.icuDone c src)
  exact ⟨u, counted, congrArg Host.Outcome.next ((if_pos core).trans ran)⟩

/-! ## Pending -/

/-- A source is pending as an edge source (R370). -/
def State.pended (s : State) (src : Nat) : State := { s with icu := { s.icu with edge := withNat s.icu.edge src } }

theorem State.setPend_of_on (on : s.mode ≠ 0) (powered : s.pagePowered 0x08 = true) (src : Nat) : s.setPend src = s.pended src := by
  rw [State.setPend, if_neg on, if_pos powered]
  rfl

theorem mem_withNat_iff {l : List Nat} {n x : Nat} : x ∈ withNat l n ↔ x ∈ l ∨ x = n := by
  unfold withNat
  split
  case isTrue here =>
    have here : n ∈ l := by simpa using here
    exact ⟨Or.inl, fun either => either.elim id (fun same => same ▸ here)⟩
  case isFalse => simp

/-- Outside of STANDBY the doorbells pend one by one, which changes PEND alone. -/
theorem State.foldl_setPend (bells : List Nat) (on : s.mode ≠ 0) (powered : s.pagePowered 0x08 = true) :
    ∃ edge, bells.foldl (fun t n => t.setPend (120 + n)) s = { s with icu := { s.icu with edge := edge } } ∧
      ∀ x, x ∈ edge ↔ x ∈ s.icu.edge ∨ ∃ n ∈ bells, x = 120 + n := by
  induction bells generalizing s with
  | nil => exact ⟨s.icu.edge, rfl, by simp⟩
  | cons n bells ih =>
    obtain ⟨edge, folded, members⟩ := ih (s := s.pended (120 + n)) on powered
    refine ⟨edge, ?_, fun x => ?_⟩
    · rw [List.foldl_cons, State.setPend_of_on on powered, folded]
      rfl
    · rw [members]
      simp [State.pended, mem_withNat_iff, or_assoc]

theorem mem_bitsSet {v w n : Nat} : n ∈ bitsSet v w ↔ n < w ∧ bitN v n = 1 := by
  simp [bitsSet]

theorem exec_icuDoorbell_ok (reach : s.access m 0x08 0x1F0 4 true = .ok) (b : Byte) :
    ∃ u, s.CountsTo u ∧ exec (.icuDoorbell m b) s = .next (u.doorbell b.toNat) := by
  obtain ⟨u, counted, ran⟩ := State.onWrite_ok reach (fun t => t.doorbell b.toNat)
  exact ⟨u, counted, congrArg Host.Outcome.next ran⟩

theorem exec_holdoffExpire (s : State) (g : Nat) :
    exec (.holdoffExpire g) s = .next { s with icu := { s.icu with held := without s.icu.held g } } := rfl

/-! ## A GPIO change -/

/-- The level of GPIO n past its filter (R371). -/
def State.gpioSeen (s : State) (n : Nat) (level : Bool) : State :=
  { s with icu := { s.icu with gpioLevel := BitVec.ofNat 8 (setBit s.icu.gpioLevel.toNat n level) } }

/-- The change of GPIO n to a level is its edge (R370, R371). -/
def State.gpioEdge (s : State) (n : Nat) (level : Bool) : Prop :=
  s.rdi Reg.ICU_GPIO_n_EDGE n = 1 ∧ (level != (s.rdi Reg.ICU_GPIO_n_POL n == 1)) = true ∧ s.icu.gpioLevel.getLsbD n ≠ level

theorem exec_gpioFiltered_of_on {n : Nat} (pin : n < 8) (on : s.mode ≠ 0) (powered : s.pagePowered 0x08 = true)
    (filtered : s.rdi Reg.ICU_GPIO_n_FILT n ≠ 0) (level : Bool) :
    (s.gpioEdge n level → exec (.gpioFiltered n level) s = .next ((s.gpioSeen n level).pended (112 + n))) ∧
    (¬ s.gpioEdge n level → exec (.gpioFiltered n level) s = .next (s.gpioSeen n level)) := by
  have ran : exec (.gpioFiltered n level) s = .next (if s.rdi Reg.ICU_GPIO_n_EDGE n = 1 ∧
      (level != (s.rdi Reg.ICU_GPIO_n_POL n == 1)) = true ∧ s.icu.gpioLevel.getLsbD n ≠ level
      then (s.gpioSeen n level).setPend (112 + n) else s.gpioSeen n level) :=
    congrArg Host.Outcome.next ((if_neg (fun standby => on standby.2)).trans (if_pos ⟨pin, filtered, powered⟩))
  rw [State.setPend_of_on (s := s.gpioSeen n level) on powered] at ran
  exact ⟨fun edge => ran.trans (congrArg Host.Outcome.next (if_pos edge)), fun still => ran.trans (congrArg Host.Outcome.next (if_neg still))⟩

theorem getLsbD_ofNat_setBit_ne {w k n : Nat} (bit : k < w) (other : k ≠ n) (v : BitVec w) (b : Bool) :
    (BitVec.ofNat w (setBit v.toNat n b)).getLsbD k = v.getLsbD k := by
  have same := bitN_setBit_other v.toNat n k w b bit other
  rw [BitVec.getLsbD_ofNat, BitVec.getLsbD, Nat.testBit_eq_decide_div_mod_eq, Nat.testBit_eq_decide_div_mod_eq, ← bitN, ← bitN]
  rw [bitN_mod _ _ _ bit] at same
  simp [same, bit]

theorem State.gpioSeen_level {n k : Nat} (pin : k < 8) (s : State) (level : Bool) :
    (s.gpioSeen n level).icu.gpioLevel.getLsbD k = if k = n then level else s.icu.gpioLevel.getLsbD k := by
  split
  case isTrue same => subst same; exact getLsbD_ofNat_setBit pin _ _
  case isFalse other => exact getLsbD_ofNat_setBit_ne pin other _ _

/-- Settles O51: claims, DONE, the doorbells, hold-offs and GPIO changes, each by its lemma. -/
theorem interruptsAreServedAndPend : Obligations.InterruptsAreServedAndPend := by
  intro s
  refine ⟨fun c core => ⟨fun reach => ?claim, fun src reach => ?done⟩, fun m b reach on powered => ?doorbell, exec_holdoffExpire s,
    fun n level pin on powered filtered => ?gpio⟩
  case claim =>
    obtain ⟨u, counted, ran⟩ := exec_icuClaim_ok core reach
    have icu := counted.icu
    refine ⟨u, counted, fun idle src best => ?_, fun idle none => ?_, fun src service => ?_⟩
    · rw [State.icuClaim_of_best (icu ▸ idle) best] at ran
      exact ⟨_, ran, by rw [← icu]; rfl, by simp [State.emit], counted.regsBut []⟩
    · rw [State.icuClaim_of_none (icu ▸ idle) none] at ran
      exact ⟨_, ran, (State.trb_icu _ _ _).trans icu, by simp [State.emit], (counted.regsBut _).trb List.mem_cons_self⟩
    · rw [State.icuClaim_of_service (icu ▸ service)] at ran
      exact ⟨_, ran, (State.trb_icu _ _ _).trans icu, by simp [State.emit], (counted.regsBut _).trb List.mem_cons_self⟩
  case done =>
    obtain ⟨u, counted, ran⟩ := exec_icuDone_ok core reach src
    have icu := counted.icu
    refine ⟨fun service => ⟨u, counted, ?_⟩, fun other => ⟨_, ran, ?_⟩⟩
    · rw [ran, State.icuDone_of_service (icu ▸ service), State.served, icu]
    · rw [State.icuDone_of_other (icu ▸ other)]
      exact counted.trb 0x08 4
  case doorbell =>
    obtain ⟨u, counted, ran⟩ := exec_icuDoorbell_ok reach b
    obtain ⟨edge, rung, members⟩ :=
      State.foldl_setPend (bitsSet b.toNat 8) (counted.mode ▸ on) ((counted.pagePowered 8).trans powered)
    rw [State.doorbell, rung] at ran
    refine ⟨_, ran, counted.regsBut [], (congrArg IcuSt.insvc counted.icu :), fun x => (members x).trans ?_⟩
    simp [counted.icu, mem_bitsSet, and_assoc]
  case gpio =>
    obtain ⟨onEdge, otherwise⟩ := exec_gpioFiltered_of_on pin on powered filtered level
    by_cases edge : s.gpioEdge n level
    · exact ⟨_, onEdge edge, rfl, fun k pin => State.gpioSeen_level pin s level, fun _ _ _ => mem_withNat _ _⟩
    · refine ⟨_, otherwise edge, rfl, fun k pin => State.gpioSeen_level pin s level, fun falls active changes => absurd ?_ edge⟩
      refine ⟨falls, ?_, changes⟩
      simpa [bne_iff_ne, beq_eq_decide] using active

end Sys2Proof.Machine
end

section
/-! SUPPORT. What HBM accesses write beside the requests (R322 to R325), and what the end of a copy takes from the record of outputs: nothing
(R113, R220, R221). -/
namespace Sys2Proof.Machine

variable {s t u : State} {l : List Nat}

/-! ## Statistics counters -/

theorem State.stat_rdp_same (s : State) {p i : Nat} {f : Fld} (plain : isTele (fkey p f i) = false) (n : Nat) :
    (s.stat p f i n).rdp p f i = (s.rdp p f i + n) % 2 ^ f.width :=
  ((State.stat_counts s p f i n).rdp p f i plain).trans (State.rdp_wrp_same _ _ _ _ _)

/-! ## The record of outputs -/

/-- Nothing that was put out is taken back. -/
def State.Puts (s t : State) : Prop := s.outbox ⊆ t.outbox

theorem State.Puts.refl (s : State) : s.Puts s := List.Subset.refl _

theorem State.Puts.trans (h : s.Puts t) (g : t.Puts u) : s.Puts u := List.Subset.trans h g

/-- An update of other parts of the state. -/
theorem State.Puts.of_rest (h : s.Puts t) (same : u.outbox = t.outbox) : s.Puts u := by
  rwa [State.Puts, same]

theorem State.Puts.counts (h : s.Puts t) (counted : t.CountsTo u) : s.Puts u := h.trans counted.out.subset

theorem State.Puts.emit (h : s.Puts t) (e : Emit) : s.Puts (t.emit e) := h.trans (List.subset_append_left _ _)

theorem State.Puts.ite {c : Prop} [Decidable c] (h : s.Puts t) (g : s.Puts u) : s.Puts (if c then t else u) := by
  split
  · exact h
  · exact g

theorem State.Puts.stat (h : s.Puts t) (p : Nat) (f : Fld) (i n : Nat) : s.Puts (t.stat p f i n) :=
  State.Puts.counts (t := t.addp p f i n) (h.of_rest rfl) (t.stat_counts p f i n)

theorem State.Puts.trb (h : s.Puts t) (p k : Nat) : s.Puts (t.trb p k) :=
  State.Puts.counts (h.of_rest (t.trouble_outbox p k)) (t.trb_counts p k)

theorem State.mem_outbox_emit (s : State) (e : Emit) : e ∈ (s.emit e).outbox := List.mem_append_right _ (List.mem_singleton_self e)

/-! ## HBM accesses -/

theorem State.RegsBut.pmu' (h : s.RegsBut l t) (p loc amt : Nat) (master cls addr : Option Nat) :
    s.RegsBut l (t.pmu' p loc amt master cls addr) := h.counts (State.pmuEvent_counts _ _ _)

theorem State.RegsBut.statEvent (h : s.RegsBut l t) (p : Nat) (f : Fld) (i n : Nat) : s.RegsBut l (t.statEvent p f i n) :=
  .ite (h.pmu' _ _ _ _ _ _) h

/-- An update of other parts of the state. -/
theorem State.RegsBut.of_rest (h : s.RegsBut l t) (same : u.regs = t.regs) : s.RegsBut l u := h.trans (.of_regs same)

section
variable (listed : Reg.DRQ_INORDER.key 0 ∈ l)
include listed

theorem State.RegsBut.drqTake (h : s.RegsBut l t) (r : HbmReq) : s.RegsBut l (t.drqTake r) := by
  unfold State.drqTake
  refine ((State.RegsBut.ite (State.RegsBut.stat ?_ 1 listed) ?_).statEvent _ _ _ _).pmu' _ _ _ _ _ _
  all_goals exact .ite (h.of_rest rfl) (h.of_rest rfl)

theorem State.RegsBut.drqAdmit (h : s.RegsBut l t) (waiting : List HbmReq) (blocked : List Nat) (kept : List HbmReq) :
    s.RegsBut l (drqAdmit waiting t blocked kept).1 := by
  induction waiting generalizing t blocked kept with
  | nil => exact h
  | cons r waiting ih =>
    unfold Machine.drqAdmit
    split
    · exact ih h _ _
    · exact ih (h.drqTake listed r) _ _

theorem State.RegsBut.drqSettle (h : s.RegsBut l t) : s.RegsBut l t.drqSettle := by
  have emptied : s.RegsBut l { t with hbm := { t.hbm with waiting := [] } } := h.of_rest rfl
  exact (emptied.drqAdmit listed t.hbm.waiting [] []).of_rest rfl

theorem State.RegsBut.drqAsk (h : s.RegsBut l t) (port addr : Nat) (write part : Bool) : s.RegsBut l (t.drqAsk port addr write part) :=
  .ite (State.RegsBut.drqSettle listed (h.of_rest rfl)) h

theorem State.RegsBut.drqWords (h : s.RegsBut l t) (n port lo hi w : Nat) (write : Bool) :
    s.RegsBut l (State.drqWords n t port lo hi w write) := by
  induction n generalizing t w with
  | zero => exact h
  | succ n ih => exact ih (h.drqAsk listed _ _ _ _) _

theorem State.RegsBut.drqAccess (h : s.RegsBut l t) (port addr len : Nat) (write : Bool) :
    s.RegsBut l (t.drqAccess port addr len write) :=
  .ite h (h.drqWords listed _ _ _ _ _ _)

theorem State.RegsBut.drqSomewhere (h : s.RegsBut l t) (port base size len : Nat) (write : Bool) :
    s.RegsBut l (t.drqSomewhere port base size len write) :=
  State.RegsBut.drqAccess listed (t := t.draw) (h.of_rest rfl) _ _ _ _

theorem State.RegsBut.bufRead (h : s.RegsBut l t) (bid : Nat) : s.RegsBut l (t.bufRead bid) := by
  unfold State.bufRead
  split
  · exact h.drqAccess listed _ _ _ _
  · exact h

end

theorem State.Puts.drqAccess (h : s.Puts t) (port addr len : Nat) (write : Bool) : s.Puts (t.drqAccess port addr len write) :=
  h.trans ((State.ExmKept.refl t).drqAccess port addr len write).out

/-! ## The end of a copy -/

theorem State.Puts.fcUpdate (h : s.Puts t) (p : Nat) : s.Puts (t.fcUpdate p) := by
  unfold State.fcUpdate
  dsimp only
  refine .ite h (.ite (h.of_rest rfl) (.ite (.ite ?_ (.ite ?_ (h.of_rest rfl))) (.ite ?_ (h.of_rest rfl))))
  all_goals exact State.Puts.emit (h.of_rest rfl) _

theorem State.Puts.evalBp (h : s.Puts t) (p c : Nat) : s.Puts (t.evalBp p c) := by
  unfold State.evalBp
  dsimp only
  refine .ite h (.ite (State.Puts.fcUpdate ?_ p) ?_)
  all_goals exact h.of_rest rfl

theorem State.Puts.occSub (h : s.Puts t) (fabric : Bool) (p c n : Nat) : s.Puts (t.occSub fabric p c n) := by
  refine .ite ?_ (State.Puts.evalBp ?_ p c)
  all_goals exact h.of_rest rfl

theorem State.Puts.freeBuffer (h : s.Puts t) (b : Buffer) : s.Puts (t.freeBuffer b) := by
  refine State.Puts.occSub ?_ _ _ _ _
  exact h.of_rest rfl

theorem State.Puts.unref (h : s.Puts t) (bid : Nat) : s.Puts (t.unref bid) := by
  unfold State.unref
  split
  · exact h.trb 0x50 6
  · exact .ite (h.trb 0x50 6) (.ite (h.freeBuffer _) (h.of_rest rfl))

theorem State.Puts.holdCount (h : s.Puts t) (mirror ring : Option Nat) (up : Bool) : s.Puts (t.holdCount mirror ring up) :=
  h.of_rest (State.of_but_outbox (t.holdCount_but (u := 2048) (by decide) mirror ring up) (by decide))

theorem State.Puts.dropEnt (h : s.Puts t) (e : QEnt) (ring : Option Nat) : s.Puts (t.dropEnt e ring) := by
  have drawn : s.Puts (t.holdCount e.mirror ring false).draw := (h.holdCount e.mirror ring false).of_rest rfl
  refine State.Puts.unref ?_ e.bid
  exact (drawn.drqAccess 2 _ 16 false).of_rest rfl

end Sys2Proof.Machine
end

section
/-! SUPPORT. The host interface: containment and its release (R352 to R354), and the tags of the device's own reads (R355, R356). -/
namespace Sys2Proof.Machine

variable {s t : State} {m : Master}

/-! ## Containment -/

/-- CONTAINED and its cause are shown, and the entry is counted (R352). -/
def State.containNoted (s : State) (cause : Nat) : State :=
  ((s.wr Reg.HIF_STAT_CONTAINED 1).wr Reg.HIF_STAT_CAUSE cause).trb 0x0B 7

/-- The interface once it has entered CONTAINED, while its hold runs (R352, R353). -/
def State.containHeld (s : State) (cause : Nat) : State :=
  { (s.containNoted cause).tdmContain with
    host := { (s.containNoted cause).host with holdFrom := (s.containNoted cause).ns, holdOver := false } }

theorem State.containNoted_rd (s : State) {cause : Nat} {f : Fld} (plain : isTele (fkey f.pg f 0) = false)
    (contained : fkey Reg.HIF_STAT_CONTAINED.pg Reg.HIF_STAT_CONTAINED 0 ≠ fkey f.pg f 0)
    (cause' : fkey Reg.HIF_STAT_CAUSE.pg Reg.HIF_STAT_CAUSE 0 ≠ fkey f.pg f 0) (counter : fkey f.pg f 0 ≠ trbKey 0x0B 7) :
    (s.containNoted cause).rd f = s.rd f := by
  rw [State.containNoted, State.trb_rd _ _ _ _ plain counter, State.rd_wr_ne cause', State.rd_wr_ne contained]

theorem State.containHeld_regs (s : State) (cause : Nat) : (s.containHeld cause).regs = (s.containNoted cause).regs := by
  rw [State.containHeld, State.tdmContain]

theorem State.containEnter_of_hold (free : s.contained = false) (hold : s.rd Reg.HIF_HOLD_MS ≠ 0) (cause : Nat) :
    s.containEnter cause = s.containHeld cause := by
  have held : (s.containHeld cause).rd Reg.HIF_HOLD_MS ≠ 0 := by
    rwa [State.rd_of_regs (s.containHeld_regs cause), s.containNoted_rd (by decide) (by decide) (by decide) (by decide)]
  rw [State.containEnter, if_neg (by simp [free])]
  exact if_neg held

/-- CONTAINED with its cause, DMA stopped, and the descriptor in progress abandoned (R352, R353). -/
structure State.Contained (cause : Nat) (s t : State) : Prop where
  contained : t.contained = true
  cause : t.rd Reg.HIF_STAT_CAUSE = cause
  abandoned : t.tdm.abandoned = s.tdm.cur.isSome
  holdOver : t.host.holdOver = false

theorem State.Contained.dmaOk {cause : Nat} (shown : s.Contained cause t) : t.dmaOk = false := by
  rw [State.dmaOk, shown.contained]
  simp

theorem State.containNoted_tdm (s : State) (cause : Nat) : (s.containNoted cause).tdm = s.tdm := State.trb_tdm _ _ _

theorem State.containNoted_host (s : State) (cause : Nat) : (s.containNoted cause).host = s.host := State.trb_host _ _ _

theorem State.containHeld_tdm (s : State) (cause : Nat) : (s.containHeld cause).tdm = { s.tdm with abandoned := s.tdm.cur.isSome } := by
  rw [State.containHeld, State.tdmContain, s.containNoted_tdm]

theorem State.containHeld_host (s : State) (cause : Nat) :
    (s.containHeld cause).host = { s.host with holdFrom := (s.containNoted cause).ns, holdOver := false } := by
  rw [State.containHeld, s.containNoted_host]

theorem State.containHeld_contained (s : State) {cause : Nat} (code : cause < 8) : s.Contained cause (s.containHeld cause) where
  contained := by
    rw [State.contained, State.rdb_of_regs (s.containHeld_regs cause), State.containNoted, State.trb_rdb _ _ _ _ (by decide) (by decide),
      State.wr_rdb_ne (by decide), State.wr_rdb_same]
    rfl
  cause := by
    rw [State.rd_of_regs (s.containHeld_regs cause), State.containNoted, State.trb_rd _ _ _ _ (by decide) (by decide), State.rd_wr_same]
    exact Nat.mod_eq_of_lt code
  abandoned := by rw [s.containHeld_tdm]
  holdOver := by rw [s.containHeld_host]

theorem State.containHeld_bme (s : State) (cause : Nat) : (s.containHeld cause).host.bme = s.host.bme := by
  rw [s.containHeld_host]

/-- Taking the link down leaves what containment shows. -/
theorem State.Contained.hostLinkDown {cause : Nat} (shown : s.Contained cause t) : s.Contained cause t.hostLinkDown where
  contained := by
    rw [State.contained, State.hostLinkDown, State.wr_rdb_ne (by decide), State.wr_rdb_ne (by decide), State.wr_rdb_ne (by decide)]
    exact shown.contained
  cause := by
    rw [State.hostLinkDown, State.rd_wr_ne (by decide), State.rd_wr_ne (by decide), State.rd_wr_ne (by decide)]
    exact shown.cause
  abandoned := shown.abandoned
  holdOver := shown.holdOver

theorem State.hostLinkDown_linkUp (s : State) : s.hostLinkDown.rd Reg.HIF_STAT_LINK_UP = 0 := by
  rw [State.hostLinkDown, State.rd_wr_ne (by decide), State.rd_wr_ne (by decide), State.rd_wr_same]
  rfl

theorem exec_containmentEnter_ok {cause : Nat} (first : 1 ≤ cause) (last : cause ≤ 6) (powered : s.pagePowered 0x0B = true) :
    exec (.containmentEnter cause) s =
      .next (if cause = 1 then (s.containEnter cause).hostLinkDown else s.containEnter cause) :=
  congrArg Host.Outcome.next (if_pos ⟨first, last, powered⟩)

theorem exec_hifContain_ok (reach : s.access m 0x0B 0x104 4 true = .ok) :
    ∃ u, s.CountsTo u ∧ exec (.hifContain m) s = .next (u.containEnter 6) := by
  obtain ⟨u, counted, ran⟩ := State.onWrite_ok reach (fun t => t.containEnter 6)
  exact ⟨u, counted, congrArg Host.Outcome.next ran⟩

theorem exec_hifRelease_ok (reach : s.access m 0x0B 0x104 4 true = .ok) :
    ∃ u, s.CountsTo u ∧ exec (.hifRelease m) s = .next u.containRelease := by
  obtain ⟨u, counted, ran⟩ := State.onWrite_ok reach State.containRelease
  exact ⟨u, counted, congrArg Host.Outcome.next ran⟩

theorem State.containRelease_of_down (down : s.rd Reg.HIF_STAT_LINK_UP = 0) : s.containRelease = s.trb 0x0B 9 := if_pos down

theorem State.tdmRelease_of_idle (idle : s.tdm.cur = none) : s.tdmRelease = s := by
  rw [State.tdmRelease, idle]

/-- The interface once containment has ended (R354). -/
def State.containEnded (s : State) : State :=
  { s.wr Reg.HIF_STAT_CONTAINED 0 with host := { s.host with holdOver := false } }

theorem State.containRelease_of_idle (up : s.rd Reg.HIF_STAT_LINK_UP = 1) (contained : s.contained = true) (idle : s.tdm.cur = none) :
    s.containRelease = s.containEnded :=
  ((if_neg (by rw [up]; decide)).trans (if_pos contained)).trans (State.tdmRelease_of_idle (s := s.containEnded) idle)

theorem State.containEnded_contained (s : State) : s.containEnded.contained = false := State.wr_rdb_same s Reg.HIF_STAT_CONTAINED 0

theorem State.CountsTo.contained (counted : s.CountsTo t) : t.contained = s.contained := counted.rdb _ (by decide)

/-! ## The end of the hold -/

/-- The packets that wait on one ring go, and no other ring changes. -/
theorem State.discardRing_q (s : State) (r : Nat) : (s.discardRing r).q = { s.q with punt := s.q.punt.set [] r [] } := by
  have dropped : ∀ (t : State) (e : QEnt), ((t.puntDiscard r).dropEnt e (some r)).but 3238135937 = t.but 3238135937 := fun t e =>
    (State.dropEnt_but (by decide) _ e _).trans (State.puntDiscard_but (by decide) t r)
  have q : ((s.puntOf r).foldl (fun t e => (t.puntDiscard r).dropEnt e (some r)) s).q = s.q :=
    State.of_but_q (State.but_foldl dropped _ s) (by decide)
  rw [State.discardRing, State.setPunt, q]

theorem State.foldl_discardRing_punt (rings : List Nat) (s : State) (r : Nat) :
    (rings.foldl State.discardRing s).puntOf r = if r ∈ rings then [] else s.puntOf r := by
  induction rings generalizing s with
  | nil => rfl
  | cons k rings ih =>
    rw [List.foldl_cons, ih]
    by_cases here : r = k
    · subst here
      simp [State.puntOf, State.discardRing_q]
    · simp [State.puntOf, State.discardRing_q, SMap.get_set_ne (Ne.symm here), here]

theorem State.holdExpired_punt {r : Nat} (ring : r < 16) (s : State) : s.holdExpired.puntOf r = [] :=
  (State.foldl_discardRing_punt _ _ r).trans (if_pos (List.mem_range.2 ring))

theorem State.holdExpired_host (s : State) : s.holdExpired.host = { s.host with holdOver := true } := by
  have dropped : ∀ (t : State) (r : Nat), (t.discardRing r).but 3238140033 = t.but 3238140033 := fun t r => State.discardRing_but (by decide) t r
  exact State.of_but_host (State.but_foldl dropped _ _) (by decide)

theorem exec_puntHoldExpire_due (contained : s.contained = true) (running : s.host.holdOver = false)
    (due : s.host.holdFrom + s.rd Reg.HIF_HOLD_MS * 1000000 ≤ s.ns) : exec .puntHoldExpire s = .next s.holdExpired :=
  congrArg Host.Outcome.next (if_pos ⟨contained, by simp [running], due⟩)

/-! ## The link and Bus Master Enable -/

/-- A link that is up, its speed and its width (R354, R361). -/
def State.linkShown (s : State) (gen width : Nat) : State :=
  ((s.wr Reg.HIF_STAT_LINK_UP 1).wr Reg.HIF_STAT_SPEED gen).wr Reg.HIF_STAT_WIDTH width

theorem exec_hostLinkUp_ok {gen width : Nat} (powered : s.pagePowered 0x0B = true) (first : 1 ≤ gen) (last : gen ≤ 5)
    (width' : [1, 2, 4, 8].contains width = true) : exec (.hostLinkUp gen width) s = .next (s.linkShown gen width) :=
  congrArg Host.Outcome.next (if_pos ⟨powered, first, last, width'⟩)

theorem State.linkShown_linkUp (s : State) (gen width : Nat) : (s.linkShown gen width).rd Reg.HIF_STAT_LINK_UP = 1 := by
  rw [State.linkShown, State.rd_wr_ne (by decide), State.rd_wr_ne (by decide), State.rd_wr_same]
  rfl

theorem State.linkShown_speed {gen : Nat} (small : gen < 8) (s : State) (width : Nat) : (s.linkShown gen width).rd Reg.HIF_STAT_SPEED = gen := by
  rw [State.linkShown, State.rd_wr_ne (by decide), State.rd_wr_same]
  exact Nat.mod_eq_of_lt small

theorem State.linkShown_width {width : Nat} (small : width < 16) (s : State) (gen : Nat) : (s.linkShown gen width).rd Reg.HIF_STAT_WIDTH = width := by
  rw [State.linkShown, State.rd_wr_same]
  exact Nat.mod_eq_of_lt small

theorem exec_busMasterEnableChange_up (up : s.rd Reg.HIF_STAT_LINK_UP = 1) (on : Bool) :
    exec (.busMasterEnableChange on) s = .next (if on then State.tdmRelease { s with host := { s.host with bme := on } }
      else { s with host := { s.host with bme := on } }) :=
  congrArg Host.Outcome.next (if_pos up)

theorem State.tdmRelease_bme (s : State) (on : Bool) :
    (State.tdmRelease { s with host := { s.host with bme := on } }).host.bme = on := by
  rw [State.of_but_host (State.tdmRelease_but (u := 2197815297) (by decide) _) (by decide)]

/-- Settles O47: containment by its entry, release and hold, the link's status, and the write of Bus Master Enable. -/
theorem containmentStopsAndReleasesTheHost : Obligations.ContainmentStopsAndReleasesTheHost := by
  intro s
  refine ⟨fun cause first last powered free hold => ?enter, fun m reach => ⟨fun free hold => ?contain, fun contained up idle => ?release,
    fun down => ?count⟩, fun contained running due => ?expire, fun gen width powered first last lanes => ?link, fun on up => ?master⟩
  case enter =>
    have ran := exec_containmentEnter_ok first last powered
    have shown := s.containHeld_contained (cause := cause) (by omega)
    rw [State.containEnter_of_hold free hold] at ran
    by_cases linkDown : cause = 1
    · rw [if_pos linkDown] at ran
      have shown := shown.hostLinkDown
      exact ⟨_, ran, shown.contained, shown.cause, shown.dmaOk, shown.abandoned, shown.holdOver,
        fun _ => ⟨rfl, State.hostLinkDown_linkUp _⟩, fun other => absurd linkDown other⟩
    · rw [if_neg linkDown] at ran
      exact ⟨_, ran, shown.contained, shown.cause, shown.dmaOk, shown.abandoned, shown.holdOver,
        fun same => absurd same linkDown, fun _ => s.containHeld_bme cause⟩
  case contain =>
    obtain ⟨u, counted, ran⟩ := exec_hifContain_ok reach
    rw [State.containEnter_of_hold (counted.contained.trans free) (by rwa [counted.rd _ (by decide)])] at ran
    have shown := u.containHeld_contained (cause := 6) (by decide)
    exact ⟨_, ran, shown.contained, shown.cause, shown.dmaOk, by rw [shown.abandoned, counted.tdm]⟩
  case release =>
    obtain ⟨u, counted, ran⟩ := exec_hifRelease_ok reach
    rw [State.containRelease_of_idle (by rwa [counted.rd _ (by decide)]) (counted.contained.trans contained) (by rw [counted.tdm, idle])] at ran
    exact ⟨_, ran, u.containEnded_contained⟩
  case count =>
    obtain ⟨u, counted, ran⟩ := exec_hifRelease_ok reach
    rw [State.containRelease_of_down (by rwa [counted.rd _ (by decide)])] at ran
    exact ⟨_, ran, counted.trb 0x0B 9⟩
  case expire =>
    exact ⟨_, exec_puntHoldExpire_due contained running due, by rw [s.holdExpired_host], fun r ring => s.holdExpired_punt ring⟩
  case link =>
    have narrow : width < 16 := by
      simp at lanes
      omega
    exact ⟨_, exec_hostLinkUp_ok powered first last lanes, s.linkShown_linkUp gen width, s.linkShown_speed (by omega) width,
      s.linkShown_width narrow gen, (((State.RegsBut.refl _ s).wr 1 (by decide)).wr gen (by decide)).wr width (by decide)⟩
  case master =>
    have ran := exec_busMasterEnableChange_up up on
    cases on with
    | true => exact ⟨_, ran, s.tdmRelease_bme true, fun off => absurd off (by decide)⟩
    | false => exact ⟨_, ran, rfl, fun _ => rfl⟩

/-! ## Tags of the device's own reads -/

/-- A read's tag is in quarantine from now on (R355, R356). -/
def State.tagQuarantined (s : State) (tag us : Nat) : State :=
  { s with host := { s.host with tags := s.host.tags.erase tag, quarantine := s.host.quarantine.insert tag (s.ns, us) } }

/-- A tag has its answer (R355). -/
def State.tagAnswered (s : State) (tag : Nat) : State := { s with host := { s.host with tags := s.host.tags.erase tag } }

theorem exec_completionTimeout_due {tag at_ us : Nat} (outstanding : s.host.tags.lookup tag = some (at_, us)) (limit : us ≠ 0)
    (due : at_ + us * 1000 ≤ s.ns) :
    exec (.completionTimeout tag) s = .next (((s.tagQuarantined tag us).stat 0x0B Reg.HIF_CTO_CNT 0 1).trb 0x0B 4) := by
  refine congrArg Host.Outcome.next ?_
  rw [State.tagTimeout, outstanding]
  exact if_pos ⟨limit, due⟩

theorem exec_completionReceived_powered (powered : s.pagePowered 0x0B = true) (tag : Nat) (last err : Bool) :
    exec (.completionReceived tag last err) s = .next (s.tagCompletion tag last err) :=
  congrArg Host.Outcome.next (if_pos powered)

theorem State.tagCompletion_late {tag : Nat} (late : (s.host.quarantine.lookup tag).isSome = true) (last err : Bool) :
    s.tagCompletion tag last err = (s.stat 0x0B Reg.HIF_LATE_CPL 0 1).trb 0x0B 5 := if_pos late

theorem State.tagCompletion_last {tag : Nat} (fresh : s.host.quarantine.lookup tag = none)
    (outstanding : (s.host.tags.lookup tag).isSome = true) (err : Bool) :
    s.tagCompletion tag true err = (if err then s.trb 0x0B 4 else s).tagAnswered tag := by
  rw [State.tagCompletion, fresh, if_neg (by simp), if_pos outstanding]
  exact if_pos (.inl rfl)

theorem State.tagCompletion_unknown {tag : Nat} (fresh : s.host.quarantine.lookup tag = none) (unknown : s.host.tags.lookup tag = none)
    (last err : Bool) : s.tagCompletion tag last err = s.trb 0x0B 6 := by
  rw [State.tagCompletion, fresh, if_neg (by simp), unknown, if_neg (by simp)]

theorem exec_tagQuarantineEnd_due {tag at_ us : Nat} (quarantined : s.host.quarantine.lookup tag = some (at_, us))
    (due : at_ + us * 1000 ≤ s.ns) :
    exec (.tagQuarantineEnd tag) s = .next { s with host := { s.host with quarantine := s.host.quarantine.erase tag } } := by
  refine congrArg Host.Outcome.next ?_
  simp only [quarantined]
  exact if_pos due

theorem exec_userCounterRead_whole {n : Nat} (free : s.contained = false) (shown : n < 512) :
    exec (.userCounterRead (8 * n) 8) s = .next (s.emit (.readData .host (s.userCounter n))) := by
  have place : 8 * n / 8 = n := by omega
  have served : s.userRead (8 * n) 8 = s.emit (.readData .host (s.userCounter (8 * n / 8))) := (if_neg (by omega)).trans (if_pos rfl)
  rw [place] at served
  refine congrArg Host.Outcome.next ((if_neg ?_).trans served)
  simp [free]
  omega

/-- Settles O48: timeouts, completions and ends of quarantine of a tag, and the user counters. -/
theorem readTagsTimeOutAndRecover : Obligations.ReadTagsTimeOutAndRecover := by
  intro s
  refine ⟨fun tag at_ us outstanding limit due => ⟨_, exec_completionTimeout_due outstanding limit due, ?_, ?_, ?_⟩,
    fun tag powered => ⟨fun late last err => ⟨_, exec_completionReceived_powered powered tag last err, ?_⟩, fun fresh outstanding err =>
      ⟨_, exec_completionReceived_powered powered tag true err, ?_⟩, fun fresh unknown last err =>
      ⟨_, exec_completionReceived_powered powered tag last err, ?_⟩⟩,
    fun tag at_ us quarantined due => ⟨_, exec_tagQuarantineEnd_due quarantined due, SMap.lookup_erase_same _ _, rfl, rfl⟩,
    fun n free shown => exec_userCounterRead_whole free shown⟩
  · simp [State.tagQuarantined]
  · simp [State.tagQuarantined]
  · rw [State.trb_rd _ _ _ _ (by decide) (by decide)]
    exact State.stat_rdp_same (s.tagQuarantined tag us) (f := Reg.HIF_CTO_CNT) (i := 0) (by decide) 1
  · rw [State.tagCompletion_late late]
    refine ⟨(State.trb_host _ _ _).trans (State.stat_host _ _ _ _ _), ?_⟩
    rw [State.trb_rd _ _ _ _ (by decide) (by decide)]
    exact State.stat_rdp_same s (f := Reg.HIF_LATE_CPL) (i := 0) (by decide) 1
  · rw [State.tagCompletion_last fresh outstanding]
    exact SMap.lookup_erase_same _ _
  · rw [State.tagCompletion_unknown fresh unknown]
    exact State.trb_counts s 0x0B 6

end Sys2Proof.Machine
end

section
/-! SUPPORT. The rings of host memory and the status mirror (R343 to R347, R350, R351): a punted packet, an injected frame, and the writes of
one mirror. -/
namespace Sys2Proof.Machine

variable {s t : State} {ring k : Nat}

/-! ## Ring registers -/

theorem hdmBase_plain {i : Nat} (ring : i < 36) : isTele (fkey Reg.HDM_BASE_i.pg Reg.HDM_BASE_i i) = false := by
  have all : ∀ i, i < 36 → isTele (fkey Reg.HDM_BASE_i.pg Reg.HDM_BASE_i i) = false := by decide
  exact all i ring

/-- Registers of other pages do not move a ring. -/
theorem State.RegsBut.entryAddr {l : List Nat} (h : s.RegsBut l t) {i : Nat} (ring : i < 36) (other : Reg.HDM_BASE_i.key i ∉ l) (k : Nat) :
    t.entryAddr i k = s.entryAddr i k :=
  congrArg (fun base => base + 32 * k) (h.lookup (hdmBase_plain ring) other)

theorem hdmBase_ne_drqInorder (i : Nat) : Reg.HDM_BASE_i.key i ∉ [Reg.DRQ_INORDER.key 0] := by
  simp only [List.mem_singleton, Fld.key, fkey, Reg.HDM_BASE_i, Reg.DRQ_INORDER]
  omega

theorem State.puntOf_of_q (same : t.q = s.q) (r : Nat) : t.puntOf r = s.puntOf r := congrArg (fun q : QueueSt => q.punt.get [] r) same

/-! ## Punt -/

/-- The punted packet has left its queue and been read from its buffer (R345). -/
def State.puntTaken (s : State) (ring : Nat) (e : QEnt) (rest : List QEnt) : State := (s.setPunt ring rest).bufRead e.bid

/-- The packet and its entry are written to host memory (R51, R344, R345). -/
def State.puntWritten (s : State) (ring k addr : Nat) (data : Bytes) (entry : List Nat) : State :=
  (s.emit (.hostWrite addr data)).emit (.hostWrite (s.entryAddr ring k + 4) (dwords entry))

/-- The ring's index moves on, the packet is counted, and its copy ends (R221, R343). -/
def State.puntDone (s : State) (ring k : Nat) (e : QEnt) : State :=
  ((s.devNext ring k).stat 0x0C Reg.HDM_PUNTS 0 1).dropEnt e (some ring)

theorem State.puntInto_own {x : Buffer} (own : x.pkt.srcDev = s.devId) (len addr : Nat) (e : QEnt) (rest : List QEnt) :
    s.puntInto ring k len addr e rest x =
      ((s.puntTaken ring e rest).puntWritten ring k addr
        ((tcEgress x.pkt.tcOpen x.pkt.trx x.pkt.bytes).take (min len (tcEgress x.pkt.tcOpen x.pkt.trx x.pkt.bytes).length))
        (puntDwords e x.pkt (min len (tcEgress x.pkt.tcOpen x.pkt.trx x.pkt.bytes).length)
          (tcEgress x.pkt.tcOpen x.pkt.trx x.pkt.bytes).length addr x.pkt.trx)).puntDone ring k e := by
  simp only [State.puntInto, if_pos own]
  rfl

theorem State.puntTaken_punt (s : State) (ring : Nat) (e : QEnt) (rest : List QEnt) : (s.puntTaken ring e rest).puntOf ring = rest :=
  (State.puntOf_of_q (State.of_but_q (State.bufRead_but (u := 2164391937) (by decide) _ e.bid) (by decide)) ring).trans
    (SMap.get_set_same _ _ _ _)

theorem State.puntTaken_entryAddr (below : ring < 36) (e : QEnt) (rest : List QEnt) :
    (s.puntTaken ring e rest).entryAddr ring k = s.entryAddr ring k :=
  (State.RegsBut.bufRead List.mem_cons_self (.of_regs rfl) e.bid).entryAddr below (hdmBase_ne_drqInorder ring) k

theorem State.puntDone_q (s : State) (ring k : Nat) (e : QEnt) : (s.puntDone ring k e).q = s.q :=
  (State.of_but_q (State.dropEnt_but (u := 3238135937) (by decide) _ e _) (by decide)).trans (State.stat_q _ _ _ _ _)

theorem State.Puts.puntDone (h : s.Puts t) (ring k : Nat) (e : QEnt) : s.Puts (t.puntDone ring k e) := by
  refine State.Puts.dropEnt (State.Puts.stat ?_ _ _ _ _) e _
  exact h.of_rest rfl

theorem exec_puntWrite_served {b : Bytes} {e : QEnt} {rest : List QEnt} {x : Buffer} (entry : s.ringEntry ring = some k) (below : ring < 16)
    (waits : s.puntOf ring = e :: rest) (buffer : s.buffer e.bid = some x) (whole : b.length = 32) (some' : leAt b 0 2 ≠ 0)
    (lines : leAt b 0 2 % 64 = 0) (aligned : leAt b 8 8 % 64 = 0) :
    exec (.puntWrite ring (.ok b)) s = .next (s.puntInto ring k (leAt b 0 2) (leAt b 8 8) e rest x) := by
  refine congrArg Host.Outcome.next ?_
  simp only [entry, waits]
  rw [if_pos ⟨below, by simp⟩, State.puntServe, hostBytes_of_length whole]
  simp only [waits, buffer]
  rw [if_neg some', if_neg (by omega)]

/-! ## Inject -/

/-- What a fetched frame of at least 60 bytes enters its pipeline as (R347). -/
def State.injected (s : State) (f : Bytes) (cls meta16 : Nat) (direct : Option Nat) : InFrame :=
  { pid := s.path.nextPid, bytes := withFcs f, whole := true, badFcs := false, cls := cls, ecpri := false, trx := s.frac, meta16 := meta16,
    direct := direct }

/-- The next packet takes the next number. -/
def State.numbered (s : State) : State := { s with path := { s.path with nextPid := s.path.nextPid + 1 } }

theorem padTo_of_long {f : Bytes} (long : 60 ≤ f.length) : padTo (max 60 f.length) f = f := by
  rw [max_eq_right long, padTo, List.take_length, Nat.sub_self]
  exact List.append_nil f

/-- An input without a network port answers nothing to its fill level, so a frame that fits is all that changes (R110). -/
theorem State.fifoPut_of_room {p : Nat} (inner : 128 ≤ p) {f : InFrame} (room : (s.port p).fill + f.bytes.length ≤ s.fifoSize p) :
    s.fifoPut p f = s.setPort p { s.port p with fifo := (s.port p).fifo ++ [f] } :=
  (if_neg (Nat.not_lt.2 room)).trans (if_neg (Nat.not_lt.2 inner))

theorem length_withFcs (f : Bytes) : (withFcs f).length = f.length + 4 := by
  simp [withFcs, toLe]

theorem State.injectFrame_of_room {f : Bytes} (long : 60 ≤ f.length) (short : f.length ≤ 16124) (room : s.injectRoom ring = true)
    (cls meta16 : Nat) (direct : Option Nat) :
    s.injectFrame ring f cls meta16 direct = s.numbered.setPort (injectInput ring)
      { s.port (injectInput ring) with fifo := (s.port (injectInput ring)).fifo ++ [s.injected f cls meta16 direct] } := by
  have fits : (s.port (injectInput ring)).fill + (withFcs f).length ≤ s.fifoSize (injectInput ring) := by
    have room : (s.port (injectInput ring)).fill + 16128 ≤ s.fifoSize (injectInput ring) := by simpa [State.injectRoom] using room
    rw [length_withFcs]
    omega
  rw [State.injectFrame, padTo_of_long long]
  exact State.fifoPut_of_room (s := s.numbered) (by unfold injectInput; omega) fits

/-- The entry's frame waits in the input of pipeline `ring` (R347). -/
def State.injectWaits (s : State) (ring : Nat) (x : InFrame) : State :=
  s.numbered.setPort (injectInput ring) { s.port (injectInput ring) with fifo := (s.port (injectInput ring)).fifo ++ [x] }

/-- The frame is counted and its entry completed (R343, R346). -/
def State.injectDone (s : State) (ring k : Nat) : State := (s.stat 0x0C Reg.HDM_INJECTS 0 1).entryDone (16 + ring) k 0

theorem exec_injectFetch_served {b f : Bytes} (entry : s.ringEntry (16 + ring) = some k) (below : ring < 16)
    (runs : s.runs (0x20 + ring) = true) (room : s.injectRoom ring = true) (goes : s.injectStopped ring = false) (whole : b.length = 32)
    (length : bits (leAt b 0 4) 13 0 = f.length) (long : 60 ≤ f.length) (short : f.length ≤ 16124) (aligned : leAt b 8 8 % 64 = 0)
    (routed : bitN (leAt b 0 4) 16 = 0) :
    exec (.injectFetch ring (.ok b) (.ok f)) s = .next ((s.injectWaits ring
      (s.injected f (s.rdi Reg.HDM_CTL_i_CLASS (16 + ring)) (leAt b 20 2) none)).injectDone ring k) := by
  refine congrArg Host.Outcome.next ?_
  simp only [entry]
  rw [if_pos ⟨below, runs, room, by simp [goes]⟩, State.injectServe, hostBytes_of_length whole]
  simp only [length, hostBytes_of_length]
  rw [if_neg (by omega), if_neg (by omega), if_neg (by omega), State.injectFrame_of_room long short room]
  rfl

theorem State.injectWaits_fifo (s : State) (ring : Nat) (x : InFrame) :
    ((s.injectWaits ring x).port (injectInput ring)).fifo = (s.port (injectInput ring)).fifo ++ [x] :=
  congrArg PortSt.fifo (SMap.get_set_same s.path.ports PortSt.idle
    { s.port (injectInput ring) with fifo := (s.port (injectInput ring)).fifo ++ [x] } (injectInput ring))

theorem State.port_of_path (same : t.path = s.path) (p : Nat) : t.port p = s.port p := by
  rw [State.port, same, State.port]

theorem State.injectDone_path (s : State) (ring k : Nat) : (s.injectDone ring k).path = s.path := by
  rw [State.injectDone, State.entryDone, State.devNext, State.wri_path, State.emit_path, State.stat_path]

theorem State.injectDone_completed (below : ring < 20) (s : State) (k : Nat) :
    Emit.hostWrite (s.entryAddr (16 + ring) k + 28) (toLe 4 (0 + 2 ^ 31)) ∈ (s.injectDone ring k).outbox := by
  have counted : s.RegsBut [Reg.HDM_INJECTS.key 0] (s.stat 0x0C Reg.HDM_INJECTS 0 1) := .stat (.refl _ s) 1 (by decide)
  have other : Reg.HDM_BASE_i.key (16 + ring) ∉ [Reg.HDM_INJECTS.key 0] := by
    simp only [List.mem_singleton, Fld.key, fkey, Reg.HDM_BASE_i, Reg.HDM_INJECTS]
    omega
  rw [← counted.entryAddr (by omega) other, State.injectDone, State.entryDone, State.devNext, State.wri_outbox]
  exact State.mem_outbox_emit _ _

/-! ## The status mirror -/

/-- One mirror is written: its dwords in order, its sequence number and its epoch (R350, R351). -/
def State.mirrored (s : State) (time : Nat) : State :=
  (({ s with outbox := s.outbox ++ s.mirEmits time } : State).wr Reg.MIR_SEQ_SEQ s.mirNext).wr Reg.MIR_LAST_EPOCH (epochOf (time / subPerNs))

theorem exec_mirrorWrite_due (first : s.pitch = 0) (due : s.mirDue s.epoch = true) (on : s.mirOn = true) (dma : s.dmaOk = true)
    (aligned : s.rd Reg.MIR_BASE % 4096 = 0) : exec .mirrorWrite s = .next (s.mirrored (s.ns / 125000 * 125000 * subPerNs)) := by
  refine congrArg Host.Outcome.next ((if_pos ⟨first, due⟩).trans ?_)
  rw [State.mirrorAt, if_pos on, if_pos ⟨dma, aligned⟩]
  rfl

theorem State.mirrored_seq (s : State) (time : Nat) : (s.mirrored time).rd Reg.MIR_SEQ_SEQ = s.mirNext % 2 ^ 32 :=
  (State.rd_wr_ne (by decide)).trans (State.rd_wr_same _ Reg.MIR_SEQ_SEQ _)

theorem State.mirrored_regsBut (s : State) (time : Nat) : s.RegsBut [Reg.MIR_SEQ_SEQ.key 0, Reg.MIR_LAST_EPOCH.key 0] (s.mirrored time) :=
  State.RegsBut.wr (State.RegsBut.wr (.of_regs rfl) _ (by decide)) _ (by decide)

/-- Settles O49: a punted packet, an injected frame and a mirror, each by what its command leaves. -/
theorem ringsAndMirrorReachHostMemory : Obligations.RingsAndMirrorReachHostMemory := by
  intro s
  refine ⟨fun ring k b e rest x entry below waits buffer own whole len lines aligned => ?punt,
    fun ring k b f entry below runs room goes whole length long short aligned routed => ?inject,
    fun first due on dma aligned => ⟨_, exec_mirrorWrite_due first due on dma aligned, rfl, s.mirrored_seq _, s.mirrored_regsBut _⟩⟩
  case punt =>
    have ran := exec_puntWrite_served entry below waits buffer whole len lines aligned
    rw [State.puntInto_own own] at ran
    refine ⟨_, ran, ?_, ?_, ?_⟩
    · exact (State.puntOf_of_q (State.puntDone_q _ _ _ _) ring).trans (s.puntTaken_punt ring e rest)
    · exact ((State.Puts.refl _).puntDone ring k e) (((State.Puts.refl _).emit _) (State.mem_outbox_emit _ _))
    · rw [← State.puntTaken_entryAddr (by omega) e rest]
      exact ((State.Puts.refl _).puntDone ring k e) (State.mem_outbox_emit _ _)
  case inject =>
    have ran := exec_injectFetch_served entry below runs room goes whole length long short aligned routed
    refine ⟨_, ran, ⟨s.injected f (s.rdi Reg.HDM_CTL_i_CLASS (16 + ring)) (leAt b 20 2) none, ?_, rfl, rfl, rfl⟩,
      State.injectDone_completed (s := s.injectWaits ring _) (by omega) k⟩
    rw [State.port_of_path (State.injectDone_path _ _ _)]
    exact s.injectWaits_fifo ring _

end Sys2Proof.Machine
end

section
/-! SUPPORT. Peer windows and their management transactions (R341, R357 to R359): writes of bytes of HBM that the device keeps nothing of its own
in, answers and timeouts of transactions, and swaps. -/
namespace Sys2Proof.Machine

variable {s t : State} {m : Master} {n : Nat}

/-! ## Bytes of HBM -/

/-- The state with other bytes of HBM. -/
def State.withMem (s : State) (mem : List Host.Cell) : State := { s with hbm := { s.hbm with mem := mem } }

theorem State.withMem_plainHbm (s : State) (mem : List Host.Cell) (a : Nat) : (s.withMem mem).plainHbm a = s.plainHbm a := rfl

theorem State.hbmPut_plain {a : Nat} (plain : s.plainHbm a = true) (v : Byte) : s.hbmPut a v = s.withMem (SMap.set s.hbm.mem 0 a v) := by
  simp only [State.plainHbm, Bool.and_eq_true, beq_iff_eq, Option.isNone_iff_eq_none, Bool.not_eq_true', Bool.and_eq_false_iff,
    decide_eq_false_iff_not] at plain
  obtain ⟨⟨⟨⟨running, slot⟩, buffer⟩, _⟩, counters⟩ := plain
  rw [State.hbmPut, if_neg (by simp [running]), slot, buffer]
  exact if_neg (by omega)

/-- Bytes of plain HBM are written one by one, each at its place. -/
theorem State.foldl_hbmPut_plain (a n : Nat) (b : Bytes) (plain : ∀ i, i < n → s.plainHbm (a + i) = true) :
    ∃ mem, (List.range n).foldl (fun t i => t.hbmPut (a + i) (b.getD i 0)) s = s.withMem mem ∧
      ∀ i, i < n → SMap.get mem 0 (a + i) = b.getD i 0 := by
  induction n with
  | zero => exact ⟨s.hbm.mem, rfl, fun i below => absurd below (Nat.not_lt_zero i)⟩
  | succ n ih =>
    obtain ⟨mem, folded, bytes⟩ := ih (fun i before => plain i (by omega))
    refine ⟨SMap.set mem 0 (a + n) (b.getD n 0), ?_, fun i below => ?_⟩
    · rw [List.range_succ, List.foldl_append, folded, List.foldl_cons, List.foldl_nil, State.hbmPut_plain (s := s.withMem mem) (plain n (Nat.lt_succ_self n))]
      rfl
    · by_cases last : i = n
      · subst last
        exact SMap.get_set_same _ _ _ _
      · rw [SMap.get_set_ne (by omega)]
        exact bytes i (by omega)

theorem State.mem_of_still (same : t.still = s.still) : t.hbm.mem = s.hbm.mem := congrArg (fun x => x.2.2.1) same

/-- The accesses that carry the bytes change none of them. -/
theorem State.hbmWrite_plain {a : Nat} {b : Bytes} (plain : ∀ i, i < b.length → s.plainHbm (a + i) = true) :
    ∀ i, i < b.length → SMap.get (s.hbmWrite a b).hbm.mem 0 (a + i) = b.getD i 0 := by
  obtain ⟨mem, folded, bytes⟩ := State.foldl_hbmPut_plain a b.length b plain
  rw [State.hbmWrite, folded, State.mem_of_still (State.drqAccess_still _ _ _ _ _)]
  exact bytes

/-! ## A peer's WRITE -/

theorem exec_mtRequestReceived_write {link : Nat} {c : MtCell} (write : c.subtype = 9) (free : s.winPending c.window = false) (some' : c.len ≠ 0)
    (fits : s.winFits c.window c.offset c.len = true) (peer : s.winPeer c.window c.linkDirected = true) (kind : s.winKind c.window = 1)
    (inside : s.rdi Reg.WIN_n_ACT_BASE c.window + c.offset + c.len ≤ 2 ^ 37) :
    exec (.mtRequestReceived link c) s =
      .next ((s.hbmWrite (s.rdi Reg.WIN_n_ACT_BASE c.window + c.offset) (c.data.take c.len)).mtAnswer link c 11 0 []) := by
  refine congrArg Host.Outcome.next ((if_pos (.inr write)).trans ?_)
  rw [State.mtRequest, if_neg (by simp [free]), State.mtServe, if_neg (by simp [some', fits]), if_neg (by simp [peer]),
    if_neg (by simp [kind]), if_pos kind]
  exact (if_neg (by omega)).trans (if_pos write)

/-! ## Accesses that fail -/

theorem State.hostUr_host (s : State) : s.hostUr.host = s.host := by
  rw [State.hostUr, State.emit_host, State.trb_host, State.stat_host]

theorem State.hostUr_rd (s : State) {f : Fld} (plain : isTele (fkey f.pg f 0) = false) (ur : fkey f.pg f 0 ≠ fkey 0x0B Reg.HIF_UR 0)
    (counter : fkey f.pg f 0 ≠ trbKey 0x0B 3) : s.hostUr.rd f = s.rd f := by
  rw [State.hostUr, State.rd_of_regs (State.emit_regs _ _), State.trb_rd _ _ _ _ plain counter, State.stat_rd _ _ _ _ _ _ plain ur]

theorem State.mem_outbox_hostUr (s : State) : Emit.unsupported .host ∈ s.hostUr.outbox := State.mem_outbox_emit _ _

/-! ## Answers and timeouts -/

variable {x : WinTxn}

theorem State.mtForget_winOld (s : State) (x : WinTxn) : ∀ y ∈ (s.mtForget x).host.winOld, y.tid ≠ x.tid :=
  fun y left => by simpa using (List.mem_filter.1 left).2

theorem State.mtFail_read (read : x.write = none) : s.mtFail x = s.hostUr := if_neg (by simp [read])

theorem State.mtFail_write (write : x.write ≠ none) : s.mtFail x = s.trb 0x0E 5 := if_pos (Option.isSome_iff_ne_none.2 write)

theorem State.mtFail_host (s : State) (x : WinTxn) : (s.mtFail x).host = s.host := by
  unfold State.mtFail
  split
  · exact State.trb_host _ _ _
  · exact s.hostUr_host

theorem exec_mtResponseReceived {c : MtCell} (answers : 10 ≤ c.subtype ∧ c.subtype ≤ 12) (found : s.mtFind c.tag = some x) (link : Nat) :
    exec (.mtResponseReceived link c) s = .next (if c.subtype = 12 then (s.mtForget x).mtFail x
      else if c.subtype = 11 ∧ x.write.isSome then s.mtForget x
      else if c.subtype = 10 ∧ x.write.isNone then (s.mtForget x).emit (.readData .host (le (c.data.take x.len))) else s) := by
  refine congrArg Host.Outcome.next ((if_pos answers).trans ?_)
  rw [State.mtResponse, found]

theorem exec_mtTimeout {tag : Nat} (found : s.mtFind tag = some x) (limited : s.rd Reg.HIF_MT_TIMEOUT_US ≠ 0) :
    exec (.mtTimeout tag) s = .next ((s.mtForget x).mtFail x) := by
  refine congrArg Host.Outcome.next ?_
  simp only [found]
  exact if_neg limited

/-! ## Swaps -/

theorem State.winPending_congr (same : t.rd Reg.WIN_STAT_PENDING = s.rd Reg.WIN_STAT_PENDING) (n : Nat) : t.winPending n = s.winPending n := by
  rw [State.winPending, same, State.winPending]

theorem add_two_pow_eq_setBit {v k : Nat} (clear : bitN v k ≠ 1) : v + 2 ^ k = setBit v k true := by
  have clear : bitN v k = 0 := by
    have bit : bitN v k < 2 := Nat.mod_lt _ (by decide)
    omega
  simp [setBit, clear]

/-- One window is asked to take its staged copy (R359). -/
def swapAsked (s : State) (k : Nat) : State :=
  if bitN (s.rd Reg.WIN_STAT_PENDING) k = 1 then s.trb 0x0E 7
  else s.wr Reg.WIN_STAT_PENDING (s.rd Reg.WIN_STAT_PENDING + 2 ^ k)

theorem swapAsked_winPending {k : Nat} (window : n < 8) (asked : k < 8) (s : State) :
    (swapAsked s k).winPending n = (s.winPending n || n == k) := by
  unfold swapAsked
  split
  case isTrue pending =>
    rw [State.winPending_congr (State.trb_rd _ _ _ _ (by decide) (by decide))]
    by_cases same : n = k
    · simp [same, State.winPending, pending]
    · simp [same]
  case isFalse clear =>
    rw [State.winPending, State.rd_wr_same, add_two_pow_eq_setBit clear]
    by_cases same : n = k
    · subst same
      rw [bitN_setBit_same _ _ Reg.WIN_STAT_PENDING.width _ window]
      simp [b01]
    · rw [bitN_setBit_other _ _ _ Reg.WIN_STAT_PENDING.width _ window same]
      simp [same, State.winPending]

theorem foldl_swapAsked_winPending (window : n < 8) (asked : List Nat) (below : ∀ k ∈ asked, k < 8) (s : State) :
    (asked.foldl swapAsked s).winPending n = (s.winPending n || asked.contains n) := by
  induction asked generalizing s with
  | nil => simp
  | cons k asked ih =>
    rw [List.foldl_cons, ih (fun j later => below j (List.mem_cons_of_mem _ later)),
      swapAsked_winPending window (below k List.mem_cons_self), List.contains_cons, Bool.or_assoc]

theorem exec_winSwap_ok (reach : s.access m 0x0E 0x200 4 true = .ok) (req : Byte) :
    ∃ u, s.CountsTo u ∧ exec (.winSwap m req) s = .next ((bitsSet req.toNat 8).foldl swapAsked u) := by
  obtain ⟨u, counted, ran⟩ := State.onWrite_ok reach (fun t => t.winSwapReq req.toNat)
  exact ⟨u, counted, congrArg Host.Outcome.next ran⟩

/-- The staged copy of a window is active, and nothing is held for it (R359). -/
def State.winSwapped (s : State) (n : Nat) : State :=
  { s.winTake n with host := { (s.winTake n).host with winHeld := (s.winTake n).host.winHeld.filter (fun x => x.win != n) } }

theorem exec_winSwapComplete_of_free (window : n < 8) (pending : s.winPending n = true) (old : ∀ x ∈ s.host.winOld, x.win ≠ n)
    (held : ∀ x ∈ s.host.winHeld, x.win ≠ n) : exec (.winSwapComplete n) s = .next (s.winSwapped n) := by
  have nothing : s.host.winHeld.filter (fun x => x.win == n) = [] := List.filter_eq_nil_iff.2 fun x here => by simpa using held x here
  have ended : ¬ s.host.winOld.any (fun x => x.win == n) = true := by simpa using old
  refine congrArg Host.Outcome.next ((if_pos window).trans ?_)
  rw [State.winSwapDone, if_pos ⟨pending, ended⟩, nothing, List.foldl_nil, State.winSwapped]

theorem State.winSwapped_regs (s : State) (n : Nat) : (s.winSwapped n).regs = (s.winTake n).regs := rfl

theorem State.winSwapped_pending (window : n < 8) (s : State) : (s.winSwapped n).winPending n = false := by
  rw [State.winPending, State.rd_of_regs (s.winSwapped_regs n), State.winTake, State.rd_wr_same, bitN_setBit_same _ _ Reg.WIN_STAT_PENDING.width _ window]
  rfl

/-- The registers of the active copy lie at offsets of their own. -/
theorem State.winSwapped_active (s : State) (n : Nat) :
    (s.winSwapped n).rdi Reg.WIN_n_ACT_BASE n = s.rdi Reg.WIN_n_STG_BASE n % 2 ^ 64 ∧
    (s.winSwapped n).rdi Reg.WIN_n_ACT_CFG n =
      (s.rdi Reg.WIN_n_STG_CFG_SIZE n + s.rdi Reg.WIN_n_STG_CFG_KIND n * 2 ^ 5 + s.rdi Reg.WIN_n_STG_CFG_PEER n * 2 ^ 8) % 2 ^ 32 ∧
    (s.winSwapped n).rdi Reg.WIN_n_ACT_TGT n =
      (s.rdi Reg.WIN_n_STG_TGT_DEV n + s.rdi Reg.WIN_n_STG_TGT_RWIN n * 2 ^ 16 + s.rdi Reg.WIN_n_STG_TGT_LINK n * 2 ^ 24) % 2 ^ 32 := by
  have apart : ∀ (f : Fld), f.pg = 0x0E → f.lo = 0 → f.off = 0x110 ∨ f.off = 0x114 ∨ f.off = 0x118 → f.stride = 32 →
      fkey Reg.WIN_STAT_PENDING.pg Reg.WIN_STAT_PENDING 0 ≠ fkey f.pg f n := by
    intro f pg lo off stride
    unfold fkey
    rw [pg, lo, stride]
    simp only [Reg.WIN_STAT_PENDING]
    omega
  have same : ∀ f, (s.winSwapped n).rdi f n = (s.winTake n).rdi f n := fun f => State.rdp_of_regs (congrArg Regs.active (s.winSwapped_regs n)) _ _ _
  have base : fkey Reg.WIN_n_ACT_BASE.pg Reg.WIN_n_ACT_BASE n ≠ fkey Reg.WIN_n_ACT_CFG.pg Reg.WIN_n_ACT_CFG n := by
    simp only [fkey, Reg.WIN_n_ACT_BASE, Reg.WIN_n_ACT_CFG]; omega
  have base' : fkey Reg.WIN_n_ACT_BASE.pg Reg.WIN_n_ACT_BASE n ≠ fkey Reg.WIN_n_ACT_TGT.pg Reg.WIN_n_ACT_TGT n := by
    simp only [fkey, Reg.WIN_n_ACT_BASE, Reg.WIN_n_ACT_TGT]; omega
  have target : fkey Reg.WIN_n_ACT_TGT.pg Reg.WIN_n_ACT_TGT n ≠ fkey Reg.WIN_n_ACT_CFG.pg Reg.WIN_n_ACT_CFG n := by
    simp only [fkey, Reg.WIN_n_ACT_TGT, Reg.WIN_n_ACT_CFG]; omega
  refine ⟨?_, ?_, ?_⟩
  · rw [same, State.winTake, State.rdi_wr_ne (apart _ rfl rfl (by decide) rfl), State.rdi_wri_same]
    rfl
  · rw [same, State.winTake, State.rdi_wr_ne (apart _ rfl rfl (by decide) rfl), State.rdi_wri_ne base, State.rdi_wri_ne target, State.rdi_wri_same]
    rfl
  · rw [same, State.winTake, State.rdi_wr_ne (apart _ rfl rfl (by decide) rfl), State.rdi_wri_ne base', State.rdi_wri_same]
    rfl

/-- A held transaction waits no longer (R359). -/
def State.heldEnded (s : State) (x : WinTxn) : State :=
  { s with host := { s.host with winHeld := s.host.winHeld.filter (fun y => y.tid != x.tid) } }

theorem exec_winSwapHoldTimeout_host (window : n < 8) (pending : s.winPending n = true)
    (first : s.host.winHeld.find? (fun x => x.win == n) = some x) (host : x.peer = none) :
    exec (.winSwapHoldTimeout n) s = .next (((s.heldEnded x).hostUr.stat 0x0E Reg.WIN_SWAP_FAIL 0 1).trb 0x0E 3) := by
  refine congrArg Host.Outcome.next ((if_pos ⟨window, pending⟩).trans ?_)
  rw [State.winHoldFail, first]
  simp only [host]
  rfl

/-- Settles O46: a peer's WRITE, the answers and timeouts of a transaction, and a swap from its request to its end. -/
theorem managementTransactionsAndSwapsComplete : Obligations.ManagementTransactionsAndSwapsComplete := by
  refine ⟨fun s => ⟨fun link c write free some' fits peer kind inside long plain => ?write, fun link c x found => ⟨fun read answer => ?read,
    fun ack answer => ?ack, fun nack answer => ?nack⟩, fun tag x found limited => ?timeout⟩,
    fun s => ⟨fun m req n reach window free => ?swap, fun n window pending old held => ?complete,
    fun n x window pending first host => ?hold⟩⟩
  case write =>
    have length : (c.data.take c.len).length = c.len := by rw [List.length_take, Nat.min_eq_left long]
    refine ⟨_, exec_mtRequestReceived_write write free some' fits peer kind inside, fun i below => ?_⟩
    rw [State.mem_of_still (State.mtAnswer_still _ _ _ _ _ _), State.hbmWrite_plain (by rwa [length]) i (by rwa [length])]
    simp [List.getD_eq_getElem?_getD, below]
  case read =>
    have ran := exec_mtResponseReceived (by omega) found link
    rw [if_neg (by omega), if_neg (by omega), if_pos ⟨read, by rw [answer]; rfl⟩] at ran
    exact ⟨_, ran, s.mtForget_winOld x, State.mem_outbox_emit _ _⟩
  case ack =>
    have ran := exec_mtResponseReceived (by omega) found link
    rwa [if_neg (by omega), if_pos ⟨ack, Option.isSome_iff_ne_none.2 answer⟩] at ran
  case nack =>
    have ran := exec_mtResponseReceived (by omega) found link
    rw [if_pos nack, State.mtFail_read answer] at ran
    exact ⟨_, ran, by rw [State.hostUr_host]; exact s.mtForget_winOld x, State.mem_outbox_hostUr _⟩
  case timeout =>
    refine ⟨_, exec_mtTimeout found limited, by rw [State.mtFail_host]; exact s.mtForget_winOld x, fun read => ?_, fun write => ?_⟩
    · rw [State.mtFail_read read]
      exact State.mem_outbox_hostUr _
    · rw [State.mtFail_write write]
      exact State.trb_counts _ _ _
  case swap =>
    obtain ⟨u, counted, ran⟩ := exec_winSwap_ok reach req
    refine ⟨_, ran, ?_⟩
    rw [foldl_swapAsked_winPending window _ (fun k asked => (mem_bitsSet.1 asked).1), State.winPending_congr (counted.rd _ (by decide)), free,
      Bool.false_or, Bool.eq_iff_iff, List.contains_iff_mem, mem_bitsSet]
    simp [window]
  case complete =>
    exact ⟨_, exec_winSwapComplete_of_free window pending old held, s.winSwapped_pending window, s.winSwapped_active n⟩
  case hold =>
    refine ⟨_, exec_winSwapHoldTimeout_host window pending first host, ?_, ?_, ?_, ?_⟩
    · rw [State.winPending_congr ((State.trb_rd _ _ _ _ (by decide) (by decide)).trans ((State.stat_rd _ _ _ _ _ _ (by decide) (by decide)).trans
        (State.hostUr_rd _ (by decide) (by decide) (by decide))))]
      exact pending
    · rw [State.trb_host, State.stat_host, State.hostUr_host]
      exact fun y left => by simpa using (List.mem_filter.1 left).2
    · exact (((State.Puts.refl _).stat _ _ _ _).trb _ _) (State.mem_outbox_hostUr _)
    · rw [State.trb_rd _ _ _ _ (by decide) (by decide)]
      refine (State.stat_rdp_same _ (f := Reg.WIN_SWAP_FAIL) (i := 0) (by decide) 1).trans ?_
      have same : (s.heldEnded x).hostUr.rd Reg.WIN_SWAP_FAIL = s.rd Reg.WIN_SWAP_FAIL := State.hostUr_rd _ (by decide) (by decide) (by decide)
      exact congrArg (fun v => (v + 1) % 2 ^ Reg.WIN_SWAP_FAIL.width) same

end Sys2Proof.Machine
end

section
/-! SUPPORT. The management cores (R365 to R368, R380): loading, running, halting, the watchdogs and the agent. -/
namespace Sys2Proof.Machine

variable {s t : State} {m : Master} {c : Nat} {l : List Nat}

theorem coreField_plain {f : Fld} (core : c < 4) (lo : f.lo < 64) (off : f.off = 0x104) (stride : f.stride = 16) :
    isTele (fkey 0x0A f c) = false :=
  isTele_high lo (by rw [off, stride]; omega) (by rw [off, stride]; omega) (by decide) (by decide)

theorem coreField_ne_trb {f : Fld} {p k : Nat} (core : c < 4) (counter : k < 16) (lo : f.lo < 64) (off : f.off = 0x104) (stride : f.stride = 16) :
    fkey 0x0A f c ≠ trbKey p k :=
  trbKey_ne counter lo (by rw [off, stride]; omega) (by rw [off, stride]; omega)

theorem State.CountsTo.coreState (counted : s.CountsTo t) (core : c < 4) : t.coreState c = s.coreState c :=
  counted.rdi _ _ (coreField_plain core (by decide) rfl rfl)

theorem State.coreState_trb (core : c < 4) {k : Nat} (counter : k < 16) (s : State) (p : Nat) : (s.trb p k).coreState c = s.coreState c :=
  State.trb_rdp s p k _ _ _ (coreField_plain core (by decide) rfl rfl) (coreField_ne_trb core counter (by decide) rfl rfl)

theorem State.coreState_wri_same (s : State) (c v : Nat) : (s.wri Reg.MGT_CORE_c_STAT_STATE c v).coreState c = v % 2 ^ 3 :=
  State.rdi_wri_same s Reg.MGT_CORE_c_STAT_STATE c v

/-! ## Running and loading -/

theorem State.coreRun_regs (s : State) (c : Nat) : (s.coreRun c).regs = (s.wri Reg.MGT_CORE_c_STAT_STATE c 2).regs := rfl

theorem State.coreRun_coreState (s : State) (c : Nat) : (s.coreRun c).coreState c = 2 :=
  (State.rdp_of_regs (congrArg Regs.active (s.coreRun_regs c)) _ _ _).trans (s.coreState_wri_same c 2)

theorem State.RegsBut.coreRun (h : s.RegsBut l t) (listed : Reg.MGT_CORE_c_STAT_STATE.key c ∈ l) : s.RegsBut l (t.coreRun c) :=
  (h.wri 2 listed).trans (State.RegsBut.of_regs (t.coreRun_regs c))

theorem State.coreReload_coreState (s : State) (c : Nat) : (s.coreReload c).coreState c = 1 := by
  rw [State.coreReload, State.satp, State.coreState, State.rdi, State.rdp_wrp_ne (fkey_ne_lo (by decide))]
  exact s.coreState_wri_same c 1

theorem State.coreReload_restarts (s : State) (c : Nat) : (s.coreReload c).rdi Reg.MGT_CORE_c_STAT_RESTARTS c =
    min (s.rdi Reg.MGT_CORE_c_STAT_RESTARTS c + 1) 255 := by
  have same : (s.wri Reg.MGT_CORE_c_STAT_STATE c 1).rdp 0x0A Reg.MGT_CORE_c_STAT_RESTARTS c = s.rdi Reg.MGT_CORE_c_STAT_RESTARTS c :=
    State.rdi_wri_ne (fkey_ne_lo (by decide))
  rw [State.coreReload, State.satp, same]
  refine (State.rdp_wrp_same _ _ _ _ _).trans (Nat.mod_eq_of_lt ?_)
  exact lt_of_le_of_lt (Nat.min_le_right _ _) (by decide)

theorem State.RegsBut.coreReload (h : s.RegsBut l t) (state : Reg.MGT_CORE_c_STAT_STATE.key c ∈ l)
    (restarts : Reg.MGT_CORE_c_STAT_RESTARTS.key c ∈ l) : s.RegsBut l (t.coreReload c) :=
  (h.wri 1 state).wrp _ restarts

/-! ## What the commands do -/

theorem exec_coreLoadDone (core : c < 4) (loading : s.coreState c = 1) (ok : Bool) :
    exec (.coreLoadDone c ok) s = .next (if ok then s.coreRun c else s.wri Reg.MGT_CORE_c_STAT_STATE c 4) :=
  congrArg Host.Outcome.next (if_pos ⟨core, loading⟩)

theorem exec_coreFatalTrap (core : c < 4) (running : s.coreState c = 2) :
    exec (.coreFatalTrap c) s = .next (s.wri Reg.MGT_CORE_c_STAT_STATE c 4) :=
  congrArg Host.Outcome.next (if_pos ⟨core, running⟩)

theorem exec_coreReset_ok (core : 1 ≤ c ∧ c < 4) (master : m = .host ∨ m = .core0)
    (reach : s.access m 0x0A (0x100 + 0x10 * c) 4 true = .ok) :
    ∃ u, s.CountsTo u ∧ exec (.coreReset m c) s = .next (u.coreReload c) := by
  obtain ⟨u, counted, ran⟩ := State.onWrite_ok reach (fun t => t.coreResetCmd m c)
  exact ⟨u, counted, congrArg Host.Outcome.next ((if_pos core.2).trans (ran.trans (if_pos ⟨master, core⟩)))⟩

theorem exec_coreHalt_ok (core : c < 4) (master : m = .host ∨ m = .core0)
    (reach : s.access m 0x0A (0x100 + 0x10 * c) 4 true = .ok) (running : s.coreState c = 2) :
    ∃ u, s.CountsTo u ∧ exec (.coreHalt m c true) s =
      .next ((u.wri Reg.MGT_CORE_c_CTL_HALT c 1).wri Reg.MGT_CORE_c_STAT_STATE c 3) := by
  obtain ⟨u, counted, ran⟩ := State.onWrite_ok reach (fun t => t.coreHaltCmd m c true)
  have runs : u.coreState c = 2 := (counted.coreState core).trans running
  exact ⟨u, counted, congrArg Host.Outcome.next ((if_pos core).trans (ran.trans ((if_pos ⟨master, core⟩).trans (if_pos ⟨rfl, runs⟩))))⟩

theorem exec_coreResume_ok (core : c < 4) (master : m = .host ∨ m = .core0)
    (reach : s.access m 0x0A (0x100 + 0x10 * c) 4 true = .ok) (halted : s.coreState c = 3) :
    ∃ u, s.CountsTo u ∧ exec (.coreHalt m c false) s = .next ((u.wri Reg.MGT_CORE_c_CTL_HALT c 0).coreRun c) := by
  obtain ⟨u, counted, ran⟩ := State.onWrite_ok reach (fun t => t.coreHaltCmd m c false)
  have halts : u.coreState c = 3 := (counted.coreState core).trans halted
  refine ⟨u, counted, congrArg Host.Outcome.next ((if_pos core).trans (ran.trans ((if_pos ⟨master, core⟩).trans ?_)))⟩
  exact (if_neg (by simp)).trans (if_pos ⟨by simp, halts⟩)

theorem exec_watchdogKick_ok (core : c < 4) (reach : s.access m 0x0A (0x10C + 0x10 * c) 4 true = .ok) :
    ∃ u, s.CountsTo u ∧ exec (.watchdogKick m c) s = .next (u.kick c) := by
  obtain ⟨u, counted, ran⟩ := State.onWrite_ok reach (fun t => t.kick c)
  exact ⟨u, counted, congrArg Host.Outcome.next ((if_pos core).trans ran)⟩

/-- A subordinate core stops in FAULT, and its watchdog is counted (R367). -/
def State.coreExpired (s : State) (c : Nat) : State := (s.trb 0x0A 3).wri Reg.MGT_CORE_c_STAT_STATE c 4

theorem exec_watchdogExpire_subordinate (core : 1 ≤ c ∧ c < 4) (due : s.wdogDue c = true) :
    exec (.watchdogExpire c) s = .next (if (s.coreExpired c).coreState 0 = 2 then (s.coreExpired c).coreReload c else s.coreExpired c) :=
  congrArg Host.Outcome.next ((if_pos ⟨core.2, due⟩).trans (if_neg (by omega)))

theorem State.coreExpired_core0 (core : 1 ≤ c ∧ c < 4) (s : State) : (s.coreExpired c).coreState 0 = s.coreState 0 := by
  refine (State.rdi_wri_ne ?_).trans (State.coreState_trb (by decide) (by decide) s 0x0A)
  exact fkey_ne_off (by decide) (by decide) (by simp only [Reg.MGT_CORE_c_STAT_STATE]; omega)

theorem State.coreExpired_regsBut (s : State) (c : Nat) : s.RegsBut
    [Reg.MGT_CORE_c_STAT_STATE.key c, Reg.MGT_CORE_c_STAT_RESTARTS.key c, trbKey 0x0A 3] (s.coreExpired c) :=
  ((State.RegsBut.refl _ s).trb (by simp)).wri 4 (by simp)

/-- What the agent may not reach is recorded (R368). -/
def State.agentFault (s : State) (a : Nat) (w : Bool) : State :=
  ((s.wr Reg.MGT_AGENT_FAULT_ADDR a).wr Reg.MGT_AGENT_FAULT_INFO_WRITE (b01 w)).trb 0x0A 5

theorem State.agentFault_addr (s : State) (a : Nat) (w : Bool) : (s.agentFault a w).rd Reg.MGT_AGENT_FAULT_ADDR = a % 2 ^ 32 := by
  rw [State.agentFault, State.trb_rd _ _ _ _ (by decide) (by decide), State.rd_wr_ne (by decide)]
  exact State.rd_wr_same s _ a

theorem State.agentFault_write (s : State) (a : Nat) (w : Bool) : (s.agentFault a w).rd Reg.MGT_AGENT_FAULT_INFO_WRITE = b01 w := by
  rw [State.agentFault, State.trb_rd _ _ _ _ (by decide) (by decide), State.rd_wr_same]
  cases w <;> rfl

theorem State.agentFault_regsBut (s : State) (a : Nat) (w : Bool) : s.RegsBut
    [Reg.MGT_AGENT_FAULT_ADDR.key 0, Reg.MGT_AGENT_FAULT_INFO_WRITE.key 0, trbKey 0x0A 5] (s.agentFault a w) :=
  (((State.RegsBut.refl _ s).wr a (by simp)).wr _ (by simp)).trb (by simp)

/-- Settles O52: each event of a core is one write of its state, with what that write brings along. -/
theorem coresRunUntilTheyFault : Obligations.CoresRunUntilTheyFault := by
  refine fun s c core => ⟨fun loading => ⟨?verified, ?refused⟩, fun running => ?trap,
    fun m master reach => ⟨fun subordinate => ?reset, fun running => ?halt, fun halted => ?resume⟩, fun m reach => ?kick,
    fun subordinate due => ?expire, fun a w => ?agent⟩
  case verified =>
    exact ⟨_, exec_coreLoadDone core loading true, s.coreRun_coreState c, rfl, (State.RegsBut.refl _ s).coreRun (by simp)⟩
  case refused =>
    exact ⟨_, exec_coreLoadDone core loading false, s.coreState_wri_same c 4, (State.RegsBut.refl _ s).wri 4 (by simp)⟩
  case trap => exact ⟨_, exec_coreFatalTrap core running, s.coreState_wri_same c 4, (State.RegsBut.refl _ s).wri 4 (by simp)⟩
  case reset =>
    obtain ⟨u, counted, ran⟩ := exec_coreReset_ok ⟨subordinate, core⟩ master reach
    refine ⟨_, ran, u.coreReload_coreState c, ?_, (counted.regsBut _).coreReload (by simp) (by simp)⟩
    rw [u.coreReload_restarts, counted.rdi Reg.MGT_CORE_c_STAT_RESTARTS c (coreField_plain core (by decide) rfl rfl)]
  case halt =>
    obtain ⟨u, counted, ran⟩ := exec_coreHalt_ok core master reach running
    exact ⟨_, ran, State.coreState_wri_same _ c 3, ((counted.regsBut _).wri 1 (by simp)).wri 3 (by simp)⟩
  case resume =>
    obtain ⟨u, counted, ran⟩ := exec_coreResume_ok core master reach halted
    exact ⟨_, ran, State.coreRun_coreState _ c, ((counted.regsBut _).wri 0 (by simp)).coreRun (by simp)⟩
  case kick =>
    obtain ⟨u, counted, ran⟩ := exec_watchdogKick_ok core reach
    refine ⟨_, ran, ?_, (counted.regsBut _).trans (State.RegsBut.of_regs rfl)⟩
    rw [State.kick, counted.mgt, counted.ns]
  case expire =>
    refine ⟨_, exec_watchdogExpire_subordinate ⟨subordinate, core⟩ due, ?_,
      ((s.coreExpired_regsBut c).coreReload (by simp) (by simp)).ite (s.coreExpired_regsBut c)⟩
    rw [s.coreExpired_core0 ⟨subordinate, core⟩]
    split
    case isTrue reloads => exact State.coreReload_coreState _ c
    case isFalse stays => exact State.coreState_wri_same _ c 4
  case agent =>
    refine ⟨_, rfl, ?_, ?_, State.mem_outbox_emit _ _, ?_⟩
    · exact (State.rd_of_regs (State.emit_regs _ _) _).trans (s.agentFault_addr a w)
    · exact (State.rd_of_regs (State.emit_regs _ _) _).trans (s.agentFault_write a w)
    · exact (s.agentFault_regsBut a w).trans (State.RegsBut.of_regs (State.emit_regs _ _))

end Sys2Proof.Machine
end

section
/-! SUPPORT. Operating modes (R407 to R410, R415, R429): what entering a mode and entering STANDBY leave, the end of a power sequence,
and the mode requests. -/
namespace Sys2Proof.Machine

variable {s t u : State} {m : Master}

/-! ## Entering a mode -/

theorem State.setMode_of_drain {n : Nat} (drain : s.mode = 5) (leaves : n ≠ 5) (cause : Nat) : s.setMode n cause =
    { ((s.wr Reg.TOP_STAT_DRAINED 0).wr Reg.TOP_STAT_MODE n).wr Reg.TOP_STAT_CAUSE cause with pwr := { s.pwr with empties := 0 } } := by
  simp only [State.setMode, if_pos (show s.mode = 5 ∧ n ≠ 5 from ⟨drain, leaves⟩)]

theorem State.setMode_of_other {n : Nat} (other : ¬ (s.mode = 5 ∧ n ≠ 5)) (cause : Nat) : s.setMode n cause =
    { (s.wr Reg.TOP_STAT_MODE n).wr Reg.TOP_STAT_CAUSE cause with pwr := { s.pwr with empties := 0 } } := by
  simp only [State.setMode, if_neg other]

/-- The registers of a state that enters a mode, whether it leaves DRAIN or not. -/
theorem State.setMode_regs (s : State) (n cause : Nat) : ∃ t, s.RegsBut [Reg.TOP_STAT_DRAINED.key 0] t ∧
    (s.setMode n cause).regs = ((t.wr Reg.TOP_STAT_MODE n).wr Reg.TOP_STAT_CAUSE cause).regs := by
  by_cases leaves : s.mode = 5 ∧ n ≠ 5
  · exact ⟨s.wr Reg.TOP_STAT_DRAINED 0, (State.RegsBut.refl _ s).wr 0 (by simp), by rw [State.setMode_of_drain leaves.1 leaves.2]⟩
  · exact ⟨s, State.RegsBut.refl _ s, by rw [State.setMode_of_other leaves]⟩

theorem State.setMode_mode {n : Nat} (code : n < 8) (s : State) (cause : Nat) : (s.setMode n cause).mode = n := by
  obtain ⟨t, _, regs⟩ := s.setMode_regs n cause
  rw [State.mode, State.rd_of_regs regs, State.rd_wr_ne (by decide), State.rd_wr_same]
  exact Nat.mod_eq_of_lt code

theorem State.setMode_cause {cause : Nat} (code : cause < 8) (s : State) (n : Nat) : (s.setMode n cause).rd Reg.TOP_STAT_CAUSE = cause := by
  obtain ⟨t, _, regs⟩ := s.setMode_regs n cause
  rw [State.rd_of_regs regs, State.rd_wr_same]
  exact Nat.mod_eq_of_lt code

theorem State.setMode_drained {n : Nat} (drain : s.mode = 5) (leaves : n ≠ 5) (cause : Nat) :
    (s.setMode n cause).rd Reg.TOP_STAT_DRAINED = 0 := by
  rw [State.setMode_of_drain drain leaves]
  refine (State.rd_wr_ne (by decide)).trans ((State.rd_wr_ne (by decide)).trans ?_)
  exact State.rd_wr_same s _ 0

theorem State.setMode_regsBut (s : State) (n cause : Nat) :
    s.RegsBut [Reg.TOP_STAT_MODE.key 0, Reg.TOP_STAT_CAUSE.key 0, Reg.TOP_STAT_DRAINED.key 0] (s.setMode n cause) := by
  obtain ⟨t, kept, regs⟩ := s.setMode_regs n cause
  have kept : s.RegsBut [Reg.TOP_STAT_MODE.key 0, Reg.TOP_STAT_CAUSE.key 0, Reg.TOP_STAT_DRAINED.key 0] t := kept.mono (by simp)
  exact ((kept.wr n (by simp)).wr cause (by simp)).trans (State.RegsBut.of_regs regs)

theorem State.setMode_regsBut_of_other {n : Nat} (other : ¬ (s.mode = 5 ∧ n ≠ 5)) (cause : Nat) :
    s.RegsBut [Reg.TOP_STAT_MODE.key 0, Reg.TOP_STAT_CAUSE.key 0] (s.setMode n cause) := by
  rw [State.setMode_of_other other]
  exact (((State.RegsBut.refl _ s).wr n (by simp)).wr cause (by simp)).trans (State.RegsBut.of_regs rfl)

theorem State.setMode_pwr (s : State) (n cause : Nat) : (s.setMode n cause).pwr = { s.pwr with empties := 0 } := rfl

/-! ## The end of a sequence -/

theorem State.seqEnd_of_busy (busy : s.seqBusy = true) : s.seqEnd = s := if_pos busy

/-- Once every wanted domain is on, the mode that waited is entered (R407, R410). -/
theorem State.seqEnd_of_ready (idle : s.seqBusy = false) (waits : s.pwr.modeAfter = some 2)
    (on : ∀ d, d < 33 → s.wanted d = true → s.pwr.on.contains d = true) :
    s.seqEnd = ({ s with pwr := { s.pwr with modeAfter := none } } : State).setMode 2 1 := by
  refine (if_neg (by simp [idle])).trans ((if_pos waits).trans (if_pos ?_))
  rw [List.all_eq_true]
  intro d domain
  cases wanted : s.wanted d
  · rfl
  · simpa using on d (List.mem_range.1 domain) wanted

/-! ## READY from BOOT -/

/-- The domains to switch off and on, for READY to follow (R410, R414). -/
def State.readyAwaited (s : State) : State :=
  { s with pwr := { s.pwr with
      seqOff := ((List.range 33).filter (fun d => s.pwr.on.contains d && !s.wanted d)).reverse
      seqOn := (List.range 33).filter (fun d => s.wanted d && !s.pwr.on.contains d)
      modeAfter := some 2 } }

theorem State.bootToReady_of_complete (complete : s.bootComplete = true) : s.bootToReady = s.readyAwaited.seqEnd := if_pos complete

theorem State.bootToReady_of_incomplete (incomplete : s.bootComplete = false) : s.bootToReady = s.trb 0x00 3 :=
  if_neg (by simp [incomplete])

theorem State.readyAwaited_idle (idle : s.seqBusy = false) (as : ∀ d, d < 33 → s.pwr.on.contains d = s.wanted d) :
    s.readyAwaited.seqBusy = false := by
  have off : (List.range 33).filter (fun d => s.pwr.on.contains d && !s.wanted d) = [] :=
    List.filter_eq_nil_iff.2 fun d domain => by rw [as d (List.mem_range.1 domain)]; simp
  have on : (List.range 33).filter (fun d => s.wanted d && !s.pwr.on.contains d) = [] :=
    List.filter_eq_nil_iff.2 fun d domain => by rw [as d (List.mem_range.1 domain)]; simp
  have awaits : s.pwr.awaitReady.isSome = false := by
    simp only [State.seqBusy, Bool.or_eq_false_iff] at idle
    exact idle.2
  rw [State.seqBusy, show s.readyAwaited.pwr.seqOn = [] from on, show s.readyAwaited.pwr.seqOff = [] from congrArg List.reverse off,
    show s.readyAwaited.pwr.awaitReady.isSome = false from awaits]
  rfl

theorem State.readyAwaited_busy {d : Nat} (domain : d < 33) (differs : s.pwr.on.contains d ≠ s.wanted d) : s.readyAwaited.seqBusy = true := by
  have domain : d ∈ List.range 33 := List.mem_range.2 domain
  cases on : s.pwr.on.contains d
  case true =>
    have unwanted : s.wanted d = false := by rw [on] at differs; exact Bool.eq_false_iff.2 differs.symm
    have off : d ∈ s.readyAwaited.pwr.seqOff := List.mem_reverse.2 (List.mem_filter.2 ⟨domain, by rw [on, unwanted]; rfl⟩)
    simp [State.seqBusy, List.ne_nil_of_mem off]
  case false =>
    have wanted : s.wanted d = true := by rw [on] at differs; exact Bool.ne_false_iff.1 differs.symm
    have off : d ∈ s.readyAwaited.pwr.seqOn := List.mem_filter.2 ⟨domain, by rw [on, wanted]; rfl⟩
    simp [State.seqBusy, List.ne_nil_of_mem off]

/-! ## What counting keeps -/

theorem State.CountsTo.wanted (counted : s.CountsTo u) (d : Nat) : u.wanted d = s.wanted d := by
  simp only [State.wanted, State.fallow, State.chan, counted.banks, counted.time]

theorem State.CountsTo.fallow (counted : s.CountsTo u) : u.fallow = s.fallow := by rw [State.fallow, counted.banks, State.fallow]

theorem State.CountsTo.seqBusy (counted : s.CountsTo u) : u.seqBusy = s.seqBusy := by rw [State.seqBusy, counted.pwr, State.seqBusy]

theorem State.CountsTo.stackState (counted : s.CountsTo u) {n : Nat} (stack : n < 8) : u.stackState n = s.stackState n :=
  counted.rdp _ _ _ (isTele_high (by decide) (by decide) (by decide) (by unfold hbmPage; omega) (by unfold hbmPage; omega))

theorem State.CountsTo.bootComplete (counted : s.CountsTo u) : u.bootComplete = s.bootComplete := by
  have run : (List.range 8).all (fun n => u.stackState n == 3) = (List.range 8).all (fun n => s.stackState n == 3) := by
    rw [Bool.eq_iff_iff, List.all_eq_true, List.all_eq_true]
    exact forall₂_congr fun n stack => by rw [counted.stackState (List.mem_range.1 stack)]
  rw [State.bootComplete, counted.rd _ (by decide), counted.rdb _ (by decide), run, State.bootComplete]

theorem State.CountsTo.readyAwaited_pwr (counted : s.CountsTo u) : u.readyAwaited.pwr = s.readyAwaited.pwr := by
  simp only [State.readyAwaited, counted.wanted, counted.pwr]

/-! ## STANDBY -/

theorem SMap.lookup_filter_of_kept {β : Type} (keep : Nat → Bool) {k : Nat} (kept : keep k = true) (l : SMap β) :
    SMap.lookup (l.filter (fun e => keep e.1)) k = SMap.lookup l k := by
  induction l with
  | nil => rfl
  | cons e l ih =>
    obtain ⟨j, v⟩ := e
    by_cases here : j = k
    · subst here
      simp [SMap.lookup, kept]
    · cases stays : keep j <;> simp [SMap.lookup, stays, here, ih]

/-- A register clear of a page leaves the fields of the others. -/
theorem State.clearRegs_lookup {p k : Nat} (other : k / 64 / 4096 ≠ p) (s : State) (live : Bool) (cls : List Ret) :
    (s.clearRegs live cls p).regs.active.lookup k = s.regs.active.lookup k :=
  SMap.lookup_filter_of_kept (k := k) (fun j => !(keyCleared p cls j) || (live && liveKeys.contains j)) (by simp [keyCleared, other]) s.regs.active

theorem State.foldl_clearRegs_lookup {k : Nat} (l : List Nat) (others : ∀ p ∈ l, k / 64 / 4096 ≠ p) (live : Bool) (cls : List Ret) (s : State) :
    (l.foldl (fun t p => t.clearRegs live cls p) s).regs.active.lookup k = s.regs.active.lookup k := by
  induction l generalizing s with
  | nil => rfl
  | cons p l ih =>
    rw [List.foldl_cons, ih (fun q later => others q (List.mem_cons_of_mem p later)),
      State.clearRegs_lookup (others p List.mem_cons_self)]

/-- The belay is released and the registers outside AON are clear (R415, R425). -/
def State.standbyRegs (s : State) : State :=
  (allPages.filter (fun q => q != 3)).foldl (fun t q => t.clearRegs false [.s, .v, .w] q) s.belayRelease

theorem State.standbyCleared_eq (s : State) : s.standbyCleared = s.standbyRegs.standbyLoss := rfl

theorem State.standbyRegs_but {v : Nat} (hv : v &&& 2164260867 = 2164260867) (s : State) : s.standbyRegs.but v = s.but v := by
  refine State.but_mono hv ?_
  rw [State.standbyRegs]
  simp

theorem State.belayRelease_regsBut (s : State) : s.RegsBut [Reg.PAIR_STAT_OWNER.key 0] s.belayRelease :=
  s.pairRelease_regsBut.ite (State.RegsBut.refl _ s)

/-- A field of AON stays through STANDBY's losses. -/
theorem State.standbyCleared_rd (s : State) {f : Fld} (plain : isTele (fkey f.pg f 0) = false) (aon : fkey f.pg f 0 / 64 / 4096 = 3) :
    s.standbyCleared.rd f = s.rd f := by
  have loss : s.standbyCleared.regs = s.standbyRegs.regs :=
    State.of_but_regs (State.standbyLoss_but (u := 1870659582) (by decide) s.standbyRegs) (by decide)
  have cleared : s.standbyRegs.rd f = s.belayRelease.rd f := by
    refine State.rdp_congr (State.foldl_clearRegs_lookup _ (fun p page => ?_) _ _ _)
    rw [aon]
    exact fun same => by simp [← same] at page
  rw [State.rd_of_regs loss, cleared]
  refine s.belayRelease_regsBut.lookup plain ?_
  rw [List.mem_singleton]
  intro same
  rw [same] at aon
  exact absurd aon (by decide)

theorem State.enterStandby_count (on : s.mode ≠ 0) (cause : Nat) :
    (s.enterStandby cause).rd Reg.AON_STBY_COUNT = min (s.rd Reg.AON_STBY_COUNT + 1) 0xFFFF := by
  have before : ((s.standbyCleared.wr Reg.TOP_STAT_MODE 0).wr Reg.TOP_STAT_CAUSE cause).rdp 0x03 Reg.AON_STBY_COUNT 0 =
      s.rd Reg.AON_STBY_COUNT :=
    (State.rd_wr_ne (by decide)).trans ((State.rd_wr_ne (by decide)).trans (s.standbyCleared_rd (by decide) (by decide)))
  rw [State.rd_of_regs (State.enterStandby_regs on cause), State.standbyNoted, State.satp, before]
  refine (State.rdp_wrp_same _ _ _ _ _).trans (Nat.mod_eq_of_lt ?_)
  exact lt_of_le_of_lt (Nat.min_le_right _ _) (by decide)

theorem State.standbyCleared_pwr (s : State) : s.standbyCleared.pwr = s.pwr :=
  (State.of_but_pwr (State.standbyLoss_but (u := 1870659582) (by decide) s.standbyRegs) (by decide)).trans
    (State.of_but_pwr (State.standbyRegs_but (v := 2164260867) (by decide) s) (by decide))

theorem State.standbyNoted_pwr (s : State) (cause : Nat) : (s.standbyNoted cause).pwr = s.pwr := rfl

/-- The power of a device that enters STANDBY: every domain but AON is to switch off, in descending order (R415). -/
def PwrSt.standby (p : PwrSt) : PwrSt :=
  { PwrSt.initial with on := p.on, seqOff := ((List.range 33).filter (fun d => d != 0 && p.on.contains d)).reverse }

theorem State.enterStandby_eq (on : s.mode ≠ 0) (cause : Nat) : s.enterStandby cause =
    { s.standbyCleared.standbyNoted cause with pwr := (s.standbyCleared.standbyNoted cause).pwr.standby } := if_neg on

theorem State.enterStandby_pwr (on : s.mode ≠ 0) (cause : Nat) : (s.enterStandby cause).pwr = s.pwr.standby := by
  rw [State.enterStandby_eq on, State.standbyNoted_pwr, State.standbyCleared_pwr]

theorem State.enterStandby_buf (on : s.mode ≠ 0) (cause : Nat) : (s.enterStandby cause).buf = BufSt.initial := by
  obtain ⟨pwr, entered⟩ := State.enterStandby_of_on on cause
  rw [entered, State.standbyCleared_eq]
  rfl

theorem State.enterStandby_hbm (on : s.mode ≠ 0) (cause : Nat) : (s.enterStandby cause).hbm = HbmSt.initial := by
  obtain ⟨pwr, entered⟩ := State.enterStandby_of_on on cause
  rw [entered, State.standbyCleared_eq]
  rfl

theorem State.standbyLoss_partA (s : State) : s.standbyLoss.boot.partA = s.boot.partA := rfl

theorem State.enterStandby_partA (on : s.mode ≠ 0) (cause : Nat) : (s.enterStandby cause).boot.partA = s.boot.partA := by
  obtain ⟨pwr, entered⟩ := State.enterStandby_of_on on cause
  rw [entered, ← State.of_but_boot (State.standbyRegs_but (v := 2164260867) (by decide) s) (by decide), ← State.standbyLoss_partA,
    State.standbyCleared_eq]
  rfl

/-! ## The requests -/

theorem exec_gotoStandby_ok (reach : s.access m 0x00 0x104 4 true = .ok) (on : s.mode ≠ 0) :
    ∃ u, s.CountsTo u ∧ exec (.gotoStandby m) s = .next (u.enterStandby 1) := by
  obtain ⟨u, counted, ran⟩ := State.onWrite_ok reach (fun t => t.goto 0)
  have on' : ¬ u.mode = 0 := by rwa [counted.mode]
  exact ⟨u, counted, congrArg Host.Outcome.next (ran.trans (if_neg on'))⟩

theorem exec_gotoReady_of_boot (reach : s.access m 0x00 0x104 4 true = .ok) (idle : s.seqBusy = false) (boot : s.mode = 1) :
    ∃ u, s.CountsTo u ∧ exec (.gotoReady m) s = .next u.bootToReady := by
  obtain ⟨u, counted, ran⟩ := State.onWrite_ok reach (fun t => t.goto 2)
  have idle' : ¬ u.seqBusy = true := by rw [counted.seqBusy, idle]; decide
  exact ⟨u, counted, congrArg Host.Outcome.next (ran.trans ((if_neg idle').trans (if_pos ⟨rfl, counted.mode.trans boot⟩)))⟩

theorem exec_gotoReady_of_forwarding (reach : s.access m 0x00 0x104 4 true = .ok) (idle : s.seqBusy = false)
    (forwards : s.mode = 3 ∨ s.mode = 4 ∨ s.mode = 5) : ∃ u, s.CountsTo u ∧ exec (.gotoReady m) s = .next (u.setMode 2 1) := by
  obtain ⟨u, counted, ran⟩ := State.onWrite_ok reach (fun t => t.goto 2)
  have idle' : ¬ u.seqBusy = true := by rw [counted.seqBusy, idle]; decide
  rw [← counted.mode] at forwards
  refine ⟨u, counted, congrArg Host.Outcome.next (ran.trans ((if_neg idle').trans ((if_neg (by omega)).trans ?_)))⟩
  exact (if_neg (by omega)).trans ((if_neg (by omega)).trans (if_pos ⟨rfl, forwards⟩))

theorem exec_gotoService_ok (reach : s.access m 0x00 0x104 4 true = .ok) (idle : s.seqBusy = false) (from' : s.mode = 2 ∨ s.mode = 5) :
    ∃ u, s.CountsTo u ∧ exec (.gotoService m) s = .next (u.setMode u.serviceMode 1) := by
  obtain ⟨u, counted, ran⟩ := State.onWrite_ok reach (fun t => t.goto 3)
  have idle' : ¬ u.seqBusy = true := by rw [counted.seqBusy, idle]; decide
  rw [← counted.mode] at from'
  refine ⟨u, counted, congrArg Host.Outcome.next (ran.trans ((if_neg idle').trans ((if_neg (by omega)).trans ?_)))⟩
  exact if_pos ⟨rfl, from'⟩

theorem exec_gotoDrain_ok (reach : s.access m 0x00 0x104 4 true = .ok) (idle : s.seqBusy = false) (forwards : s.mode = 3 ∨ s.mode = 4) :
    ∃ u, s.CountsTo u ∧ exec (.gotoDrain m) s = .next (u.setMode 5 1) := by
  obtain ⟨u, counted, ran⟩ := State.onWrite_ok reach (fun t => t.goto 5)
  have idle' : ¬ u.seqBusy = true := by rw [counted.seqBusy, idle]; decide
  rw [← counted.mode] at forwards
  refine ⟨u, counted, congrArg Host.Outcome.next (ran.trans ((if_neg idle').trans ((if_neg (by omega)).trans ?_)))⟩
  exact (if_neg (by omega)).trans (if_pos ⟨rfl, forwards⟩)

/-- A request that the table of R407 does not have is refused, with a sequence running or without. -/
theorem State.goto_refused {n : Nat} (named : n = 3 ∧ s.mode ≠ 2 ∧ s.mode ≠ 5 ∨ n = 5 ∧ s.mode ≠ 3 ∧ s.mode ≠ 4) : s.goto n = s.trb 0x00 3 := by
  rw [State.goto, if_neg (by omega), if_neg (by omega), if_neg (c := n = 2 ∧ s.mode = 1) (by omega)]
  refine (ite_eq_left_iff.2 fun _ => ?_)
  exact (if_neg (by omega)).trans ((if_neg (by omega)).trans (if_neg (by omega)))

theorem exec_gotoDrain_refused (reach : s.access m 0x00 0x104 4 true = .ok) (other : s.mode = 1 ∨ s.mode = 2) :
    ∃ u, s.CountsTo u ∧ exec (.gotoDrain m) s = .next (u.trb 0x00 3) := by
  obtain ⟨u, counted, ran⟩ := State.onWrite_ok reach (fun t => t.goto 5)
  have mode := counted.mode
  exact ⟨u, counted, congrArg Host.Outcome.next (ran.trans (State.goto_refused (.inr ⟨rfl, by omega, by omega⟩)))⟩

theorem exec_gotoService_refused (reach : s.access m 0x00 0x104 4 true = .ok) (other : s.mode = 1 ∨ s.mode = 3 ∨ s.mode = 4) :
    ∃ u, s.CountsTo u ∧ exec (.gotoService m) s = .next (u.trb 0x00 3) := by
  obtain ⟨u, counted, ran⟩ := State.onWrite_ok reach (fun t => t.goto 3)
  have mode := counted.mode
  exact ⟨u, counted, congrArg Host.Outcome.next (ran.trans (State.goto_refused (.inl ⟨rfl, by omega, by omega⟩)))⟩

/-- Settles O56: a request of the table enters its mode, and one that the table does not have counts. -/
theorem modesFollowTheTable : Obligations.ModesFollowTheTable := by
  refine fun s m reach => ⟨fun on => ?standby, fun idle boot complete => ⟨fun as => ?ready, fun ⟨d, domain, differs⟩ => ?sequence⟩,
    fun idle boot incomplete => ?incomplete, fun idle forwards => ?back, fun idle from' => ?service, fun idle forwards => ?drain,
    fun other => ?noDrain, fun other => ?noService⟩
  case standby =>
    obtain ⟨u, counted, ran⟩ := exec_gotoStandby_ok reach on
    have on : u.mode ≠ 0 := by rwa [counted.mode]
    refine ⟨_, ran, State.enterStandby_mode on 1, State.enterStandby_cause on (by decide), ?_, ?_, ?_, ?_, ?_, ?_⟩
    · rw [State.enterStandby_pwr on, counted.pwr]
      rfl
    · rw [State.enterStandby_pwr on, counted.pwr]
      rfl
    · rw [State.enterStandby_count on, counted.rd _ (by decide)]
    · rw [State.enterStandby_buf on]
      rfl
    · rw [State.enterStandby_hbm on]
      rfl
    · rw [State.enterStandby_partA on, counted.boot]
  case ready =>
    obtain ⟨u, counted, ran⟩ := exec_gotoReady_of_boot reach idle boot
    have as : ∀ d, d < 33 → u.pwr.on.contains d = u.wanted d := fun d domain => by rw [counted.pwr, counted.wanted, as d domain]
    have idle : u.readyAwaited.seqBusy = false := State.readyAwaited_idle (counted.seqBusy.trans idle) as
    rw [State.bootToReady_of_complete (counted.bootComplete.trans complete),
      State.seqEnd_of_ready idle rfl (fun d domain wanted => (as d domain).trans wanted)] at ran
    exact ⟨_, ran, State.setMode_mode (by decide) _ 1, State.setMode_cause (by decide) _ 2⟩
  case sequence =>
    obtain ⟨u, counted, ran⟩ := exec_gotoReady_of_boot reach idle boot
    have differs : u.pwr.on.contains d ≠ u.wanted d := by rwa [counted.pwr, counted.wanted]
    rw [State.bootToReady_of_complete (counted.bootComplete.trans complete), State.seqEnd_of_busy (State.readyAwaited_busy domain differs)] at ran
    have kept : u.RegsBut [] u.readyAwaited := State.RegsBut.of_regs rfl
    exact ⟨_, ran, counted.mode.trans boot, counted.readyAwaited_pwr, .after counted kept⟩
  case incomplete =>
    obtain ⟨u, counted, ran⟩ := exec_gotoReady_of_boot reach idle boot
    rw [State.bootToReady_of_incomplete (counted.bootComplete.trans incomplete)] at ran
    exact ⟨_, ran, counted.trb 0x00 3⟩
  case back =>
    obtain ⟨u, counted, ran⟩ := exec_gotoReady_of_forwarding reach idle forwards
    exact ⟨_, ran, State.setMode_mode (by decide) _ 1, State.setMode_cause (by decide) _ 2, .after counted (u.setMode_regsBut 2 1)⟩
  case service =>
    obtain ⟨u, counted, ran⟩ := exec_gotoService_ok reach idle from'
    have mode : u.serviceMode = if s.fallow = 0 then 3 else 4 := by rw [State.serviceMode, counted.fallow]
    have code : u.serviceMode < 8 ∧ u.serviceMode ≠ 5 := by rw [mode]; split <;> decide
    exact ⟨_, ran, (State.setMode_mode code.1 _ 1).trans mode, State.setMode_cause (by decide) _ _,
      fun drain => State.setMode_drained (counted.mode.trans drain) code.2 1, .after counted (u.setMode_regsBut _ 1)⟩
  case drain =>
    obtain ⟨u, counted, ran⟩ := exec_gotoDrain_ok reach idle forwards
    exact ⟨_, ran, State.setMode_mode (by decide) _ 1, State.setMode_cause (by decide) _ 5,
      .after counted (State.setMode_regsBut_of_other (by simp) 1)⟩
  case noDrain =>
    obtain ⟨u, counted, ran⟩ := exec_gotoDrain_refused reach other
    exact ⟨_, ran, counted.trb 0x00 3⟩
  case noService =>
    obtain ⟨u, counted, ran⟩ := exec_gotoService_refused reach other
    exact ⟨_, ran, counted.trb 0x00 3⟩

end Sys2Proof.Machine
end

section
/-! SUPPORT. The governor and the thermal limits (R411, R416, R417), and the pins that entering STANDBY keeps (R90, R115). -/
namespace Sys2Proof.Machine

variable {s t u : State}

/-! ## The pins that a release of the belay and STANDBY keep -/

/-- The pins are the same but for BELAY_OUT, the GPIO of ownership and the drive of the shared outputs. -/
def State.PinsKept (s t : State) : Prop :=
  ∃ belay gpio shared, t.pins = { s.pins with belayOut := belay, gpio := gpio, sharedOut := shared }

theorem State.PinsKept.of_pins (same : t.pins = s.pins) : s.PinsKept t := ⟨s.pins.belayOut, s.pins.gpio, s.pins.sharedOut, same⟩

theorem State.PinsKept.trans (h : s.PinsKept t) (g : t.PinsKept u) : s.PinsKept u := by
  obtain ⟨b, gpio, o, pins⟩ := h
  obtain ⟨b', gpio', o', pins'⟩ := g
  exact ⟨b', gpio', o', by rw [pins', pins]⟩

theorem State.PinsKept.pgIn (kept : s.PinsKept t) : t.pins.pgIn = s.pins.pgIn := by
  obtain ⟨_, _, _, pins⟩ := kept
  rw [pins]

theorem State.PinsKept.thermTrip (kept : s.PinsKept t) : t.pins.thermTrip = s.pins.thermTrip := by
  obtain ⟨_, _, _, pins⟩ := kept
  rw [pins]

theorem State.PinsKept.asserting (kept : s.PinsKept t) (asserted : Bool) : s.PinsKept (t.asserting asserted) :=
  kept.trans ⟨_, t.pins.gpio, t.pins.sharedOut, rfl⟩

theorem State.PinsKept.driving (kept : s.PinsKept t) (driven : Bool) : s.PinsKept (t.driving driven) :=
  kept.trans ⟨t.pins.belayOut, t.pins.gpio, _, rfl⟩

theorem State.PinsKept.owning (kept : s.PinsKept t) (owns : Bool) : s.PinsKept (t.owning owns) := by
  obtain ⟨gpio, pins⟩ := t.owning_pins owns
  exact kept.trans ⟨t.pins.belayOut, gpio, t.pins.sharedOut, pins⟩

theorem State.PinsKept.stopOwning (kept : s.PinsKept t) : s.PinsKept t.stopOwning := (kept.driving false).owning false

theorem State.PinsKept.pairRelease (kept : s.PinsKept t) : s.PinsKept t.pairRelease := by
  have silent : s.PinsKept (t.stopOwning.asserting false) := kept.stopOwning.asserting false
  rw [State.pairRelease_eq]
  cases pair : (t.stopOwning.asserting false).inPair
  case true =>
    rw [State.pairSettle_of_silent pair rfl]
    exact silent.stopOwning
  case false =>
    rw [State.pairSettle_of_alone pair]
    split
    · exact ((silent.asserting false).driving true).owning false
    · exact (silent.asserting false).driving true

theorem State.PinsKept.belayRelease (kept : s.PinsKept t) : s.PinsKept t.belayRelease := by
  unfold State.belayRelease
  split
  · exact kept.pairRelease
  · exact kept

theorem State.standbyLoss_pins (s : State) : s.standbyLoss.pins = { s.pins with sharedOut := false } := rfl

theorem State.PinsKept.enterStandby (on : s.mode ≠ 0) (cause : Nat) : s.PinsKept (s.enterStandby cause) := by
  have cleared : s.standbyRegs.pins = s.belayRelease.pins := State.of_but_pins (u := 1) (by simp [State.standbyRegs]) (by decide)
  have released : s.PinsKept s.standbyRegs := (State.PinsKept.belayRelease (.of_pins rfl)).trans (.of_pins cleared)
  refine released.trans ⟨s.standbyRegs.pins.belayOut, s.standbyRegs.pins.gpio, false, ?_⟩
  rw [State.enterStandby_pins on, State.standbyCleared_eq, State.standbyLoss_pins]

/-! ## The governor -/

/-- The clocks that a governor tick grants (R411). -/
def State.granted (s : State) (f g : Nat) : Nat := min (min (s.stepGrant f) (s.stepGrant g)) s.dutyGrant

/-- The grant of a governor tick is kept, and a grant below the full rate by the step limit is counted (R411). -/
def State.governed (s : State) (f g : Nat) : State :=
  let t := if min (s.stepGrant f) (s.stepGrant g) < tickClocks then s.trb 0x01 4 else s
  { t with pwr := { t.pwr with govRate := s.granted f g } }

theorem exec_governorTick (on : s.mode ≠ 0) (f g : Nat) : exec (.governorTick f g) s =
    .next ((List.range 16).foldl (State.withhold (tickClocks - s.granted f g)) (s.governed f g)) :=
  congrArg Host.Outcome.next (if_neg on)

theorem State.granted_le (s : State) (f g : Nat) : s.granted f g ≤ tickClocks := by
  have step : s.stepGrant f ≤ tickClocks := by
    unfold State.stepGrant
    dsimp only
    split
    case isTrue => exact le_rfl
    case isFalse limits =>
      refine Nat.div_le_of_le_mul ?_
      rw [Nat.mul_comm]
      exact Nat.mul_le_mul_right _ (by omega)
  exact (Nat.min_le_left _ _).trans ((Nat.min_le_left _ _).trans step)

theorem State.governed_pwr (s : State) (f g : Nat) : (s.governed f g).pwr = { s.pwr with govRate := s.granted f g } := by
  unfold State.governed
  split
  · simp only [State.trb_pwr]
  · rfl

theorem pipe_plain {q : Nat} {f : Fld} (pipe : q < 16) (lo : f.lo < 64) (off : f.off = 0x100) :
    isTele (fkey (0x20 + q) f 0) = false :=
  isTele_high lo (by omega) (by omega) (by omega) (by omega)

/-- The registers that withholding clocks of a pipeline writes (R411). -/
def withheldKeys (q : Nat) : List Nat :=
  [fkey (0x20 + q) Reg.PIPE_STAT_THROTTLED 0, trbKey (0x20 + q) 3, fkey 0x01 Reg.PWR_GOV_CLOCKS 0]

theorem State.RegsBut.trbN {l : List Nat} (h : s.RegsBut l t) {p k : Nat} (n : Nat) (listed : trbKey p k ∈ l) : s.RegsBut l (t.trbN p k n) :=
  h.trans (State.RegsBut.foldl (fun v _ => (State.RegsBut.refl l v).trb listed) _ t)

theorem State.withhold_regsBut (n : Nat) (s : State) (q : Nat) : s.RegsBut (withheldKeys q) (s.withhold n q) :=
  ((((State.RegsBut.refl _ s).wrp _ (by simp [withheldKeys])).trbN n (by simp [withheldKeys])).stat n (by simp [withheldKeys])).ite
    (State.RegsBut.refl _ s)

theorem State.withhold_blkEn (n : Nat) (s : State) (q p : Nat) : (s.withhold n q).blkEn p = s.blkEn p := by
  have apart : fkey p Reg.PG_CTRL_BLK_EN 0 ∉ withheldKeys q := by
    simp only [withheldKeys, trbKey, fkey, Reg.PG_CTRL_BLK_EN, Reg.PIPE_STAT_THROTTLED, Reg.TRB_k_CNT_LO, Reg.TRB_k_CNT_HI,
      Reg.PWR_GOV_CLOCKS, List.mem_cons, List.not_mem_nil, or_false]
    split <;> omega
  rw [State.blkEn, (s.withhold_regsBut n q).lookup (isTele_blkEn p) apart, State.blkEn]

theorem State.withhold_runs (n : Nat) (s : State) (q p : Nat) : (s.withhold n q).runs p = s.runs p := by
  have same := State.withhold_but (u := 2164260865) (by decide) n s q
  simp only [State.runs, State.pagePowered, State.domainUp, State.pageInClear, State.withhold_blkEn, State.of_but_pwr same (by decide),
    State.of_but_rst same (by decide)]

theorem State.withhold_other (n : Nat) (s : State) {p q : Nat} (pipe : p < 16) (other : p ≠ q) :
    (s.withhold n q).rdp (0x20 + p) Reg.PIPE_STAT_THROTTLED 0 = s.rdp (0x20 + p) Reg.PIPE_STAT_THROTTLED 0 := by
  refine (s.withhold_regsBut n q).lookup (pipe_plain pipe (by decide) rfl) ?_
  simp only [withheldKeys, trbKey, fkey, Reg.PIPE_STAT_THROTTLED, Reg.TRB_k_CNT_LO, Reg.TRB_k_CNT_HI, Reg.PWR_GOV_CLOCKS, List.mem_cons,
    List.not_mem_nil, or_false]
  split <;> omega

theorem State.trbN_rdp {p k q i : Nat} {f : Fld} (plain : isTele (fkey q f i) = false) (apart : fkey q f i ≠ trbKey p k) (s : State) (n : Nat) :
    (s.trbN p k n).rdp q f i = s.rdp q f i :=
  ((State.RegsBut.refl [trbKey p k] s).trbN n (by simp)).lookup plain (by simpa using apart)

theorem State.withhold_same (n : Nat) {p : Nat} (pipe : p < 16) (runs : s.runs (0x20 + p) = true) :
    (s.withhold n p).rdp (0x20 + p) Reg.PIPE_STAT_THROTTLED 0 = b01 (n != 0) := by
  have plain : isTele (fkey (0x20 + p) Reg.PIPE_STAT_THROTTLED 0) = false := pipe_plain pipe (by decide) rfl
  rw [State.withhold, if_pos runs, State.stat_rdp _ _ _ _ _ _ _ _ plain (by simp only [fkey, Reg.PIPE_STAT_THROTTLED, Reg.PWR_GOV_CLOCKS]; omega),
    State.trbN_rdp plain (trbKey_ne (by decide) (by decide) (by decide) (by decide)), State.rdp_wrp_same]
  cases n != 0 <;> rfl

theorem State.foldl_withhold_runs (n : Nat) (l : List Nat) (s : State) (p : Nat) : (l.foldl (State.withhold n) s).runs p = s.runs p := by
  induction l generalizing s with
  | nil => rfl
  | cons q l ih => rw [List.foldl_cons, ih, State.withhold_runs]

/-- Each running pipeline shows whether clocks of it are withheld. -/
theorem State.foldl_withhold_throttled (n : Nat) {p k : Nat} (pipe : p < k) (pipes : k ≤ 16) (runs : s.runs (0x20 + p) = true) :
    ((List.range k).foldl (State.withhold n) s).rdp (0x20 + p) Reg.PIPE_STAT_THROTTLED 0 = b01 (n != 0) := by
  induction k with
  | zero => exact absurd pipe (Nat.not_lt_zero p)
  | succ k ih =>
    rw [List.range_succ, List.foldl_append, List.foldl_cons, List.foldl_nil]
    by_cases last : p = k
    · subst last
      exact State.withhold_same n (by omega) ((State.foldl_withhold_runs n _ s _).trans runs)
    · rw [State.withhold_other n _ (by omega) last]
      exact ih (by omega) (by omega)

theorem State.foldl_withhold_pwr (n : Nat) (l : List Nat) (s : State) : (l.foldl (State.withhold n) s).pwr = s.pwr := by
  induction l generalizing s with
  | nil => rfl
  | cons q l ih => rw [List.foldl_cons, ih, State.of_but_pwr (State.withhold_but (u := 2164260865) (by decide) n s q) (by decide)]

theorem State.governed_rst (s : State) (f g : Nat) : (s.governed f g).rst = s.rst := by
  unfold State.governed
  split
  · simp only [State.trb_rst]
  · rfl

theorem State.governed_blkEn (s : State) (f g p : Nat) : (s.governed f g).blkEn p = s.blkEn p := by
  have kept : s.RegsBut [trbKey 0x01 4] (s.governed f g) :=
    (((State.RegsBut.refl _ s).trb (by simp)).ite (State.RegsBut.refl _ s)).trans (State.RegsBut.of_regs rfl)
  have apart : fkey p Reg.PG_CTRL_BLK_EN 0 ∉ [trbKey 0x01 4] := by
    simp only [trbKey, fkey, Reg.PG_CTRL_BLK_EN, Reg.TRB_k_CNT_LO, Reg.TRB_k_CNT_HI, List.mem_singleton]
    split <;> omega
  rw [State.blkEn, kept.lookup (isTele_blkEn p) apart, State.blkEn]

theorem State.governed_runs (s : State) (f g p : Nat) : (s.governed f g).runs p = s.runs p := by
  simp only [State.runs, State.pagePowered, State.domainUp, State.pageInClear, State.governed_pwr, State.governed_rst, State.governed_blkEn]

/-! ## The sensors -/

theorem sensor_plain {n : Nat} {f : Fld} (sensor : n < 24) (lo : f.lo < 64) (off : f.off = 0x100) (stride : f.stride = 4) :
    isTele (fkey 0x04 f n) = false :=
  isTele_high lo (by rw [off, stride]; omega) (by rw [off, stride]; omega) (by decide) (by decide)

/-- A sensor shows a reading, and is not STALE. -/
def State.SensorShows (s : State) (n : Nat) (v : BitVec 16) : Prop := s.rdi Reg.THM_TEMP_n_TEMP n = v.toNat ∧ s.rdi Reg.THM_TEMP_n_STALE n = 0

theorem State.sensorRead_regs (s : State) (n : Nat) (v : BitVec 16) : (s.sensorRead n (some v)).regs =
    ((s.wri Reg.THM_TEMP_n_TEMP n v.toNat).wri Reg.THM_TEMP_n_STALE n 0).regs := rfl

theorem State.sensorRead_shows (s : State) (n : Nat) (v : BitVec 16) : (s.sensorRead n (some v)).SensorShows n v := by
  have regs := congrArg Regs.active (s.sensorRead_regs n v)
  refine ⟨(State.rdp_of_regs regs _ _ _).trans ?_, (State.rdp_of_regs regs _ _ _).trans (State.rdi_wri_same _ _ _ _)⟩
  refine (State.rdi_wri_ne (fkey_ne_lo (by decide))).trans ((State.rdi_wri_same _ _ _ _).trans ?_)
  exact Nat.mod_eq_of_lt v.isLt

/-- The registers that hold the readings of the sensors of a list. -/
def sensorKeys (l : List Nat) : List Nat := l.flatMap (fun n => [Reg.THM_TEMP_n_TEMP.key n, Reg.THM_TEMP_n_STALE.key n])

theorem State.sensorRead_regsBut (s : State) {n : Nat} (v : BitVec 16) {l : List Nat} (listed : n ∈ l) :
    s.RegsBut (sensorKeys l) (s.sensorRead n (some v)) :=
  (((State.RegsBut.refl _ s).wri _ (List.mem_flatMap.2 ⟨n, listed, by simp⟩)).wri _ (List.mem_flatMap.2 ⟨n, listed, by simp⟩)).trans
    (State.RegsBut.of_regs (s.sensorRead_regs n v))

/-- What readings of sensors store (R416). -/
def State.sensorsRead (s : State) (l : List (Option (BitVec 16) × Nat)) : State := l.foldl (fun s x => s.sensorRead x.2 x.1) s

theorem State.sensorsRead_regsBut (l : List (Option (BitVec 16) × Nat)) (answered : ∀ x ∈ l, x.1 ≠ none) (s : State) {k : List Nat}
    (listed : ∀ x ∈ l, x.2 ∈ k) : s.RegsBut (sensorKeys k) (s.sensorsRead l) := by
  induction l generalizing s with
  | nil => exact State.RegsBut.refl _ s
  | cons x l ih =>
    obtain ⟨v, value⟩ := Option.ne_none_iff_exists'.1 (answered x List.mem_cons_self)
    have first : s.RegsBut (sensorKeys k) (s.sensorRead x.2 x.1) := by
      rw [value]
      exact s.sensorRead_regsBut v (listed x List.mem_cons_self)
    exact first.trans (ih (fun y later => answered y (List.mem_cons_of_mem x later)) _ fun y later => listed y (List.mem_cons_of_mem x later))

theorem State.SensorShows.of_regsBut {n : Nat} {v : BitVec 16} {k : List Nat} (sensor : n < 24) (shows' : s.SensorShows n v) (kept : s.RegsBut k t)
    (temp : fkey 0x04 Reg.THM_TEMP_n_TEMP n ∉ k) (stale : fkey 0x04 Reg.THM_TEMP_n_STALE n ∉ k) : t.SensorShows n v :=
  ⟨(kept.lookup (sensor_plain sensor (by decide) rfl rfl) temp).trans shows'.1,
    (kept.lookup (sensor_plain sensor (by decide) rfl rfl) stale).trans shows'.2⟩

theorem State.SensorShows.of_others {n : Nat} {v : BitVec 16} {k : List Nat} (sensor : n < 24) (shows' : s.SensorShows n v)
    (kept : s.RegsBut (sensorKeys k) t) (other : n ∉ k) : t.SensorShows n v := by
  have apart : ∀ f : Fld, f = Reg.THM_TEMP_n_TEMP ∨ f = Reg.THM_TEMP_n_STALE → fkey 0x04 f n ∉ sensorKeys k := by
    intro f field member
    obtain ⟨j, here, key⟩ := List.mem_flatMap.1 member
    have differs : n ≠ j := fun same => other (same ▸ here)
    obtain rfl | rfl := field <;>
      simp only [Fld.key, fkey, Reg.THM_TEMP_n_TEMP, Reg.THM_TEMP_n_STALE, List.mem_cons, List.not_mem_nil, or_false] at key <;> omega
  exact shows'.of_regsBut sensor kept (apart _ (.inl rfl)) (apart _ (.inr rfl))

/-- Every sensor that answered shows its reading. -/
theorem State.sensorsRead_shows (l : List (Option (BitVec 16) × Nat)) (answered : ∀ x ∈ l, x.1 ≠ none) (below : ∀ x ∈ l, x.2 < 24)
    (once : (l.map Prod.snd).Nodup) (s : State) {n : Nat} {v : BitVec 16} (read : (some v, n) ∈ l) : (s.sensorsRead l).SensorShows n v := by
  induction l generalizing s with
  | nil => exact absurd read List.not_mem_nil
  | cons x l ih =>
    have answered' : ∀ y ∈ l, y.1 ≠ none := fun y later => answered y (List.mem_cons_of_mem x later)
    have below' : ∀ y ∈ l, y.2 < 24 := fun y later => below y (List.mem_cons_of_mem x later)
    rw [List.map_cons, List.nodup_cons] at once
    obtain rfl | later := List.mem_cons.1 read
    · have kept : (s.sensorRead n (some v)).RegsBut (sensorKeys (l.map Prod.snd)) ((s.sensorRead n (some v)).sensorsRead l) :=
        State.sensorsRead_regsBut l answered' _ fun y later => List.mem_map_of_mem later
      exact (s.sensorRead_shows n v).of_others (below (some v, n) List.mem_cons_self) kept once.1
    · exact ih answered' below' once.2 _ later

/-! ## The hottest sensor -/

theorem foldl_hotter_spec (l : List (Nat × Int)) (a : Nat × Int) :
    (l.foldl (fun b x => if b.2 < x.2 then x else b) a) ∈ a :: l ∧ ∀ x ∈ a :: l, x.2 ≤ (l.foldl (fun b x => if b.2 < x.2 then x else b) a).2 := by
  induction l generalizing a with
  | nil => exact ⟨List.mem_cons_self, fun x here => by rw [List.mem_singleton.1 here]; rfl⟩
  | cons x l ih =>
    obtain ⟨member, most⟩ := ih (if a.2 < x.2 then x else a)
    rw [List.foldl_cons]
    have top := most _ List.mem_cons_self
    refine ⟨?_, fun y here => ?_⟩
    · obtain same | later := List.mem_cons.1 member
      · rw [same]
        split <;> simp
      · exact List.mem_cons_of_mem _ (List.mem_cons_of_mem _ later)
    · rw [List.mem_cons, List.mem_cons] at here
      obtain rfl | rfl | later := here
      · refine le_trans ?_ top
        split <;> omega
      · refine le_trans ?_ top
        split <;> omega
      · exact most y (List.mem_cons_of_mem _ later)

/-- The hottest sensor is one of the list, and no other is hotter. -/
theorem hottest_spec {l : List (Nat × Int)} (some' : l ≠ []) : ∃ e, hottest l = some e ∧ e ∈ l ∧ ∀ x ∈ l, x.2 ≤ e.2 := by
  cases l with
  | nil => exact absurd rfl some'
  | cons a l => exact ⟨_, rfl, foldl_hotter_spec l a⟩

/-! ## What a reading of the sensors does -/

variable {l : List (Option (BitVec 16))}

/-- The readings with the numbers of their sensors. -/
def sensorReadings (l : List (Option (BitVec 16))) : List (Option (BitVec 16) × Nat) := (l.take 24).zip (List.range 24)

theorem mem_sensorReadings (all : l.length = 24) {o : Option (BitVec 16)} {n : Nat} : (o, n) ∈ sensorReadings l ↔ l[n]? = some o := by
  rw [sensorReadings, List.take_of_length_le (by omega), List.mem_iff_getElem?]
  constructor
  · rintro ⟨i, here⟩
    obtain ⟨reading, number⟩ := List.getElem?_zip_eq_some.1 here
    obtain ⟨_, same⟩ := List.getElem?_eq_some_iff.1 number
    obtain rfl : i = n := (List.getElem_range _).symm.trans same
    exact reading
  · intro here
    have below : n < 24 := by rw [← all]; exact (List.getElem?_eq_some_iff.1 here).1
    exact ⟨n, List.getElem?_zip_eq_some.2 ⟨here, by simp [below]⟩⟩

/-- Every one of the 24 sensors answers. -/
structure AllAnswer (l : List (Option (BitVec 16))) : Prop where
  all : l.length = 24
  answer : ∀ n, n < 24 → ∃ v, l[n]? = some (some v)

theorem AllAnswer.below (a : AllAnswer l) {n : Nat} {o : Option (BitVec 16)} (here : l[n]? = some o) : n < 24 := by
  rw [← a.all]
  exact (List.getElem?_eq_some_iff.1 here).1

theorem AllAnswer.readings (a : AllAnswer l) : ∀ x ∈ sensorReadings l, x.1 ≠ none ∧ x.2 < 24 := by
  intro x here
  have reading := (mem_sensorReadings a.all).1 here
  obtain ⟨v, value⟩ := a.answer x.2 (a.below reading)
  rw [value, Option.some_inj] at reading
  exact ⟨by rw [← reading]; exact Option.some_ne_none v, a.below value⟩

/-- The state with the readings of all the sensors. -/
def State.measured (s : State) (l : List (Option (BitVec 16))) : State := s.sensorsRead (sensorReadings l)

theorem AllAnswer.shows (a : AllAnswer l) (s : State) {n : Nat} {v : BitVec 16} (reading : l[n]? = some (some v)) :
    (s.measured l).SensorShows n v := by
  refine State.sensorsRead_shows _ (fun x here => (a.readings x here).1) (fun x here => (a.readings x here).2) ?_ s
    ((mem_sensorReadings a.all).2 reading)
  rw [sensorReadings, List.map_snd_zip (by simp [a.all])]
  exact List.nodup_range

theorem AllAnswer.measured_regsBut (a : AllAnswer l) (s : State) : s.RegsBut (sensorKeys (List.range 24)) (s.measured l) :=
  State.sensorsRead_regsBut _ (fun x here => (a.readings x here).1) s fun x here => List.mem_range.2 (a.readings x here).2

theorem State.measured_pins (s : State) (l : List (Option (BitVec 16))) : (s.measured l).pins = s.pins := by
  unfold State.measured State.sensorsRead
  induction sensorReadings l generalizing s with
  | nil => rfl
  | cons x xs ih => rw [List.foldl_cons, ih, State.of_but_pins (State.sensorRead_but (u := 2172649473) (by decide) s _ _) (by decide)]

theorem State.SensorShows.signed {n : Nat} {v : BitVec 16} (shows' : s.SensorShows n v) : s.rdsi Reg.THM_TEMP_n_TEMP n = v.toInt := by
  rw [State.rdsi, shows'.1, toSigned, BitVec.toInt_eq_toNat_cond]
  have fits : v.toNat % 2 ^ Reg.THM_TEMP_n_TEMP.width = v.toNat := Nat.mod_eq_of_lt v.isLt
  rw [fits]
  rfl

/-- Once every sensor has answered, each is live with its reading. -/
theorem AllAnswer.mem_live (a : AllAnswer l) (s : State) {n : Nat} {i : Int} :
    (n, i) ∈ (s.measured l).liveSensors ↔ ∃ v, l[n]? = some (some v) ∧ v.toInt = i := by
  rw [State.liveSensors, List.mem_map]
  constructor
  · rintro ⟨k, live, same⟩
    obtain ⟨rfl, rfl⟩ := Prod.mk.inj same
    obtain ⟨v, reading⟩ := a.answer k (List.mem_range.1 (List.mem_filter.1 live).1)
    exact ⟨v, reading, (a.shows s reading).signed.symm⟩
  · rintro ⟨v, reading, rfl⟩
    have shown := a.shows s reading
    exact ⟨n, List.mem_filter.2 ⟨List.mem_range.2 (a.below reading), by rw [shown.2]; rfl⟩, by rw [shown.signed]⟩

/-! ## Limits and the trip -/

/-- The highest reading and its sensor are shown (R416). -/
def State.maxShown (s : State) (e : Nat × Int) : State := (s.wr Reg.THM_MAX_TEMP (ofSigned 16 e.2)).wr Reg.THM_MAX_SENSOR e.1

/-- The state with the readings, their maximum, and warning and throttling at it (R416, R417). -/
def State.limited (s : State) (l : List (Option (BitVec 16))) (e : Nat × Int) : State := ((s.measured l).maxShown e).thermalLimits e.2

theorem exec_thermalRead {e : Nat × Int} (hot : hottest (s.measured l).liveSensors = some e) :
    exec (.thermalRead l) s = .next ((s.limited l e).thermalTrip (s.measured l).liveSensors) := by
  refine congrArg Host.Outcome.next ?_
  simp only [State.measured, State.sensorsRead, sensorReadings] at hot
  simp only [hot]
  rfl

theorem State.maxShown_sensor {e : Nat × Int} (sensor : e.1 < 24) (s : State) : (s.maxShown e).rd Reg.THM_MAX_SENSOR = e.1 :=
  (State.rd_wr_same _ _ _).trans (Nat.mod_eq_of_lt (lt_of_lt_of_le sensor (by decide)))

theorem ofSigned_toInt (v : BitVec 16) : ofSigned 16 v.toInt = v.toNat := by
  rw [ofSigned, BitVec.toInt_eq_toNat_cond]
  have fits := v.isLt
  split <;> omega

theorem State.maxShown_temp {n : Nat} (v : BitVec 16) (s : State) : (s.maxShown (n, v.toInt)).rd Reg.THM_MAX_TEMP = v.toNat := by
  rw [State.maxShown, ofSigned_toInt]
  refine (State.rd_wr_ne (by decide)).trans ((State.rd_wr_same _ _ _).trans ?_)
  exact Nat.mod_eq_of_lt v.isLt

theorem State.maxShown_regsBut (s : State) (e : Nat × Int) : s.RegsBut [Reg.THM_MAX_TEMP.key 0, Reg.THM_MAX_SENSOR.key 0] (s.maxShown e) :=
  ((State.RegsBut.refl _ s).wr _ (by simp)).wr _ (by simp)

/-- A reading at the warning temperature is noted (R417). -/
def State.warned (s : State) (t : Int) : State :=
  if (s.rd Reg.THM_WARN_TEMP : Int) ≠ 0 ∧ (s.rd Reg.THM_WARN_TEMP : Int) * 128 ≤ t then (s.evt 0x04 0).wr Reg.THM_STAT_WARN 1 else s

/-- The registers that warning and throttling write (R417). -/
def limitKeys : List Nat := [fkey 0x04 Reg.EVT_STAT_EVT 0, Reg.THM_STAT_WARN.key 0, Reg.THM_STAT_THROTTLING.key 0]

theorem State.warned_regsBut (s : State) (t : Int) : s.RegsBut limitKeys (s.warned t) :=
  (((State.RegsBut.refl _ s).evt (by simp [limitKeys])).wr 1 (by simp [limitKeys])).ite (State.RegsBut.refl _ s)

theorem State.thermalLimits_eq (s : State) (t : Int) : s.thermalLimits t =
    if (s.rd Reg.THM_THROTTLE_TEMP : Int) = 0 ∨ t < ((s.rd Reg.THM_THROTTLE_TEMP : Int) - 3) * 128 then (s.warned t).wr Reg.THM_STAT_THROTTLING 0
    else if (s.rd Reg.THM_THROTTLE_TEMP : Int) * 128 ≤ t ∧ ¬ (s.warned t).rdb Reg.THM_STAT_THROTTLING then
      ((s.warned t).wr Reg.THM_STAT_THROTTLING 1).evt 0x04 1
    else s.warned t := rfl

theorem State.thermalLimits_regsBut (s : State) (t : Int) : s.RegsBut limitKeys (s.thermalLimits t) := by
  rw [State.thermalLimits_eq]
  have kept := s.warned_regsBut t
  exact (kept.wr 0 (by simp [limitKeys])).ite (((kept.wr 1 (by simp [limitKeys])).evt (by simp [limitKeys])).ite kept)

theorem State.thermalLimits_unthrottled (off : s.rd Reg.THM_THROTTLE_TEMP = 0) (t : Int) :
    (s.thermalLimits t).rdb Reg.THM_STAT_THROTTLING = false := by
  rw [State.thermalLimits_eq, if_pos (.inl (by rw [off]; rfl)), State.rdb, State.rd_wr_same]
  rfl

theorem State.thermalLimits_throttles {i : Int} (limited : s.rd Reg.THM_THROTTLE_TEMP ≠ 0) (hot : (s.rd Reg.THM_THROTTLE_TEMP : Int) * 128 ≤ i) :
    (s.thermalLimits i).rdb Reg.THM_STAT_THROTTLING = true := by
  rw [State.thermalLimits_eq, if_neg (by omega)]
  split
  case isTrue begins =>
    refine beq_iff_eq.2 ((State.rd_wrp_ne (by decide)).trans ?_)
    exact State.rd_wr_same _ _ 1
  case isFalse already =>
    simpa [hot] using already

theorem State.thermalLimits_pins (s : State) (t : Int) : (s.thermalLimits t).pins = s.pins :=
  State.of_but_pins (State.thermalLimits_but (u := 1) (by decide) s t) (by decide)

theorem State.thermalTrip_regs_of_cool {k : List (Nat × Int)} (cool : ∀ e ∈ k, e.2 < 120 * 128) (s : State) : (s.thermalTrip k).regs = s.regs := by
  have none' : k.find? (fun e => decide (120 * 128 ≤ e.2)) = none :=
    List.find?_eq_none.2 fun e here => by simpa using cool e here
  unfold State.thermalTrip
  rw [none']
  dsimp only
  split <;> rfl

/-- THERM_TRIP_L is asserted, counted, and the sensor shown (R417). -/
def State.tripped (s : State) (n : Nat) : State :=
  { (s.satp 0x03 Reg.AON_TRIP_COUNT 0).wr Reg.AON_TRIP_SENSOR n with pins := { s.pins with thermTrip := true } }

theorem State.thermalTrip_of_hot {k : List (Nat × Int)} {e : Nat × Int} (here : e ∈ k) (hot : 120 * 128 ≤ e.2) (deasserted : s.pins.thermTrip = false) :
    ∃ n, s.thermalTrip k = (s.tripped n).enterStandby 3 := by
  have found : (k.find? (fun e => decide (120 * 128 ≤ e.2))).isSome = true := List.find?_isSome.2 ⟨e, here, by simpa using hot⟩
  obtain ⟨first, found⟩ := Option.isSome_iff_exists.1 found
  rw [State.thermalTrip, found]
  exact ⟨_, if_neg (by simp [deasserted])⟩

theorem State.tripped_regsBut (s : State) (n : Nat) : s.RegsBut [Reg.AON_TRIP_COUNT.key 0, Reg.AON_TRIP_SENSOR.key 0] (s.tripped n) :=
  (((State.RegsBut.refl _ s).wrp _ List.mem_cons_self).wr n (by simp)).trans (State.RegsBut.of_regs rfl)

theorem State.enterStandby_of_standby (standby : s.mode = 0) (cause : Nat) : s.enterStandby cause = s := if_pos standby

theorem AllAnswer.hottest (a : AllAnswer l) (s : State) : ∃ (n : Nat) (v : BitVec 16), l[n]? = some (some v) ∧
    (∀ (k : Nat) (w : BitVec 16), l[k]? = some (some w) → w.toInt ≤ v.toInt) ∧
    Machine.hottest (s.measured l).liveSensors = some (n, v.toInt) := by
  obtain ⟨v, first⟩ := a.answer 0 (by decide)
  obtain ⟨⟨n, i⟩, hot, member, most⟩ := hottest_spec (List.ne_nil_of_mem ((a.mem_live s).2 ⟨v, first, rfl⟩))
  obtain ⟨w, reading, rfl⟩ := (a.mem_live s).1 member
  exact ⟨n, w, reading, fun k x here => most (k, x.toInt) ((a.mem_live s).2 ⟨x, here, rfl⟩), hot⟩

/-- The registers that the maximum and the limits write. -/
def maxKeys : List Nat := Reg.THM_MAX_TEMP.key 0 :: Reg.THM_MAX_SENSOR.key 0 :: limitKeys

theorem State.limited_regsBut_measured (s : State) (l : List (Option (BitVec 16))) (e : Nat × Int) :
    (s.measured l).RegsBut maxKeys (s.limited l e) :=
  (((s.measured l).maxShown_regsBut e).mono (List.cons_subset_cons _ (List.cons_subset_cons _ (List.nil_subset _)))).trans
    ((((s.measured l).maxShown e).thermalLimits_regsBut e.2).mono (List.subset_cons_of_subset _ (List.subset_cons_self _ _)))

theorem AllAnswer.limited_regsBut (a : AllAnswer l) (s : State) (e : Nat × Int) :
    s.RegsBut (sensorKeys (List.range 24) ++ maxKeys) (s.limited l e) :=
  ((a.measured_regsBut s).mono (List.subset_append_left _ _)).trans
    ((s.limited_regsBut_measured l e).mono (List.subset_append_right _ _))

theorem AllAnswer.limited_mode (a : AllAnswer l) (s : State) (e : Nat × Int) : (s.limited l e).mode = s.mode :=
  (a.limited_regsBut s e).lookup (by decide) (by decide +kernel)

theorem AllAnswer.limited_shows (a : AllAnswer l) (s : State) (e : Nat × Int) {n : Nat} {v : BitVec 16} (reading : l[n]? = some (some v)) :
    (s.limited l e).SensorShows n v := by
  have sensor := a.below reading
  refine (a.shows s reading).of_regsBut sensor (s.limited_regsBut_measured l e) ?_ ?_ <;>
    simp only [maxKeys, limitKeys, Fld.key, fkey, Reg.THM_TEMP_n_TEMP, Reg.THM_TEMP_n_STALE, Reg.THM_MAX_TEMP, Reg.THM_MAX_SENSOR,
      Reg.EVT_STAT_EVT, Reg.THM_STAT_WARN, Reg.THM_STAT_THROTTLING, List.mem_cons, List.not_mem_nil, or_false] <;> omega

theorem AllAnswer.maxShown_throttle (a : AllAnswer l) (s : State) (e : Nat × Int) :
    ((s.measured l).maxShown e).rd Reg.THM_THROTTLE_TEMP = s.rd Reg.THM_THROTTLE_TEMP :=
  (((s.measured l).maxShown_regsBut e).lookup (by decide) (by decide)).trans ((a.measured_regsBut s).lookup (by decide) (by decide +kernel))

theorem State.limited_rd {f : Fld} (plain : isTele (fkey f.pg f 0) = false) (apart : fkey f.pg f 0 ∉ limitKeys) (s : State)
    (l : List (Option (BitVec 16))) (e : Nat × Int) : (s.limited l e).rd f = ((s.measured l).maxShown e).rd f :=
  (((s.measured l).maxShown e).thermalLimits_regsBut e.2).lookup plain apart

/-- Settles O58: the fold over the pipelines for the governor, and the fold over the sensors, the limits and the trip for a reading. -/
theorem limitsWithholdClocksAndTrip : Obligations.LimitsWithholdClocksAndTrip := by
  refine fun s => ⟨fun f g on => ?governor, fun l all answer => ⟨fun cool => ?limits, fun n v reading hot deasserted => ?trip⟩⟩
  case governor =>
    have pwr : ((List.range 16).foldl (State.withhold (tickClocks - s.granted f g)) (s.governed f g)).pwr =
        { s.pwr with govRate := s.granted f g } := (State.foldl_withhold_pwr _ _ _).trans (s.governed_pwr f g)
    refine ⟨_, exec_governorTick on f g, pwr, fun p pipe runs => ?_⟩
    rw [State.foldl_withhold_throttled _ pipe le_rfl ((s.governed_runs f g _).trans runs), pwr]
    have most := s.granted_le f g
    refine congrArg b01 ?_
    rw [Bool.eq_iff_iff, bne_iff_ne, decide_eq_true_iff]
    dsimp only
    omega
  case limits =>
    have a : AllAnswer l := ⟨all, answer⟩
    obtain ⟨n, v, reading, most, hot⟩ := a.hottest s
    have regs : ((s.limited l (n, v.toInt)).thermalTrip (s.measured l).liveSensors).regs = (s.limited l (n, v.toInt)).regs := by
      refine State.thermalTrip_regs_of_cool (fun e here => ?_) _
      obtain ⟨w, here, value⟩ := (a.mem_live s).1 here
      rw [← value]
      exact cool _ w here
    have throttle := a.maxShown_throttle s (n, v.toInt)
    refine ⟨_, exec_thermalRead hot, (State.rd_of_regs regs _).trans (a.limited_mode s _), fun k w here => ?_,
      ⟨n, v, reading, (State.rd_of_regs regs _).trans ?_, (State.rd_of_regs regs _).trans ?_, most⟩, fun off => ?_, fun k w here limits reached => ?_⟩
    · exact ((a.limited_shows s _ here).of_regsBut (k := []) (a.below here) (State.RegsBut.of_regs regs) List.not_mem_nil List.not_mem_nil)
    · exact (State.limited_rd (by decide) (by decide) s l _).trans (State.maxShown_sensor (a.below reading) _)
    · exact (State.limited_rd (by decide) (by decide) s l _).trans (State.maxShown_temp v _)
    · rw [State.rdb_of_regs regs]
      exact State.thermalLimits_unthrottled (throttle.trans off) _
    · rw [State.rdb_of_regs regs]
      refine State.thermalLimits_throttles (by rwa [throttle]) ?_
      rw [throttle]
      exact reached.trans (most k w here)
  case trip =>
    have a : AllAnswer l := ⟨all, answer⟩
    obtain ⟨k, w, _, _, hottest⟩ := a.hottest s
    have pins : (s.limited l (k, w.toInt)).pins = s.pins := (State.thermalLimits_pins _ _).trans (s.measured_pins l)
    obtain ⟨sensor, trips⟩ := State.thermalTrip_of_hot (s := s.limited l (k, w.toInt)) ((a.mem_live s).2 ⟨v, reading, rfl⟩) hot (by rw [pins, deasserted])
    have mode : ((s.limited l (k, w.toInt)).tripped sensor).mode = s.mode :=
      ((State.tripped_regsBut _ sensor).lookup (by decide) (by decide)).trans (a.limited_mode s _)
    refine ⟨_, (exec_thermalRead hottest).trans (congrArg Host.Outcome.next trips), ?_⟩
    by_cases on : s.mode = 0
    · rw [State.enterStandby_of_standby (mode.trans on)]
      exact ⟨rfl, mode.trans on, fun other => absurd on other⟩
    · have on : ((s.limited l (k, w.toInt)).tripped sensor).mode ≠ 0 := by rwa [mode]
      exact ⟨(State.PinsKept.enterStandby on 3).thermTrip, State.enterStandby_mode on 3, fun _ => State.enterStandby_cause on (by decide)⟩

end Sys2Proof.Machine
end

section
/-! SUPPORT. Power domains (R410, R414), the power-good inputs and waking (R378, R407, R420). -/
namespace Sys2Proof.Machine

variable {s t u : State} {d : Nat}

/-! ## The end of a step of a sequence -/

/-- The sequence is the same: the domains that are on, those to come, and the one that is not ready. -/
structure PwrSt.SameSequence (p q : PwrSt) : Prop where
  on : q.on = p.on
  seqOn : q.seqOn = p.seqOn
  seqOff : q.seqOff = p.seqOff
  awaitReady : q.awaitReady = p.awaitReady

/-- The registers that the end of a sequence may write: the mode, or the count of refused requests (R407, R410). -/
def seqEndKeys : List Nat := [Reg.TOP_STAT_MODE.key 0, Reg.TOP_STAT_CAUSE.key 0, Reg.TOP_STAT_DRAINED.key 0, trbKey 0x00 3]

/-- The state with no mode waiting for the sequence. -/
def State.waitEnded (s : State) : State := { s with pwr := { s.pwr with modeAfter := none } }

theorem State.seqEnd_cases (s : State) :
    s.seqEnd = s ∨ s.seqEnd = s.waitEnded ∨ s.seqEnd = s.waitEnded.setMode 2 1 ∨ s.seqEnd = s.waitEnded.trb 0x00 3 := by
  unfold State.seqEnd
  split
  · exact .inl rfl
  · dsimp only
    split
    · split
      · exact .inr (.inr (.inl rfl))
      · exact .inr (.inr (.inr rfl))
    · exact .inr (.inl rfl)

theorem State.seqEnd_sequence (s : State) : s.pwr.SameSequence s.seqEnd.pwr := by
  obtain same | same | same | same := s.seqEnd_cases
  · rw [same]; exact ⟨rfl, rfl, rfl, rfl⟩
  · rw [same]; exact ⟨rfl, rfl, rfl, rfl⟩
  · rw [same, State.setMode_pwr]; exact ⟨rfl, rfl, rfl, rfl⟩
  · rw [same, State.trb_pwr]; exact ⟨rfl, rfl, rfl, rfl⟩

theorem State.seqEnd_regsBut (s : State) : s.RegsBut seqEndKeys s.seqEnd := by
  have ended : s.RegsBut seqEndKeys s.waitEnded := State.RegsBut.of_regs rfl
  obtain same | same | same | same := s.seqEnd_cases
  · rw [same]; exact State.RegsBut.refl _ s
  · rw [same]; exact ended
  · rw [same]; exact ended.trans ((State.setMode_regsBut _ 2 1).mono (by simp [seqEndKeys]))
  · rw [same]; exact ended.trb (by simp [seqEndKeys])

/-- A step of a sequence ends: the links settle, and a sequence that has ended enters its mode. -/
def State.stepEnd (s : State) : State := s.linksSettle.seqEnd

theorem State.stepEnd_sequence (s : State) : s.pwr.SameSequence s.stepEnd.pwr := by
  have settled : s.linksSettle.pwr = s.pwr := State.of_but_pwr (State.linksSettle_but (u := 65537) (by decide) s) (by decide)
  rw [← settled]
  exact s.linksSettle.seqEnd_sequence

theorem State.stepEnd_but {v : Nat} (hv : v &&& 2172715009 = 2172715009) (s : State) : s.stepEnd.but v = s.but v := by
  refine State.but_mono hv ?_
  rw [State.stepEnd]
  simp

theorem stackField_plain (stack : d < 8) : isTele (fkey (hbmPage d) Reg.HBM_STAT_STATE 0) = false :=
  isTele_high (by decide) (by decide) (by decide) (by unfold hbmPage; omega) (by unfold hbmPage; omega)

theorem State.stepEnd_stackState (stack : d < 8) (s : State) : s.stepEnd.stackState d = s.stackState d := by
  have page : fkey (hbmPage d) Reg.HBM_STAT_STATE 0 / 64 / 4096 < 0x72 := by
    simp only [fkey, hbmPage, Reg.HBM_STAT_STATE]
    omega
  have apart : fkey (hbmPage d) Reg.HBM_STAT_STATE 0 ∉ seqEndKeys := by
    simp only [seqEndKeys, trbKey, Fld.key, fkey, hbmPage, Reg.HBM_STAT_STATE, Reg.TOP_STAT_MODE, Reg.TOP_STAT_CAUSE, Reg.TOP_STAT_DRAINED,
      Reg.TRB_k_CNT_LO, Reg.TRB_k_CNT_HI, List.mem_cons, List.not_mem_nil, or_false]
    split <;> omega
  exact (s.linksSettle.seqEnd_regsBut.lookup (stackField_plain stack) apart).trans (State.rdp_congr (linksSettle_rest page).1)

theorem State.stackState_set (s : State) {v : Nat} (code : v < 8) (d : Nat) : (s.setStackState d v).stackState d = v :=
  (State.rdp_wrp_same _ _ _ _ _).trans (Nat.mod_eq_of_lt code)

/-! ## A domain becomes ready -/

/-- What a domain does once it is ready (R378, R389, R410, R431). -/
def State.readied (s : State) (d : Nat) : State :=
  if d = 1 then s.mgmtReady
  else if d = 5 then s.ropeStart
  else if 6 ≤ d ∧ d ≤ 9 then
    [0, 1, 2, 3].foldl (fun t i => { t with path := { t.path with pipeFrom := t.path.pipeFrom.set 0 (4 * (d - 6) + i) t.ns } }) s
  else if 20 ≤ d ∧ d ≤ 27 then s.setStackState (d - 20) (if 2 ≤ s.mode then 2 else 1)
  else s

theorem State.domainReady_eq (s : State) (d : Nat) : s.domainReady d = (s.readied d).stepEnd := rfl

/-- The state in BOOT with a start due (R389). -/
def State.startNoted (s : State) : State := if s.mode = 1 then { s with boot := { s.boot with startDue := true } } else s

theorem State.startNoted_mode (s : State) : s.startNoted.mode = s.mode := by
  unfold State.startNoted
  split <;> rfl

theorem State.startNoted_pwr (s : State) : s.startNoted.pwr = s.pwr := by
  unfold State.startNoted
  split <;> rfl

/-- Outside STANDBY a source that pends wakes nothing. -/
theorem State.setPend_awake (on : s.mode ≠ 0) (src : Nat) : (s.setPend src).pwr = s.pwr ∧ (s.setPend src).boot = s.boot := by
  rw [State.setPend, if_neg on]
  split <;> exact ⟨rfl, rfl⟩

/-- The source that ended STANDBY pends and is shown (R378). -/
def State.wakeShown (s : State) : State :=
  ((s.setPend (s.rd Reg.AON_WAKE_LAST_SRC)).wr Reg.ICU_WAKE_SRC_SRC (s.rd Reg.AON_WAKE_LAST_SRC)).wr Reg.ICU_WAKE_SRC_VALID 1

theorem State.mgmtReady_eq (s : State) : s.mgmtReady =
    if s.startNoted.mode = 1 ∧ s.startNoted.rd Reg.TOP_STAT_CAUSE = 6 ∧ s.startNoted.rdb Reg.AON_WAKE_LAST_VALID then s.startNoted.wakeShown
    else s.startNoted := rfl

theorem State.mgmtReady_kept (s : State) : s.mgmtReady.pwr = s.pwr ∧ s.mgmtReady.boot = s.startNoted.boot := by
  rw [State.mgmtReady_eq]
  split
  case isTrue wakes =>
    have on : s.startNoted.mode ≠ 0 := by rw [wakes.1]; decide
    obtain ⟨pwr, boot⟩ := State.setPend_awake on (s.startNoted.rd Reg.AON_WAKE_LAST_SRC)
    rw [State.wakeShown, State.wr_pwr, State.wr_pwr, State.wr_boot, State.wr_boot, pwr, boot]
    exact ⟨s.startNoted_pwr, rfl⟩
  case isFalse => exact ⟨s.startNoted_pwr, rfl⟩

theorem State.readied_pwr (s : State) (d : Nat) : (s.readied d).pwr = s.pwr := by
  unfold State.readied
  split
  · exact s.mgmtReady_kept.1
  · split
    · exact State.of_but_pwr (State.ropeStart_but (u := 4) (by decide) s) (by decide)
    · split
      · rfl
      · split <;> rfl

theorem State.readied_stack (stack : 20 ≤ d ∧ d ≤ 27) (s : State) : s.readied d = s.setStackState (d - 20) (if 2 ≤ s.mode then 2 else 1) := by
  rw [State.readied, if_neg (by omega), if_neg (by omega), if_neg (by omega), if_pos stack]

theorem State.readied_startDue (boot : s.mode = 1) : (s.readied 1).boot.startDue = true := by
  have due : s.startNoted.boot.startDue = true := by rw [State.startNoted, if_pos boot]
  exact (congrArg BootSt.startDue s.mgmtReady_kept.2).trans due

theorem State.domainReady_sequence (s : State) (d : Nat) : s.pwr.SameSequence (s.domainReady d).pwr := by
  rw [State.domainReady_eq, ← s.readied_pwr d]
  exact State.stepEnd_sequence _

theorem State.domainReady_stackState (stack : 20 ≤ d ∧ d ≤ 27) (s : State) :
    (s.domainReady d).stackState (d - 20) = if 2 ≤ s.mode then 2 else 1 := by
  rw [State.domainReady_eq, State.stepEnd_stackState (by omega), State.readied_stack stack]
  exact State.stackState_set s (by split <;> decide) _

theorem State.domainReady_startDue (boot : s.mode = 1) : (s.domainReady 1).boot.startDue = true := by
  rw [State.domainReady_eq, State.of_but_boot (State.stepEnd_but (v := 2172715009) (by decide) _) (by decide)]
  exact State.readied_startDue boot

/-! ## A domain switches on -/

/-- The next domain of the sequence is on, and is ready or awaited (R410). -/
def State.switchedOn (s : State) (d : Nat) (rest : List Nat) (await : Option Nat) : State :=
  { s with pwr := { s.pwr with seqOn := rest, on := withNat s.pwr.on d, awaitReady := await } }

theorem exec_domainSwitchOn_ready {rest : List Nat} (next : s.pwr.seqOn = d :: rest) (off : s.pwr.seqOff = [])
    (awaits : s.pwr.awaitReady = none) : exec (.domainSwitchOn true) s = .next ((s.switchedOn d rest none).domainReady d) := by
  refine congrArg Host.Outcome.next ?_
  simp only [next, if_true]
  rw [if_pos ⟨by rw [off]; rfl, by rw [awaits]; rfl⟩, State.switchedOn]

theorem exec_domainSwitchOn_unready {rest : List Nat} (next : s.pwr.seqOn = d :: rest) (off : s.pwr.seqOff = [])
    (awaits : s.pwr.awaitReady = none) : exec (.domainSwitchOn false) s = .next (s.switchedOn d rest (some d)) := by
  refine congrArg Host.Outcome.next ?_
  simp only [next]
  exact if_pos ⟨by rw [off]; rfl, by rw [awaits]; rfl⟩

/-! ## A domain that is not ready, and one that switches off -/

/-- A domain that is not ready is off again (R410). -/
def State.givenUp (s : State) (d : Nat) : State := { s with pwr := { s.pwr with awaitReady := none, on := without s.pwr.on d } }

/-- The state that shows the domain as failed, and counts it (R410). -/
def State.domainFailed (s : State) (d : Nat) : State :=
  ((s.givenUp d).wri Reg.PWR_FAIL_k (d / 32) (setBit ((s.givenUp d).rdi Reg.PWR_FAIL_k (d / 32)) (d % 32) true)).trb 0x01 5

theorem exec_domainReadyTimeout (awaits : s.pwr.awaitReady = some d) : exec .domainReadyTimeout s = .next (s.domainFailed d).seqEnd := by
  refine congrArg Host.Outcome.next ?_
  simp only [awaits]
  rw [State.domainFailed, State.givenUp]

theorem State.domainFailed_pwr (s : State) (d : Nat) :
    (s.domainFailed d).pwr = { s.pwr with awaitReady := none, on := without s.pwr.on d } := by
  rw [State.domainFailed, State.trb_pwr, State.wri_pwr, State.givenUp]

theorem failField_plain {k : Nat} (word : k < 2) : isTele (fkey 0x01 Reg.PWR_FAIL_k k) = false :=
  isTele_high (by decide) (by simp only [Reg.PWR_FAIL_k]; omega) (by simp only [Reg.PWR_FAIL_k]; omega) (by decide) (by decide)

theorem State.seqEnd_failed (domain : d < 33) (s : State) : bitN ((s.domainFailed d).seqEnd.rdi Reg.PWR_FAIL_k (d / 32)) (d % 32) = 1 := by
  have plain : isTele (fkey 0x01 Reg.PWR_FAIL_k (d / 32)) = false := failField_plain (by omega)
  have apart : fkey 0x01 Reg.PWR_FAIL_k (d / 32) ∉ seqEndKeys := by
    simp only [seqEndKeys, trbKey, Fld.key, fkey, Reg.PWR_FAIL_k, Reg.TOP_STAT_MODE, Reg.TOP_STAT_CAUSE, Reg.TOP_STAT_DRAINED,
      Reg.TRB_k_CNT_LO, Reg.TRB_k_CNT_HI, List.mem_cons, List.not_mem_nil, or_false]
    split <;> omega
  have shown : (s.domainFailed d).rdi Reg.PWR_FAIL_k (d / 32) =
      setBit ((s.givenUp d).rdi Reg.PWR_FAIL_k (d / 32)) (d % 32) true % 2 ^ Reg.PWR_FAIL_k.width := by
    refine (State.trb_rdp _ _ _ _ _ _ plain (trbKey_ne (by decide) (by decide) (by simp only [Reg.PWR_FAIL_k]; omega)
      (by simp only [Reg.PWR_FAIL_k]; omega))).trans ?_
    exact State.rdi_wri_same _ _ _ _
  have ended : (s.domainFailed d).seqEnd.rdi Reg.PWR_FAIL_k (d / 32) = (s.domainFailed d).rdi Reg.PWR_FAIL_k (d / 32) :=
    (s.domainFailed d).seqEnd_regsBut.lookup plain apart
  rw [ended, shown, bitN_setBit_same _ _ Reg.PWR_FAIL_k.width _ (show d % 32 < Reg.PWR_FAIL_k.width from Nat.mod_lt d (by decide))]
  rfl

/-- A domain's ports go down, and its packets and memories are lost; in STANDBY everything has been lost before (R410, R414). -/
def State.domainEmptied (s : State) (d : Nat) : State :=
  if s.mode = 0 then s
  else
    let t := (domainPorts d).foldl State.portDown s
    ((t.trbN 0x01 6 (t.packetsIn d)).packetsGone d).domainLoss d

/-- The stack of an HBM domain is off (R331, R336). -/
def State.stackOff (s : State) (d : Nat) : State := if 20 ≤ d ∧ d ≤ 27 then s.setStackState (d - 20) 0 else s

/-- The domain no longer waits to be switched off. -/
def State.offTaken (s : State) (d : Nat) : State := { s with pwr := { s.pwr with seqOff := s.pwr.seqOff.filter (fun x => x != d) } }

/-- The domain is off. -/
def State.offNoted (s : State) (d : Nat) : State := { s with pwr := { s.pwr with on := without s.pwr.on d } }

theorem State.domainOff_eq (s : State) (d : Nat) : s.domainOff d = ((((s.offTaken d).domainEmptied d).stackOff d).offNoted d).stepEnd := rfl

theorem exec_domainSwitchOff {rest : List Nat} (next : s.pwr.seqOff = d :: rest) : exec .domainSwitchOff s = .next (s.domainOff d) := by
  refine congrArg Host.Outcome.next ?_
  simp only [next]

theorem State.domainEmptied_pwr (s : State) (d : Nat) : (s.domainEmptied d).pwr = s.pwr := by
  refine State.of_but_pwr (u := 3306159581) ?_ (by decide)
  unfold State.domainEmptied
  split
  · rfl
  · simp

theorem State.stackOff_pwr (s : State) (d : Nat) : (s.stackOff d).pwr = s.pwr := by
  unfold State.stackOff
  split <;> rfl

theorem State.stackOff_buf (s : State) (d : Nat) : (s.stackOff d).buf = s.buf := by
  unfold State.stackOff
  split <;> rfl

theorem State.domainOff_sequence (s : State) (d : Nat) : PwrSt.SameSequence
    { s.pwr with seqOff := s.pwr.seqOff.filter (fun x => x != d), on := without s.pwr.on d } (s.domainOff d).pwr := by
  have noted : ((((s.offTaken d).domainEmptied d).stackOff d).offNoted d).pwr =
      { s.pwr with seqOff := s.pwr.seqOff.filter (fun x => x != d), on := without s.pwr.on d } := by
    rw [State.offNoted, State.stackOff_pwr, State.domainEmptied_pwr, State.offTaken]
  rw [State.domainOff_eq, ← noted]
  exact State.stepEnd_sequence _

theorem State.domainOff_stackState (stack : 20 ≤ d ∧ d ≤ 27) (s : State) : (s.domainOff d).stackState (d - 20) = 0 := by
  rw [State.domainOff_eq, State.stepEnd_stackState (by omega), State.stackOff, if_pos stack]
  exact State.stackState_set _ (by decide) _

theorem State.domainPages_buf (s : State) (d : Nat) :
    ((allPages.filter (fun p => pageDomain p == d)).foldl (fun t p => (t.clearRegs false [.v] p).clearVolatile p) s).buf = s.buf :=
  State.of_but_buf (u := 2232258717) (by simp) (by decide)

theorem State.domainLoss_memory (memory : 20 ≤ d ∧ d ≤ 27) (s : State) : s.domainLoss d =
    (((allPages.filter (fun p => pageDomain p == d)).foldl (fun t p => (t.clearRegs false [.v] p).clearVolatile p) s).hbmLoss (d - 20)).hbmTablesLost := by
  rw [State.domainLoss, if_neg (by omega), if_neg (by omega), if_neg (by omega), if_neg (by omega), if_pos memory]

/-- The loss of a domain that packet buffers lie in fills none of them. -/
theorem State.domainLoss_bufs (buffers : 18 ≤ d ∧ d ≤ 27) (empty : s.buf.bufs = []) : (s.domainLoss d).buf.bufs = [] := by
  have pages := s.domainPages_buf d
  obtain rfl | rfl | memory : d = 18 ∨ d = 19 ∨ 20 ≤ d ∧ d ≤ 27 := by omega
  · rw [State.domainLoss, if_neg (by decide), if_neg (by decide), if_pos rfl]
    exact (congrArg BufSt.bufs pages).trans empty
  · rw [State.domainLoss, if_neg (by decide), if_neg (by decide), if_neg (by decide), if_pos rfl]
    rfl
  · rw [State.domainLoss_memory memory, State.of_but_buf (State.hbmTablesLost_but (u := 1073759552) (by decide) _) (by decide),
      State.of_but_buf (State.hbmLoss_but (u := 131072) (by decide) _ _) (by decide), pages, empty]

theorem State.packetsGone_bufs (buffers : 18 ≤ d ∧ d ≤ 27) (s : State) : (s.packetsGone d).buf.bufs = [] := by
  rw [State.packetsGone, if_neg (by omega), if_neg (by omega), if_pos buffers]
  rfl

theorem State.domainOff_bufs (on : s.mode ≠ 0) (buffers : 18 ≤ d ∧ d ≤ 27) : (s.domainOff d).buf.bufs = [] := by
  have on : ¬ (s.offTaken d).mode = 0 := on
  have emptied : ((s.offTaken d).domainEmptied d).buf.bufs = [] := by
    rw [State.domainEmptied, if_neg on]
    exact State.domainLoss_bufs buffers (State.packetsGone_bufs buffers _)
  have same : ((((s.offTaken d).domainEmptied d).stackOff d).offNoted d).buf = ((s.offTaken d).domainEmptied d).buf := by
    rw [State.offNoted, State.stackOff_buf]
  rw [State.domainOff_eq, State.of_but_buf (State.stepEnd_but (v := 2172715009) (by decide) _) (by decide), same, emptied]

/-! ## Power-good inputs -/

/-- An input of PG_IN falls (R420). -/
def State.pgFallen (s : State) (n : Nat) : State :=
  { s with pins := { s.pins with pgIn := BitVec.ofNat 8 (setBit s.pins.pgIn.toNat n false) } }

theorem exec_pgInFall {n : Nat} (input : n < 8) (required : bitN (s.rd Reg.AON_PGIN_REQ) n = 1) :
    exec (.pgInFall n) s = .next (((s.pgFallen n).trb 0x03 3).enterStandby 5) :=
  congrArg Host.Outcome.next (if_pos ⟨input, required⟩)

/-- The levels of PG_IN. -/
def State.pgLevels (s : State) (l : Byte) : State := { s with pins := { s.pins with pgIn := l } }

theorem exec_pgInChange {l : Byte} (changes : l ≠ s.pins.pgIn) : exec (.pgInChange l) s = .next ((s.pgLevels l).setPend 9) :=
  congrArg Host.Outcome.next (if_neg changes)

theorem State.pgFallen_levels {n k : Nat} (input : n < 8) (other : k < 8) (s : State) :
    (s.pgFallen n).pins.pgIn.getLsbD k = (s.pins.pgIn.getLsbD k && decide (k ≠ n)) := by
  by_cases same : k = n
  · subst same
    rw [State.pgFallen, getLsbD_ofNat_setBit input]
    simp
  · rw [State.pgFallen, getLsbD_ofNat_setBit_ne other same]
    simp [same]

/-! ## Waking -/

/-- The domains that the power-up of BOOT switches on (R407, R410). -/
def PwrSt.boot (p : PwrSt) : PwrSt :=
  { p with seqOn := bootDomains.filter (fun d => !p.on.contains d || p.seqOff.contains d), modeAfter := none }

theorem State.enterBoot_regs (s : State) (cause : Nat) :
    (s.enterBoot cause).regs = ((s.wr Reg.TOP_STAT_MODE 1).wr Reg.TOP_STAT_CAUSE cause).regs := rfl

theorem State.enterBoot_mode (s : State) (cause : Nat) : (s.enterBoot cause).mode = 1 := by
  rw [State.mode, State.rd_of_regs (s.enterBoot_regs cause), State.rd_wr_ne (by decide), State.rd_wr_same]
  rfl

theorem State.enterBoot_cause {cause : Nat} (code : cause < 8) (s : State) : (s.enterBoot cause).rd Reg.TOP_STAT_CAUSE = cause := by
  rw [State.rd_of_regs (s.enterBoot_regs cause), State.rd_wr_same]
  exact Nat.mod_eq_of_lt code

theorem State.enterBoot_regsBut (s : State) (cause : Nat) :
    s.RegsBut [Reg.TOP_STAT_MODE.key 0, Reg.TOP_STAT_CAUSE.key 0] (s.enterBoot cause) :=
  (((State.RegsBut.refl _ s).wr 1 (by simp)).wr cause (by simp)).trans (State.RegsBut.of_regs (s.enterBoot_regs cause))

/-- STANDBY ends, and the source that ended it is shown (R378, R420). -/
def State.woken (s : State) (src : Nat) : State := ((s.enterBoot 6).wr Reg.AON_WAKE_LAST_SRC src).wr Reg.AON_WAKE_LAST_VALID 1

theorem State.wake_of_enabled {src k : Nat} (may : s.mayWake = true) (source : wakeBit src = some k)
    (enabled : bitN (s.rd Reg.AON_WAKE_EN_SET) k = 1) : s.wake src = s.woken src := by
  rw [State.wake, source]
  exact if_pos ⟨may, enabled⟩

theorem State.woken_mode (s : State) (src : Nat) : (s.woken src).mode = 1 := by
  rw [State.woken, State.mode, State.rd_wr_ne (by decide), State.rd_wr_ne (by decide)]
  exact s.enterBoot_mode 6

theorem State.woken_cause (s : State) (src : Nat) : (s.woken src).rd Reg.TOP_STAT_CAUSE = 6 := by
  rw [State.woken, State.rd_wr_ne (by decide), State.rd_wr_ne (by decide)]
  exact State.enterBoot_cause (by decide) s

theorem State.woken_src {src : Nat} (source : src < 128) (s : State) : (s.woken src).rd Reg.AON_WAKE_LAST_SRC = src := by
  rw [State.woken, State.rd_wr_ne (by decide), State.rd_wr_same]
  exact Nat.mod_eq_of_lt source

theorem State.woken_valid (s : State) (src : Nat) : (s.woken src).rd Reg.AON_WAKE_LAST_VALID = 1 := State.rd_wr_same _ _ 1

theorem State.woken_regsBut (s : State) (src : Nat) : s.RegsBut
    [Reg.TOP_STAT_MODE.key 0, Reg.TOP_STAT_CAUSE.key 0, Reg.AON_WAKE_LAST_SRC.key 0, Reg.AON_WAKE_LAST_VALID.key 0] (s.woken src) :=
  (((s.enterBoot_regsBut 6).mono (by simp)).wr src (by simp)).wr 1 (by simp)

theorem wakeBit_lt {src k : Nat} (source : wakeBit src = some k) : src < 128 := by
  unfold wakeBit at source
  split at source
  · omega
  · split at source
    · omega
    · split at source
      · omega
      · split at source
        · omega
        · exact absurd source (by simp)

theorem State.mayWake_mode (may : s.mayWake = true) : s.mode = 0 := by
  simp only [State.mayWake, Bool.and_eq_true, beq_iff_eq] at may
  exact may.1.1.1.1

theorem exec_aonWakeTimer (standby : s.mode = 0) (set' : s.rd Reg.AON_TIMER_S ≠ 0) : exec .aonWakeTimer s = .next (s.wake 11) :=
  congrArg Host.Outcome.next ((if_pos ⟨standby, set'⟩).trans (if_pos standby))

/-- The COLD start has ended (R431). -/
def State.coldEnded (s : State) : State := { s with rst := { s.rst with cold := false } }

theorem exec_endOfCold (cold : s.rst.cold = true) :
    exec .endOfCold s = .next (if s.coldEnded.mayWake then s.coldEnded.enterBoot 7 else s.coldEnded) :=
  congrArg Host.Outcome.next (if_pos cold)

/-- Settles O57: steps of a sequence, then the power-good inputs and waking. -/
theorem domainsSwitchInSequenceAndWake : Obligations.DomainsSwitchInSequenceAndWake := by
  refine ⟨fun s d domain => ⟨fun rest next off awaits => ⟨?ready, exec_domainSwitchOn_unready next off awaits⟩, fun awaits => ?failed,
    fun rest next => ?off⟩, fun s => ⟨fun n input required on => ?fall, fun l changes on powered => ?change,
    fun may => ⟨fun src k source enabled => ?wake, fun timer enabled => ?timer⟩, fun cold => ?cold⟩⟩
  case ready =>
    obtain ⟨on, seqOn, _, awaitReady⟩ := (s.switchedOn d rest none).domainReady_sequence d
    refine ⟨_, exec_domainSwitchOn_ready next off awaits, ?_, seqOn, on, fun low high => ?_, fun mgmt boot => ?_⟩
    · rw [State.domainUp, on, awaitReady, Bool.and_eq_true]
      exact ⟨List.contains_iff_mem.2 (mem_withNat_iff.2 (.inr rfl)), rfl⟩
    · exact State.domainReady_stackState ⟨low, high⟩ _
    · subst mgmt
      exact State.domainReady_startDue (s := s.switchedOn 1 rest none) boot
  case failed =>
    have sequence := (s.domainFailed d).seqEnd_sequence
    rw [State.domainFailed_pwr] at sequence
    exact ⟨_, exec_domainReadyTimeout awaits, sequence.on, sequence.awaitReady, State.seqEnd_failed domain s, sequence.seqOn, sequence.seqOff⟩
  case off =>
    have sequence := s.domainOff_sequence d
    exact ⟨_, exec_domainSwitchOff next, sequence.on, sequence.seqOff, sequence.seqOn, fun low high => State.domainOff_stackState ⟨low, high⟩ s,
      fun on low high => State.domainOff_bufs on ⟨low, high⟩⟩
  case fall =>
    have mode : ((s.pgFallen n).trb 0x03 3).mode = s.mode := State.trb_rd (s.pgFallen n) _ _ _ (by decide) (by decide)
    have on : ((s.pgFallen n).trb 0x03 3).mode ≠ 0 := by rwa [mode]
    refine ⟨_, exec_pgInFall input required, State.enterStandby_mode on 5, State.enterStandby_cause on (by decide), fun k other => ?_⟩
    rw [(State.PinsKept.enterStandby on 5).pgIn, State.trb_pins]
    exact State.pgFallen_levels input other s
  case change =>
    exact (exec_pgInChange changes).trans (congrArg Host.Outcome.next (State.setPend_of_on (s := s.pgLevels l) on powered 9))
  case wake =>
    refine ⟨_, congrArg Host.Outcome.next (State.wake_of_enabled may source enabled), s.woken_mode src, s.woken_cause src,
      State.woken_src (wakeBit_lt source) s, s.woken_valid src, rfl, rfl, s.woken_regsBut src⟩
  case timer =>
    have ran := exec_aonWakeTimer (State.mayWake_mode may) timer
    rw [State.wake_of_enabled may rfl enabled] at ran
    exact ⟨_, ran, s.woken_mode 11, State.woken_src (by decide) s⟩
  case cold =>
    refine ⟨_, exec_endOfCold cold, ?_, fun may => ?_⟩
    · split <;> rfl
    · rw [if_pos (show s.coldEnded.mayWake = true from may)]
      exact ⟨State.enterBoot_mode _ 7, State.enterBoot_cause (by decide) _, s.coldEnded.enterBoot_regsBut 7⟩

end Sys2Proof.Machine
end

section
/-! SUPPORT. Attestation, commits of the fuses, and reads of them (R397 to R404, R427). -/
namespace Sys2Proof.Machine

variable {s t u : State} {m : Master}

/-! ## Attestation -/

/-- A report begins, with the nonce of the registers (R399). -/
def State.attestBegun (s : State) : State :=
  { s.wr Reg.SEC_STAT_ATT_BUSY 1 with sec := { s.sec with
      nonce := ((List.range 8).map (fun k => s.rdi Reg.SEC_ATT_NONCE_k k * 2 ^ (32 * k))).sum, attRestarted := false, attDirty := false } }

theorem exec_secAttest_ok (reach : s.access m 0x06 0x100 4 true = .ok) (idle : s.rdb Reg.SEC_STAT_ATT_BUSY = false)
    (attended : s.rst.headless = false) : ∃ u, s.CountsTo u ∧ exec (.secAttest m) s = .next u.attestBegun := by
  obtain ⟨u, counted, ran⟩ := State.onWrite_ok reach State.attest
  have idle : ¬ u.rdb Reg.SEC_STAT_ATT_BUSY = true := by rw [counted.rdb _ (by decide), idle]; decide
  have attended : ¬ u.rst.headless = true := by rw [counted.rst, attended]; decide
  exact ⟨u, counted, congrArg Host.Outcome.next (ran.trans ((if_neg idle).trans (if_neg attended)))⟩

theorem State.attestBegun_regs (s : State) : s.attestBegun.regs = (s.wr Reg.SEC_STAT_ATT_BUSY 1).regs := rfl

theorem exec_attestDone_dirty (busy : s.rdb Reg.SEC_STAT_ATT_BUSY = true) (dirty : s.sec.attDirty = true) (first : s.sec.attRestarted = false)
    (ok : Bool) : exec (.attestDone ok) s = .next { s with sec := { s.sec with attDirty := false, attRestarted := true } } :=
  congrArg Host.Outcome.next ((if_pos busy).trans (if_pos ⟨dirty, by simp [first]⟩))

/-- The build of a report has ended (R399). -/
def State.attestIdle (s : State) : State := s.wr Reg.SEC_STAT_ATT_BUSY 0

/-- A report goes to host memory (R399, R400). -/
def State.reported (s : State) : State :=
  (s.attestIdle.wr Reg.SEC_STAT_ATT_STATUS 0).emit (.hostWrite (s.attestIdle.rd Reg.SEC_ATT_ADDR) s.attestIdle.report)

theorem State.attestIdle_rd {f : Fld} (apart : fkey Reg.SEC_STAT_ATT_BUSY.pg Reg.SEC_STAT_ATT_BUSY 0 ≠ fkey f.pg f 0) (s : State) :
    s.attestIdle.rd f = s.rd f := State.rd_wr_ne apart

theorem State.attestIdle_dmaOk (s : State) : s.attestIdle.dmaOk = s.dmaOk := by
  rw [State.dmaOk, State.contained, State.rdb, State.attestIdle_rd (by decide), State.dmaOk, State.contained, State.rdb]
  rfl

theorem exec_attestDone_reports (busy : s.rdb Reg.SEC_STAT_ATT_BUSY = true) (built : s.sec.attDirty = false ∨ s.sec.attRestarted = true)
    (dma : s.dmaOk = true) (fits : s.attestIdle.report.length ≤ s.rd Reg.SEC_ATT_LEN_BYTES) : exec (.attestDone true) s = .next s.reported := by
  refine congrArg Host.Outcome.next ((if_pos busy).trans ((if_neg ?_).trans ((if_neg ?_).trans (if_neg ?_))))
  · rintro ⟨dirty, first⟩
    obtain clean | again := built
    · rw [clean] at dirty
      exact absurd dirty (by decide)
    · exact first again
  · show ¬ s.attestIdle.rd Reg.SEC_ATT_LEN_BYTES < s.attestIdle.report.length
    rw [State.attestIdle_rd (by decide)]
    omega
  · show ¬ (¬ true = true ∨ ¬ s.attestIdle.dmaOk = true)
    rw [State.attestIdle_dmaOk, dma]
    decide

/-! ## Commits -/

theorem exec_secCommit_ok (reach : s.access m 0x06 0x100 4 true = .ok) (idle : s.rdb Reg.SEC_STAT_COMMIT_BUSY = false) :
    ∃ u, s.CountsTo u ∧ exec (.secCommit m) s = .next (if u.rd Reg.BOOT_STAT_SOURCE = 0 ∧ ¬ u.rdb Reg.BOOT_STAT_COPYING ∧ ¬ u.rst.headless then
      u.wr Reg.SEC_STAT_COMMIT_BUSY 1 else (u.wr Reg.SEC_STAT_COMMIT_STATUS 2).trb 0x06 4) := by
  obtain ⟨u, counted, ran⟩ := State.onWrite_ok reach State.fuseCommit
  have idle : ¬ u.rdb Reg.SEC_STAT_COMMIT_BUSY = true := by rw [counted.rdb _ (by decide), idle]; decide
  exact ⟨u, counted, congrArg Host.Outcome.next (ran.trans (if_neg idle))⟩

/-- The key slots that the running bundle revokes, its own apart (R398). -/
def State.revokes (s : State) : Nat := setBit (leAt s.boot.runHdr 0x16 1 % 16) (s.rd Reg.BOOT_RUN_SVN_SLOT) false

/-- A burn that has succeeded (R398). -/
def State.burnt (s : State) : State :=
  { (s.wr Reg.SEC_STAT_COMMIT_BUSY 0).wr Reg.SEC_STAT_COMMIT_STATUS 0 with
      sec := { s.sec with burned := s.sec.burned + (s.rd Reg.BOOT_RUN_SVN_SVN - s.rollLevel), revoked := s.sec.revoked ||| s.revokes } }

/-- What a burn that fails has burned before it failed: free values (log entry 28). -/
def State.partlyBurnt (s : State) : State :=
  { (s.wr Reg.SEC_STAT_COMMIT_BUSY 0).draw with sec := { s.sec with
      burned := s.sec.burned + s.freeNat % (s.rd Reg.BOOT_RUN_SVN_SVN - s.rollLevel + 1)
      revoked := s.sec.revoked ||| (s.revokes &&& (s.freeNat / 256)) } }

/-- A burn that has failed (R398). -/
def State.burnFailed (s : State) : State := (s.partlyBurnt.wr Reg.SEC_STAT_COMMIT_STATUS 3).trb 0x06 4

theorem exec_commitDone_ok (busy : s.rdb Reg.SEC_STAT_COMMIT_BUSY = true) (prompt : s.boot.traverseDelayed = false) :
    exec (.commitDone true) s = .next s.burnt :=
  congrArg Host.Outcome.next ((if_pos busy).trans (if_neg (by simp [prompt])))

theorem State.burnFailed_boot (s : State) : s.burnFailed.boot = s.boot := by
  rw [State.burnFailed, State.trb_boot, State.wr_boot, State.partlyBurnt, State.draw_boot, State.wr_boot]

theorem exec_commitDone_failed (busy : s.rdb Reg.SEC_STAT_COMMIT_BUSY = true) (prompt : s.boot.traverseDelayed = false) :
    exec (.commitDone false) s = .next s.burnFailed := by
  refine congrArg Host.Outcome.next ((if_pos busy).trans (if_neg (c := s.burnFailed.boot.traverseDelayed = true) ?_))
  rw [s.burnFailed_boot, prompt]
  decide

theorem bitN_eq_one_iff (x n : Nat) : bitN x n = 1 ↔ x.testBit n = true := by
  rw [Nat.testBit_eq_decide_div_mod_eq, decide_eq_true_iff, bitN]

/-- The slots that the running bundle names are revoked by a burn, its own apart. -/
theorem State.burnt_revoked {n : Nat} (slot : n < 4) (other : n ≠ s.rd Reg.BOOT_RUN_SVN_SLOT) (named : bitN (leAt s.boot.runHdr 0x16 1) n = 1) :
    bitN s.burnt.revoked n = 1 := by
  have kept := bitN_setBit_other (leAt s.boot.runHdr 0x16 1 % 16) (s.rd Reg.BOOT_RUN_SVN_SLOT) n 4 false slot other
  rw [bitN_mod _ _ _ slot, show (16 : Nat) = 2 ^ 4 from rfl, bitN_mod _ _ _ slot, named] at kept
  have revoked : (s.sec.revoked ||| s.revokes).testBit n = true := by
    rw [Nat.testBit_or, (bitN_eq_one_iff s.revokes n).1 kept, Bool.or_true]
  rw [bitN_eq_one_iff, State.revoked, Nat.testBit_or]
  have shown : (s.burnt.sec.revoked % 16).testBit n = true := by
    rw [show (16 : Nat) = 2 ^ 4 from rfl, Nat.testBit_mod_two_pow, decide_eq_true slot, Bool.true_and]
    exact revoked
  rw [shown, Bool.or_true]

theorem State.burnt_regsBut (s : State) : s.RegsBut [Reg.SEC_STAT_COMMIT_BUSY.key 0, Reg.SEC_STAT_COMMIT_STATUS.key 0] s.burnt :=
  (((State.RegsBut.refl _ s).wr 0 (by simp)).wr 0 (by simp)).trans (State.RegsBut.of_regs rfl)

theorem State.partlyBurnt_regs (s : State) : s.partlyBurnt.regs = (s.wr Reg.SEC_STAT_COMMIT_BUSY 0).regs := by
  rw [State.partlyBurnt, State.draw_regs]

theorem State.burnFailed_regsBut (s : State) :
    s.RegsBut [Reg.SEC_STAT_COMMIT_BUSY.key 0, Reg.SEC_STAT_COMMIT_STATUS.key 0, trbKey 0x06 4] s.burnFailed := by
  have idle : s.RegsBut [Reg.SEC_STAT_COMMIT_BUSY.key 0, Reg.SEC_STAT_COMMIT_STATUS.key 0, trbKey 0x06 4] s.partlyBurnt :=
    ((State.RegsBut.refl _ s).wr 0 (by simp)).trans (State.RegsBut.of_regs s.partlyBurnt_regs)
  exact (idle.wr 3 (by simp)).trb (by simp)

theorem State.burnFailed_busy (s : State) : s.burnFailed.rd Reg.SEC_STAT_COMMIT_BUSY = 0 := by
  rw [State.burnFailed, State.trb_rd _ _ _ _ (by decide) (by decide), State.rd_wr_ne (by decide), State.rd_of_regs s.partlyBurnt_regs]
  exact State.rd_wr_same _ _ 0

theorem State.burnFailed_status (s : State) : s.burnFailed.rd Reg.SEC_STAT_COMMIT_STATUS = 3 := by
  rw [State.burnFailed, State.trb_rd _ _ _ _ (by decide) (by decide)]
  exact State.rd_wr_same _ _ 3

/-! ## Reads of the fuses -/

theorem State.CountsTo.fuseDword (counted : s.CountsTo u) (i : Nat) : u.fuseDword i = s.fuseDword i := by
  simp only [State.fuseDword, State.revoked, State.rollField, counted.sec]

theorem exec_secFuseRead_ok (reach : s.access m 0x06 0x164 4 false = .ok) : ∃ u, s.CountsTo u ∧ exec (.secFuseRead m) s =
    .next ((u.wr Reg.SEC_FUSE_IDX_IDX (s.rd Reg.SEC_FUSE_IDX_IDX + 1)).emit (.readData m (s.fuseDword (s.rd Reg.SEC_FUSE_IDX_IDX) % 2 ^ 32))) := by
  obtain ⟨u, counted, ran⟩ := State.onRead_ok reach State.fuseTake
  refine ⟨u, counted, congrArg Host.Outcome.next ?_⟩
  rw [ran, State.fuseTake, counted.fuseDword, counted.rd _ (by decide)]

/-- Settles O55: ATTEST and the end of the build, COMMIT and the end of the burn, and a read of a fuse. -/
theorem trustCommandsReportAndBurn : Obligations.TrustCommandsReportAndBurn := by
  refine fun s => ⟨fun m reach => ⟨fun idle attended => ?attest, fun idle source still attended => ?commit, fun idle elsewhere => ?refused⟩,
    fun ok busy dirty first => exec_attestDone_dirty busy dirty first ok, fun busy built dma fits => ?report,
    fun busy prompt => ⟨?burn, ?fails⟩, fun m reach => ?read⟩
  case attest =>
    obtain ⟨u, counted, ran⟩ := exec_secAttest_ok reach idle attended
    refine ⟨_, ran, (State.rd_of_regs u.attestBegun_regs _).trans (State.rd_wr_same _ _ 1), ?_, rfl, rfl⟩
    exact ((counted.regsBut _).wr 1 (by simp)).trans (State.RegsBut.of_regs u.attestBegun_regs)
  case commit =>
    obtain ⟨u, counted, ran⟩ := exec_secCommit_ok reach idle
    rw [if_pos ⟨(counted.rd _ (by decide)).trans source, by simp [counted.rdb Reg.BOOT_STAT_COPYING (by decide), still],
      by simp [counted.rst, attended]⟩] at ran
    exact ⟨_, ran, State.rd_wr_same _ _ 1, counted.sec, (counted.regsBut _).wr 1 (by simp)⟩
  case refused =>
    obtain ⟨u, counted, ran⟩ := exec_secCommit_ok reach idle
    have elsewhere : ¬ (u.rd Reg.BOOT_STAT_SOURCE = 0 ∧ ¬ u.rdb Reg.BOOT_STAT_COPYING = true ∧ ¬ u.rst.headless = true) := by
      rw [counted.rd _ (by decide), counted.rdb _ (by decide), counted.rst]
      tauto
    rw [if_neg elsewhere] at ran
    refine ⟨_, ran, ?_, ?_, ((counted.regsBut _).wr 2 (by simp)).trb (by simp)⟩
    · rw [State.trb_rd _ _ _ _ (by decide) (by decide)]
      exact State.rd_wr_same _ _ 2
    · rw [State.trb_sec, State.wr_sec, counted.sec]
  case report =>
    have regs : s.reported.regs = (s.attestIdle.wr Reg.SEC_STAT_ATT_STATUS 0).regs := State.emit_regs _ _
    refine ⟨_, exec_attestDone_reports busy built dma fits, ?_, ?_, ?_⟩
    · rw [State.rd_of_regs regs, State.rd_wr_ne (by decide)]
      exact State.rd_wr_same _ _ 0
    · rw [State.rd_of_regs regs]
      exact State.rd_wr_same _ _ 0
    · rw [← State.attestIdle_rd (f := Reg.SEC_ATT_ADDR) (by decide) s]
      rfl
  case burn =>
    refine ⟨_, exec_commitDone_ok busy prompt, ?_, State.rd_wr_same _ _ 0, rfl, fun n slot other named => State.burnt_revoked slot other named,
      s.burnt_regsBut⟩
    exact (State.rd_wr_ne (by decide)).trans (State.rd_wr_same _ _ 0)
  case fails => exact ⟨_, exec_commitDone_failed busy prompt, s.burnFailed_busy, s.burnFailed_status, s.burnFailed_regsBut⟩
  case read =>
    obtain ⟨u, counted, ran⟩ := exec_secFuseRead_ok reach
    refine ⟨_, ran, counted.sec, State.mem_outbox_emit _ _, fun past => ?_, ?_, ?_⟩
    · have absent : s.fuseDword (s.rd Reg.SEC_FUSE_IDX_IDX) = 0 := if_pos past
      rw [absent]
      exact State.mem_outbox_emit _ _
    · rw [State.rd_of_regs (State.emit_regs _ _)]
      exact State.rd_wr_same _ _ _
    · exact ((counted.regsBut _).wr _ (by simp)).trans (State.RegsBut.of_regs (State.emit_regs _ _))

end Sys2Proof.Machine
end

section
/-! SUPPORT. The Traverse (R377, R392 to R395, R427): its triggers, its start and the end of the headless interval. -/
namespace Sys2Proof.Machine

variable {s t u : State} {m : Master}

/-! ## What a trigger leaves -/

/-- Counting, or the count of an expired watchdog of CORE0 (R367, R392): registers beyond counters, and every other part, stand. -/
structure State.Triggered (s u : State) : Prop where
  regs : s.RegsBut [trbKey 0x0A 4] u
  rest : u.but 3238002689 = s.but 3238002689

theorem State.CountsTo.triggered (counted : s.CountsTo u) : s.Triggered u where
  regs := counted.regsBut _
  rest := counted.but (by decide)

theorem State.triggered_trb (s : State) : s.Triggered (s.trb 0x0A 4) where
  regs := (State.RegsBut.refl _ s).trb (by simp)
  rest := State.trb_but (by decide) s 0x0A 4

theorem State.Triggered.rd (h : s.Triggered u) {f : Fld} (plain : isTele (fkey f.pg f 0) = false) (apart : fkey f.pg f 0 ∉ [trbKey 0x0A 4]) :
    u.rd f = s.rd f := h.regs.lookup plain apart

theorem State.Triggered.rdb (h : s.Triggered u) {f : Fld} (plain : isTele (fkey f.pg f 0) = false) (apart : fkey f.pg f 0 ∉ [trbKey 0x0A 4]) :
    u.rdb f = s.rdb f := by rw [State.rdb, h.rd plain apart, State.rdb]

theorem State.Triggered.mode (h : s.Triggered u) : u.mode = s.mode := h.rd (by decide) (by decide)

theorem State.Triggered.rst (h : s.Triggered u) : u.rst = s.rst := State.of_but_rst h.rest (by decide)

theorem State.Triggered.ns (h : s.Triggered u) : u.ns = s.ns :=
  have time : u.time = s.time := State.of_but_time h.rest (by decide)
  State.ns_congr (h.rd (by decide) (by decide)) (congrArg TimeSt.chA time) (congrArg TimeSt.chB time) (congrArg TimeSt.chC time)

/-! ## The start of a Traverse -/

/-- The V fields of the management pages are clear and every service ends (R377, R425). -/
def State.mgmtCleared (s : State) : State :=
  (((s.clearRegs false [.v] 0x06).clearRegs false [.v] 0x07).clearRegs false [.v] 0x08).icuTraverse.clearRegs false [.v] 0x0A

theorem State.foldl_mgmtPages (s : State) :
    mgmtPages.foldl (fun t p => (t.clearRegs false [.v] p).clearVolatile p) s = s.mgmtCleared := rfl

theorem State.mgmtCleared_regs_lookup {k : Nat} (others : ∀ p ∈ mgmtPages, k / 64 / 4096 ≠ p) (s : State) :
    s.mgmtCleared.regs.active.lookup k = s.regs.active.lookup k := by
  have regs : s.mgmtCleared.regs = (mgmtPages.foldl (fun t p => t.clearRegs false [.v] p) s).regs := rfl
  rw [regs]
  exact State.foldl_clearRegs_lookup _ others false _ s

theorem State.mgmtCleared_but {v : Nat} (hv : v &&& 524289 = 524289) (s : State) : s.mgmtCleared.but v = s.but v := by
  refine State.but_mono hv ?_
  rw [State.mgmtCleared]
  simp

/-- The reset record of a Traverse and the time that it holds over (R48, R49, R432). -/
def State.traverseRecorded (s : State) : State := (s.mgmtCleared.recordReset 4 0).timeTraverse

/-- The headless interval is shown, with its start and the count of Traverses (R393). -/
def State.traverseShown (s : State) : State :=
  (((s.traverseRecorded.wr Reg.BOOT_STAT_HEADLESS 1).wr Reg.BOOT_H_START_LO_EPOCH s.epoch).wr Reg.BOOT_H_START_HI_EPOCH (s.epoch / 2 ^ 32)).satp
    0x07 Reg.BOOT_TRAVERSES_COUNT 0

theorem State.traverseStart_eq (s : State) : s.traverseStart = { s.traverseShown with
    rst := { s.traverseShown.rst with headless := true }
    learn := { s.traverseShown.learn with held := true }
    boot := { s.traverseShown.boot with
      headlessAt := some s.traverseShown.ns, traverseDelayed := false, startDue := true, verified := false, copyTries := 0 } } := rfl

theorem State.traverseRecorded_but {v : Nat} (hv : v &&& 524293 = 524293) (s : State) : s.traverseRecorded.but v = s.but v := by
  refine State.but_mono hv ?_
  rw [State.traverseRecorded]
  simp [State.mgmtCleared]

theorem State.traverseShown_but {v : Nat} (hv : v &&& 524293 = 524293) (s : State) : s.traverseShown.but v = s.but v := by
  refine State.but_mono hv ?_
  rw [State.traverseShown, State.satp]
  simp [State.traverseRecorded, State.mgmtCleared]

theorem State.traverseShown_icu (s : State) : s.traverseShown.icu = { s.icu with insvc := [none, none, none, none], held := [] } := by
  have recorded : s.traverseShown.icu = s.mgmtCleared.icu := by
    rw [State.traverseShown, State.satp, State.wrp_icu, State.wr_icu, State.wr_icu, State.wr_icu, State.traverseRecorded,
      State.of_but_icu (State.timeTraverse_but (u := 5) (by decide) _) (by decide),
      State.of_but_icu (State.recordReset_but (u := 1) (by decide) _ _ _) (by decide)]
  rw [recorded]
  rfl

/-- Holding time over at a Traverse moves no channel (R48, R49). -/
theorem State.timeTraverse_time (s : State) :
    ∃ before epoch, s.timeTraverse.time = { s.time with beforeTraverse := before, travEpoch := epoch } := by
  unfold State.timeTraverse
  split
  · exact ⟨_, _, rfl⟩
  · exact ⟨s.time.beforeTraverse, s.time.travEpoch, rfl⟩

theorem State.traverseShown_time (s : State) :
    ∃ before epoch, s.traverseShown.time = { s.time with beforeTraverse := before, travEpoch := epoch } := by
  obtain ⟨before, epoch, time⟩ := (s.mgmtCleared.recordReset 4 0).timeTraverse_time
  refine ⟨before, epoch, ?_⟩
  rw [State.traverseShown, State.satp, State.wrp_time, State.wr_time, State.wr_time, State.wr_time, State.traverseRecorded, time,
    State.of_but_time (State.recordReset_but (u := 1) (by decide) _ _ _) (by decide),
    State.of_but_time (s.mgmtCleared_but (v := 524289) (by decide)) (by decide)]

/-- The registers that the start of a Traverse writes beyond the management pages' clear (R393, R432). -/
def traverseKeys : List Nat :=
  [Reg.RST_STAT_LAST.key 0, Reg.RST_STAT_SRC.key 0, Reg.RST_LAST_EPOCH_LO_EPOCH.key 0, Reg.RST_LAST_EPOCH_HI_EPOCH.key 0,
    Reg.TIM_STATE_STATE.key 0, Reg.BOOT_STAT_HEADLESS.key 0, Reg.BOOT_H_START_LO_EPOCH.key 0, Reg.BOOT_H_START_HI_EPOCH.key 0,
    fkey 0x07 Reg.BOOT_TRAVERSES_COUNT 0]

theorem State.timeTraverse_regsBut (s : State) : s.RegsBut traverseKeys s.timeTraverse := by
  unfold State.timeTraverse
  refine State.RegsBut.ite ?_ (State.RegsBut.refl _ s)
  exact ((State.RegsBut.refl _ s).wr 4 (by simp [traverseKeys])).trans (State.RegsBut.of_regs rfl)

theorem State.recordReset_regsBut (s : State) (last src : Nat) : s.RegsBut traverseKeys (s.recordReset last src) :=
  ((((State.RegsBut.refl _ s).wr _ (by simp [traverseKeys])).wr _ (by simp [traverseKeys])).wr _ (by simp [traverseKeys])).wr _
    (by simp [traverseKeys])

theorem State.traverseShown_regsBut (s : State) : s.mgmtCleared.RegsBut traverseKeys s.traverseShown :=
  (((((s.mgmtCleared.recordReset_regsBut 4 0).trans (State.timeTraverse_regsBut _)).wr _ (by simp [traverseKeys])).wr _
    (by simp [traverseKeys])).wr _ (by simp [traverseKeys])).wrp _ (by simp [traverseKeys])

theorem State.traverseShown_ns (s : State) : s.traverseShown.ns = s.ns := by
  obtain ⟨before, epoch, time⟩ := s.traverseShown_time
  have active : s.traverseShown.rd Reg.SPN_STAT_ACTIVE = s.rd Reg.SPN_STAT_ACTIVE :=
    (s.traverseShown_regsBut.lookup (by decide) (by decide)).trans (State.rdp_congr (State.mgmtCleared_regs_lookup (by decide) s))
  exact State.ns_congr active (by rw [time]) (by rw [time]) (by rw [time])

theorem State.traverseShown_headless (s : State) : s.traverseShown.rd Reg.BOOT_STAT_HEADLESS = 1 := by
  rw [State.traverseShown, State.satp, State.rd_wrp_ne (by decide), State.rd_wr_ne (by decide), State.rd_wr_ne (by decide)]
  exact State.rd_wr_same _ _ 1

theorem State.traverseStart_regs (s : State) : s.traverseStart.regs = s.traverseShown.regs := by rw [State.traverseStart_eq]

theorem State.but_with_rst_learn_boot (t : State) (r : RstSt) (l : LearnSt) (b : BootSt) :
    ({ t with rst := r, learn := l, boot := b } : State).but 136839685 = t.but 136839685 := rfl

/-- A Traverse reaches the registers, the time, and the learning engine, the interrupts, boot and the resets alone. -/
theorem State.traverseStart_outside (s : State) : s.traverseStart.but 136839685 = s.but 136839685 := by
  rw [State.traverseStart_eq, State.but_with_rst_learn_boot, s.traverseShown_but (v := 136839685) (by decide)]

/-! ## Triggers -/

theorem State.traverseBegin_starts (mode : 2 ≤ s.mode ∧ s.mode ≤ 5) (attended : s.rst.headless = false) (cool : s.rst.warm = false)
    (unburning : s.rdb Reg.SEC_STAT_COMMIT_BUSY = false) : s.traverseBegin = s.traverseStart := by
  rw [State.traverseBegin, if_neg, if_neg (by simp [cool]), if_neg (by simp [unburning])]
  rintro (headless | low | high)
  · exact absurd headless (by simp [attended])
  · omega
  · omega

theorem State.traverseBegin_waits (mode : 2 ≤ s.mode ∧ s.mode ≤ 5) (attended : s.rst.headless = false) (cool : s.rst.warm = false)
    (burns : s.rdb Reg.SEC_STAT_COMMIT_BUSY = true) : s.traverseBegin = { s with boot := { s.boot with traverseDelayed := true } } := by
  rw [State.traverseBegin, if_neg, if_neg (by simp [cool]), if_pos burns]
  rintro (headless | low | high)
  · exact absurd headless (by simp [attended])
  · omega
  · omega

theorem State.traverseBegin_refused (elsewhere : s.mode < 2 ∨ 5 < s.mode ∨ s.rst.headless = true) : s.traverseBegin = s.trb 0x07 5 :=
  if_pos (by tauto)

theorem exec_bootTraverse_ok (master : m = .host ∨ m = .core0) (reach : s.access m 0x07 0x100 4 true = .ok) :
    ∃ u, s.CountsTo u ∧ exec (.bootTraverse m) s = .next u.traverseBegin := by
  obtain ⟨u, counted, ran⟩ := State.onWrite_ok reach (fun t => if m = .host ∨ m = .core0 then t.traverseBegin else t)
  exact ⟨u, counted, congrArg Host.Outcome.next (ran.trans (if_pos master))⟩

theorem exec_watchdogExpire_core0 (due : s.wdogDue 0 = true) : exec (.watchdogExpire 0) s = .next (s.trb 0x0A 4).traverseBegin :=
  congrArg Host.Outcome.next ((if_pos ⟨by decide, due⟩).trans (if_pos rfl))

theorem exec_traverse {i : Instr} (trigger : (∃ m : Master, (m = .host ∨ m = .core0) ∧ s.access m 0x07 0x100 4 true = .ok ∧ i = .bootTraverse m) ∨
    i = .watchdogExpire 0 ∧ s.wdogDue 0 = true) : ∃ u, s.Triggered u ∧ exec i s = .next u.traverseBegin := by
  obtain ⟨m, master, reach, rfl⟩ | ⟨rfl, due⟩ := trigger
  · obtain ⟨u, counted, ran⟩ := exec_bootTraverse_ok master reach
    exact ⟨u, counted.triggered, ran⟩
  · exact ⟨_, s.triggered_trb, exec_watchdogExpire_core0 due⟩

/-! ## The end of the headless interval -/

/-- The headless interval that began at a time has ended (R393, R394). -/
def State.attended (s : State) (began : Nat) : State :=
  { ((s.wr Reg.BOOT_STAT_HEADLESS 0).wr Reg.BOOT_H_LEN_US ((s.ns - began) / 1000)).evt 0x07 0 with
      rst := { s.rst with headless := false }, boot := { s.boot with headlessAt := none } }

variable {h : Nat}

theorem State.headlessEnd_eq (began : s.boot.headlessAt = some h) : s.headlessEnd = s.attended h := by
  rw [State.headlessEnd, began]
  rfl

theorem State.attended_regs (s : State) (h : Nat) :
    (s.attended h).regs = (((s.wr Reg.BOOT_STAT_HEADLESS 0).wr Reg.BOOT_H_LEN_US ((s.ns - h) / 1000)).evt 0x07 0).regs := rfl

theorem State.attended_headless (s : State) (h : Nat) : (s.attended h).rd Reg.BOOT_STAT_HEADLESS = 0 := by
  rw [State.rd_of_regs (s.attended_regs h), State.evt, State.rd_wrp_ne (by decide), State.rd_wr_ne (by decide)]
  exact State.rd_wr_same _ _ 0

theorem State.attended_length (s : State) (h : Nat) : (s.attended h).rd Reg.BOOT_H_LEN_US = (s.ns - h) / 1000 % 2 ^ 22 := by
  rw [State.rd_of_regs (s.attended_regs h), State.evt, State.rd_wrp_ne (by decide)]
  exact State.rd_wr_same _ _ _

theorem State.attended_regsBut (s : State) (h : Nat) :
    s.RegsBut [Reg.BOOT_STAT_HEADLESS.key 0, Reg.BOOT_H_LEN_US.key 0, fkey 0x07 Reg.EVT_STAT_EVT 0] (s.attended h) :=
  ((((State.RegsBut.refl _ s).wr 0 (by simp)).wr _ (by simp)).evt (by simp)).trans (State.RegsBut.of_regs (s.attended_regs h))

theorem exec_bootLive_ok (began : s.boot.headlessAt = some h) (reach : s.access .core0 0x07 0x100 4 true = .ok) :
    ∃ u, s.CountsTo u ∧ exec (.bootLive .core0) s = .next (u.attended h) := by
  obtain ⟨u, counted, ran⟩ := State.onWrite_ok reach (fun t => if Master.core0 = .core0 then t.headlessEnd else t)
  have began : u.boot.headlessAt = some h := by rw [counted.boot, began]
  exact ⟨u, counted, congrArg Host.Outcome.next (ran.trans ((if_pos rfl).trans (State.headlessEnd_eq began)))⟩

/-- LIVE was late (R394). -/
def State.lateLive (s : State) : State := (s.wr Reg.BOOT_STAT_LATE_LIVE 1).trb 0x07 6

theorem State.lateLive_boot (s : State) : s.lateLive.boot = s.boot := by rw [State.lateLive, State.trb_boot, State.wr_boot]

theorem exec_headlessTimeout_due (began : s.boot.headlessAt = some h) (due : h + 2000000000 ≤ s.ns) :
    exec .headlessTimeout s = .next (s.lateLive.attended h) := by
  refine congrArg Host.Outcome.next ?_
  simp only [began]
  exact (if_pos due).trans (State.headlessEnd_eq (s := s.lateLive) (by rw [s.lateLive_boot, began]))

theorem State.attended_late (s : State) (h : Nat) : (s.lateLive.attended h).rd Reg.BOOT_STAT_LATE_LIVE = 1 := by
  refine ((s.lateLive.attended_regsBut h).lookup (by decide) (by decide)).trans ((State.trb_rd _ _ _ _ (by decide) (by decide)).trans ?_)
  exact State.rd_wr_same _ _ 1

/-- Settles O54: a trigger starts the Traverse, waits for a burn or counts; LIVE and the timeout end the headless interval. -/
theorem traverseRunsHeadless : Obligations.TraverseRunsHeadless := by
  refine fun s => ⟨fun i trigger => ⟨fun low high attended cool unburning => ?starts, fun low high attended cool burns => ?waits⟩,
    fun m master reach elsewhere => ?refused, fun h began => ⟨fun reach => ?live, fun due => ?late⟩⟩
  case starts =>
    obtain ⟨u, triggered, ran⟩ := exec_traverse trigger
    rw [State.traverseBegin_starts (by rw [triggered.mode]; exact ⟨low, high⟩) (by rw [triggered.rst, attended]) (by rw [triggered.rst, cool])
      (by rw [triggered.rdb (by decide) (by decide), unburning])] at ran
    have outside : u.traverseStart.but 3374842373 = s.but 3374842373 :=
      (State.but_mono (by decide) u.traverseStart_outside).trans (State.but_mono (by decide) triggered.rest)
    have icu : u.traverseStart.icu = { s.icu with insvc := [none, none, none, none], held := [] } := by
      rw [State.traverseStart_eq, ← State.of_but_icu triggered.rest (by decide)]
      exact u.traverseShown_icu
    have began : u.traverseStart.boot.headlessAt = some s.ns := by
      rw [State.traverseStart_eq, ← triggered.ns, ← u.traverseShown_ns]
    refine ⟨_, ran, rfl, ?_, began, rfl, rfl, by rw [icu], by rw [icu], by rw [icu], State.of_but_banks outside (by decide),
      State.of_but_tab outside (by decide), State.of_but_buf outside (by decide), State.of_but_q outside (by decide),
      State.of_but_exm outside (by decide), State.of_but_fab outside (by decide)⟩
    rw [State.rd_of_regs u.traverseStart_regs]
    exact u.traverseShown_headless
  case waits =>
    obtain ⟨u, triggered, ran⟩ := exec_traverse trigger
    rw [State.traverseBegin_waits (by rw [triggered.mode]; exact ⟨low, high⟩) (by rw [triggered.rst, attended]) (by rw [triggered.rst, cool])
      (by rw [triggered.rdb (by decide) (by decide), burns])] at ran
    have boot : u.boot = s.boot := State.of_but_boot triggered.rest (by decide)
    exact ⟨_, ran, by rw [boot], triggered.regs.trans (State.RegsBut.of_regs rfl)⟩
  case refused =>
    obtain ⟨u, counted, ran⟩ := exec_bootTraverse_ok master reach
    rw [State.traverseBegin_refused (by rwa [counted.mode, counted.rst])] at ran
    exact ⟨_, ran, counted.trb 0x07 5⟩
  case live =>
    obtain ⟨u, counted, ran⟩ := exec_bootLive_ok began reach
    refine ⟨_, ran, ?_, u.attended_headless h, ?_, ?_, .after counted (u.attended_regsBut h)⟩
    · rw [State.attended, counted.rst]
    · rw [u.attended_length, counted.ns]
    · rw [State.attended, counted.boot]
  case late =>
    refine ⟨_, exec_headlessTimeout_due began due, ?_, s.lateLive.attended_headless h, s.attended_late h, ?_⟩
    · rw [State.attended, State.lateLive, State.trb_rst, State.wr_rst]
    · rw [State.attended, s.lateLive_boot]

end Sys2Proof.Machine
end

section
/-! SUPPORT. Boot records, candidates, staging and the flash copy (R366, R382, R386, R388 to R391, R405). -/
namespace Sys2Proof.Machine

variable {s t u : State} {m : Master}

/-! ## The boot record -/

theorem State.bootRec_congr (first : t.boot.rec0 = s.boot.rec0) (second : t.boot.rec1 = s.boot.rec1) : t.bootRec = s.bootRec := by
  rw [State.bootRec, first, second, State.bootRec]

theorem State.bootRec_of_boot (boot : t.boot = s.boot) : t.bootRec = s.bootRec :=
  State.bootRec_congr (congrArg BootSt.rec0 boot) (congrArg BootSt.rec1 boot)

/-- A record that is written governs from then on, one number after the one before (R382). -/
theorem State.bootRec_writeRec (room : s.bootRec.seq + 1 < 2 ^ 32) (r : BootRec) :
    (s.writeRec r).bootRec = { r with seq := s.bootRec.seq + 1 } := by
  have next : (s.bootRec.seq + 1) % 2 ^ 32 = s.bootRec.seq + 1 := Nat.mod_eq_of_lt room
  rw [State.writeRec, next]
  cases first : s.boot.rec0 with
  | none => cases second : s.boot.rec1 <;> simp [State.bootRec, first, second, BootRec.none]
  | some a =>
    cases second : s.boot.rec1 with
    | none => simp [State.bootRec, first, second]
    | some b => by_cases later : a.seq < b.seq <;> simp [State.bootRec, first, second, later]

/-- The state with a record in its second or its first copy. -/
def State.recPut (s : State) (second : Bool) (r : BootRec) : State :=
  if second then { s with boot := { s.boot with rec1 := some r } } else { s with boot := { s.boot with rec0 := some r } }

/-- A record changes the two copies alone. -/
theorem State.writeRec_boot (s : State) (r : BootRec) :
    ∃ rec0 rec1, s.writeRec r = { s with boot := { s.boot with rec0 := rec0, rec1 := rec1 } } := by
  have put : ∀ second r, ∃ rec0 rec1, s.recPut second r = { s with boot := { s.boot with rec0 := rec0, rec1 := rec1 } } := by
    rintro (_ | _) r
    · exact ⟨some r, s.boot.rec1, rfl⟩
    · exact ⟨s.boot.rec0, some r, rfl⟩
  exact put _ _

theorem State.writeRec_regs (s : State) (r : BootRec) : (s.writeRec r).regs = s.regs := by
  obtain ⟨_, _, written⟩ := s.writeRec_boot r
  rw [written]

theorem State.writeRec_partA (s : State) (r : BootRec) : (s.writeRec r).boot.partA = s.boot.partA := by
  obtain ⟨_, _, written⟩ := s.writeRec_boot r
  rw [written]

theorem State.writeRec_partB (s : State) (r : BootRec) : (s.writeRec r).boot.partB = s.boot.partB := by
  obtain ⟨_, _, written⟩ := s.writeRec_boot r
  rw [written]

theorem State.writeRec_staging (s : State) (r : BootRec) : (s.writeRec r).boot.staging = s.boot.staging := by
  obtain ⟨_, _, written⟩ := s.writeRec_boot r
  rw [written]

theorem State.writeRec_sec (s : State) (r : BootRec) : (s.writeRec r).sec = s.sec := by
  obtain ⟨_, _, written⟩ := s.writeRec_boot r
  rw [written]

theorem State.verifyBundle_congr (sec : t.sec = s.sec) (b : Bytes) (lenOk : Bool) : t.verifyBundle b lenOk = s.verifyBundle b lenOk := by
  have revoked : t.revoked = s.revoked := by rw [State.revoked, sec, State.revoked]
  have level : t.rollLevel = s.rollLevel := by rw [State.rollLevel, State.rollField, sec, State.rollLevel, State.rollField]
  rw [State.verifyBundle, State.verifyBundle, revoked, level]

theorem State.RegsBut.lookup' {l : List Nat} (h : s.RegsBut l t) {f : Fld} (plain : isTele (fkey f.pg f 0) = false) (apart : fkey f.pg f 0 ∉ l) :
    t.rd f = s.rd f := h.lookup plain apart

/-! ## Candidates -/

/-- What stands while a start refuses candidates (R389). -/
structure State.Tried (s t : State) : Prop where
  candidate : ∀ c, t.candidate c = s.candidate c
  stgLen : t.bootRec.stgLen = s.bootRec.stgLen
  sec : t.sec = s.sec
  due : t.boot.startDue = s.boot.startDue
  core : t.coreState 0 = s.coreState 0

theorem State.Tried.trans (h : s.Tried t) (g : t.Tried u) : s.Tried u where
  candidate c := (g.candidate c).trans (h.candidate c)
  stgLen := g.stgLen.trans h.stgLen
  sec := g.sec.trans h.sec
  due := g.due.trans h.due
  core := g.core.trans h.core

theorem State.Tried.candCode (h : s.Tried t) (c : Nat) : t.candCode c = s.candCode c := by
  simp only [State.candCode, h.candidate, h.stgLen, State.verifyBundle_congr h.sec]

/-- The refusal of a candidate is shown and counted (R389, R405). -/
def State.refusalShown (s : State) (c : Nat) : State := (s.bootLast (s.candCode c) c true).trb 0x07 4

/-- Staging is no longer pending (R388). -/
def State.unstaged (s : State) : State := s.writeRec { s.bootRec with pending := false }

theorem State.candRefused_staging (s : State) : s.candRefused 0 = (s.refusalShown 0).unstaged := by
  rw [State.candRefused, if_pos rfl, State.refusalShown, State.unstaged]

theorem State.candRefused_flash {c : Nat} (flash : c ≠ 0) (s : State) : s.candRefused c = s.refusalShown c := if_neg flash

/-- The registers that the refusal of a candidate writes. -/
def refusalKeys : List Nat := [Reg.BOOT_LAST_CODE.key 0, Reg.BOOT_LAST_CAND.key 0, Reg.BOOT_LAST_AT_START.key 0, trbKey 0x07 4]

theorem State.RegsBut.bootLast {l : List Nat} (h : s.RegsBut l t) (code : Reg.BOOT_LAST_CODE.key 0 ∈ l) (cand : Reg.BOOT_LAST_CAND.key 0 ∈ l)
    (start : Reg.BOOT_LAST_AT_START.key 0 ∈ l) (n c : Nat) (b : Bool) : s.RegsBut l (t.bootLast n c b) :=
  ((h.wr n code).wr c cand).wr _ start

theorem State.refusalShown_regsBut (s : State) (c : Nat) : s.RegsBut refusalKeys (s.refusalShown c) :=
  ((State.RegsBut.refl _ s).bootLast (by simp [refusalKeys]) (by simp [refusalKeys]) (by simp [refusalKeys]) _ _ _).trb (by simp [refusalKeys])

theorem State.refusalShown_boot (s : State) (c : Nat) : (s.refusalShown c).boot = s.boot := by
  rw [State.refusalShown, State.trb_boot, State.bootLast, State.wr_boot, State.wr_boot, State.wr_boot]

theorem State.refusalShown_sec (s : State) (c : Nat) : (s.refusalShown c).sec = s.sec := by
  rw [State.refusalShown, State.trb_sec, State.bootLast, State.wr_sec, State.wr_sec, State.wr_sec]

theorem State.refusalShown_tried (s : State) (c : Nat) : s.Tried (s.refusalShown c) where
  candidate k := by rw [State.candidate, s.refusalShown_boot, State.candidate]
  stgLen := congrArg BootRec.stgLen (State.bootRec_of_boot (s.refusalShown_boot c))
  sec := s.refusalShown_sec c
  due := by rw [s.refusalShown_boot]
  core := (s.refusalShown_regsBut c).lookup (f := Reg.MGT_CORE_c_STAT_STATE) (p := 0x0A) (i := 0) (by decide) (by decide)

theorem State.refusalShown_code (s : State) (c : Nat) : (s.refusalShown c).rd Reg.BOOT_LAST_CODE = s.candCode c % 2 ^ 8 := by
  rw [State.refusalShown, State.trb_rd _ _ _ _ (by decide) (by decide), State.bootLast, State.rd_wr_ne (by decide), State.rd_wr_ne (by decide)]
  exact State.rd_wr_same _ _ _

theorem State.refusalShown_cand {c : Nat} (candidate : c < 4) (s : State) : (s.refusalShown c).rd Reg.BOOT_LAST_CAND = c := by
  rw [State.refusalShown, State.trb_rd _ _ _ _ (by decide) (by decide), State.bootLast, State.rd_wr_ne (by decide), State.rd_wr_same]
  exact Nat.mod_eq_of_lt candidate

theorem State.refusalShown_atStart (s : State) (c : Nat) : (s.refusalShown c).rd Reg.BOOT_LAST_AT_START = 1 := by
  rw [State.refusalShown, State.trb_rd _ _ _ _ (by decide) (by decide), State.bootLast]
  exact State.rd_wr_same _ _ 1

theorem State.writeRec_tried {r : BootRec} (room : s.bootRec.seq + 1 < 2 ^ 32) (length : r.stgLen = s.bootRec.stgLen) :
    s.Tried (s.writeRec r) where
  candidate k := by rw [State.candidate, State.writeRec_staging, State.writeRec_partA, State.writeRec_partB, State.candidate]
  stgLen := (congrArg BootRec.stgLen (State.bootRec_writeRec room r)).trans length
  sec := s.writeRec_sec r
  due := by
    obtain ⟨_, _, written⟩ := s.writeRec_boot r
    rw [written]
  core := State.rdp_of_regs (congrArg Regs.active (s.writeRec_regs r)) _ _ _

theorem State.unstaged_tried (room : s.bootRec.seq + 1 < 2 ^ 32) : s.Tried s.unstaged := State.writeRec_tried room (by rfl)

theorem State.unstaged_pending (room : s.bootRec.seq + 1 < 2 ^ 32) : s.unstaged.bootRec.pending = false := by
  rw [State.unstaged, State.bootRec_writeRec room]

theorem State.candRefused_staging_tried (room : s.bootRec.seq + 1 < 2 ^ 32) :
    s.Tried (s.candRefused 0) ∧ (s.candRefused 0).bootRec.pending = false := by
  have room : (s.refusalShown 0).bootRec.seq + 1 < 2 ^ 32 := by rwa [State.bootRec_of_boot (s.refusalShown_boot 0)]
  rw [State.candRefused_staging]
  exact ⟨(s.refusalShown_tried 0).trans (State.unstaged_tried room), State.unstaged_pending room⟩

/-! ## A candidate that runs -/

/-- The source, the version and the security version of a candidate are shown (R405). -/
def State.candShown (s : State) (c : Nat) (fallback : Bool) : State :=
  ((((if fallback then s.wr Reg.BOOT_STAT_FALLBACK 1 else s).wr Reg.BOOT_STAT_SOURCE (if c = 0 then 2 else c - 1)).wr Reg.BOOT_RUN_VER_VERSION
    (leAt (s.candidate c) 0x10 4)).wr Reg.BOOT_RUN_SVN_SVN (leAt (s.candidate c) 0x14 1)).wr Reg.BOOT_RUN_SVN_SLOT (leAt (s.candidate c) 0x15 1)

/-- CORE0 executes the bundle of these bytes, which R390 has still to accept. -/
def State.ran (s : State) (b : Bytes) : State :=
  { s.coreRun 0 with boot := { s.boot with verified := true, runHdr := b.take 0x180 } }

theorem State.candRun_eq (s : State) (c : Nat) (fallback : Bool) : s.candRun c fallback = (s.candShown c fallback).ran (s.candidate c) := rfl

/-- CORE0 executes a candidate, whose source and versions are shown (R366, R389, R405). -/
structure State.Runs (s t : State) (c : Nat) : Prop where
  core : t.coreState 0 = 2
  source : t.rd Reg.BOOT_STAT_SOURCE = if c = 0 then 2 else c - 1
  version : t.rd Reg.BOOT_RUN_VER_VERSION = leAt (s.candidate c) 0x10 4 % 2 ^ 32
  svn : t.rd Reg.BOOT_RUN_SVN_SVN = leAt (s.candidate c) 0x14 1 % 2 ^ 7
  slot : t.rd Reg.BOOT_RUN_SVN_SLOT = leAt (s.candidate c) 0x15 1 % 2 ^ 2
  verified : t.boot.verified = true

theorem State.ran_regs (s : State) (b : Bytes) : (s.ran b).regs = (s.wri Reg.MGT_CORE_c_STAT_STATE 0 2).regs := rfl

theorem State.ran_boot (s : State) (b : Bytes) : (s.ran b).boot = { s.boot with verified := true, runHdr := b.take 0x180 } := rfl

theorem State.candRun_regs (s : State) (c : Nat) (fallback : Bool) :
    (s.candRun c fallback).regs = ((s.candShown c fallback).wri Reg.MGT_CORE_c_STAT_STATE 0 2).regs := by
  rw [State.candRun_eq, State.ran_regs]

theorem State.candRun_rd {f : Fld} (apart : fkey Reg.MGT_CORE_c_STAT_STATE.pg Reg.MGT_CORE_c_STAT_STATE 0 ≠ fkey f.pg f 0) (s : State) (c : Nat)
    (fallback : Bool) : (s.candRun c fallback).rd f = (s.candShown c fallback).rd f :=
  (State.rd_of_regs (s.candRun_regs c fallback) f).trans (State.rd_wri_ne apart)

theorem State.candRun_runs {c : Nat} (candidate : c < 3) (s : State) (fallback : Bool) : s.Runs (s.candRun c fallback) c where
  core := by
    rw [State.coreState, State.rdi, State.rdp_of_regs (congrArg Regs.active (s.candRun_regs c fallback))]
    exact State.rdi_wri_same _ _ 0 2
  source := by
    rw [State.candRun_rd (by decide), State.candShown, State.rd_wr_ne (by decide), State.rd_wr_ne (by decide), State.rd_wr_ne (by decide),
      State.rd_wr_same]
    refine Nat.mod_eq_of_lt (show _ < 4 from ?_)
    split <;> omega
  version := by
    rw [State.candRun_rd (by decide), State.candShown, State.rd_wr_ne (by decide), State.rd_wr_ne (by decide)]
    exact State.rd_wr_same _ _ _
  svn := by
    rw [State.candRun_rd (by decide), State.candShown, State.rd_wr_ne (by decide)]
    exact State.rd_wr_same _ _ _
  slot := by
    rw [State.candRun_rd (by decide), State.candShown]
    exact State.rd_wr_same _ _ _
  verified := by rw [State.candRun_eq, State.ran_boot]

theorem State.candShown_boot (s : State) (c : Nat) (fallback : Bool) : (s.candShown c fallback).boot = s.boot := by
  rw [State.candShown, State.wr_boot, State.wr_boot, State.wr_boot, State.wr_boot]
  split
  · exact State.wr_boot _ _ _
  · rfl

theorem State.candRun_boot (s : State) (c : Nat) (fallback : Bool) :
    (s.candRun c fallback).boot = { s.boot with verified := true, runHdr := (s.candidate c).take 0x180 } := by
  rw [State.candRun_eq, State.ran_boot, State.candShown_boot]

theorem State.candRun_bootRec (s : State) (c : Nat) (fallback : Bool) : (s.candRun c fallback).bootRec = s.bootRec :=
  State.bootRec_congr (by rw [State.candRun_boot]) (by rw [State.candRun_boot])

theorem State.candRun_due (s : State) (c : Nat) (fallback : Bool) : (s.candRun c fallback).boot.startDue = s.boot.startDue := by
  rw [State.candRun_boot]

/-- The registers that a candidate shows as it runs (R405). -/
def candKeys : List Nat :=
  [Reg.BOOT_STAT_FALLBACK.key 0, Reg.BOOT_STAT_SOURCE.key 0, Reg.BOOT_RUN_VER_VERSION.key 0, Reg.BOOT_RUN_SVN_SVN.key 0,
    Reg.BOOT_RUN_SVN_SLOT.key 0, Reg.MGT_CORE_c_STAT_STATE.key 0]

theorem State.candRun_regsBut (s : State) (c : Nat) (fallback : Bool) : s.RegsBut candKeys (s.candRun c fallback) := by
  have fell : s.RegsBut candKeys (if fallback then s.wr Reg.BOOT_STAT_FALLBACK 1 else s) :=
    ((State.RegsBut.refl _ s).wr 1 (by simp [candKeys])).ite (State.RegsBut.refl _ s)
  exact (((((fell.wr _ (by simp [candKeys])).wr _ (by simp [candKeys])).wr _ (by simp [candKeys])).wr _ (by simp [candKeys])).wri 2
    (by simp [candKeys])).trans (State.RegsBut.of_regs (s.candRun_regs c fallback))

theorem State.candRun_fallback (s : State) (c : Nat) : (s.candRun c true).rd Reg.BOOT_STAT_FALLBACK = 1 := by
  rw [State.candRun_rd (by decide), State.candShown, State.rd_wr_ne (by decide), State.rd_wr_ne (by decide), State.rd_wr_ne (by decide),
    State.rd_wr_ne (by decide)]
  exact State.rd_wr_same _ _ 1

/-! ## A start -/

/-- The mask ROM is about to try the candidates. -/
def State.starting (s : State) : State := { s with boot := { s.boot with startDue := false, copyTries := 0 } }

/-- Staging has been refused, where its bundle is pending (R389). -/
def State.stagingRefused (s : State) : State := if s.bootRec.pending then s.starting.candRefused 0 else s.starting

/-- No candidate verifies (R389). -/
def State.noSource (s : State) : State := { s.wr Reg.BOOT_STAT_SOURCE 3 with boot := { s.boot with runHdr := [] } }

theorem exec_bootStart (due : s.boot.startDue = true) (on : s.domainUp 1 = true) (cool : s.rst.warm = false) (off : s.coreState 0 = 0) :
    exec .bootStart s = .next s.bootTry :=
  congrArg Host.Outcome.next (if_pos ⟨due, on, by simp [cool], off⟩)

theorem State.starting_coreState (s : State) : s.starting.coreState 0 = s.coreState 0 := rfl

theorem State.starting_due (s : State) : s.starting.boot.startDue = false := rfl

theorem State.starting_candCode (s : State) (c : Nat) : s.starting.candCode c = s.candCode c :=
  State.verifyBundle_congr rfl _ _

theorem State.stagingRefused_tried (room : s.bootRec.seq + 1 < 2 ^ 32) :
    s.starting.Tried s.stagingRefused ∧ s.stagingRefused.bootRec.pending = false := by
  unfold State.stagingRefused
  split
  case isTrue => exact State.candRefused_staging_tried (s := s.starting) room
  case isFalse none' =>
    exact ⟨⟨fun _ => rfl, rfl, rfl, rfl, rfl⟩, Bool.eq_false_iff.2 none'⟩

theorem State.bootTry_eq (s : State) : s.bootTry = State.tryCands (if s.bootRec.pending then [0, 1, 2] else [1, 2]) s.starting false := rfl

theorem State.tryCands_nil (s : State) (fallback : Bool) : State.tryCands [] s fallback = s.noSource := rfl

theorem State.tryCands_verified {c : Nat} (ok : s.candCode c = 0) (l : List Nat) (fallback : Bool) :
    State.tryCands (c :: l) s fallback = s.candRun c (fallback && c != 0) := if_pos ok

theorem State.tryCands_refused {c : Nat} (bad : s.candCode c ≠ 0) (l : List Nat) (fallback : Bool) :
    State.tryCands (c :: l) s fallback = State.tryCands l (s.candRefused c) true := if_neg bad

theorem State.bootTry_staging (pending : s.bootRec.pending = true) (ok : s.candCode 0 = 0) : s.bootTry = s.starting.candRun 0 false := by
  rw [State.bootTry_eq, if_pos pending]
  exact State.tryCands_verified ((s.starting_candCode 0).trans ok) _ false

/-- Without a bundle in staging that verifies, the start goes on with the flash (R389). -/
theorem State.bootTry_flash (refused : s.bootRec.pending = true → s.candCode 0 ≠ 0) :
    s.bootTry = State.tryCands [1, 2] s.stagingRefused s.bootRec.pending := by
  rw [State.bootTry_eq, State.stagingRefused]
  cases pending : s.bootRec.pending
  case false => simp only [Bool.false_eq_true, if_false]
  case true =>
    rw [if_pos rfl, if_pos rfl]
    exact State.tryCands_refused (by rw [s.starting_candCode 0]; exact refused pending) _ false

section
variable (room : s.bootRec.seq + 1 < 2 ^ 32) (refused : s.bootRec.pending = true → s.candCode 0 ≠ 0)
include room refused

omit refused in
theorem State.stagingRefused_candCode (c : Nat) : s.stagingRefused.candCode c = s.candCode c :=
  ((State.stagingRefused_tried room).1.candCode c).trans (s.starting_candCode c)

theorem State.bootTry_partA (ok : s.candCode 1 = 0) : ∃ fallback, s.bootTry = s.stagingRefused.candRun 1 fallback := by
  rw [State.bootTry_flash refused]
  exact ⟨_, State.tryCands_verified ((State.stagingRefused_candCode room 1).trans ok) _ _⟩

theorem State.bootTry_partB (bad : s.candCode 1 ≠ 0) (ok : s.candCode 2 = 0) :
    s.bootTry = (s.stagingRefused.refusalShown 1).candRun 2 true := by
  rw [State.bootTry_flash refused, State.tryCands_refused (by rwa [State.stagingRefused_candCode room]),
    State.candRefused_flash (by decide)]
  refine State.tryCands_verified ?_ _ true
  rw [(State.refusalShown_tried _ 1).candCode, State.stagingRefused_candCode room, ok]

theorem State.bootTry_none (bad : s.candCode 1 ≠ 0) (bad' : s.candCode 2 ≠ 0) :
    s.bootTry = ((s.stagingRefused.refusalShown 1).refusalShown 2).noSource := by
  rw [State.bootTry_flash refused, State.tryCands_refused (by rwa [State.stagingRefused_candCode room]),
    State.candRefused_flash (by decide), State.tryCands_refused, State.candRefused_flash (by decide),
    State.tryCands_nil]
  · rwa [(State.refusalShown_tried _ 1).candCode, State.stagingRefused_candCode room]

end

theorem State.Runs.of_candidate {c : Nat} (same : t.candidate c = s.candidate c) (runs : t.Runs u c) : s.Runs u c := by
  obtain ⟨core, source, version, svn, slot, verified⟩ := runs
  rw [same] at version svn slot
  exact ⟨core, source, version, svn, slot, verified⟩

theorem State.noSource_rd {f : Fld} (apart : fkey Reg.BOOT_STAT_SOURCE.pg Reg.BOOT_STAT_SOURCE 0 ≠ fkey f.pg f 0) (s : State) :
    s.noSource.rd f = s.rd f := (State.rd_of_regs (s := s.wr Reg.BOOT_STAT_SOURCE 3) rfl f).trans (State.rd_wr_ne apart)

theorem State.noSource_coreState (s : State) : s.noSource.coreState 0 = s.coreState 0 := State.noSource_rd (f := Reg.MGT_CORE_c_STAT_STATE) (by decide) s

theorem State.noSource_boot (s : State) : s.noSource.boot = { s.boot with runHdr := [] } := rfl

theorem State.noSource_source (s : State) : s.noSource.rd Reg.BOOT_STAT_SOURCE = 3 :=
  (State.rd_of_regs (s := s.wr Reg.BOOT_STAT_SOURCE 3) rfl _).trans (State.rd_wr_same _ _ 3)

/-- The first candidate that verifies, of staging where its bundle is pending, A and B (R389). -/
def State.Chosen (s : State) (c : Nat) : Prop :=
  c = 0 ∧ s.bootRec.pending = true ∨ c = 1 ∧ (s.bootRec.pending = true → s.candCode 0 ≠ 0) ∨
    c = 2 ∧ (s.bootRec.pending = true → s.candCode 0 ≠ 0) ∧ s.candCode 1 ≠ 0

theorem State.bootTry_runs {c : Nat} (room : s.bootRec.seq + 1 < 2 ^ 32) (chosen : s.Chosen c) (ok : s.candCode c = 0) :
    s.Runs s.bootTry c ∧ s.bootTry.boot.startDue = false ∧ (c ≠ 0 → s.bootTry.bootRec.pending = false) ∧
      (c = 2 → s.bootTry.rd Reg.BOOT_STAT_FALLBACK = 1 ∧ s.bootTry.rd Reg.BOOT_LAST_CODE = s.candCode 1 % 2 ^ 8 ∧
        s.bootTry.rd Reg.BOOT_LAST_CAND = 1 ∧ s.bootTry.rd Reg.BOOT_LAST_AT_START = 1) := by
  obtain ⟨rfl, pending⟩ | ⟨rfl, refused⟩ | ⟨rfl, refused, bad⟩ := chosen
  · rw [State.bootTry_staging pending ok]
    exact ⟨.of_candidate (t := s.starting) rfl (State.candRun_runs (by decide) _ _), s.starting.candRun_due 0 false, fun other => absurd rfl other,
      fun other => absurd other (by decide)⟩
  · obtain ⟨tried, unstaged⟩ := State.stagingRefused_tried room
    obtain ⟨fallback, tries⟩ := State.bootTry_partA room refused ok
    rw [tries]
    exact ⟨.of_candidate (tried.candidate 1) (State.candRun_runs (by decide) _ _), (State.candRun_due _ 1 _).trans tried.due,
      fun _ => (congrArg BootRec.pending (State.candRun_bootRec _ 1 _)).trans unstaged, fun other => absurd other (by decide)⟩
  · obtain ⟨tried, unstaged⟩ := State.stagingRefused_tried room
    have flash := s.stagingRefused.refusalShown_tried 1
    have record := State.bootRec_of_boot (s.stagingRefused.refusalShown_boot 1)
    rw [State.bootTry_partB room refused bad ok]
    refine ⟨.of_candidate ((flash.candidate 2).trans (tried.candidate 2)) (State.candRun_runs (by decide) _ _),
      (State.candRun_due _ 2 _).trans (flash.due.trans tried.due),
      fun _ => (congrArg BootRec.pending ((State.candRun_bootRec _ 2 _).trans record)).trans unstaged,
      fun _ => ⟨State.candRun_fallback _ 2, ?_, ?_, ?_⟩⟩
    · rw [(State.candRun_regsBut _ 2 true).lookup' (f := Reg.BOOT_LAST_CODE) (by decide) (by decide), State.refusalShown_code,
        State.stagingRefused_candCode room]
    · rw [(State.candRun_regsBut _ 2 true).lookup' (f := Reg.BOOT_LAST_CAND) (by decide) (by decide), State.refusalShown_cand (by decide)]
    · rw [(State.candRun_regsBut _ 2 true).lookup' (f := Reg.BOOT_LAST_AT_START) (by decide) (by decide), State.refusalShown_atStart]

theorem State.bootTry_finds_none (room : s.bootRec.seq + 1 < 2 ^ 32) (refused : s.bootRec.pending = true → s.candCode 0 ≠ 0)
    (bad : s.candCode 1 ≠ 0) (bad' : s.candCode 2 ≠ 0) :
    s.bootTry.coreState 0 = s.coreState 0 ∧ s.bootTry.boot.startDue = false ∧ s.bootTry.rd Reg.BOOT_STAT_SOURCE = 3 ∧
      s.bootTry.rd Reg.BOOT_LAST_CODE = s.candCode 2 % 2 ^ 8 ∧ s.bootTry.rd Reg.BOOT_LAST_CAND = 2 := by
  obtain ⟨tried, _⟩ := State.stagingRefused_tried room
  have flash := s.stagingRefused.refusalShown_tried 1
  have both := flash.trans ((s.stagingRefused.refusalShown 1).refusalShown_tried 2)
  rw [State.bootTry_none room refused bad bad']
  refine ⟨?_, ?_, State.noSource_source _, ?_, ?_⟩
  · rw [State.noSource_coreState, both.core, tried.core, s.starting_coreState]
  · rw [State.noSource_boot, both.due, tried.due, s.starting_due]
  · rw [State.noSource_rd (by decide), State.refusalShown_code, flash.candCode, State.stagingRefused_candCode room]
  · rw [State.noSource_rd (by decide), State.refusalShown_cand (by decide)]

theorem State.bootTry_due (room : s.bootRec.seq + 1 < 2 ^ 32) : s.bootTry.boot.startDue = false := by
  by_cases staged : s.bootRec.pending = true ∧ s.candCode 0 = 0
  · exact (State.bootTry_runs room (.inl ⟨rfl, staged.1⟩) staged.2).2.1
  · have refused : s.bootRec.pending = true → s.candCode 0 ≠ 0 := fun pending ok => staged ⟨pending, ok⟩
    by_cases first : s.candCode 1 = 0
    · exact (State.bootTry_runs room (.inr (.inl ⟨rfl, refused⟩)) first).2.1
    · by_cases second : s.candCode 2 = 0
      · exact (State.bootTry_runs room (.inr (.inr ⟨rfl, refused, first⟩)) second).2.1
      · exact (State.bootTry_finds_none room refused first second).2.1

/-! ## An accepted candidate -/

/-- Links that may try again change no register below the fabric's pages (R285). -/
theorem State.fabChanged_rd (s : State) {f : Fld} (i : Nat) (below : fkey f.pg f i / 64 / 4096 < 0x72) : s.fabChanged.rdi f i = s.rdi f i := by
  have kept : ∀ l : List Nat, (∀ n ∈ l, n < 40) → ∀ s : State,
      (l.foldl (fun t n => if t.lstate n = 4 ∨ t.lstate n = 5 then t.linkTo n 2 else t) s).rdi f i = s.rdi f i := by
    intro l
    induction l with
    | nil => exact fun _ _ => rfl
    | cons n l ih =>
      intro links s
      rw [List.foldl_cons, ih (fun k later => links k (List.mem_cons_of_mem n later))]
      split
      · exact State.rdp_congr (linkTo_rest (links n List.mem_cons_self) below).1
      · rfl
  exact kept _ (fun n link => List.mem_range.1 link) s

/-- The interface versions of the running bundle are set (R390). -/
def State.versionsSet (s : State) : State :=
  (s.wr Reg.FAB_IFV_IFV (leAt s.boot.runHdr 0x30 2)).wr Reg.FAB_IFV_MIN (leAt s.boot.runHdr 0x32 1)

/-- The subordinate cores load (R366, R390). -/
def State.coresLoad (s : State) : State :=
  ((s.wri Reg.MGT_CORE_c_STAT_STATE 1 1).wri Reg.MGT_CORE_c_STAT_STATE 2 1).wri Reg.MGT_CORE_c_STAT_STATE 3 1

/-- R390 has run for the candidate. -/
def State.acceptNoted (s : State) : State := { s with boot := { s.boot with verified := false } }

theorem State.accepted_eq (s : State) : s.accepted = s.versionsSet.fabChanged.coresLoad.acceptNoted := by
  simp only [State.accepted, State.versionsSet, State.coresLoad, State.acceptNoted, List.foldl]

theorem exec_candidateAccepted (verified : s.boot.verified = true) (running : s.coreState 0 = 2) :
    exec .candidateAccepted s = .next s.accepted := congrArg Host.Outcome.next (if_pos ⟨verified, running⟩)

theorem State.acceptNoted_coreState (s : State) (c : Nat) : s.acceptNoted.coreState c = s.coreState c := rfl

theorem State.acceptNoted_regs (s : State) : s.acceptNoted.regs = s.regs := rfl

theorem State.coresLoad_rdi {f : Fld} {i : Nat}
    (apart : ∀ c, 1 ≤ c → c < 4 → fkey Reg.MGT_CORE_c_STAT_STATE.pg Reg.MGT_CORE_c_STAT_STATE c ≠ fkey f.pg f i) (s : State) :
    s.coresLoad.rdi f i = s.rdi f i := by
  rw [State.coresLoad, State.rdi_wri_ne (apart 3 (by decide) (by decide)), State.rdi_wri_ne (apart 2 (by decide) (by decide)),
    State.rdi_wri_ne (apart 1 (by decide) (by decide))]

theorem State.coresLoad_subordinate {c : Nat} (core : 1 ≤ c ∧ c ≤ 3) (s : State) : s.coresLoad.coreState c = 1 := by
  obtain rfl | rfl | rfl : c = 1 ∨ c = 2 ∨ c = 3 := by omega
  · refine (State.rdi_wri_ne (by decide)).trans ((State.rdi_wri_ne (by decide)).trans ?_)
    exact State.rdi_wri_same s _ 1 1
  · refine (State.rdi_wri_ne (by decide)).trans ?_
    exact State.rdi_wri_same _ _ 2 1
  · exact State.rdi_wri_same _ _ 3 1

/-- What a start has an accepted candidate change beyond the interface versions and the subordinate cores lies in the links. -/
theorem State.accepted_rdi {f : Fld} {i : Nat} (below : fkey f.pg f i / 64 / 4096 < 0x72)
    (apart : ∀ c, 1 ≤ c → c < 4 → fkey Reg.MGT_CORE_c_STAT_STATE.pg Reg.MGT_CORE_c_STAT_STATE c ≠ fkey f.pg f i) (s : State) :
    s.accepted.rdi f i = s.versionsSet.rdi f i := by
  rw [State.accepted_eq, State.rdi, State.rdp_of_regs (congrArg Regs.active (State.acceptNoted_regs _)), ← State.rdi,
    State.coresLoad_rdi apart, State.fabChanged_rd _ i below]

theorem State.accepted_core0 (s : State) : s.accepted.coreState 0 = s.coreState 0 := by
  refine (State.accepted_rdi (f := Reg.MGT_CORE_c_STAT_STATE) (i := 0) (by decide) (by decide) s).trans ?_
  exact (State.rdi_wr_ne (by decide)).trans (State.rdi_wr_ne (by decide))

theorem State.accepted_subordinate {c : Nat} (core : 1 ≤ c ∧ c ≤ 3) (s : State) : s.accepted.coreState c = 1 := by
  rw [State.accepted_eq, State.acceptNoted_coreState]
  exact State.coresLoad_subordinate core _

theorem State.accepted_version (s : State) : s.accepted.rd Reg.FAB_IFV_IFV = leAt s.boot.runHdr 0x30 2 % 2 ^ 16 := by
  refine (State.accepted_rdi (f := Reg.FAB_IFV_IFV) (i := 0) (by decide) (by decide) s).trans ?_
  rw [State.versionsSet]
  exact (State.rd_wr_ne (by decide)).trans (State.rd_wr_same _ _ _)

theorem State.accepted_least (s : State) : s.accepted.rd Reg.FAB_IFV_MIN = leAt s.boot.runHdr 0x32 1 % 2 ^ 8 :=
  (State.accepted_rdi (f := Reg.FAB_IFV_MIN) (i := 0) (by decide) (by decide) s).trans (State.rd_wr_same _ _ _)

theorem State.coresLoad_boot (s : State) : s.coresLoad.boot = s.boot := by
  rw [State.coresLoad, State.wri_boot, State.wri_boot, State.wri_boot]

theorem State.accepted_boot (s : State) : s.accepted.boot = { s.boot with verified := false } := by
  rw [State.accepted_eq, State.acceptNoted, State.coresLoad_boot, State.of_but_boot (State.fabChanged_but (u := 65537) (by decide) _) (by decide),
    State.versionsSet, State.wr_boot, State.wr_boot]

/-! ## Staging -/

variable {d : Desc} {b : Bytes}

/-- The registers that a completion writes, HEAD with them. -/
theorem State.tdmComplete_regsBut (s : State) (d : Desc) (status art detail : Nat) :
    s.RegsBut (Reg.TDM_HEAD_IDX.key 0 :: tdmKeys) (s.tdmComplete d status art detail) := by
  have noted : s.RegsBut (Reg.TDM_HEAD_IDX.key 0 :: tdmKeys) (s.tdmNoted d status art) :=
    ((State.RegsBut.refl tdmKeys s).tdmNoted d status art).mono (List.subset_cons_self _ _)
  rw [State.tdmComplete_eq]
  exact ((noted.trans (State.RegsBut.of_regs (State.emit_regs _ _))).wr _ List.mem_cons_self).trans
    (State.RegsBut.of_regs (State.applyNext_regs _))

theorem State.tdmComplete_boot (s : State) (d : Desc) (status art detail : Nat) : (s.tdmComplete d status art detail).boot = s.boot :=
  State.of_but_boot (State.tdmComplete_but (u := 2197815297) (by decide) s d status art detail) (by decide)

/-- Staging as a descriptor's bytes find it: at INDEX 0 it starts anew, with nothing pending (R388). -/
def State.stageOpened (s : State) (d : Desc) : State :=
  if d.index = 0 then
    if s.bootRec.pending then ({ s with boot := { s.boot with staging := [] } } : State).writeRec { s.bootRec with pending := false }
    else { s with boot := { s.boot with staging := [] } }
  else s

/-- The bytes of a descriptor are in staging, and counted (R388). -/
def State.stagePut (s : State) (d : Desc) (b : Bytes) : State :=
  let t := s.stageOpened d
  (({ t with boot := { t.boot with staging := t.boot.staging.take d.index ++ b } } : State).wr Reg.BOOT_STG_BYTES (d.index + d.len)).tdmMoved d.len

theorem State.stageBytes_eq (s : State) (d : Desc) (b : Bytes) : s.stageBytes d b =
    if 16 ≤ d.index + d.len ∧ leAt (s.stagePut d b).boot.staging 0x0C 4 ≤ d.index + d.len then (s.stagePut d b).stageVerify d
    else (s.stagePut d b).tdmComplete d 0 0 d.len := by
  simp only [State.stageBytes, State.stagePut, State.stageOpened]

theorem State.stageOpened_boot (s : State) (d : Desc) : ∃ rec0 rec1 staging, staging.take d.index = s.boot.staging.take d.index ∧
    s.stageOpened d = { s with boot := { s.boot with rec0 := rec0, rec1 := rec1, staging := staging } } := by
  unfold State.stageOpened
  split
  case isTrue first =>
    rw [first]
    split
    · obtain ⟨rec0, rec1, written⟩ :=
        ({ s with boot := { s.boot with staging := [] } } : State).writeRec_boot { s.bootRec with pending := false }
      exact ⟨rec0, rec1, [], rfl, written⟩
    · exact ⟨s.boot.rec0, s.boot.rec1, [], rfl, rfl⟩
  case isFalse => exact ⟨s.boot.rec0, s.boot.rec1, s.boot.staging, rfl, rfl⟩

theorem State.stagePut_boot (s : State) (d : Desc) (b : Bytes) :
    (s.stagePut d b).boot = { (s.stageOpened d).boot with staging := (s.stageOpened d).boot.staging.take d.index ++ b } := by
  rw [State.stagePut, State.tdmMoved, State.stat_boot, State.wr_boot]

theorem State.stagePut_staging (s : State) (d : Desc) (b : Bytes) : (s.stagePut d b).boot.staging = s.boot.staging.take d.index ++ b := by
  obtain ⟨_, _, staging, same, opened⟩ := s.stageOpened_boot d
  rw [State.stagePut_boot, opened]
  exact congrArg (· ++ b) same

theorem State.stagePut_sec (s : State) (d : Desc) (b : Bytes) : (s.stagePut d b).sec = s.sec := by
  obtain ⟨_, _, _, _, opened⟩ := s.stageOpened_boot d
  rw [State.stagePut, State.tdmMoved, State.stat_sec, State.wr_sec, opened]

theorem State.stagePut_bytes (short : d.index + d.len ≤ 2 ^ 24) (s : State) (b : Bytes) :
    (s.stagePut d b).rd Reg.BOOT_STG_BYTES = d.index + d.len := by
  rw [State.stagePut, State.tdmMoved, State.stat_rd _ _ _ _ _ _ (by decide) (by decide), State.rd_wr_same]
  exact Nat.mod_eq_of_lt (lt_of_le_of_lt short (by decide))

theorem State.stageOpened_seq (room : s.bootRec.seq + 2 < 2 ^ 32) (d : Desc) : (s.stageOpened d).bootRec.seq + 1 < 2 ^ 32 := by
  unfold State.stageOpened
  split
  · split
    · rw [State.bootRec_writeRec (s := { s with boot := { s.boot with staging := [] } }) (show s.bootRec.seq + 1 < 2 ^ 32 by omega)]
      exact room
    · exact show s.bootRec.seq + 1 < 2 ^ 32 by omega
  · omega

theorem State.stagePut_seq (room : s.bootRec.seq + 2 < 2 ^ 32) (d : Desc) (b : Bytes) : (s.stagePut d b).bootRec.seq + 1 < 2 ^ 32 := by
  have same : (s.stagePut d b).bootRec = (s.stageOpened d).bootRec :=
    State.bootRec_congr (by rw [State.stagePut_boot]) (by rw [State.stagePut_boot])
  rw [same]
  exact State.stageOpened_seq room d

/-- The result of a bundle's checks, as staging is complete (R386, R388). -/
def State.stageCode (s : State) : Nat :=
  s.verifyBundle (bundleBytes s.boot.staging) (buLen (bundleBytes s.boot.staging) == s.rd Reg.BOOT_STG_BYTES)

/-- A staged bundle that verifies is pending (R388). -/
def State.stagePending (s : State) : State :=
  s.writeRec { s.bootRec with pending := true, stgLen := buLen (bundleBytes s.boot.staging) }

theorem State.evt_boot' (s : State) (p k : Nat) : (s.evt p k).boot = s.boot := rfl

/-- The event of a bundle that has been checked (R388). -/
def State.stageChecked (s : State) : State := s.evt 0x07 1

theorem State.stageVerify_pending (ok : s.stageCode = 0) (d : Desc) : ∃ r, r.pending = true ∧ r.stgLen = buLen (bundleBytes s.boot.staging) ∧
    s.stageVerify d = (s.stageChecked.writeRec r).tdmComplete d 0 0 d.len :=
  ⟨{ s.stageChecked.bootRec with pending := true, stgLen := buLen (bundleBytes s.boot.staging) }, rfl, rfl, if_pos ok⟩

theorem State.stageVerify_refused (bad : s.stageCode ≠ 0) (d : Desc) : s.stageVerify d = s.stageChecked.stageRefuse d s.stageCode := if_neg bad

/-- Staging and its count stand. -/
structure State.StagingKept (s t : State) : Prop where
  staging : t.boot.staging = s.boot.staging
  bytes : t.rd Reg.BOOT_STG_BYTES = s.rd Reg.BOOT_STG_BYTES

theorem State.StagingKept.trans (h : s.StagingKept t) (g : t.StagingKept u) : s.StagingKept u :=
  ⟨g.staging.trans h.staging, g.bytes.trans h.bytes⟩

theorem State.StagingKept.tdmComplete (s : State) (d : Desc) (status art detail : Nat) : s.StagingKept (s.tdmComplete d status art detail) where
  staging := by rw [State.tdmComplete_boot]
  bytes := (s.tdmComplete_regsBut d status art detail).lookup' (by decide) (by decide)

theorem State.StagingKept.stageChecked (s : State) : s.StagingKept s.stageChecked := ⟨rfl, State.rd_wrp_ne (by decide)⟩

theorem State.StagingKept.writeRec (s : State) (r : BootRec) : s.StagingKept (s.writeRec r) :=
  ⟨s.writeRec_staging r, State.rd_of_regs (s.writeRec_regs r) _⟩

/-- The refusal of a bundle is shown and counted (R388, R405). -/
def State.stageRefusal (s : State) (code : Nat) : State := (s.bootLast code 0 false).trb 0x07 3

theorem State.stageRefuse_eq (s : State) (d : Desc) (code : Nat) : s.stageRefuse d code = (s.stageRefusal code).tdmComplete d 8 0 code := rfl

theorem State.StagingKept.stageRefusal (s : State) (code : Nat) : s.StagingKept (s.stageRefusal code) where
  staging := by rw [State.stageRefusal, State.trb_boot, State.bootLast, State.wr_boot, State.wr_boot, State.wr_boot]
  bytes := (State.trb_rd _ _ _ _ (by decide) (by decide)).trans
    ((State.rd_wr_ne (by decide)).trans ((State.rd_wr_ne (by decide)).trans (State.rd_wr_ne (by decide))))

theorem State.StagingKept.stageVerify (s : State) (d : Desc) : s.StagingKept (s.stageVerify d) := by
  by_cases ok : s.stageCode = 0
  · obtain ⟨r, _, _, verified⟩ := State.stageVerify_pending ok d
    rw [verified]
    exact ((State.StagingKept.stageChecked s).trans (.writeRec _ r)).trans (.tdmComplete _ d 0 0 d.len)
  · rw [State.stageVerify_refused ok, State.stageRefuse_eq]
    exact ((State.StagingKept.stageChecked s).trans (.stageRefusal _ _)).trans (.tdmComplete _ d 8 0 _)

theorem State.StagingKept.stageBytes (s : State) (d : Desc) (b : Bytes) : (s.stagePut d b).StagingKept (s.stageBytes d b) := by
  rw [State.stageBytes_eq]
  split
  · exact .stageVerify _ d
  · exact .tdmComplete _ d 0 0 d.len

/-- A descriptor completes a bundle that verifies: it is pending, with its length (R388). -/
theorem State.stageBytes_pending (room : s.bootRec.seq + 2 < 2 ^ 32) (short : d.index + d.len ≤ 2 ^ 24)
    (complete : 16 ≤ d.index + d.len ∧ leAt (s.stagePut d b).boot.staging 0x0C 4 ≤ d.index + d.len)
    (ok : s.verifyBundle (bundleBytes (s.stagePut d b).boot.staging) (buLen (bundleBytes (s.stagePut d b).boot.staging) == d.index + d.len) = 0) :
    (s.stageBytes d b).bootRec.pending = true ∧ (s.stageBytes d b).bootRec.stgLen = buLen (bundleBytes (s.stagePut d b).boot.staging) := by
  have code : (s.stagePut d b).stageCode = 0 := by
    rw [State.stageCode, State.verifyBundle_congr (s.stagePut_sec d b), State.stagePut_bytes short, ok]
  obtain ⟨r, pending, length, verified⟩ := State.stageVerify_pending code d
  have room : (s.stagePut d b).stageChecked.bootRec.seq + 1 < 2 ^ 32 := State.stagePut_seq room d b
  rw [State.stageBytes_eq, if_pos complete, verified, State.bootRec_of_boot (State.tdmComplete_boot _ d 0 0 d.len),
    State.bootRec_writeRec room]
  exact ⟨pending, length⟩

theorem exec_tdmStageFw_ok (works : s.tdmWorks 6 d) (running : s.coreState 0 = 2) (still : s.rdb Reg.BOOT_STAT_COPYING = false)
    (next : d.index = 0 ∨ d.index = s.rd Reg.BOOT_STG_BYTES) (short : d.index + d.len ≤ 2 ^ 24) (long : d.len ≤ b.length) :
    exec (.tdmStageFw (.ok b)) s = .next (s.stageBytes d (b.take d.len)) := by
  refine congrArg Host.Outcome.next ((State.tdmWith_of_works works _).trans ?_)
  rw [State.tdmStageOp, if_neg (by simp [running, still]), if_neg (by tauto), if_neg (by omega), hostBytes, if_pos long]

/-! ## UNSTAGE -/

theorem exec_bootUnstage_ok (reach : s.access m 0x07 0x100 4 true = .ok) : ∃ u, s.CountsTo u ∧ exec (.bootUnstage m) s = .next u.unstage := by
  obtain ⟨u, counted, ran⟩ := State.onWrite_ok reach State.unstage
  exact ⟨u, counted, congrArg Host.Outcome.next ran⟩

theorem State.unstage_of_still (still : s.rdb Reg.BOOT_STAT_COPYING = false) : s.unstage = if s.bootRec.pending then s.unstaged else s :=
  if_neg (by simp [still])

theorem State.unstage_copying (copies : s.rdb Reg.BOOT_STAT_COPYING = true) : s.unstage = s.trb 0x07 3 := if_pos copies

theorem State.unstage_pending (room : s.bootRec.seq + 1 < 2 ^ 32) (still : s.rdb Reg.BOOT_STAT_COPYING = false) :
    s.unstage.bootRec.pending = false ∧ s.unstage.regs = s.regs := by
  rw [State.unstage_of_still still]
  split
  case isTrue => exact ⟨State.unstaged_pending room, s.writeRec_regs _⟩
  case isFalse none' => exact ⟨Bool.eq_false_iff.2 none', rfl⟩

/-! ## The flash copy -/

/-- The record of the half that puts staging into A (R391). -/
def BootRec.toA (r : BootRec) : BootRec := { r with copyAB := false, copySA := true }

/-- The record of the half that puts A into B (R391). -/
def BootRec.toB (r : BootRec) : BootRec := { r with copyAB := true, copySA := false }

theorem State.copySaStart_boot (room : s.bootRec.seq + 1 < 2 ^ 32) : s.copySaStart.boot.partA = [] ∧ s.copySaStart.boot.partB = s.boot.partB ∧
    s.copySaStart.boot.staging = s.boot.staging ∧ s.copySaStart.boot.copyTries = 0 ∧
    s.copySaStart.bootRec = { s.bootRec.toA with seq := s.bootRec.seq + 1 } :=
  ⟨rfl, s.writeRec_partB s.bootRec.toA, s.writeRec_staging s.bootRec.toA, rfl, State.bootRec_writeRec room s.bootRec.toA⟩

theorem State.copySaStart_regs (s : State) : s.copySaStart.regs = s.regs := s.writeRec_regs s.bootRec.toA

/-- The copy runs. -/
def State.copying (s : State) : State := s.wr Reg.BOOT_STAT_COPYING 1

/-- The half that puts A into B is begun by its record (R391). -/
def State.toB (s : State) : State := s.copying.writeRec s.bootRec.toB

/-- B is rewritten. -/
def State.copyAbStart (s : State) : State := { s with boot := { s.boot with partB := [], copyTries := 0 } }

theorem State.toB_partA (s : State) : s.toB.boot.partA = s.boot.partA := State.writeRec_partA _ _

theorem State.toB_code (s : State) (b : Bytes) : s.toB.verifyBundle b true = s.verifyBundle b true :=
  State.verifyBundle_congr (State.writeRec_sec _ _) b true

theorem State.copyStart_second (begun : s.bootRec.copySA = true) : s.copyStart = s.copying.copySaStart := if_pos begun

theorem State.copyStart_first (fresh : s.bootRec.copySA = false) : s.copyStart =
    if s.toB.verifyBundle (bundleBytes s.toB.boot.partA) true = 0 ∨ s.toB.verifyBundle (bundleBytes s.toB.boot.partA) true = 13 then s.toB.copyAbStart
    else s.toB.copySaStart :=
  if_neg fun begun => absurd (fresh.symm.trans begun) (by decide)

theorem verified_iff {n : Nat} : [0, 13].contains n = true ↔ n = 0 ∨ n = 13 := by simp

/-- How a copy begins: with B, where no second half was begun and A passes its checks, and with A elsewhere (R391). -/
theorem State.copyStart_cases (room : s.bootRec.seq + 2 < 2 ^ 32) :
    s.bootRec.copySA = false ∧ [0, 13].contains (s.verifyBundle (bundleBytes s.boot.partA) true) = true ∧ s.copyStart = s.toB.copyAbStart ∨
    ¬ (s.bootRec.copySA = false ∧ [0, 13].contains (s.verifyBundle (bundleBytes s.boot.partA) true) = true) ∧
      ∃ t : State, s.copyStart = t.copySaStart ∧ t.regs = s.copying.regs ∧ t.boot.partB = s.boot.partB ∧ t.boot.staging = s.boot.staging ∧
        t.bootRec.seq + 1 < 2 ^ 32 := by
  cases begun : s.bootRec.copySA
  case true =>
    exact .inr ⟨by simp, s.copying, State.copyStart_second begun, rfl, rfl, rfl, show s.bootRec.seq + 1 < 2 ^ 32 by omega⟩
  case false =>
    rw [State.copyStart_first begun, State.toB_code, State.toB_partA, verified_iff]
    split
    case isTrue ok => exact .inl ⟨rfl, ok, rfl⟩
    case isFalse bad =>
      have written : s.toB.bootRec.seq = s.bootRec.seq + 1 :=
        congrArg BootRec.seq (State.bootRec_writeRec (s := s.copying) (show s.bootRec.seq + 1 < 2 ^ 32 by omega) s.bootRec.toB)
      exact .inr ⟨fun both => bad both.2, s.toB, rfl, State.writeRec_regs _ _, State.writeRec_partB _ _, State.writeRec_staging _ _,
        by rw [written]; exact room⟩

theorem State.copying_regsBut (s : State) : s.RegsBut [Reg.BOOT_STAT_COPYING.key 0] s.copying := (State.RegsBut.refl _ s).wr 1 (by simp)

theorem State.copyAbStart_boot (room : s.bootRec.seq + 1 < 2 ^ 32) : s.toB.copyAbStart.boot.partA = s.boot.partA ∧
    s.toB.copyAbStart.boot.staging = s.boot.staging ∧ s.toB.copyAbStart.bootRec = { s.bootRec.toB with seq := s.bootRec.seq + 1 } :=
  ⟨s.toB_partA, State.writeRec_staging _ _, State.bootRec_writeRec (s := s.copying) room s.bootRec.toB⟩

/-- B holds what A holds. -/
def State.copiedB (s : State) : State := { s with boot := { s.boot with partB := s.boot.partA } }

/-- A holds the staged bundle. -/
def State.copiedA (s : State) : State :=
  { s with boot := { s.boot with partA := s.boot.staging.take s.bootRec.stgLen, copyTries := 0 } }

/-- The copy has ended, with nothing staged (R391). -/
def State.copyDone (s : State) : State :=
  (((s.copiedA.writeRec { s.bootRec with pending := false, copyAB := false, copySA := false }).wr Reg.BOOT_STAT_SOURCE 0).wr
    Reg.BOOT_STAT_COPYING 0).evt 0x07 2

/-- A half has failed once more. -/
def State.copyTried (s : State) : State := { s with boot := { s.boot with copyTries := s.boot.copyTries + 1 } }

/-- The copy has failed (R391). -/
def State.copyFailed (s : State) : State := ((s.copyTried.wr Reg.BOOT_STAT_COPYING 0).trb 0x07 7).evt 0x07 2

section
variable (source : s.rd Reg.BOOT_STAT_SOURCE = 2) (attended : s.rst.headless = false) (running : s.coreState 0 = 2)
  (tries : s.boot.copyTries < 2)
include source attended running tries

theorem exec_flashCopy_idle (still : s.rdb Reg.BOOT_STAT_COPYING = false) (ok : Bool) : exec (.flashCopy ok) s = .next s.copyStart :=
  congrArg Host.Outcome.next ((if_pos ⟨source, by simp [attended], running, tries⟩).trans (if_neg (by simp [still])))

theorem exec_flashCopy_copying (copies : s.rdb Reg.BOOT_STAT_COPYING = true) (ok : Bool) : exec (.flashCopy ok) s = .next (s.copyStep ok) :=
  congrArg Host.Outcome.next ((if_pos ⟨source, by simp [attended], running, tries⟩).trans (if_pos copies))

end

theorem State.copyStep_first (half : s.bootRec.copyAB = true) : s.copyStep true = s.copiedB.copySaStart := if_pos half

theorem State.copyStep_second (half : s.bootRec.copyAB = false) : s.copyStep true = s.copyDone :=
  if_neg fun first => absurd (half.symm.trans first) (by decide)

theorem State.copyStep_retry (fresh : s.boot.copyTries = 0) : s.copyStep false = s.copyTried := by
  refine (if_neg (by decide)).trans (if_neg ?_)
  show ¬ 2 ≤ s.boot.copyTries + 1
  omega

theorem State.copyStep_fails (again : s.boot.copyTries = 1) : s.copyStep false = s.copyFailed := by
  refine (if_neg (by decide)).trans (if_pos ?_)
  show 2 ≤ s.boot.copyTries + 1
  omega

theorem State.copyDone_boot (room : s.bootRec.seq + 1 < 2 ^ 32) : s.copyDone.boot.partA = s.boot.staging.take s.bootRec.stgLen ∧
    s.copyDone.boot.partB = s.boot.partB ∧ s.copyDone.bootRec.pending = false ∧ s.copyDone.bootRec.copySA = false := by
  have record := State.bootRec_writeRec (s := s.copiedA) room { s.bootRec with pending := false, copyAB := false, copySA := false }
  exact ⟨State.writeRec_partA _ _, State.writeRec_partB _ _, congrArg BootRec.pending record, congrArg BootRec.copySA record⟩

theorem State.copyDone_source (s : State) : s.copyDone.rd Reg.BOOT_STAT_SOURCE = 0 := by
  rw [State.copyDone, State.evt, State.rd_wrp_ne (by decide), State.rd_wr_ne (by decide)]
  exact State.rd_wr_same _ _ 0

theorem State.copyDone_copying (s : State) : s.copyDone.rd Reg.BOOT_STAT_COPYING = 0 := by
  rw [State.copyDone, State.evt, State.rd_wrp_ne (by decide)]
  exact State.rd_wr_same _ _ 0

theorem State.copyFailed_copying (s : State) : s.copyFailed.rd Reg.BOOT_STAT_COPYING = 0 := by
  rw [State.copyFailed, State.evt, State.rd_wrp_ne (by decide), State.trb_rd _ _ _ _ (by decide) (by decide)]
  exact State.rd_wr_same _ _ 0

theorem State.copyFailed_bootRec (s : State) : s.copyFailed.bootRec = s.bootRec := by
  have boot : s.copyFailed.boot = s.copyTried.boot := by rw [State.copyFailed, State.evt_boot', State.trb_boot, State.wr_boot]
  exact State.bootRec_congr ((congrArg BootSt.rec0 boot).trans rfl) ((congrArg BootSt.rec1 boot).trans rfl)

theorem State.copyFailed_regsBut (s : State) :
    s.RegsBut [Reg.BOOT_STAT_COPYING.key 0, trbKey 0x07 7, fkey 0x07 Reg.EVT_STAT_EVT 0] s.copyFailed := by
  have tried : s.RegsBut [Reg.BOOT_STAT_COPYING.key 0, trbKey 0x07 7, fkey 0x07 Reg.EVT_STAT_EVT 0] s.copyTried := State.RegsBut.of_regs rfl
  exact ((tried.wr 0 (by simp)).trb (by simp)).evt (by simp)

/-- Settles O53: starts, acceptance, staging and UNSTAGE, then the copy's beginning, its halves and its failures. -/
theorem candidatesAreStagedAndStarted : Obligations.CandidatesAreStagedAndStarted := by
  refine ⟨fun s room => ⟨fun due on cool off => ?start, fun verified running => ?accepted,
    fun d b cur op good running on dma range some' core still next short long => ?stage,
    fun m reach => ⟨fun still => ?unstage, fun copies => ?refused⟩⟩,
    fun s room source attended running tries => ⟨fun still ok => ?begins, fun copies => ⟨fun half => ?first, fun half => ?second,
      fun fresh => ?retry, fun again => ?fails⟩⟩⟩
  case start =>
    have room : s.bootRec.seq + 1 < 2 ^ 32 := by omega
    refine ⟨_, exec_bootStart due on cool off, State.bootTry_due room, fun c chosen ok => ?_, fun refused bad bad' => ?_⟩
    · obtain ⟨⟨core, src, version, svn, slot, verified⟩, _, unstaged, fallback⟩ := State.bootTry_runs room chosen ok
      exact ⟨core, src, version, svn, slot, verified, unstaged, fallback⟩
    · obtain ⟨core, _, src, code, cand⟩ := State.bootTry_finds_none room refused bad bad'
      exact ⟨core.trans off, src, code, cand⟩
  case accepted =>
    exact ⟨_, exec_candidateAccepted verified running, s.accepted_version, s.accepted_least, State.accepted_subordinate (by decide) s,
      State.accepted_subordinate (by decide) s, State.accepted_subordinate (by decide) s, s.accepted_core0.trans running, s.accepted_boot⟩
  case stage =>
    have works : s.tdmWorks 6 d := ⟨cur, op, good, running, on, dma, fun fresh => Bool.eq_false_iff.2 fun bad => range ⟨fresh, bad⟩, some'⟩
    have kept := State.StagingKept.stageBytes s d (b.take d.len)
    have staging := kept.staging.trans (s.stagePut_staging d (b.take d.len))
    refine ⟨_, exec_tdmStageFw_ok works core still next short long, staging, kept.bytes.trans (State.stagePut_bytes short s _),
      fun long complete ok => ?_⟩
    rw [kept.staging] at complete ok ⊢
    exact State.stageBytes_pending room short ⟨long, complete⟩ ok
  case unstage =>
    obtain ⟨u, counted, ran⟩ := exec_bootUnstage_ok reach
    have record := State.bootRec_of_boot counted.boot
    obtain ⟨unstaged, regs⟩ := State.unstage_pending (s := u) (by rw [record]; omega) (by rw [counted.rdb _ (by decide), still])
    exact ⟨_, ran, unstaged, (counted.regsBut []).trans (State.RegsBut.of_regs regs)⟩
  case refused =>
    obtain ⟨u, counted, ran⟩ := exec_bootUnstage_ok reach
    rw [State.unstage_copying (by rw [counted.rdb _ (by decide), copies])] at ran
    exact ⟨_, ran, counted.trb 0x07 3⟩
  case begins =>
    have ran := exec_flashCopy_idle source attended running tries still ok
    obtain ⟨fresh, good, starts⟩ | ⟨other, t, starts, regs, partB, staging, room'⟩ := State.copyStart_cases room
    · obtain ⟨partA, staging, record⟩ := State.copyAbStart_boot (s := s) (by omega)
      rw [starts] at ran
      have regs : s.toB.copyAbStart.regs = s.copying.regs := State.writeRec_regs _ _
      refine ⟨_, ran, (State.rd_of_regs regs _).trans (State.rd_wr_same _ _ 1), staging, rfl,
        s.copying_regsBut.trans (State.RegsBut.of_regs regs), fun _ _ => ⟨partA, rfl, ?_, ?_⟩, fun either => ?_⟩
      · rw [record]; rfl
      · rw [record]; rfl
      · obtain begun | bad := either
        · exact absurd (fresh.symm.trans begun) (by decide)
        · exact absurd (good.symm.trans bad) (by decide)
    · obtain ⟨partA, partB', staging', fresh, record⟩ := State.copySaStart_boot room'
      rw [starts] at ran
      have regs := t.copySaStart_regs.trans regs
      refine ⟨_, ran, (State.rd_of_regs regs _).trans (State.rd_wr_same _ _ 1), staging'.trans staging, fresh,
        s.copying_regsBut.trans (State.RegsBut.of_regs regs), fun fresh good => absurd ⟨fresh, good⟩ other,
        fun _ => ⟨partA, partB'.trans partB, ?_, ?_⟩⟩
      · rw [record]; rfl
      · rw [record]; rfl
  case first =>
    have ran := exec_flashCopy_copying source attended running tries copies true
    rw [State.copyStep_first half] at ran
    obtain ⟨partA, partB, _, _, record⟩ := State.copySaStart_boot (s := s.copiedB) (show s.bootRec.seq + 1 < 2 ^ 32 by omega)
    exact ⟨_, ran, partB, partA, by rw [record]; rfl, by rw [record]; rfl, State.RegsBut.of_regs s.copiedB.copySaStart_regs⟩
  case second =>
    have ran := exec_flashCopy_copying source attended running tries copies true
    rw [State.copyStep_second half] at ran
    obtain ⟨partA, partB, pending, copySA⟩ := State.copyDone_boot (s := s) (by omega)
    exact ⟨_, ran, partA, partB, pending, copySA, s.copyDone_source, s.copyDone_copying⟩
  case retry =>
    rw [exec_flashCopy_copying source attended running tries copies, State.copyStep_retry fresh, State.copyTried, fresh]
  case fails =>
    have ran := exec_flashCopy_copying source attended running tries copies false
    rw [State.copyStep_fails again] at ran
    exact ⟨_, ran, s.copyFailed_copying, s.copyFailed_bootRec, s.copyFailed_regsBut⟩

end Sys2Proof.Machine
end

section
/-! SUPPORT. The states of the fabric links (R280, R285, R297): what a change of one link's state writes, and what begins it. -/
namespace Sys2Proof.Machine

variable {s t u : State} {m : Master} {n k : Nat}

/-! ## Fields of a link -/

theorem linkField_plain {f : Fld} (link : n < 40) (lo : f.lo < 64) (off : 0x100 ≤ f.off ∧ f.off < 0x140) (stride : f.stride = 64) :
    isTele (fkey (linkPage n) f (n % 5)) = false := by
  obtain ⟨low, high⟩ := linkPage_range n link
  exact isTele_high lo (by omega) (by rw [stride]; omega) (by omega) (by omega)

theorem State.CountsTo.lf (counted : s.CountsTo t) {f : Fld} (link : n < 40) (lo : f.lo < 64) (off : 0x100 ≤ f.off ∧ f.off < 0x140)
    (stride : f.stride = 64) : t.lf f n = s.lf f n := counted.rdp _ _ _ (linkField_plain link lo off stride)

theorem State.CountsTo.lstate (counted : s.CountsTo t) (link : n < 40) : t.lstate n = s.lstate n :=
  counted.lf link (by decide) (by decide) rfl

theorem State.CountsTo.linkAllowed (counted : s.CountsTo t) (link : n < 40) : t.linkAllowed n = s.linkAllowed n := by
  rw [State.linkAllowed, counted.lf link (by decide) (by decide) rfl, counted.lf link (by decide) (by decide) rfl, counted.pins, counted.runs,
    State.domainUp, counted.pwr, State.linkAllowed, State.domainUp]

/-- The link of a number is the only one with its state field. -/
theorem stateField_ne (other : k ≠ n) : fkey (linkPage n) Reg.FLK_STAT_STATE (n % 5) ≠ fkey (linkPage k) Reg.FLK_STAT_STATE (k % 5) := by
  simp only [fkey, linkPage, Reg.FLK_STAT_STATE]
  omega

/-- Only the enable of a link changes with it. -/
theorem State.lstate_enable (s : State) (n v k : Nat) : (s.wlf Reg.FLK_CTL_EN n v).lstate k = s.lstate k := by
  refine State.rdp_wrp_ne ?_
  simp only [fkey, linkPage, Reg.FLK_CTL_EN, Reg.FLK_STAT_STATE]
  omega

theorem State.linkAllowed_disabled (s : State) (n : Nat) : (s.wlf Reg.FLK_CTL_EN n 0).linkAllowed n = false := by
  have off : (s.wlf Reg.FLK_CTL_EN n 0).lf Reg.FLK_CTL_EN n = 0 := State.rdp_wrp_same _ _ _ _ 0
  simp [State.linkAllowed, off]

/-! ## A change of state -/

/-- The registers that a change of a link's state writes: the state, and the event of a link that leaves UP (R285, R297). -/
def linkKeys (n : Nat) : List Nat := [fkey (linkPage n) Reg.FLK_STAT_STATE (n % 5), fkey (linkPage n) Reg.EVT_STAT_EVT 0]

theorem State.setLink_regs (s : State) (n : Nat) (x : LinkSt) : (s.setLink n x).regs = s.regs := rfl

theorem State.linkTo_regsBut (s : State) (n st : Nat) : s.RegsBut (linkKeys n) (s.linkTo n st) := by
  have set : ∀ x, s.RegsBut (linkKeys n) (s.setLink n x) := fun x => State.RegsBut.of_regs (s.setLink_regs n x)
  exact (((set _).evt (by simp [linkKeys])).ite ((set _).ite (set _))).wrp st (by simp [linkKeys])

theorem State.lstate_linkTo_same {st : Nat} (code : st < 8) (s : State) (n : Nat) : (s.linkTo n st).lstate n = st :=
  (State.rdp_wrp_same _ _ _ _ _).trans (Nat.mod_eq_of_lt code)

theorem State.lstate_linkTo_other (link : k < 40) (other : k ≠ n) (s : State) (st : Nat) : (s.linkTo n st).lstate k = s.lstate k := by
  refine (s.linkTo_regsBut n st).lookup (linkField_plain link (by decide) (by decide) rfl) ?_
  rw [linkKeys, List.mem_cons, List.mem_singleton, not_or]
  refine ⟨(stateField_ne other).symm, ?_⟩
  simp only [fkey, linkPage, Reg.EVT_STAT_EVT, Reg.FLK_STAT_STATE]
  omega

/-- Link n takes a state, and every other link keeps its own. -/
structure State.LinkTakes (n st : Nat) (s t : State) : Prop where
  own : t.lstate n = st
  others : ∀ k, k < 40 → k ≠ n → t.lstate k = s.lstate k

theorem State.linkTo_takes {st : Nat} (code : st < 8) (s : State) (n : Nat) : State.LinkTakes n st s (s.linkTo n st) :=
  ⟨State.lstate_linkTo_same code s n, fun _ link other => State.lstate_linkTo_other link other s st⟩

theorem State.LinkTakes.after {st : Nat} (same : ∀ k, k < 40 → u.lstate k = s.lstate k) (takes : State.LinkTakes n st u t) :
    State.LinkTakes n st s t :=
  ⟨takes.own, fun k link other => (takes.others k link other).trans (same k link)⟩

theorem State.lstate_linkLoss (link : k < 40) (s : State) : (s.linkLoss n).lstate k = s.lstate k := by
  have page := linkPage_range k link
  refine State.trb_rdp _ _ _ _ _ _ (linkField_plain link (by decide) (by decide) rfl) (trbKey_ne (by omega) (by decide) ?_ ?_)
  · simp only [Reg.FLK_STAT_STATE]; omega
  · simp only [Reg.FLK_STAT_STATE]; omega

theorem State.LinkTakes.linkLoss {st : Nat} (link : n < 40) (takes : State.LinkTakes n st s t) : State.LinkTakes n st s (t.linkLoss n) :=
  ⟨(State.lstate_linkLoss link t).trans takes.own,
    fun k other apart => (State.lstate_linkLoss other t).trans (takes.others k other apart)⟩

/-! ## What begins it -/

theorem exec_linkEnable_ok (link : n < 40) (reach : s.access m (linkPage n) (0x100 + 64 * (n % 5)) 4 true = .ok) (en : Bool) :
    ∃ u, s.CountsTo u ∧ exec (.linkEnable m n en) s = .next ((u.wlf Reg.FLK_CTL_EN n (b01 en)).linkSettle n) := by
  obtain ⟨u, counted, ran⟩ := State.onWrite_ok reach (fun t => (t.wlf Reg.FLK_CTL_EN n (b01 en)).linkSettle n)
  exact ⟨u, counted, congrArg Host.Outcome.next ((if_pos link).trans ran)⟩

theorem State.linkSettle_begins (allowed : s.linkAllowed n = true) (off : s.lstate n = 0) : s.linkSettle n = s.linkTo n 1 :=
  (if_pos allowed).trans (if_pos off)

theorem State.linkSettle_ends (refused : s.linkAllowed n = false) (on : s.lstate n ≠ 0) : s.linkSettle n = s.linkTo n 0 :=
  (if_neg (by simp [refused])).trans (if_neg on)

theorem exec_linkRestart_ok (link : n < 40) (reach : s.access m (linkPage n) (0x100 + 64 * (n % 5)) 4 true = .ok) (on : s.lstate n ≠ 0) :
    ∃ u, s.CountsTo u ∧ exec (.linkRestart m n) s = .next (u.linkTo n 1) := by
  obtain ⟨u, counted, ran⟩ := State.onWrite_ok reach (fun t => t.linkRestart n)
  have on : ¬ u.lstate n = 0 := by rwa [counted.lstate link]
  exact ⟨u, counted, congrArg Host.Outcome.next ((if_pos link).trans (ran.trans (if_neg on)))⟩

theorem exec_linkAligned_training (link : n < 40) (training : s.lstate n = 1) (reference : s.pins.sdref.getLsbD (4 + n / 10) = true) :
    exec (.linkAligned n) s = .next (s.linkTo n 2) := congrArg Host.Outcome.next (if_pos ⟨link, training, reference⟩)

theorem exec_linkTrainTimeout_training (link : n < 40) (training : s.lstate n = 1) : exec (.linkTrainTimeout n) s = .next (s.linkLoss n) :=
  congrArg Host.Outcome.next (if_pos ⟨link, training⟩)

theorem exec_linkAlignLoss_aligned (link : n < 40) (aligned : s.lstate n = 2 ∨ s.lstate n = 3) :
    exec (.linkAlignLoss n) s = .next ((s.linkTo n 1).linkLoss n) := congrArg Host.Outcome.next ((if_pos link).trans (if_pos aligned))

theorem exec_helloTimeout_up (link : n < 40) (up : s.lstate n = 3) (silent : (s.link n).helloAt + 500000 ≤ s.ns) :
    exec (.helloTimeout n) s = .next ((s.linkTo n 2).linkLoss n) :=
  congrArg Host.Outcome.next (if_pos ⟨by rw [State.linkIsUp, decide_eq_true link, up]; rfl, silent⟩)

/-- Settles O33: each row of the table is one change of the link's own state. -/
theorem linkStatesFollowTheTable : Obligations.LinkStatesFollowTheTable := by
  refine fun s m n link => ⟨fun reach => ⟨fun allowed off => ?enable, fun on => ?disable, fun on => ?restart⟩,
    fun training reference => ?aligned, fun training => ?timeout, fun aligned => ?loss, fun up silent => ?silent⟩
  case enable =>
    obtain ⟨u, counted, ran⟩ := exec_linkEnable_ok link reach true
    have allowed : (u.wlf Reg.FLK_CTL_EN n 1).linkAllowed n = true := ((counted.wrp _ _ _ 1).linkAllowed link).trans allowed
    have same : ∀ k, k < 40 → (u.wlf Reg.FLK_CTL_EN n 1).lstate k = s.lstate k := fun k other =>
      (u.lstate_enable n 1 k).trans (counted.lstate other)
    obtain ⟨own, others⟩ := (State.linkTo_takes (st := 1) (by decide) (u.wlf Reg.FLK_CTL_EN n 1) n).after same
    rw [show b01 true = 1 from rfl, State.linkSettle_begins allowed ((same n link).trans off)] at ran
    exact ⟨_, ran, own, others⟩
  case disable =>
    obtain ⟨u, counted, ran⟩ := exec_linkEnable_ok link reach false
    have same : ∀ k, k < 40 → (u.wlf Reg.FLK_CTL_EN n 0).lstate k = s.lstate k := fun k other =>
      (u.lstate_enable n 0 k).trans (counted.lstate other)
    obtain ⟨own, others⟩ := (State.linkTo_takes (st := 0) (by decide) (u.wlf Reg.FLK_CTL_EN n 0) n).after same
    rw [show b01 false = 0 from rfl, State.linkSettle_ends (u.linkAllowed_disabled n) (by rwa [same n link])] at ran
    exact ⟨_, ran, own, others⟩
  case restart =>
    obtain ⟨u, counted, ran⟩ := exec_linkRestart_ok link reach on
    obtain ⟨own, others⟩ := (State.linkTo_takes (st := 1) (by decide) u n).after fun k other => counted.lstate other
    exact ⟨_, ran, own, others⟩
  case aligned =>
    obtain ⟨own, others⟩ := State.linkTo_takes (st := 2) (by decide) s n
    exact ⟨_, exec_linkAligned_training link training reference, own, others⟩
  case timeout => exact ⟨_, exec_linkTrainTimeout_training link training, State.trb_counts _ _ _⟩
  case loss =>
    obtain ⟨own, others⟩ := (State.linkTo_takes (st := 1) (by decide) s n).linkLoss link
    exact ⟨_, exec_linkAlignLoss_aligned link aligned, own, others⟩
  case silent =>
    obtain ⟨own, others⟩ := (State.linkTo_takes (st := 2) (by decide) s n).linkLoss link
    exact ⟨_, exec_helloTimeout_up link up silent, own, others⟩

end Sys2Proof.Machine
end

section
/-! SUPPORT. The gates of a port (R261, R266 to R272): what settling them leaves, and the events that settle them. -/
namespace Sys2Proof.Machine

variable {s t u : State} {m : Master} {p q : Nat}

/-! ## The gates of a port -/

@[simp] theorem State.gate_setGate_same (s : State) (p : Nat) (g : GatePort) : (s.setGate p g).gate p = g := SMap.get_set_same _ _ _ _

theorem State.gate_setGate_other (other : q ≠ p) (s : State) (g : GatePort) : (s.setGate p g).gate q = s.gate q := SMap.get_set_ne other.symm

theorem State.gate_congr (same : t.gates = s.gates) (p : Nat) : t.gate p = s.gate p := by rw [State.gate, same, State.gate]

/-- Port p has gates as given, and every other port keeps its own. -/
structure State.GateTakes (p : Nat) (g : GatePort) (s t : State) : Prop where
  own : t.gate p = g
  others : ∀ q, q ≠ p → t.gate q = s.gate q

theorem State.setGate_takes (s : State) (p : Nat) (g : GatePort) : State.GateTakes p g s (s.setGate p g) :=
  ⟨s.gate_setGate_same p g, fun _ other => State.gate_setGate_other other s g⟩

theorem State.GateTakes.of_gates {g : GatePort} (takes : State.GateTakes p g s t) (same : u.gates = t.gates) : State.GateTakes p g s u :=
  ⟨(State.gate_congr same p).trans takes.own, fun q other => (State.gate_congr same q).trans (takes.others q other)⟩

/-! ## Settling -/

theorem bitN_foldl_setBit (f : Nat → Bool) (n k : Nat) (below : k < n) : bitN ((List.range n).foldl (fun v c => setBit v c (f c)) 0) k = b01 (f k) := by
  induction n with
  | zero => exact absurd below (Nat.not_lt_zero k)
  | succ n ih =>
    rw [List.range_succ, List.foldl_append, List.foldl_cons, List.foldl_nil]
    by_cases last : k = n
    · subst last
      rw [← bitN_mod _ k (k + 1) below, bitN_setBit_same _ _ (k + 1) _ below]
    · rw [← bitN_mod _ k (n + 1) below, bitN_setBit_other _ _ _ (n + 1) _ below last]
      exact ih (by omega)

/-- The states that the mechanisms of a port's classes give. -/
def State.gateTargets (s : State) (p : Nat) : BitVec 8 :=
  BitVec.ofNat 8 ((List.range 8).foldl (fun v c => setBit v c (s.gateTarget p c)) 0)

theorem State.gateTargets_bit {c : Nat} (cls : c < 8) (s : State) (p : Nat) : (s.gateTargets p).getLsbD c = s.gateTarget p c := by
  have bit := bitN_foldl_setBit (s.gateTarget p) 8 c cls
  rw [State.gateTargets, BitVec.getLsbD_ofNat, decide_eq_true cls, Bool.true_and, Nat.testBit_eq_decide_div_mod_eq, ← bitN, bit]
  cases s.gateTarget p c <;> rfl

/-- The gates of a port with other states. -/
def GatePort.opened (g : GatePort) (v : BitVec 8) : GatePort := { g with open_ := v }

theorem State.gateRefresh_eq (s : State) (p : Nat) : s.gateRefresh p = s.setGate p ((s.gate p).opened (s.gateTargets p)) := rfl

theorem State.gateRefresh_takes (s : State) (p : Nat) : State.GateTakes p ((s.gate p).opened (s.gateTargets p)) s (s.gateRefresh p) :=
  s.setGate_takes p _

/-- The state that a class's mechanism gives its gate, where the gate has state `held` now: a list in CYC_HOLD keeps it (R261, R267). -/
def State.gateGiven (s : State) (p c : Nat) (held : Bool) : Bool :=
  if s.cycGoverns p c then
    if (s.gate p).fault || !s.cycPresent p then true
    else if (s.gate p).start.isSome then held else bitN ((s.cyc p).active.body.gatesAt s.ns) c == 1
  else if s.ttGoverns p c then bitN (s.gate p).ttState c == 1
  else true

theorem State.gateTarget_eq (s : State) (p c : Nat) : s.gateTarget p c = s.gateGiven p c ((s.gate p).open_.getLsbD c) := rfl

theorem State.gateGiven_again (s : State) (p c : Nat) (held : Bool) : s.gateGiven p c (s.gateGiven p c held) = s.gateGiven p c held := by
  unfold State.gateGiven
  split
  · split
    · rfl
    · split <;> rfl
  · rfl

theorem State.gateGiven_setGate (s : State) (p c : Nat) (v : BitVec 8) (held : Bool) :
    (s.setGate p ((s.gate p).opened v)).gateGiven p c held = s.gateGiven p c held := by
  rw [State.gateGiven, State.gate_setGate_same]
  rfl

theorem State.gateRefresh_settled (s : State) (p : Nat) : (s.gateRefresh p).gatesSettled p := by
  intro c cls
  have bit : (s.gateTargets p).getLsbD c = s.gateTarget p c := State.gateTargets_bit cls s p
  have opened : ((s.gateRefresh p).gate p).open_.getLsbD c = s.gateTarget p c := by rw [(s.gateRefresh_takes p).own]; exact bit
  rw [State.gateTarget_eq (s.gateRefresh p), opened, State.gateRefresh_eq, State.gateGiven_setGate, State.gateTarget_eq,
    State.gateGiven_again]

/-- A port has gates as given but for the states of its gates, which are settled, and every other port keeps its own. -/
structure State.GateSettles (p : Nat) (g : GatePort) (s t : State) : Prop where
  settled : t.gatesSettled p
  own : t.gate p = g.opened (t.gate p).open_
  others : ∀ q, q ≠ p → t.gate q = s.gate q

theorem State.GateTakes.refresh {g : GatePort} (takes : State.GateTakes p g s t) : State.GateSettles p g s (t.gateRefresh p) where
  settled := t.gateRefresh_settled p
  own := by
    rw [(t.gateRefresh_takes p).own, takes.own]
    rfl
  others q other := ((t.gateRefresh_takes p).others q other).trans (takes.others q other)

theorem State.GateSettles.of_gates {g : GatePort} (settles : State.GateSettles p g s t) (same : u.gates = t.gates) :
    u.gate p = g.opened (u.gate p).open_ ∧ ∀ q, q ≠ p → u.gate q = s.gate q := by
  rw [State.gate_congr same]
  exact ⟨settles.own, fun q other => (State.gate_congr same q).trans (settles.others q other)⟩

theorem State.gateRefresh_settles (s : State) (p : Nat) : State.GateSettles p (s.gate p) s (s.gateRefresh p) :=
  State.GateTakes.refresh ⟨rfl, fun _ _ => rfl⟩

/-! ## Cyclic lists -/

/-- A list stops at a fault, which is shown and reported (R272). -/
def State.listStopped (s : State) (p : Nat) : State :=
  ((s.setGate p { s.gate p with fault := true, running := false }).wri Reg.GATE_STAT_p_CYC_FAULT p 1).parityError 0x56 7 1

theorem State.listStopped_takes (s : State) (p : Nat) : State.GateTakes p { s.gate p with fault := true, running := false } s (s.listStopped p) :=
  (s.setGate_takes p _).of_gates (by
    rw [State.listStopped, State.of_but_gates (State.parityError_but (u := 3238002689) (by decide) _ _ _ _) (by decide), State.wri_gates])

section
variable (port : p < 160) (running : (s.gate p).running = true) (sound : (s.gate p).fault = false)
include port running sound

theorem exec_gateEntryChange_read {f : MemFinding} (read : f ≠ .uncorrectable) : exec (.gateEntryChange p f) s = .next (s.gateRefresh p) := by
  refine congrArg Host.Outcome.next ((if_pos ⟨port, running, by simp [sound]⟩).trans ?_)
  cases f with
  | uncorrectable => exact absurd rfl read
  | clean => rfl
  | onDie => rfl
  | corrected bit => rfl

theorem exec_gateEntryChange_fault : exec (.gateEntryChange p .uncorrectable) s = .next ((s.listStopped p).gateRefresh p) :=
  congrArg Host.Outcome.next (if_pos ⟨port, running, by simp [sound]⟩)

end

theorem exec_cyclicListStart_due {at_ : Nat} (port : p < 160) (start : (s.gate p).start = some at_) (due : at_ ≤ s.ns) :
    exec (.cyclicListStart p) s = .next ((s.setGate p { s.gate p with start := none, running := true }).gateRefresh p) := by
  refine congrArg Host.Outcome.next ?_
  simp only [start]
  exact if_pos ⟨port, due⟩

/-! ## Timetables -/

variable {tt : Timetable} {e : Nat × Nat}

/-- The gates of a port that a pending timetable takes over (R270). -/
def GatePort.takenOver (g : GatePort) (tt : Timetable) : GatePort :=
  { g with ttActive := some tt, ttPending := none, ttNext := 0, ttState := if tt.entries.isEmpty then 0xFF else tt.initial,
           ttOnDie := min 64 tt.entries.length }

theorem exec_timetableTakeover_due (port : p < 160) (pending : (s.gate p).ttPending = some tt) (due : tt.takeover ≤ s.ns) :
    exec (.timetableTakeover p) s = .next ((s.setGate p ((s.gate p).takenOver tt)).gateRefresh p) := by
  refine congrArg Host.Outcome.next ((if_pos port).trans ?_)
  rw [State.ttTake, pending]
  exact if_pos due

/-- The gates of a port past a timetable entry, which gives a state where its read did not fail (R270, R272). -/
def GatePort.passed (g : GatePort) (v : Nat) : GatePort := { g with ttNext := g.ttNext + 1, ttState := v }

theorem State.ttStep_due (active : (s.gate p).ttActive = some tt) (entry : tt.entries[(s.gate p).ttNext]? = some e) (due : e.1 ≤ s.ns) (ok : Bool) :
    s.ttStep p ok = (s.setGate p ((s.gate p).passed (if ok then e.2 else (s.gate p).ttState))).gateRefresh p := by
  rw [State.ttStep]
  simp only [active, entry]
  rw [if_pos due, GatePort.passed, active]

theorem exec_timetableEntry_read (port : p < 160) {f : MemFinding} (read : f ≠ .uncorrectable) :
    exec (.timetableEntry p f) s = .next (s.ttStep p true) := by
  refine congrArg Host.Outcome.next ((if_pos port).trans ?_)
  cases f with
  | uncorrectable => exact absurd rfl read
  | clean => rfl
  | onDie => rfl
  | corrected bit => rfl

theorem exec_timetableEntry_failed (port : p < 160) (moves : ((s.ttStep p false).gate p).ttNext ≠ (s.gate p).ttNext) :
    exec (.timetableEntry p .uncorrectable) s = .next ((s.ttStep p false).parityError 0x56 7 2) :=
  congrArg Host.Outcome.next ((if_pos port).trans (if_neg moves))

/-- The gates of a port with the next 64 timetable entries on die (R272). -/
def State.fetchedGate (s : State) (p : Nat) (tt : Timetable) : GatePort :=
  { s.gate p with ttOnDie := min ((s.gate p).ttNext + 64) tt.entries.length }

/-- The next 64 timetable entries have been read from HBM (R272). -/
def State.fetched (s : State) (p : Nat) (tt : Timetable) : State :=
  (s.setGate p (s.fetchedGate p tt)).drqAccess 5 (0x0066000000 + p * 0x40000 + 16 * max (s.gate p).ttOnDie (s.gate p).ttNext)
    (16 * (min ((s.gate p).ttNext + 64) tt.entries.length - max (s.gate p).ttOnDie (s.gate p).ttNext)) false

theorem exec_timetableFetch_active (port : p < 160) (active : (s.gate p).ttActive = some tt) :
    exec (.timetableFetch p) s = .next (s.fetched p tt) := by
  refine congrArg Host.Outcome.next ?_
  simp only [active]
  rw [if_pos port, State.fetched, State.fetchedGate, active]

theorem State.fetched_takes (s : State) (p : Nat) (tt : Timetable) : State.GateTakes p (s.fetchedGate p tt) s (s.fetched p tt) :=
  (s.setGate_takes p _).of_gates (State.of_but_gates (State.drqAccess_but (u := 2164391937) (by decide) _ _ _ _ _) (by decide))

/-! ## Cancels -/

theorem exec_gateTtCancel_ok (reach : s.access m 0x56 0x100 4 true = .ok) (p : Nat) :
    ∃ u, s.CountsTo u ∧ exec (.gateTtCancel m p) s = .next (u.ttCancel p) := by
  obtain ⟨u, counted, ran⟩ := State.onWrite_ok reach (fun t => t.ttCancel p)
  exact ⟨u, counted, congrArg Host.Outcome.next ran⟩

/-- The result of a cancel names its port (R269). -/
def State.cancelNamed (s : State) (p : Nat) : State := s.wr Reg.GATE_TT_RESULT_PORT p

theorem State.cancelNamed_epoch (s : State) (p : Nat) : (s.cancelNamed p).epoch = s.epoch := State.wr_epoch s _ p (by decide)

theorem State.cancelNamed_gate (s : State) (p q : Nat) : (s.cancelNamed p).gate q = s.gate q := State.gate_congr (State.wr_gates _ _ _) q

/-- A pending timetable is withdrawn (R269). -/
def State.withdrawn (s : State) (p : Nat) : State :=
  ((s.cancelNamed p).setGate p { s.gate p with ttPending := none }).wr Reg.GATE_TT_RESULT_STATUS 1

/-- A cancel that finds nothing to withdraw (R269). -/
def State.cancelFailed (s : State) (p : Nat) : State := (s.cancelNamed p).wr Reg.GATE_TT_RESULT_STATUS 2

/-- A pending timetable still has more than an epoch to its takeover (R269). -/
def State.cancelEarly (s : State) (p : Nat) : Bool :=
  match (s.gate p).ttPending with
  | some tt => decide (s.epoch + 1 < tt.takeover / 125000)
  | none => false

theorem State.ttCancel_eq (s : State) (p : Nat) : s.ttCancel p =
    if (decide (p < 160) && (s.cancelNamed p).cancelEarly p) = true then
      ((s.cancelNamed p).setGate p { (s.cancelNamed p).gate p with ttPending := none }).wr Reg.GATE_TT_RESULT_STATUS 1
    else (s.cancelNamed p).wr Reg.GATE_TT_RESULT_STATUS 2 := rfl

theorem State.cancelNamed_early (s : State) (p : Nat) : (s.cancelNamed p).cancelEarly p = s.cancelEarly p := by
  rw [State.cancelEarly, s.cancelNamed_gate, s.cancelNamed_epoch, State.cancelEarly]

theorem State.ttCancel_of_early (port : p < 160) (early : s.cancelEarly p = true) : s.ttCancel p = s.withdrawn p := by
  rw [State.ttCancel_eq, s.cancelNamed_early, if_pos (by simp [port, early]), s.cancelNamed_gate, State.withdrawn]

theorem State.ttCancel_of_late (late : s.cancelEarly p = false) : s.ttCancel p = s.cancelFailed p := by
  rw [State.ttCancel_eq, s.cancelNamed_early, if_neg (by simp [late]), State.cancelFailed]

theorem State.withdrawn_takes (s : State) (p : Nat) : State.GateTakes p { s.gate p with ttPending := none } s (s.withdrawn p) := by
  have set := (s.cancelNamed p).setGate_takes p { s.gate p with ttPending := none }
  have same : (s.withdrawn p).gates = ((s.cancelNamed p).setGate p { s.gate p with ttPending := none }).gates := State.wr_gates _ _ _
  obtain ⟨own, others⟩ := set.of_gates same
  exact ⟨own, fun q other => (others q other).trans (s.cancelNamed_gate p q)⟩

theorem State.cancelFailed_gate (s : State) (p q : Nat) : (s.cancelFailed p).gate q = s.gate q :=
  (State.gate_congr (State.wr_gates _ _ _) q).trans (s.cancelNamed_gate p q)

theorem State.cancelNamed_port (port : p < 160) (s : State) : (s.cancelNamed p).rd Reg.GATE_TT_RESULT_PORT = p :=
  (State.rd_wr_same _ _ _).trans (Nat.mod_eq_of_lt (show p < 2 ^ 8 by omega))

theorem State.ttCancel_port (port : p < 160) (s : State) : (s.ttCancel p).rd Reg.GATE_TT_RESULT_PORT = p := by
  cases early : s.cancelEarly p
  · rw [State.ttCancel_of_late early, State.cancelFailed, State.rd_wr_ne (by decide), State.cancelNamed_port port]
  · rw [State.ttCancel_of_early port early, State.withdrawn, State.rd_wr_ne (by decide)]
    exact State.cancelNamed_port port s

theorem State.ttCancel_others (port : p < 160) (other : q ≠ p) (s : State) : (s.ttCancel p).gate q = s.gate q := by
  cases early : s.cancelEarly p
  · rw [State.ttCancel_of_late early, s.cancelFailed_gate]
  · rw [State.ttCancel_of_early port early, (s.withdrawn_takes p).others q other]

/-- Settles O27: each event puts the gates of its port and settles them, and a cancel withdraws what is still early. -/
theorem gatesFollowListsAndTimetables : Obligations.GatesFollowListsAndTimetables := by
  refine ⟨fun s p port => ⟨fun f running sound read => ?change, fun running sound => ?fault, fun at_ start due => ?start⟩,
    fun s p port => ⟨fun tt pending due => ?takeover, fun tt e active entry due => ⟨fun f read => ?entry, ?failed⟩, fun tt active => ?fetch,
      fun m reach => ?cancel⟩⟩
  case change =>
    obtain ⟨settled, own, others⟩ := s.gateRefresh_settles p
    exact ⟨_, exec_gateEntryChange_read port running sound read, settled, own, others⟩
  case fault =>
    obtain ⟨settled, own, others⟩ := (s.listStopped_takes p).refresh
    have fault : (((s.listStopped p).gateRefresh p).gate p).fault = true := by rw [own]; rfl
    refine ⟨_, exec_gateEntryChange_fault port running sound, fault, by rw [own]; rfl, fun c cls governs => ?_, others⟩
    rw [settled c cls, State.gateTarget_eq, State.gateGiven, if_pos governs, fault, Bool.true_or, if_pos rfl]
  case start =>
    obtain ⟨settled, own, others⟩ := (s.setGate_takes p { s.gate p with start := none, running := true }).refresh
    exact ⟨_, exec_cyclicListStart_due port start due, settled, own, others⟩
  case takeover =>
    obtain ⟨settled, own, others⟩ := (s.setGate_takes p ((s.gate p).takenOver tt)).refresh
    exact ⟨_, exec_timetableTakeover_due port pending due, settled, own, others⟩
  case entry =>
    obtain ⟨settled, own, others⟩ := (s.setGate_takes p ((s.gate p).passed e.2)).refresh
    have ran := exec_timetableEntry_read port read (s := s)
    rw [State.ttStep_due active entry due, if_pos rfl] at ran
    exact ⟨_, ran, settled, own, others⟩
  case failed =>
    have step := State.ttStep_due active entry due false
    rw [if_neg Bool.false_ne_true] at step
    have settles := (s.setGate_takes p ((s.gate p).passed (s.gate p).ttState)).refresh
    rw [← step] at settles
    have moves : ((s.ttStep p false).gate p).ttNext ≠ (s.gate p).ttNext := by
      rw [settles.own]
      exact Nat.succ_ne_self _
    have kept : ((s.ttStep p false).parityError 0x56 7 2).gates = (s.ttStep p false).gates :=
      State.of_but_gates (State.parityError_but (u := 3238002689) (by decide) _ _ _ _) (by decide)
    exact ⟨_, exec_timetableEntry_failed port moves, (settles.of_gates kept).1⟩
  case fetch =>
    obtain ⟨own, others⟩ := s.fetched_takes p tt
    exact ⟨_, exec_timetableFetch_active port active, own, others⟩
  case cancel =>
    obtain ⟨u, counted, ran⟩ := exec_gateTtCancel_ok reach p
    have same : ∀ q, u.gate q = s.gate q := State.gate_congr counted.gates
    refine ⟨_, ran, State.ttCancel_port port u, fun q other => (State.ttCancel_others port other u).trans (same q),
      fun tt pending early => ?_, fun none' => ?_⟩
    · have early : u.cancelEarly p = true := by
        rw [State.cancelEarly, same, pending, counted.epoch]
        exact decide_eq_true early
      rw [State.ttCancel_of_early port early, (u.withdrawn_takes p).own, same]
      exact ⟨rfl, State.rd_wr_same _ _ 1⟩
    · have late : u.cancelEarly p = false := by rw [State.cancelEarly, same, none']
      rw [State.ttCancel_of_late late, u.cancelFailed_gate, same]
      exact ⟨rfl, State.rd_wr_same _ _ 2⟩

end Sys2Proof.Machine
end

section
/-! SUPPORT. HBM requests (R323 to R326, R335, R338): the request that issues, the ages that retire, and the scrub. -/
namespace Sys2Proof.Machine

variable {s t : State} {m : Master} {r : HbmReq} {n q pc req w : Nat}

/-! ## Issue -/

theorem State.choose_least (s : State) (pc : Nat) {l : List HbmReq} (some' : l ≠ []) :
    ∃ r ∈ l, s.choose pc l = some r ∧ ∀ x ∈ l, s.rank pc r ≤ s.rank pc x := by
  induction l with
  | nil => exact absurd rfl some'
  | cons a l ih =>
    rw [State.choose]
    by_cases last : l = []
    · subst last
      exact ⟨a, List.mem_cons_self, rfl, by simp⟩
    · obtain ⟨x, here, chosen, least⟩ := ih last
      simp only [chosen]
      by_cases first : s.rank pc a ≤ s.rank pc x
      · refine ⟨a, List.mem_cons_self, if_pos first, fun y among => ?_⟩
        rcases List.mem_cons.1 among with rfl | rest
        · exact Nat.le_refl _
        · exact first.trans (least y rest)
      · refine ⟨x, List.mem_cons_of_mem a here, if_neg first, fun y among => ?_⟩
        rcases List.mem_cons.1 among with rfl | rest
        · exact Nat.le_of_not_le first
        · exact least y rest

/-- The requests that pseudo-channel q of stack n may offer (R325). -/
def State.mayOffer (s : State) (n q : Nat) : List HbmReq := s.hbm.reqs.filter (fun r => hbmPcKey r.addr == 32 * n + q && s.offered r)

/-- Request r is issued, and its row is the one open in its bank. -/
def State.issued (s : State) (r : HbmReq) : State :=
  { s with hbm := { s.hbm with
      reqs := s.hbm.reqs.map (fun (x : HbmReq) => if x.rid = r.rid then { x with issued := true } else x)
      openRows := s.hbm.openRows.set 0 (hbmBankKey r.addr) (hbmRow r.addr + 1) } }

theorem State.issued_row (s : State) (r : HbmReq) : (s.issued r).hbm.openRows.get 0 (hbmBankKey r.addr) = hbmRow r.addr + 1 := by
  simp only [State.issued, SMap.get_set_same]

theorem exec_hbmCommandIssue (stack : n < 8) (pseudo : q < 32) (run : s.stackState n = 3) (shut : (s.stack n).window = false)
    (waits : s.mayOffer n q ≠ []) :
    ∃ r ∈ s.mayOffer n q, exec (.hbmCommandIssue n q) s = .next (s.issued r) ∧
      ∀ x ∈ s.mayOffer n q, s.rank (32 * n + q) r ≤ s.rank (32 * n + q) x := by
  obtain ⟨r, here, chosen, least⟩ := s.choose_least (32 * n + q) waits
  refine ⟨r, here, congrArg Host.Outcome.next ((if_pos ⟨stack, pseudo, run⟩).trans ?_), least⟩
  rw [State.mayOffer] at chosen
  simp only [State.issue, shut, chosen]
  rfl

theorem rid_of_find {f : HbmReq → Bool} {l : List HbmReq} (found : l.find? f = some r) (names : ∀ x, f x = true → x.rid = req) :
    r.rid = req := names r (List.find?_some found)

/-! ## Overdue requests -/

/-- Request r has counted as overdue for its port (R323). -/
def State.overdueMarked (s : State) (r : HbmReq) : State :=
  { s with hbm := { s.hbm with
      reqs := s.hbm.reqs.map (fun (x : HbmReq) => if x.rid = r.rid then { x with overdue := true } else x)
      overdueCnt := s.hbm.overdueCnt.set 0 r.port (s.hbm.overdueCnt.get 0 r.port + 1) } }

theorem State.overdueCheck_of_urgent (first : r.overdue = false) (urgent : s.urgency r = 3) :
    s.overdueCheck r = ((s.overdueMarked r).statEvent 0x68 Reg.DRQ_OVERDUE 0 1).trb 0x68 (3 + r.port) := by
  rw [State.overdueCheck, if_neg (by simp [first, urgent]), State.overdueMarked]

theorem State.overdueCheck_of_not (not : ¬ (r.overdue = false ∧ s.urgency r = 3)) : s.overdueCheck r = s := by
  rw [State.overdueCheck, if_pos]
  cases late : r.overdue
  · exact .inr fun urgent => not ⟨late, urgent⟩
  · exact .inl rfl

@[simp] theorem State.statEvent_hbm (s : State) (p : Nat) (f : Fld) (i k : Nat) : (s.statEvent p f i k).hbm = s.hbm :=
  State.of_but_hbm (State.statEvent_but (u := 2164260865) (by decide) s p f i k) (by decide)

theorem State.overdueCheck_hbm_of_urgent (first : r.overdue = false) (urgent : s.urgency r = 3) :
    (s.overdueCheck r).hbm = (s.overdueMarked r).hbm := by
  rw [State.overdueCheck_of_urgent first urgent, State.trb_hbm, State.statEvent_hbm]

theorem State.overdueCheck_hbm (s : State) (r : HbmReq) :
    ∃ l c, (s.overdueCheck r).hbm = { s.hbm with reqs := l, overdueCnt := c } := by
  by_cases due : r.overdue = false ∧ s.urgency r = 3
  · exact ⟨_, _, State.overdueCheck_hbm_of_urgent due.1 due.2⟩
  · exact ⟨_, _, by rw [State.overdueCheck_of_not due]⟩

/-- The PMU event of a statistics counter counts, and no more (R434). -/
theorem State.statEvent_counts (s : State) (p : Nat) (f : Fld) (i k : Nat) : s.CountsTo (s.statEvent p f i k) := by
  unfold State.statEvent
  dsimp only
  split
  · exact State.pmuEvent_counts _ _ _
  · exact State.CountsTo.refl _

/-- A trouble counter of DRQ does not touch device time (R31). -/
theorem State.drqTrb_ns (s : State) (k : Nat) : (s.trb 0x68 k).ns = s.ns := by
  by_cases small : k < 16
  · have governor := State.trb_rd s 0x68 k Reg.SPN_STAT_ACTIVE (by decide) (trbKey_ne small (by decide) (by decide) (by decide))
    exact State.ns_congr governor (by rw [State.trb_time]) (by rw [State.trb_time]) (by rw [State.trb_time])
  · have last : trbUsed 0x68 ≤ 16 := by decide
    have none' : s.trbCounts 0x68 k = false := by rw [State.trbCounts, decide_eq_false (by omega), Bool.false_and]
    rw [State.trb, none', if_neg Bool.false_ne_true]

theorem State.overdueMarked_ns (s : State) (r : HbmReq) : (s.overdueMarked r).ns = s.ns := rfl

theorem State.overdueCheck_ns (s : State) (r : HbmReq) : (s.overdueCheck r).ns = s.ns := by
  by_cases due : r.overdue = false ∧ s.urgency r = 3
  · rw [State.overdueCheck_of_urgent due.1 due.2, State.drqTrb_ns, (State.statEvent_counts _ _ _ _ _).ns, State.overdueMarked_ns]
  · rw [State.overdueCheck_of_not due]

theorem exec_requestOverdue (found : s.hbm.reqs.find? (fun r => r.rid == req) = some r) :
    exec (.requestOverdue req) s = .next (s.overdueCheck r) := by
  refine congrArg Host.Outcome.next ?_
  simp only [found]

theorem State.overdueMarked_count (s : State) (r : HbmReq) :
    (s.overdueMarked r).hbm.overdueCnt.get 0 r.port = s.hbm.overdueCnt.get 0 r.port + 1 := by
  simp only [State.overdueMarked, SMap.get_set_same]

theorem State.overdueMarked_reqs (s : State) (r : HbmReq) : ∀ x ∈ (s.overdueMarked r).hbm.reqs, x.rid = r.rid → x.overdue = true := by
  intro x here same
  obtain ⟨y, -, rfl⟩ := List.mem_map.1 here
  by_cases this : y.rid = r.rid
  · rw [if_pos this]
  · rw [if_neg this] at same
    exact absurd same this

/-! ## Completion -/

/-- Request r has left DRQ and its age has entered its port's maximum (R323, R338); nothing waits. -/
structure State.Retires (r : HbmReq) (s t : State) : Prop where
  gone : ∀ x ∈ t.hbm.reqs, x.rid ≠ r.rid
  age : t.hbm.latMax.get 0 r.port = max (s.hbm.latMax.get 0 r.port) ((s.ns - r.at_) % 2 ^ 32)
  waiting : t.hbm.waiting = s.hbm.waiting
  badWords : t.hbm.badWords = s.hbm.badWords

theorem State.complete_retires (s : State) (r : HbmReq) : State.Retires r s (s.complete r) := by
  obtain ⟨l, c, checked⟩ := s.overdueCheck_hbm r
  have waiting : (s.overdueCheck r).hbm.waiting = s.hbm.waiting := by rw [checked]
  have badWords : (s.overdueCheck r).hbm.badWords = s.hbm.badWords := by rw [checked]
  have latMax : (s.overdueCheck r).hbm.latMax = s.hbm.latMax := by rw [checked]
  refine ⟨fun x here => by simpa using (List.mem_filter.1 here).2, ?_, waiting, badWords⟩
  refine (SMap.get_set_same (s.overdueCheck r).hbm.latMax 0 _ r.port).trans ?_
  rw [State.overdueCheck_ns, latMax]

theorem State.with_own_waiting {l : List HbmReq} (same : l = s.hbm.waiting) : { s with hbm := { s.hbm with waiting := l } } = s := by
  subst same
  rfl

theorem State.drqSettle_of_none (none' : s.hbm.waiting = []) : s.drqSettle = s := by
  rw [State.drqSettle, none', drqAdmit, State.with_own_waiting none'.symm]

theorem State.finding_clean (s : State) (a : Nat) : s.finding a .clean = s := rfl

theorem State.trueFinding_good {a : Nat} (good : s.hbm.badWords.contains (hbmWordOf a) = false) (f : MemFinding) : s.trueFinding a f = f := by
  rw [State.trueFinding, good]
  rfl

theorem exec_hbmReadComplete_clean (none' : s.hbm.waiting = [])
    (found : s.hbm.reqs.find? (fun r => r.rid == req && r.issued && !r.write) = some r)
    (good : s.hbm.badWords.contains (hbmWordOf r.addr) = false) :
    exec (.hbmReadComplete req .clean) s = .next (s.complete r) := by
  refine congrArg Host.Outcome.next ?_
  simp only [found]
  rw [State.trueFinding_good good, State.finding_clean, if_neg (fun stomp => nomatch stomp.1),
    State.drqSettle_of_none ((s.complete_retires r).waiting.trans none')]

/-- A word holds good check bits (R326). -/
def State.wordGood (s : State) (a : Nat) : State := { s with hbm := { s.hbm with badWords := without s.hbm.badWords (hbmWordOf a) } }

/-- A pseudo-channel's write drain ends where its queue is at its low mark (R324, R338). -/
def State.drainEnds (s : State) (pc : Nat) : State :=
  if s.writesHeld pc ≤ s.wqLow then { s with hbm := { s.hbm with drain := without s.hbm.drain pc } } else s

theorem State.drainEnds_hbm (s : State) (pc : Nat) : ∃ d, (s.drainEnds pc).hbm = { s.hbm with drain := d } := by
  unfold State.drainEnds
  split
  · exact ⟨_, rfl⟩
  · exact ⟨_, rfl⟩

/-- A full write retires (R323, R326). -/
def State.wrote (s : State) (r : HbmReq) : State := ((s.complete r).wordGood r.addr).drainEnds (hbmPcKey r.addr)

theorem State.wrote_hbm (s : State) (r : HbmReq) :
    ∃ d, (s.wrote r).hbm = { (s.complete r).hbm with badWords := without (s.complete r).hbm.badWords (hbmWordOf r.addr), drain := d } := by
  obtain ⟨d, ended⟩ := ((s.complete r).wordGood r.addr).drainEnds_hbm (hbmPcKey r.addr)
  exact ⟨d, ended⟩

theorem exec_hbmWriteRetire_whole (none' : s.hbm.waiting = []) (bad : Bool)
    (found : s.hbm.reqs.find? (fun r => r.rid == req && r.issued && r.write) = some r) (whole : r.part = false) :
    exec (.hbmWriteRetire req bad) s = .next (s.wrote r) := by
  obtain ⟨d, ended⟩ := s.wrote_hbm r
  have settled : (s.wrote r).hbm.waiting = [] := by rw [ended]; exact (s.complete_retires r).waiting.trans none'
  refine congrArg Host.Outcome.next (Eq.trans ?_ (State.drqSettle_of_none settled))
  simp only [found, whole, Bool.false_eq_true, false_and, if_false]
  rfl

/-! ## The scrub and DRQ_LAT_MAX -/

/-- A scrub reads word w next (R335). -/
def State.scrubsNext (s : State) (n w : Nat) : State := { s with hbm := { s.hbm with scrubWord := s.hbm.scrubWord.set 0 n w } }

/-- A clean word w of stack n has been scrubbed: after word 7 the position moves on (R335). -/
def State.scrubbed (s : State) (n w : Nat) : State :=
  if w = 7 then (s.scrubsNext n ((w + 1) % 8)).wrp (hbmPage n) Reg.HBM_SCRUB_POS_GRANULE 0 (s.rdp (hbmPage n) Reg.HBM_SCRUB_POS_GRANULE 0 + 1)
  else s.scrubsNext n ((w + 1) % 8)

theorem State.scrubsNext_rdp (s : State) (n w p : Nat) (f : Fld) (i : Nat) : (s.scrubsNext n w).rdp p f i = s.rdp p f i := rfl

theorem State.scrubbed_scrubWord (s : State) (n w : Nat) : (s.scrubbed n w).hbm.scrubWord.get 0 n = (w + 1) % 8 := by
  unfold State.scrubbed
  split
  · exact SMap.get_set_same _ _ _ _
  · exact SMap.get_set_same _ _ _ _

theorem State.scrubbed_position (s : State) (n w : Nat) : (s.scrubbed n w).rdp (hbmPage n) Reg.HBM_SCRUB_POS_GRANULE 0 =
    if w = 7 then (s.rdp (hbmPage n) Reg.HBM_SCRUB_POS_GRANULE 0 + 1) % 2 ^ Reg.HBM_SCRUB_POS_GRANULE.width
    else s.rdp (hbmPage n) Reg.HBM_SCRUB_POS_GRANULE 0 := by
  unfold State.scrubbed
  split
  · exact State.rdp_wrp_same _ _ _ _ _
  · exact s.scrubsNext_rdp _ _ _ _ _

theorem exec_scrubRead_clean (stack : n < 8) (word : w < 8) (run : s.stackState n = 3) (on : s.rd Reg.DRQ_SCRUB_HOURS ≠ 0)
    (next : s.hbm.scrubWord.get 0 n = w)
    (good : s.hbm.badWords.contains (hbmWordOf (hbmAddr n (s.rdp (hbmPage n) Reg.HBM_SCRUB_POS_GRANULE 0 / 2 ^ 21)
      (s.rdp (hbmPage n) Reg.HBM_SCRUB_POS_GRANULE 0 % 2 ^ 21) w)) = false) :
    exec (.scrubRead n w .clean) s = .next (s.scrubbed n w) := by
  refine congrArg Host.Outcome.next ?_
  simp only [next]
  rw [if_pos ⟨stack, run, on, Nat.mod_eq_of_lt word⟩, State.trueFinding_good good, State.finding_clean, State.scrubbed, State.scrubsNext]

/-- The largest age of the port that DRQ_SEL names is cleared (R338). -/
def State.latMaxCleared (s : State) : State :=
  { s with hbm := { s.hbm with latMax := s.hbm.latMax.set 0 (s.rd Reg.DRQ_SEL_PORT) 0 } }

theorem State.latMaxCleared_port (s : State) : s.latMaxCleared.hbm.latMax.get 0 (s.rd Reg.DRQ_SEL_PORT) = 0 := by
  simp only [State.latMaxCleared, SMap.get_set_same]

theorem exec_drqLatMaxRead_ok (reach : s.access m 0x68 0x130 4 false = .ok) :
    ∃ u, s.CountsTo u ∧ exec (.drqLatMaxRead m) s =
      .next (u.latMaxCleared.emit (.readData m (u.hbm.latMax.get 0 (u.rd Reg.DRQ_SEL_PORT) % 2 ^ 32))) := by
  obtain ⟨u, counted, ran⟩ := State.onRead_ok reach (fun t => (t.hbm.latMax.get 0 (t.rd Reg.DRQ_SEL_PORT), t.latMaxCleared))
  exact ⟨u, counted, congrArg Host.Outcome.next ran⟩

/-- Settles O40: the request that issues, what a completion and a retirement leave, and the overdue, scrub and DRQ_LAT_MAX cases. -/
theorem hbmRequestsIssueAndRetire : Obligations.HbmRequestsIssueAndRetire := by
  unfold Obligations.HbmRequestsIssueAndRetire
  intro s
  refine ⟨?issue, ?read, ?write, ?overdue, ?scrub, ?latMax⟩
  case issue =>
    intro n q stack pseudo run shut waits
    obtain ⟨r, here, ran, least⟩ := exec_hbmCommandIssue stack pseudo run shut waits
    exact ⟨_, r, here, ran, least, rfl, s.issued_row r, rfl⟩
  case read =>
    intro req r none' found good
    have named : r.rid = req := rid_of_find found fun x fits => by
      rw [Bool.and_eq_true, Bool.and_eq_true, beq_iff_eq] at fits
      exact fits.1.1
    have retires := s.complete_retires r
    exact ⟨_, exec_hbmReadComplete_clean none' found good, named ▸ retires.gone, retires.age⟩
  case write =>
    intro req r bad none' found whole
    have named : r.rid = req := rid_of_find found fun x fits => by
      rw [Bool.and_eq_true, Bool.and_eq_true, beq_iff_eq] at fits
      exact fits.1.1
    have retires := s.complete_retires r
    obtain ⟨d, wrote⟩ := s.wrote_hbm r
    refine ⟨_, exec_hbmWriteRetire_whole none' bad found whole, ?_⟩
    rw [wrote]
    exact ⟨named ▸ retires.gone, by rw [retires.badWords], retires.age⟩
  case overdue =>
    intro req r found first urgent
    have named : r.rid = req := rid_of_find found fun x fits => by simpa using fits
    refine ⟨_, exec_requestOverdue found, ?_⟩
    rw [State.overdueCheck_hbm_of_urgent first urgent]
    exact ⟨s.overdueMarked_count r, named ▸ s.overdueMarked_reqs r⟩
  case scrub =>
    intro n w stack word run on next good
    exact ⟨_, exec_scrubRead_clean stack word run on next good, s.scrubbed_scrubWord n w, s.scrubbed_position n w⟩
  case latMax =>
    intro m reach
    obtain ⟨u, counted, ran⟩ := exec_drqLatMaxRead_ok reach
    have port : u.rd Reg.DRQ_SEL_PORT = s.rd Reg.DRQ_SEL_PORT := counted.rd _ (by decide)
    refine ⟨_, ran, ?_, ?_⟩
    · rw [State.emit_hbm, ← port]
      exact u.latMaxCleared_port
    · rw [← port, ← counted.hbm]
      exact State.mem_outbox_emit _ _

end Sys2Proof.Machine
end
